-- ==== Sys2Proof/Word.lean ====
section
/-!
DEFINITION. The word types of the model and their plainest arithmetic.
-/

namespace Sys2Proof

/-- One byte, the unit in which the pool is addressed (R41). -/
abbrev Byte := BitVec 8

/-- One register word (R9). -/
abbrev Word32 := BitVec 32

/-- One 64-bit quantity: a signal word, a body word of a frame, a time base (R10, R432). -/
abbrev Word64 := BitVec 64

end Sys2Proof
end

