-- ==== Sys2Proof/Syntax.lean ====
section
/-!
DEFINITION. The commands of the module: one constructor per row of the opcode table, and the data
they carry. A management command carries the session slot and the TAG it came with, and the words
of its request in the order of the catalogue. A fabric message is carried with the port it came
through.
-/

namespace Sys2Proof

/-- One fabric message: the header of R342 and its data slots. -/
structure Msg where
  opcode : BitVec 8
  vc : BitVec 2
  akind : BitVec 2
  dslots : BitVec 5
  poison : Bool
  retry : Bool
  adapt : Bool
  hops : BitVec 4
  status : BitVec 4
  xf : BitVec 4
  cause : BitVec 8
  lvl : Bool
  context : BitVec 14
  dst : BitVec 17
  src : BitVec 17
  reqid : BitVec 24
  addr : BitVec 52
  arg : BitVec 64
  data : List Byte
  deriving DecidableEq, Repr

/-- A target of a write-1-to-clear write (R14): a register of the map, or one of the two PMBus status
bytes (R545). -/
inductive W1cTarget where
  | register (addr : Nat)
  | statusInput
  | statusTemperature
  deriving DecidableEq, Repr

/-- The atomic instructions of the A extension (R422). -/
inductive Amo where
  | lr
  | sc
  | swap
  | add
  | xor
  | and
  | or
  | min
  | max
  | minu
  | maxu
  deriving DecidableEq, Repr

/-- One X.509 certificate of a chain: its DER bytes and validity period, in ns of the time base. -/
structure Cert where
  der : List Byte
  notBefore : Nat
  notAfter : Nat
  deriving DecidableEq, Repr

/-- A DTLS handshake as it arrives (R426): port, UDP port, whether the client offers the suite, the
group and the signature scheme of the table, and the client's chain, leaf first. -/
structure DtlsHello where
  port : Nat
  udp : Nat
  suite : Bool
  group : Bool
  scheme : Bool
  chain : List Cert
  deriving DecidableEq, Repr

/-- A RoCEv2 packet (R400 to R406): transport opcode of the InfiniBand RC class, queue pair, PSN, the
acknowledge request bit, the RETH or AtomicETH fields, ECN CE, whether the invariant CRC is good. -/
structure RocePkt where
  opcode : Nat
  qp : Nat
  psn : Nat
  ackReq : Bool
  va : Nat
  rkey : Word32
  len : Nat
  swapAdd : Word64
  compare : Word64
  payload : List Byte
  ce : Bool
  icrcGood : Bool
  deriving DecidableEq, Repr

/-- A PTP message (R408) with its time stamps: kind 0 Sync, 1 Follow_Up, 2 Delay_Req, 3 Delay_Resp,
4 Announce. -/
structure PtpMsg where
  kind : Nat
  domain : Nat
  twoStep : Bool
  origin : Nat
  arrival : Nat
  /-- The priority word of an Announce: lower is better. -/
  quality : Nat
  deriving DecidableEq, Repr

/-- Why a frame is discarded on arrival (R397, R399). -/
inductive EthDiscard where
  | tooLong
  | unsupported
  | udpPort
  | badFcs
  | bufferFull
  deriving DecidableEq, Repr

/-- Whose gate list moves on (R416, R498). -/
inductive GateSite where
  | ethPort (port : Nat)
  | dies
  deriving DecidableEq, Repr

/-- An error as it reaches the Buttress (R471). during: the slot of the record in whose reaction the
unit met it (R474). -/
structure ErrIn where
  cls : Nat
  unit : Nat
  inst : Nat
  location : Nat
  detail : Nat
  tenant : Option Nat
  during : Option Nat
  deriving DecidableEq, Repr

/-- The commands of the module, one per row of the opcode table. -/
inductive Instr where
  /-- REGISTER_WRITE (R14): A 32-bit write to a register that has no row of its own sets the RW fields, ignores RO fields, and ignores narrower writes. -/
  | registerWrite (master : Nat) (addr : Nat) (size : Nat) (value : Word32)
  /-- SET_ADDRESS_WRITE (R12): Writing 1s to the SET address of a mask or pending register sets those bits. -/
  | setAddressWrite (master : Nat) (addr : Nat) (value : Word32)
  /-- CLR_ADDRESS_WRITE (R12): Writing 1s to the CLR address of a mask or pending register clears those bits. -/
  | clrAddressWrite (master : Nat) (addr : Nat) (value : Word32)
  /-- W1C_WRITE (R14): Writing 1 to a W1C bit clears it, unless hardware sets it in the same clock. -/
  | w1cWrite (target : W1cTarget) (value : Word32) (hw : Word32)
  /-- RC_READ (R16): Reading an RC counter returns its value and clears it; an increment in the same clock is kept. -/
  | rcRead (master : Nat) (addr : Nat) (incr : Nat)
  /-- LO_READ_LATCH (R10): A read of a _LO register latches the matching _HI value for the bus master that read it. -/
  | loReadLatch (master : Nat) (addr : Nat)
  /-- HI_WRITE_HOLD (R10): A write to a _HI register is held for the master that made it. -/
  | hiWriteHold (master : Nat) (addr : Nat) (value : Word32)
  /-- LO_WRITE_COMMIT (R10): A write to _LO by the same master commits both halves of a 64-bit register at once. -/
  | loWriteCommit (master : Nat) (addr : Nat) (value : Word32)
  /-- MIC_CLAIM_READ (R465): A read of MIC_CLAIMc returns the highest-priority deliverable source and marks it claimed, or makes a spurious return. -/
  | micClaimRead (core : Nat)
  /-- MIC_COMPLETE_WRITE (R466): A write of a source to MIC_COMPLETEc ends the core's claim and starts coalescing, or is counted in MIC_BADCOMP. -/
  | micCompleteWrite (core : Nat) (value : Word32)
  /-- COAL_HOLD_END (R466): The COAL hold after a completion expires and a still-pending source becomes deliverable again. -/
  | coalHoldEnd (source : Nat)
  /-- SOURCE_LEVEL_CHANGE (R461): The level of a MIC source changes as enabled status bits of its block change, carried by an MGT message for voussoir sources. -/
  | sourceLevelChange (source : Nat) (high : Bool)
  /-- BTR_CLOSE_WRITE (R476): A write to BTR_CLOSE closes a Buttress record and frees its slot. -/
  | btrCloseWrite (value : Word32)
  /-- BTR_WDOG_WRITE (R477): A write to BTR_WDOG restarts the watchdog period. -/
  | btrWdogWrite (value : Word32)
  /-- BTR_INJ_GO (R478): Setting BTR_INJ.GO creates an injected record of the named class and carries out the class's reaction. -/
  | btrInjGo (value : Word32)
  /-- STK_INJ_CTL_WRITE (R179): A write of STK_INJ_CTL arms check-bit inversion on the next write or next NUM writes of a channel, refusing masks of other than weight 1 or 2. -/
  | stkInjCtlWrite (die : Nat) (stack : Nat) (value : Word32)
  /-- STK_INJ_PAR (R180): Setting STK_INJ_CTL.PAR inverts the parity of the next word the channel returns, causing one replay. -/
  | stkInjPar (die : Nat) (stack : Nat) (value : Word32)
  /-- SEA_INJ_ARM (R180): Setting SEA_INJ_CTL.ARM XORs PATTERN into symbol c_32 on the next seal write of the named page. -/
  | seaInjArm (die : Nat) (value : Word32)
  /-- CORE_ACCESS (R423): A Mason core load or store to the address map reaches its block, or faults outside the listed ranges. -/
  | coreAccess (core : Nat) (addr : Nat) (size : Nat) (store : Option Word64)
  /-- CORE_ATOMIC (R422): An A-extension atomic instruction acts on SRAM only and faults elsewhere. -/
  | coreAtomic (core : Nat) (addr : Nat) (size : Nat) (op : Amo) (value : Word64)
  /-- POOL_WINDOW_ACCESS (R424): A core access of 1 to 8 bytes through the pool window enters its channel on input MGT, passing the directory for coherent lines. -/
  | poolWindowAccess (core : Nat) (ppa : Nat) (size : Nat) (store : Option Word64)
  /-- VOUSSOIR_WINDOW_ACCESS (R27): A core access to a voussoir die register window travels in the MGT class and completes on the die's reply. -/
  | voussoirWindowAccess (core : Nat) (die : Nat) (off : Nat) (size : Nat) (store : Option Word32)
  /-- COUNTER_ACCUMULATE (R425): Every 100 ms the firmware reads every RC counter into its saturating 64-bit SRAM accumulator. -/
  | counterAccumulate
  /-- DTLS_HANDSHAKE (R427): A DTLS 1.3 handshake on MGMT_UDP is admitted against the trust anchors and joins or takes a session slot. -/
  | dtlsHandshake (hello : DtlsHello)
  /-- ASSOCIATION_IDLE (R428): An association with no authenticated datagram for IDLE_S ends, and the session ends with its last association. -/
  | associationIdle (slot : Nat) (net : Nat)
  /-- REFUSING_CLOSE (R428): An association admitted with no slot available is closed 1 s after its handshake. -/
  | refusingClose (net : Nat) (identity : List Byte)
  /-- COMMAND_FRAME (R434): An Evous command frame arrives, is checked, answered from stored replies or discarded as a duplicate, or queued. -/
  | commandFrame (slot : Nat) (net : Nat) (bytes : List Byte)
  /-- COMMAND_HEAD (R435): A command reaches the head of the change queue and its right to run is checked. -/
  | commandHead
  /-- LEASE_EXPIRE (R439): At EXPIRES the owner's lease lapses, queued commands of the former owner return NOT_OWNER and OWNER_CHANGE is sent. -/
  | leaseExpire
  /-- OWN_CLAIM (R438): Grants ownership when the module has no owner, advancing the epoch, or returns CONFLICT with the owner's slot and EXPIRES. -/
  | ownClaim (slot : Nat) (tag : Word32) (leaseMs : Word64)
  /-- OWN_RENEW (R439): Extends EXPIRES to the arrival time plus LEASE_MS if it arrived before EXPIRES. -/
  | ownRenew (slot : Nat) (tag : Word32) (leaseMs : Word64)
  /-- OWN_RELEASE (R440): The owner gives up ownership. -/
  | ownRelease (slot : Nat) (tag : Word32)
  /-- OWN_QUERY (R444): Returns the owner's slot, epoch, EXPIRES and digest. -/
  | ownQuery (slot : Nat) (tag : Word32)
  /-- OWN_TRANSFER (R444): Passes ownership to another open slot with a new lease. -/
  | ownTransfer (slot : Nat) (tag : Word32) (target : Word64) (leaseMs : Word64)
  /-- SESSION_LIST (R444): Returns the eight session slots with their digests. -/
  | sessionList (slot : Nat) (tag : Word32)
  /-- SESSION_CLOSE (R444): The owner closes another session's slot. -/
  | sessionClose (slot : Nat) (tag : Word32) (target : Word64)
  /-- MGMT_SET (R444): Sets MGMT_UDP for new associations and IDLE_S. -/
  | mgmtSet (slot : Nat) (tag : Word32) (udp : Word64) (idleS : Word64)
  /-- EXTENT_ALLOC (R51): Allocates extents all-or-none after its ordered checks, entering them in ZEROING and replying DEFERRED with their numbers. -/
  | extentAlloc (slot : Nat) (tag : Word32) (holder : Word64) (attr : Word64) (count : Word64) (diemask : Word64) (list : List Word64)
  /-- EXTENT_RELEASE (R446): Checks every listed extent by the state table, then returns them to FREE, or to DRAINING with a deferred final reply. -/
  | extentRelease (slot : Nat) (tag : Word32) (list : List Word64)
  /-- EXTENT_SET_ATTR (R54): Changes COHERENT, MIRRORED or PRIO of unmapped READY extents. -/
  | extentSetAttr (slot : Nat) (tag : Word32) (list : List Word64) (attr : Word64) (mask : Word64)
  /-- EXTENT_QUERY (R445): Returns the records and mapping views of listed extents, as many as fit in one body. -/
  | extentQuery (slot : Nat) (tag : Word32) (list : List Word64)
  /-- VIEW_MAP (R58): Maps a READY extent or aligned group at a slot of a tenant view, after checks in the order INVALID, BUSY, CONFLICT. -/
  | viewMap (slot : Nat) (tag : Word32) (tenant : Word64) (vslot : Word64) (extent : Word64) (perm : Word64)
  /-- VIEW_UNMAP (R57): Clears a view entry or 16 GiB page, decrements MAPCOUNT and opens a revocation fence. -/
  | viewUnmap (slot : Nat) (tag : Word32) (tenant : Word64) (vslot : Word64)
  /-- VIEW_QUERY (R57): Returns the entries of a range of slots of one tenant view. -/
  | viewQuery (slot : Nat) (tag : Word32) (tenant : Word64) (first : Word64) (count : Word64)
  /-- WINDOW_SET (R66): Writes a valid window entry, adjusting MAPCOUNT and opening a fence when it replaces a valid entry. -/
  | windowSet (slot : Nat) (tag : Word32) (window : Word64) (ctl : Word64) (base : Word64) (src : Word64)
  /-- WINDOW_CLEAR (R66): Invalidates a window entry and opens a fence if it was valid. -/
  | windowClear (slot : Nat) (tag : Word32) (window : Word64)
  /-- EXTENT_MIGRATE (R100): Starts moving a source extent's contents and mappings to a free destination extent. -/
  | extentMigrate (slot : Nat) (tag : Word32) (source : Word64) (dest : Word64)
  /-- TENANT_SET (R487): Creates or changes a tenant's weight, class, mode and limits. -/
  | tenantSet (slot : Nat) (tag : Word32) (tenant : Word64) (weight : Word64) (cls : Word64) (mode : Word64) (maxContexts : Word64) (maxWatches : Word64) (maxAdmit : Word64)
  /-- TENANT_CLEAR (R487): Removes a tenant that holds no objects. -/
  | tenantClear (slot : Nat) (tag : Word32) (tenant : Word64)
  /-- TENANT_QUERY (R447): Returns a tenant's settings and the counts of its held objects. -/
  | tenantQuery (slot : Nat) (tag : Word32) (tenant : Word64)
  /-- CAPACITY_SET (R495): Sets the per-PRIO allocation floors and ADMIT_RETRY. -/
  | capacitySet (slot : Nat) (tag : Word32) (floors : List Word64) (retry : Word64)
  /-- GATE_SET (R501): Sets GATE_DIES, GATE_EN, GUARD, GATE_CYCLE and the die gate list, effective at the next cycle. -/
  | gateSet (slot : Nat) (tag : Word32) (ctl : Word64) (cycle : Word64) (list : List Word64)
  /-- FAULT_READ (R110): Returns up to 32 unreported open fault records of a tenant in SEQ order, setting REPORTED for the owner. -/
  | faultRead (slot : Nat) (tag : Word32) (tenant : Word64)
  /-- FAULT_RESOLVE (R112): Closes listed fault records with RETRY or FAIL, resuming or failing the parked contexts. -/
  | faultResolve (slot : Nat) (tag : Word32) (list : List Word64)
  /-- FAULTQ_SET (R109): Sets a tenant's fault queue DEPTH. -/
  | faultqSet (slot : Nat) (tag : Word32) (tenant : Word64) (depth : Word64)
  /-- CONTEXT_CREATE (R250): Binds a context to a tenant and ring and arms its TAIL watch. -/
  | contextCreate (slot : Nat) (tag : Word32) (context : Word64) (tenant : Word64) (ring : Word64) (ccfg : Word64)
  /-- CONTEXT_DESTROY (R250): Stops the running descriptor at its next tile boundary, completes later descriptors NOT_EXECUTED and frees the watch. -/
  | contextDestroy (slot : Nat) (tag : Word32) (context : Word64)
  /-- CONTEXT_QUERY (R250): Returns a context's state, cause, configuration, HEAD and TAIL. -/
  | contextQuery (slot : Nat) (tag : Word32) (context : Word64)
  /-- CONTEXT_RESTART (R250): Completes descriptors up to TAIL NOT_EXECUTED and returns a STOPPED context to IDLE. -/
  | contextRestart (slot : Nat) (tag : Word32) (context : Word64)
  /-- CONTEXT_SUSPEND (R250): Stops dispatch and saves a running descriptor at its next tile boundary. -/
  | contextSuspend (slot : Nat) (tag : Word32) (context : Word64)
  /-- CONTEXT_RESUME (R250): Returns a suspended context to the state it would now hold. -/
  | contextResume (slot : Nat) (tag : Word32) (context : Word64)
  /-- CONTEXT_SET (R250): Changes a context's PRIO, DIEMASK or GANG_MAX from its next dispatch. -/
  | contextSet (slot : Nat) (tag : Word32) (context : Word64) (ccfg : Word64) (mask : Word64)
  /-- COURSE_CAPS (R259): Returns the capability table. -/
  | courseCaps (slot : Nat) (tag : Word32)
  /-- COURSE_SET (R250): Enables or disables courses, draining a disabled course at its next tile boundary. -/
  | courseSet (slot : Nat) (tag : Word32) (mask : Word64) (enable : Word64)
  /-- LINTEL_CREATE (R313): Creates a lintel object with its job, participants, mode, release targets and TAG. -/
  | lintelCreate (slot : Nat) (tag : Word32) (object : Word64) (cfg : Word64) (relSignal : Word64) (relAddr : Word64) (relTag : Word64)
  /-- LINTEL_DESTROY (R313): Breaks the current generation if counted, then invalidates the object. -/
  | lintelDestroy (slot : Nat) (tag : Word32) (object : Word64)
  /-- LINTEL_QUERY (R313): Returns an object's configuration, generation, counts and LAST_BROKEN. -/
  | lintelQuery (slot : Nat) (tag : Word32) (object : Word64)
  /-- LINTEL_BREAK (R308): Releases the current generation regardless of count with NOTIFY status FAULTED. -/
  | lintelBreak (slot : Nat) (tag : Word32) (object : Word64)
  /-- WATCH_QUERY (R313): Returns up to 63 watch entries of one tenant. -/
  | watchQuery (slot : Nat) (tag : Word32) (tenant : Word64) (first : Word64) (count : Word64)
  /-- COORD_SET (R71): Assigns the module's domain and device, once per power-on. -/
  | coordSet (slot : Nat) (tag : Word32) (domain : Word64) (device : Word64)
  /-- PORT_SET (R361): Sets a fabric port's mode and timers, or disables it after a drain, or enables it. -/
  | portSet (slot : Nat) (tag : Word32) (port : Word64) (action : Word64) (ctl : Word64) (timers : Word64)
  /-- PORT_QUERY (R361): Returns a fabric port's state, peer IDENT, round trip and counters. -/
  | portQuery (slot : Nat) (tag : Word32) (port : Word64)
  /-- ROUTE_SET (R351): Replaces entries of the domain or device route tables one at a time. -/
  | routeSet (slot : Nat) (tag : Word32) (list : List Word64)
  /-- PORT_RETRAIN (R361): Requests a retrain or width change of an UP port. -/
  | portRetrain (slot : Nat) (tag : Word32) (port : Word64) (width : Word64)
  /-- FABRIC_SET (R361): Sets HOP_INIT, REQ_TO, RETRIES and REPLAY_WIN. -/
  | fabricSet (slot : Nat) (tag : Word32) (hopInit : Word64) (reqTo : Word64) (retries : Word64) (replayWin : Word64)
  /-- RANK_TABLE_SET (R75): Writes a job's new rank segment into the unselected bank on all ports and switches banks by one broadcast. -/
  | rankTableSet (slot : Nat) (tag : Word32) (job : Word64) (base : Word64) (list : List Word64)
  /-- LEGACY_SET (R70): Sets the legacy control, port enables and legacy node table. -/
  | legacySet (slot : Nat) (tag : Word32) (ctl : Word64) (portEn : Word64) (list : List Word64)
  /-- ENDPOINT_FAIL (R210): Places an ACTIVE endpoint in FAILED, timing out its recalls and starting the directory sweep. -/
  | endpointFail (slot : Nat) (tag : Word32) (coord : Word64)
  /-- ENDPOINT_READMIT (R220): Returns a FAILED endpoint to ACTIVE once its sweep has ended. -/
  | endpointReadmit (slot : Nat) (tag : Word32) (coord : Word64)
  /-- ENDPOINT_RETIRE (R220): Recalls every line an endpoint holds by pointer, then frees its index. -/
  | endpointRetire (slot : Nat) (tag : Word32) (coord : Word64)
  /-- ETH_PORT_SET (R418): Sets an Ethernet port's addresses, gateway, VID and PFC, or disables it after a drain, or enables it. -/
  | ethPortSet (slot : Nat) (tag : Word32) (port : Word64) (action : Word64) (ctl : Word64) (ip4 : Word64) (gw4 : Word64) (ip6lo : Word64) (ip6hi : Word64) (plen6 : Word64) (gw6lo : Word64) (gw6hi : Word64)
  /-- ETH_PORT_QUERY (R418): Returns an Ethernet port's state and counters. -/
  | ethPortQuery (slot : Nat) (tag : Word32) (port : Word64)
  /-- QP_CREATE (R401): Binds a RoCEv2 queue pair to a tenant, port, peer, PSN, MTU, access set and RKEY. -/
  | qpCreate (slot : Nat) (tag : Word32) (qp : Word64) (tenant : Word64) (port : Word64) (mac : Word64) (ip0 : Word64) (ip1 : Word64) (qpnPsn : Word64) (mtuAccess : Word64) (rkey : Word64)
  /-- QP_DESTROY (R418): Ends a queue pair's request in progress at the next packet boundary, then frees it. -/
  | qpDestroy (slot : Nat) (tag : Word32) (qp : Word64)
  /-- QP_QUERY (R418): Returns a queue pair's state, tenant, port, expected PSN and counts. -/
  | qpQuery (slot : Nat) (tag : Word32) (qp : Word64)
  /-- EGRESS_SET (R417): Sets an Ethernet port's egress weights, event rate, overhead and gate list, effective at the next cycle. -/
  | egressSet (slot : Nat) (tag : Word32) (port : Word64) (egr : Word64) (cycle : Word64) (list : List Word64)
  /-- PTP_SET (R418): Sets the fields of ETH_PTP_CTL. -/
  | ptpSet (slot : Nat) (tag : Word32) (ctl : Word64)
  /-- GROUP_SET (R364): Sets the pool group number, member number, member coordinates and master. -/
  | groupSet (slot : Nat) (tag : Word32) (group : Word64) (member : Word64) (master : Word64) (members : List Word64)
  /-- GROUP_QUERY (R394): Returns the group, master in use and time-base lock state and offset. -/
  | groupQuery (slot : Nat) (tag : Word32)
  /-- TIME_SET (R369): Sets the time-base source and port. -/
  | timeSet (slot : Nat) (tag : Word32) (src : Word64) (port : Word64)
  /-- TIME_STEP (R371): Steps the time base forward to the source's time after a TIME_FAULT. -/
  | timeStep (slot : Nat) (tag : Word32)
  /-- TWIN_SET (R376): Configures the twin pair's peer, mirror ports, witness, primary and REVERT. -/
  | twinSet (slot : Nat) (tag : Word32) (peer : Word64) (ports : Word64) (flags : Word64) (witness : List Word64) (lossT : Word64) (soloWait : Word64) (revertHold : Word64)
  /-- TWIN_QUERY (R449): Returns twin state, generation, resync progress, mirror load and removed extents. -/
  | twinQuery (slot : Nat) (tag : Word32) (start : Word64)
  /-- TWIN_PROMOTE (R388): The witness makes a standby or halted twin take over and become SOLO. -/
  | twinPromote (slot : Nat) (tag : Word32)
  /-- TWIN_DEMOTE (R385): The witness halts a twin. -/
  | twinDemote (slot : Nat) (tag : Word32)
  /-- TWIN_SOLO (R385): The witness lets an isolated active twin continue as SOLO. -/
  | twinSolo (slot : Nat) (tag : Word32)
  /-- TWIN_TAKEBACK (R393): Starts the handover of control back to the primary. -/
  | twinTakeback (slot : Nat) (tag : Word32)
  /-- TWIN_CLEAR (R394): Dissolves the twin pair. -/
  | twinClear (slot : Nat) (tag : Word32)
  /-- EVENT_READ (R450): Returns up to 64 events from a given SEQ from the event log. -/
  | eventRead (slot : Nat) (tag : Word32) (seq : Word64) (count : Word64)
  /-- REG_READ (R451): Returns listed register values, accumulators for RC counters and 0 for protected addresses. -/
  | regRead (slot : Nat) (tag : Word32) (list : List Word64)
  /-- TELEMETRY_READ (R450): Returns every counter of one block instance as 64-bit values. -/
  | telemetryRead (slot : Nat) (tag : Word32) (block : Word64) (index : Word64)
  /-- IDENTITY (R452): Returns part number, stepping, firmware version, mark digest and BOOTID. -/
  | identity (slot : Nat) (tag : Word32)
  /-- FW_STAGE (R452): Writes image bytes into the staging area of reserved extent 6 of die 0. -/
  | fwStage (slot : Nat) (tag : Word32) (offset : Word64) (data : List Byte)
  /-- FW_VERIFY (R452): Starts verifying the staged image's signature. -/
  | fwVerify (slot : Nat) (tag : Word32) (size : Word64)
  /-- FW_COMMIT (R453): Starts erasing the stored image and writing the verified staged image. -/
  | fwCommit (slot : Nat) (tag : Word32)
  /-- FW_ACTIVATE (R454): Replies OK, then restarts the Mason cores from the boot ROM, closing sessions and lapsing ownership. -/
  | fwActivate (slot : Nat) (tag : Word32)
  /-- SPDM (R506): Carries one SPDM 1.3 request and returns the module's response. -/
  | spdm (slot : Nat) (tag : Word32) (request : List Byte)
  /-- ANCHOR_SET (R551): Installs or clears a manager trust anchor slot in the older flash copy. -/
  | anchorSet (slot : Nat) (tag : Word32) (anchor : Word64) (cert : List Byte)
  /-- ANCHOR_QUERY (R452): Returns the four anchor digests. -/
  | anchorQuery (slot : Nat) (tag : Word32)
  /-- MEMTEST (R455): Starts a pattern test of selected channels over reserved extent 7. -/
  | memtest (slot : Nat) (tag : Word32) (die : Word64) (channels0 : Word64) (channels1 : Word64) (pattern : Word64)
  /-- INJECT (R455): Writes the stack or seal-cache injection registers of a die. -/
  | inject (slot : Nat) (tag : Word32) (die : Word64) (stack : Word64) (word0 : Word64) (word1 : Word64)
  /-- POISON_WRITE (R455): Writes the poison marker over an aligned 128 B line of a READY extent. -/
  | poisonWrite (slot : Nat) (tag : Word32) (ppa : Word64)
  /-- REG_WRITE (R455): Writes a register that is not reserved to a named command. -/
  | regWrite (slot : Nat) (tag : Word32) (addr : Word64) (value : Word64)
  /-- RECOVERY_READ (R481): Reads stored lines in the fatal safe state with poison and word-code-only masks. -/
  | recoveryRead (slot : Nat) (tag : Word32) (ppa : Word64) (length : Word64)
  /-- POWER_QUERY (R456): Returns input power, rail states, temperatures and governor state. -/
  | powerQuery (slot : Nat) (tag : Word32)
  /-- POWER_SET (R456): Sets the sustained limit and peak permission. -/
  | powerSet (slot : Nat) (tag : Word32) (limit : Word64) (peak : Word64)
  /-- POOL_HOLD (R530): Disables fabric ports, stops compute and puts the stacks in masked self-refresh. -/
  | poolHold (slot : Nat) (tag : Word32)
  /-- POOL_RESUME (R530): Takes the stacks out of self-refresh and enables and trains the fabric ports. -/
  | poolResume (slot : Nat) (tag : Word32)
  /-- STANDBY (R530): Closes sessions and turns off every rail except the Plinth. -/
  | standby (slot : Nat) (tag : Word32)
  /-- ZERO_FILL_DONE (R52): A die finishes zero filling one extent, which enters READY, and the allocation's final reply follows when none remains ZEROING. -/
  | zeroFillDone (extent : Nat)
  /-- FENCE_COMPLETE (R97): A revocation fence completes when no tile in flight uses an old-epoch entry, releasing held entries, watches and waiting commands. -/
  | fenceComplete (fence : Nat)
  /-- REVALIDATION_DONE (R94): Revalidation of held shadow entries ends, resuming the descriptor or completing it FAULTED with REVOKED. -/
  | revalidationDone (context : Nat)
  /-- MIGRATION_PASS_END (R101): A migration copy pass ends and starts another pass, the switch, or an abort after PASSES. -/
  | migrationPassEnd (source : Nat)
  /-- MIGRATION_SWITCH_DONE (R101): The last dirty pages are copied and mappings move to the destination, which releases held requests. -/
  | migrationSwitchDone (source : Nat)
  /-- MIGRATION_HOLD_LIMIT (R102): The switch exceeds HOLD_LIMIT, and the migration aborts with CONFLICT. -/
  | migrationHoldLimit (source : Nat)
  /-- UNRECORDED_RETRANSLATE (R108): When a fault-queue slot frees, the next context parked unrecorded retranslates, in parking order. -/
  | unrecordedRetranslate (tenant : Nat)
  /-- DESCRIPTOR_ACCEPT (R84): The scheduler reads a course descriptor from its ring and runs the acceptance checks, yielding ACCEPTED, PARKED, BUSY_RETRY or FAULTED. -/
  | descriptorAccept (context : Nat)
  /-- ADMIT_RETRY_EXPIRE (R248): At RETRY_AFTER the scheduler reads a refused descriptor's slot again. -/
  | admitRetryExpire (context : Nat)
  /-- WATCH_NOTICE (R302): A watch notice for a line reaches the watch unit, which evaluates each armed entry and fires SCHED, NOTIFY or ADD actions. -/
  | watchNotice (line : Nat)
  /-- TIME_WATCH_FIRE (R302): A time watch fires within 100 ns of the time base reaching its TARGET. -/
  | timeWatchFire (watch : Nat)
  /-- COURSE_DISPATCH (R252): The scheduler dispatches a READY context's descriptor to a free course or gang by die preference. -/
  | courseDispatch (context : Nat)
  /-- STEAL_WAIT_EXPIRE (R252): No local course freed within STEAL_WAIT, so any free course in DIEMASK is used. -/
  | stealWaitExpire (context : Nat)
  /-- GANG_WAIT_EXPIRE (R258): A gang starts with the courses held after GANG_WAIT. -/
  | gangWaitExpire (context : Nat)
  /-- NOT_BEFORE_REACHED (R238): The time base reaches a descriptor's NOT_BEFORE and its first tile may start. -/
  | notBeforeReached (context : Nat)
  /-- TILE_START (R93): A course or the bulk engine starts a tile after checking era and epochs, or holds the shadow. -/
  | tileStart (context : Nat) (bulk : Bool)
  /-- TILE_END (R228): PLACE has every write of a tile acknowledged, freeing its tile buffer. -/
  | tileEnd (context : Nat) (bulk : Bool) (tile : Nat)
  /-- DESCRIPTOR_COMPLETE (R245): After all tile writes are acknowledged, the completion record and HEAD are written, then the signal word is advanced. -/
  | descriptorComplete (context : Nat) (bulk : Bool)
  /-- QUANTUM_EXPIRE (R253): A context that held its courses for QUANTUM is preempted at the next tile boundary if another context qualifies. -/
  | quantumExpire (context : Nat)
  /-- PREEMPT_SAVE_DONE (R255): A preempted descriptor's state is written to its save slot and the course is freed. -/
  | preemptSaveDone (context : Nat)
  /-- STOPPED_DESCRIPTOR_DRAIN (R247): For a STOPPED context each descriptor up to TAIL completes NOT_EXECUTED and advances its signal word. -/
  | stoppedDescriptorDrain (context : Nat)
  /-- CHANNEL_WRITE_ENTRY (R123): A write enters a channel's write queue, is applied and acknowledged, and is seen by the watch filter. -/
  | channelWriteEntry (die : Nat) (channel : Nat) (input : Nat) (ppa : Nat) (data : List Byte)
  /-- CHANNEL_READ_ENTRY (R124): A read enters a channel's read queue, served from the write queue or ordered behind writes to its granule. -/
  | channelReadEntry (die : Nat) (channel : Nat) (input : Nat) (ppa : Nat) (length : Nat)
  /-- CHANNEL_SCHEDULE (R126): Each MCLK cycle the channel scheduler issues the first timing-allowed command in its priority order. -/
  | channelSchedule (die : Nat) (channel : Nat)
  /-- READ_DECODE (R153): Read data returns from DRAM and each word is decoded as clean, correctable, poison or uncorrectable. -/
  | readDecode (die : Nat) (channel : Nat)
  /-- REFRESH_DUE (R131): A bank's per-bank refresh falls due at tREFI. -/
  | refreshDue (die : Nat) (channel : Nat) (bank : Nat)
  /-- RFM_THRESHOLD (R133): A bank's activate count reaches RFM_TH and an RFM is scheduled. -/
  | rfmThreshold (die : Nat) (channel : Nat) (bank : Nat)
  /-- BANK_IDLE_EXPIRE (R128): A bank's idle timer expires and its open row is precharged. -/
  | bankIdleExpire (die : Nat) (channel : Nat) (bank : Nat)
  /-- URGENCY_RISE (R129): An access's age reaches half or all of its input's target, raising its urgency and marking LATE. -/
  | urgencyRise (die : Nat) (channel : Nat)
  /-- STACK_TEMP_READ (R132): A stack temperature is read every 32 µs, entering or leaving hot mode. -/
  | stackTempRead (stack : Nat) (celsius : Nat)
  /-- TRACKING_TRIGGER (R140): A channel leaves IN_SERVICE for tracking on interval, drift or CE_TH. -/
  | trackingTrigger (die : Nat) (channel : Nat)
  /-- TRACKING_DONE (R141): A tracking pass ends, returning the channel to IN_SERVICE or, after three failures, to RETRAINING. -/
  | trackingDone (die : Nat) (channel : Nat) (pass : Bool)
  /-- FULL_TRAINING_DONE (R141): Full training of a retraining channel passes, entering REBUILDING, or fails, entering FAILED. -/
  | fullTrainingDone (die : Nat) (channel : Nat) (pass : Bool)
  /-- REBUILD_DONE (R143): A rebuilding channel has rewritten every data and seal slot and enters IN_SERVICE. -/
  | rebuildDone (die : Nat) (channel : Nat)
  /-- ROW_SPARE (R145): A failing row reported by the fault collector starts a copy to a spare row, or is reported if none is left. -/
  | rowSpare (die : Nat) (channel : Nat) (bank : Nat) (row : Nat)
  /-- ROW_COPY_DONE (R145): The row copy ends and the bank's remap table entry is set. -/
  | rowCopyDone (die : Nat) (channel : Nat) (bank : Nat) (row : Nat)
  /-- STACK_TRAINING_DONE (R138): Start-up training of the stacks ends, each passing channel entering IN_SERVICE and each failing one FAILED. -/
  | stackTrainingDone (failed : List Nat)
  /-- SELF_REFRESH_EXIT_DONE (R146): After tXS and one tracking pass of every channel, the die is in service. -/
  | selfRefreshExitDone (die : Nat)
  /-- SEAL_DELTA (R159): A write delta reaches the seal cache and is XORed into the page's seal line. -/
  | sealDelta (die : Nat)
  /-- SEAL_DELTA_RESUME (R163): A delta waiting for a seal line is allocated a line and its channel's write queue resumes. -/
  | sealDeltaResume (die : Nat)
  /-- PAGE_HOLD_GRANT (R160): A page hold is granted once every delta of writes already in DRAM has been applied. -/
  | pageHoldGrant (die : Nat) (page : Nat)
  /-- SEAL_LINE_AGE (R162): A dirty seal line reaches FLUSH_AGE and is written back. -/
  | sealLineAge (die : Nat) (page : Nat)
  /-- SEAL_REBUILD_DONE (R165): The seal rebuild of a located failure returns the rebuilt granule and queues its write-back. -/
  | sealRebuildDone (die : Nat) (page : Nat)
  /-- SCRUB_VISIT (R176): The scrubber's pacing interval elapses and it takes a page hold and reads the next allocated page. -/
  | scrubVisit (die : Nat)
  /-- SCRUB_PAGE_CHECKED (R177): The scrubber checks the page's words and codewords and acts on what it finds. -/
  | scrubPageChecked (die : Nat)
  /-- D2D_PARITY_ERROR (R24): A die-to-die receiver finds a parity error and the sender replays the transfer and every later one of its class. -/
  | d2dParityError (die : Nat)
  /-- D2D_TRAINING_LOSS (R25): A die-to-die link loses training for 10 µs and a fatal error is raised. -/
  | d2dTrainingLoss (die : Nat)
  /-- ONDIE_PARITY_ERROR (R173): A receiver on an on-die hop refuses a transfer with a parity error and the sender replays it. -/
  | ondieParityError (die : Nat)
  /-- TIME_BASE_CORRECT (R30): Every 1.024 µs each local time-base copy is corrected from the master. -/
  | timeBaseCorrect (copy : Nat)
  /-- PORT_LIGHT_DETECT (R330): A DOWN or FENCED port receives light and lock from its peer and enters TRAINING. -/
  | portLightDetect (port : Nat)
  /-- PORT_TRAINING_DONE (R331): Training ends with the CREDIT_INIT exchange, counts start at 0 and the port enters UP. -/
  | portTrainingDone (port : Nat)
  /-- PORT_TRAINING_TIMEOUT (R331): A port not UP by 500 µs goes to DOWN. -/
  | portTrainingTimeout (port : Nat)
  /-- TRAINING_RETRY_TIMER (R330): One ms after a failed training, a DOWN port trains again. -/
  | trainingRetryTimer (port : Nat)
  /-- DATA_FLIT_RECEIVE (R327): A good-CRC DATA flit is accepted if next in sequence, its ACK and credits are used, and its messages enter pools. -/
  | dataFlitReceive (port : Nat) (flit : List Byte)
  /-- BAD_CRC_FLIT (R327): A DATA flit with a bad CRC makes the receiver discard DATA flits until REPLAY_START. -/
  | badCrcFlit (port : Nat) (flit : List Byte)
  /-- IDLE_FLIT_RECEIVE (R323): An IDLE flit delivers its ACK, CRPOOL and CRCNT. -/
  | idleFlitReceive (port : Nat) (flit : List Byte)
  /-- FENCE_FLIT_RECEIVE (R337): A good FENCE flit puts the port in FENCED at once and is reported. -/
  | fenceFlitReceive (port : Nat) (flit : List Byte)
  /-- TS (R324): A training sequence flit carries the proposed width and lock mask. -/
  | ts (port : Nat) (flit : List Byte)
  /-- IDENT (R332): An IDENT flit carries the peer's part, port, coordinate, WIDTH_MIN and nonce. -/
  | ident (port : Nat) (flit : List Byte)
  /-- IDENT_REQ (R332): A peer requests IDENT and the module answers. -/
  | identReq (port : Nat) (flit : List Byte)
  /-- CREDIT_INIT (R331): The peer's pool sizes set the sender's credits. -/
  | creditInit (port : Nat) (flit : List Byte)
  /-- REPLAY_START (R328): The receiver resumes accepting DATA flits from the given transmit count. -/
  | replayStart (port : Nat) (flit : List Byte)
  /-- RETRAIN_REQ (R335): A retrain request from the peer is merged by coordinate-based leadership. -/
  | retrainReq (port : Nat) (flit : List Byte)
  /-- RETRAIN_ACK (R335): The follower acknowledges a retrain with its own request folded in. -/
  | retrainAck (port : Nat) (flit : List Byte)
  /-- WIDTH_REQ (R335): A width change request from the peer is merged by leadership. -/
  | widthReq (port : Nat) (flit : List Byte)
  /-- WIDTH_ACK (R335): The follower acknowledges a width change with its own request folded in. -/
  | widthAck (port : Nat) (flit : List Byte)
  /-- RTT_PROBE (R324): A round-trip probe is echoed with the turnaround time. -/
  | rttProbe (port : Nat) (flit : List Byte)
  /-- RTT_ECHO (R324): The echo of a probe gives the measured round trip. -/
  | rttEcho (port : Nat) (flit : List Byte)
  /-- TIMESYNC (R370): A time-exchange request is answered with t1, t2 and t3. -/
  | timesync (port : Nat) (flit : List Byte)
  /-- TIMESYNC_ANSWER (R370): A time-exchange answer yields the offset, which corrects the time base by rate or first-lock step. -/
  | timesyncAnswer (port : Nat) (flit : List Byte)
  /-- ACK_TIMER_EXPIRE (R328): The acknowledge timer expires and the sender replays from the oldest unacknowledged flit. -/
  | ackTimerExpire (port : Nat)
  /-- LOCK_LOSS_TIMEOUT (R336): Loss of symbol lock for LINKDOWN_T declares the link down and discards the retry buffer. -/
  | lockLossTimeout (port : Nat)
  /-- RETRAIN_DONE (R334): A retrain completes and the port returns to UP with REPLAY_START. -/
  | retrainDone (port : Nat)
  /-- RETRAIN_MAX_EXPIRE (R330): A retrain or width change not done within RETRAIN_MAX sends the port DOWN. -/
  | retrainMaxExpire (port : Nat)
  /-- WIDTH_CHANGE_DONE (R334): A width change completes and the port returns to UP. -/
  | widthChangeDone (port : Nat)
  /-- FEC_RETRAIN_TRIGGER (R334): Corrected symbols above FEC_TH or four uncorrectable codewords in 1 ms trigger a retrain. -/
  | fecRetrainTrigger (port : Nat) (corrected : Nat) (uncorrectable : Nat)
  /-- WAVELENGTH_LOCK_LOSS (R334): One wavelength loses lock, triggering a width change. -/
  | wavelengthLockLoss (port : Nat) (wavelength : Nat)
  /-- LASER_MEASURE (R318): Every 10 µs each laser wavelength at each block input is measured. -/
  | laserMeasure (block : Nat) (powers : List Int)
  /-- LASER_REMOVE_TIMEOUT (R318): A wavelength below 10.0 dBm for 10 µs is removed by a width change, or the port goes DOWN. -/
  | laserRemoveTimeout (block : Nat) (wavelength : Nat)
  /-- FLIT_TRANSMIT (R340): At a message boundary the transmitter picks a VC with data and credits by weighted round robin. -/
  | flitTransmit (port : Nat)
  /-- RD_SHARED (R198): A host asks for a shared copy of a coherent line. -/
  | rdShared (port : Nat) (msg : Msg)
  /-- RD_OWN (R198): A host asks for an exclusive copy, recalling other holders. -/
  | rdOwn (port : Nat) (msg : Msg)
  /-- UPGRADE (R198): A sharer asks for exclusive ownership of its line. -/
  | upgrade (port : Nat) (msg : Msg)
  /-- OWN_FULL (R214): A host asks for exclusive ownership without data. -/
  | ownFull (port : Nat) (msg : Msg)
  /-- RD_ONCE (R198): A host reads a line without caching it. -/
  | rdOnce (port : Nat) (msg : Msg)
  /-- WR_LINE (R198): A host writes a whole 128 B line, optionally with a push hint. -/
  | wrLine (port : Nat) (msg : Msg)
  /-- WR_PART (R198): A host writes part of a line under a byte mask. -/
  | wrPart (port : Nat) (msg : Msg)
  /-- ATOMIC (R346): An atomic operation is applied to an 8 B word at the home. -/
  | atomic (port : Nat) (msg : Msg)
  /-- PUBLISH (R217): A compare-and-set on a version word answers PUBLISHED or CONFLICT. -/
  | publish (port : Nat) (msg : Msg)
  /-- EVICT_CLEAN (R198): A host drops a clean line and the home removes its record. -/
  | evictClean (port : Nat) (msg : Msg)
  /-- RCL_ACK (R205): A recall answer with ANSWER is taken by the home, possibly ending the transaction. -/
  | rclAck (port : Nat) (msg : Msg)
  /-- RCL_DATA (R205): A recall answer carrying modified data is taken by the home. -/
  | rclData (port : Nat) (msg : Msg)
  /-- WBACK (R205): A host writes back a modified line in RSP, taken as write-back or as a recall answer. -/
  | wback (port : Nat) (msg : Msg)
  /-- PUSH_ACK (R208): A consumer accepts or declines a push, recorded in S if accepted. -/
  | pushAck (port : Nat) (msg : Msg)
  /-- TRANSACTION_ACTIVATE (R195): When a line's active transaction ends, the next waiting request becomes ACTIVE. -/
  | transactionActivate (line : Nat)
  /-- REQ_INPUT_RESUME (R197): A slice that held its REQ input resumes once a way or transaction slot is free. -/
  | reqInputResume (slice : Nat)
  /-- RECALL_TIMEOUT (R209): A recall unanswered within RECALL_TO poisons an X line or counts as NP, and the host's endpoint fails. -/
  | recallTimeout (line : Nat) (coord : Nat)
  /-- PUSH_ACK_TIMEOUT (R208): A push not acknowledged within RECALL_TO leaves the line uncached. -/
  | pushAckTimeout (line : Nat)
  /-- ENDPOINT_SWEEP_END (R212): The directory sweep for a failed endpoint ends and ENDPOINT_FAILED is sent with its counts. -/
  | endpointSweepEnd (endpoint : Nat)
  /-- BULK_DESC (R84): A bulk descriptor arrives and is accepted, parked, refused or faulted in DESC_ACK. -/
  | bulkDesc (port : Nat) (msg : Msg)
  /-- READ (R345): A single read of up to 256 B is translated and served. -/
  | read (port : Nat) (msg : Msg)
  /-- WRITE (R345): A single write of up to 256 B is translated, applied and acknowledged with its byte count. -/
  | write (port : Nat) (msg : Msg)
  /-- WRITE_MASK (R345): A masked write of a 256 B block is applied and acknowledged with the masked byte count. -/
  | writeMask (port : Nat) (msg : Msg)
  /-- UNKNOWN_OP_MESSAGE (R347): A message addressed to the module with an undefined opcode is answered FAULTED UNKNOWN_OP in REQ or discarded otherwise. -/
  | unknownOpMessage (port : Nat) (msg : Msg)
  /-- MESSAGE_FORWARD (R350): A message for another device is routed by the domain or device table and forwarded with HOPS decremented. -/
  | messageForward (port : Nat) (msg : Msg)
  /-- WR_ACK (R349): An endpoint acknowledges bytes of a module write, summed toward the transfer length. -/
  | wrAck (port : Nat) (msg : Msg)
  /-- READ_DATA (R345): Read data from an endpoint arrives for a remote operand of the module's request. -/
  | readData (port : Nat) (msg : Msg)
  /-- SIGNAL (R294): An addition to a signal word is applied once at the home and answered with the new value. -/
  | signal (port : Nat) (msg : Msg)
  /-- WATCH_ARM (R301): A NOTIFY or ADD watch is installed, the word read and compared, firing at once if met. -/
  | watchArm (port : Nat) (msg : Msg)
  /-- WATCH_DISARM (R303): A matching WATCH_ARM entry of the tenant is freed and the outcome reported. -/
  | watchDisarm (port : Nat) (msg : Msg)
  /-- ARRIVE (R304): A participant arrives at a lintel object and is counted, held or refused. -/
  | arrive (port : Nat) (msg : Msg)
  /-- NOTIFY_ACK (R297): An endpoint acknowledges a NOTIFY sent by the module. -/
  | notifyAck (port : Nat) (msg : Msg)
  /-- REQUEST_TIMEOUT (R354): A module request without response within REQ_TO is resent, or fails after RETRIES. -/
  | requestTimeout (reqid : Nat)
  /-- COMPLETION_RECORD_EXPIRE (R356): A completion record reaches REPLAY_WIN and is removed, freeing store space. -/
  | completionRecordExpire (domain : Nat) (device : Nat) (reqid : Nat)
  /-- MIRROR_WRITE (R382): The standby applies a mirrored line write and stores its completion record before answering. -/
  | mirrorWrite (port : Nat) (msg : Msg)
  /-- MIRROR_TILE (R383): The standby writes a tile's mirrored data into the journal and answers. -/
  | mirrorTile (port : Nat) (msg : Msg)
  /-- MIRROR_COMMIT (R383): The standby moves a committed tile from the journal into its extents in tile order. -/
  | mirrorCommit (port : Nat) (msg : Msg)
  /-- MIRROR_ADD (R312): The standby applies a descriptor completion's addition to a mirrored signal word as a SIGNAL. -/
  | mirrorAdd (port : Nat) (msg : Msg)
  /-- MIRROR_CFG (R379): The standby applies a mirrored command fragment, bulk acceptance or bulk completion. -/
  | mirrorCfg (port : Nat) (msg : Msg)
  /-- MIRROR_BEAT (R385): A heartbeat from the twin gives its state and pair generation. -/
  | mirrorBeat (port : Nat) (msg : Msg)
  /-- MIRROR_ACK (R383): The standby acknowledges a mirror stream message. -/
  | mirrorAck (port : Nat) (msg : Msg)
  /-- MIRROR_BEAT_TIMER (R380): Every 10 µs a MIRROR_BEAT is sent on every mirror port. -/
  | mirrorBeatTimer
  /-- MIRROR_LOSS (R385): The mirror is lost by timeout, port loss or FENCE, and the twin changes state. -/
  | mirrorLoss
  /-- MIRROR_RESTORED (R385): The mirror returns, resuming ACTIVE or starting SYNCING. -/
  | mirrorRestored
  /-- SOLO_WAIT_EXPIRE (R385): An ISOLATED active without TWIN_SOLO halts itself. -/
  | soloWaitExpire
  /-- PAIR_FORM (R376): With matching settings and every mirror port UP, the pair forms and the primary starts the initial copy. -/
  | pairForm
  /-- TAKEOVER_DONE (R388): A promoted twin finishes its takeover, enters SOLO and sends TWIN_ACTIVE. -/
  | takeoverDone
  /-- RESYNC_DONE (R392): The last page is copied to the syncing twin, clearing the dirty map. -/
  | resyncDone
  /-- REVERT_HOLD_EXPIRE (R393): The primary has been STANDBY for REVERT_HOLD and control is handed back. -/
  | revertHoldExpire
  /-- TIME_EXCHANGE_TIMER (R370): Every 1 ms a follower sends a time exchange on each path in use. -/
  | timeExchangeTimer
  /-- MASTER_LOST (R368): Three missed exchanges with the master make a member take the next reachable master. -/
  | masterLost
  /-- MASTER_RETURN (R368): The named master reachable and locked for 1 s is taken back as master. -/
  | masterReturn
  /-- TIME_HOLDOVER (R373): Three missed exchanges with the source put the time base in holdover. -/
  | timeHoldover
  /-- ETH_LINK_UP (R397): An Ethernet port completes auto-negotiation and training. -/
  | ethLinkUp (port : Nat)
  /-- ETH_FRAME_DISCARD (R397): A frame that is too long, unsupported or to another UDP port is discarded and counted. -/
  | ethFrameDiscard (port : Nat) (length : Nat) (reason : EthDiscard)
  /-- ARP (R397): An ARP request for the port's address is answered. -/
  | arp (port : Nat) (mac : Nat) (ip : Nat) (target : Nat)
  /-- NEIGHBOUR_DISCOVERY (R397): An IPv6 neighbour solicitation for the port's address is answered. -/
  | neighbourDiscovery (port : Nat) (mac : Nat) (ip : Nat) (target : Nat)
  /-- ICMP_ECHO (R397): An ICMP or ICMPv6 echo to the port is answered. -/
  | icmpEcho (port : Nat) (ip : Nat) (target : Nat) (ident : Nat) (seq : Nat) (data : List Byte)
  /-- PFC_FRAME (R399): A PFC frame from the peer pauses or releases ROCE_PCP. -/
  | pfcFrame (port : Nat) (priority : Nat) (xoff : Bool)
  /-- RDMA_WRITE (R404): An RDMA WRITE packet is checked, translated on its first packet and applied, acknowledged after the last packet. -/
  | rdmaWrite (port : Nat) (pkt : RocePkt)
  /-- RDMA_READ_REQUEST (R402): An RDMA READ request is checked and translated and its response packets are scheduled. -/
  | rdmaReadRequest (port : Nat) (pkt : RocePkt)
  /-- READ_RESPONSE_SEND (R403): Each READ response packet checks epochs, reads and is sent, or waits for a fence. -/
  | readResponseSend (qp : Nat)
  /-- COMPARE_AND_SWAP (R400): A RoCEv2 compare-and-swap is applied at the home and atomically acknowledged. -/
  | compareAndSwap (port : Nat) (pkt : RocePkt)
  /-- FETCH_AND_ADD (R407): A RoCEv2 fetch-and-add is applied at the home as an atomic operation. -/
  | fetchAndAdd (port : Nat) (pkt : RocePkt)
  /-- INVALID_ROCE_PACKET (R405): An unsupported opcode, illegal length or excess outstanding request is answered NAK and the queue pair enters ERROR. -/
  | invalidRocePacket (port : Nat) (pkt : RocePkt)
  /-- CNP (R406): A congestion notification halves the queue pair's egress rate limit. -/
  | cnp (port : Nat) (qp : Nat)
  /-- CNP_RATE_TIMER (R406): After 50 µs without CNP, the queue pair's rate limit rises by 5 Gb/s. -/
  | cnpRateTimer (qp : Nat)
  /-- PTP_MESSAGE (R408): A PTP message is timestamped and used by the ordinary clock. -/
  | ptpMessage (port : Nat) (msg : PtpMsg)
  /-- ANNOUNCE_TIMEOUT (R409): Three missed announce intervals move PTP to the other network's port. -/
  | announceTimeout
  /-- EGRESS_FRAME_SEND (R415): The egress scheduler sends the head frame with the smallest finish tag after strict-priority classes. -/
  | egressFrameSend (port : Nat)
  /-- GATE_ENTRY_BOUNDARY (R416): A gate entry begins, opening its tenant on Ethernet egress or gated dies. -/
  | gateEntryBoundary (gate : GateSite)
  /-- BUTTRESS_ERROR (R471): An error reaches the Buttress and opens, merges or overflows a record. -/
  | buttressError (err : ErrIn)
  /-- WATCHDOG_EXPIRE (R477): WD_MS passes without a BTR_WDOG write, recording FW_WATCHDOG and restarting the Mason cores. -/
  | watchdogExpire
  /-- FATAL_SAFE_STATE_ENTRY (R479): A fatal cause drives the safe-state wire and every block stops, fences, drains and self-refreshes. -/
  | fatalSafeStateEntry (causes : List ErrIn)
  /-- SAFE_STATE_CORE_RELEASE (R479): Ten µs after entry the Plinth releases the Mason cores into the boot ROM. -/
  | safeStateCoreRelease
  /-- WAKE (R468): An enabled SMBus, pin or VANA wake source wakes the module from standby. -/
  | wake (source : Nat)
  /-- PLN_TIMER_REACHED (R468): The time base reaches PLN_TIMER and wakes the module. -/
  | plnTimerReached
  /-- POWER_UP (R516): The supplies have met their condition for 10 ms and the rails ramp in order, starting the boot ROM. -/
  | powerUp
  /-- POWER_ON_RESET (R535): VAUX rising through 3.0 V or RESET_N held low resets everything including the Plinth. -/
  | powerOnReset (smbAddr : Nat)
  /-- JTAG_TRST (R535): TRST_N resets only the JTAG test access port. -/
  | jtagTrst
  /-- POWER_SAMPLE (R518): Every 10 µs the module samples PWR52 voltage and current and updates input power. -/
  | powerSample (milliVolts : Nat) (milliAmps : Nat)
  /-- LIMITER_TICK (R520): The power, junction and stack limiters lower the cap every 100 µs or raise it every 1 ms. -/
  | limiterTick
  /-- PLATE_MODEL_UPDATE (R522): Every 1 ms the plate load L is updated, withdrawing or rearming the peak. -/
  | plateModelUpdate
  /-- RIDE_THROUGH_ENTER (R524): PWR52 below 44 V enters ride-through, capping activity and withdrawing the peak. -/
  | rideThroughEnter
  /-- RIDE_THROUGH_EXIT (R524): PWR52 at or above 45 V for 1 ms ends ride-through. -/
  | rideThroughExit
  /-- BUS_LOW_TIMEOUT (R524): PWR52 below 44 V for 20 ms or below 40 V for 50 µs raises SUPPLY_FAULT. -/
  | busLowTimeout
  /-- VANA_FAULT (R514): VANA out of range for 10 µs raises SUPPLY_FAULT. -/
  | vanaFault
  /-- VAUX_LOSS (R514): VAUX below 3.0 V turns off every converter. -/
  | vauxLoss
  /-- RAIL_FAULT (R517): A rail out of regulation for 10 µs in service raises SUPPLY_FAULT. -/
  | railFault (rail : Nat)
  /-- JUNCTION_SENSOR_READ (R528): Every 10 µs each junction sensor is read for the governor. -/
  | junctionSensorRead (sensor : Nat) (celsius : Nat)
  /-- THERMAL_TRIP (R528): A sensor reaching 105 °C drives the Buttress directly to THERMAL_TRIP. -/
  | thermalTrip (sensor : Nat)
  /-- CLOCK_LOSS (R534): REFCLK absent or off by 1,000 ppm for 10 µs, or a PLL unlocked, raises CLOCK_LOSS. -/
  | clockLoss (pll : Nat)
  /-- PLL_RELOCK (R536): A PLL relocks after a transient within its hold range and raises MIC source 80. -/
  | pllRelock (pll : Nat)
  /-- CONTEXT_DRAIN_DONE (R250): A destroyed context finishes draining, becomes FREE and applies any deferred create. -/
  | contextDrainDone (context : Nat)
  /-- COURSE_DRAIN_DONE (R458): A disabled course finishes draining, then any pending enable takes effect. -/
  | courseDrainDone (course : Nat)
  /-- PORT_DRAIN_DONE (R361): A disabled fabric port's drain ends and it enters DISABLED, or DOWN for a pending enable. -/
  | portDrainDone (port : Nat)
  /-- ETH_PORT_DRAIN_DONE (R418): A disabled Ethernet port's drain ends, then a pending enable trains it. -/
  | ethPortDrainDone (port : Nat)
  /-- QP_DESTROY_DONE (R418): A destroyed queue pair's request ends and the queue pair is freed. -/
  | qpDestroyDone (qp : Nat)
  /-- ENDPOINT_RETIRE_DONE (R220): No entry names the retiring endpoint by pointer, and its index is freed. -/
  | endpointRetireDone (endpoint : Nat)
  /-- INITIAL_COPY_DONE (R394): The initial copy of a forming pair ends and TWIN_SET's final reply leaves. -/
  | initialCopyDone
  /-- FW_VERIFY_DONE (R452): Verification of the staged image ends with OK or BAD_CREDENTIAL. -/
  | fwVerifyDone
  /-- FW_COMMIT_DONE (R453): The staged image has been written to flash and the final reply leaves. -/
  | fwCommitDone
  /-- MEMTEST_DONE (R455): The pattern test ends and returns its mismatches. -/
  | memtestDone (mismatches : List Word64)
  /-- POOL_HOLD_DONE (R530): Ports are disabled and stacks are in self-refresh, and POOL_HOLD's final reply leaves. -/
  | poolHoldDone
  /-- POOL_RESUME_DONE (R530): Every lit port is UP or 500 µs passed, and POOL_RESUME's final reply leaves. -/
  | poolResumeDone
  /-- IMAGE_READ_DONE (R553): The image mover has read and placed the whole image. -/
  | imageReadDone (image : List Byte)
  /-- IMAGE_VERIFY_DONE (R557): The boot ROM verifies the image, starting the firmware or the recovery load. -/
  | imageVerifyDone
  /-- D2D_START_FAIL (R556): A die-to-die link untrained or PLL unlocked by step 4 halts the start-up. -/
  | d2dStartFail (dies : Nat)
  /-- RECOVERY_HELLO_TIMER (R558): Every 1 s the ROM sends RECOVERY_HELLO on each port in use. -/
  | recoveryHelloTimer
  /-- RECOVERY_PORT_TIMEOUT (R558): A recovery port not UP within 2 s is replaced by the next port of its network. -/
  | recoveryPortTimeout (net : Nat)
  /-- RECOVERY_OFFER (R559): The first valid offer starts a TFTP read of the recovery image. -/
  | recoveryOffer (net : Nat) (version : Nat) (bootid : Word64) (size : Nat) (server : Nat) (name : List Byte)
  /-- TFTP_DATA (R559): A block of the recovery image arrives and passes to the image mover. -/
  | tftpData (block : Nat) (data : List Byte)
  /-- TRANSFER_STALL (R560): A recovery transfer stopped for 5 s counts a failed attempt and hellos resume. -/
  | transferStall
  /-- STATUS_WORD (R545): PMBus read of the INPUT and TEMPERATURE status bits. -/
  | statusWord
  /-- STATUS_INPUT (R545): PMBus read or write-1-to-clear of the input status. -/
  | statusInput (clear : Option Nat)
  /-- STATUS_TEMPERATURE (R545): PMBus read or write-1-to-clear of the temperature status. -/
  | statusTemperature (clear : Option Nat)
  /-- READ_VIN (R545): PMBus read of the PWR52 voltage. -/
  | readVin
  /-- READ_IIN (R545): PMBus read of the PWR52 current. -/
  | readIin
  /-- READ_TEMPERATURE_1 (R545): PMBus read of the hottest junction. -/
  | readTemperature1
  /-- READ_TEMPERATURE_2 (R545): PMBus read of the hottest stack. -/
  | readTemperature2
  /-- READ_PIN (R545): PMBus read of input power. -/
  | readPin
  /-- MFR_ID (R545): PMBus block read of the manufacturer ID. -/
  | mfrId
  /-- MFR_MODEL (R545): PMBus block read of the model. -/
  | mfrModel
  /-- MFR_REVISION (R545): PMBus block read of the revision. -/
  | mfrRevision
  /-- MFR_SHELF_STATE (R546): PMBus write or read of PWR_SHELF, the only means of changing it. -/
  | mfrShelfState (write : Option Nat)
  /-- MFR_BOOT_STATUS (R545): PMBus read of the low half of PLN_BOOT. -/
  | mfrBootStatus
  /-- MFR_MBOX_WRITE (R547): An SMBus fragment of an Evous command is collected and submitted to slot 8 on LAST. -/
  | mfrMboxWrite (bytes : List Byte)
  /-- MFR_MBOX_READ (R547): An SMBus read returns the next fragment of the oldest unread reply, or 0x7F. -/
  | mfrMboxRead
  /-- ALERT_RESPONSE (R544): The module answers the alert response address with its own address. -/
  | alertResponse
  /-- IDCODE (R549): JTAG instruction selecting the identification register. -/
  | idcode
  /-- BYPASS (R549): JTAG bypass instruction. -/
  | bypass
  /-- SAMPLE_PRELOAD (R549): JTAG instruction sampling or preloading the boundary register. -/
  | samplePreload (preload : Nat)
  /-- EXTEST (R549): JTAG external test of the boundary register pins. -/
  | extest
  /-- REGACC (R549): JTAG read or write of any address as a Mason core does. -/
  | regacc (addr : Nat) (size : Nat) (store : Option Word64)
  /-- ANCHOR_LOAD (R549): JTAG writes a certificate into anchor slot 0 when every slot is empty. -/
  | anchorLoad (cert : List Byte)
  /-- SYMBOL_LOCK_REGAINED (R334): A wavelength or link regains symbol lock, ending a lock loss shorter than LINKDOWN_T or letting a relocked wavelength be added by a width change. -/
  | symbolLockRegained (port : Nat) (wavelength : Option Nat)
  /-- ETH_LINK_DOWN (R412): An Ethernet port loses its link, which leaves ETH_STAT.LINK, the event copies of its network and the recovery port choice to change. -/
  | ethLinkDown (port : Nat)
  /-- GUARD_START (R498): The last GUARD µs of a die gate entry begin, so no access enters and the courses preempt their running contexts. -/
  | guardStart (die : Nat)
  /-- COMMAND_ADDRESS_PARITY_ERROR (R116): A stack reports a command-and-address parity error and the controller issues the command again. -/
  | commandAddressParityError (die : Nat) (channel : Nat)
  deriving DecidableEq, Repr

end Sys2Proof
end

