-- ==== Sys2Proof/Decode.lean ====
section
/-!
DEFINITION. The command that a word of the opcode table spells. The table gives no row any bits: a command of this block
comes as a register access, a message, a flit, a frame, a packet or an event, whose own layouts are read by the meanings
(Operands, Mailbox, Link). So no word spells a command.
-/

namespace Sys2Proof

/-- The command whose bits are w, numbered as the opcode table numbers them: none, since no row has bits.
DESIGN CHOICE: assumption 1. -/
def decodeTableWord (_nbits _w : Nat) : Option Instr := none

end Sys2Proof
end

