-- ==== Sys2Proof/Config.lean ====
section
/-!
DEFINITION. The free values of the model: constants without a body, of which nothing can be proved.
Each is applied to the counter State.free (or to the operands it depends on), so a fresh value
comes out each time. The assumption log names every use.
-/

namespace Sys2Proof.Config

/-- A 32-bit value that the spec leaves open. -/
opaque freeWord32 : Nat → Word32

/-- A 64-bit value that the spec leaves open. -/
opaque freeWord64 : Nat → Word64

/-- A number that the spec leaves open. -/
opaque freeNat : Nat → Nat

/-- A choice that the spec leaves open. -/
opaque freeBool : Nat → Bool

/-- Byte j of a byte string that the spec leaves open. -/
opaque freeByte : Nat → Nat → Byte

/-- The fused secrets of one part: bit i of the device secret (R502). -/
opaque fusedSecret : Nat → Byte

/-- Byte j of KEYDIG_k, fused: the digest of firmware signing key k (R502). -/
opaque keyDigest : Nat → Nat → Byte

/-- Byte j of the digest of the mason's mark, which is derived from the device secret (R505, R511). -/
opaque markDigest : Nat → Byte

/-- Byte j of measurement m over what it measures (R506). -/
opaque measurement : Nat → List Byte → Nat → Byte

/-- The boot ROM: byte at an offset (R423). -/
opaque bootRom : Nat → Byte

/-- The rest of an SPDM response to a request, given the measurements (R506). -/
opaque spdmBody : List Byte → List Byte → List Byte

/-- Byte j of the SHA-384 digest of a byte string (R427, R502). The digest is fixed outside this spec.
DESIGN CHOICE: assumption 138. -/
opaque sha384 : List Byte → Nat → Byte

/-- Whether a signature by a brainpool P384 key over a message verifies: key, message, signature.
DESIGN CHOICE: assumption 138. -/
opaque signatureGood : List Byte → List Byte → List Byte → Bool

/-- Byte j of the DER subject public key info held in a certificate. -/
opaque certificateKey : List Byte → Nat → Byte

/-- Whether a certificate chain leads to the given anchor certificate. -/
opaque chainLeadsTo : List (List Byte) → List Byte → Bool

/-- BASE_MAC, the base of the Ethernet MAC addresses, held in fuses (R398, R502). -/
opaque baseMac : Nat

/-- The priority word of the module's own PTP clock in the best master choice (R408). DESIGN CHOICE: assumption 132. -/
opaque ptpPriority : Nat

/-- The set of the view cache that a key falls into (R77). DESIGN CHOICE: assumption 51. -/
opaque viewCacheSet : Nat → Nat

end Sys2Proof.Config
end

