-- ==== Sys2Proof/Machine/Bits.lean ====
section
/-!
DEFINITION. Bit fields, byte order and the link CRC.
-/

namespace Sys2Proof.Machine

/-- Field [hi:lo] of a number that stands for a word (R5). -/
def bits (w hi lo : Nat) : Nat := (w / 2 ^ lo) % 2 ^ (hi + 1 - lo)

/-- Bit n of a number that stands for a word. -/
def bit (w n : Nat) : Bool := w.testBit n

/-- A flag as the number 0 or 1. -/
def b2n (b : Bool) : Nat := if b then 1 else 0

/-- Replace field [hi:lo] of a number that stands for a word. -/
def setBits (w hi lo v : Nat) : Nat :=
  w - bits w hi lo * 2 ^ lo + (v % 2 ^ (hi + 1 - lo)) * 2 ^ lo

/-- Set or clear bit n of a number that stands for a word. -/
def setBit (w n : Nat) (b : Bool) : Nat := setBits w n n (b2n b)

/-- The little-endian number of a byte string (R8). -/
def leNat : List Byte → Nat
  | [] => 0
  | b :: t => b.toNat + 256 * leNat t

/-- The n little-endian bytes of a number (R8). -/
def leBytes : Nat → Nat → List Byte
  | 0, _ => []
  | n + 1, v => BitVec.ofNat 8 v :: leBytes n (v / 256)

/-- The bytes of a string from an offset, zero beyond its end. -/
def slice (l : List Byte) (off len : Nat) : List Byte :=
  let t := (l.drop off).take len
  t ++ List.replicate (len - t.length) 0#8

/-- The little-endian number held in len bytes from an offset. -/
def leAt (l : List Byte) (off len : Nat) : Nat := leNat (slice l off len)

/-- A byte string padded with zeros to a length. -/
def padTo (n : Nat) (l : List Byte) : List Byte := l ++ List.replicate (n - l.length) 0#8

/-- The bytes of a list of 64-bit words (R432). -/
def wordsBytes (l : List Word64) : List Byte := l.flatMap (fun w => leBytes 8 w.toNat)

/-- The 64-bit words of a byte string, the last one padded (R432): n words. -/
def bytesWords : Nat → List Byte → List Word64
  | 0, _ => []
  | n + 1, l => BitVec.ofNat 64 (leAt l 0 8) :: bytesWords n (l.drop 8)

/-- A signed number from its two's complement field of n bits. -/
def sext (n w : Nat) : Int := if w % 2 ^ n < 2 ^ (n - 1) then ((w % 2 ^ n : Nat) : Int) else ((w % 2 ^ n : Nat) : Int) - (2 ^ n : Nat)

/-- The field of n bits that holds a signed number in two's complement. -/
def toField (n : Nat) (i : Int) : Nat := (i % ((2 ^ n : Nat) : Int)).toNat

/-- One bit of the link CRC (R322): reflected polynomial, least significant bit first. -/
def crcBit : Nat → Nat → Nat
  | 0, r => r
  | n + 1, r => crcBit n (if r % 2 = 1 then (r / 2) ^^^ 0xC96C5795D7870F42 else r / 2)

/-- The CRC register after a byte string. -/
def crcFold : List Byte → Nat → Nat
  | [], r => r
  | b :: t, r => crcFold t (crcBit 8 (r ^^^ b.toNat))

/-- CRC-64 of a byte string (R322). -/
def crc64 (l : List Byte) : Nat := (crcFold l 0xFFFFFFFFFFFFFFFF) ^^^ 0xFFFFFFFFFFFFFFFF

/-- Count of set bits among the low n bits. -/
def popcount : Nat → Nat → Nat
  | 0, _ => 0
  | n + 1, w => w % 2 + popcount n (w / 2)

/-- The numbers below n whose bit is set in a mask, rising. -/
def maskList (n w : Nat) : List Nat := (List.range n).filter (fun i => bit w i)

/-- The bytes of an ASCII text. -/
def ascii (t : String) : List Byte := t.toList.map (fun c => BitVec.ofNat 8 c.toNat)

end Sys2Proof.Machine
end

