-- ==== Sys2Proof/Machine/Assoc.lean ====
section
/-!
DEFINITION. Sparse tables: a list of key and value pairs with rising keys, and the named operations
over them. What a key that is not listed reads as is said by the caller.
-/

namespace Sys2Proof.Machine

/-- A sparse table keyed by a number. -/
abbrev Tab (α : Type) := List (Nat × α)

/-- The entry of a key, if one is listed. -/
def tget {α : Type} : Tab α → Nat → Option α
  | [], _ => none
  | (k, v) :: t, a => if a = k then some v else tget t a

/-- The entry of a key, or the given value where none is listed. -/
def tgetD {α : Type} (t : Tab α) (k : Nat) (d : α) : α := (tget t k).getD d

/-- The table with one entry set. -/
def tset {α : Type} : Tab α → Nat → α → Tab α
  | [], k, v => [(k, v)]
  | (k', v') :: t, k, v =>
    if k < k' then (k, v) :: (k', v') :: t
    else if k = k' then (k, v) :: t
    else (k', v') :: tset t k v

/-- The table without a key. -/
def tdel {α : Type} : Tab α → Nat → Tab α
  | [], _ => []
  | (k', v') :: t, k => if k = k' then tdel t k else (k', v') :: tdel t k

/-- The keys of a table are strictly rising, and all above the given bound. -/
def tsortedFrom {α : Type} : Tab α → Nat → Bool
  | [], _ => true
  | (k, _) :: t, b => decide (b ≤ k) && tsortedFrom t (k + 1)

/-- Rewrite one entry, which reads as the given value where none is listed. -/
def tupd {α : Type} (t : Tab α) (k : Nat) (d : α) (f : α → α) : Tab α := tset t k (f (tgetD t k d))

end Sys2Proof.Machine
end

