-- ==== Sys2Proof/Machine/RegMap.lean ====
section
/-!
DEFINITION. The register map: one row per register table of the spec, with its address, its access
masks and its reset value (R9 to R17), and one address function per register under the manual's name.
-/

namespace Sys2Proof.Machine

/-- One register of the map. rw, w1s and wo are the masks of the bits a write can change, set or
start; rc marks a register that a read clears; named marks a register that the firmware changes only
through a named command (R455); half is 1 for a _LO and 2 for a _HI register (R10). -/
structure RegRow where
  name : String
  base : Nat
  dims : List (Nat × Nat)
  rw : Nat
  w1s : Nat
  wo : Nat
  rc : Bool
  reset : Nat
  named : Bool
  half : Nat
  deriving DecidableEq, Repr

namespace Reg

/-- XLT_WINw_CTL (R64). -/
def XLT_WIN_CTL (w : Nat) : Nat := 0x15020000 + 0x10 * w

/-- XLT_WINw_BASE_LO (R64). -/
def XLT_WIN_BASE_LO (w : Nat) : Nat := 0x15020004 + 0x10 * w

/-- XLT_WINw_BASE_HI (R64). -/
def XLT_WIN_BASE_HI (w : Nat) : Nat := 0x15020008 + 0x10 * w

/-- XLT_WINw_SRC (R64). -/
def XLT_WIN_SRC (w : Nat) : Nat := 0x1502000C + 0x10 * w

/-- XLT_LEGACY_CTL (R70). -/
def XLT_LEGACY_CTL : Nat := 0x15000100

/-- XLT_LEGACY_PORTS (R70). -/
def XLT_LEGACY_PORTS : Nat := 0x15000104

/-- XLT_LEGNODE_m (R70). -/
def XLT_LEGNODE (m : Nat) : Nat := 0x15030000 + 0x4 * m

/-- FPT_RJOBj (R74). -/
def FPT_RJOB (k : Nat) (j : Nat) : Nat := 0x13007000 + 0x10000 * k + 0x4 * j

/-- FPT_RANKb_x (R74). -/
def FPT_RANK (k : Nat) (b : Nat) (x : Nat) : Nat := 0x13008000 + 0x10000 * k + 0x4000 * b + 0x4 * x

/-- XLT_MIG_CTL (R115). -/
def XLT_MIG_CTL : Nat := 0x15000000

/-- XLT_FENCE_OPEN_LO (R115). -/
def XLT_FENCE_OPEN_LO : Nat := 0x15000200

/-- XLT_FENCE_OPEN_HI (R115). -/
def XLT_FENCE_OPEN_HI : Nat := 0x15000204

/-- XLT_SHADOW_STAT (R115). -/
def XLT_SHADOW_STAT : Nat := 0x15000208

/-- XLT_VCACHE_MISS_LO (R115). -/
def XLT_VCACHE_MISS_LO : Nat := 0x15000210

/-- XLT_VCACHE_MISS_HI (R115). -/
def XLT_VCACHE_MISS_HI : Nat := 0x15000214

/-- XLT_FENCEf (R115). -/
def XLT_FENCE (f : Nat) : Nat := 0x15000300 + 0x4 * f

/-- XLT_FQt_CFG (R115). -/
def XLT_FQ_CFG (t : Nat) : Nat := 0x15040000 + 0x10 * t

/-- XLT_FQt_OPEN (R115). -/
def XLT_FQ_OPEN (t : Nat) : Nat := 0x15040004 + 0x10 * t

/-- XLT_FQt_OVF (R115). -/
def XLT_FQ_OVF (t : Nat) : Nat := 0x15040008 + 0x10 * t

/-- XLT_FQt_MERGE (R115). -/
def XLT_FQ_MERGE (t : Nat) : Nat := 0x1504000C + 0x10 * t

/-- STK_CTL (R147). -/
def STK_CTL (n : Nat) (s : Nat) : Nat := 0x20000000 + 0x1000000 * n + 0x100000 * s

/-- STK_IDLE (R147). -/
def STK_IDLE (n : Nat) (s : Nat) : Nat := 0x20000004 + 0x1000000 * n + 0x100000 * s

/-- STK_WDRAIN (R147). -/
def STK_WDRAIN (n : Nat) (s : Nat) : Nat := 0x20000008 + 0x1000000 * n + 0x100000 * s

/-- STK_RETRAIN (R147). -/
def STK_RETRAIN (n : Nat) (s : Nat) : Nat := 0x2000000C + 0x1000000 * n + 0x100000 * s

/-- STK_TEMP (R147). -/
def STK_TEMP (n : Nat) (s : Nat) : Nat := 0x20000010 + 0x1000000 * n + 0x100000 * s

/-- STK_LATi (R147). -/
def STK_LAT (n : Nat) (s : Nat) (i : Nat) : Nat := 0x20000020 + 0x1000000 * n + 0x100000 * s + 0x4 * i

/-- STK_LATECNTi (R147). -/
def STK_LATECNT (n : Nat) (s : Nat) (i : Nat) : Nat := 0x20000040 + 0x1000000 * n + 0x100000 * s + 0x4 * i

/-- STK_PASRj (R147). -/
def STK_PASR (n : Nat) (s : Nat) (j : Nat) : Nat := 0x20000080 + 0x1000000 * n + 0x100000 * s + 0x4 * j

/-- STK_CHSTATh (R147). -/
def STK_CHSTAT (n : Nat) (s : Nat) (h : Nat) : Nat := 0x20000100 + 0x1000000 * n + 0x100000 * s + 0x4 * h

/-- STK_ECC_CE (R182). -/
def STK_ECC_CE (n : Nat) (s : Nat) : Nat := 0x20000200 + 0x1000000 * n + 0x100000 * s

/-- STK_ECC_DUE (R182). -/
def STK_ECC_DUE (n : Nat) (s : Nat) : Nat := 0x20000204 + 0x1000000 * n + 0x100000 * s

/-- STK_ECC_POISON (R182). -/
def STK_ECC_POISON (n : Nat) (s : Nat) : Nat := 0x20000208 + 0x1000000 * n + 0x100000 * s

/-- STK_INJ_CTL (R182). -/
def STK_INJ_CTL (n : Nat) (s : Nat) : Nat := 0x20000210 + 0x1000000 * n + 0x100000 * s

/-- STK_INJ_SLOT (R182). -/
def STK_INJ_SLOT (n : Nat) (s : Nat) : Nat := 0x20000214 + 0x1000000 * n + 0x100000 * s

/-- SEA_CTL (R183). -/
def SEA_CTL (n : Nat) : Nat := 0x20600000 + 0x1000000 * n

/-- SEA_STAT (R183). -/
def SEA_STAT (n : Nat) : Nat := 0x20600004 + 0x1000000 * n

/-- SEA_REBUILT (R183). -/
def SEA_REBUILT (n : Nat) : Nat := 0x20600010 + 0x1000000 * n

/-- SEA_LOST (R183). -/
def SEA_LOST (n : Nat) : Nat := 0x20600014 + 0x1000000 * n

/-- SEA_MISMATCH (R183). -/
def SEA_MISMATCH (n : Nat) : Nat := 0x20600018 + 0x1000000 * n

/-- SEA_INJ_CTL (R183). -/
def SEA_INJ_CTL (n : Nat) : Nat := 0x20600020 + 0x1000000 * n

/-- SEA_INJ_PAGE (R183). -/
def SEA_INJ_PAGE (n : Nat) : Nat := 0x20600024 + 0x1000000 * n

/-- PNT_CTL (R184). -/
def PNT_CTL (n : Nat) : Nat := 0x20700000 + 0x1000000 * n

/-- PNT_POS (R184). -/
def PNT_POS (n : Nat) : Nat := 0x20700004 + 0x1000000 * n

/-- PNT_PASSES (R184). -/
def PNT_PASSES (n : Nat) : Nat := 0x20700008 + 0x1000000 * n

/-- PNT_PASSEND_LO (R184). -/
def PNT_PASSEND_LO (n : Nat) : Nat := 0x20700010 + 0x1000000 * n

/-- PNT_PASSEND_HI (R184). -/
def PNT_PASSEND_HI (n : Nat) : Nat := 0x20700014 + 0x1000000 * n

/-- PNT_FOUND (R184). -/
def PNT_FOUND (n : Nat) : Nat := 0x20700018 + 0x1000000 * n

/-- DIR_CTL (R221). -/
def DIR_CTL : Nat := 0x14000000

/-- DIR_STAT (R221). -/
def DIR_STAT : Nat := 0x14000004

/-- DIR_TXN (R221). -/
def DIR_TXN : Nat := 0x14000008

/-- DIR_SWEEP (R221). -/
def DIR_SWEEP : Nat := 0x1400000C

/-- DIR_VICTIM_LO (R221). -/
def DIR_VICTIM_LO : Nat := 0x14000010

/-- DIR_VICTIM_HI (R221). -/
def DIR_VICTIM_HI : Nat := 0x14000014

/-- DIR_RCLTO (R221). -/
def DIR_RCLTO : Nat := 0x14000018

/-- DIR_POISONED (R221). -/
def DIR_POISONED : Nat := 0x1400001C

/-- DIR_REQHOLD (R221). -/
def DIR_REQHOLD : Nat := 0x14000020

/-- DIR_PUBCONF (R221). -/
def DIR_PUBCONF : Nat := 0x14000024

/-- DIR_LATE_DISCARD (R221). -/
def DIR_LATE_DISCARD : Nat := 0x14000028

/-- DIR_EPx (R221). -/
def DIR_EP (x : Nat) : Nat := 0x14001000 + 0x4 * x

/-- XLT_SCHED_CTL (R260). -/
def XLT_SCHED_CTL : Nat := 0x15000400

/-- XLT_SCHED_STAT (R260). -/
def XLT_SCHED_STAT : Nat := 0x15000404

/-- XLT_ADMIT_REFUSED (R260). -/
def XLT_ADMIT_REFUSED : Nat := 0x15000408

/-- XLT_TAIL_IGNORED (R260). -/
def XLT_TAIL_IGNORED : Nat := 0x1500040C

/-- XLT_PREEMPT_LO (R260). -/
def XLT_PREEMPT_LO : Nat := 0x15000410

/-- XLT_PREEMPT_HI (R260). -/
def XLT_PREEMPT_HI : Nat := 0x15000414

/-- XLT_CTXx_CFG (R260). -/
def XLT_CTX_CFG (x : Nat) : Nat := 0x15050000 + 0x10 * x

/-- XLT_CTXx_STAT (R260). -/
def XLT_CTX_STAT (x : Nat) : Nat := 0x15050004 + 0x10 * x

/-- CRS_CTL (R261). -/
def CRS_CTL (n : Nat) (c : Nat) : Nat := 0x20400000 + 0x1000000 * n + 0x100000 * c

/-- CRS_STAT (R261). -/
def CRS_STAT (n : Nat) (c : Nat) : Nat := 0x20400004 + 0x1000000 * n + 0x100000 * c

/-- CRS_TILES_LO (R261). -/
def CRS_TILES_LO (n : Nat) (c : Nat) : Nat := 0x20400008 + 0x1000000 * n + 0x100000 * c

/-- CRS_TILES_HI (R261). -/
def CRS_TILES_HI (n : Nat) (c : Nat) : Nat := 0x2040000C + 0x1000000 * n + 0x100000 * c

/-- CRS_BUSY_LO (R261). -/
def CRS_BUSY_LO (n : Nat) (c : Nat) : Nat := 0x20400010 + 0x1000000 * n + 0x100000 * c

/-- CRS_BUSY_HI (R261). -/
def CRS_BUSY_HI (n : Nat) (c : Nat) : Nat := 0x20400014 + 0x1000000 * n + 0x100000 * c

/-- CRS_FLUSH (R261). -/
def CRS_FLUSH (n : Nat) (c : Nat) : Nat := 0x20400018 + 0x1000000 * n + 0x100000 * c

/-- CRS_OOB (R261). -/
def CRS_OOB (n : Nat) (c : Nat) : Nat := 0x2040001C + 0x1000000 * n + 0x100000 * c

/-- CRS_CAPj (R261). -/
def CRS_CAP (n : Nat) (c : Nat) (j : Nat) : Nat := 0x20400040 + 0x1000000 * n + 0x100000 * c + 0x4 * j

/-- SIG_STAT (R314). -/
def SIG_STAT : Nat := 0x16000000

/-- SIG_NOTICES_LO (R314). -/
def SIG_NOTICES_LO : Nat := 0x16000008

/-- SIG_NOTICES_HI (R314). -/
def SIG_NOTICES_HI : Nat := 0x1600000C

/-- SIG_FIRED (R314). -/
def SIG_FIRED : Nat := 0x16000010

/-- SIG_NOTIFY_LOST (R314). -/
def SIG_NOTIFY_LOST : Nat := 0x16000014

/-- SIG_REVOKED (R314). -/
def SIG_REVOKED : Nat := 0x16000018

/-- SIG_POISONED (R314). -/
def SIG_POISONED : Nat := 0x1600001C

/-- LNT_STAT (R315). -/
def LNT_STAT : Nat := 0x16008000

/-- LNT_AHEAD (R315). -/
def LNT_AHEAD : Nat := 0x16008004

/-- LNT_STALE (R315). -/
def LNT_STALE : Nat := 0x16008008

/-- LNT_RANKMISS (R315). -/
def LNT_RANKMISS : Nat := 0x1600800C

/-- LNT_BROKEN (R315). -/
def LNT_BROKEN : Nat := 0x16008018

/-- LNT_RELEASES_LO (R315). -/
def LNT_RELEASES_LO : Nat := 0x16008010

/-- LNT_RELEASES_HI (R315). -/
def LNT_RELEASES_HI : Nat := 0x16008014

/-- LNT_OBJb_CFG (R315). -/
def LNT_OBJ_CFG (b : Nat) : Nat := 0x16010000 + 0x10 * b

/-- LNT_OBJb_GEN (R315). -/
def LNT_OBJ_GEN (b : Nat) : Nat := 0x16010004 + 0x10 * b

/-- LNT_OBJb_COUNT (R315). -/
def LNT_OBJ_COUNT (b : Nat) : Nat := 0x16010008 + 0x10 * b

/-- LNT_OBJb_BROKEN (R315). -/
def LNT_OBJ_BROKEN (b : Nat) : Nat := 0x1601000C + 0x10 * b

/-- FPT_CTL (R362). -/
def FPT_CTL (k : Nat) : Nat := 0x13000000 + 0x10000 * k

/-- FPT_STAT (R362). -/
def FPT_STAT (k : Nat) : Nat := 0x13000004 + 0x10000 * k

/-- FPT_TIMERS (R362). -/
def FPT_TIMERS (k : Nat) : Nat := 0x13000008 + 0x10000 * k

/-- FPT_LINK (R362). -/
def FPT_LINK (k : Nat) : Nat := 0x1300000C + 0x10000 * k

/-- FPT_TXFLITS_LO (R362). -/
def FPT_TXFLITS_LO (k : Nat) : Nat := 0x13000010 + 0x10000 * k

/-- FPT_TXFLITS_HI (R362). -/
def FPT_TXFLITS_HI (k : Nat) : Nat := 0x13000014 + 0x10000 * k

/-- FPT_RXFLITS_LO (R362). -/
def FPT_RXFLITS_LO (k : Nat) : Nat := 0x13000018 + 0x10000 * k

/-- FPT_RXFLITS_HI (R362). -/
def FPT_RXFLITS_HI (k : Nat) : Nat := 0x1300001C + 0x10000 * k

/-- FPT_FECCORR_LO (R362). -/
def FPT_FECCORR_LO (k : Nat) : Nat := 0x13000020 + 0x10000 * k

/-- FPT_FECCORR_HI (R362). -/
def FPT_FECCORR_HI (k : Nat) : Nat := 0x13000024 + 0x10000 * k

/-- FPT_FECUNC (R362). -/
def FPT_FECUNC (k : Nat) : Nat := 0x13000030 + 0x10000 * k

/-- FPT_CRCERR (R362). -/
def FPT_CRCERR (k : Nat) : Nat := 0x13000034 + 0x10000 * k

/-- FPT_REPLAYS (R362). -/
def FPT_REPLAYS (k : Nat) : Nat := 0x13000038 + 0x10000 * k

/-- FPT_LINKDOWNS (R362). -/
def FPT_LINKDOWNS (k : Nat) : Nat := 0x1300003C + 0x10000 * k

/-- FPT_RETRAINS (R362). -/
def FPT_RETRAINS (k : Nat) : Nat := 0x13000040 + 0x10000 * k

/-- FPT_WIDTHCHG (R362). -/
def FPT_WIDTHCHG (k : Nat) : Nat := 0x13000044 + 0x10000 * k

/-- FPT_HOPDROP (R362). -/
def FPT_HOPDROP (k : Nat) : Nat := 0x13000048 + 0x10000 * k

/-- FPT_DEDUP (R362). -/
def FPT_DEDUP (k : Nat) : Nat := 0x1300004C + 0x10000 * k

/-- FPT_FENCERX (R362). -/
def FPT_FENCERX (k : Nat) : Nat := 0x13000050 + 0x10000 * k

/-- FPT_MALFORMED (R362). -/
def FPT_MALFORMED (k : Nat) : Nat := 0x13000054 + 0x10000 * k

/-- FPT_CRSTALLv (R362). -/
def FPT_CRSTALL (k : Nat) (v : Nat) : Nat := 0x13000060 + 0x10000 * k + 0x4 * v

/-- FPT_RXPWRj (R362). -/
def FPT_RXPWR (k : Nat) (j : Nat) : Nat := 0x13000100 + 0x10000 * k + 0x4 * j

/-- FPT_TXPWRj (R362). -/
def FPT_TXPWR (k : Nat) (j : Nat) : Nat := 0x13000140 + 0x10000 * k + 0x4 * j

/-- FPT_GCTL (R363). -/
def FPT_GCTL : Nat := 0x13200000

/-- FPT_REQ (R363). -/
def FPT_REQ : Nat := 0x13200004

/-- FPT_REPLAY (R363). -/
def FPT_REPLAY : Nat := 0x13200008

/-- FPT_RECSTAT (R363). -/
def FPT_RECSTAT : Nat := 0x1320000C

/-- FPT_RECHOLD (R363). -/
def FPT_RECHOLD : Nat := 0x13200010

/-- FPT_LASERb_j (R363). -/
def FPT_LASER (b : Nat) (j : Nat) : Nat := 0x13200100 + 0x40 * b + 0x4 * j

/-- FPT_RTDOMd (R363). -/
def FPT_RTDOM (d : Nat) : Nat := 0x13200400 + 0x4 * d

/-- FPT_RTDEVv (R363). -/
def FPT_RTDEV (v : Nat) : Nat := 0x13200500 + 0x4 * v

/-- PWR_TB_CTL (R395). -/
def PWR_TB_CTL : Nat := 0x18001000

/-- PWR_TB_STAT (R395). -/
def PWR_TB_STAT : Nat := 0x18001004

/-- PWR_TB_NOW_LO (R395). -/
def PWR_TB_NOW_LO : Nat := 0x18001008

/-- PWR_TB_NOW_HI (R395). -/
def PWR_TB_NOW_HI : Nat := 0x1800100C

/-- PWR_TB_OFFSET (R395). -/
def PWR_TB_OFFSET : Nat := 0x18001010

/-- FPT_GRP_CTL (R396). -/
def FPT_GRP_CTL : Nat := 0x13220000

/-- FPT_GRP_MEMm (R396). -/
def FPT_GRP_MEM (m : Nat) : Nat := 0x13220010 + 0x4 * m

/-- FPT_TWIN_CTL (R396). -/
def FPT_TWIN_CTL : Nat := 0x13210000

/-- FPT_TWIN_PORTS (R396). -/
def FPT_TWIN_PORTS : Nat := 0x13210004

/-- FPT_TWIN_TIMERS (R396). -/
def FPT_TWIN_TIMERS : Nat := 0x13210008

/-- FPT_TWIN_STAT (R396). -/
def FPT_TWIN_STAT : Nat := 0x1321000C

/-- FPT_TWIN_GEN (R396). -/
def FPT_TWIN_GEN : Nat := 0x13210010

/-- FPT_TWIN_BYTES_LO (R396). -/
def FPT_TWIN_BYTES_LO : Nat := 0x13210018

/-- FPT_TWIN_BYTES_HI (R396). -/
def FPT_TWIN_BYTES_HI : Nat := 0x1321001C

/-- FPT_TWIN_STALL (R396). -/
def FPT_TWIN_STALL : Nat := 0x13210020

/-- FPT_TWIN_DIRTY (R396). -/
def FPT_TWIN_DIRTY : Nat := 0x13210024

/-- ETH_CTL (R419). -/
def ETH_CTL (k : Nat) : Nat := 0x17000000 + 0x10000 * k

/-- ETH_STAT (R419). -/
def ETH_STAT (k : Nat) : Nat := 0x17000004 + 0x10000 * k

/-- ETH_TXFRM_LO (R419). -/
def ETH_TXFRM_LO (k : Nat) : Nat := 0x17000008 + 0x10000 * k

/-- ETH_TXFRM_HI (R419). -/
def ETH_TXFRM_HI (k : Nat) : Nat := 0x1700000C + 0x10000 * k

/-- ETH_RXFRM_LO (R419). -/
def ETH_RXFRM_LO (k : Nat) : Nat := 0x17000010 + 0x10000 * k

/-- ETH_RXFRM_HI (R419). -/
def ETH_RXFRM_HI (k : Nat) : Nat := 0x17000014 + 0x10000 * k

/-- ETH_TXBYTES_LO (R419). -/
def ETH_TXBYTES_LO (k : Nat) : Nat := 0x17000018 + 0x10000 * k

/-- ETH_TXBYTES_HI (R419). -/
def ETH_TXBYTES_HI (k : Nat) : Nat := 0x1700001C + 0x10000 * k

/-- ETH_RXBYTES_LO (R419). -/
def ETH_RXBYTES_LO (k : Nat) : Nat := 0x17000020 + 0x10000 * k

/-- ETH_RXBYTES_HI (R419). -/
def ETH_RXBYTES_HI (k : Nat) : Nat := 0x17000024 + 0x10000 * k

/-- ETH_FECCORR_LO (R419). -/
def ETH_FECCORR_LO (k : Nat) : Nat := 0x17000028 + 0x10000 * k

/-- ETH_FECCORR_HI (R419). -/
def ETH_FECCORR_HI (k : Nat) : Nat := 0x1700002C + 0x10000 * k

/-- ETH_FCSERR (R419). -/
def ETH_FCSERR (k : Nat) : Nat := 0x17000030 + 0x10000 * k

/-- ETH_FECUNC (R419). -/
def ETH_FECUNC (k : Nat) : Nat := 0x17000034 + 0x10000 * k

/-- ETH_RXDROP (R419). -/
def ETH_RXDROP (k : Nat) : Nat := 0x17000038 + 0x10000 * k

/-- ETH_PFCRX (R419). -/
def ETH_PFCRX (k : Nat) : Nat := 0x1700003C + 0x10000 * k

/-- ETH_PFCTX (R419). -/
def ETH_PFCTX (k : Nat) : Nat := 0x17000040 + 0x10000 * k

/-- ETH_ECNCE (R419). -/
def ETH_ECNCE (k : Nat) : Nat := 0x17000044 + 0x10000 * k

/-- ETH_CNPTX (R419). -/
def ETH_CNPTX (k : Nat) : Nat := 0x17000048 + 0x10000 * k

/-- ETH_CNPRX (R419). -/
def ETH_CNPRX (k : Nat) : Nat := 0x1700004C + 0x10000 * k

/-- ETH_EGR_CTL (R419). -/
def ETH_EGR_CTL (k : Nat) : Nat := 0x17000100 + 0x10000 * k

/-- ETH_GATE_CYCLE (R419). -/
def ETH_GATE_CYCLE (k : Nat) : Nat := 0x17000104 + 0x10000 * k

/-- ETH_GATEj (R419). -/
def ETH_GATE (k : Nat) (j : Nat) : Nat := 0x17000200 + 0x10000 * k + 0x4 * j

/-- ETH_ROCE_STAT (R420). -/
def ETH_ROCE_STAT : Nat := 0x17080000

/-- ETH_PTP_CTL (R420). -/
def ETH_PTP_CTL : Nat := 0x17080004

/-- ETH_PTP_STAT (R420). -/
def ETH_PTP_STAT : Nat := 0x17080008

/-- ETH_EVT_SEQ_LO (R420). -/
def ETH_EVT_SEQ_LO : Nat := 0x17080010

/-- ETH_EVT_SEQ_HI (R420). -/
def ETH_EVT_SEQ_HI : Nat := 0x17080014

/-- ETH_EVT_LOST (R420). -/
def ETH_EVT_LOST : Nat := 0x17080018

/-- ETH_TWt (R420). -/
def ETH_TW (t : Nat) : Nat := 0x17080400 + 0x4 * t

/-- MBX_CTL (R459). -/
def MBX_CTL : Nat := 0x12000000

/-- MBX_OWNER (R459). -/
def MBX_OWNER : Nat := 0x12000004

/-- MBX_EPOCH (R459). -/
def MBX_EPOCH : Nat := 0x12000008

/-- MBX_EXPIRES_LO (R459). -/
def MBX_EXPIRES_LO : Nat := 0x12000010

/-- MBX_EXPIRES_HI (R459). -/
def MBX_EXPIRES_HI : Nat := 0x12000014

/-- MBX_BADCRED (R459). -/
def MBX_BADCRED : Nat := 0x12000020

/-- MBX_DUP (R459). -/
def MBX_DUP : Nat := 0x12000024

/-- MBX_BUSY (R459). -/
def MBX_BUSY : Nat := 0x12000028

/-- MBX_NOTOWNER (R459). -/
def MBX_NOTOWNER : Nat := 0x1200002C

/-- MBX_SLOTs (R459). -/
def MBX_SLOT (s : Nat) : Nat := 0x12000100 + 0x4 * s

/-- MIC_RAWk (R484). -/
def MIC_RAW (k : Nat) : Nat := 0x10000100 + 0x4 * k

/-- MIC_PENDk (R484). -/
def MIC_PEND (k : Nat) : Nat := 0x10000200 + 0x10 * k

/-- MIC_TGTc_k (R484). -/
def MIC_TGT (c : Nat) (k : Nat) : Nat := 0x10001000 + 0x200 * c + 0x10 * k

/-- MIC_PRIOs (R484). -/
def MIC_PRIO (s : Nat) : Nat := 0x10004000 + 0x4 * s

/-- MIC_THRESHc (R484). -/
def MIC_THRESH (c : Nat) : Nat := 0x10008000 + 0x100 * c

/-- MIC_CLAIMc (R484). -/
def MIC_CLAIM (c : Nat) : Nat := 0x10008004 + 0x100 * c

/-- MIC_COMPLETEc (R484). -/
def MIC_COMPLETE (c : Nat) : Nat := 0x10008008 + 0x100 * c

/-- MIC_SPURc (R484). -/
def MIC_SPUR (c : Nat) : Nat := 0x1000800C + 0x100 * c

/-- MIC_BADCOMPc (R484). -/
def MIC_BADCOMP (c : Nat) : Nat := 0x10008010 + 0x100 * c

/-- PLN_WAKE_EN (R485). -/
def PLN_WAKE_EN : Nat := 0x10010000

/-- PLN_WAKE_SRC (R485). -/
def PLN_WAKE_SRC : Nat := 0x10010010

/-- PLN_TIMER_LO (R485). -/
def PLN_TIMER_LO : Nat := 0x10010020

/-- PLN_TIMER_HI (R485). -/
def PLN_TIMER_HI : Nat := 0x10010024

/-- PLN_SAFE (R485). -/
def PLN_SAFE : Nat := 0x10010030

/-- PLN_SAFE_TIME_LO (R485). -/
def PLN_SAFE_TIME_LO : Nat := 0x10010038

/-- PLN_SAFE_TIME_HI (R485). -/
def PLN_SAFE_TIME_HI : Nat := 0x1001003C

/-- PLN_RESET (R485). -/
def PLN_RESET : Nat := 0x10010040

/-- BTR_CTL (R486). -/
def BTR_CTL : Nat := 0x11000000

/-- BTR_STAT (R486). -/
def BTR_STAT : Nat := 0x11000004

/-- BTR_CLOSE (R486). -/
def BTR_CLOSE : Nat := 0x11000008

/-- BTR_WDOG (R486). -/
def BTR_WDOG : Nat := 0x1100000C

/-- BTR_MERGED (R486). -/
def BTR_MERGED : Nat := 0x11000020

/-- BTR_SECONDARY (R486). -/
def BTR_SECONDARY : Nat := 0x11000024

/-- BTR_OVF (R486). -/
def BTR_OVF : Nat := 0x11000028

/-- BTR_INJ (R486). -/
def BTR_INJ : Nat := 0x11000030

/-- BTR_NEWj (R486). -/
def BTR_NEW (j : Nat) : Nat := 0x11000100 + 0x10 * j

/-- BTR_RECs_w (R486). -/
def BTR_REC (s : Nat) (w : Nat) : Nat := 0x11010000 + 0x40 * s + 0x4 * w

/-- XLT_TNt_CFG (R510). -/
def XLT_TN_CFG (t : Nat) : Nat := 0x150A0000 + 0x20 * t

/-- XLT_TNt_LIMITS (R510). -/
def XLT_TN_LIMITS (t : Nat) : Nat := 0x150A0004 + 0x20 * t

/-- XLT_TNt_ADMITLIM (R510). -/
def XLT_TN_ADMITLIM (t : Nat) : Nat := 0x150A0008 + 0x20 * t

/-- XLT_TNt_LATE (R510). -/
def XLT_TN_LATE (t : Nat) : Nat := 0x150A000C + 0x20 * t

/-- XLT_TNt_ADMIT (R510). -/
def XLT_TN_ADMIT (t : Nat) : Nat := 0x150A0010 + 0x20 * t

/-- XLT_TNt_REFCAP (R510). -/
def XLT_TN_REFCAP (t : Nat) : Nat := 0x150A0014 + 0x20 * t

/-- XLT_TNt_BYTES_LO (R510). -/
def XLT_TN_BYTES_LO (t : Nat) : Nat := 0x150A0018 + 0x20 * t

/-- XLT_TNt_BYTES_HI (R510). -/
def XLT_TN_BYTES_HI (t : Nat) : Nat := 0x150A001C + 0x20 * t

/-- XLT_FLOORp (R510). -/
def XLT_FLOOR (p : Nat) : Nat := 0x150B0000 + 0x4 * p

/-- XLT_ADMIT_RETRY (R510). -/
def XLT_ADMIT_RETRY : Nat := 0x150B0020

/-- XLT_GATE_CTL (R510). -/
def XLT_GATE_CTL : Nat := 0x150B0100

/-- XLT_GATE_CYCLE (R510). -/
def XLT_GATE_CYCLE : Nat := 0x150B0104

/-- SEC_BOOT (R511). -/
def SEC_BOOT : Nat := 0x19000000

/-- SEC_MARKw (R511). -/
def SEC_MARK (w : Nat) : Nat := 0x19000040 + 0x4 * w

/-- SEC_MEASm_w (R511). -/
def SEC_MEAS (m : Nat) (w : Nat) : Nat := 0x19000100 + 0x40 * m + 0x4 * w

/-- PWR_STAT (R537). -/
def PWR_STAT : Nat := 0x18000000

/-- PWR_INPUT (R537). -/
def PWR_INPUT : Nat := 0x18000004

/-- PWR_LIMIT (R537). -/
def PWR_LIMIT : Nat := 0x18000008

/-- PWR_MODEL_TAU (R537). -/
def PWR_MODEL_TAU : Nat := 0x1800000C

/-- PWR_MODEL_LIM (R537). -/
def PWR_MODEL_LIM : Nat := 0x18000010

/-- PWR_LOAD (R537). -/
def PWR_LOAD : Nat := 0x18000014

/-- PWR_RIDE (R537). -/
def PWR_RIDE : Nat := 0x18000018

/-- PWR_SHELF (R537). -/
def PWR_SHELF : Nat := 0x1800001C

/-- PWR_THERM (R537). -/
def PWR_THERM : Nat := 0x18000020

/-- PWR_ENERGY_LO (R537). -/
def PWR_ENERGY_LO : Nat := 0x18000028

/-- PWR_ENERGY_HI (R537). -/
def PWR_ENERGY_HI : Nat := 0x1800002C

/-- PWR_THROTTLE (R537). -/
def PWR_THROTTLE : Nat := 0x18000030

/-- PWR_RIDES (R537). -/
def PWR_RIDES : Nat := 0x18000034

/-- PWR_PEAKS (R537). -/
def PWR_PEAKS : Nat := 0x18000038

/-- PWR_CLK (R537). -/
def PWR_CLK : Nat := 0x18000800

/-- PLN_BOOT (R562). -/
def PLN_BOOT : Nat := 0x10010050

/-- XLT_GATEj (R510). -/
def XLT_GATE (j : Nat) : Nat := 0x150B0200 + 0x4 * j

end Reg

/-- The registers with prefix XLT_. -/
def regRowsXLT : List RegRow := [
  ⟨"XLT_WIN_CTL", 0x15020000, [(4096, 0x10)], 0xFFFFFFFF, 0x0, 0x0, false, 0x0, true, 0⟩,
  ⟨"XLT_WIN_BASE_LO", 0x15020004, [(4096, 0x10)], 0xFFFFFFFF, 0x0, 0x0, false, 0x0, true, 1⟩,
  ⟨"XLT_WIN_BASE_HI", 0x15020008, [(4096, 0x10)], 0xFFFFFFFF, 0x0, 0x0, false, 0x0, true, 2⟩,
  ⟨"XLT_WIN_SRC", 0x1502000C, [(4096, 0x10)], 0xFFFFFFFF, 0x0, 0x0, false, 0x0, true, 0⟩,
  ⟨"XLT_LEGACY_CTL", 0x15000100, [], 0xFFFFFFFF, 0x0, 0x0, false, 0x0, false, 0⟩,
  ⟨"XLT_LEGACY_PORTS", 0x15000104, [], 0xFFFFFFFF, 0x0, 0x0, false, 0x0, false, 0⟩,
  ⟨"XLT_LEGNODE", 0x15030000, [(1024, 0x4)], 0xFFFFFFFF, 0x0, 0x0, false, 0x0, false, 0⟩,
  ⟨"XLT_MIG_CTL", 0x15000000, [], 0xFFFFFFFF, 0x0, 0x0, false, 0x1000414, false, 0⟩,
  ⟨"XLT_FENCE_OPEN_LO", 0x15000200, [], 0x0, 0x0, 0x0, false, 0x0, false, 1⟩,
  ⟨"XLT_FENCE_OPEN_HI", 0x15000204, [], 0x0, 0x0, 0x0, false, 0x0, false, 2⟩,
  ⟨"XLT_SHADOW_STAT", 0x15000208, [], 0x0, 0x0, 0x0, false, 0x0, false, 0⟩,
  ⟨"XLT_VCACHE_MISS_LO", 0x15000210, [], 0x0, 0x0, 0x0, false, 0x0, false, 1⟩,
  ⟨"XLT_VCACHE_MISS_HI", 0x15000214, [], 0x0, 0x0, 0x0, false, 0x0, false, 2⟩,
  ⟨"XLT_FENCE", 0x15000300, [(64, 0x4)], 0x0, 0x0, 0x0, false, 0x0, false, 0⟩,
  ⟨"XLT_FQ_CFG", 0x15040000, [(256, 0x10)], 0x0, 0x0, 0x0, false, 0x400, true, 0⟩,
  ⟨"XLT_FQ_OPEN", 0x15040004, [(256, 0x10)], 0x0, 0x0, 0x0, false, 0x0, false, 0⟩,
  ⟨"XLT_FQ_OVF", 0x15040008, [(256, 0x10)], 0x0, 0x0, 0x0, true, 0x0, false, 0⟩,
  ⟨"XLT_FQ_MERGE", 0x1504000C, [(256, 0x10)], 0x0, 0x0, 0x0, true, 0x0, false, 0⟩,
  ⟨"XLT_SCHED_CTL", 0x15000400, [], 0xFFFFFFFF, 0x0, 0x0, false, 0x140A0C8, false, 0⟩,
  ⟨"XLT_SCHED_STAT", 0x15000404, [], 0x0, 0x0, 0x0, false, 0x0, false, 0⟩,
  ⟨"XLT_ADMIT_REFUSED", 0x15000408, [], 0x0, 0x0, 0x0, true, 0x0, false, 0⟩,
  ⟨"XLT_TAIL_IGNORED", 0x1500040C, [], 0x0, 0x0, 0x0, true, 0x0, false, 0⟩,
  ⟨"XLT_PREEMPT_LO", 0x15000410, [], 0x0, 0x0, 0x0, false, 0x0, false, 1⟩,
  ⟨"XLT_PREEMPT_HI", 0x15000414, [], 0x0, 0x0, 0x0, false, 0x0, false, 2⟩,
  ⟨"XLT_CTX_CFG", 0x15050000, [(16384, 0x10)], 0x0, 0x0, 0x0, false, 0x0, false, 0⟩,
  ⟨"XLT_CTX_STAT", 0x15050004, [(16384, 0x10)], 0x0, 0x0, 0x0, false, 0x0, false, 0⟩,
  ⟨"XLT_TN_CFG", 0x150A0000, [(256, 0x20)], 0x0, 0x0, 0x0, false, 0x1, true, 0⟩,
  ⟨"XLT_TN_LIMITS", 0x150A0004, [(256, 0x20)], 0x0, 0x0, 0x0, false, 0x0, true, 0⟩,
  ⟨"XLT_TN_ADMITLIM", 0x150A0008, [(256, 0x20)], 0x0, 0x0, 0x0, false, 0x0, false, 0⟩,
  ⟨"XLT_TN_LATE", 0x150A000C, [(256, 0x20)], 0x0, 0x0, 0x0, true, 0x0, false, 0⟩,
  ⟨"XLT_TN_ADMIT", 0x150A0010, [(256, 0x20)], 0x0, 0x0, 0x0, true, 0x0, false, 0⟩,
  ⟨"XLT_TN_REFCAP", 0x150A0014, [(256, 0x20)], 0x0, 0x0, 0x0, true, 0x0, false, 0⟩,
  ⟨"XLT_TN_BYTES_LO", 0x150A0018, [(256, 0x20)], 0x0, 0x0, 0x0, false, 0x0, false, 1⟩,
  ⟨"XLT_TN_BYTES_HI", 0x150A001C, [(256, 0x20)], 0x0, 0x0, 0x0, false, 0x0, false, 2⟩,
  ⟨"XLT_FLOOR", 0x150B0000, [(8, 0x4)], 0xFFFFFFFF, 0x0, 0x0, false, 0x0, true, 0⟩,
  ⟨"XLT_ADMIT_RETRY", 0x150B0020, [], 0xFFFFFFFF, 0x0, 0x0, false, 0x5, true, 0⟩,
  ⟨"XLT_GATE_CTL", 0x150B0100, [], 0xFFFFFFFF, 0x0, 0x0, false, 0x400, true, 0⟩,
  ⟨"XLT_GATE_CYCLE", 0x150B0104, [], 0xFFFFFFFF, 0x0, 0x0, false, 0xF4240, true, 0⟩,
  ⟨"XLT_GATE", 0x150B0200, [(64, 0x4)], 0xFFFFFFFF, 0x0, 0x0, false, 0x0, true, 0⟩]

/-- The registers with prefix FPT_. -/
def regRowsFPT : List RegRow := [
  ⟨"FPT_RJOB", 0x13007000, [(32, 0x10000), (64, 0x4)], 0xFFFFFFFF, 0x0, 0x0, false, 0x0, false, 0⟩,
  ⟨"FPT_RANK", 0x13008000, [(32, 0x10000), (2, 0x4000), (4096, 0x4)], 0xFFFFFFFF, 0x0, 0x0, false, 0x0, false, 0⟩,
  ⟨"FPT_CTL", 0x13000000, [(32, 0x10000)], 0xFFFFFFFF, 0x0, 0x0, false, 0x1000000D, true, 0⟩,
  ⟨"FPT_STAT", 0x13000004, [(32, 0x10000)], 0x0, 0x0, 0x0, false, 0x0, false, 0⟩,
  ⟨"FPT_TIMERS", 0x13000008, [(32, 0x10000)], 0xFFFFFFFF, 0x0, 0x0, false, 0xC81414, true, 0⟩,
  ⟨"FPT_LINK", 0x1300000C, [(32, 0x10000)], 0x0, 0x0, 0x0, false, 0x0, false, 0⟩,
  ⟨"FPT_TXFLITS_LO", 0x13000010, [(32, 0x10000)], 0x0, 0x0, 0x0, false, 0x0, false, 1⟩,
  ⟨"FPT_TXFLITS_HI", 0x13000014, [(32, 0x10000)], 0x0, 0x0, 0x0, false, 0x0, false, 2⟩,
  ⟨"FPT_RXFLITS_LO", 0x13000018, [(32, 0x10000)], 0x0, 0x0, 0x0, false, 0x0, false, 1⟩,
  ⟨"FPT_RXFLITS_HI", 0x1300001C, [(32, 0x10000)], 0x0, 0x0, 0x0, false, 0x0, false, 2⟩,
  ⟨"FPT_FECCORR_LO", 0x13000020, [(32, 0x10000)], 0x0, 0x0, 0x0, false, 0x0, false, 1⟩,
  ⟨"FPT_FECCORR_HI", 0x13000024, [(32, 0x10000)], 0x0, 0x0, 0x0, false, 0x0, false, 2⟩,
  ⟨"FPT_FECUNC", 0x13000030, [(32, 0x10000)], 0x0, 0x0, 0x0, true, 0x0, false, 0⟩,
  ⟨"FPT_CRCERR", 0x13000034, [(32, 0x10000)], 0x0, 0x0, 0x0, true, 0x0, false, 0⟩,
  ⟨"FPT_REPLAYS", 0x13000038, [(32, 0x10000)], 0x0, 0x0, 0x0, true, 0x0, false, 0⟩,
  ⟨"FPT_LINKDOWNS", 0x1300003C, [(32, 0x10000)], 0x0, 0x0, 0x0, true, 0x0, false, 0⟩,
  ⟨"FPT_RETRAINS", 0x13000040, [(32, 0x10000)], 0x0, 0x0, 0x0, true, 0x0, false, 0⟩,
  ⟨"FPT_WIDTHCHG", 0x13000044, [(32, 0x10000)], 0x0, 0x0, 0x0, true, 0x0, false, 0⟩,
  ⟨"FPT_HOPDROP", 0x13000048, [(32, 0x10000)], 0x0, 0x0, 0x0, true, 0x0, false, 0⟩,
  ⟨"FPT_DEDUP", 0x1300004C, [(32, 0x10000)], 0x0, 0x0, 0x0, true, 0x0, false, 0⟩,
  ⟨"FPT_FENCERX", 0x13000050, [(32, 0x10000)], 0x0, 0x0, 0x0, true, 0x0, false, 0⟩,
  ⟨"FPT_MALFORMED", 0x13000054, [(32, 0x10000)], 0x0, 0x0, 0x0, true, 0x0, false, 0⟩,
  ⟨"FPT_CRSTALL", 0x13000060, [(32, 0x10000), (3, 0x4)], 0x0, 0x0, 0x0, true, 0x0, false, 0⟩,
  ⟨"FPT_RXPWR", 0x13000100, [(32, 0x10000), (16, 0x4)], 0x0, 0x0, 0x0, false, 0x0, false, 0⟩,
  ⟨"FPT_TXPWR", 0x13000140, [(32, 0x10000), (16, 0x4)], 0x0, 0x0, 0x0, false, 0x0, false, 0⟩,
  ⟨"FPT_GCTL", 0x13200000, [], 0xFFFFFFFF, 0x0, 0x0, false, 0xF, true, 0⟩,
  ⟨"FPT_REQ", 0x13200004, [], 0xFFFFFFFF, 0x0, 0x0, false, 0x8032, true, 0⟩,
  ⟨"FPT_REPLAY", 0x13200008, [], 0xFFFFFFFF, 0x0, 0x0, false, 0x96, true, 0⟩,
  ⟨"FPT_RECSTAT", 0x1320000C, [], 0x0, 0x0, 0x0, false, 0x0, false, 0⟩,
  ⟨"FPT_RECHOLD", 0x13200010, [], 0x0, 0x0, 0x0, true, 0x0, false, 0⟩,
  ⟨"FPT_LASER", 0x13200100, [(4, 0x40), (16, 0x4)], 0x0, 0x0, 0x0, false, 0x0, false, 0⟩,
  ⟨"FPT_RTDOM", 0x13200400, [(64, 0x4)], 0xFFFFFFFF, 0x0, 0x0, false, 0x0, true, 0⟩,
  ⟨"FPT_RTDEV", 0x13200500, [(64, 0x4)], 0xFFFFFFFF, 0x0, 0x0, false, 0x0, true, 0⟩,
  ⟨"FPT_GRP_CTL", 0x13220000, [], 0xFE3FFFFF, 0x0, 0x0, false, 0x0, true, 0⟩,
  ⟨"FPT_GRP_MEM", 0x13220010, [(8, 0x4)], 0xBFFFFFFF, 0x0, 0x0, false, 0x0, true, 0⟩,
  ⟨"FPT_TWIN_CTL", 0x13210000, [], 0xFFFFFFFF, 0x0, 0x0, false, 0x0, true, 0⟩,
  ⟨"FPT_TWIN_PORTS", 0x13210004, [], 0xFFFFFFFF, 0x0, 0x0, false, 0x0, true, 0⟩,
  ⟨"FPT_TWIN_TIMERS", 0x13210008, [], 0xFFFFFFFF, 0x0, 0x0, false, 0x289614, true, 0⟩,
  ⟨"FPT_TWIN_STAT", 0x1321000C, [], 0x0, 0x0, 0x0, false, 0x0, true, 0⟩,
  ⟨"FPT_TWIN_GEN", 0x13210010, [], 0x0, 0x0, 0x0, false, 0x0, true, 0⟩,
  ⟨"FPT_TWIN_BYTES_LO", 0x13210018, [], 0x0, 0x0, 0x0, false, 0x0, true, 1⟩,
  ⟨"FPT_TWIN_BYTES_HI", 0x1321001C, [], 0x0, 0x0, 0x0, false, 0x0, true, 2⟩,
  ⟨"FPT_TWIN_STALL", 0x13210020, [], 0x0, 0x0, 0x0, true, 0x0, true, 0⟩,
  ⟨"FPT_TWIN_DIRTY", 0x13210024, [], 0x0, 0x0, 0x0, false, 0x0, true, 0⟩]

/-- The registers with prefix STK_. -/
def regRowsSTK : List RegRow := [
  ⟨"STK_CTL", 0x20000000, [(6, 0x1000000), (4, 0x100000)], 0xFFFFFFFE, 0x0, 0x0, false, 0x142, false, 0⟩,
  ⟨"STK_IDLE", 0x20000004, [(6, 0x1000000), (4, 0x100000)], 0xFFFFFFFF, 0x0, 0x0, false, 0x10208008, false, 0⟩,
  ⟨"STK_WDRAIN", 0x20000008, [(6, 0x1000000), (4, 0x100000)], 0xFFFFFFFF, 0x0, 0x0, false, 0x1830, false, 0⟩,
  ⟨"STK_RETRAIN", 0x2000000C, [(6, 0x1000000), (4, 0x100000)], 0xFFFFFFFF, 0x0, 0x0, false, 0x400A40, false, 0⟩,
  ⟨"STK_TEMP", 0x20000010, [(6, 0x1000000), (4, 0x100000)], 0xFFFFFF00, 0x0, 0x0, false, 0x505500, false, 0⟩,
  ⟨"STK_LAT", 0x20000020, [(6, 0x1000000), (4, 0x100000), (8, 0x4)], 0xFFFFFFFF, 0x0, 0x0, false, 0x0, false, 0⟩,
  ⟨"STK_LATECNT", 0x20000040, [(6, 0x1000000), (4, 0x100000), (8, 0x4)], 0x0, 0x0, 0x0, true, 0x0, false, 0⟩,
  ⟨"STK_PASR", 0x20000080, [(6, 0x1000000), (4, 0x100000), (16, 0x4)], 0x0, 0x0, 0x0, false, 0xFFFFFFFF, false, 0⟩,
  ⟨"STK_CHSTAT", 0x20000100, [(6, 0x1000000), (4, 0x100000), (32, 0x4)], 0x0, 0x0, 0x0, false, 0x0, false, 0⟩,
  ⟨"STK_ECC_CE", 0x20000200, [(6, 0x1000000), (4, 0x100000)], 0x0, 0x0, 0x0, true, 0x0, false, 0⟩,
  ⟨"STK_ECC_DUE", 0x20000204, [(6, 0x1000000), (4, 0x100000)], 0x0, 0x0, 0x0, true, 0x0, false, 0⟩,
  ⟨"STK_ECC_POISON", 0x20000208, [(6, 0x1000000), (4, 0x100000)], 0x0, 0x0, 0x0, true, 0x0, false, 0⟩,
  ⟨"STK_INJ_CTL", 0x20000210, [(6, 0x1000000), (4, 0x100000)], 0x7FFF7FFF, 0x8000, 0x0, false, 0x0, false, 0⟩,
  ⟨"STK_INJ_SLOT", 0x20000214, [(6, 0x1000000), (4, 0x100000)], 0xFFFFFFFF, 0x0, 0x0, false, 0x0, false, 0⟩]

/-- The registers with prefix SEA_. -/
def regRowsSEA : List RegRow := [
  ⟨"SEA_CTL", 0x20600000, [(6, 0x1000000)], 0xFFFFFFFF, 0x0, 0x0, false, 0x4001F4, false, 0⟩,
  ⟨"SEA_STAT", 0x20600004, [(6, 0x1000000)], 0x0, 0x0, 0x0, false, 0x0, false, 0⟩,
  ⟨"SEA_REBUILT", 0x20600010, [(6, 0x1000000)], 0x0, 0x0, 0x0, true, 0x0, false, 0⟩,
  ⟨"SEA_LOST", 0x20600014, [(6, 0x1000000)], 0x0, 0x0, 0x0, true, 0x0, false, 0⟩,
  ⟨"SEA_MISMATCH", 0x20600018, [(6, 0x1000000)], 0x0, 0x0, 0x0, true, 0x0, false, 0⟩,
  ⟨"SEA_INJ_CTL", 0x20600020, [(6, 0x1000000)], 0xFFFF7FFF, 0x8000, 0x0, false, 0x0, false, 0⟩,
  ⟨"SEA_INJ_PAGE", 0x20600024, [(6, 0x1000000)], 0xFFFFFFFF, 0x0, 0x0, false, 0x0, false, 0⟩]

/-- The registers with prefix PNT_. -/
def regRowsPNT : List RegRow := [
  ⟨"PNT_CTL", 0x20700000, [(6, 0x1000000)], 0xFFFFFFFF, 0x0, 0x0, false, 0x3C0003, false, 0⟩,
  ⟨"PNT_POS", 0x20700004, [(6, 0x1000000)], 0x0, 0x0, 0x0, false, 0x0, false, 0⟩,
  ⟨"PNT_PASSES", 0x20700008, [(6, 0x1000000)], 0x0, 0x0, 0x0, false, 0x0, false, 0⟩,
  ⟨"PNT_PASSEND_LO", 0x20700010, [(6, 0x1000000)], 0x0, 0x0, 0x0, false, 0x0, false, 1⟩,
  ⟨"PNT_PASSEND_HI", 0x20700014, [(6, 0x1000000)], 0x0, 0x0, 0x0, false, 0x0, false, 2⟩,
  ⟨"PNT_FOUND", 0x20700018, [(6, 0x1000000)], 0x0, 0x0, 0x0, true, 0x0, false, 0⟩]

/-- The registers with prefix DIR_. -/
def regRowsDIR : List RegRow := [
  ⟨"DIR_CTL", 0x14000000, [], 0xFFFFFFFF, 0x0, 0x0, false, 0x314, false, 0⟩,
  ⟨"DIR_STAT", 0x14000004, [], 0x0, 0x0, 0x0, false, 0x0, false, 0⟩,
  ⟨"DIR_TXN", 0x14000008, [], 0x0, 0x0, 0x0, false, 0x0, false, 0⟩,
  ⟨"DIR_SWEEP", 0x1400000C, [], 0x0, 0x0, 0x0, false, 0x0, false, 0⟩,
  ⟨"DIR_VICTIM_LO", 0x14000010, [], 0x0, 0x0, 0x0, false, 0x0, false, 1⟩,
  ⟨"DIR_VICTIM_HI", 0x14000014, [], 0x0, 0x0, 0x0, false, 0x0, false, 2⟩,
  ⟨"DIR_RCLTO", 0x14000018, [], 0x0, 0x0, 0x0, true, 0x0, false, 0⟩,
  ⟨"DIR_POISONED", 0x1400001C, [], 0x0, 0x0, 0x0, true, 0x0, false, 0⟩,
  ⟨"DIR_REQHOLD", 0x14000020, [], 0x0, 0x0, 0x0, true, 0x0, false, 0⟩,
  ⟨"DIR_PUBCONF", 0x14000024, [], 0x0, 0x0, 0x0, true, 0x0, false, 0⟩,
  ⟨"DIR_LATE_DISCARD", 0x14000028, [], 0x0, 0x0, 0x0, true, 0x0, false, 0⟩,
  ⟨"DIR_EP", 0x14001000, [(1024, 0x4)], 0x0, 0x0, 0x0, false, 0x0, false, 0⟩]

/-- The registers with prefix CRS_. -/
def regRowsCRS : List RegRow := [
  ⟨"CRS_CTL", 0x20400000, [(6, 0x1000000), (2, 0x100000)], 0xFFFFFFFF, 0x0, 0x0, false, 0x1, true, 0⟩,
  ⟨"CRS_STAT", 0x20400004, [(6, 0x1000000), (2, 0x100000)], 0x0, 0x0, 0x0, false, 0x0, false, 0⟩,
  ⟨"CRS_TILES_LO", 0x20400008, [(6, 0x1000000), (2, 0x100000)], 0x0, 0x0, 0x0, false, 0x0, false, 1⟩,
  ⟨"CRS_TILES_HI", 0x2040000C, [(6, 0x1000000), (2, 0x100000)], 0x0, 0x0, 0x0, false, 0x0, false, 2⟩,
  ⟨"CRS_BUSY_LO", 0x20400010, [(6, 0x1000000), (2, 0x100000)], 0x0, 0x0, 0x0, false, 0x0, false, 1⟩,
  ⟨"CRS_BUSY_HI", 0x20400014, [(6, 0x1000000), (2, 0x100000)], 0x0, 0x0, 0x0, false, 0x0, false, 2⟩,
  ⟨"CRS_FLUSH", 0x20400018, [(6, 0x1000000), (2, 0x100000)], 0x0, 0x0, 0x0, true, 0x0, false, 0⟩,
  ⟨"CRS_OOB", 0x2040001C, [(6, 0x1000000), (2, 0x100000)], 0x0, 0x0, 0x0, true, 0x0, false, 0⟩,
  ⟨"CRS_CAP", 0x20400040, [(6, 0x1000000), (2, 0x100000), (16, 0x4)], 0x0, 0x0, 0x0, false, 0x0, false, 0⟩]

/-- The registers with prefix SIG_. -/
def regRowsSIG : List RegRow := [
  ⟨"SIG_STAT", 0x16000000, [], 0x0, 0x0, 0x0, false, 0x0, false, 0⟩,
  ⟨"SIG_NOTICES_LO", 0x16000008, [], 0x0, 0x0, 0x0, false, 0x0, false, 1⟩,
  ⟨"SIG_NOTICES_HI", 0x1600000C, [], 0x0, 0x0, 0x0, false, 0x0, false, 2⟩,
  ⟨"SIG_FIRED", 0x16000010, [], 0x0, 0x0, 0x0, true, 0x0, false, 0⟩,
  ⟨"SIG_NOTIFY_LOST", 0x16000014, [], 0x0, 0x0, 0x0, true, 0x0, false, 0⟩,
  ⟨"SIG_REVOKED", 0x16000018, [], 0x0, 0x0, 0x0, true, 0x0, false, 0⟩,
  ⟨"SIG_POISONED", 0x1600001C, [], 0x0, 0x0, 0x0, true, 0x0, false, 0⟩]

/-- The registers with prefix LNT_. -/
def regRowsLNT : List RegRow := [
  ⟨"LNT_STAT", 0x16008000, [], 0x0, 0x0, 0x0, false, 0x0, false, 0⟩,
  ⟨"LNT_AHEAD", 0x16008004, [], 0x0, 0x0, 0x0, true, 0x0, false, 0⟩,
  ⟨"LNT_STALE", 0x16008008, [], 0x0, 0x0, 0x0, true, 0x0, false, 0⟩,
  ⟨"LNT_RANKMISS", 0x1600800C, [], 0x0, 0x0, 0x0, true, 0x0, false, 0⟩,
  ⟨"LNT_BROKEN", 0x16008018, [], 0x0, 0x0, 0x0, true, 0x0, false, 0⟩,
  ⟨"LNT_RELEASES_LO", 0x16008010, [], 0x0, 0x0, 0x0, false, 0x0, false, 1⟩,
  ⟨"LNT_RELEASES_HI", 0x16008014, [], 0x0, 0x0, 0x0, false, 0x0, false, 2⟩,
  ⟨"LNT_OBJ_CFG", 0x16010000, [(4096, 0x10)], 0x0, 0x0, 0x0, false, 0x0, false, 0⟩,
  ⟨"LNT_OBJ_GEN", 0x16010004, [(4096, 0x10)], 0x0, 0x0, 0x0, false, 0x0, false, 0⟩,
  ⟨"LNT_OBJ_COUNT", 0x16010008, [(4096, 0x10)], 0x0, 0x0, 0x0, false, 0x0, false, 0⟩,
  ⟨"LNT_OBJ_BROKEN", 0x1601000C, [(4096, 0x10)], 0x0, 0x0, 0x0, false, 0x0, false, 0⟩]

/-- The registers with prefix PWR_. -/
def regRowsPWR : List RegRow := [
  ⟨"PWR_TB_CTL", 0x18001000, [], 0xFFFFFFFF, 0x0, 0x0, false, 0x0, true, 0⟩,
  ⟨"PWR_TB_STAT", 0x18001004, [], 0x0, 0x0, 0x0, false, 0x0, false, 0⟩,
  ⟨"PWR_TB_NOW_LO", 0x18001008, [], 0x0, 0x0, 0x0, false, 0x0, false, 1⟩,
  ⟨"PWR_TB_NOW_HI", 0x1800100C, [], 0x0, 0x0, 0x0, false, 0x0, false, 2⟩,
  ⟨"PWR_TB_OFFSET", 0x18001010, [], 0x0, 0x0, 0x0, false, 0x0, false, 0⟩,
  ⟨"PWR_STAT", 0x18000000, [], 0x0, 0x0, 0x0, false, 0x0, false, 0⟩,
  ⟨"PWR_INPUT", 0x18000004, [], 0x0, 0x0, 0x0, false, 0x0, false, 0⟩,
  ⟨"PWR_LIMIT", 0x18000008, [], 0xFFFFFFFF, 0x0, 0x0, false, 0x17D0, true, 0⟩,
  ⟨"PWR_MODEL_TAU", 0x1800000C, [], 0xFFFFFFFF, 0x0, 0x0, false, 0x1378, false, 0⟩,
  ⟨"PWR_MODEL_LIM", 0x18000010, [], 0xFFFFFFFF, 0x0, 0x0, false, 0x54D258BA, false, 0⟩,
  ⟨"PWR_LOAD", 0x18000014, [], 0x0, 0x0, 0x0, false, 0x0, false, 0⟩,
  ⟨"PWR_RIDE", 0x18000018, [], 0xFFFFFFFF, 0x0, 0x0, false, 0x104B0, false, 0⟩,
  ⟨"PWR_SHELF", 0x1800001C, [], 0xFFFFFFFF, 0x0, 0x0, false, 0x1F40, true, 0⟩,
  ⟨"PWR_THERM", 0x18000020, [], 0xFFFF, 0x0, 0x0, false, 0x5C5F, false, 0⟩,
  ⟨"PWR_ENERGY_LO", 0x18000028, [], 0x0, 0x0, 0x0, false, 0x0, false, 1⟩,
  ⟨"PWR_ENERGY_HI", 0x1800002C, [], 0x0, 0x0, 0x0, false, 0x0, false, 2⟩,
  ⟨"PWR_THROTTLE", 0x18000030, [], 0x0, 0x0, 0x0, true, 0x0, false, 0⟩,
  ⟨"PWR_RIDES", 0x18000034, [], 0x0, 0x0, 0x0, true, 0x0, false, 0⟩,
  ⟨"PWR_PEAKS", 0x18000038, [], 0x0, 0x0, 0x0, true, 0x0, false, 0⟩,
  ⟨"PWR_CLK", 0x18000800, [], 0x0, 0x0, 0x0, false, 0x0, false, 0⟩]

/-- The registers with prefix ETH_. -/
def regRowsETH : List RegRow := [
  ⟨"ETH_CTL", 0x17000000, [(8, 0x10000)], 0xFFFFFFFF, 0x0, 0x0, false, 0x7, true, 0⟩,
  ⟨"ETH_STAT", 0x17000004, [(8, 0x10000)], 0x0, 0x0, 0x0, false, 0x0, false, 0⟩,
  ⟨"ETH_TXFRM_LO", 0x17000008, [(8, 0x10000)], 0x0, 0x0, 0x0, false, 0x0, false, 1⟩,
  ⟨"ETH_TXFRM_HI", 0x1700000C, [(8, 0x10000)], 0x0, 0x0, 0x0, false, 0x0, false, 2⟩,
  ⟨"ETH_RXFRM_LO", 0x17000010, [(8, 0x10000)], 0x0, 0x0, 0x0, false, 0x0, false, 1⟩,
  ⟨"ETH_RXFRM_HI", 0x17000014, [(8, 0x10000)], 0x0, 0x0, 0x0, false, 0x0, false, 2⟩,
  ⟨"ETH_TXBYTES_LO", 0x17000018, [(8, 0x10000)], 0x0, 0x0, 0x0, false, 0x0, false, 1⟩,
  ⟨"ETH_TXBYTES_HI", 0x1700001C, [(8, 0x10000)], 0x0, 0x0, 0x0, false, 0x0, false, 2⟩,
  ⟨"ETH_RXBYTES_LO", 0x17000020, [(8, 0x10000)], 0x0, 0x0, 0x0, false, 0x0, false, 1⟩,
  ⟨"ETH_RXBYTES_HI", 0x17000024, [(8, 0x10000)], 0x0, 0x0, 0x0, false, 0x0, false, 2⟩,
  ⟨"ETH_FECCORR_LO", 0x17000028, [(8, 0x10000)], 0x0, 0x0, 0x0, false, 0x0, false, 1⟩,
  ⟨"ETH_FECCORR_HI", 0x1700002C, [(8, 0x10000)], 0x0, 0x0, 0x0, false, 0x0, false, 2⟩,
  ⟨"ETH_FCSERR", 0x17000030, [(8, 0x10000)], 0x0, 0x0, 0x0, true, 0x0, false, 0⟩,
  ⟨"ETH_FECUNC", 0x17000034, [(8, 0x10000)], 0x0, 0x0, 0x0, true, 0x0, false, 0⟩,
  ⟨"ETH_RXDROP", 0x17000038, [(8, 0x10000)], 0x0, 0x0, 0x0, true, 0x0, false, 0⟩,
  ⟨"ETH_PFCRX", 0x1700003C, [(8, 0x10000)], 0x0, 0x0, 0x0, true, 0x0, false, 0⟩,
  ⟨"ETH_PFCTX", 0x17000040, [(8, 0x10000)], 0x0, 0x0, 0x0, true, 0x0, false, 0⟩,
  ⟨"ETH_ECNCE", 0x17000044, [(8, 0x10000)], 0x0, 0x0, 0x0, true, 0x0, false, 0⟩,
  ⟨"ETH_CNPTX", 0x17000048, [(8, 0x10000)], 0x0, 0x0, 0x0, true, 0x0, false, 0⟩,
  ⟨"ETH_CNPRX", 0x1700004C, [(8, 0x10000)], 0x0, 0x0, 0x0, true, 0x0, false, 0⟩,
  ⟨"ETH_EGR_CTL", 0x17000100, [(8, 0x10000)], 0xFFFFFFFF, 0x0, 0x0, false, 0xA10, true, 0⟩,
  ⟨"ETH_GATE_CYCLE", 0x17000104, [(8, 0x10000)], 0xFFFFFFFF, 0x0, 0x0, false, 0xF4240, true, 0⟩,
  ⟨"ETH_GATE", 0x17000200, [(8, 0x10000), (64, 0x4)], 0xFFFFFFFF, 0x0, 0x0, false, 0x0, true, 0⟩,
  ⟨"ETH_ROCE_STAT", 0x17080000, [], 0x0, 0x0, 0x0, false, 0x0, false, 0⟩,
  ⟨"ETH_PTP_CTL", 0x17080004, [], 0xFFFFFFFF, 0x0, 0x0, false, 0x0, true, 0⟩,
  ⟨"ETH_PTP_STAT", 0x17080008, [], 0x0, 0x0, 0x0, false, 0x0, false, 0⟩,
  ⟨"ETH_EVT_SEQ_LO", 0x17080010, [], 0x0, 0x0, 0x0, false, 0x0, false, 1⟩,
  ⟨"ETH_EVT_SEQ_HI", 0x17080014, [], 0x0, 0x0, 0x0, false, 0x0, false, 2⟩,
  ⟨"ETH_EVT_LOST", 0x17080018, [], 0x0, 0x0, 0x0, true, 0x0, false, 0⟩,
  ⟨"ETH_TW", 0x17080400, [(256, 0x4)], 0x0, 0x0, 0x0, false, 0x1, false, 0⟩]

/-- The registers with prefix MBX_. -/
def regRowsMBX : List RegRow := [
  ⟨"MBX_CTL", 0x12000000, [], 0xFFFFFFFF, 0x0, 0x0, false, 0x1E25BC, true, 0⟩,
  ⟨"MBX_OWNER", 0x12000004, [], 0x0, 0x0, 0x0, false, 0xF, false, 0⟩,
  ⟨"MBX_EPOCH", 0x12000008, [], 0x0, 0x0, 0x0, false, 0x0, false, 0⟩,
  ⟨"MBX_EXPIRES_LO", 0x12000010, [], 0x0, 0x0, 0x0, false, 0x0, false, 1⟩,
  ⟨"MBX_EXPIRES_HI", 0x12000014, [], 0x0, 0x0, 0x0, false, 0x0, false, 2⟩,
  ⟨"MBX_BADCRED", 0x12000020, [], 0x0, 0x0, 0x0, true, 0x0, false, 0⟩,
  ⟨"MBX_DUP", 0x12000024, [], 0x0, 0x0, 0x0, true, 0x0, false, 0⟩,
  ⟨"MBX_BUSY", 0x12000028, [], 0x0, 0x0, 0x0, true, 0x0, false, 0⟩,
  ⟨"MBX_NOTOWNER", 0x1200002C, [], 0x0, 0x0, 0x0, true, 0x0, false, 0⟩,
  ⟨"MBX_SLOT", 0x12000100, [(9, 0x4)], 0x0, 0x0, 0x0, false, 0x0, false, 0⟩]

/-- The registers with prefix MIC_. -/
def regRowsMIC : List RegRow := [
  ⟨"MIC_RAW", 0x10000100, [(16, 0x4)], 0x0, 0x0, 0x0, false, 0x0, false, 0⟩,
  ⟨"MIC_PEND", 0x10000200, [(16, 0x10)], 0x0, 0x0, 0x0, false, 0x0, false, 0⟩,
  ⟨"MIC_TGT", 0x10001000, [(4, 0x200), (16, 0x10)], 0xFFFFFFFF, 0x0, 0x0, false, 0x0, false, 0⟩,
  ⟨"MIC_PRIO", 0x10004000, [(512, 0x4)], 0xFFFFFFFF, 0x0, 0x0, false, 0x0, false, 0⟩,
  ⟨"MIC_THRESH", 0x10008000, [(4, 0x100)], 0xFFFFFFFF, 0x0, 0x0, false, 0x0, false, 0⟩,
  ⟨"MIC_CLAIM", 0x10008004, [(4, 0x100)], 0x0, 0x0, 0x0, true, 0x0, false, 0⟩,
  ⟨"MIC_COMPLETE", 0x10008008, [(4, 0x100)], 0x0, 0x0, 0xFFFFFFFF, false, 0x0, false, 0⟩,
  ⟨"MIC_SPUR", 0x1000800C, [(4, 0x100)], 0x0, 0x0, 0x0, true, 0x0, false, 0⟩,
  ⟨"MIC_BADCOMP", 0x10008010, [(4, 0x100)], 0x0, 0x0, 0x0, true, 0x0, false, 0⟩]

/-- The registers with prefix PLN_. -/
def regRowsPLN : List RegRow := [
  ⟨"PLN_WAKE_EN", 0x10010000, [], 0xFFFFFFFF, 0x0, 0x0, false, 0xB, false, 0⟩,
  ⟨"PLN_WAKE_SRC", 0x10010010, [], 0x0, 0x0, 0x0, false, 0x0, false, 0⟩,
  ⟨"PLN_TIMER_LO", 0x10010020, [], 0xFFFFFFFF, 0x0, 0x0, false, 0x0, false, 1⟩,
  ⟨"PLN_TIMER_HI", 0x10010024, [], 0xFFFFFFFF, 0x0, 0x0, false, 0x0, false, 2⟩,
  ⟨"PLN_SAFE", 0x10010030, [], 0x0, 0x0, 0x0, false, 0x0, false, 0⟩,
  ⟨"PLN_SAFE_TIME_LO", 0x10010038, [], 0x0, 0x0, 0x0, false, 0x0, false, 1⟩,
  ⟨"PLN_SAFE_TIME_HI", 0x1001003C, [], 0x0, 0x0, 0x0, false, 0x0, false, 2⟩,
  ⟨"PLN_RESET", 0x10010040, [], 0x0, 0x0, 0x0, false, 0x0, false, 0⟩,
  ⟨"PLN_BOOT", 0x10010050, [], 0x0, 0x0, 0x0, false, 0x0, false, 0⟩]

/-- The registers with prefix BTR_. -/
def regRowsBTR : List RegRow := [
  ⟨"BTR_CTL", 0x11000000, [], 0xFFFFFFFF, 0x0, 0x0, false, 0x6400000A, false, 0⟩,
  ⟨"BTR_STAT", 0x11000004, [], 0x0, 0x0, 0x0, false, 0x0, false, 0⟩,
  ⟨"BTR_CLOSE", 0x11000008, [], 0x0, 0x0, 0xFFFFFFFF, false, 0x0, false, 0⟩,
  ⟨"BTR_WDOG", 0x1100000C, [], 0x0, 0x0, 0xFFFFFFFF, false, 0x0, false, 0⟩,
  ⟨"BTR_MERGED", 0x11000020, [], 0x0, 0x0, 0x0, true, 0x0, false, 0⟩,
  ⟨"BTR_SECONDARY", 0x11000024, [], 0x0, 0x0, 0x0, true, 0x0, false, 0⟩,
  ⟨"BTR_OVF", 0x11000028, [], 0x0, 0x0, 0x0, true, 0x0, false, 0⟩,
  ⟨"BTR_INJ", 0x11000030, [], 0x7FFFFFFF, 0x80000000, 0x0, false, 0x0, false, 0⟩,
  ⟨"BTR_NEW", 0x11000100, [(8, 0x10)], 0x0, 0x0, 0x0, false, 0x0, false, 0⟩,
  ⟨"BTR_REC", 0x11010000, [(256, 0x40), (16, 0x4)], 0x0, 0x0, 0x0, false, 0x0, false, 0⟩]

/-- The registers with prefix SEC_. -/
def regRowsSEC : List RegRow := [
  ⟨"SEC_BOOT", 0x19000000, [], 0x0, 0x0, 0x0, false, 0x0, false, 0⟩,
  ⟨"SEC_MARK", 0x19000040, [(12, 0x4)], 0x0, 0x0, 0x0, false, 0x0, false, 0⟩,
  ⟨"SEC_MEAS", 0x19000100, [(6, 0x40), (12, 0x4)], 0x0, 0x0, 0x0, false, 0x0, false, 0⟩]

/-- Every register of the map. -/
def regRows : List RegRow :=
  regRowsXLT ++ regRowsFPT ++ regRowsSTK ++ regRowsSEA ++ regRowsPNT ++ regRowsDIR ++ regRowsCRS ++ regRowsSIG ++ regRowsLNT ++ regRowsPWR ++ regRowsETH ++ regRowsMBX ++ regRowsMIC ++ regRowsPLN ++ regRowsBTR ++ regRowsSEC

/-- Whether an offset from a register's base is one of its instances: the index of each dimension is
below its count and nothing is left over. The dimensions stand with falling strides. -/
def inDims : Nat → List (Nat × Nat) → Bool
  | off, [] => off == 0
  | off, (c, st) :: t =>
    if t.isEmpty then off % st == 0 && decide (off / st < c)
    else
      let i := off / st
      decide (i < c) && inDims (off - i * st) t

/-- The rows of the block an address lies in (R26, R423). -/
def blockRows (a : Nat) : List RegRow :=
  let b := a / 0x1000000
  if 0x20 ≤ b then regRowsSTK ++ regRowsCRS ++ regRowsSEA ++ regRowsPNT
  else if b = 0x10 then (if a < 0x10010000 then regRowsMIC else regRowsPLN)
  else if b = 0x11 then regRowsBTR
  else if b = 0x12 then regRowsMBX
  else if b = 0x13 then regRowsFPT
  else if b = 0x14 then regRowsDIR
  else if b = 0x15 then regRowsXLT
  else if b = 0x16 then regRowsSIG ++ regRowsLNT
  else if b = 0x17 then regRowsETH
  else if b = 0x18 then regRowsPWR
  else regRowsSEC

/-- The row of an address, if a register is there. -/
def regRow (a : Nat) : Option RegRow :=
  (blockRows a).find? (fun r => decide (r.base ≤ a) && inDims (a - r.base) r.dims)

/-- The indexes of an address in its row. -/
def regIdx : Nat → List (Nat × Nat) → List Nat
  | _, [] => []
  | off, (_, st) :: t => (off / st) :: regIdx (off % st) t

/-- The reset values of STK_LATi (R147). -/
def stkLatReset : List Nat := [150, 250, 2000, 1000, 1000, 1000, 5000, 20000]

/-- The value a register holds after power-on reset (R17). -/
def regReset (a : Nat) : Word32 :=
  match regRow a with
  | none => 0
  | some r =>
    if r.base = 0x20000020 then BitVec.ofNat 32 ((stkLatReset[(a / 4) % 8]?).getD 0)
    else BitVec.ofNat 32 r.reset

end Sys2Proof.Machine
end

