-- ==== Sys2Proof/Machine/State.lean ====
section
/-!
DEFINITION. The state of the module: plain data, one structure per unit of the spec, and the state
after power-on reset. Registers that are plain words live in `regs`, keyed by address; everything
with a richer shape has its own structure, from which the register views of Machine/Regs.lean are
computed. A field of a structure that the spec does not name but the model needs is marked MODEL.
-/

namespace Sys2Proof.Machine

/-- Why a step stops with a fault. No meaning of this model raises one: every error of this hardware
is an effect on its state. The constructor exists because the interface asks for the type. -/
inductive Fault where
  /-- Raised by nobody. Safe. -/
  | none
  deriving DecidableEq, Repr

/-- Why a command has no meaning. -/
inductive Refusal where
  /-- A command whose arm has no meaning yet; raised by Dispatch only. Safe. -/
  | notModelled (mnemonic : String)
  deriving DecidableEq, Repr

/-- The master time base and its discipline (R30, R371, R373, R533). -/
structure TimeBase where
  /-- Whole nanoseconds, 64 bits. -/
  ns : Nat
  /-- Fraction of a nanosecond, in units of 2^-32. -/
  frac : Nat
  /-- The increment added on every KCLK cycle, in units of 2^-32 ns (R533). -/
  inc : Nat
  locked : Bool
  holdover : Bool
  /-- An offset beyond the step limit is reported and not applied until TIME_STEP (R371). -/
  timeFault : Bool
  /-- The first lock since reset has happened (R371). -/
  everLocked : Bool
  /-- The last measured offset, in ns. -/
  offset : Int
  /-- The source's time less the module's, kept for TIME_STEP. -/
  pendingOffset : Int
  /-- Successive good exchanges counted towards a lock. -/
  good : Nat
  /-- Exchanges missed in a row with the source. -/
  missed : Nat
  /-- Exchanges missed in a row with each group member (R367). -/
  memMissed : Tab Nat
  /-- Since when the named master answers with a locked time base (R368). -/
  namedSince : Option Nat
  /-- Offset of the local copy of each die (0 to 5) and port (8 + k) from the master, in ns (R30). -/
  skew : Tab Int
  deriving DecidableEq, Repr

/-- The bus masters and the Mason complex (R10, R421 to R425). DESIGN CHOICE: assumption 24. -/
structure Bus where
  /-- Latched _HI values, by master × 2^42 + address of the _LO register. -/
  loLatch : Tab Word32
  /-- Held _HI writes, by master × 2^42 + address of the _LO register. -/
  hiHold : Tab Word32
  /-- The data the last read of each master returned. -/
  readData : Tab Word64
  /-- Access faults raised in each core (R422 to R424). -/
  coreFault : Tab Nat
  /-- Load reservations of the A extension, by core: the reserved address. -/
  reserved : Tab Nat
  /-- Mason SRAM bytes written, by offset. -/
  sram : Tab Byte
  /-- The 64-bit accumulators of R425, by register address. -/
  accum : Tab Nat
  /-- The Mason cores are held in reset (R479). -/
  held : Bool
  deriving DecidableEq, Repr

/-- The interrupt controller beyond its plain registers (R460 to R466). -/
structure Mic where
  /-- Level of each source. -/
  level : BitVec 512
  /-- Software latch of each source. -/
  latch : BitVec 512
  /-- Which core has claimed a source. -/
  claim : Tab Nat
  /-- End of a source's COAL hold, as a time base. -/
  hold : Tab Nat
  deriving DecidableEq, Repr

/-- One Buttress record (R470). -/
structure BtrRec where
  seq : Nat
  cls : Nat
  severity : Nat
  secondary : Bool
  injected : Bool
  secClass : Nat
  unit : Nat
  inst : Nat
  count : Nat
  firstTime : Nat
  lastTime : Nat
  location : Nat
  detail : Nat
  secCount : Nat
  tenant : Option Nat
  deriving DecidableEq, Repr

/-- The fault collector (R470 to R478). -/
structure Btr where
  /-- Open records by slot. -/
  recs : Tab BtrRec
  /-- SEQ of the last record. -/
  seq : Nat
  /-- Slots not yet reported by the firmware. -/
  new : BitVec 256
  /-- Time base of the last BTR_WDOG write. -/
  wdog : Nat
  /-- Records appended to the log of each die (R476). -/
  logged : Tab Nat
  deriving DecidableEq, Repr

/-- One Ethernet association (R428). -/
structure AssocRec where
  net : Nat
  port : Nat
  identity : List Byte
  /-- The anchor slot its chain leads to. -/
  anchor : Nat
  /-- Arrival of the last authenticated datagram. -/
  seen : Nat
  deriving DecidableEq, Repr

/-- An Evous command as it waits in a queue (R431, R434). -/
structure Frame where
  slot : Nat
  opcode : Nat
  tag : Word32
  body : List Byte
  arrived : Nat
  deriving DecidableEq, Repr

/-- A final reply stored for resends (R434). -/
structure Stored where
  opcode : Nat
  tag : Word32
  status : Nat
  final : Bool
  body : List Byte
  deriving DecidableEq, Repr

/-- A session slot in use (R428, R434). -/
structure Session where
  identity : List Byte
  assocs : List AssocRec
  /-- Queries and changes not yet answered, oldest first, at most 16. -/
  queue : List Frame
  /-- Final replies, newest first, at most 256. -/
  replies : List Stored
  deriving DecidableEq, Repr

/-- What a deferred command waits for. -/
inductive Wait where
  | alloc (extents : List Nat)
  | release (extents : List Nat)
  | migrate (src : Nat)
  | contextDestroy (x : Nat)
  | contextCreate (x tenant ring cfg : Nat)
  | contextSuspend (x : Nat)
  /-- Courses being disabled, courses whose enable waits for a drain, and enables that were cancelled. -/
  | courseSet (off on cancelled : Nat)
  | portDisable (k : Nat)
  | portEnable (k : Nat)
  | portRetrain (k : Nat)
  | ethDisable (k : Nat)
  | ethEnable (k : Nat)
  | qpDestroy (q : Nat)
  | qpCreate (q tenant port mac ip peerQpn psn mtu access rkey : Nat)
  | endpointFail (x : Nat)
  | endpointRetire (x : Nat)
  | twinSet
  | twinPromote
  | twinTakeback
  | fwVerify
  | fwCommit
  | memtest (die chans pattern : Nat)
  | poolHold
  | poolResume
  | standby
  deriving DecidableEq, Repr

/-- A command whose final reply is owed (R435, R436). -/
structure Deferred where
  slot : Nat
  opcode : Nat
  tag : Word32
  wait : Wait
  deriving DecidableEq, Repr

/-- The mailbox engine: sessions, queues and ownership (R426 to R442). -/
structure Mailbox where
  sessions : Tab Session
  /-- Associations admitted with no slot, each with the time at which it is closed (R428). -/
  refusing : List (AssocRec × Nat)
  /-- The change queue, oldest first (R435). -/
  change : List Frame
  /-- The change command that has reached the head and passed its right check. -/
  current : Option Frame
  deferred : List Deferred
  owner : Option Nat
  epoch : Nat
  expires : Nat
  /-- The identity that last held ownership (R442). -/
  lastOwner : List Byte
  /-- The witness identity of TWIN_SET (R376, R428). -/
  witness : List Byte
  /-- Replies of slot 8 not yet read over SMBus, oldest first (R547). -/
  unread : List (List Byte)
  /-- The fragment index at which the oldest unread reply goes on. -/
  readIdx : Nat
  /-- The partial SMBus frame and the next fragment index (R547). -/
  partialFrame : List Byte
  nextFrag : Nat
  deriving DecidableEq, Repr

/-- The states of R330. -/
inductive LinkState where
  | down
  | training
  | up
  | retrain
  | width
  | fenced
  | disabled
  deriving DecidableEq, Repr

/-- An operation that this end asked for or runs (R334, R335): none, a retrain or a width change with
its width code (4: no limit). -/
structure LinkOp where
  retrain : Bool
  width : Nat
  deriving DecidableEq, Repr

/-- The dynamic state of one fabric port (R325 to R340). -/
structure Port where
  st : LinkState
  /-- Width code: 0 for 16, 1 for 12, 2 for 8, 3 for 4 wavelengths. -/
  width : Nat
  /-- The peer's IDENT payload. -/
  ident : List Byte
  lead : Bool
  nonce : Nat
  txCount : Nat
  rxCount : Nat
  acked : Nat
  /-- Unacknowledged DATA flits, oldest first (R326). -/
  retry : List (List Byte)
  /-- A bad CRC was seen: DATA is discarded until REPLAY_START (R327). -/
  discarding : Bool
  /-- The count of the next DATA flit to arrive, when it is a resend (R328). -/
  rxNext : Nat
  replays : Nat
  ackDue : Option Nat
  /-- Pool sizes of the peer, by CRPOOL code (R331). -/
  peerSize : Tab Nat
  /-- Slots of this end's messages started, and freed by the peer, by pool. -/
  used : Tab Nat
  peerFreed : Tab Nat
  /-- Slots this end has freed in its own pools since the link entered UP. -/
  freed : Tab Nat
  /-- Messages held in this port's receive pools, oldest first, with their pool. -/
  rx : List (Nat × Msg)
  /-- Bytes of a message of which not every flit has arrived. -/
  rxPart : List Byte
  /-- Messages that wait to be sent, oldest first, with their pool at the peer. -/
  txq : List (Nat × Msg)
  /-- Bytes of the message in transit that are not yet sent. -/
  txPart : List Byte
  /-- Weighted round robin: what each VC has left of its share (R340). -/
  wrr : Tab Nat
  /-- The pool whose credits the next flit carries (R339). -/
  crTurn : Nat
  tsSent : Nat
  /-- Wavelengths in lock here. -/
  lock : Nat
  lockLost : Option Nat
  /-- This end's outstanding operation request and its reason. -/
  ask : Option (LinkOp × Nat)
  /-- The operation that runs and when RETRAIN_MAX passes. -/
  oper : Option LinkOp
  operDue : Nat
  trainDue : Option Nat
  retrainAt : Option Nat
  rttNs : Nat
  draining : Bool
  deriving DecidableEq, Repr

/-- A completion record of the store (R356). -/
structure ComplRec where
  status : Nat
  xf : Nat
  cause : Nat
  value : Nat
  hasValue : Bool
  opcode : Nat
  expires : Nat
  deriving DecidableEq, Repr

/-- A response to a request (R342, R344). -/
structure Resp where
  opcode : Nat
  status : Nat
  cause : Nat
  xf : Nat
  arg : Nat
  poison : Bool
  /-- The line's PPA where the response names one (R193), with AKIND 2. -/
  line : Option Nat
  data : List Byte
  deriving DecidableEq, Repr

/-- What a request of the module's own is for. -/
inductive OwnUse where
  | notify
  /-- A tile's write to an endpoint, or its writes on the way to the standby: shadow and tile. -/
  | write (shadow tile : Nat)
  | mirrorTile (shadow tile : Nat)
  /-- A read of an endpoint: shadow and operand × 2^52 + address. -/
  | read (shadow key : Nat)
  /-- A MIRROR_COMMIT, or a mirrored write of a completion record or HEAD: shadow. -/
  | commit (shadow : Nat)
  /-- A mirrored write whose answer is owed to a request (R310). -/
  | mirror (owed : Nat)
  /-- A fragment of a MIRROR_CFG item (R381). -/
  | cfg (item : Nat)
  /-- A mirrored write of a RoCEv2 queue pair (R404). -/
  | roce (qp : Nat)
  /-- A MIRROR_BEAT, a MIRROR_ADD, or any other message whose answer nothing waits for. -/
  | plain
  deriving DecidableEq, Repr

/-- A request the module has sent and not seen answered (R354). -/
structure OwnReq where
  msg : Msg
  port : Nat
  sent : Nat
  tries : Nat
  use : OwnUse
  deriving DecidableEq, Repr

/-- The fabric above its ports. -/
structure Fabric where
  ports : Tab Port
  /-- Domain and device, once COORD_SET has succeeded (R71, R72). -/
  coord : Option (Nat × Nat)
  /-- Completion records, keyed by (domain, device, REQID) as a number. -/
  records : Tab ComplRec
  /-- Requests in progress, keyed like records, with the latest attempt (R357). -/
  inProgress : Tab Msg
  /-- The module's own outstanding requests, by REQID. -/
  own : Tab OwnReq
  nextReqid : Nat
  deriving DecidableEq, Repr

/-- What an Ethernet frame of the module carries. -/
inductive EthKind where
  /-- PTP message type with its two time stamps. -/
  | ptp (kind t1 t2 : Nat)
  /-- An event datagram of a session (R411). -/
  | event (slot : Nat) (datagram : List Byte)
  /-- A reply of a session (R431). -/
  | reply (slot : Nat) (frame : List Byte)
  | alert (code : Nat)
  | arp (mac ip : Nat)
  | neighbour (mac ip : Nat)
  | echo (ip ident seq : Nat) (data : List Byte)
  /-- Acknowledgement or NAK: queue pair, PSN, syndrome (0: ACK, else the NAK code plus 1). -/
  | roceAck (qp psn syndrome : Nat)
  | roceAtomic (qp psn : Nat) (value : Word64)
  /-- READ response: position 0 First, 1 Middle, 2 Last, 3 Only. -/
  | roceRead (qp psn position : Nat) (data : List Byte)
  | cnp (qp : Nat)
  | pfc (xoff : Bool)
  | spdm (data : List Byte)
  | hello (data : List Byte)
  | tftp (kind block : Nat) (name : List Byte)
  deriving DecidableEq, Repr

/-- A frame that waits in an egress queue (R414, R415). -/
structure EthFrame where
  kind : EthKind
  /-- Length including the FCS, in bytes. -/
  len : Nat
  /-- Finish tag, set when the frame reached the head of its queue. -/
  tag : Option Nat
  deriving DecidableEq, Repr

/-- The dynamic state of one Ethernet port (R397 to R399, R414 to R418). -/
structure EthPort where
  ipv4 : Nat
  plen4 : Nat
  gw4 : Nat
  ipv6 : Nat
  plen6 : Nat
  gw6 : Nat
  /-- Bytes of RoCEv2 frames in the receive buffer. -/
  fill : Nat
  xoffSent : Bool
  /-- Egress queues: 0 TIME, 1 EVENT, 2 MGMT, 16 + t for ROCE t. -/
  queues : Tab (List EthFrame)
  /-- Last finish tag of each weighted queue, scaled by 2^16. -/
  finish : Tab Nat
  virt : Nat
  /-- Bits the EVENT token bucket holds, and when it was last filled. -/
  tokens : Nat
  tokensAt : Nat
  /-- Gate entry that is open. -/
  gate : Nat
  gateEnd : Nat
  /-- Settings that start with the next gate cycle: ETH_EGR_CTL, CYCLE and the list. -/
  pendingEgr : Option (Nat × Nat × List Nat)
  draining : Bool
  deriving DecidableEq, Repr

/-- A RoCEv2 READ whose responses are being sent (R402, R403). -/
structure RoceRead where
  psn : Nat
  va : Nat
  len : Nat
  /-- Response packets sent. -/
  sent : Nat
  /-- Units translated for it: (slot, extent, extent epoch, era). -/
  units : List (Nat × Nat × Nat × Nat)
  deriving DecidableEq, Repr

/-- One RoCEv2 queue pair (R401 to R406). -/
structure QPair where
  error : Bool
  draining : Bool
  tenant : Nat
  port : Nat
  mac : Nat
  ip : Nat
  peerQpn : Nat
  epsn : Nat
  mtu : Nat
  access : Nat
  rkey : Word32
  /-- A PSN Sequence Error NAK was sent and the expected PSN has not arrived since. -/
  nakked : Bool
  /-- The WRITE in progress: next address and bytes left. -/
  writing : Option (Nat × Nat)
  /-- Units translated for the WRITE in progress: (slot, extent, extent epoch, era). -/
  units : List (Nat × Nat × Nat × Nat)
  reads : List RoceRead
  /-- PSN and result of the atomic requests, newest first, at most 16. -/
  atomics : List (Nat × Word64)
  /-- Egress rate limit, in Mb/s. -/
  rate : Nat
  cnpSentAt : Option Nat
  cnpSeenAt : Nat
  dupWrites : Nat
  dupReads : Nat
  dupAtomics : Nat
  seqErrors : Nat
  nakInvalid : Nat
  nakAccess : Nat
  nakOper : Nat
  /-- The earliest time at which the rate limit lets the next frame start. -/
  nextAt : Nat
  /-- Packets not yet executed: they wait for a fence on their extent, a line, or the request before, oldest first (R403, R404). -/
  waiting : List RocePkt
  late : Nat
  /-- Mirrored writes that the standby has not acknowledged, and the answers that wait for them (R310, R404). -/
  mirrorAcks : Nat
  ackOwed : List EthKind
  deriving DecidableEq, Repr

/-- The Ethernet networks, the RoCEv2 target, PTP and the event datagrams (R397 to R420). -/
structure Ether where
  ports : Tab EthPort
  qps : Tab QPair
  /-- Announce intervals missed in a row on the chosen port. -/
  announceMissed : Nat
  /-- The best announced clock per network: priority word, or none. -/
  best : Tab Nat
  /-- Time of the last announce per network. -/
  announcedAt : Tab Nat
  /-- Times of a delay measurement in progress: t1, t2, t3. -/
  ptpT1 : Nat
  ptpT2 : Nat
  ptpT3 : Nat
  deriving DecidableEq, Repr

/-- Power, supplies, thermal limits and clocks beyond their registers (R512 to R537). -/
structure Power where
  /-- The last ten 10 µs samples, in mW, newest first, and when the last was taken (R518). -/
  samples : List Nat
  sampledAt : Nat
  /-- Current of the last sample, in mA. -/
  current : Nat
  /-- Energy not yet a whole mJ, in mW × 10 µs. -/
  energy : Nat
  /-- Plate load in µW, whether it has its first value, and its last update (R522). -/
  load : Nat
  loadInit : Bool
  loadAt : Nat
  /-- Sum in mW and number of the samples since the last update of the plate load. -/
  accW : Nat
  accN : Nat
  /-- The plate load permits the peak (R522). -/
  armed : Bool
  /-- The target of the power limiter while it falls from the peak, in mW (R521). -/
  ramp : Option Nat
  /-- The cap that each limiter computes: power (which fast and ride lower at once), junction, stack (R520). -/
  capPower : Nat
  capJunction : Nat
  capStack : Nat
  /-- The fast limiter, or ride-through, has lowered the power limiter's cap, which has not come back to 64. -/
  fastHeld : Bool
  rideHeld : Bool
  /-- When the limiters last acted, and the last time each of the three lowered or raised its cap. -/
  tickAt : Nat
  powerAt : Nat
  junctionAt : Nat
  stackAt : Nat
  /-- The junction limiter, or the stack limiter, is lowering its cap. -/
  junctionHot : Bool
  stackHot : Bool
  /-- An event JUNCTION or STACK has been sent since A was last 64 (R536). -/
  thermalCap : Bool
  /-- Since when PWR52 has been below 44 V, below 40 V, and at or above 45 V. -/
  belowSince : Option Nat
  below40 : Option Nat
  aboveSince : Option Nat
  /-- PWR_LIMIT as a POWER_SET in ride-through set it (R527). -/
  pendingSet : Option Nat
  /-- Sensor values in °C: sensor 8n + i of voussoir die n, 48 + i of the keystone die. -/
  junction : Tab Nat
  /-- Stack temperatures in °C, by stack 0 to 23. -/
  stackTemp : Tab Nat
  /-- Bit r: rail r in regulation: 0 VCORE_K, 1 VIO_K, 2 to 7 VCORE_V0 to V5, 8 VPP_S, 9 VDD_S, 10 VDDQ_S. -/
  rails : Nat
  /-- When the rails came up. -/
  railsAt : Nat
  standby : Bool
  /-- Fabric ports that POOL_HOLD disabled. -/
  heldPorts : Nat
  /-- When the pool-hold ends with or without its ports: 500 µs after POOL_RESUME. -/
  resumeDue : Nat
  vauxOn : Bool
  deriving DecidableEq, Repr

/-- What the flash holds as the firmware image (R453, R550): the image it was shipped with, nothing valid, or the
bytes that FW_COMMIT wrote. -/
inductive Flash where
  | shipped
  | erased
  | written (image : List Byte)
  deriving DecidableEq, Repr

/-- What the boot ROM and the security block hold (R502 to R509, R550 to R562). -/
structure Boot where
  /-- The BOOTID drawn at power-on reset (R411). -/
  bootId : Word64
  /-- The Plinth's copy of the last event SEQ (R469). -/
  plnSeq : Nat
  /-- The last event SEQ before a restart of the firmware, until the later ones are sent (R454). -/
  unsent : Option Nat
  /-- Anchor slots in force, as certificates. -/
  anchors : Tab (List Byte)
  /-- The two anchor copies of the flash: generation and slots; a copy that is not listed is not correct (R551). -/
  copies : Tab (Nat × Tab (List Byte))
  flash : Flash
  /-- The version of the firmware that runs. -/
  version : Nat
  /-- SIZE of the staged image that FW_VERIFY passed, that it is verifying, and that FW_COMMIT writes. -/
  verified : Option Nat
  verifying : Option Nat
  committing : Option Nat
  /-- The SVN and REVOKE fuses (R502). -/
  svn : Nat
  revoked : Nat
  /-- By network: the recovery port in use, and since when it has not been UP (R558). -/
  recPort : Tab Nat
  recSince : Tab Nat
  helloAt : Nat
  /-- The recovery load in progress: network, server address, IMAGE_SIZE, file name. -/
  offer : Option (Nat × Nat × Nat × List Byte)
  /-- What it has brought so far, the last block in order, and when it came. -/
  loaded : List Byte
  block : Nat
  lastData : Nat
  /-- The image that the mover has read, and whether the recovery load brought it. -/
  image : List Byte
  fromRecovery : Bool
  deriving DecidableEq, Repr

/-- The board: SMBus, PMBus and JTAG (R544 to R549). -/
structure Board where
  /-- PMBus status bits: 0 undervoltage warning, 1 undervoltage fault. -/
  statusInput : Nat
  /-- 0 overtemperature warning, 1 overtemperature fault. -/
  statusTemp : Nat
  /-- The bytes that the last SMBus transaction returned, or none where its code was not acknowledged. -/
  smbData : Option (List Byte)
  smbAddr : Nat
  smbActive : Bool
  /-- JTAG instruction: 0 IDCODE, 1 BYPASS, 2 SAMPLE/PRELOAD, 3 EXTEST, 4 REGACC, 5 ANCHOR_LOAD. -/
  jtagIr : Nat
  jtagOut : Nat
  /-- The preloaded boundary register, and the pins driven from it by EXTEST. -/
  boundary : Nat
  pinsDriven : Option Nat
  deriving DecidableEq, Repr

/-- An extent record (R48). state: 0 RESERVED, 1 FREE, 2 ZEROING, 3 READY, 4 DRAINING. -/
structure ExtRec where
  st : Nat
  holder : Nat
  prio : Nat
  coherent : Bool
  mirrored : Bool
  mapcount : Nat
  deriving DecidableEq, Repr

/-- An open revocation fence (R96). cause: 0 VIEW_UNMAP, 1 window change, 2 migration switch. -/
structure Fence where
  extents : List Nat
  cause : Nat
  opened : Nat
  deriving DecidableEq, Repr

/-- A change that waits, whole, because 64 fences are open (R99). -/
inductive FenceWait where
  | viewUnmap (slot : Nat) (tag : Word32) (tenant vslot : Nat)
  | windowSet (slot : Nat) (tag : Word32) (window ctl base src : Nat)
  | windowClear (slot : Nat) (tag : Word32) (window : Nat)
  | migrationSwitch (source : Nat)
  deriving DecidableEq, Repr

/-- A migration that runs (R100 to R102). -/
structure Migration where
  dest : Nat
  pass : Nat
  /-- 4 KiB pages of the source that a write has reached in this pass. -/
  dirty : List Nat
  /-- The switch has begun, at this time. -/
  switching : Option Nat
  deriving DecidableEq, Repr

/-- One shadow entry (R90). -/
structure ShEntry where
  rd : Bool
  wr : Bool
  atom : Bool
  coh : Bool
  mir : Bool
  viawin : Bool
  extent : Nat
  srcUnit : Nat
  epoch : Nat
  deriving DecidableEq, Repr

/-- A shadow (R89). operands: first entry and number of entries of each operand. -/
structure Shadow where
  context : Nat
  tenant : Nat
  course : Bool
  entries : List ShEntry
  sigIdx : Nat
  held : Bool
  era : Nat
  accepted : Nat
  origin : Nat
  operands : List (Nat × Nat)
  deriving DecidableEq, Repr

/-- A fault record (R103). -/
structure FaultRec where
  seq : Nat
  tenant : Nat
  slot : Nat
  viawin : Bool
  winnum : Bool
  cause : Nat
  need : Nat
  have_ : Nat
  waiters : Nat
  hits : Nat
  first : Nat
  last : Nat
  firstContext : Nat
  firstSource : Nat
  firstAddr : Nat
  reported : Bool
  deriving DecidableEq, Repr

/-- Extents, views, translation, shadows and faults (R48 to R115). -/
structure Xlt where
  ext : Tab ExtRec
  epochs : Tab Nat
  era : Nat
  fences : Tab Fence
  fenceWait : List FenceWait
  /-- Zero fills that wait or run, per die, in order (R52). -/
  filling : Tab (List Nat)
  migrations : Tab Migration
  /-- Requests held at translation by a migration switch (R101): port and message. -/
  heldReqs : List (Nat × Msg)
  /-- View entries, by tenant × 2^18 + slot (R56). -/
  views : Tab Word64
  /-- Keys held by the view cache, newest first, and its misses (R77). -/
  vcache : List Nat
  vmiss : Nat
  shadows : Tab Shadow
  /-- Fault queues: per tenant, its records by queue slot (R106). -/
  faults : Tab (Tab FaultRec)
  /-- The last SEQ of each tenant's records. -/
  faultSeq : Tab Nat
  /-- Contexts parked unrecorded per tenant, in parking order (R107). -/
  unrecorded : Tab (List Nat)
  deriving DecidableEq, Repr

/-- One granule access at a channel (R121 to R130). -/
structure Acc where
  write : Bool
  input : Nat
  ppa : Nat
  len : Nat
  /-- Write data, or the bytes a read found at its entry. -/
  data : List Byte
  /-- Check-bit errors of the words a read covers, as they stood at its entry. -/
  bad : List Nat
  /-- A read that found a poisoned line. -/
  poison : Bool
  entered : Nat
  urg : Nat
  late : Bool
  /-- The cycle of its column commands. -/
  issued : Nat
  deriving DecidableEq, Repr

/-- One bank of a channel (R117, R128, R131, R133, R145). Cycles are MCLK cycles of the channel. -/
structure Bank where
  row : Option Nat
  /-- The idle timer value T, in ns. -/
  idle : Nat
  last : Nat
  /-- The row that the idle timer closed last, and when. -/
  closed : Option (Nat × Nat)
  /-- Refreshes postponed, or pulled in when negative. -/
  due : Int
  acts : Nat
  rfm : Bool
  hits : Nat
  spares : Nat
  deriving DecidableEq, Repr

/-- A command sent to a stack: 0 activate, 1 precharge, 2 read, 3 write, 4 refresh, 5 RFM. -/
structure DramCmd where
  kind : Nat
  bank : Nat
  cycle : Nat
  bursts : Nat
  deriving DecidableEq, Repr

/-- One channel of a stack and its scheduler (R118 to R146). st as STK_CHSTAT.STATE. -/
structure Chan where
  st : Nat
  lanes : Nat
  tracks : Nat
  fails : Nat
  rq : List Acc
  wq : List Acc
  /-- Entries held at the crossing into MCLK (R121). -/
  held : List Acc
  /-- Reads whose column commands are issued, oldest first. -/
  flight : List Acc
  /-- Reads that wait for a rebuild from the seal (R165). -/
  rebuild : List Acc
  /-- Reads that have returned: newest first. -/
  done : List Acc
  drain : Bool
  /-- A delta of this channel waits in the seal cache (R163). -/
  stalled : Bool
  banks : Tab Bank
  cmds : List DramCmd
  cycle : Nat
  /-- Correctable words in the millisecond that began at ceAt (R140). -/
  ce : Nat
  ceAt : Nat
  trackedAt : Nat
  trackedTemp : Nat
  /-- A tracking trigger that waits for the rebuild (R141). -/
  trackHeld : Bool
  /-- Remapped rows, by bank × 32768 + row (R145). -/
  remap : Tab Nat
  copying : Option (Nat × Nat)
  /-- Command to issue again after a parity error (R116). -/
  again : Option DramCmd
  /-- Token bucket of input BKG (R122): tenths of bursts left, and when it was last filled. -/
  bkgLeft : Nat
  bkgAt : Nat
  deriving DecidableEq, Repr

/-- One line of a seal cache (R162). -/
structure SealLine where
  dirty : Option Nat
  used : Nat
  deriving DecidableEq, Repr

/-- A delta on its way to a seal cache: page and channel (R159). -/
structure Delta where
  page : Nat
  channel : Nat
  deriving DecidableEq, Repr

/-- A page hold (R160). who: 0 rebuild of a waiting read, 1 scrubber, 2 another holder. -/
structure Hold where
  page : Nat
  granted : Bool
  who : Nat
  deriving DecidableEq, Repr

/-- The seal cache, scrubber and self-refresh state of one die (R160 to R184). -/
structure SealDie where
  lines : Tab SealLine
  deltas : List Delta
  waiting : List Delta
  holds : List Hold
  use : Nat
  /-- The page number (within the die) at which the scrubber goes on. -/
  pos : Nat
  selfRefresh : Bool
  /-- Extents whose segments the mask leaves out, taken at entry (R135). -/
  unmasked : List Nat
  /-- Replays of the transfer in trouble, by hop: 0 the die-to-die link, 1 an on-die hop. -/
  replays : Tab Nat
  /-- The die-to-die link has failed (R25, R481). -/
  linkLost : Bool
  deriving DecidableEq, Repr

/-- Lines lost when a channel was rebuilt while another of its group pair was unavailable (R143, R167):
every line on the channel in a page with a position on the other, except those listed and those of extents zero-filled since. -/
structure Loss where
  die : Nat
  channel : Nat
  other : Nat
  cured : List Nat
  zeroed : List Nat
  deriving DecidableEq, Repr

/-- The stacks: channels, word code, seals (R116 to R184). -/
structure Dram where
  /-- Start-up training is done: a channel that is not listed is IN_SERVICE. -/
  trained : Bool
  chans : Tab Chan
  dies : Tab SealDie
  /-- Stored check bits XOR the right ones, by PPA / 8; no entry is zero (R151, R179). -/
  marks : Tab Nat
  /-- The same for the words of seals, by page × 32 + word; 0xFF marks a poisoned seal word. -/
  sealMarks : Tab Nat
  /-- Stored symbol c_32 of a seal XOR the right one, by page × 128 + codeword (R180). -/
  sealErr : Tab Nat
  /-- Pages recorded as SEAL_STALE (R164). -/
  stale : List Nat
  losses : List Loss
  /-- Extents whose contents are undefined after self-refresh (R136), and their addresses written since. -/
  undef : List Nat
  undefWritten : List Nat
  /-- The free draw of an undefined extent's contents (MODEL). -/
  undefAt : Tab Nat
  deriving DecidableEq, Repr

/-- A directory entry (R187). st: 1 S, 2 SC, 3 X. -/
structure DirEntry where
  st : Nat
  ptrs : List Nat
  coarse : Nat
  /-- Order of allocation. -/
  alloc : Nat
  deriving DecidableEq, Repr

/-- A recall that is not answered (R193, R205, R209). -/
structure Recall where
  ep : Nat
  line : Nat
  belief : Nat
  sent : Nat
  /-- The data has come by WBACK. -/
  data : Bool
  /-- REQID of the recall message, which the answer echoes. -/
  id : Nat
  deriving DecidableEq, Repr

/-- Whose transaction it is. -/
inductive TxnWho where
  /-- A single request: its port, message, translated segments and tenant. -/
  | req (port : Nat) (msg : Msg) (segs : List (Nat × Nat)) (tenant : Nat)
  /-- An agent of the module (R207). -/
  | agent (write : Bool)
  /-- Recalls of a retiring endpoint (R220). -/
  | retire (ep : Nat)
  deriving DecidableEq, Repr

/-- A transaction slot (R189). -/
structure Txn where
  line : Nat
  who : TxnWho
  active : Bool
  recalls : List Recall
  victim : Option Nat
  /-- The request has been served; the slot waits for an answer that is still owed (R206, R208). -/
  served : Bool
  /-- The recall of the line itself timed out with the line held in X (R209). -/
  poisoned : Bool
  /-- The endpoint index a PUSH went to, and when. -/
  push : Option Nat
  pushAt : Nat
  /-- REQID of the PUSH. -/
  pushId : Nat
  deriving DecidableEq, Repr

/-- The directory (R185 to R221). -/
structure Dir where
  entries : Tab DirEntry
  /-- Endpoint table: coordinate and state, 1 ACTIVE or 2 FAILED; unlisted is FREE. -/
  eps : Tab (Nat × Nat)
  txns : List Txn
  allocs : Nat
  /-- Sweep: endpoint, cause (0 timeout, 1 manager), lines poisoned, pointers removed (R210 to R212). -/
  sweep : Option (Nat × Nat × Nat × Nat)
  /-- Sweeps that wait for the one that runs, and when that one began. -/
  sweepNext : List (Nat × Nat × Nat × Nat)
  sweepAt : Nat
  /-- Requests behind a held REQ input: since when, whose, and the line (R197). -/
  heldReq : List (Nat × TxnWho × Nat)
  retiring : List Nat
  deriving DecidableEq, Repr

/-- A watch entry (R299). line: the 128 B line its word lies on. order: order of arming. -/
structure WatchEnt where
  time : Bool
  action : Nat
  persist : Bool
  tenant : Nat
  context : Nat
  tag : Nat
  word : Nat
  target : Nat
  dest : Nat
  coord : Nat
  amount : Nat
  seq : Nat
  extent : Nat
  epoch : Nat
  ppa : Nat
  order : Nat
  /-- Armed by WATCH_ARM (R303). -/
  byArm : Bool
  deriving DecidableEq, Repr

/-- A watch notice on its way: the line, and the word and new value of an atomic operation (R302). -/
structure Notice where
  line : Nat
  value : Option (Nat × Nat)
  deriving DecidableEq, Repr

/-- A lintel object (R304 to R308, R315). mode: bit 0 SIGNAL, bit 1 NOTIFY. -/
structure Lintel where
  job : Nat
  participants : Nat
  tenant : Nat
  mode : Nat
  twinned : Bool
  relSignal : Nat
  relAddr : Nat
  tag : Nat
  cur : Nat
  countCur : Nat
  countNext : Nat
  broken : Nat
  deriving DecidableEq, Repr

/-- Signals, watches and barriers (R291 to R315, R567). -/
structure Signals where
  watches : Tab WatchEnt
  order : Nat
  notices : List Notice
  /-- TAG and entry number of entries that WATCH_ARM armed and that have fired. -/
  fired : List (Nat × Nat × Nat)
  lintels : Tab Lintel
  deriving DecidableEq, Repr

/-- One piece of a tile's output: operand record (a bulk destination is 1), byte offset within the operand, and
bytes. -/
structure Piece where
  op : Nat
  off : Nat
  data : List Byte
  deriving DecidableEq, Repr

/-- A tile in flight (R92, R228). -/
structure Tile where
  num : Nat
  member : Nat
  /-- Its output; none while bytes of an endpoint, or lines of the directory, are awaited. -/
  out : Option (List Piece)
  /-- It has read a poisoned line (R171). -/
  poison : Bool
  placed : Bool
  /-- It has written to a mirrored extent, so its commit is owed (R383). -/
  mirrored : Bool
  /-- Its requests to endpoints and to the standby that are not acknowledged. -/
  left : Nat
  /-- Bytes sent to endpoints, and bytes they acknowledged (R349). -/
  want : Nat
  got : Nat
  deriving DecidableEq, Repr

/-- What a course descriptor and a bulk descriptor have in common while they run. -/
structure Job where
  /-- Its shadow, by the order of acceptance. -/
  shadow : Nat
  /-- Its number in the ring, or DESC of a bulk descriptor with a mirrored destination (R381). -/
  desc : Nat
  nextTile : Nat
  flight : List Tile
  /-- Tiles below this one are written whole, and the tiles above it that are (R245). -/
  tiles : Nat
  above : List Nat
  /-- Bytes of endpoints that have come for tiles in flight, poisoned or not, by operand × 2^52 + address, and those asked for. -/
  landed : Tab (Bool × List Byte)
  asked : List Nat
  /-- A read of an endpoint has failed: tiles that need it end unwritten. -/
  lost : Bool
  /-- STATUS and CAUSE of the failure that ends it. -/
  fail : Option (Nat × Nat)
  /-- A tile waits for revalidation (R93). -/
  held : Bool
  /-- Every entry is revalidated before the next tile (R254). -/
  recheck : Bool
  /-- MIRROR_COMMITs not acknowledged; then, in phase 1, the mirrored record writes not acknowledged. -/
  acks : Nat
  /-- 0 its tiles run, 1 its record and HEAD are written (R245). -/
  phase : Nat
  deriving DecidableEq, Repr

/-- A course descriptor from its acceptance to its completion (R238 to R256). -/
structure Run where
  /-- Its 256 bytes as accepted. -/
  raw : List Byte
  job : Job
  /-- The station program as loaded at the first dispatch (R256). -/
  prog : Option (List Word64)
  /-- The BROADCAST operands as read at this dispatch, in record order (R225); none before they are. -/
  bcast : Option (List (List Byte))
  accesses : Nat
  lateAcc : Nat
  flushed : Nat
  oob : Nat
  /-- A WAIT whose word has not reached TARGET. -/
  waiting : Bool
  /-- The courses that run it, by member, and since when. -/
  members : List Nat
  dispatched : Nat
  /-- No new tile starts: 0 none, 1 preempted, 2 suspended, 3 its context stops, 4 destroyed. -/
  stop : Nat
  deriving DecidableEq, Repr

/-- What a parked context waits on (R105, R107): its records as tenant and SEQ, or none recorded. -/
structure Park where
  records : List (Nat × Nat)
  unrecorded : Bool
  /-- The descriptor that faulted. -/
  raw : List Byte
  /-- A bulk descriptor: its message; none for the next descriptor of the ring. -/
  bulk : Option Msg
  /-- Its records are resolved, or its turn has come (R108): it is to be translated again. -/
  again : Bool
  deriving DecidableEq, Repr

/-- A context (R232, R249, R250). st as XLT_CTXx_STAT.STATE; a context that is not listed is FREE. -/
structure Ctx where
  tenant : Nat
  prio : Nat
  gangMax : Nat
  diemask : Nat
  ringLog : Nat
  ring : Nat
  st : Nat
  cause : Nat
  head : Nat
  tail : Nat
  /-- The pending flag of R235. -/
  pend : Bool
  run : Option Run
  next : Option Run
  park : Option Park
  /-- ADMIT_STATUS shows BUSY_RETRY. -/
  busyRetry : Bool
  /-- RETRY_AFTER of a refused descriptor. -/
  retryAt : Option Nat
  /-- Courses reserved for a gang, and when the first was. -/
  reserved : List Nat
  gangAt : Nat
  /-- Since when the context waits for a local course, and whether STEAL_WAIT has passed (R252). -/
  stealAt : Option Nat
  stealDone : Bool
  tailWatch : Option Nat
  waitWatch : Option Nat
  /-- Bulk descriptors refused with BUSY_RETRY and not yet accepted, oldest first (R84, R85). -/
  refused : List (List Byte)
  /-- TAIL as read at the command that destroys or restarts it. -/
  limit : Option Nat
  /-- Round robin: when it was last served. -/
  served : Nat
  /-- A TAIL overrun was seen (R234). -/
  overrun : Bool
  deriving DecidableEq, Repr

/-- A bulk descriptor from acceptance to completion (R82 to R93). -/
structure BulkJob where
  context : Nat
  /-- SRC of its BULK_DESC (R63). -/
  src : Nat
  raw : List Byte
  job : Job
  deriving DecidableEq, Repr

/-- The course scheduler and the bulk engine (R222 to R261). -/
structure Sched where
  ctxs : Tab Ctx
  bulk : List BulkJob
  /-- Virtual time per tenant, in ns × 2^16 / WEIGHT (R493). -/
  vtime : Tab Nat
  /-- Writes of ring headers that wait for a line of the directory: context, offset and bytes. -/
  posts : List (Nat × Nat × List Byte)
  /-- Courses that are being disabled, bit by bit. -/
  draining : Nat
  turn : Nat
  nextShadow : Nat
  bulkDesc : Nat
  /-- The gate entry of the dies that is open, when it ends, and whether its guard has begun (R498). -/
  gate : Nat
  gateEnd : Nat
  guard : Nat
  pendingGate : Option (Nat × Nat × List Nat)
  deriving DecidableEq, Repr

/-- A tile in the mirror journal (R383): BULK flag, context, DESC, tile, and its writes: PPA of the granule, poison, and
masked bytes. -/
structure Journal where
  bulk : Bool
  context : Nat
  desc : Nat
  tile : Nat
  committed : Bool
  writes : List (Nat × Bool × List (Bool × Byte))
  deriving DecidableEq, Repr

/-- A command of the active whose reply waits until its twin has applied it (R379): the number of its
MIRROR_CFG item, and the reply. -/
structure CfgReply where
  item : Nat
  slot : Nat
  opcode : Nat
  tag : Word32
  status : Nat
  body : List Byte
  /-- The final reply of a deferred command that has ended meanwhile. -/
  final : Option (Nat × List Byte)
  deriving DecidableEq, Repr

/-- A twin's side of the pair (R376 to R396). st as FPT_TWIN_STAT.STATE. -/
structure Twin where
  st : Nat
  formed : Bool
  gen : Nat
  lastHeard : Nat
  peerSt : Nat
  peerGen : Nat
  /-- The mirror is lost. -/
  lost : Bool
  isolatedAt : Nat
  standbyAt : Nat
  lostAt : Nat
  journal : List Journal
  /-- Next tile to move, per stream: BULK flag, context, DESC. -/
  moved : List (Bool × Nat × Nat × Nat)
  /-- Pages marked dirty while SOLO (R391). -/
  dirty : List Nat
  /-- Pages left to copy, and the number at the start (R392). -/
  toCopy : List Nat
  total : Nat
  /-- Answers that wait for a mirror acknowledgement: request, response (R310). -/
  owed : List (Nat × Msg × Resp)
  /-- Requests held while ISOLATED (R386). -/
  heldReqs : List (Nat × Msg)
  /-- MIRROR_CFG items as they arrive: kind, item, fragment index (128 added to the last one's), bytes. -/
  cfg : List (Nat × Nat × Nat × List Byte)
  nextItem : Nat
  /-- Commands whose reply waits for the standby (R379), oldest first. -/
  replies : List CfgReply
  /-- Bulk descriptors accepted on the old active: DESC and descriptor. -/
  bulkSeen : List (Nat × List Byte)
  /-- Extents allocated on the active but not mirrored, with their records there: FREE here, and not to be allocated
  (R377, R388). -/
  blocked : Tab ExtRec
  /-- The handover of R393 runs: this active will enter STANDBY. -/
  handing : Bool
  /-- Extents removed from views at the takeover (R388). -/
  removed : List Nat
  bytes : Nat
  deriving DecidableEq, Repr

/-- What the module has put out. The newest entry stands first. MODEL: the observation log.
DESIGN CHOICE: assumption 166. -/
inductive Output where
  /-- A flit left a fabric port. -/
  | flit (port : Nat) (bytes : List Byte)
  /-- A frame left an Ethernet port. -/
  | frame (port : Nat) (frame : EthFrame)
  /-- A pin changed: 0 FATAL_N, 1 PWRGD. -/
  | pin (which : Nat) (high : Bool)
  deriving DecidableEq, Repr

/-- The whole module. -/
structure State where
  tb : TimeBase
  regs : Tab Word32
  bus : Bus
  mic : Mic
  btr : Btr
  mbx : Mailbox
  fab : Fabric
  eth : Ether
  pwr : Power
  boot : Boot
  brd : Board
  xlt : Xlt
  dram : Dram
  dirc : Dir
  sig : Signals
  sched : Sched
  twin : Twin
  /-- Pool memory: bytes other than zero, by PPA (R41). -/
  mem : Tab Byte
  /-- Outputs of the module, newest first (MODEL). -/
  out : List Output
  /-- Counter of the free values drawn (MODEL). -/
  free : Nat
  /-- Commands that wait, first in, first out (MODEL). -/
  pending : List Instr
  deriving DecidableEq, Repr

/-! ### After reset -/

/-- The time base: it runs free at its nominal increment of 0.625 ns, from 0 (R371, R395, R533). -/
def TimeBase.reset : TimeBase :=
  { ns := 0, frac := 0, inc := 2684354560, locked := false, holdover := false, timeFault := false, everLocked := false
    offset := 0, pendingOffset := 0, good := 0, missed := 0, memMissed := [], namedSince := none, skew := [] }

/-- The mailbox engine: no session, no owner (R459). -/
def Mailbox.reset : Mailbox :=
  { sessions := [], refusing := [], change := [], current := none, deferred := [], owner := none, epoch := 0, expires := 0
    lastOwner := [], witness := [], unread := [], readIdx := 0, partialFrame := [], nextFrag := 0 }

/-- Power: no limiter holds the cap, and the plate load permits the peak (R520, R522, R537). -/
def Power.reset : Power :=
  { samples := [], sampledAt := 0, current := 0, energy := 0, load := 0, loadInit := false, loadAt := 0, accW := 0, accN := 0
    armed := true, ramp := none, capPower := 64, capJunction := 64, capStack := 64, fastHeld := false, rideHeld := false
    tickAt := 0, powerAt := 0, junctionAt := 0, stackAt := 0, junctionHot := false, stackHot := false, thermalCap := false
    belowSince := none, below40 := none, aboveSince := none, pendingSet := none, junction := [], stackTemp := [], rails := 0
    railsAt := 0, standby := false, heldPorts := 0, resumeDue := 0, vauxOn := true }

/-- The security block and the boot ROM: a part as it was shipped, every anchor slot empty (R551).
DESIGN CHOICE: assumption 10. -/
def Boot.reset : Boot :=
  { bootId := Config.freeWord64 0, plnSeq := 0, unsent := none, anchors := [], copies := [], flash := .shipped, version := 0, verified := none
    verifying := none, committing := none, svn := 0, revoked := 0, recPort := [], recSince := [], helloAt := 0, offer := none
    loaded := [], block := 0, lastData := 0, image := [], fromRecovery := false }

/-- The board's side: no status bit set, the test access port reset, address 0x58. -/
def Board.reset : Board :=
  { statusInput := 0, statusTemp := 0, smbData := none, smbAddr := 0x58, smbActive := false, jtagIr := 0, jtagOut := 0
    boundary := 0, pinsDriven := none }

/-- Translation: extents as R48 leaves them, no fence, no view, no shadow, no fault record. -/
def Xlt.reset : Xlt :=
  { ext := [], epochs := [], era := 0, fences := [], fenceWait := [], filling := [], migrations := [], heldReqs := []
    views := [], vcache := [], vmiss := 0, shadows := [], faults := [], faultSeq := [], unrecorded := [] }

/-- The stacks: not trained, nothing injected, nothing lost. -/
def Dram.reset : Dram :=
  { trained := false, chans := [], dies := [], marks := [], sealMarks := [], sealErr := [], stale := [], losses := []
    undef := [], undefWritten := [], undefAt := [] }

/-- The directory: empty (R221). -/
def Dir.reset : Dir :=
  { entries := [], eps := [], txns := [], allocs := 0, sweep := none, sweepNext := [], sweepAt := 0, heldReq := [], retiring := [] }

/-- The scheduler: every context FREE (R232). -/
def Sched.reset : Sched :=
  { ctxs := [], bulk := [], vtime := [], posts := [], draining := 0, turn := 0, nextShadow := 1, bulkDesc := 0, gate := 0
    gateEnd := 0, guard := 0, pendingGate := none }

/-- No twin (R396). -/
def Twin.reset : Twin :=
  { st := 0, formed := false, gen := 0, lastHeard := 0, peerSt := 0, peerGen := 0, lost := false, isolatedAt := 0, standbyAt := 0
    lostAt := 0, journal := [], moved := [], dirty := [], toCopy := [], total := 0, owed := [], heldReqs := [], cfg := []
    nextItem := 0, replies := [], bulkSeen := [], blocked := [], handing := false, removed := [], bytes := 0 }

/-- The module right after power-on reset: every register at its reset value (R17), nothing listed in memory, no
command waiting. DESIGN CHOICE: assumption 9. -/
def State.reset : State :=
  { tb := TimeBase.reset, regs := []
    bus := { loLatch := [], hiHold := [], readData := [], coreFault := [], reserved := [], sram := [], accum := [], held := false }
    mic := { level := 0, latch := 0, claim := [], hold := [] }
    btr := { recs := [], seq := 0, new := 0, wdog := 0, logged := [] }
    mbx := Mailbox.reset
    fab := { ports := [], coord := none, records := [], inProgress := [], own := [], nextReqid := 0 }
    eth := { ports := [], qps := [], announceMissed := 0, best := [], announcedAt := [], ptpT1 := 0, ptpT2 := 0, ptpT3 := 0 }
    pwr := Power.reset, boot := Boot.reset, brd := Board.reset, xlt := Xlt.reset, dram := Dram.reset, dirc := Dir.reset
    sig := { watches := [], order := 0, notices := [], fired := [], lintels := [] }
    sched := Sched.reset, twin := Twin.reset, mem := [], out := [], free := 1, pending := [] }

end Sys2Proof.Machine
end

