-- ==== Sys2Proof/Machine/Ops.lean ====
section
/-!
DEFINITION. The named operations every family shares: registers as stored words, counters, the time
base, free values, pool memory as bytes, outputs, interrupt levels, events and replies.
-/

namespace Sys2Proof.Machine

/-! ### Registers as stored words -/

/-- The stored word of a register, or its reset value (R17). -/
def rg (s : State) (a : Nat) : Nat := (tgetD s.regs a (regReset a)).toNat

/-- Field [hi:lo] of a stored register. -/
def rf (s : State) (a hi lo : Nat) : Nat := bits (rg s a) hi lo

/-- Store a register word. -/
def rput (s : State) (a v : Nat) : State := { s with regs := tset s.regs a (BitVec.ofNat 32 v) }

/-- Store field [hi:lo] of a register. -/
def rputF (s : State) (a hi lo v : Nat) : State := rput s a (setBits (rg s a) hi lo v)

/-- Add to a saturating 32-bit counter (R16). -/
def bump (s : State) (a n : Nat) : State := rput s a (min (rg s a + n) 0xFFFFFFFF)

/-- A 64-bit quantity held in a _LO and a _HI register (R10). -/
def rg64 (s : State) (lo : Nat) : Nat := rg s lo + 2 ^ 32 * rg s (lo + 4)

/-- Store both halves of a 64-bit quantity. -/
def rput64 (s : State) (lo v : Nat) : State :=
  rput (rput s lo (v % 2 ^ 32)) (lo + 4) (v / 2 ^ 32)

/-- Add to a 64-bit counter. -/
def bump64 (s : State) (lo n : Nat) : State := rput64 s lo (rg64 s lo + n)

/-! ### The time base -/

/-- The master time base in ns (R30). -/
def now (s : State) : Nat := s.tb.ns

/-- The local copy of the time base at die n (copy n) or port k (copy 8 + k): R30, R31. -/
def localNow (s : State) (copy : Nat) : Nat := ((s.tb.ns : Int) + tgetD s.tb.skew copy 0).toNat

/-- The time base has reached t: a timed event stands for the moment it falls due. DESIGN CHOICE: assumption 4. -/
def reach (s : State) (t : Nat) : State :=
  if s.tb.ns < t then { s with tb := { s.tb with ns := t, frac := 0 } } else s

/-- One KCLK cycle of the master time base (R533). DESIGN CHOICE: assumption 3. -/
def tick (s : State) : State :=
  let f := s.tb.frac + s.tb.inc
  { s with tb := { s.tb with ns := (s.tb.ns + f / 2 ^ 32) % 2 ^ 64, frac := f % 2 ^ 32 } }

/-- The activity cap A (R519). The six bits of PWR_STAT.CAP cannot hold 64, so they show A modulo 64. -/
def capA (s : State) : Nat :=
  let a := rf s Reg.PWR_STAT 13 8
  if a = 0 then 64 else a

/-- Capped work may go on: the first A × 15.625 ns of each 1 µs window (R519). -/
def capOpen (s : State) : Bool := decide (now s % 1000 * 64 < capA s * 1000)

/-! ### Free values -/

/-- Draw one free 32-bit value. DESIGN CHOICE: assumption 6. -/
def free32 (s : State) : Word32 × State := (Config.freeWord32 s.free, { s with free := s.free + 1 })

/-- Draw one free 64-bit value. -/
def free64 (s : State) : Word64 × State := (Config.freeWord64 s.free, { s with free := s.free + 1 })

/-- Draw one free choice. -/
def freeB (s : State) : Bool × State := (Config.freeBool s.free, { s with free := s.free + 1 })

/-- Draw n free bytes. -/
def freeBytes (s : State) (n : Nat) : List Byte × State :=
  ((List.range n).map (Config.freeByte s.free), { s with free := s.free + 1 })

/-! ### Pool memory -/

/-- The byte at a PPA: an unlisted address reads as zero. DESIGN CHOICE: assumption 7. -/
def memByte (m : Tab Byte) (a : Nat) : Byte := tgetD m a 0#8

/-- len bytes from a PPA. -/
def memRead (m : Tab Byte) (a len : Nat) : List Byte := (List.range len).map (fun i => memByte m (a + i))

/-- Write one byte: zero is the value of an unlisted address, so it removes the entry. -/
def memSet (m : Tab Byte) (a : Nat) (b : Byte) : Tab Byte := if b = 0#8 then tdel m a else tset m a b

/-- Write bytes from a PPA upward. -/
def memWrite : Tab Byte → Nat → List Byte → Tab Byte
  | m, _, [] => m
  | m, a, b :: t => memWrite (memSet m a b) (a + 1) t

/-- Write the bytes whose mask flag is set. -/
def memWriteMasked : Tab Byte → Nat → List (Bool × Byte) → Tab Byte
  | m, _, [] => m
  | m, a, (k, b) :: t => memWriteMasked (if k then memSet m a b else m) (a + 1) t

/-- Zero a range: every listed byte of it is removed. -/
def memZero (m : Tab Byte) (a len : Nat) : Tab Byte :=
  m.filter (fun e => decide (e.1 < a) || decide (a + len ≤ e.1))

/-- Pool memory is in its canonical form: addresses strictly rising, no entry zero. DESIGN CHOICE: assumption 7. -/
def Memory.wf (m : Tab Byte) : Bool := tsortedFrom m 0 && m.all (fun e => e.2 != 0#8)

/-- Write bytes to pool memory. -/
def poke (s : State) (a : Nat) (l : List Byte) : State := { s with mem := memWrite s.mem a l }

/-- Read bytes of pool memory. -/
def peek (s : State) (a len : Nat) : List Byte := memRead s.mem a len

/-- A 64-bit little-endian word of pool memory. -/
def peek64 (s : State) (a : Nat) : Nat := leNat (peek s a 8)

/-- The PPA of offset off of extent e (R41). -/
def ppaOf (e off : Nat) : Nat := e * 2 ^ 30 + off

/-- The PPA of offset off of reserved extent j of die n (R45). -/
def resPpa (n j off : Nat) : Nat := ppaOf (480 * n + j) off

/-! ### Outputs and interrupt levels -/

/-- Put something out. DESIGN CHOICE: assumption 166. -/
def emit (s : State) (o : Output) : State := { s with out := o :: s.out }

/-- Set the level of a MIC source (R461). -/
def micLevel (s : State) (src : Nat) (high : Bool) : State :=
  let m := BitVec.ofNat 512 (2 ^ src)
  { s with mic := { s.mic with level := if high then s.mic.level ||| m else s.mic.level &&& ~~~m } }

/-! ### Ethernet frames and the mailbox -/

/-- The state of an Ethernet port after reset. -/
def EthPort.init : EthPort :=
  { ipv4 := 0, plen4 := 0, gw4 := 0, ipv6 := 0, plen6 := 0, gw6 := 0, fill := 0, xoffSent := false,
    queues := [], finish := [], virt := 0, tokens := 0, tokensAt := 0, gate := 0, gateEnd := 0,
    pendingEgr := none, draining := false }

/-- One Ethernet port. -/
def ethPort (s : State) (k : Nat) : EthPort := tgetD s.eth.ports k EthPort.init

/-- Replace one Ethernet port. -/
def setEthPort (s : State) (k : Nat) (p : EthPort) : State :=
  { s with eth := { s.eth with ports := tset s.eth.ports k p } }

/-- Whether the link of Ethernet port k is up: ETH_STAT.LINK (R419). -/
def ethUp (s : State) (k : Nat) : Bool := rf s (Reg.ETH_STAT k) 1 0 == 2

/-- Put a frame at the end of an egress queue (R414). -/
def ethQueue (s : State) (k q : Nat) (kind : EthKind) (len : Nat) : State :=
  let p := ethPort s k
  setEthPort s k { p with
    queues := tset p.queues q (tgetD p.queues q [] ++ [{ kind := kind, len := max len 64, tag := none }]) }

/-- Bytes that MAC, IP, UDP and the DTLS record add to a datagram of a session. DESIGN CHOICE: assumption 38. -/
def dtlsOverhead : Nat := 90

/-- The associations of every open session and their slots. -/
def openAssocs (s : State) : List (Nat × AssocRec) :=
  s.mbx.sessions.flatMap (fun e => e.2.assocs.map (fun a => (e.1, a)))

/-- Send one copy of an event to one session on one network, or count it lost (R412). -/
def eventCopy (dgram : Nat → List Byte) (s : State) (slot net : Nat) (as : List AssocRec) : State :=
  match as.find? (fun a => a.net == net && ethUp s a.port) with
  | some a => ethQueue s a.port 1 (.event slot (dgram net)) ((dgram net).length + dtlsOverhead)
  | none => bump s Reg.ETH_EVT_LOST 1

/-- The datagram of an event (R411): network net. -/
def eventBytes (sev code seq time bootid : Nat) (body : List Byte) (net : Nat) : List Byte :=
  leBytes 8 (1 + 2 ^ 8 * sev + 2 ^ 16 * code + 2 ^ 32 * body.length + 2 ^ 43 * net)
    ++ leBytes 8 seq ++ leBytes 8 time ++ leBytes 8 bootid ++ body

/-- Raise an event: it takes the next SEQ, is kept by the Plinth, logged in reserved extent 5 of die 0
and sent to every open session on both networks (R411, R412, R469, R476). While the Mason cores are
held or the firmware restarts it is only logged. With a slot given, only that session receives it
(R480). DESIGN CHOICE: assumption 38. -/
def eventTo (only : Option Nat) (s : State) (code sev : Nat) (body : List Byte) : State :=
  let seq := (rg64 s Reg.ETH_EVT_SEQ_LO + 1) % 2 ^ 64
  let s := rput64 s Reg.ETH_EVT_SEQ_LO seq
  let s := { s with boot := { s.boot with plnSeq := seq } }
  let d := eventBytes sev code seq (now s) s.boot.bootId.toNat body
  let s := poke s (resPpa 0 5 (2 ^ 29 + (seq % 262144) * 2048)) (padTo 2048 (d 0))
  s.mbx.sessions.foldl (fun s e =>
    if e.1 = 8 ∨ (only.isSome && only != some e.1) = true then s
    else eventCopy d (eventCopy d s e.1 0 e.2.assocs) e.1 1 e.2.assocs) s

/-- Raise an event to every open session. -/
def event (s : State) (code sev : Nat) (body : List Byte) : State := eventTo none s code sev body

/-- The words of an event body (R432). -/
def eventW (s : State) (code sev : Nat) (ws : List Nat) : State :=
  event s code sev (ws.flatMap (leBytes 8))

/-- The frame of a reply (R431). -/
def replyBytes (slot opcode : Nat) (tag : Word32) (status : Nat) (final : Bool) (body : List Byte) :
    List Byte :=
  leBytes 8 (1 + 2 ^ 8 + 2 ^ 16 * opcode + 2 ^ 32 * tag.toNat)
    ++ leBytes 8 (body.length + 2 ^ 16 * status + 2 ^ 32 * b2n final + 2 ^ 40 * slot) ++ body

/-- Status codes of R433. -/
def stOK : Nat := 0x0000
def stDEFERRED : Nat := 0x0001
def stBUSY : Nat := 0x0010
def stNOT_OWNER : Nat := 0x0011
def stREFUSED : Nat := 0x0012
def stCONFLICT : Nat := 0x0013
def stBADCRED : Nat := 0x0014
def stINVALID : Nat := 0x0015
def stUNSUPPORTED : Nat := 0x0016

/-- Send a frame on every association of a session (R429). Slot 8 keeps it until the SMBus reads it. -/
def sendFrame (s : State) (slot : Nat) (f : List Byte) : State :=
  if slot = 8 then { s with mbx := { s.mbx with unread := s.mbx.unread ++ [f] } }
  else match tget s.mbx.sessions slot with
    | none => s
    | some se => se.assocs.foldl (fun s a => ethQueue s a.port 2 (.reply slot f) (f.length + dtlsOverhead)) s

/-- Send a reply, count it, and store it where R433 says so. A BUSY reply is not stored, and a DEFERRED
reply is stored until the final reply takes its place (R434). -/
def reply (s : State) (slot opcode : Nat) (tag : Word32) (status : Nat) (body : List Byte) : State :=
  let final := status != stDEFERRED
  let s := if status = stBUSY then bump s Reg.MBX_BUSY 1 else s
  let s := if status = stNOT_OWNER then bump s Reg.MBX_NOTOWNER 1 else s
  let s := sendFrame s slot (replyBytes slot opcode tag status final body)
  if status = stBUSY then s
  else match tget s.mbx.sessions slot with
    | none => s
    | some se =>
      let kept := se.replies.filter (fun r => r.tag != tag)
      let se := { se with replies := ({ opcode := opcode, tag := tag, status := status, final := final, body := body } :: kept).take 256 }
      { s with mbx := { s.mbx with sessions := tset s.mbx.sessions slot se } }

/-- The final reply of a deferred command: to its session while that is open, else the event
COMMAND_DONE (R440, R457). It waits while the first reply still waits for the standby (R379). -/
def finalReply (s : State) (d : Deferred) (status : Nat) (body : List Byte) : State :=
  let s := { s with mbx := { s.mbx with deferred := s.mbx.deferred.filter (fun x => x != d) } }
  if s.twin.replies.any (fun r => r.slot == d.slot && r.tag == d.tag) then
    let rs := s.twin.replies.map (fun r => if r.slot = d.slot ∧ r.tag = d.tag then { r with final := some (status, body) } else r)
    { s with twin := { s.twin with replies := rs } }
  else if (tget s.mbx.sessions d.slot).isSome then reply s d.slot d.opcode d.tag status body
  else event s 0x0003 0
    (leBytes 8 d.slot ++ leBytes 8 d.opcode ++ leBytes 8 d.tag.toNat
      ++ leBytes 8 (status + 2 ^ 16 * body.length) ++ body.take 992)

/-- Send the final reply of every deferred command whose wait meets a test. DEDUCED: assumption 39. -/
def finishAll (s : State) (p : Wait → Bool) (status : Nat) (body : List Byte) : State :=
  (s.mbx.deferred.filter (fun d => p d.wait)).foldl (fun s d => finalReply s d status body) s

end Sys2Proof.Machine
end

