-- ==== Sys2Proof/Machine/Flags.lean ====
section
/-!
DEFINITION. The status flags that lead to interrupts: levels, pending bits and delivery of the MIC
(R460 to R466), and the records of the Buttress (R470 to R476).
-/

namespace Sys2Proof.Machine

/-! ### The interrupt controller -/

/-- Bit src of the pending set: the level or the software latch; for sources 0 to 3 the latch alone
(R463). -/
def micPending (s : State) (src : Nat) : Bool :=
  s.mic.latch.getLsbD src || (decide (4 ≤ src) && s.mic.level.getLsbD src)

/-- Sources marked reserved never assert (R460). DEDUCED: assumption 21. -/
def micReserved (src : Nat) : Bool :=
  (decide (88 ≤ src) && decide (src ≤ 95)) || decide (192 ≤ src)
    || (decide (96 ≤ src) && decide (9 ≤ (src - 96) % 16))

/-- Whether source src is deliverable to core c (R464). A source still inside its COAL hold is not. -/
def micDeliverable (s : State) (c src : Nat) : Bool :=
  micPending s src
    && bit (rg s (Reg.MIC_TGT c (src / 32))) (src % 32)
    && decide (rf s (Reg.MIC_THRESH c) 2 0 < rf s (Reg.MIC_PRIO src) 2 0)
    && (tget s.mic.claim src).isNone
    && (tget s.mic.hold src).isNone

/-- The better of two sources: higher PRIO, then lower number (R465). -/
def micBetter (s : State) (best : Option Nat) (src : Nat) : Option Nat :=
  match best with
  | none => some src
  | some b => if rf s (Reg.MIC_PRIO b) 2 0 < rf s (Reg.MIC_PRIO src) 2 0 then some src else some b

/-- The source a read of MIC_CLAIMc returns (R465). Only targeted sources are looked at. -/
def micBest (s : State) (c : Nat) : Option Nat :=
  ((List.range 512).filter (fun x => micDeliverable s c x)).foldl (micBetter s) none

/-- Whether core c's machine external interrupt is high (R464). -/
def micLine (s : State) (c : Nat) : Bool := (micBest s c).isSome

/-! ### The Buttress -/

/-- Severity of a class, if the class is in the table of R471. -/
def btrSeverity (cls : Nat) : Option Nat :=
  if cls ∈ [0x01, 0x02, 0x04, 0x06, 0x07, 0x08, 0x10, 0x11, 0x12, 0x13, 0x14, 0x15, 0x3F] then some 1
  else if cls ∈ [0x03, 0x05, 0x09, 0x0A, 0x16] then some 2
  else if cls ∈ [0x20, 0x21, 0x22, 0x23, 0x24, 0x25, 0x26] then some 3
  else none

/-- The 64 bytes of a record (R470). -/
def BtrRec.toBytes (r : BtrRec) : List Byte :=
  leBytes 8 (r.seq % 2 ^ 32 + 2 ^ 32 * (r.cls % 256) + 2 ^ 40 * (r.severity % 4) + 2 ^ 42 * b2n r.secondary
      + 2 ^ 43 * b2n r.injected + 2 ^ 44 * (r.secClass % 256))
    ++ leBytes 8 (r.unit % 256 + 2 ^ 8 * (r.inst % 256) + 2 ^ 32 * (r.count % 2 ^ 32))
    ++ leBytes 8 r.firstTime ++ leBytes 8 r.lastTime ++ leBytes 8 r.location ++ leBytes 8 r.detail
    ++ leBytes 8 (r.secCount % 2 ^ 32 + 2 ^ 32 * (r.tenant.getD 0 % 256) + 2 ^ 40 * b2n r.tenant.isSome)
    ++ leBytes 8 0

/-- A record of zeros. -/
def BtrRec.blank : BtrRec :=
  { seq := 0, cls := 0, severity := 0, secondary := false, injected := false, secClass := 0, unit := 0,
    inst := 0, count := 0, firstTime := 0, lastTime := 0, location := 0, detail := 0, secCount := 0,
    tenant := none }

/-- Whether a slot with its NEW bit set holds a record with the severity test. -/
def btrNewSev (s : State) (p : Nat → Bool) : Bool :=
  s.btr.recs.any (fun e => s.btr.new.getLsbD e.1 && p e.2.severity)

/-- The levels of sources 76 and 77 follow the unreported records (R476). -/
def btrLevels (s : State) : State :=
  micLevel (micLevel s 76 (btrNewSev s (fun v => v == 1))) 77 (btrNewSev s (fun v => decide (2 ≤ v)))

/-- The slot an error merges into: an open record of the same class, unit, instance and location
(R472). -/
def btrMatch (s : State) (e : ErrIn) : Option Nat :=
  (s.btr.recs.find? (fun r => r.2.cls == e.cls && r.2.unit == e.unit && r.2.inst == e.inst
    && r.2.location == e.location && r.1 != 255)).map (·.1)

/-- The lowest free slot from 1 to 254 (R473). -/
def btrFree (s : State) : Option Nat :=
  (List.range' 1 254).find? (fun k => (tget s.btr.recs k).isNone)

/-- Open a record in a slot. -/
def btrOpen (s : State) (slot : Nat) (e : ErrIn) (cls sev : Nat) (inj : Bool) : State :=
  let r : BtrRec :=
    { seq := s.btr.seq + 1, cls := cls, severity := sev, secondary := false, injected := inj,
      secClass := 0, unit := e.unit, inst := e.inst, count := 1, firstTime := now s, lastTime := now s,
      location := e.location, detail := e.detail, secCount := 0, tenant := e.tenant }
  let b := { s.btr with recs := tset s.btr.recs slot r, seq := s.btr.seq + 1 }
  let s := { s with btr := { b with new := b.new ||| BitVec.ofNat 256 (2 ^ slot) } }
  let s := btrLevels s
  if sev = 2 then event s 0x0040 2 r.toBytes else s

/-- Merge a secondary error into a record (R474). -/
def btrSecondary (s : State) (slot : Nat) (r : BtrRec) (cls sev : Nat) : State :=
  let r := { r with secondary := true, secClass := if r.secClass = 0 then cls else r.secClass }
  let r := { r with secCount := min (r.secCount + 1) 0xFFFFFFFF, severity := max r.severity sev }
  btrLevels (bump { s with btr := { s.btr with recs := tset s.btr.recs slot r } } Reg.BTR_SECONDARY 1)

/-- The record in whose reaction an error arose: the one its unit names, or the fatal record while the
entry into the fatal safe state runs (R474, R479). DEDUCED: assumption 137. -/
def btrParent (s : State) (e : ErrIn) : Option (Nat × BtrRec) :=
  match e.during with
  | some k => (tget s.btr.recs k).map (fun r => (k, r))
  | none => if rf s Reg.PLN_SAFE 0 0 = 1 ∧ s.bus.held = true then (tget s.btr.recs 0).map (fun r => (0, r)) else none

/-- Record an error: a secondary error merges into its parent, a fatal one opens slot 0, any other
merges, takes the lowest free slot, or overflows (R470 to R475). The overflow record names no place, and its
severity is the highest of its errors. Answers the slot. DEDUCED: assumption 174. -/
def btrRecord (s : State) (e : ErrIn) (inj : Bool) : State × Nat :=
  let sev := (btrSeverity e.cls).getD 1
  match btrParent s e with
  | some (k, r) => (btrSecondary s k r e.cls sev, k)
  | none =>
    if sev = 3 then
      match tget s.btr.recs 0 with
      | some r => (btrSecondary s 0 r e.cls sev, 0)
      | none => (btrOpen s 0 e e.cls 3 inj, 0)
    else match btrMatch s e with
      | some k =>
        let r := tgetD s.btr.recs k BtrRec.blank
        let r := { r with count := min (r.count + 1) 0xFFFFFFFF, lastTime := now s }
        (bump { s with btr := { s.btr with recs := tset s.btr.recs k r } } Reg.BTR_MERGED 1, k)
      | none =>
        match btrFree s with
        | some k => (btrOpen s k e e.cls sev inj, k)
        | none =>
          let s := bump s Reg.BTR_OVF 1
          match tget s.btr.recs 255 with
          | some r =>
            let r := { r with count := min (r.count + 1) 0xFFFFFFFF, lastTime := now s, severity := max r.severity sev }
            (btrLevels { s with btr := { s.btr with recs := tset s.btr.recs 255 r } }, 255)
          | none => (btrOpen s 255 { e with unit := 0, inst := 0, location := 0, detail := 0, tenant := none } 0x3F sev false, 255)

/-- The die whose log a record goes to: that of its stack, course, seal cache or scrubber, else die 0
(R45, R476). -/
def btrDie (r : BtrRec) : Nat :=
  if r.unit = 0x10 then r.inst / 4
  else if r.unit = 0x11 then r.inst / 2
  else if r.unit = 0x12 ∨ r.unit = 0x13 then r.inst
  else 0

/-- Close a record: the slot is freed, the record is sent as ERROR_RECORD with its final COUNT and
appended to the log of its die (R476). A slot that holds none is left alone. DEDUCED: assumption 133. -/
def btrClose (s : State) (slot : Nat) : State :=
  match tget s.btr.recs slot with
  | none => s
  | some r =>
    let d := btrDie r
    let n := tgetD s.btr.logged d 0
    let s := poke s (resPpa d 5 ((n % 8388608) * 64)) r.toBytes
    let s := { s with btr := { s.btr with recs := tdel s.btr.recs slot, logged := tset s.btr.logged d (n + 1) } }
    event (btrLevels s) 0x0040 r.severity r.toBytes

/-- Report an error that is not fatal: an error of a memory or port class, met by a unit. -/
def report (s : State) (cls unit inst location detail : Nat) (tenant during : Option Nat) : State :=
  (btrRecord s
    { cls := cls, unit := unit, inst := inst, location := location, detail := detail,
      tenant := tenant, during := during } false).1

end Sys2Proof.Machine
end

