-- ==== Sys2Proof/Machine/Operands.lean ====
section
/-!
DEFINITION. The operand forms of the fabric: messages and their bytes (R342), coordinates (R71), receive
pools (R338), routing (R350 to R352), and the module's own responses and requests (R354 to R357).
-/

namespace Sys2Proof.Machine

/-! ### Coordinates -/

/-- Domain, device and port of a coordinate (R71). -/
def coDomain (c : Nat) : Nat := bits c 16 11
def coDevice (c : Nat) : Nat := bits c 10 5
def coPort (c : Nat) : Nat := bits c 4 0

/-- The coordinate of (domain, device, port). -/
def mkCoord (d v p : Nat) : Nat := d * 2048 + v * 32 + p

/-- Whether a coordinate names this module: domain and device are its own (R350). -/
def isOwn (s : State) (c : Nat) : Bool :=
  match s.fab.coord with
  | none => false
  | some (d, v) => coDomain c == d && coDevice c == v

/-- The coordinate of fabric port k, 0 while unassigned (R71). -/
def portCoord (s : State) (k : Nat) : Nat :=
  match s.fab.coord with
  | none => 0
  | some (d, v) => mkCoord d v k

/-! ### Messages and their bytes -/

/-- The slots a message takes: two of header and its data slots (R342). -/
def msgSlots (m : Msg) : Nat := 2 + m.dslots.toNat

/-- The 32 B header of a message (R342). -/
def msgHeader (m : Msg) : List Byte :=
  leBytes 8 (m.opcode.toNat + 2 ^ 8 * m.vc.toNat + 2 ^ 10 * m.akind.toNat + 2 ^ 12 * m.dslots.toNat
      + 2 ^ 17 * b2n m.poison + 2 ^ 18 * b2n m.retry + 2 ^ 19 * b2n m.adapt + 2 ^ 20 * m.hops.toNat
      + 2 ^ 24 * m.status.toNat + 2 ^ 28 * m.xf.toNat + 2 ^ 32 * m.cause.toNat + 2 ^ 40 * b2n m.lvl
      + 2 ^ 41 * m.context.toNat)
    ++ leBytes 8 (m.dst.toNat + 2 ^ 17 * m.src.toNat + 2 ^ 34 * m.reqid.toNat)
    ++ leBytes 8 m.addr.toNat ++ leBytes 8 m.arg.toNat

/-- A message as bytes: header and data slots. -/
def msgBytes (m : Msg) : List Byte := msgHeader m ++ slice m.data 0 (16 * m.dslots.toNat)

/-- The message that a byte string of whole slots holds (R342). -/
def msgOfBytes (b : List Byte) : Msg :=
  let w0 := leAt b 0 8
  let w1 := leAt b 8 8
  { opcode := BitVec.ofNat 8 (bits w0 7 0), vc := BitVec.ofNat 2 (bits w0 9 8)
    akind := BitVec.ofNat 2 (bits w0 11 10), dslots := BitVec.ofNat 5 (bits w0 16 12)
    poison := bit w0 17, retry := bit w0 18, adapt := bit w0 19, hops := BitVec.ofNat 4 (bits w0 23 20)
    status := BitVec.ofNat 4 (bits w0 27 24), xf := BitVec.ofNat 4 (bits w0 31 28)
    cause := BitVec.ofNat 8 (bits w0 39 32), lvl := bit w0 40, context := BitVec.ofNat 14 (bits w0 54 41)
    dst := BitVec.ofNat 17 (bits w1 16 0), src := BitVec.ofNat 17 (bits w1 33 17)
    reqid := BitVec.ofNat 24 (bits w1 57 34), addr := BitVec.ofNat 52 (leAt b 16 8)
    arg := BitVec.ofNat 64 (leAt b 24 8), data := b.drop 32 }

/-- The virtual channel that places a message: VC 3 goes with REQ (R347). -/
def msgLane (m : Msg) : Nat := if m.vc = 3#2 then 0 else m.vc.toNat

/-- The receive pool of a message at a device that is, or is not, its destination (R338, R339). -/
def poolCode (m : Msg) (own : Bool) : Nat :=
  if own then msgLane m else if m.lvl then 8 + msgLane m else 4 + msgLane m

/-! ### Ports -/

/-- A fabric port after reset (R362): DOWN, every wavelength able to lock. DESIGN CHOICE: assumption 9. -/
def Port.init : Port :=
  { st := .down, width := 0, ident := [], lead := false, nonce := 0, txCount := 0, rxCount := 0
    acked := 0, retry := [], discarding := false, rxNext := 0, replays := 0, ackDue := none
    peerSize := [], used := [], peerFreed := [], freed := [], rx := [], rxPart := [], txq := [], txPart := []
    wrr := [], crTurn := 0, tsSent := 0, lock := 0xFFFF, lockLost := none, ask := none, oper := none
    operDue := 0, trainDue := none, retrainAt := none, rttNs := 0, draining := false }

/-- One fabric port. -/
def port (s : State) (k : Nat) : Port := tgetD s.fab.ports k Port.init

/-- Replace one fabric port. -/
def setPort (s : State) (k : Nat) (p : Port) : State :=
  { s with fab := { s.fab with ports := tset s.fab.ports k p } }

/-- The port is UP: in the routes (R330, R336, R350). A draining port starts no DATA (R361). -/
def portUp (s : State) (k : Nat) : Bool := (port s k).st == .up

/-- FPT_CTL.MODE of a port (R362). -/
def portMode (s : State) (k : Nat) : Nat := rf s (Reg.FPT_CTL k) 1 0

/-- The peer's coordinate as its IDENT gives it (R324, R332). -/
def peerCoord (p : Port) : Nat := bits (leAt p.ident 24 4) 16 0

/-- Whether the peer's IDENT says it is unassigned. -/
def peerUnassigned (p : Port) : Bool := bit (leAt p.ident 24 4) 31

/-- Credits held in a pool of the peer: its size, less slots started, plus slots freed (R339). -/
def credits (p : Port) (pool : Nat) : Nat :=
  tgetD p.peerSize pool 0 + tgetD p.peerFreed pool 0 - tgetD p.used pool 0

/-- The pool at the peer that a message will be placed in (R339). -/
def peerPool (p : Port) (m : Msg) : Nat :=
  poolCode m (coDomain m.dst.toNat == coDomain (peerCoord p) && coDevice m.dst.toNat == coDevice (peerCoord p))

/-! ### Routing -/

/-- The port mask towards a coordinate (R350). -/
def routeMask (s : State) (dst : Nat) : Nat :=
  match s.fab.coord with
  | none => 0
  | some (d, _) =>
    if coDomain dst = d then rg s (Reg.FPT_RTDEV (coDevice dst)) else rg s (Reg.FPT_RTDOM (coDomain dst))

/-- The port with the most credits in the pool a message needs; ties go to the lower port (R350). -/
def bestPort (s : State) (m : Msg) : List Nat → Option Nat
  | [] => none
  | k :: t => match bestPort s m t with
    | none => some k
    | some j =>
      if credits (port s j) (peerPool (port s j) m) ≤ credits (port s k) (peerPool (port s k) m) then some k
      else some j

/-- The output port of a message (R350): among the ports of the mask that are UP, by credits with
ADAPT = 1, else the lowest. -/
def routePort (s : State) (m : Msg) : Option Nat :=
  let up := (maskList 32 (routeMask s m.dst.toNat)).filter (portUp s)
  if m.adapt then bestPort s m up else up.head?

/-- Queue a message at a port. -/
def queueAt (s : State) (k : Nat) (m : Msg) : State :=
  let p := port s k
  setPort s k { p with txq := p.txq ++ [(peerPool p m, m)] }

/-- A message of the module's own at the port it leaves by, whose coordinate is its SRC (R71, R342).
DEDUCED: assumption 168. -/
def fromPort (s : State) (k : Nat) (m : Msg) : Msg := { m with src := BitVec.ofNat 17 (portCoord s k) }

/-- Send a message the module originates: HOPS is HOP_INIT and LVL 0 (R351, R352). Without a port that is
UP, or before COORD_SET (R72), nothing leaves. -/
def sendMsg (s : State) (m : Msg) : State :=
  if s.fab.coord.isNone || inSafeWire s then s
  else
    let m := { m with hops := BitVec.ofNat 4 (rf s Reg.FPT_GCTL 3 0), lvl := false }
    match routePort s m with
    | none => s
    | some k => queueAt s k (fromPort s k m)
where
  /-- The safe-state wire is driven: no message leaves (R479). -/
  inSafeWire (s : State) : Bool := rf s Reg.PLN_SAFE 0 0 == 1

/-- A blank message towards a coordinate. Its SRC is set where it leaves. -/
def mkMsg (s : State) (vc opcode dst : Nat) : Msg :=
  { opcode := BitVec.ofNat 8 opcode, vc := BitVec.ofNat 2 vc, akind := 0, dslots := 0, poison := false
    retry := false, adapt := false, hops := 0, status := 0, xf := 0, cause := 0, lvl := false, context := 0
    dst := BitVec.ofNat 17 dst, src := BitVec.ofNat 17 (portCoord s 0), reqid := 0, addr := 0, arg := 0
    data := [] }

/-- A message with data bytes, padded to whole slots. -/
def withData (m : Msg) (d : List Byte) : Msg :=
  let n := (d.length + 15) / 16
  { m with dslots := BitVec.ofNat 5 n, data := padTo (16 * n) d }

/-! ### Status and cause codes of responses (R342) -/

def sCOMPLETE : Nat := 0
def sLATE : Nat := 1
def sPOISONED : Nat := 2
def sFAULTED : Nat := 3
def sNOT_EXECUTED : Nat := 4
def sBUSY_RETRY : Nat := 5

def cHOP_LIMIT : Nat := 0x10
def cNO_ROUTE : Nat := 0x11
def cENDPOINT_LIMIT : Nat := 0x12
def cKIND : Nat := 0x13
def cTRANSLATION : Nat := 0x14
def cUNKNOWN_OP : Nat := 0x15
def cALIGNMENT : Nat := 0x16
def cARGUMENT : Nat := 0x17
def cENDPOINT_FAILED : Nat := 0x18
def cNOT_COHERENT : Nat := 0x19

/-- A response without data. -/
def Resp.plain (opcode status cause xf arg : Nat) : Resp :=
  { opcode := opcode, status := status, cause := cause, xf := xf, arg := arg, poison := false, line := none
    data := [] }

/-- A FAULTED response. -/
def Resp.faulted (opcode cause : Nat) : Resp := Resp.plain opcode sFAULTED cause 0 0

/-- The message of a response to request m: to its SRC, with its REQID and the context it named (R342).
DEDUCED: assumption 168. DEDUCED: assumption 173. -/
def respMsg (s : State) (m : Msg) (r : Resp) : Msg :=
  let b := mkMsg s 2 r.opcode m.src.toNat
  let b := { b with reqid := m.reqid, context := m.context, status := BitVec.ofNat 4 r.status }
  let b := { b with cause := BitVec.ofNat 8 r.cause, xf := BitVec.ofNat 4 r.xf, arg := BitVec.ofNat 64 r.arg }
  let b := { b with poison := r.poison, adapt := m.adapt }
  let b := match r.line with
    | none => b
    | some l => { b with akind := 2, addr := BitVec.ofNat 52 l }
  withData b r.data

/-! ### Completion records (R354 to R357) -/

/-- The key of a request: SRC domain, SRC device and REQID (R356). -/
def reqKey (m : Msg) : Nat := bits m.src.toNat 16 5 * 2 ^ 24 + m.reqid.toNat

/-- READ and RD_ONCE keep no record (R356), and a write-back, which travels in RSP, is no request. -/
def recordless (op : Nat) : Bool := op == 0x11 || op == 0x05 || op == 0x52

/-- REPLAY_WIN in ns. -/
def replayWin (s : State) : Nat := rf s Reg.FPT_REPLAY 15 0 * 1000

/-- Keep the completion record of a request (R356). -/
def keepRecord (s : State) (m : Msg) (r : Resp) : State :=
  let v : ComplRec :=
    { status := r.status, xf := r.xf, cause := r.cause, value := r.arg, hasValue := r.arg != 0
      opcode := r.opcode, expires := now s + replayWin s }
  { s with fab := { s.fab with records := tset s.fab.records (reqKey m) v } }

/-- The latest attempt of a request: a retry that joined it takes its place (R357). -/
def latest (s : State) (m : Msg) : Msg := tgetD s.fab.inProgress (reqKey m) m

/-- Answer a request: the response goes to the SRC of its latest attempt, and a record is kept where
R356 asks for one. -/
def answer (s : State) (m : Msg) (r : Resp) : State :=
  let l := latest s m
  let s := { s with fab := { s.fab with inProgress := tdel s.fab.inProgress (reqKey m) } }
  let s := if recordless m.opcode.toNat then s else keepRecord s m r
  sendMsg s (respMsg s l r)

/-- The store is full for a request that needs a record (R356): 2,097,152 records, or 262,144 values. -/
def storeFull (s : State) : Bool :=
  decide (2097152 ≤ s.fab.records.length)
    || decide (262144 ≤ (s.fab.records.filter (fun e => e.2.hasValue)).length)

/-- What arriving request m meets (R357): a stored response, the original in progress, or neither. -/
inductive Arrival where
  | recorded (r : ComplRec)
  | joined
  | fresh
  deriving DecidableEq, Repr

/-- Match a request against the records and the requests in progress (R357). A READ or RD_ONCE is always
carried out again. DEDUCED: assumption 106. -/
def arrive (s : State) (m : Msg) : Arrival :=
  if !m.retry || recordless m.opcode.toNat then .fresh
  else match tget s.fab.records (reqKey m) with
    | some r => .recorded r
    | none => if (tget s.fab.inProgress (reqKey m)).isSome then .joined else .fresh

/-- Take a message out of the pool it waits in and free its slots (R339). DEDUCED: assumption 106. -/
def takeMsg (s : State) (k : Nat) (m : Msg) : State :=
  let p := port s k
  match p.rx.find? (fun e => e.2 == m) with
  | none => s
  | some e =>
    setPort s k { p with rx := p.rx.erase e, freed := tset p.freed e.1 (tgetD p.freed e.1 0 + msgSlots m) }

/-- Send a request of the module's own and remember it (R354). -/
def ownRequest (s : State) (m : Msg) (use : OwnUse) : State :=
  let id := s.fab.nextReqid % 2 ^ 24
  let m := { m with reqid := BitVec.ofNat 24 id }
  let k := (routePort s m).getD 32
  let o : OwnReq := { msg := m, port := k, sent := now s, tries := 0, use := use }
  sendMsg { s with fab := { s.fab with own := tset s.fab.own id o, nextReqid := id + 1 } } m

end Sys2Proof.Machine
end

