-- ==== Sys2Proof/Machine/Dram.lean ====
section
/-!
DEFINITION. Pool memory behind its protections: where a PPA lies (R42 to R44, R118, R156), the word code
(R151 to R154), the page seal (R155 to R167), poison (R168 to R172), injected errors (R179 to R181), and
the two operations by which every other family reads and writes the pool.
-/

namespace Sys2Proof.Machine

/-! ### Where a byte lies -/

/-- Extent, die and die-relative extent of a PPA (R41, R42). -/
def extOf (a : Nat) : Nat := a / 2 ^ 30
def dieOf (a : Nat) : Nat := extOf a / 480
def relExt (a : Nat) : Nat := extOf a % 480

/-- The 4 KiB page of a PPA, numbered over the module, and its index within the extent. -/
def pageOf (a : Nat) : Nat := a / 4096
def pageIdx (page : Nat) : Nat := page % 2 ^ 18

/-- The channel group of a page (R43). -/
def groupOf (page : Nat) : Nat :=
  let p := pageIdx page
  let e := page / 2 ^ 18
  (p % 8) ^^^ ((p / 8) % 8) ^^^ ((p / 64) % 8) ^^^ (e % 8)

/-- The channel of granule q of a page, on its die (R43). -/
def chanOfGranule (page q : Nat) : Nat := (q % 4) * 32 + groupOf page * 4 + q / 4

/-- The channel of a PPA on its die (R43). -/
def chanOf (a : Nat) : Nat := chanOfGranule (pageOf a) ((a / 256) % 16)

/-- The granule slot of a PPA in its channel (R43). -/
def slotOf (a : Nat) : Nat := relExt a * 32768 + pageIdx (pageOf a) / 8

/-- The seal channel of a page, on its die (R156). -/
def sealChan (page : Nat) : Nat :=
  let p := pageIdx page
  ((p / 512) % 4) * 32 + (groupOf page ^^^ 4) * 4 + (p / 2048) % 4

/-- The seal slot of a page in its seal channel (R156). -/
def sealSlot (page : Nat) : Nat :=
  let p := pageIdx page
  15728640 + (page / 2 ^ 18 % 480) * 2048 + (p / 8192) * 64 + (p / 8) % 64

/-- The bank of a granule slot, as (SID × 4 + BG) × 4 + BA (R118). -/
def slotBank (sl : Nat) : Nat :=
  let bg := ((sl / 8) % 4) ^^^ ((sl / 512) % 4)
  let ba := ((sl / 32) % 4) ^^^ ((sl / 2048) % 4)
  ((sl / 128) % 4) * 16 + bg * 4 + ba

/-- The row of a granule slot (R118). -/
def slotRow (sl : Nat) : Nat := sl / 512

/-! ### Channels and dies -/

/-- A channel before anything happened to it: every scheduler idle, in training (R138). -/
def Chan.init : Chan :=
  { st := 0, lanes := 0, tracks := 0, fails := 0, rq := [], wq := [], held := [], flight := [], rebuild := []
    done := [], drain := false, stalled := false, banks := [], cmds := [], cycle := 0, ce := 0, ceAt := 0
    trackedAt := 0, trackedTemp := 0, trackHeld := false, remap := [], copying := none, again := none, bkgLeft := 344, bkgAt := 0 }

/-- Channel c of die n. -/
def chan (s : State) (n c : Nat) : Chan :=
  tgetD s.dram.chans (n * 128 + c) (if s.dram.trained then { Chan.init with st := 1 } else Chan.init)

/-- Replace a channel. -/
def setChan (s : State) (n c : Nat) (k : Chan) : State :=
  { s with dram := { s.dram with chans := tset s.dram.chans (n * 128 + c) k } }

/-- The seal cache and scrubber of a die after reset. -/
def SealDie.init : SealDie :=
  { lines := [], deltas := [], waiting := [], holds := [], use := 0, pos := 0, selfRefresh := false, linkLost := false
    unmasked := [], replays := [] }

/-- The seal cache and scrubber of die n. -/
def sealDie (s : State) (n : Nat) : SealDie := tgetD s.dram.dies n SealDie.init

/-- Replace it. -/
def setSealDie (s : State) (n : Nat) (d : SealDie) : State :=
  { s with dram := { s.dram with dies := tset s.dram.dies n d } }

/-- A channel is unavailable: RETRAINING or FAILED (R142, R157). -/
def chanDown (s : State) (n c : Nat) : Bool := (chan s n c).st == 3 || (chan s n c).st == 5

/-! ### The word code -/

/-- The check-bit columns of the data bits (R151). -/
def codeColumns : List Nat :=
  (List.range 256).filter (fun v => popcount 8 v == 3) ++ [0x1F, 0x2F, 0x37, 0x3B, 0x3D, 0x3E, 0x4F, 0x57]

/-- The check bits of a 64-bit word (R151). -/
def checkBits (w : Nat) : Nat :=
  ((List.range 64).zip codeColumns).foldl (fun a e => if bit w e.1 then a ^^^ e.2 else a) 0

/-- The word of the poison marker (R168). -/
def poisonWord : Nat := 0x7FF4DEAD7FF4DEAD

/-- What a word decodes as (R153). -/
inductive WordIs where
  | clean
  | check
  | dataBit (j : Nat)
  | poison
  | failed
  deriving DecidableEq, Repr

/-- Decode a word from its syndrome and data (R153). DEDUCED: assumption 67. -/
def decodeWord (syndrome data : Nat) : WordIs :=
  if syndrome = 0 then .clean
  else if popcount 8 syndrome = 1 then .check
  else match codeColumns.findIdx? (fun c => c == syndrome) with
    | some j => .dataBit j
    | none => if syndrome = 0xFF ∧ data = poisonWord then .poison else .failed

/-- The stored byte at a PPA. In an extent whose contents self-refresh left undefined, an address not
written since reads as a free value (R136). DESIGN CHOICE: assumption 66. -/
def storedByte (s : State) (a : Nat) : Byte :=
  if s.dram.undef.contains (extOf a) && !s.dram.undefWritten.contains a then
    Config.freeByte (tgetD s.dram.undefAt (extOf a) 0) (a % 2 ^ 30)
  else memByte s.mem a

/-- The stored bytes from a PPA. -/
def stored (s : State) (a len : Nat) : List Byte := (List.range len).map (fun i => storedByte s (a + i))

/-- The stored 64-bit word number k (PPA 8k). -/
def storedWord (s : State) (k : Nat) : Nat := leNat (stored s (8 * k) 8)

/-- The check-bit error of word k: 0 where none is listed. -/
def markOf (s : State) (k : Nat) : Nat := tgetD s.dram.marks k 0

/-- Set the check-bit error of word k; an entry of 0 is not listed. -/
def setMark (s : State) (k m : Nat) : State :=
  let t := if m = 0 then tdel s.dram.marks k else tset s.dram.marks k m
  { s with dram := { s.dram with marks := t } }

/-- What word k reads as. DEDUCED: assumption 67. -/
def wordIs (s : State) (k : Nat) : WordIs :=
  let m := markOf s k
  if m = 0 then .clean else decodeWord m (storedWord s k)

/-- Store bytes without a look at any protection. -/
def rawStore (s : State) (a : Nat) (b : List Byte) : State :=
  let s := poke s a b
  if s.dram.undef.contains (extOf a) then
    { s with dram := { s.dram with undefWritten := s.dram.undefWritten ++ (List.range b.length).map (fun i => a + i) } }
  else s

/-! ### Poisoned lines -/

/-- Whether line L (PPA 128 L) is poisoned (R169). -/
def linePoisoned (s : State) (line : Nat) : Bool :=
  (List.range 16).any (fun i => wordIs s (line * 16 + i) == .poison)

/-- Write the poison marker over a line (R168). -/
def poisonLine (s : State) (line : Nat) : State :=
  let s := rawStore s (line * 128) ((List.range 16).flatMap (fun _ => leBytes 8 poisonWord))
  (List.range 16).foldl (fun s i => setMark s (line * 16 + i) 0xFF) s

/-- Whether a loss covers a line: it lies on the lost channel, and its page has a position on the other
(R143, R167). -/
def Loss.covers (l : Loss) (line : Nat) : Bool :=
  let a := line * 128
  let page := pageOf a
  dieOf a == l.die && chanOf a == l.channel
    && (sealChan page == l.other || (List.range 16).any (fun q => chanOfGranule page q == l.other))
    && !l.cured.contains line && !l.zeroed.contains (extOf a)

/-! ### The seal -/

/-- Multiplication in GF(2^8) with polynomial 0x11D, by n steps (R155). -/
def gfMulN : Nat → Nat → Nat → Nat
  | 0, _, _ => 0
  | n + 1, a, b =>
    (if b % 2 = 1 then a else 0) ^^^ gfMulN n (if 128 ≤ a then ((a * 2) % 256) ^^^ 0x1D else a * 2) (b / 2)

/-- The product of two field elements. -/
def gfMul (a b : Nat) : Nat := gfMulN 8 a b

/-- The power α^n. -/
def gfAlpha : Nat → Nat
  | 0 => 1
  | n + 1 => gfMul 2 (gfAlpha n)

/-- The inverse of a field element other than 0. -/
def gfInv (a : Nat) : Nat :=
  ((List.range 256).find? (fun b => gfMul a b == 1)).getD 0

/-- The stored seal symbol error of a codeword of a page (R180). -/
def sealErrOf (s : State) (page t : Nat) : Nat := tgetD s.dram.sealErr (page * 128 + t) 0

/-- Replace it; 0 is not listed. -/
def setSealErr (s : State) (page t v : Nat) : State :=
  let k := page * 128 + t
  { s with dram := { s.dram with sealErr := if v = 0 then tdel s.dram.sealErr k else tset s.dram.sealErr k v } }

/-- The check-bit error of word w of a page's seal; 0xFF marks the poison marker (R167). -/
def sealMark (s : State) (page w : Nat) : Nat := tgetD s.dram.sealMarks (page * 32 + w) 0

/-- Replace it; 0 is not listed. -/
def setSealMark (s : State) (page w m : Nat) : State :=
  let k := page * 32 + w
  { s with dram := { s.dram with sealMarks := if m = 0 then tdel s.dram.sealMarks k else tset s.dram.sealMarks k m } }

/-- The seal of a page on a channel rebuilt while a data channel of the page was unavailable holds the
poison marker (R143): it stays so while that channel is unavailable. -/
def sealLost (s : State) (page : Nat) : Bool :=
  s.dram.losses.any (fun l => l.die == page / 2 ^ 18 / 480 && l.channel == sealChan page
    && chanDown s l.die l.other && (List.range 16).any (fun q => chanOfGranule page q == l.other))

/-- A granule of a page lies on a channel that is unavailable. -/
def pageDown (s : State) (page : Nat) : Bool :=
  (List.range 16).any (fun g => chanDown s (page / 2 ^ 18 / 480) (chanOfGranule page g))

/-- While a granule of a page is unavailable, the seal words at the positions of its lost lines hold the marker (R167). -/
def lossMarks (s : State) (page w : Nat) : Bool :=
  pageDown s page && s.dram.losses.any (fun l => (List.range 16).any (fun g => l.covers (page * 32 + 2 * g + w / 16)))

/-- Whether position q (16: the seal) of a page is unavailable at word w (R157). -/
def posDown (s : State) (page w q : Nat) : Bool :=
  let n := page / 2 ^ 18 / 480
  if q = 16 then
    chanDown s n (sealChan page) || sealLost s page || lossMarks s page w || s.dram.stale.contains page || (sealMark s page w != 0 && popcount 8 (sealMark s page w) != 1)
  else chanDown s n (chanOfGranule page q) || wordIs s ((page * 4096 + q * 256) / 8 + w) == .failed

/-- How many positions of a page are unavailable at word w. -/
def downCount (s : State) (page w : Nat) : Nat := ((List.range 17).filter (posDown s page w)).length

/-- Recompute a page's seal from its stored data (R143, R167, R177). DEDUCED: assumption 68. -/
def recomputeSeal (s : State) (page : Nat) : State :=
  let e := s.dram.sealErr.filter (fun e => e.1 / 128 != page)
  let m := s.dram.sealMarks.filter (fun e => e.1 / 32 != page)
  { s with dram := { s.dram with sealErr := e, sealMarks := m } }

/-- The register window of stack st of die n, and the memory-class LOCATION of a PPA (R471). -/
def stackOf (a : Nat) : Nat := chanOf a / 32
def memLocation (a : Nat) : Nat :=
  (a / 256) * 256 + 2 ^ 48 * (4 * dieOf a + stackOf a) + 2 ^ 53 * (chanOf a % 32)

/-- The two symbols of word data that a rebuild fills in at codeword t of granule q, when the seal's
symbol c_32 is wrong by e: what is added to each (R155). -/
def sealSkew (q e : Nat) : Nat × Nat :=
  let a0 := gfAlpha (2 * q)
  let a1 := gfMul 2 a0
  let d1 := gfMul (gfInv (a0 ^^^ a1)) (gfMul e (gfAlpha 32 ^^^ a0))
  (d1 ^^^ e, d1)

/-- The bytes of word w of granule q as the seal rebuilds them: the right bytes, moved by every error of
the stored seal (R155, R180). -/
def rebuiltWord (s : State) (page q w : Nat) : List Byte :=
  let b := stored s (page * 4096 + q * 256 + 8 * w) 8
  (List.range 4).flatMap (fun j =>
    let d := sealSkew q (sealErrOf s page (4 * w + j))
    let x0 := leAt b (2 * j) 1
    let x1 := leAt b (2 * j + 1) 1
    leBytes 1 (x0 ^^^ d.1) ++ leBytes 1 (x1 ^^^ d.2))

/-- The lines that a range touches. -/
def linesOf (a len : Nat) : List Nat := List.range' (a / 128) ((a + len - 1) / 128 + 1 - a / 128)

/-- The watch filter of the die sees a write: one notice for each watched line it touches (R35, R123). -/
def noteWatch (s : State) (a len : Nat) (value : Option (Nat × Nat)) : State :=
  let hit := (linesOf a len).filter (fun l => s.sig.watches.any (fun e => !e.2.time && e.2.ppa / 128 == l))
  { s with sig := { s.sig with notices := s.sig.notices ++ hit.map (fun l => { line := l, value := value }) } }

/-- A set of word positions of a granule as the 32-bit mask of a record (R471). -/
def wordMask (ws : List Nat) : Nat := ws.foldl (fun a w => a ||| 2 ^ w) 0

/-- Write the marker into a line that an earlier rebuild lost, the first time it is looked at, and report it.
DEDUCED: assumption 65. -/
def settleLine (s : State) (line : Nat) : State :=
  if s.dram.losses.any (fun l => l.covers line) then
    let page := line / 32
    let ws := List.range' (16 * (line % 2)) 16
    let was := linePoisoned s line
    let s := if pageDown s page then ws.foldl (fun s w => setSealMark s page w 0xFF) s else s
    let ls := s.dram.losses.map (fun l => if l.covers line then { l with cured := line :: l.cured } else l)
    let s := poisonLine { s with dram := { s.dram with losses := ls } } line
    if was then s
    else report (bump s (Reg.SEA_LOST (dieOf (line * 128))) 1) 0x03 0x12 (dieOf (line * 128)) (memLocation (line * 128)) (wordMask ws) none none
  else s

/-- The words at positions ws of a page are lost in every data granule that is unavailable there: the lines they
lie in become poisoned, and the seal words take the marker while a granule of the page stays unavailable; else the
seal is made from the stored data again. DATA_LOST is reported (R157, R167, R178). DEDUCED: assumption 170. -/
def loseWords (s : State) (page q : Nat) (ws : List Nat) (during : Option Nat) : State :=
  let base := page * 4096 + q * 256
  let n := dieOf base
  let lines := (List.range 32).filter (fun l =>
    ws.any (fun w => w / 16 == l % 2 && posDown s page w (l / 2)) && !linePoisoned s (page * 32 + l))
  let s := lines.foldl (fun s l => noteWatch (poisonLine s (page * 32 + l)) ((page * 32 + l) * 128) 128 none) s
  let s := bump s (Reg.SEA_LOST n) lines.length
  let s := if pageDown s page then ws.foldl (fun s w => setSealMark s page w 0xFF) s else recomputeSeal s page
  report s 0x03 0x12 n (memLocation base) (wordMask ws) none during

/-- Rebuild words of granule q from the other granules and the seal (R165): the granule is counted and
its words agree with the seal again in DRAM; a line all of whose words hold the marker's data comes back poisoned
(R172). -/
def rebuildWords (s : State) (page q : Nat) (ws : List Nat) : State :=
  let base := page * 4096 + q * 256
  let s := ws.foldl (fun s w => setMark (rawStore s (base + 8 * w) (rebuiltWord s page q w)) (base / 8 + w) 0) s
  let s := ws.foldl (fun s w => (List.range 4).foldl (fun s j => setSealErr s page (4 * w + j) 0) s) s
  let s := (List.range 2).foldl (fun s h =>
    if (List.range 16).all (fun i => storedWord s (base / 8 + 16 * h + i) == poisonWord) then
      poisonLine s (base / 128 + h)
    else s) s
  bump s (Reg.SEA_REBUILT (dieOf base)) 1

/-- Count correctable words of a channel within the millisecond that runs (R140). -/
def countCe (k : Chan) (t n : Nat) : Chan :=
  if k.ceAt + 1000000 ≤ t then { k with ce := n, ceAt := t } else { k with ce := k.ce + n }

/-- The correctable words of a read are counted, and a channel that reaches CE_TH is reported (R140, R178). -/
def noteCe (s : State) (g : Nat) (ws : List Nat) (syn : Nat) : State :=
  let a := g * 256
  let n := dieOf a
  let c := chanOf a
  let k := countCe (chan s n c) (now s) ws.length
  let th := max 1 (bits (rg s (Reg.STK_RETRAIN n (c / 32))) 31 16)
  let s := setChan (bump s (Reg.STK_ECC_CE n (c / 32)) ws.length) n c k
  if th ≤ k.ce ∧ k.ce - ws.length < th then
    report s 0x01 0x10 (4 * n + c / 32) (memLocation a) (wordMask ws + 2 ^ 32 * syn) none none
  else s

/-- Words of one granule are read from DRAM and decoded: correctable ones are counted and written back, the others
counted (R153, R154). A channel that is unavailable reads nothing. -/
def decodeWords (s : State) (g : Nat) (ws : List Nat) : State :=
  let base := g * 256
  let n := dieOf base
  let st := stackOf base
  let s := settleLine (settleLine s (2 * g)) (2 * g + 1)
  let kind := fun w => wordIs s (base / 8 + w)
  let fixable := ws.filter (fun w => match kind w with
    | .check | .dataBit _ => true
    | _ => false)
  let poisoned := ws.filter (fun w => kind w == .poison)
  let failed := ws.filter (fun w => kind w == .failed)
  let syn := markOf s (base / 8 + fixable.getLastD 0)
  if chanDown s n (chanOf base) then s
  else
    let s := if fixable.isEmpty then s else noteCe s g fixable syn
    let s := fixable.foldl (fun s w =>
      match wordIs s (base / 8 + w) with
      | .dataBit j =>
        setMark (rawStore s (base + 8 * w) (leBytes 8 (storedWord s (base / 8 + w) ^^^ 2 ^ j))) (base / 8 + w) 0
      | _ => setMark s (base / 8 + w) 0) s
    let s := if poisoned.isEmpty then s else bump s (Reg.STK_ECC_POISON n st) poisoned.length
    if failed.isEmpty then s else bump s (Reg.STK_ECC_DUE n st) failed.length

/-- Rebuild the words of one granule that a page's decode can give, and report the located failures among them; a
failure found in the same decode after the first is secondary to it (R165, R178, R474). DEDUCED: assumption 170. -/
def rebuildGranule (page : Nat) (lost : List Nat) (p : State × Option Nat) (j : Nat × List Nat) : State × Option Nat :=
  let base := page * 4096 + j.1 * 256
  let good := j.2.filter (fun w => !lost.contains w)
  let syn := markOf p.1 (base / 8 + good.getLastD 0)
  if good.isEmpty then p
  else
    let s := rebuildWords p.1 page j.1 good
    if chanDown s (dieOf base) (chanOf base) then (s, p.2)
    else
      let r := btrRecord s { cls := 0x02, unit := 0x12, inst := dieOf base, location := memLocation base
                             detail := wordMask good + 2 ^ 32 * syn, tenant := none, during := p.2 } false
      (r.1, some (p.2.getD r.2))

/-- A rebuild of granule q (R165, R166): the page is read whole, and every failure located in it is taken into one
decode; ws are the words of granule q that the read has decoded already. DEDUCED: assumption 170. -/
def rebuildPage (s : State) (page q : Nat) (ws : List Nat) : State :=
  let n := page / 2 ^ 18 / 480
  let s := (List.range 16).foldl (fun s g =>
    decodeWords s (page * 16 + g) (if g = q then (List.range 32).filter (fun w => !ws.contains w) else List.range 32)) s
  let need := fun (g : Nat) =>
    let kind := fun w => wordIs s ((page * 4096 + g * 256) / 8 + w)
    if chanDown s n (chanOfGranule page g) then (if g = q then (List.range 32).filter (fun w => kind w != .poison) else [])
    else (List.range 32).filter (fun w => kind w == .failed)
  let jobs := (q :: (List.range 16).filter (fun g => g != q)).map (fun g => (g, need g))
  let lost := (List.range 32).filter (fun w => jobs.any (fun j => j.2.contains w) && decide (2 ≤ downCount s page w))
  let p := jobs.foldl (rebuildGranule page lost) (s, none)
  if lost.isEmpty then p.1 else loseWords p.1 page q lost p.2

/-- A read from DRAM of words of one granule: every word is decoded, corrected, rebuilt or lost, and
counted (R153, R154, R157, R165 to R167). -/
def fetchGranule (s : State) (g : Nat) (ws : List Nat) : State :=
  let base := g * 256
  let s := decodeWords s g ws
  let down := chanDown s (dieOf base) (chanOf base)
  let want := ws.filter (fun w => if down then wordIs s (base / 8 + w) != .poison else wordIs s (base / 8 + w) == .failed)
  if want.isEmpty then s else rebuildPage s (pageOf base) (g % 16) ws

/-- Whether a granule needs any of the work of fetchGranule. -/
def granuleDirty (s : State) (g : Nat) : Bool :=
  chanDown s (dieOf (g * 256)) (chanOf (g * 256))
    || s.dram.marks.any (fun e => e.1 / 32 == g)
    || s.dram.losses.any (fun l => l.covers (2 * g) || l.covers (2 * g + 1))

/-- The words of granule g in the 64 B bursts that a range touches (R152, R158). -/
def burstWords (g a len : Nat) : List Nat :=
  (List.range 32).filter (fun w =>
    decide (a / 64 ≤ (g * 256 + 8 * w) / 64) && decide ((g * 256 + 8 * w) / 64 ≤ (a + len - 1) / 64))

/-- The granules that a range touches. -/
def granulesOf (a len : Nat) : List Nat := List.range' (a / 256) ((a + len - 1) / 256 + 1 - a / 256)

/-- Read the granules of a range from DRAM. -/
def fetchRange (s : State) (a len : Nat) : State :=
  (granulesOf a len).foldl (fun s g => if granuleDirty s g then fetchGranule s g (burstWords g a len) else s) s

/-- Read len bytes at a PPA through the word code and the seal: the bytes, whether a line they touch is
poisoned, and the state after the read. Every byte of a poisoned line reads as the marker (R168, R348). -/
def load (s : State) (a len : Nat) : List Byte × Bool × State :=
  let s := fetchRange s a len
  (stored s a len, (linesOf a len).any (linePoisoned s), s)

/-! ### Writes -/

/-- The injection of STK_INJ_CTL on the words of one granule write (R179, R181): INV is XORed into the check
bits of the selected words that are written, which are those of the bursts the write touches (R158).
DEDUCED: assumption 171. -/
def injectWrite (s : State) (g : Nat) (ws : List Nat) : State :=
  let a := g * 256
  let n := dieOf a
  let st := stackOf a
  let v := rg s (Reg.STK_INJ_CTL n st)
  let mode := bits v 14 13
  if mode = 0 ∨ mode = 3 ∨ bit v 31 = true ∨ bits v 12 8 ≠ chanOf a % 32 then s
  else
    let sel := ws.filter (fun w => bit v 21 || w == bits v 20 16)
    let hit := if mode = 1 then slotOf a == rf s (Reg.STK_INJ_SLOT n st) 23 0 && !sel.isEmpty
      else decide (0 < bits v 29 22) && !sel.isEmpty
    if !hit then s
    else
      let s := sel.foldl (fun s w => setMark s (a / 8 + w) (markOf s (a / 8 + w) ^^^ bits v 7 0)) s
      let left := if mode = 1 then 0 else bits v 29 22 - 1
      let v := setBits v 29 22 left
      rput s (Reg.STK_INJ_CTL n st) (if left = 0 then setBit v 31 true else v)

/-- A write of a page's seal to its channel: the armed injection of SEA_INJ_CTL is applied (R180).
DEDUCED: assumption 68. -/
def writeSeal (s : State) (page : Nat) : State :=
  let n := page / 2 ^ 18 / 480
  let v := rg s (Reg.SEA_INJ_CTL n)
  let s := if bit v 15 && rg s (Reg.SEA_INJ_PAGE n) == (page / 2 ^ 18 % 480) + 2 ^ 9 * pageIdx page then
    let t := bits v 14 8
    rput (setSealErr s page t (sealErrOf s page t ^^^ bits v 7 0)) (Reg.SEA_INJ_CTL n) (setBit v 15 false)
  else s
  { s with dram := { s.dram with stale := s.dram.stale.filter (fun p => p != page) } }

/-- Note a write in the dirty set of a migration that copies from its extent (R101). -/
def noteMigration (s : State) (a : Nat) : State :=
  match tget s.xlt.migrations (extOf a) with
  | none => s
  | some m =>
    let p := pageIdx (pageOf a)
    if m.dirty.contains p then s
    else { s with xlt := { s.xlt with migrations := tset s.xlt.migrations (extOf a) { m with dirty := p :: m.dirty } } }

/-- While SOLO, a twin marks every page of a mirrored extent that it writes (R391), in the unit and in the map of
reserved extent 4. -/
def noteDirty (s : State) (a len : Nat) : State :=
  if s.twin.st ≠ 3 ∨ ((tget s.xlt.ext (extOf a)).map (fun r => r.mirrored)).getD false = false then s
  else (List.range' (pageOf a) (pageOf (a + len - 1) + 1 - pageOf a)).foldl (fun s p =>
    if s.twin.dirty.contains p then s
    else
      let bitNo := (p / 2 ^ 18 % 480) * 262144 + pageIdx p
      let x := resPpa (p / 2 ^ 18 / 480) 4 (bitNo / 8)
      let b := leNat (peek s x 1)
      poke { s with twin := { s.twin with dirty := p :: s.twin.dirty } } x (leBytes 1 (b ||| 2 ^ (bitNo % 8)))) s

/-- The words of a granule that are all, or partly, covered by a range within it. -/
def wordsIn (g a len : Nat) : List Nat :=
  (List.range 32).filter (fun w => decide (g * 256 + 8 * w < a + len) && decide (a < g * 256 + 8 * w + 8))

/-- Write one piece that lies within one line (R159, R170): a poisoned line takes only a write of all its
bytes; the first result says that the piece was not applied. -/
def storePiece (s : State) (a : Nat) (b : List Byte) : Bool × State :=
  let line := a / 128
  let g := a / 256
  let s := settleLine s line
  let lostNow := chanDown s (dieOf a) (chanOf a)
    && (wordsIn g a b.length).any (fun w => decide (2 ≤ downCount s (pageOf a) w))
  if lostNow then
    (true, noteWatch (bump (poisonLine s line) (Reg.SEA_LOST (dieOf a)) 1) a b.length none)
  else if linePoisoned s line && decide (b.length < 128) then
    (true, report s 0x06 0x10 (4 * dieOf a + stackOf a) (memLocation a) (wordMask (wordsIn g a b.length) + 2 ^ 32 * 0xFF) none none)
  else
    let ws := wordsIn g a b.length
    let s := rawStore s a b
    let s := ws.foldl (fun s w => setMark s (g * 32 + w) 0) s
    (false, noteDirty (noteMigration (injectWrite s g (burstWords g a b.length)) a) a b.length)

/-- Cut a write into pieces of one line each. -/
def linePieces : Nat → Nat → List Byte → List (Nat × List Byte)
  | 0, _, _ => []
  | n + 1, a, b =>
    if b.isEmpty then []
    else
      let k := 128 - a % 128
      (a, b.take k) :: linePieces n (a + k) (b.drop k)

/-- Write bytes at a PPA, other than as whole pages: the old data of the bursts is read, the pieces are
applied, the seal follows, and the watch filter sees the write (R123, R159, R170). The first result
says that some piece was not applied. -/
def store (s : State) (a : Nat) (b : List Byte) : Bool × State :=
  if b.isEmpty then (false, s)
  else
    let s := fetchRange s a b.length
    let (bad, s) := (linePieces (b.length / 128 + 2) a b).foldl (fun (p : Bool × State) e =>
      let (x, s) := storePiece p.2 e.1 e.2
      (p.1 || x, s)) (false, s)
    let s := (List.range' (pageOf a) (pageOf (a + b.length - 1) + 1 - pageOf a)).foldl writeSeal s
    (bad, noteWatch s a b.length none)

/-- Runs of set bytes of a masked write. -/
def maskRuns : Nat → List (Bool × Byte) → List (Nat × List Byte)
  | _, [] => []
  | a, (k, b) :: t =>
    let r := maskRuns (a + 1) t
    if k then
      match r with
      | (x, l) :: u => if x = a + 1 then (a, b :: l) :: u else (a, [b]) :: r
      | [] => [(a, [b])]
    else r

/-- Write the bytes whose mask flag is set. -/
def storeMasked (s : State) (a : Nat) (l : List (Bool × Byte)) : Bool × State :=
  (maskRuns a l).foldl (fun (p : Bool × State) e =>
    let (x, s) := store p.2 e.1 e.2
    (p.1 || x, s)) (false, s)

/-- Write one whole aligned 4 KiB page under a page hold (R161, R167): no old data is read, every loss that
the new seal can cover is cleared, and a line at a word position where two or more positions stay
unavailable stays lost. -/
def storePage (s : State) (page : Nat) (b : List Byte) : Bool × State :=
  let a := page * 4096
  let n := dieOf a
  let s := (List.range 32).foldl (fun s i => settleLine s (a / 128 + i)) s
  let s := (List.range 512).foldl (fun s i => setMark s (a / 8 + i) 0) s
  let s := recomputeSeal s page
  let downs := (List.range 16).filter (fun q => chanDown s n (chanOfGranule page q))
  let sealDown := chanDown s n (sealChan page)
  let dead := if decide (2 ≤ downs.length + b2n sealDown) then downs else []
  let s := noteDirty (noteMigration (rawStore s a b) a) a 4096
  let s := (List.range 16).foldl (fun s q => injectWrite s (page * 16 + q) (List.range 32)) s
  let s := dead.foldl (fun s q =>
    let l := (page * 4096 + q * 256) / 128
    bump (poisonLine (poisonLine s l) (l + 1)) (Reg.SEA_LOST n) 2) s
  let s := if dead.isEmpty then s else (List.range 32).foldl (fun s w => setSealMark s page w 0xFF) s
  (!dead.isEmpty, noteWatch (writeSeal s page) a 4096 none)

/-- Write bytes, gathering whole aligned pages (R38, R161, R230). -/
def storeGathered : Nat → State → Nat → List Byte → Bool × State
  | 0, s, _, _ => (false, s)
  | n + 1, s, a, b =>
    if b.isEmpty then (false, s)
    else
      let k := 4096 - a % 4096
      let (x, s) := if a % 4096 = 0 ∧ 4096 ≤ b.length then storePage s (pageOf a) (b.take 4096)
        else store s a (b.take k)
      let (y, s) := storeGathered n s (a + k) (b.drop k)
      (x || y, s)

/-- Write the poison marker over every line of a range (R171, R348); it is a write, so the watch unit sees
it (R295). -/
def storePoison (s : State) (line : Nat) : State :=
  let s := settleLine s line
  let s := noteDirty (noteMigration (poisonLine s line) (line * 128)) (line * 128) 128
  noteWatch (writeSeal s (pageOf (line * 128))) (line * 128) 128 none

/-- Zero a whole extent with valid seals (R51, R52). -/
def zeroExtent (s : State) (e : Nat) : State :=
  let d := s.dram
  let keep := fun (k size : Nat) => decide (k * size / 2 ^ 30 ≠ e)
  let d := { d with marks := d.marks.filter (fun x => keep x.1 8), sealMarks := d.sealMarks.filter (fun x => keep (x.1 / 32) 4096)
                    sealErr := d.sealErr.filter (fun x => keep (x.1 / 128) 4096), stale := d.stale.filter (fun p => keep p 4096) }
  let d := { d with undef := d.undef.filter (fun x => x != e), undefWritten := d.undefWritten.filter (fun a => extOf a != e)
                    losses := d.losses.map (fun l => { l with zeroed := e :: l.zeroed }) }
  { s with mem := memZero s.mem (e * 2 ^ 30) (2 ^ 30), dram := d }

end Sys2Proof.Machine
end

