-- ==== Sys2Proof/Machine/MirrorOut.lean ====
section
/-!
DEFINITION. What an active twin sends over its mirror ports (R379 to R381): the ports, the peer, the fragments of
a MIRROR_CFG item, and the frame of a command (R431).
-/

namespace Sys2Proof.Machine

/-- The module is in the fatal safe state, where the firmware runs in recovery mode (R480). -/
def inSafe (s : State) : Bool := rf s Reg.PLN_SAFE 0 0 == 1

/-- A request of the module's own that leaves by a given port. -/
def ownRequestVia (s : State) (k : Nat) (m : Msg) (use : OwnUse) : State :=
  let id := s.fab.nextReqid % 2 ^ 24
  let m := { m with reqid := BitVec.ofNat 24 id, hops := BitVec.ofNat 4 (rf s Reg.FPT_GCTL 3 0), lvl := false }
  let o : OwnReq := { msg := m, port := k, sent := now s, tries := 0, use := use }
  let s := { s with fab := { s.fab with own := tset s.fab.own id o, nextReqid := id + 1 } }
  if s.fab.coord.isNone || inSafe s then s else queueAt s k (fromPort s k m)

/-- The mirror ports, in rising order (R380). -/
def mirrorPorts (s : State) : List Nat := maskList 32 (rg s Reg.FPT_TWIN_PORTS)

/-- The mirror port of an extent (R380). DEDUCED: assumption 126. -/
def mirrorPort (s : State) (e : Nat) : Nat :=
  let l := mirrorPorts s
  (l[e % max l.length 1]?).getD 0

/-- The coordinate of the twin. -/
def twinPeer (s : State) : Nat := rf s Reg.FPT_TWIN_CTL 16 0

/-- The twin state of this module, as FPT_TWIN_STAT.STATE codes it. -/
def twinState (s : State) : Nat := s.twin.st

/-- This module's writes to mirrored extents are mirrored: it is ACTIVE, or SOLO while its peer is SYNCING
(R385, R392). -/
def mirroring (s : State) : Bool := s.twin.st == 1 || (s.twin.st == 3 && s.twin.peerSt == 5)

/-- The frame of a command (R431). -/
def cmdFrame (op : Nat) (tag : Word32) (body : List Byte) : List Byte :=
  leBytes 8 (1 + 2 ^ 16 * op + 2 ^ 32 * tag.toNat) ++ leBytes 8 body.length ++ body

/-- The words of a list parameter: its count and its entries (R432). -/
def listWords (l : List Word64) : List Word64 := BitVec.ofNat 64 l.length :: l

/-- Cut an item into fragments of at most 288 B, at least one. -/
def fragments : Nat → List Byte → List (List Byte)
  | 0, b => [b]
  | n + 1, b => if b.length ≤ 288 then [b] else b.take 288 :: fragments n (b.drop 288)

/-- Send one MIRROR_CFG item (R380, R381): kind 0 a command, 1 the acceptance and 2 the completion of a bulk
descriptor. It leaves by the lowest mirror port. Answers its number. -/
def sendCfg (s : State) (kind : Nat) (b : List Byte) : State × Nat :=
  let item := s.twin.nextItem % 65536
  let s := { s with twin := { s.twin with nextItem := (item + 1) % 65536 } }
  let fs := fragments 16 b
  let send := fun (s : State) (e : Nat × List Byte) =>
    let m := mkMsg s 0 0x18 (twinPeer s)
    let m := { m with xf := BitVec.ofNat 4 kind
                      arg := BitVec.ofNat 64 (item + 2 ^ 16 * e.1 + 2 ^ 23 * b2n (e.1 + 1 == fs.length)) }
    let m := withData m e.2
    let s := { s with twin := { s.twin with bytes := s.twin.bytes + msgSlots m * 16 } }
    ownRequestVia s ((mirrorPorts s).headD 0) m (.cfg item)
  (((List.range fs.length).zip fs).foldl send s, item)

end Sys2Proof.Machine
end

