-- ==== Sys2Proof/Machine/Mailbox.lean ====
section
/-!
DEFINITION. The mailbox engine: DTLS associations and sessions, command frames, the change queue, the
right to run, and the one operation through which every management command runs (R426 to R443).
-/

namespace Sys2Proof.Machine

/-! ### The catalogue -/

/-- Who may issue a command (R443). -/
inductive Who where
  | owner
  | any
  | witness
  deriving DecidableEq, Repr

/-- The shape of a request body: words before a list, the list's words per entry (0: no list), words
after it, and whether a byte string fills the rest (R432). -/
structure Shape where
  who : Who
  pre : Nat
  entry : Nat
  post : Nat
  tail : Bool
  deriving DecidableEq, Repr

/-- A request of n words. -/
def fixed (w : Who) (n : Nat) : Shape := ⟨w, n, 0, 0, false⟩

/-- The catalogue: opcode, shape (R444, R445, R447 to R450, R452, R455, R456, R509). -/
def catalogue : List (Nat × Shape) :=
  [(0x0101, fixed .any 1), (0x0102, fixed .owner 1), (0x0103, fixed .owner 0), (0x0104, fixed .any 0),
   (0x0105, fixed .owner 2), (0x0106, fixed .any 0), (0x0107, fixed .owner 1), (0x0108, fixed .owner 2),
   (0x0201, ⟨.owner, 4, 1, 0, false⟩), (0x0202, ⟨.owner, 0, 1, 0, false⟩),
   (0x0203, ⟨.owner, 0, 1, 2, false⟩), (0x0204, ⟨.any, 0, 1, 0, false⟩),
   (0x0205, fixed .owner 4), (0x0206, fixed .owner 2), (0x0207, fixed .any 3), (0x0208, fixed .owner 4),
   (0x0209, fixed .owner 1), (0x020A, fixed .owner 2)]
  ++ [(0x0301, fixed .owner 7), (0x0302, fixed .owner 1), (0x0303, fixed .any 1), (0x0304, fixed .owner 9),
   (0x0305, ⟨.owner, 2, 1, 0, false⟩), (0x0310, fixed .any 1), (0x0311, ⟨.owner, 0, 1, 0, false⟩),
   (0x0312, fixed .owner 2), (0x0320, fixed .owner 4), (0x0321, fixed .owner 1), (0x0322, fixed .any 1),
   (0x0323, fixed .owner 1), (0x0324, fixed .owner 1), (0x0325, fixed .owner 1), (0x0326, fixed .owner 3),
   (0x0327, fixed .any 0), (0x0328, fixed .owner 2), (0x0340, fixed .owner 5), (0x0341, fixed .owner 1),
   (0x0342, fixed .any 1), (0x0343, fixed .owner 1), (0x0344, fixed .any 3)]
  ++ [(0x0401, fixed .owner 2), (0x0402, fixed .owner 4), (0x0403, fixed .any 1),
   (0x0404, ⟨.owner, 0, 1, 0, false⟩), (0x0405, fixed .owner 2), (0x0406, fixed .owner 4),
   (0x0410, ⟨.owner, 2, 1, 0, false⟩), (0x0420, ⟨.owner, 2, 1, 0, false⟩), (0x0430, fixed .owner 1),
   (0x0431, fixed .owner 1), (0x0432, fixed .owner 1), (0x0440, fixed .owner 10), (0x0441, fixed .any 1),
   (0x0442, fixed .owner 9), (0x0443, fixed .owner 1), (0x0444, fixed .any 1),
   (0x0445, ⟨.owner, 3, 1, 0, false⟩), (0x0446, fixed .owner 1)]
  ++ [(0x0501, fixed .owner 11), (0x0502, fixed .any 0), (0x0503, fixed .owner 2), (0x0504, fixed .owner 0),
   (0x0510, fixed .owner 12), (0x0511, fixed .any 1), (0x0512, fixed .witness 0), (0x0513, fixed .witness 0),
   (0x0514, fixed .witness 0), (0x0515, fixed .owner 0), (0x0516, fixed .owner 0),
   (0x0601, fixed .any 2), (0x0602, ⟨.any, 0, 1, 0, false⟩), (0x0603, fixed .any 2)]
  ++ [(0x0701, fixed .any 0), (0x0702, ⟨.owner, 1, 0, 0, true⟩), (0x0703, fixed .owner 1),
   (0x0704, fixed .owner 0), (0x0705, fixed .owner 0), (0x0706, ⟨.any, 0, 0, 0, true⟩),
   (0x0707, ⟨.owner, 1, 0, 0, true⟩), (0x0708, fixed .any 0), (0x0801, fixed .owner 4),
   (0x0802, fixed .owner 4), (0x0803, fixed .owner 1), (0x0804, fixed .owner 2), (0x0805, fixed .owner 2),
   (0x0901, fixed .any 0), (0x0902, fixed .owner 2), (0x0903, fixed .owner 0), (0x0904, fixed .owner 0),
   (0x0905, fixed .owner 0)]

/-- The catalogue entry of an opcode. -/
def shapeOf (op : Nat) : Option Shape := tget catalogue op

/-- Whether a body's length matches its command's parameters (R432). -/
def lengthOk (sh : Shape) (body : List Byte) : Bool :=
  if sh.tail then decide (8 * sh.pre ≤ body.length)
  else if sh.entry = 0 then body.length == 8 * sh.pre
  else decide (8 * (sh.pre + 1) ≤ body.length)
    && body.length == 8 * (sh.pre + 1 + sh.post + leAt body (8 * sh.pre) 8 * sh.entry)

/-! ### Sessions and ownership -/

/-- One session slot. -/
def session (s : State) (k : Nat) : Option Session := tget s.mbx.sessions k

/-- Replace one session slot. -/
def setSession (s : State) (k : Nat) (se : Session) : State :=
  { s with mbx := { s.mbx with sessions := tset s.mbx.sessions k se } }

/-- Whether a twin pair is configured (R396). -/
def twinValid (s : State) : Bool := rf s Reg.FPT_TWIN_CTL 31 31 == 1

/-- Whether a slot is held for the witness or holds it (R428, R459). -/
def witnessSlot (s : State) (k : Nat) : Bool :=
  twinValid s && (k == 7 || (match session s k with
    | some se => se.identity == s.mbx.witness
    | none => false))

/-- The word of MBX_SLOTs (R459). -/
def slotWord (s : State) (k : Nat) : Nat :=
  match session s k with
  | none =>
    if k = 8 then b2n s.brd.smbActive else 2 ^ 4 * b2n (witnessSlot s k)
  | some se =>
    if k = 8 then b2n s.brd.smbActive + 2 ^ 5 * se.queue.length
    else 1 + 2 ^ 2 * b2n (se.assocs.any (fun a => a.net == 0)) + 2 ^ 3 * b2n (se.assocs.any (fun a => a.net == 1))
      + 2 ^ 4 * b2n (witnessSlot s k) + 2 ^ 5 * se.queue.length

/-- The identity of the owner, 48 B, or zeros. -/
def ownerDigest (s : State) : List Byte :=
  match s.mbx.owner with
  | none => List.replicate 48 0#8
  | some k => match session s k with
    | none => List.replicate 48 0#8
    | some se => se.identity

/-- The event OWNER_CHANGE (R440, R457). -/
def ownerChange (s : State) : State :=
  event s 0x0001 0 (leBytes 8 (s.mbx.owner.getD 0xFF) ++ leBytes 8 s.mbx.epoch ++ leBytes 8 s.mbx.expires
    ++ ownerDigest s)

/-- The event SESSION_CHANGE (R457). DEDUCED: assumption 36. -/
def sessionChange (s : State) (k : Nat) : State := eventW s 0x0002 0 [k, slotWord s k]

/-- Take a command out of its session's queue and the change queue. -/
def dequeue (s : State) (slot : Nat) (tag : Word32) : State :=
  let s := match session s slot with
    | none => s
    | some se => setSession s slot { se with queue := se.queue.filter (fun f => f.tag != tag) }
  let hit : Frame → Bool := fun f => f.slot == slot && f.tag == tag
  let cur := match s.mbx.current with
    | some f => if hit f then none else some f
    | none => none
  let m := { s.mbx with change := s.mbx.change.filter (fun f => !hit f), current := cur }
  { s with mbx := m }

/-- Answer every command of a slot that still waits in the change queue with NOT_OWNER (R440). -/
def refuseQueued (s : State) (slot : Nat) : State :=
  let fs := s.mbx.change.filter (fun f => f.slot == slot)
  fs.foldl (fun s f => reply (dequeue s slot f.tag) slot f.opcode f.tag stNOT_OWNER []) s

/-- Ownership lapses (R440): the former owner's queued commands return NOT_OWNER, and OWNER_CHANGE is
sent. DEDUCED: assumption 34. -/
def lapse (s : State) : State :=
  match s.mbx.owner with
  | none => s
  | some k =>
    let s := refuseQueued s k
    ownerChange { s with mbx := { s.mbx with owner := none } }

/-- An OWN_RENEW of the owner that reached the mailbox engine before EXPIRES is still to be carried out (R439).
DEDUCED: assumption 34. -/
def renewWaits (s : State) : Bool :=
  (s.mbx.current.toList ++ s.mbx.change).any (fun f =>
    f.opcode == 0x0102 && s.mbx.owner == some f.slot && decide (f.arrived < s.mbx.expires))

/-- At EXPIRES ownership lapses before any command that arrives in the same nanosecond, unless a renewal that came in time
still waits (R439). -/
def lapseIfDue (s : State) : State :=
  if s.mbx.owner.isSome && decide (s.mbx.expires ≤ now s) && !renewWaits s then lapse s else s

/-- Clear REPORTED in every open fault record and send FAULT_PENDING for each tenant that has open
records (R442). -/
def reofferFaults (s : State) : State :=
  let fs := s.xlt.faults.map (fun e => (e.1, e.2.map (fun r => (r.1, { r.2 with reported := false }))))
  let s := { s with xlt := { s.xlt with faults := fs } }
  fs.foldl (fun s e => if e.2.isEmpty then s else eventW s 0x0010 0 [e.1]) s

/-- Ownership is granted to a slot: the epoch advances by 1 and the lease runs (R437, R438). When the
identity is another than the last owner's, fault records are offered again (R442). -/
def grantOwner (s : State) (slot expires : Nat) : State :=
  let ident := match session s slot with
    | some se => se.identity
    | none => []
  let other := ident != s.mbx.lastOwner
  let m := { s.mbx with owner := some slot, epoch := (s.mbx.epoch + 1) % 2 ^ 32, expires := expires }
  let s := ownerChange { s with mbx := { m with lastOwner := ident } }
  if other then reofferFaults s else s

/-- A session ends: ownership lapses when it was the owner's, and its queued commands are gone (R428,
R440). -/
def endSession (s : State) (k : Nat) : State :=
  match session s k with
  | none => s
  | some _ =>
    let s := if s.mbx.owner = some k then lapse s else s
    let m := { s.mbx with sessions := tdel s.mbx.sessions k, change := s.mbx.change.filter (fun f => f.slot != k) }
    let cur := match m.current with
      | some f => if f.slot = k then none else some f
      | none => none
    sessionChange { s with mbx := { m with current := cur } } k

/-- Every session ends (R454, R530). -/
def endAllSessions (s : State) : State :=
  (List.range 8).foldl endSession s

/-- An association ends, and its session with its last one (R428). -/
def endAssoc (s : State) (k net : Nat) : State :=
  match session s k with
  | none => s
  | some se =>
    let as := se.assocs.filter (fun a => a.net != net)
    if as.isEmpty then endSession s k
    else sessionChange (setSession s k { se with assocs := as }) k

/-! ### The right to run -/

/-- The commands slot 8 accepts (R430). -/
def slot8Ops : List Nat := [0x0104, 0x0602, 0x0603, 0x0701, 0x0901]

/-- The module is in pool-hold (R530). -/
def inHold (s : State) : Bool := rf s Reg.PWR_STAT 6 6 == 1

/-- The commands that recovery mode accepts (R480). -/
def recoveryOp (op : Nat) (w : Who) : Bool := w == .any || op / 256 == 1 || op == 0x0805

/-- The commands that pool-hold accepts (R530). -/
def holdOp (op : Nat) (w : Who) : Bool :=
  w == .any || op / 256 == 1 || op == 0x0904 || op == 0x0905 || op == 0x0902

/-- Whether a session's identity is the witness of a configured pair (R443). -/
def isWitness (s : State) (slot : Nat) : Bool :=
  match session s slot with
  | some se => twinValid s && se.identity == s.mbx.witness
  | none => false

/-- The first reason, if any, for which a command may not run now: status and body (R430, R443, R480,
R530). DEDUCED: assumption 32. -/
def mayNot (s : State) (slot op : Nat) : Option (Nat × List Byte) :=
  let w := match shapeOf op with
    | some sh => sh.who
    | none => .owner
  if slot = 8 ∧ op ∉ slot8Ops then some (stNOT_OWNER, [])
  else if inSafe s && !recoveryOp op w then some (stCONFLICT, leBytes 8 0x0041)
  else if w = .owner ∧ s.mbx.owner ≠ some slot then some (stNOT_OWNER, [])
  else if w == .witness && !isWitness s slot then some (stBADCRED, [])
  else if inHold s && !holdOp op w then some (stCONFLICT, [])
  else none

/-- What a command's own effect answers: a final reply, a deferred one, nothing yet (R99), or nothing because
it waits for a line of the directory and stays queued. -/
inductive Rep where
  | done (status : Nat) (body : List Byte)
  | defer (body : List Byte) (w : Wait)
  | wait
  | again
  deriving DecidableEq, Repr

/-- OK with an empty body. -/
def Rep.ok : Rep := .done stOK []

/-- OK with words. -/
def Rep.words (ws : List Nat) : Rep := .done stOK (ws.flatMap (leBytes 8))

/-- Answer a command whose effect is applied: with its reply, or as deferred (R435, R436). DEDUCED: assumption 32. -/
def runEnd (s : State) (slot op : Nat) (tag : Word32) (st : Nat) (b : List Byte) (w : Option Wait) : State :=
  match w with
  | none => reply s slot op tag st b
  | some w =>
    let d : Deferred := { slot := slot, opcode := op, tag := tag, wait := w }
    reply { s with mbx := { s.mbx with deferred := s.mbx.deferred ++ [d] } } slot op tag stDEFERRED b

/-- An active twin has the command carried out on the standby before it replies (R379): the command stays at
the head of its queue, and the reply is owed. -/
def oweReply (s : State) (slot op : Nat) (tag : Word32) (frame : List Byte) (st : Nat) (b : List Byte)
    (w : Option Wait) : State :=
  let (s, item) := sendCfg s 0 (cmdFrame op tag frame)
  let r : CfgReply := { item := item, slot := slot, opcode := op, tag := tag, status := st, body := b, final := none }
  let d := match w with
    | none => s.mbx.deferred
    | some w => s.mbx.deferred ++ [{ slot := slot, opcode := op, tag := tag, wait := w }]
  { s with twin := { s.twin with replies := s.twin.replies ++ [r] }, mbx := { s.mbx with deferred := d } }

/-- Run one management command: a lease that has ended lapses first, the parameters are checked, the
right to run is checked, and then the command's own effect runs; a command that would be the 65th
deferred one is not carried out (R432, R435, R436, R439, R443). frame: the body of a command that an active
twin has carried out on its standby (R379). DEDUCED: assumption 39. -/
def runOn (frame : Option (List Byte)) (slot op : Nat) (tag : Word32) (bad : Bool) (s : State)
    (k : State → State × Rep) : State :=
  let s0 := lapseIfDue s
  let queued := s0.mbx
  let s := dequeue s0 slot tag
  let twin := if s.twin.st = 1 ∨ s.twin.st = 2 then frame else none
  if s0.twin.replies.any (fun r => r.slot == slot && r.tag == tag) then s0
  else if bad then reply s slot op tag stINVALID []
  else match mayNot s slot op with
    | some (st, b) => reply s slot op tag st b
    | none => match k s with
      | (s', .done st b) => match twin with
        | some f => if st = stOK then oweReply (requeue s' queued slot) slot op tag f st b none else reply s' slot op tag st b
        | none => reply s' slot op tag st b
      | (s', .defer b w) =>
        if 64 ≤ s.mbx.deferred.length then reply s slot op tag stBUSY []
        else match twin with
          | some f => oweReply (requeue s' queued slot) slot op tag f stDEFERRED b (some w)
          | none => runEnd s' slot op tag stDEFERRED b (some w)
      | (s', .wait) => s'
      | (s', .again) => { s' with mbx := queued }
where
  /-- The command is back at the head of its queue, and in its session's. -/
  requeue (s : State) (q : Mailbox) (slot : Nat) : State :=
    let s := { s with mbx := { s.mbx with current := q.current, change := q.change } }
    match tget s.mbx.sessions slot, tget q.sessions slot with
    | some a, some b => setSession s slot { a with queue := b.queue }
    | _, _ => s

/-- Run one command that concerns this module alone. -/
def runCmd (slot op : Nat) (tag : Word32) (bad : Bool) (s : State) (k : State → State × Rep) : State :=
  runOn none slot op tag bad s k

/-- Run one owner command of the groups that an active twin has carried out on its standby too (R379).
DEDUCED: assumption 123. -/
def runTwin (slot op : Nat) (tag : Word32) (words : List Word64) (bad : Bool) (s : State)
    (k : State → State × Rep) : State :=
  runOn (some (wordsBytes words)) slot op tag bad s k

/-- A word has no bit set outside a mask (R432). -/
def onlyBits (w : Word64) (mask : Nat) : Bool := w &&& ~~~(BitVec.ofNat 64 mask) == 0#64

/-- A word is at most a bound. -/
def atMost (w : Word64) (n : Nat) : Bool := decide (w.toNat ≤ n)

/-- A word lies in a range. -/
def within (w : Word64) (lo hi : Nat) : Bool := decide (lo ≤ w.toNat) && decide (w.toNat ≤ hi)

/-! ### Frames -/

/-- The arrival time of a command: that of its frame while it is queued, else now (R439). -/
def arrivalOf (s : State) (slot : Nat) (tag : Word32) : Nat :=
  match s.mbx.current with
  | some f => if f.slot = slot ∧ f.tag = tag then f.arrived else now s
  | none =>
    match session s slot with
    | none => now s
    | some se => match se.queue.find? (fun f => f.tag == tag) with
      | some f => f.arrived
      | none => now s

/-- Refresh the association a datagram arrived on (R428). -/
def touchAssoc (s : State) (slot net : Nat) : State :=
  match session s slot with
  | none => s
  | some se =>
    setSession s slot { se with assocs := se.assocs.map (fun a => if a.net = net then { a with seen := now s } else a) }

/-- The slots in which one command frame is found wanting: reserved bits of the header (R431). -/
def headerClean (b : List Byte) : Bool :=
  let w0 := leAt b 0 8
  let w1 := leAt b 8 8
  bits w0 15 9 == 0 && bits w1 63 13 == 0

/-- A frame that passed the duplicate checks is checked and queued, or answered (R432, R434). DEDUCED: assumption 33. -/
def acceptFrame (s : State) (slot : Nat) (se : Session) (b : List Byte) : State :=
  let w0 := leAt b 0 8
  let op := bits w0 31 16
  let tag : Word32 := BitVec.ofNat 32 (bits w0 63 32)
  let len := bits (leAt b 8 8) 12 0
  let body := b.drop 16
  if bits w0 7 0 ≠ 1 then reply s slot op tag stUNSUPPORTED []
  else match shapeOf op with
    | none => reply s slot op tag stUNSUPPORTED []
    | some sh =>
      if bit w0 8 || !headerClean b || body.length != len || !lengthOk sh body then
        reply s slot op tag stINVALID []
      else if 16 ≤ se.queue.length then reply s slot op tag stBUSY []
      else
        let f : Frame := { slot := slot, opcode := op, tag := tag, body := body, arrived := now s }
        let s := setSession s slot { se with queue := se.queue ++ [f] }
        if sh.who = .any then s
        else { s with mbx := { s.mbx with change := s.mbx.change ++ [f] } }

/-- Submit a frame to a session that exists: a stored reply is sent again, a duplicate of a command in
progress is discarded and counted, anything else is checked and queued (R434). -/
def submit (s : State) (slot : Nat) (b : List Byte) : State :=
  if b.length < 16 then s
  else match session s slot with
    | none => s
    | some se =>
      let tag : Word32 := BitVec.ofNat 32 (bits (leAt b 0 8) 63 32)
      match se.replies.find? (fun r => r.tag == tag) with
      | some r => sendFrame s slot (replyBytes slot r.opcode r.tag r.status r.final r.body)
      | none =>
        if se.queue.any (fun f => f.tag == tag) || s.mbx.deferred.any (fun d => d.slot == slot && d.tag == tag) then
          bump s Reg.MBX_DUP 1
        else acceptFrame s slot se b

/-- The name of slot 8's session, which has no identity (R430). -/
def slot8Session : Session := { identity := [], assocs := [], queue := [], replies := [] }

end Sys2Proof.Machine
end

