-- ==== Sys2Proof/Machine/Translate.lean ====
section
/-!
DEFINITION. Extent records, views and windows as the translation unit reads them (R48, R55, R56, R63,
R77 to R81), fault records and their queues (R103 to R107), and the opening of revocation fences (R91,
R96).
-/

namespace Sys2Proof.Machine

/-! ### Extents and views -/

/-- The record of an extent after reset: RESERVED for the first eight of each die, else FREE (R45, R48). -/
def ExtRec.init (e : Nat) : ExtRec :=
  { st := if e % 480 < 8 then 0 else 1, holder := 0, prio := 0, coherent := false, mirrored := false
    mapcount := 0 }

/-- The record of extent e. DEDUCED: assumption 44. -/
def extRec (s : State) (e : Nat) : ExtRec := tgetD s.xlt.ext e (ExtRec.init e)

/-- Replace it. DEDUCED: assumption 44. -/
def setExt (s : State) (e : Nat) (r : ExtRec) : State :=
  { s with xlt := { s.xlt with ext := tset s.xlt.ext e r } }

/-- An extent number is one of the reserved extents (R45). -/
def reservedExt (e : Nat) : Bool := decide (e % 480 < 8)

/-- The states of R48. -/
def exFREE : Nat := 1
def exZEROING : Nat := 2
def exREADY : Nat := 3
def exDRAINING : Nat := 4

/-- The view entry of a slot of a tenant (R56); an empty slot reads as 0. -/
def viewEnt (s : State) (t slot : Nat) : Nat := (tgetD s.xlt.views (t * 2 ^ 18 + slot) 0).toNat

/-- Fields of a view entry (R56). -/
def veValid (w : Nat) : Bool := bit w 0
def veSize (w : Nat) : Bool := bit w 1
def vePerm (w : Nat) : Nat := bits w 5 2
def veExtent (w : Nat) : Nat := bits w 19 8

/-- Write a view entry, in the unit and in the tenant's view table (R45, R56), and drop it from the view
cache. -/
def setView (s : State) (t slot w : Nat) : State :=
  let k := t * 2 ^ 18 + slot
  let v := if w = 0 then tdel s.xlt.views k else tset s.xlt.views k (BitVec.ofNat 64 w)
  let s := { s with xlt := { s.xlt with views := v, vcache := s.xlt.vcache.filter (fun x => x != k) } }
  poke s (resPpa (t % 6) 1 ((t / 6) * 2097152 + slot * 8)) (leBytes 8 w)

/-- The extent that slot `slot` of a view reaches through an entry (R55). -/
def entExtent (w slot : Nat) : Nat := veExtent w + (if veSize w then slot % 16 else 0)

/-- The slots of a tenant's view that are valid: slot and entry. -/
def viewSlots (s : State) (t : Nat) : List (Nat × Nat) :=
  (s.xlt.views.filter (fun e => e.1 / 2 ^ 18 == t)).map (fun e => (e.1 % 2 ^ 18, e.2.toNat))

/-- The tenants and slots whose view maps an extent. -/
def mappers (s : State) (e : Nat) : List (Nat × Nat) :=
  (s.xlt.views.filter (fun v => entExtent v.2.toNat (v.1 % 2 ^ 18) == e)).map (fun v => (v.1 / 2 ^ 18, v.1 % 2 ^ 18))

/-- A look-up in the view cache (R77, R497): 32,768 entries in 8 ways. Which set a key falls into, and which
way a miss replaces, the spec leaves open. DESIGN CHOICE: assumption 51. -/
def viewCache (s : State) (t slot : Nat) : State :=
  let k := t * 2 ^ 18 + slot
  if s.xlt.vcache.contains k then s
  else
    let set := s.xlt.vcache.filter (fun x => Config.viewCacheSet x == Config.viewCacheSet k)
    let out := if set.length < 8 then none else set[Config.freeNat s.free % 8]?
    let keep := s.xlt.vcache.filter (fun x => some x != out)
    { s with free := s.free + 1, xlt := { s.xlt with vcache := k :: keep, vmiss := s.xlt.vmiss + 1 } }

/-! ### Translation of one unit -/

/-- Permission bits: RD, WR, ATOM, CRS (R103). -/
def pRD : Nat := 1
def pWR : Nat := 2
def pATOM : Nat := 4
def pCRS : Nat := 8

/-- A translation fault, as its record names it (R103, R104). -/
structure Flt where
  tenant : Nat
  slot : Nat
  viawin : Bool
  winnum : Bool
  cause : Nat
  need : Nat
  have_ : Nat
  addr : Nat
  deriving DecidableEq, Repr

/-- What the translation of one unit gives: an entry and the tenant charged, a fault, or a failure in the
window table (R564). -/
inductive UnitRes where
  | ok (e : ShEntry) (tenant : Nat)
  | fault (f : Flt)
  | window
  deriving DecidableEq, Repr

/-- The epoch of an extent (R91). -/
def epochOf (s : State) (e : Nat) : Nat := tgetD s.xlt.epochs e 0

/-- The shadow entry of a translated unit (R90). -/
def mkEntry (s : State) (extent perm srcUnit : Nat) (viawin : Bool) : ShEntry :=
  { rd := bit perm 0, wr := bit perm 1, atom := bit perm 2, coh := (extRec s extent).coherent
    mir := (extRec s extent).mirrored, viawin := viawin, extent := extent, srcUnit := srcUnit
    epoch := epochOf s extent }

/-- Translate one slot of a tenant's view with the permissions needed (R55, R78, R79); perm limits what the
view grants. -/
def slotXl (s : State) (t slot need perm addr srcUnit : Nat) (viawin : Bool) : State × UnitRes :=
  let s := viewCache s t slot
  let w := viewEnt s t slot
  let got := vePerm w &&& perm
  if !veValid w then
    (s, .fault { tenant := t, slot := slot, viawin := viawin, winnum := false, cause := 1, need := need, have_ := 0, addr := addr })
  else if need &&& got ≠ need then
    (s, .fault { tenant := t, slot := slot, viawin := viawin, winnum := false, cause := 2, need := need, have_ := got, addr := addr })
  else (s, .ok (mkEntry s (entExtent w slot) got srcUnit viawin) t)

/-- Fields of a window entry (R64). -/
def winCtl (s : State) (w : Nat) : Nat := rg s (Reg.XLT_WIN_CTL w)
def winBase (s : State) (w : Nat) : Nat :=
  rf s (Reg.XLT_WIN_BASE_LO w) 31 30 + 4 * rf s (Reg.XLT_WIN_BASE_HI w) 15 0

/-- Whether a source coordinate passes the filter of window w (R63, R64). -/
def winAdmits (s : State) (w src : Nat) : Bool :=
  let f := rg s (Reg.XLT_WIN_SRC w)
  bit f 13 || (coDomain src == bits f 5 0 && (bit f 12 || coDevice src == bits f 11 6))

/-- Translate one 1 GiB unit of a window (R63, R564). addr is the window address of the access. -/
def windowXl (s : State) (addr need src : Nat) : State × UnitRes :=
  let w := (addr / 2 ^ 40) % 4096
  let u := (addr / 2 ^ 30) % 1024
  let ctl := winCtl s w
  let t := bits ctl 15 8
  let perm := bits ctl 4 2
  let src_ := w * 2 ^ 10 + u
  if !bit ctl 0 || !winAdmits s w src || decide (bits ctl 26 16 ≤ u) then (s, .window)
  else if !bit ctl 1 then
    let need := need % 8
    if need &&& perm ≠ need then
      (s, .fault { tenant := t, slot := w, viawin := true, winnum := true, cause := 2, need := need, have_ := perm, addr := addr })
    else (s, .ok (mkEntry s ((winBase s w + u) % 4096) perm src_ true) t)
  else slotXl s t ((winBase s w + u) % 2 ^ 18) need (perm + pCRS) addr src_ true

/-- Translate one unit of address kind 0 or 1 for a tenant (R80). -/
def unitXl (s : State) (kind tenant addr need src : Nat) : State × UnitRes :=
  if kind = 0 then slotXl s tenant ((addr / 2 ^ 30) % 2 ^ 18) need 15 addr ((addr / 2 ^ 30) % 2 ^ 18) false
  else windowXl s addr need src

/-- Cut a range into its parts within 1 GiB units (R77, R81). -/
def unitsOf : Nat → Nat → Nat → List (Nat × Nat)
  | 0, _, _ => []
  | n + 1, a, len =>
    if len = 0 then []
    else
      let k := min len (2 ^ 30 - a % 2 ^ 30)
      (a, k) :: unitsOf n (a + k) (len - k)

/-! ### Fault records -/

/-- The queue of a tenant, by queue slot. -/
def faultsOf (s : State) (t : Nat) : Tab FaultRec := tgetD s.xlt.faults t []

/-- The 64 bytes of a record (R103). -/
def FaultRec.toBytes (r : FaultRec) : List Byte :=
  leBytes 8 (r.seq % 2 ^ 32 + 2 ^ 32 * (r.tenant % 256) + 2 ^ 40 * (r.slot % 2 ^ 18) + 2 ^ 58 * b2n r.viawin
      + 2 ^ 59 * b2n r.winnum + 2 ^ 60 * (r.cause % 16))
    ++ leBytes 8 (r.need % 16 + 16 * (r.have_ % 16) + 2 ^ 16 * (r.waiters % 2 ^ 16) + 2 ^ 32 * min r.hits 0xFFFFFFFF)
    ++ leBytes 8 r.first ++ leBytes 8 r.last
    ++ leBytes 8 (r.firstContext % 2 ^ 14 + 2 ^ 31 * (r.firstSource % 2 ^ 17))
    ++ leBytes 8 (r.firstAddr % 2 ^ 48) ++ leBytes 8 (b2n r.reported) ++ leBytes 8 0

/-- Put a record into slot k of its tenant's queue, in the unit and in reserved extent 2 (R45, R106). -/
def setFault (s : State) (t k : Nat) (r : FaultRec) : State :=
  let q := tset (faultsOf s t) k r
  let s := { s with xlt := { s.xlt with faults := tset s.xlt.faults t q } }
  poke s (resPpa (t % 6) 2 ((t / 6) * 1048576 + k * 64)) r.toBytes

/-- Free a queue slot. -/
def delFault (s : State) (t k : Nat) : State :=
  { s with xlt := { s.xlt with faults := tset s.xlt.faults t (tdel (faultsOf s t) k) } }

/-- The record a fault merges into (R104). -/
def faultMatch (s : State) (f : Flt) : Option (Nat × FaultRec) :=
  (faultsOf s f.tenant).find? (fun e => e.2.slot == f.slot && e.2.viawin == f.viawin && e.2.winnum == f.winnum)

/-- The next SEQ of a tenant, skipping 0 (R103). -/
def nextFaultSeq (s : State) (t : Nat) : Nat :=
  let n := (tgetD s.xlt.faultSeq t 0 + 1) % 2 ^ 32
  if n = 0 then 1 else n

/-- Record or merge one fault (R103 to R107, R111). ctx: the parked context that gains it, or none for a
single request. held: the context already waits on the record (R105). Answers the record's SEQ, or none
where the queue is full; a single request is then counted here, a context where it parks (R107).
DEDUCED: assumption 55. -/
def recordFault (s : State) (f : Flt) (ctx : Option Nat) (src : Nat) (held : Nat → Bool) : State × Option Nat :=
  match faultMatch s f with
  | some (k, r) =>
    let r := { r with cause := f.cause, need := r.need ||| f.need, have_ := f.have_, last := now s }
    let r := match ctx with
      | none => { r with hits := min (r.hits + 1) 0xFFFFFFFF }
      | some _ => if held r.seq then r else { r with waiters := r.waiters + 1 }
    (setFault (bump s (Reg.XLT_FQ_MERGE f.tenant) 1) f.tenant k r, some r.seq)
  | none =>
    let depth := rf s (Reg.XLT_FQ_CFG f.tenant) 14 0
    match (List.range depth).find? (fun k => (tget (faultsOf s f.tenant) k).isNone) with
    | none => (if ctx.isSome then s else bump s (Reg.XLT_FQ_OVF f.tenant) 1, none)
    | some k =>
      let n := nextFaultSeq s f.tenant
      let quiet := (faultsOf s f.tenant).all (fun e => e.2.reported)
      let r : FaultRec :=
        { seq := n, tenant := f.tenant, slot := f.slot, viawin := f.viawin, winnum := f.winnum, cause := f.cause
          need := f.need, have_ := f.have_, waiters := if ctx.isSome then 1 else 0, hits := 0, first := now s
          last := now s, firstContext := ctx.getD 0x3FFF, firstSource := src, firstAddr := f.addr
          reported := false }
      let s := { s with xlt := { s.xlt with faultSeq := tset s.xlt.faultSeq f.tenant n } }
      let s := setFault s f.tenant k r
      (if quiet then eventW s 0x0010 0 [f.tenant] else s, some n)

/-! ### Single requests -/

/-- What the translation of a single request gives. -/
inductive ReqXl where
  /-- Segments of PPA and length, and the tenant charged. -/
  | ok (segs : List (Nat × Nat)) (tenant : Nat)
  | fail (cause : Nat)
  /-- A legacy address of another node (R68). -/
  | forward (coord : Nat)
  deriving DecidableEq, Repr

/-- Translate the units of a single request of kind 0 or 1: every failing unit is recorded (R77, R79). -/
def unitsXl (s : State) (kind tenant need src : Nat) : List (Nat × Nat) → State × Option (List (Nat × Nat) × Nat)
  | [] => (s, some ([], tenant))
  | (a, len) :: t =>
    let (s, r) := unitXl s kind tenant a need src
    let (s, out) := match r with
      | .ok e ten => (s, some (ppaOf e.extent (a % 2 ^ 30), ten))
      | .fault f => ((recordFault s f none src (fun _ => false)).1, none)
      | .window => (s, none)
    let (s, rest) := unitsXl s kind tenant need src t
    match out, rest with
    | some (p, ten), some (l, _) => (s, some ((p, len) :: l, ten))
    | _, _ => (s, none)

/-- Every extent a PPA range touches is one that a request from the fabric may reach (R41, R46).
DEDUCED: assumption 53. -/
def ppaOk (a len : Nat) : Bool :=
  (List.range' (extOf a) (extOf (a + len - 1) + 1 - extOf a)).all (fun e => decide (e < 2880) && !reservedExt e)

/-- The tenant of a context that exists. -/
def ctxTenant (s : State) (x : Nat) : Option Nat := (tget s.sched.ctxs x).map (fun c => c.tenant)

/-- Translate a single request that arrived through port k (R39, R40, R55, R63, R68, R69, R77 to R79).
DEDUCED: assumption 53. DEDUCED: assumption 82. -/
def reqXl (s : State) (k : Nat) (m : Msg) (addr len need : Nat) : State × ReqXl :=
  let src := m.src.toNat
  let fin := fun (p : State × Option (List (Nat × Nat) × Nat)) => match p.2 with
    | some (l, t) => (p.1, ReqXl.ok l t)
    | none => (p.1, ReqXl.fail cTRANSLATION)
  if m.akind = 0 then
    match ctxTenant s m.context.toNat with
    | none => (s, .fail cTRANSLATION)
    | some t =>
      if 2 ^ 48 < addr + len then (s, .fail cTRANSLATION)
      else fin (unitsXl s 0 t need src (unitsOf 3 addr len))
  else if m.akind = 1 then
    if (addr / 2 ^ 40) ≠ (addr + len - 1) / 2 ^ 40 then (s, .fail cTRANSLATION)
    else fin (unitsXl s 1 0 need src (unitsOf 3 addr len))
  else if m.akind = 2 then
    if portMode s k ≠ 2 then (s, .fail cKIND)
    else if ppaOk addr len then (s, .ok [(addr, len)] 0)
    else (s, .fail cTRANSLATION)
  else if !bit (rg s Reg.XLT_LEGACY_PORTS) k then (s, .fail cKIND)
  else
    let node := addr / 2 ^ 42
    let ppa := addr % 2 ^ 42
    let lt := rf s Reg.XLT_LEGACY_CTL 23 16
    if node = rf s Reg.XLT_LEGACY_CTL 9 0 then
      let es := List.range' (extOf ppa) (extOf (ppa + len - 1) + 1 - extOf ppa)
      if ppaOk ppa len && es.all (fun e => (extRec s e).st == exREADY && (extRec s e).holder == lt) then
        (s, .ok [(ppa, len)] lt)
      else (s, .fail cTRANSLATION)
    else
      let v := rg s (Reg.XLT_LEGNODE node)
      if bit v 31 then (s, .forward (bits v 16 0)) else (s, .fail cTRANSLATION)

/-! ### Revocation fences -/

/-- Advance the epoch of an extent; the era advances when it wraps (R91). -/
def advanceEpoch (s : State) (e : Nat) : State :=
  let n := epochOf s e + 1
  let x := { s.xlt with epochs := tset s.xlt.epochs e (n % 2 ^ 22) }
  { s with xlt := if n = 2 ^ 22 then { x with era := (x.era + 1) % 2 ^ 32 } else x }

/-- Whether a fence can open now (R99). -/
def fenceRoom (s : State) : Bool := decide (s.xlt.fences.length < 64)

/-- Open a fence over extents (R96): the epoch of each advances. -/
def openFence (s : State) (es : List Nat) (cause : Nat) : State :=
  match (List.range 64).find? (fun f => (tget s.xlt.fences f).isNone) with
  | none => s
  | some f =>
    let s := es.foldl advanceEpoch s
    { s with xlt := { s.xlt with fences := tset s.xlt.fences f { extents := es, cause := cause, opened := now s } } }

/-- An open fence covers an extent. -/
def fenced (s : State) (e : Nat) : Bool := s.xlt.fences.any (fun f => f.2.extents.contains e)

/-- The extents that window w resolves to as it stands (R96). -/
def winExtents (s : State) (w : Nat) : List Nat :=
  let ctl := winCtl s w
  let n := bits ctl 26 16
  if !bit ctl 0 then []
  else if !bit ctl 1 then (List.range n).map (fun u => (winBase s w + u) % 4096)
  else (List.range n).filterMap (fun u =>
    let slot := (winBase s w + u) % 2 ^ 18
    let v := viewEnt s (bits ctl 15 8) slot
    if veValid v then some (entExtent v slot) else none)

end Sys2Proof.Machine
end

