-- ==== Sys2Proof/Machine/Directory.lean ====
section
/-!
DEFINITION. The directory of coherent lines: entries, endpoints, transactions, recalls and victims (R185 to
R211). What a request does once its line is clear stands in Machine/Requests.lean.
-/

namespace Sys2Proof.Machine

/-! ### Entries and endpoints -/

/-- Slice and set of a line index (R185). -/
def dirSlice (line : Nat) : Nat := (line % 16) ^^^ ((line / 256) % 16)
def dirSet (line : Nat) : Nat := (line / 16) % 16384

/-- The entry of a line (R186). -/
def dirEnt (s : State) (line : Nat) : Option DirEntry := tget s.dirc.entries line

/-- Put an entry; an entry without a holder is freed. -/
def setEnt (s : State) (line : Nat) (e : Option DirEntry) : State :=
  { s with dirc := { s.dirc with entries := match e with
    | none => tdel s.dirc.entries line
    | some e => if e.st ≠ 2 ∧ e.ptrs = [] then tdel s.dirc.entries line else tset s.dirc.entries line e } }

/-- The endpoint index of a coordinate (R188). DEDUCED: assumption 73. -/
def epOf (s : State) (coord : Nat) : Option Nat := (s.dirc.eps.find? (fun e => e.2.1 == coord)).map (fun e => e.1)

/-- The coordinate and state of an endpoint index: 0 FREE, 1 ACTIVE, 2 FAILED. DEDUCED: assumption 73. -/
def epCoord (s : State) (x : Nat) : Nat := (tgetD s.dirc.eps x (0, 0)).1
def epState (s : State) (x : Nat) : Nat := (tgetD s.dirc.eps x (0, 0)).2

/-- Put an endpoint into a state; FREE frees the index. -/
def setEp (s : State) (x coord st : Nat) : State :=
  { s with dirc := { s.dirc with eps := if st = 0 then tdel s.dirc.eps x else tset s.dirc.eps x (coord, st) } }

/-- Give a coordinate an index, the lowest that is FREE, unless it has one (R188). -/
def takeEp (s : State) (coord : Nat) : State × Option Nat :=
  match epOf s coord with
  | some x => (s, some x)
  | none => match (List.range 1024).find? (fun x => (tget s.dirc.eps x).isNone) with
    | none => (s, none)
    | some x => (setEp s x coord 1, some x)

/-- The ACTIVE endpoints that a coarse vector covers (R187, R198). -/
def coarseEps (s : State) (v : Nat) : List Nat :=
  (s.dirc.eps.filter (fun e => bit v (e.1 / 32) && e.2.2 == 1)).map (fun e => e.1)

/-- The line of a PPA lies in a coherent region (R33). -/
def coherentLine (s : State) (line : Nat) : Bool := (extRec s (extOf (line * 128))).coherent

/-- Poison a line for a failed holder (R209 to R211). -/
def poisonHeld (s : State) (line : Nat) : State :=
  bump (storePoison (setEnt s line none) line) Reg.DIR_POISONED 1

/-- Count what the running sweep did (R212). -/
def sweepCount (s : State) (x lines ptrs : Nat) : State :=
  let add := fun (e : Nat × Nat × Nat × Nat) =>
    if e.1 = x then (e.1, e.2.1, e.2.2.1 + lines, e.2.2.2 + ptrs) else e
  { s with dirc := { s.dirc with sweep := s.dirc.sweep.map add, sweepNext := s.dirc.sweepNext.map add } }

/-- A line as a request finds it: the sweep of a failed holder reaches it first (R210, R211). -/
def purge (s : State) (line : Nat) : State :=
  match dirEnt s line with
  | none => s
  | some e =>
    if e.st = 3 then
      match e.ptrs.find? (fun x => epState s x == 2) with
      | none => s
      | some x => sweepCount (poisonHeld s line) x 1 0
    else if e.st = 1 then
      (e.ptrs.filter (fun x => epState s x == 2)).foldl (fun s x =>
        match dirEnt s line with
        | none => s
        | some e => sweepCount (setEnt s line (some { e with ptrs := e.ptrs.filter (fun y => y != x) })) x 0 1) s
    else s

/-! ### What a request wants of a line -/

/-- What a request needs: 0 nothing, 1 to share, 2 to own, 3 one read, 4 a write (R198). -/
def opWant (op : Nat) : Nat :=
  if op = 0x01 then 1
  else if op = 0x02 ∨ op = 0x03 ∨ op = 0x04 then 2
  else if op = 0x05 ∨ op = 0x11 then 3
  else if op = 0x0A then 0
  else 4

/-- The endpoints that a request of ep must have recalled from a line, each with its BELIEF (R193, R198,
R199): a FAILED endpoint counts as answered NP, and the requester is never recalled. -/
def holdersFor (s : State) (line want : Nat) (ep : Option Nat) : List (Nat × Nat) :=
  match dirEnt s line with
  | none => []
  | some e =>
    let l := if e.st = 2 then (coarseEps s e.coarse).map (fun x => (x, 2))
      else (e.ptrs.filter (fun x => epState s x == 1)).map (fun x => (x, if e.st = 3 then 1 else 0))
    let l := l.filter (fun x => some x.1 != ep)
    if want = 0 then [] else if want = 1 ∨ want = 3 then (if e.st = 3 then l else []) else l

/-- The line is clear for a request: nobody needs to be recalled. -/
def lineClear (s : State) (line want : Nat) (ep : Option Nat) : Bool := (holdersFor s line want ep).isEmpty

/-- A line is busy: an ACTIVE transaction of someone else holds it, or it is a victim (R189, R195). -/
def lineBusy (s : State) (line : Nat) (who : TxnWho) : Bool :=
  s.dirc.txns.any (fun t => t.active && t.who != who && (t.line == line || t.victim == some line))

/-- Whether a request needs a way that the set has not got (R196). -/
def wantsWay (s : State) (line want : Nat) : Bool :=
  (want == 1 || want == 2) && (dirEnt s line).isNone
    && decide (16 ≤ (s.dirc.entries.filter (fun e => dirSlice e.1 == dirSlice line && dirSet e.1 == dirSet line)).length)

/-- The victim (R196): the least recently allocated entry in S or SC that is not busy, else in X.
DEDUCED: assumption 80. -/
def pickVictim (s : State) (line : Nat) (who : TxnWho) : Option Nat :=
  let set := s.dirc.entries.filter (fun e => dirSlice e.1 == dirSlice line && dirSet e.1 == dirSet line
    && !lineBusy s e.1 who && !s.dirc.txns.any (fun t => t.active && t.line == e.1))
  let best := fun (l : Tab DirEntry) => l.foldl (fun (b : Option (Nat × DirEntry)) e => match b with
    | none => some e
    | some x => if e.2.alloc < x.2.alloc then some e else some x) none
  match best (set.filter (fun e => e.2.st != 3)) with
  | some e => some e.1
  | none => (best set).map (fun e => e.1)

/-- Send a recall (R193, R344): RCL_SHARE for a read, RCL_INV otherwise. -/
def sendRecall (s : State) (line ep belief : Nat) (share : Bool) : State :=
  let m := mkMsg s 1 (if share then 0x22 else 0x21) (epCoord s ep)
  let m := { m with akind := 2, addr := BitVec.ofNat 52 (line * 128), xf := BitVec.ofNat 4 belief, arg := BitVec.ofNat 64 (now s) }
  let m := { m with reqid := BitVec.ofNat 24 s.fab.nextReqid }
  sendMsg { s with fab := { s.fab with nextReqid := s.fab.nextReqid + 1 } } m

/-- Send the recalls of a list and remember them. -/
def sendRecalls (s : State) (line : Nat) (share : Bool) : List (Nat × Nat) → State × List Recall
  | [] => (s, [])
  | x :: t =>
    let r : Recall := { ep := x.1, line := line, belief := x.2, sent := now s, data := false, id := s.fab.nextReqid % 2 ^ 24 }
    let (s, rs) := sendRecalls (sendRecall s line x.1 x.2 share) line share t
    (s, r :: rs)

/-- Transactions in use by the slice of a line (R189). -/
def sliceTxns (s : State) (line : Nat) : Nat :=
  (s.dirc.txns.filter (fun t => dirSlice t.line == dirSlice line)).length

/-- Replace the transaction list. -/
def setTxns (s : State) (l : List Txn) : State := { s with dirc := { s.dirc with txns := l } }

/-- A transaction as it enters its slice. -/
def Txn.fresh (line : Nat) (who : TxnWho) (active : Bool) : Txn :=
  { line := line, who := who, active := active, recalls := [], victim := none, served := false
    poisoned := false, push := none, pushAt := 0, pushId := 0 }

/-- Hold a request at the REQ input of its slice (R197). -/
def holdReq (s : State) (line : Nat) (who : TxnWho) : State :=
  { s with dirc := { s.dirc with heldReq := s.dirc.heldReq ++ [(now s, who, line)] } }

/-- Whether a transaction recalls with RCL_SHARE, and for what (R198): its want. -/
def TxnWho.want (w : TxnWho) : Nat :=
  match w with
  | .req _ m _ _ => opWant m.opcode.toNat
  | .agent b => if b then 4 else 3
  | .retire _ => 4

/-- The endpoint that a transaction serves, if it has an index. -/
def TxnWho.ep (s : State) (w : TxnWho) : Option Nat :=
  match w with
  | .req _ m _ _ => epOf s m.src.toNat
  | _ => none

/-- The holders that a transaction must have recalled: a retirement recalls its endpoint alone (R220). -/
def whoHolders (s : State) (line : Nat) (who : TxnWho) : List (Nat × Nat) :=
  match who with
  | .retire x => (holdersFor s line 4 none).filter (fun h => h.1 == x)
  | _ => holdersFor s line who.want (who.ep s)

/-- A transaction becomes ACTIVE (R195, R196): the recalls of its line and, when it needs a way that its set
has not got, of a victim are sent. None when every way is busy. -/
def openTxn (s : State) (line : Nat) (who : TxnWho) : State × Option Txn :=
  let want := who.want
  let t := Txn.fresh line who true
  if wantsWay s line want then
    match pickVictim s line who with
    | none => (s, none)
    | some v =>
      let s := bump64 (purge s v) Reg.DIR_VICTIM_LO 1
      let (s, rs) := sendRecalls s line (want == 1 || want == 3) (whoHolders s line who)
      let (s, vs) := sendRecalls s v false (holdersFor s v 4 none)
      let s := if vs.isEmpty then setEnt s v none else s
      (s, some { t with recalls := rs ++ vs, victim := if vs.isEmpty then none else some v })
  else
    let (s, rs) := sendRecalls s line (want == 1 || want == 3) (whoHolders s line who)
    (s, some { t with recalls := rs })

/-- A victim that no host has to give up makes room at once: its holders have all FAILED (R196, R199, R211). A
request that stands behind another one takes no way. -/
def takeWay (entered : Bool) (s : State) (line : Nat) (who : TxnWho) : State :=
  if !wantsWay s line who.want || lineBusy s line who || decide (512 ≤ sliceTxns s line)
      || (!entered && s.dirc.heldReq.any (fun h => dirSlice h.2.2 == dirSlice line)) then s
  else match pickVictim s line who with
    | none => s
    | some v =>
      let u := purge s v
      if (holdersFor u v 4 none).isEmpty then setEnt (bump64 u Reg.DIR_VICTIM_LO 1) v none else s

/-- Begin a transaction for a line that is not clear (R189, R195 to R197): it waits behind a busy line,
holds its slice's REQ input when there is no slot or no way, or becomes ACTIVE and recalls. -/
def beginTxn (s : State) (line : Nat) (who : TxnWho) : State :=
  if s.dirc.txns.any (fun t => t.line == line && t.who == who && !t.served) then s
  else if s.dirc.heldReq.any (fun h => dirSlice h.2.2 == dirSlice line) || decide (512 ≤ sliceTxns s line) then
    holdReq s line who
  else if s.dirc.txns.any (fun t => t.line == line || (t.active && t.victim == some line)) then
    setTxns s (s.dirc.txns ++ [Txn.fresh line who false])
  else match openTxn s line who with
    | (s, none) => holdReq s line who
    | (s, some t) => setTxns s (s.dirc.txns ++ [t])

/-- The next waiting transaction of a line becomes ACTIVE (R195). -/
def activateNext (s : State) (l : Nat) : State × Option Txn :=
  if s.dirc.txns.any (fun t => t.active && (t.line == l || t.victim == some l)) then (s, none)
  else match s.dirc.txns.find? (fun t => !t.active && t.line == l) with
    | none => (s, none)
    | some t =>
      match openTxn (purge s l) l t.who with
      | (s, none) => (s, none)
      | (s, some u) => (setTxns s (u :: s.dirc.txns.erase t), some u)

/-! ### Answers to recalls -/

/-- A transaction that will put its requester into the entry of a line: what its recalls empty keeps its way
and its age, since only a line in state None allocates an entry (R189, R196, R198). DEDUCED: assumption 172. -/
def Txn.grants (t : Txn) (line : Nat) : Bool :=
  t.line == line && !t.served && (match t.who with
    | .req _ m _ _ => opWant m.opcode.toNat == 1 || opWant m.opcode.toNat == 2
    | _ => false)

/-- The way of a line whose last holder has left under a transaction that will grant it. DEDUCED: assumption 172. -/
def holdWay (s : State) (line alloc : Nat) : State :=
  { s with dirc := { s.dirc with entries := tset s.dirc.entries line { st := 1, ptrs := [], coarse := 0, alloc := alloc } } }

/-- Free the entry of a line that no one holds (R186). -/
def freeEmpty (s : State) (line : Nat) : State :=
  match dirEnt s line with
  | none => s
  | some e => if e.st ≠ 2 ∧ e.ptrs = [] then setEnt s line none else s

/-- The holder of a recalled line has answered: it leaves the entry, or stays in S after RCL_SHARE when it
kept the line. hold: the way is kept for the grant. -/
def recallAnswered (s : State) (r : Recall) (kept hold : Bool) : State :=
  match dirEnt s r.line with
  | none => s
  | some e =>
    let left := e.ptrs.filter (fun x => x != r.ep)
    if e.st = 2 then s
    else if kept then setEnt s r.line (some { e with st := 1, ptrs := [r.ep] })
    else if hold && left.isEmpty then holdWay s r.line e.alloc
    else setEnt s r.line (some { e with ptrs := left })

/-- The ACTIVE transaction that waits for an endpoint's answer on a line. -/
def recallTxn (s : State) (line ep : Nat) : Option Txn :=
  s.dirc.txns.find? (fun t => t.active && t.recalls.any (fun r => r.line == line && r.ep == ep))

/-- Take a recall out of its transaction. -/
def dropRecall (t : Txn) (line ep : Nat) : Txn :=
  { t with recalls := t.recalls.filter (fun r => !(r.line == line && r.ep == ep)) }

/-- Replace a transaction in the list. -/
def swapTxn (s : State) (t u : Txn) : State := setTxns s (s.dirc.txns.map (fun x => if x = t then u else x))

/-- Every answer that the requester must wait for is here: a recall whose data has come by WBACK no longer
delays it (R206). -/
def Txn.ready (t : Txn) : Bool := t.recalls.all (fun r => r.data)

/-- The last recall of coarse holders is answered: the entry of a line in SC is freed, or its way kept for the
grant, unless the request only shares (R198). -/
def settleCoarse (s : State) (t : Txn) : State :=
  let one := fun (s : State) (line : Nat) => match dirEnt s line with
    | some e => if e.st = 2 then (if t.grants line then holdWay s line e.alloc else setEnt s line none) else s
    | none => s
  let s := match t.victim with
    | some v => one s v
    | none => s
  let all := match t.who with
    | .retire _ => false
    | w => w.want == 2 || w.want == 4
  if all then one s t.line else s

/-- A line of the module's own agents (R207): clear for a read or a write, or a transaction begins and the
agent waits. -/
def agentLine (s : State) (line : Nat) (write : Bool) : Bool × State :=
  if !coherentLine s line then (true, s)
  else
    let s := purge s line
    let who := TxnWho.agent write
    let want := who.want
    if lineClear s line want none && !s.dirc.txns.any (fun t => t.line == line || t.victim == some line) then
      (true, if write then setEnt s line none else s)
    else (false, beginTxn s line who)

/-- The same for every line of a range: all clear, or the agent waits. -/
def agentRange (s : State) (a len : Nat) (write : Bool) : Bool × State :=
  if len = 0 then (true, s)
  else if !(extRec s (extOf a)).coherent && !(extRec s (extOf (a + len - 1))).coherent then (true, s)
  else (linesOf a len).foldl (fun (p : Bool × State) l =>
    let (ok, s) := agentLine p.2 l write
    (p.1 && ok, s)) (true, s)

/-! ### Failed endpoints -/

/-- A recall to an endpoint is treated as timed out (R209): a line held in X whose data has not come is
poisoned; anything else counts as answered NP. DEDUCED: assumption 76. -/
def recallTimedOut (s : State) (t : Txn) (r : Recall) : State :=
  let x := r.belief = 1 ∧ !r.data
  let u := dropRecall t r.line r.ep
  let u := if x ∧ r.line = t.line then { u with poisoned := true } else u
  let s := bump (swapTxn s t u) Reg.DIR_RCLTO 1
  if x then sweepCount (poisonHeld s r.line) r.ep 1 0 else recallAnswered s r false (t.grants r.line)

/-- An endpoint enters FAILED (R210): every outstanding recall to it is treated as timed out and the sweep
starts. cause: 0 recall timeout, 1 manager. -/
def failEndpoint (s : State) (x cause : Nat) : State :=
  if epState s x ≠ 1 then s
  else
    let s := setEp s x (epCoord s x) 2
    let s := match s.dirc.sweep with
      | none => { s with dirc := { s.dirc with sweep := some (x, cause, 0, 0), sweepAt := now s } }
      | some _ => { s with dirc := { s.dirc with sweepNext := s.dirc.sweepNext ++ [(x, cause, 0, 0)] } }
    let todo := s.dirc.txns.flatMap (fun t => (t.recalls.filter (fun r => r.ep == x)).map (fun r => (t.line, r)))
    todo.foldl (fun s p =>
      match s.dirc.txns.find? (fun t => t.active && t.line == p.1 && t.recalls.contains p.2) with
      | none => s
      | some t => recallTimedOut s t p.2) s

end Sys2Proof.Machine
end

