-- ==== Sys2Proof/Machine/Link.lean ====
section
/-!
DEFINITION. The link layer of the fabric ports: light, training, flits, sequence and replay, retrain and
width change, link down and fence (R316 to R341).
-/

namespace Sys2Proof.Machine

/-! ### Widths -/

/-- Wavelengths of a width code (R324). -/
def widthOf (code : Nat) : Nat := if code = 0 then 16 else if code = 1 then 12 else if code = 2 then 8 else 4

/-- The widest width code that n wavelengths in lock allow, 4 when fewer than four work (R333). -/
def widestCode (n : Nat) : Nat :=
  if 16 ≤ n then 0 else if 12 ≤ n then 1 else if 8 ≤ n then 2 else if 4 ≤ n then 3 else 4

/-- FPT_CTL.WIDTH_MIN of a port. -/
def widthMin (s : State) (k : Nat) : Nat := rf s (Reg.FPT_CTL k) 3 2

/-- The narrower of two width codes. -/
def narrower (a b : Nat) : Nat := max a b

/-- The width code a port can run at now: by its lock mask, no wider than a limit. DEDUCED: assumption 110. -/
def lockWidth (p : Port) (limit : Nat) : Nat :=
  let w := widestCode (popcount 16 p.lock)
  if limit ≤ 3 then narrower w limit else w

/-! ### Flits -/

/-- The pools in the turn in which CRPOOL takes them (R339). -/
def poolTurn : List Nat := [0, 1, 2, 4, 5, 6, 8, 9, 10]

/-- The link header of a flit (R321). -/
def flitHeader (p : Port) (ftype cont start pool : Nat) : Nat :=
  ftype + 2 ^ 4 * cont + 2 ^ 5 * start + 2 ^ 20 * (p.rxCount % 4096) + 2 ^ 32 * pool
    + 2 ^ 36 * (tgetD p.freed pool 0 % 4096)

/-- A flit: header, 240 B of payload and CRC (R321, R322). -/
def mkFlit (p : Port) (ftype cont start : Nat) (payload : List Byte) : List Byte :=
  let body := leBytes 8 (flitHeader p ftype cont start ((poolTurn[p.crTurn % 9]?).getD 0)) ++ slice payload 0 240
  body ++ leBytes 8 (crc64 body)

/-- Whether a flit is 256 B with a good CRC (R322). -/
def crcGood (f : List Byte) : Bool := f.length == 256 && crc64 (f.take 248) == leAt f 248 8

/-- Send one flit from a port; the next flit carries the next pool's credits. -/
def emitFlit (s : State) (k ftype cont start : Nat) (payload : List Byte) : State :=
  let p := port s k
  emit (setPort s k { p with crTurn := (p.crTurn + 1) % 9 }) (.flit k (mkFlit p ftype cont start payload))

/-- Send one CTRL flit (R323, R324): the subtype and the payload after it. -/
def emitCtrl (s : State) (k subtype : Nat) (rest : List Byte) : State :=
  emitFlit s k 2 0 0 (BitVec.ofNat 8 subtype :: rest)

/-- Send a stored DATA flit again, with the header's counts of now. -/
def resend (k : Nat) (s : State) (f : List Byte) : State :=
  let w := leAt f 0 8
  emitFlit s k 1 (bits w 4 4) (bits w 19 5) (slice f 8 240)

/-- ACK_TO of a port in ns (R362). -/
def ackTo (s : State) (k : Nat) : Nat := rf s (Reg.FPT_TIMERS k) 7 0 * 100

/-! ### Operations: retrain and width change -/

/-- The width field of a request: 0xFF for no limit (R324). -/
def reqWidth (w : Nat) : Nat := if w ≤ 3 then w else 0xFF

/-- A width field read from a request. -/
def widthField (b : Nat) : Nat := if b ≤ 3 then b else 4

/-- Start an operation at this end (R330, R334, R335): the request leaves, the port stops starting
messages, and the operation has RETRAIN_MAX to end. In RETRAIN or WIDTH the trigger is folded into what
runs, a retrain trigger turning a width change into a retrain. Elsewhere it is ignored. DEDUCED: assumption 109. -/
def startOp (s : State) (k : Nat) (op : LinkOp) (reason : Nat) : State :=
  let p := port s k
  let due := now s + rf s (Reg.FPT_TIMERS k) 25 18 * 1000
  if p.st = .up then
    let st := if op.retrain then LinkState.retrain else LinkState.width
    let s := setPort s k { p with st := st, ask := some (op, reason), oper := some op, operDue := due }
    let s := bump s (if op.retrain then Reg.FPT_RETRAINS k else Reg.FPT_WIDTHCHG k) 1
    if op.retrain then emitCtrl s k 0x06 [BitVec.ofNat 8 (reqWidth op.width), BitVec.ofNat 8 reason]
    else emitCtrl s k 0x08 ([BitVec.ofNat 8 op.width] ++ leBytes 2 p.lock ++ [BitVec.ofNat 8 reason])
  else if p.st = .retrain ∨ p.st = .width then
    let cur := p.oper.getD op
    let m : LinkOp := { retrain := cur.retrain || op.retrain, width := foldWidth cur.width op.width }
    let st := if m.retrain then LinkState.retrain else LinkState.width
    let s := setPort s k { p with st := st, oper := some m }
    if m.retrain && !cur.retrain then bump s (Reg.FPT_RETRAINS k) 1 else s
  else s
where
  /-- The narrower of two limits, where 4 sets no limit. -/
  foldWidth (a b : Nat) : Nat := if a = 4 then b else if b = 4 then a else narrower a b

/-- Merge this end's request with the peer's (R335). -/
def mergeOps (a b : LinkOp) : LinkOp :=
  { retrain := a.retrain || b.retrain, width := startOp.foldWidth a.width b.width }

/-- Whether this end leads (R335): the lower coordinate, or with both unassigned the lower nonce. -/
def leads (s : State) (k : Nat) (p : Port) : Bool :=
  if s.fab.coord.isNone && peerUnassigned p then decide (p.nonce < leAt p.ident 32 4)
  else decide (portCoord s k < peerCoord p)

/-- A request of the peer arrives (R335). With no request of its own the port follows. With one, the
lower coordinate leads: the leader merges and waits for the acknowledgement, the follower withdraws its
request and folds it into the acknowledgement. -/
def peerRequest (s : State) (k : Nat) (theirs : LinkOp) : State :=
  let p := port s k
  if p.st = .up ∨ p.st = .retrain ∨ p.st = .width then
    let due := now s + rf s (Reg.FPT_TIMERS k) 25 18 * 1000
    let lead := leads s k p
    let merged := match p.oper with
      | some o => mergeOps o theirs
      | none => theirs
    let st := if merged.retrain then LinkState.retrain else LinkState.width
    let fresh := p.oper.isNone
    let ask := p.ask
    let p' := { p with st := st, oper := some merged, operDue := if fresh then due else p.operDue }
    let p' := { p' with ask := if ask.isSome && !lead then none else ask, lead := ask.isSome && lead }
    let s := setPort s k p'
    let s := if fresh then bump s (if merged.retrain then Reg.FPT_RETRAINS k else Reg.FPT_WIDTHCHG k) 1 else s
    if ask.isSome && lead then s
    else
      let own : Nat := match ask with
        | some (o, _) => if o.retrain then 1 else 2
        | none => 0
      let w : Nat := match ask with
        | some (o, _) => reqWidth o.width
        | none => 0xFF
      if theirs.retrain then emitCtrl s k 0x07 [BitVec.ofNat 8 w, BitVec.ofNat 8 own]
      else emitCtrl s k 0x09 ([BitVec.ofNat 8 w] ++ leBytes 2 p.lock ++ [BitVec.ofNat 8 own])
  else s

/-- The follower's acknowledgement arrives at the end that asked: its own request is folded in (R335). -/
def peerAck (s : State) (k width own : Nat) : State :=
  let p := port s k
  match p.ask, p.oper with
  | some _, some o =>
    let m := if own = 0 then o else mergeOps o { retrain := own == 1, width := widthField width }
    let st := if m.retrain then LinkState.retrain else LinkState.width
    setPort s k { p with st := st, oper := some m, lead := true }
  | _, _ => s

/-- Send REPLAY_START and every unacknowledged flit in its original order (R328, R334). -/
def replayFrom (s : State) (k : Nat) : State :=
  let p := port s k
  let s := emitCtrl s k 0x05 ([0, 0, 0] ++ leBytes 4 p.acked)
  p.retry.foldl (resend k) s

/-- The link is down (R336): the retry buffer is discarded, counts and credits reset, the port leaves
every route, LINK_DOWN is reported, and training starts again when light returns. Messages in the pools
stay. -/
def linkDown (s : State) (k : Nat) : State :=
  let p := port s k
  let q :=
    { Port.init with rx := p.rx, txq := p.txq, lock := p.lock, ident := p.ident, rttNs := p.rttNs
                     nonce := p.nonce, draining := p.draining }
  let s := bump (setPort s k q) (Reg.FPT_LINKDOWNS k) 1
  report s 0x11 0x01 k k 0 none none

/-- An operation ends (R333, R334): the port returns to UP at the width its locked wavelengths and the
merged limit allow, or goes DOWN when that falls below WIDTH_MIN; each end replays from its oldest
unacknowledged flit. -/
def operDone (s : State) (k : Nat) : State :=
  let p := port s k
  let limit := match p.oper with
    | some o => o.width
    | none => 4
  let w := lockWidth p limit
  if widthMin s k < w then linkDown s k
  else
    let p := { p with st := .up, width := w, ask := none, oper := none, discarding := true }
    let p := { p with ackDue := if p.retry.isEmpty then none else some (now s + ackTo s k) }
    let s := replayFrom (setPort s k p) k
    finishAll s (fun w => w == .portRetrain k) stOK []

/-! ### Receiving -/

/-- Use the ACK, CRPOOL and CRCNT of a flit with a good CRC (R327, R339, R347). -/
def useHeader (s : State) (k : Nat) (f : List Byte) : State :=
  let w := leAt f 0 8
  let p := port s k
  let n := min ((bits w 31 20 + 4096 - p.acked % 4096) % 4096) p.retry.length
  let p := if n = 0 then p else
    let rest := p.retry.drop n
    { p with acked := (p.acked + n) % 2 ^ 32, retry := rest, replays := 0
             ackDue := if rest.isEmpty then none else some (now s + ackTo s k) }
  let pool := bits w 35 32
  if pool ∈ poolTurn then
    let old := tgetD p.peerFreed pool 0
    setPort s k { p with peerFreed := tset p.peerFreed pool (old + (bits w 47 36 + 4096 - old % 4096) % 4096) }
  else bump (setPort s k p) (Reg.FPT_MALFORMED k) 1

/-- One slot of a DATA flit: bytes of the message so far, and the messages completed. -/
def eatSlot (f : List Byte) (start : Nat) (acc : List Byte × List Msg) (i : Nat) : List Byte × List Msg :=
  let b := slice f (8 + 16 * i) 16
  let part := if bit start i then b else if acc.1.isEmpty then [] else acc.1 ++ b
  if 32 ≤ part.length ∧ part.length = 16 * (2 + bits (leAt part 0 8) 16 12) then
    ([], acc.2 ++ [msgOfBytes part])
  else (part, acc.2)

/-- Place the messages of an accepted flit in their pools (R338). Before COORD_SET every one is discarded
and its slots are free again (R332). -/
def placeMsg (k : Nat) (s : State) (m : Msg) : State :=
  let p := port s k
  let pool := poolCode m (isOwn s m.dst.toNat)
  if s.fab.coord.isNone then
    setPort s k { p with freed := tset p.freed pool (tgetD p.freed pool 0 + msgSlots m) }
  else setPort s k { p with rx := p.rx ++ [(pool, m)] }

/-- Accept the next DATA flit in sequence (R327). -/
def acceptData (s : State) (k : Nat) (f : List Byte) : State :=
  let p := port s k
  let w := leAt f 0 8
  let part := if bit w 4 then p.rxPart else []
  let r := (List.range 15).foldl (eatSlot f (bits w 19 5)) (part, [])
  let p :=
    { p with rxCount := (p.rxCount + 1) % 2 ^ 32, rxNext := (p.rxNext + 1) % 2 ^ 32, rxPart := r.1 }
  r.2.foldl (placeMsg k) (bump64 (setPort s k p) (Reg.FPT_RXFLITS_LO k) 1)

/-- Whether a port listens to flits: not in DOWN or DISABLED, nor in the fatal safe state (R330, R479). -/
def listens (s : State) (k : Nat) : Bool :=
  let st := (port s k).st
  rf s Reg.PLN_SAFE 0 0 == 0 && decide (k < 32) && st != .down && st != .disabled

/-- Count a flit with a bad CRC and discard DATA until REPLAY_START (R327, R362). -/
def badCrc (s : State) (k : Nat) : State :=
  let p := port s k
  bump (setPort s k { p with discarding := true }) (Reg.FPT_CRCERR k) 1

/-- DATA_FLIT_RECEIVE (R325, R327, R328): a flit with a bad CRC is handled as one; a good one's header is
used; it is accepted if it is the next in the receive count, and discarded while a REPLAY_START is
awaited or when its count lies below. -/
def execDataFlitReceive (port_ : Nat) (flit : List Byte) (s : State) : Host.Outcome State Fault Refusal :=
  if !listens s port_ then .next s
  else if !crcGood flit then .next (badCrc s port_)
  else
    let s := useHeader s port_ flit
    let p := port s port_
    if p.st = .training ∨ p.st = .fenced ∨ p.discarding = true then .next s
    else if p.rxNext = p.rxCount then .next (acceptData s port_ flit)
    else .next (setPort s port_ { p with rxNext := (p.rxNext + 1) % 2 ^ 32 })

/-- BAD_CRC_FLIT (R327): nothing of the flit is used. A flit whose CRC is good after all is no such
event. -/
def execBadCrcFlit (port_ : Nat) (flit : List Byte) (s : State) : Host.Outcome State Fault Refusal :=
  if !listens s port_ ∨ crcGood flit = true then .next s else .next (badCrc s port_)

/-- IDLE_FLIT_RECEIVE (R323, R347): its header is used; a reserved FTYPE is handled as IDLE and counted. -/
def execIdleFlitReceive (port_ : Nat) (flit : List Byte) (s : State) : Host.Outcome State Fault Refusal :=
  if !listens s port_ then .next s
  else if !crcGood flit then .next (badCrc s port_)
  else
    let s := useHeader s port_ flit
    if 3 < bits (leAt flit 0 8) 3 0 then .next (bump s (Reg.FPT_MALFORMED port_) 1) else .next s

/-- FENCE_FLIT_RECEIVE (R330, R337): TRAINING, UP, RETRAIN and WIDTH enter FENCED at once, and the fence is
reported. -/
def execFenceFlitReceive (port_ : Nat) (flit : List Byte) (s : State) : Host.Outcome State Fault Refusal :=
  if !listens s port_ then .next s
  else if !crcGood flit then .next (badCrc s port_)
  else
    let s := bump (useHeader s port_ flit) (Reg.FPT_FENCERX port_) 1
    let p := port s port_
    let s := setPort s port_ { p with st := .fenced, ask := none, oper := none, trainDue := none, ackDue := none }
    .next (report s 0x12 0x01 port_ port_ 0 none none)

/-- The body shared by the CTRL flits: a flit with a bad CRC is counted; a good one's header is used, and
its payload reaches its handler when the subtype is the command's own. An unknown subtype is ignored
apart from the header, and counted (R323, R347). -/
def ctrlFlit (k : Nat) (f : List Byte) (subtype : Nat) (s : State) (h : State → List Byte → State) : State :=
  if !listens s k then s
  else if !crcGood f then badCrc s k
  else
    let s := useHeader s k f
    let pl := slice f 8 240
    if leAt pl 0 1 = subtype then h s pl
    else if 0x0C < leAt pl 0 1 ∨ leAt pl 0 1 = 0 then bump s (Reg.FPT_MALFORMED k) 1
    else s

/-- The payload of this end's IDENT after the subtype (R324, R332). -/
def identPayload (s : State) (k : Nat) : List Byte :=
  let p := port s k
  let unassigned := b2n s.fab.coord.isNone
  [0, 0, 0] ++ padTo 16 (ascii "LGN-HC2880 B1") ++ [BitVec.ofNat 8 k, 0, 0, 0]
    ++ leBytes 4 (portCoord s k + 2 ^ 31 * unassigned) ++ leBytes 4 (widthMin s k) ++ leBytes 4 p.nonce

/-- TS (R324, R331): the peer's proposal bounds the width, and this end answers with its IDENT.
DEDUCED: assumption 108. -/
def execTs (port_ : Nat) (flit : List Byte) (s : State) : Host.Outcome State Fault Refusal :=
  .next (ctrlFlit port_ flit 0x01 s (fun s pl =>
    let p := port s port_
    if p.st = .training then
      let w := narrower (lockWidth p 4) (widthField (leAt pl 1 1))
      emitCtrl (setPort s port_ { p with width := min w 3 }) port_ 0x02 (identPayload s port_)
    else s))

/-- IDENT (R324, R332): the peer's part, port, coordinate, WIDTH_MIN and nonce are kept; in training the
round trip is probed next (R331). DEDUCED: assumption 108. -/
def execIdent (port_ : Nat) (flit : List Byte) (s : State) : Host.Outcome State Fault Refusal :=
  .next (ctrlFlit port_ flit 0x02 s (fun s pl =>
    let p := port s port_
    let s := setPort s port_ { p with ident := slice pl 0 36 }
    if p.st = .training then emitCtrl s port_ 0x0A ([0, 0, 0, 0, 0, 0, 0] ++ leBytes 8 (localNow s (8 + port_))) else s))

/-- IDENT_REQ (R332): the module answers with its IDENT, before and after COORD_SET. -/
def execIdentReq (port_ : Nat) (flit : List Byte) (s : State) : Host.Outcome State Fault Refusal :=
  .next (ctrlFlit port_ flit 0x03 s (fun s _ => emitCtrl s port_ 0x02 (identPayload s port_)))

/-- CREDIT_INIT (R324, R331, R339): the peer's pool sizes become this end's credits. -/
def execCreditInit (port_ : Nat) (flit : List Byte) (s : State) : Host.Outcome State Fault Refusal :=
  .next (ctrlFlit port_ flit 0x04 s (fun s pl =>
    let p := port s port_
    setPort s port_ { p with peerSize := poolTurn.map (fun c => (c, leAt pl (16 + 2 * c) 2)) }))

/-- REPLAY_START (R327, R328): DATA is accepted again from the given count. -/
def execReplayStart (port_ : Nat) (flit : List Byte) (s : State) : Host.Outcome State Fault Refusal :=
  .next (ctrlFlit port_ flit 0x05 s (fun s pl =>
    let p := port s port_
    setPort s port_ { p with discarding := false, rxNext := leAt pl 4 4 }))

/-- RETRAIN_REQ (R335). -/
def execRetrainReq (port_ : Nat) (flit : List Byte) (s : State) : Host.Outcome State Fault Refusal :=
  .next (ctrlFlit port_ flit 0x06 s (fun s pl =>
    peerRequest s port_ { retrain := true, width := widthField (leAt pl 1 1) }))

/-- RETRAIN_ACK (R335). -/
def execRetrainAck (port_ : Nat) (flit : List Byte) (s : State) : Host.Outcome State Fault Refusal :=
  .next (ctrlFlit port_ flit 0x07 s (fun s pl => peerAck s port_ (leAt pl 1 1) (leAt pl 2 1)))

/-- WIDTH_REQ (R335): its LOCKMASK also bounds the wavelengths in use. -/
def execWidthReq (port_ : Nat) (flit : List Byte) (s : State) : Host.Outcome State Fault Refusal :=
  .next (ctrlFlit port_ flit 0x08 s (fun s pl =>
    peerRequest s port_ { retrain := false, width := widthField (leAt pl 1 1) }))

/-- WIDTH_ACK (R335). -/
def execWidthAck (port_ : Nat) (flit : List Byte) (s : State) : Host.Outcome State Fault Refusal :=
  .next (ctrlFlit port_ flit 0x09 s (fun s pl => peerAck s port_ (leAt pl 1 1) (leAt pl 4 1)))

/-- RTT_PROBE (R324): echoed with the turnaround time, which is 0 ns here because a command is answered
in the instant in which it arrives. DEDUCED: assumption 117. -/
def execRttProbe (port_ : Nat) (flit : List Byte) (s : State) : Host.Outcome State Fault Refusal :=
  .next (ctrlFlit port_ flit 0x0A s (fun s pl =>
    emitCtrl s port_ 0x0B ([0, 0, 0, 0, 0, 0, 0] ++ slice pl 8 8 ++ leBytes 8 0)))

/-- RTT_ECHO (R324): the round trip is the time base now, less the probe value, less TURN. In training the
pool sizes follow (R331). -/
def execRttEcho (port_ : Nat) (flit : List Byte) (s : State) : Host.Outcome State Fault Refusal :=
  .next (ctrlFlit port_ flit 0x0B s (fun s pl =>
    let p := port s port_
    let s := setPort s port_ { p with rttNs := localNow s (8 + port_) - leAt pl 8 8 - leAt pl 16 8 }
    if p.st = .training then emitCtrl s port_ 0x04 creditPayload else s))
where
  /-- The payload of CREDIT_INIT after the subtype: the pool sizes of R338. -/
  creditPayload : List Byte :=
    padTo 15 [] ++ (List.range 16).flatMap (fun c =>
      leBytes 2 (if c = 0 ∨ c = 2 then 8192 else if c ∈ poolTurn then 2048 else 0))

/-! ### Light and training -/

/-- Training begins (R331, R332): a nonce is drawn and TS sent; the messages in the pools and those that wait stay.
DESIGN CHOICE: assumption 165. -/
def startTraining (s : State) (k : Nat) : State :=
  let p := port s k
  let (n, s) := free32 s
  let q :=
    { Port.init with st := .training, rx := p.rx, txq := p.txq, lock := p.lock, nonce := n.toNat
                     tsSent := 1, trainDue := some (now s + 500000), draining := p.draining }
  emitCtrl (setPort s k q) k 0x01
    ([BitVec.ofNat 8 (min (lockWidth p 4) 3)] ++ leBytes 2 p.lock ++ leBytes 4 1
      ++ List.replicate 8 0#8 ++ List.replicate 224 0x4A#8)

/-- PORT_LIGHT_DETECT (R330, R331): a DOWN or FENCED port that its MODE does not disable enters TRAINING; before POWER_UP has
brought up the rails there are no optics, and after a halted start-up the module answers on no port (R556). -/
def execPortLightDetect (port_ : Nat) (s : State) : Host.Outcome State Fault Refusal :=
  let p := port s port_
  if 32 ≤ port_ ∨ portMode s port_ = 0 ∨ rf s Reg.PLN_SAFE 0 0 = 1 ∨ rf s Reg.PWR_STAT 3 3 = 0 ∨ rf s Reg.PLN_BOOT 3 0 = 8 then .next s
  else if p.st = .down ∨ p.st = .fenced then .next (startTraining s port_)
  else .next s

/-- PORT_TRAINING_DONE (R331, R333): counts start at 0 and the port enters UP, or training fails when the
width would fall below WIDTH_MIN. A deferred PORT_RETRAIN ends with the port UP (R361). -/
def execPortTrainingDone (port_ : Nat) (s : State) : Host.Outcome State Fault Refusal :=
  let p := port s port_
  if p.st = .training then
    if widthMin s port_ < narrower (lockWidth p 4) p.width then
      .next (setPort s port_ { p with st := .down, trainDue := none, retrainAt := some (now s + 1000000) })
    else
      let q :=
        { p with st := .up, width := narrower (lockWidth p 4) p.width, txCount := 0, rxCount := 0, acked := 0
                 rxNext := 0, retry := [], discarding := false, replays := 0, ackDue := none, trainDue := none
                 retrainAt := none, used := [], peerFreed := [], freed := [], rxPart := [], txPart := [] }
      .next (finishAll (setPort s port_ q) (fun w => w == .portRetrain port_) stOK [])
  else .next s

/-- PORT_TRAINING_TIMEOUT (R331): 500 µs pass without UP. -/
def execPortTrainingTimeout (port_ : Nat) (s : State) : Host.Outcome State Fault Refusal :=
  let p := port s port_
  match p.st, p.trainDue with
  | .training, some t =>
    let s := reach s t
    .next (setPort s port_ { p with st := .down, trainDue := none, retrainAt := some (now s + 1000000) })
  | _, _ => .next s

/-- TRAINING_RETRY_TIMER (R330): 1 ms after a failed training the port trains again. -/
def execTrainingRetryTimer (port_ : Nat) (s : State) : Host.Outcome State Fault Refusal :=
  let p := port s port_
  match p.st, (if rf s Reg.PLN_SAFE 0 0 = 1 then none else p.retrainAt) with
  | .down, some t =>
    .next (startTraining (reach s t) port_)
  | _, _ => .next s

/-! ### Timers and triggers -/

/-- ACK_TIMER_EXPIRE (R328, R329): ACK_TO passes with flits unacknowledged: REPLAY_START and every
unacknowledged flit are sent, the replay is counted, and the 16th in a row starts a retrain. -/
def execAckTimerExpire (port_ : Nat) (s : State) : Host.Outcome State Fault Refusal :=
  let p := port s port_
  match p.st, p.ackDue with
  | .up, some t =>
    let s := reach s t
    let n := p.replays + 1
    let s := setPort s port_ { p with replays := if 16 ≤ n then 0 else n, ackDue := some (now s + ackTo s port_) }
    let s := replayFrom (bump s (Reg.FPT_REPLAYS port_) 1) port_
    .next (if 16 ≤ n then startOp s port_ { retrain := true, width := 4 } 2 else s)
  | _, _ => .next s

/-- LOCK_LOSS_TIMEOUT (R330, R336): symbol lock has been lost for LINKDOWN_T. In RETRAIN the timer is
suspended. -/
def execLockLossTimeout (port_ : Nat) (s : State) : Host.Outcome State Fault Refusal :=
  let p := port s port_
  match p.lockLost with
  | none => .next s
  | some t =>
    if p.st = .training ∨ p.st = .up ∨ p.st = .width then
      .next (linkDown (reach s (t + rf s (Reg.FPT_TIMERS port_) 17 8 * 1000)) port_)
    else .next s

/-- RETRAIN_DONE (R334). -/
def execRetrainDone (port_ : Nat) (s : State) : Host.Outcome State Fault Refusal :=
  if (port s port_).st = .retrain then .next (operDone s port_) else .next s

/-- WIDTH_CHANGE_DONE (R334). -/
def execWidthChangeDone (port_ : Nat) (s : State) : Host.Outcome State Fault Refusal :=
  if (port s port_).st = .width then .next (operDone s port_) else .next s

/-- RETRAIN_MAX_EXPIRE (R330). -/
def execRetrainMaxExpire (port_ : Nat) (s : State) : Host.Outcome State Fault Refusal :=
  let p := port s port_
  if p.st = .retrain ∨ p.st = .width then .next (linkDown (reach s p.operDue) port_) else .next s

/-- FEC_RETRAIN_TRIGGER (R334): corrected symbols or uncorrectable codewords trigger a retrain. -/
def execFecRetrainTrigger (port_ corrected uncorrectable : Nat) (s : State) : Host.Outcome State Fault Refusal :=
  let s := bump (bump64 s (Reg.FPT_FECCORR_LO port_) corrected) (Reg.FPT_FECUNC port_) uncorrectable
  if 4 ≤ uncorrectable then .next (startOp s port_ { retrain := true, width := 4 } 1)
  else if rf s (Reg.FPT_CTL port_) 31 16 < corrected then .next (startOp s port_ { retrain := true, width := 4 } 0)
  else .next s

/-- WAVELENGTH_LOCK_LOSS (R330, R334): one wavelength loses lock and a width change drops it; when none is
left in lock, symbol lock of the link is lost and LINKDOWN_T runs. DEDUCED: assumption 110. -/
def execWavelengthLockLoss (port_ wavelength : Nat) (s : State) : Host.Outcome State Fault Refusal :=
  let p := port s port_
  if 16 ≤ wavelength then .next s
  else
    let l := setBit p.lock wavelength false
    let lost := if l = 0 ∧ p.lockLost.isNone then some (now s) else p.lockLost
    let s := setPort s port_ { p with lock := l, lockLost := lost }
    if l = 0 then .next s
    else .next (startOp s port_ { retrain := false, width := min (widestCode (popcount 16 l)) 3 } 0)

/-- SYMBOL_LOCK_REGAINED (R330, R334): lock of one wavelength, or of the whole link, is back: a loss
shorter than LINKDOWN_T changed no state, and a relocked wavelength that allows a wider link is added by
a width change. -/
def execSymbolLockRegained (port_ : Nat) (wavelength : Option Nat) (s : State) :
    Host.Outcome State Fault Refusal :=
  let p := port s port_
  let l := match wavelength with
    | none => 0xFFFF
    | some j => if 16 ≤ j then p.lock else setBit p.lock j true
  let s := setPort s port_ { p with lock := l, lockLost := none }
  if p.st = .up ∧ widestCode (popcount 16 l) < p.width ∧ wavelength.isSome then
    .next (startOp s port_ { retrain := false, width := min (widestCode (popcount 16 l)) 3 } 3)
  else .next s

/-! ### Laser input -/

/-- Power of a wavelength in units of 0.01 dBm, as its register holds it. -/
def laserPower (s : State) (b j : Nat) : Int := sext 16 (rg s (Reg.FPT_LASER b j))

/-- LASER_MEASURE (R318): the block's inputs are measured; below 13.0 dBm LASER_LOW is reported. Powers
are given in units of 0.01 dBm. -/
def execLaserMeasure (block : Nat) (powers : List Int) (s : State) : Host.Outcome State Fault Refusal :=
  if 4 ≤ block then .next s
  else
    let s := (List.range 16).foldl (fun (s : State) (j : Nat) => match powers[j]? with
      | none => s
      | some v => rput s (Reg.FPT_LASER block j) (toField 16 v)) s
    let low := (List.range 16).filter (fun (j : Nat) => match powers[j]? with
      | none => false
      | some v => decide (v < 1300))
    if low.isEmpty then .next s
    else .next (report s 0x10 0x0C block block (low.foldl (fun a j => a + 2 ^ j) 0) none none)

/-- Remove one wavelength at a port that is UP, by a width change, or take the port DOWN when its width
would fall below WIDTH_MIN (R318). -/
def removeWavelength (j : Nat) (s : State) (k : Nat) : State :=
  let p := port s k
  let l := setBit p.lock j false
  let s := setPort s k { p with lock := l }
  if p.st = .up then
    let w := widestCode (popcount 16 l)
    if widthMin s k < w then linkDown s k
    else startOp s k { retrain := false, width := w } 1
  else s

/-- LASER_REMOVE_TIMEOUT (R318): a wavelength has been below 10.0 dBm for 10 µs. -/
def execLaserRemoveTimeout (block wavelength : Nat) (s : State) : Host.Outcome State Fault Refusal :=
  if 4 ≤ block ∨ 16 ≤ wavelength ∨ 1000 ≤ laserPower s block wavelength then .next s
  else .next ((List.range 8).foldl (fun s i => removeWavelength wavelength s (8 * block + i)) s)

/-! ### Transmitting -/

/-- What a port would send next in one VC: the first waiting message of the VC whose pool has credits for
every slot (R339). -/
def nextInVc (p : Port) (vc : Nat) : Option (Nat × Msg) :=
  p.txq.find? (fun e => msgLane e.2 == vc && decide (msgSlots e.2 ≤ credits p e.1))

/-- The weights of R340, in the order RSP, SNP, REQ. DEDUCED: assumption 111. -/
def vcWeights : List (Nat × Nat) := [(2, 8), (1, 4), (0, 4)]

/-- The VC the transmitter chooses at a message boundary: among those with a message and credits, one with
share left; when none has, the shares begin anew (R340). DEDUCED: assumption 111. -/
def pickVc (p : Port) : Option (Nat × Tab Nat) :=
  let ready := vcWeights.filter (fun v => (nextInVc p v.1).isSome)
  match ready.find? (fun v => decide (0 < tgetD p.wrr v.1 v.2)) with
  | some v => some (v.1, tset p.wrr v.1 (tgetD p.wrr v.1 v.2 - 1))
  | none => match ready.head? with
    | none => none
    | some v => some (v.1, [(v.1, v.2 - 1)])

/-- Fill up to n slots of a flit: the payload so far, the START mask and the port. A message once started
runs on to its end (R340). -/
def fillSlots : Nat → Nat → Port → List Byte → Nat → Port × List Byte × Nat
  | 0, _, p, pay, st => (p, pay, st)
  | n + 1, i, p, pay, st =>
    if p.txPart.isEmpty then
      match pickVc p with
      | none => (p, pay, st)
      | some (vc, wrr) => match nextInVc p vc with
        | none => (p, pay, st)
        | some e =>
          let b := msgBytes e.2
          let p :=
            { p with txq := p.txq.erase e, wrr := wrr, txPart := b.drop 16
                     used := tset p.used e.1 (tgetD p.used e.1 0 + msgSlots e.2) }
          fillSlots n (i + 1) p (pay ++ b.take 16) (st + 2 ^ i)
    else fillSlots n (i + 1) { p with txPart := p.txPart.drop 16 } (pay ++ p.txPart.take 16) st

/-- FLIT_TRANSMIT (R326, R332, R339, R340): a port that is UP sends one DATA flit with as many messages as
fit and have credits, or an IDLE flit when nothing may go, when the retry buffer is full, or while an
operation or a drain holds new messages. VCs that wait for credits count a stalled cycle. DEDUCED: assumption 109. -/
def execFlitTransmit (port_ : Nat) (s : State) : Host.Outcome State Fault Refusal :=
  let p := port s port_
  if p.st ≠ .up ∨ rf s Reg.PLN_SAFE 0 0 = 1 then .next s
  else
    let stalled := (List.range 3).filter (fun v =>
      p.txq.any (fun e => msgLane e.2 == v) && (nextInVc p v).isNone)
    let s := stalled.foldl (fun s v => bump s (Reg.FPT_CRSTALL port_ v) 1) s
    if s.fab.coord.isNone ∨ 2048 ≤ p.retry.length ∨ (p.draining = true ∧ p.txPart.isEmpty = true) then
      .next (emitFlit s port_ 0 0 0 [])
    else
      let cont := b2n (!p.txPart.isEmpty)
      let (p', pay, st) := fillSlots 15 0 p [] 0
      if pay.isEmpty then .next (emitFlit s port_ 0 0 0 [])
      else
        let f := mkFlit p' 1 cont st pay
        let due := if p'.ackDue.isSome then p'.ackDue else some (now s + ackTo s port_)
        let q :=
          { p' with retry := p'.retry ++ [f], txCount := (p'.txCount + 1) % 2 ^ 32, ackDue := due
                    crTurn := (p'.crTurn + 1) % 9 }
        .next (emit (bump64 (setPort s port_ q) (Reg.FPT_TXFLITS_LO port_) 1) (.flit port_ f))

end Sys2Proof.Machine
end

