-- ==== Sys2Proof/Machine/FabricCmds.lean ====
section
/-!
DEFINITION. The fabric commands 0x04xx of R361, R70, R71, R75 and R448, the end of a port's drain, and the
handling of messages that are not for this module or cannot be interpreted (R347, R350 to R352, R356).
-/

namespace Sys2Proof.Machine

/-- COORD_SET (R71, R72): the first success since power-on reset assigns domain and device. -/
def execCoordSet (slot : Nat) (tag : Word32) (domain device : Word64) (s : State) :
    Host.Outcome State Fault Refusal :=
  .next (runTwin slot 0x0401 tag [domain, device] (!atMost domain 63 || !atMost device 63) s (fun s =>
    if s.fab.coord.isSome then (s, .done stCONFLICT [])
    else ({ s with fab := { s.fab with coord := some (domain.toNat, device.toNat) } }, Rep.ok)))

/-- The parameters of PORT_SET are in range (R361, R362): the words are checked for the set action. -/
def portSetOk (port action ctl timers : Word64) : Bool :=
  atMost port 31 && atMost action 2 && onlyBits ctl 0xFFFF001F && onlyBits timers 0x03FFFFFF
    && (action != 0#64 || (within (timers &&& 0xFF#64) 5 160
      && decide (1 ≤ bits timers.toNat 17 8) && decide (bits timers.toNat 17 8 ≤ 1000)
      && decide (20 ≤ bits timers.toNat 25 18)))

/-- Cancel every enable of one kind that waits: each receives the final reply CONFLICT (R458). -/
def cancelWaits (s : State) (p : Wait → Bool) : State := finishAll s p stCONFLICT []

/-- Start the drain of a fabric port: it starts no new DATA (R361). -/
def startPortDrain (s : State) (k : Nat) : State := setPort s k { port s k with draining := true }

/-- PORT_SET (R361, R458). -/
def execPortSet (slot : Nat) (tag : Word32) (port_ action ctl timers : Word64) (s : State) :
    Host.Outcome State Fault Refusal :=
  .next (runTwin slot 0x0402 tag [port_, action, ctl, timers] (!portSetOk port_ action ctl timers) s (fun s =>
    let k := port_.toNat
    let p := port s k
    if action = 0#64 then
      (rput (rput s (Reg.FPT_CTL k) ctl.toNat) (Reg.FPT_TIMERS k) timers.toNat, Rep.ok)
    else if action = 1#64 then
      if p.draining then
        (cancelWaits s (fun w => w == .portEnable k), .defer [] (.portDisable k))
      else if p.st = .disabled then (s, Rep.ok)
      else (startPortDrain s k, .defer [] (.portDisable k))
    else if p.draining then (s, .defer [] (.portEnable k))
    else if p.st = .disabled then (setPort s k { p with st := .down }, Rep.ok)
    else (s, Rep.ok)))

/-- PORT_DRAIN_DONE (R361, R458): the port enters DISABLED and the final reply of the disable leaves; a
pending enable then puts it in DOWN and receives its own. What waited in the retry buffer is gone. -/
def execPortDrainDone (port_ : Nat) (s : State) : Host.Outcome State Fault Refusal :=
  let p := port s port_
  if p.draining then
    let q := { Port.init with st := .disabled, rx := p.rx, txq := p.txq, lock := p.lock, ident := p.ident }
    let s := finishAll (setPort s port_ q) (fun w => w == .portDisable port_) stOK []
    if s.mbx.deferred.any (fun d => d.wait == .portEnable port_) then
      .next (finishAll (setPort s port_ { q with st := .down }) (fun w => w == .portEnable port_) stOK [])
    else .next s
  else .next s

/-- The code of a link state in FPT_STAT (R362). -/
def linkCode : LinkState → Nat
  | .down => 0
  | .training => 1
  | .up => 2
  | .retrain => 3
  | .width => 4
  | .fenced => 5
  | .disabled => 6

/-- FPT_STAT (R362). -/
def fptStat (s : State) (k : Nat) : Nat :=
  let p := port s k
  linkCode p.st + 2 ^ 3 * p.width + 2 ^ 5 * peerCoord p + 2 ^ 22 * b2n p.lead

/-- FPT_LINK (R362). -/
def fptLink (s : State) (k : Nat) : Nat :=
  let p := port s k
  p.retry.length % 4096 + 2 ^ 16 * (p.rttNs % 2 ^ 16)

/-- The accumulator of an RC counter (R425). -/
def accumOf (s : State) (a : Nat) : Nat := tgetD s.bus.accum a 0

/-- The counters of a fabric port in register order (R362, R448): three of 64 bits, then the RC counters by
their accumulators. -/
def portCounters (s : State) (k : Nat) : List Nat :=
  [rg64 s (Reg.FPT_TXFLITS_LO k), rg64 s (Reg.FPT_RXFLITS_LO k), rg64 s (Reg.FPT_FECCORR_LO k)]
    ++ ([Reg.FPT_FECUNC k, Reg.FPT_CRCERR k, Reg.FPT_REPLAYS k, Reg.FPT_LINKDOWNS k, Reg.FPT_RETRAINS k,
      Reg.FPT_WIDTHCHG k, Reg.FPT_HOPDROP k, Reg.FPT_DEDUP k, Reg.FPT_FENCERX k, Reg.FPT_MALFORMED k,
      Reg.FPT_CRSTALL k 0, Reg.FPT_CRSTALL k 1, Reg.FPT_CRSTALL k 2].map (accumOf s))

/-- PORT_QUERY (R361, R448): the peer's IDENT takes the 32 B from its part number to its nonce. -/
def execPortQuery (slot : Nat) (tag : Word32) (port_ : Word64) (s : State) : Host.Outcome State Fault Refusal :=
  .next (runCmd slot 0x0403 tag (!atMost port_ 31) s (fun s =>
    let k := port_.toNat
    (s, .done stOK (leBytes 8 (fptStat s k) ++ leBytes 8 (fptLink s k) ++ slice (port s k).ident 4 32
      ++ (portCounters s k).flatMap (leBytes 8)))))

/-- ROUTE_SET (R351, R363, R448): entries are replaced one at a time. -/
def execRouteSet (slot : Nat) (tag : Word32) (list : List Word64) (s : State) :
    Host.Outcome State Fault Refusal :=
  .next (runTwin slot 0x0404 tag (listWords list) (!list.all (fun w => onlyBits w 0xFFFFFFFF0000007F)) s (fun s =>
    (list.foldl (fun s w =>
      let i := bits w.toNat 6 1
      let a := if bit w.toNat 0 then Reg.FPT_RTDEV i else Reg.FPT_RTDOM i
      rput s a (bits w.toNat 63 32)) s, Rep.ok)))

/-- FABRIC_SET (R359, R361, R363). -/
def execFabricSet (slot : Nat) (tag : Word32) (hopInit reqTo retries replayWin : Word64) (s : State) :
    Host.Outcome State Fault Refusal :=
  let bad := !atMost hopInit 15 || !within reqTo 10 10000 || !atMost retries 7 || !within replayWin 20 65535
    || decide (replayWin.toNat < retries.toNat * reqTo.toNat + 50)
  .next (runTwin slot 0x0406 tag [hopInit, reqTo, retries, replayWin] bad s (fun s =>
    let s := rputF s Reg.FPT_GCTL 3 0 hopInit.toNat
    let s := rputF (rputF s Reg.FPT_REQ 13 0 reqTo.toNat) Reg.FPT_REQ 16 14 retries.toNat
    (rputF s Reg.FPT_REPLAY 15 0 replayWin.toNat, Rep.ok)))

/-- PORT_RETRAIN (R334, R335, R361): a retrain, or a width change to a width that WIDTH_MIN allows, of a port that is
UP. DEDUCED: assumption 112. -/
def execPortRetrain (slot : Nat) (tag : Word32) (port_ width : Word64) (s : State) : Host.Outcome State Fault Refusal :=
  let bad := !atMost port_ 31 || !([0, 16, 12, 8, 4].contains width.toNat)
  .next (runTwin slot 0x0405 tag [port_, width] bad s (fun s =>
    let k := port_.toNat
    let code := widestCode width.toNat
    if (port s k).st ≠ .up then (s, .done stCONFLICT [])
    else if width = 0#64 then (startOp s k { retrain := true, width := 4 } 3, .defer [] (.portRetrain k))
    else if widthMin s k < code then (s, .done stINVALID [])
    else (startOp s k { retrain := false, width := code } 2, .defer [] (.portRetrain k))))

/-- Whether two segments of rank entries overlap. -/
def overlaps (b1 n1 b2 n2 : Nat) : Bool := decide (b1 < b2 + n2) && decide (b2 < b1 + n1)

/-- The effect of RANK_TABLE_SET (R75, R76): the entries go into the bank the job does not select, on all 32 ports; then
every port's job register changes at once. -/
def doRankTable (j base : Nat) (list : List Nat) (s : State) : State × Rep :=
  let n := list.length
  let bank := 1 - rf s (Reg.FPT_RJOB 0 j) 24 24
  let clash := (List.range 64).any (fun i =>
    let w := rg s (Reg.FPT_RJOB 0 i)
    i != j && bit w 31 && bits w 24 24 == bank && overlaps base n (bits w 11 0) (bits w 22 12))
  if clash then (s, .done stCONFLICT [])
  else
    let s := (List.range 32).foldl (fun s k =>
      (list.zipIdx).foldl (fun s e => rput s (Reg.FPT_RANK k bank (base + e.2)) (e.1 + 2 ^ 31)) s) s
    let w := base + 2 ^ 12 * n + 2 ^ 24 * bank + 2 ^ 31
    ((List.range 32).foldl (fun s k => rput s (Reg.FPT_RJOB k j) w) s, Rep.ok)

/-- RANK_TABLE_SET. -/
def execRankTableSet (slot : Nat) (tag : Word32) (job base : Word64) (list : List Word64) (s : State) :
    Host.Outcome State Fault Refusal :=
  let bad := !atMost job 63 || !atMost base 4095 || list.isEmpty || decide (1024 < list.length)
    || decide (4096 < base.toNat + list.length) || !list.all (fun w => onlyBits w 0x1FFFF)
  .next (runTwin slot 0x0410 tag ([job, base] ++ listWords list) bad s
    (doRankTable job.toNat base.toNat (list.map (fun w => w.toNat))))

/-- The coordinate of rank x of job j at port k, if the job and the entry are valid (R73). -/
def rankCoord (s : State) (k j x : Nat) : Option Nat :=
  let w := rg s (Reg.FPT_RJOB k j)
  if bit w 31 && decide (x < bits w 22 12) then
    let e := rg s (Reg.FPT_RANK k (bits w 24 24) (bits w 11 0 + x))
    if bit e 31 then some (bits e 16 0) else none
  else none

/-- LEGACY_SET (R70, R448): the control, the port enables, and each listed node. -/
def execLegacySet (slot : Nat) (tag : Word32) (ctl portEn : Word64) (list : List Word64) (s : State) :
    Host.Outcome State Fault Refusal :=
  let bad := !onlyBits ctl 0x00FF03FF || !onlyBits portEn 0xFFFFFFFF
    || !list.all (fun w => onlyBits w 0x0FFFFFFF)
  .next (runTwin slot 0x0420 tag ([ctl, portEn] ++ listWords list) bad s (fun s =>
    let s := rput (rput s Reg.XLT_LEGACY_CTL ctl.toNat) Reg.XLT_LEGACY_PORTS portEn.toNat
    (list.foldl (fun s w =>
      let v := w.toNat
      rput s (Reg.XLT_LEGNODE (bits v 9 0)) (bits v 26 10 + 2 ^ 31 * bits v 27 27)) s, Rep.ok)))

/-! ### Messages that are not served here -/

/-- The opcode of the response that answers a REQ opcode (R191, R296, R345, R380); an unknown one is answered
with WR_ACK. DEDUCED: assumption 107. -/
def ackOpcode (op : Nat) : Nat :=
  if op = 0x01 then 0x41 else if op = 0x02 then 0x42 else if op = 0x03 then 0x44 else if op = 0x04 then 0x45
  else if op = 0x05 then 0x43 else if op = 0x08 then 0x47 else if op = 0x09 then 0x48
  else if op = 0x0A then 0x49 else if op = 0x0B then 0x55 else if op = 0x0C then 0x4B
  else if op = 0x0D ∨ op = 0x0E then 0x4C else if op = 0x0F then 0x4D else if op = 0x10 then 0x4E
  else if op = 0x11 then 0x54 else if 0x14 ≤ op ∧ op ≤ 0x19 then 0x56 else 0x46

/-- MESSAGE_FORWARD (R350 to R352): a message for another device leaves by the route tables with HOPS one
less, at LVL 1 beyond a dateline; with HOPS 0 or no port it is answered or discarded and counted. -/
def execMessageForward (port_ : Nat) (msg : Msg) (s : State) : Host.Outcome State Fault Refusal :=
  if s.fab.coord.isNone ∨ isOwn s msg.dst.toNat = true then .next s
  else
    let s := takeMsg s port_ msg
    let drop (cause : Nat) : State :=
      let s := bump s (Reg.FPT_HOPDROP port_) 1
      if msgLane msg = 0 then sendMsg s (respMsg s msg (Resp.faulted (ackOpcode msg.opcode.toNat) cause)) else s
    if msg.hops = 0#4 then .next (drop cHOP_LIMIT)
    else match routePort s msg with
      | none => .next (drop cNO_ROUTE)
      | some k =>
        let lvl := msg.lvl || rf s (Reg.FPT_CTL k) 4 4 == 1
        .next (queueAt s k { msg with hops := msg.hops - 1, lvl := lvl })

/-- Whether a message has an OPCODE that the module takes in on its VC (R191, R296, R345, R380): VC 3 defines none, and
none of SNP is the module's to take in. -/
def definedOp (m : Msg) : Bool :=
  let op := m.opcode.toNat
  (m.vc == 0#2 && decide (1 ≤ op) && decide (op ≤ 0x19))
    || (m.vc == 2#2 && (op == 0x46 || op == 0x47 || op == 0x4B || op == 0x4E || (decide (0x50 ≤ op) && decide (op ≤ 0x56))))

/-- UNKNOWN_OP_MESSAGE (R347): in REQ it is answered FAULTED with cause UNKNOWN_OP, in SNP or RSP it is
discarded; both are counted. A message with a defined opcode and at most 18 data slots is no such event.
DEDUCED: assumption 107. -/
def execUnknownOpMessage (port_ : Nat) (msg : Msg) (s : State) : Host.Outcome State Fault Refusal :=
  if s.fab.coord.isNone ∨ isOwn s msg.dst.toNat = false ∨ (definedOp msg = true ∧ msg.dslots.toNat ≤ 18) then .next s
  else
    let s := bump (takeMsg s port_ msg) (Reg.FPT_MALFORMED port_) 1
    if msgLane msg = 0 then
      .next (sendMsg s (respMsg s msg (Resp.faulted (ackOpcode msg.opcode.toNat) cUNKNOWN_OP)))
    else .next s

/-- COMPLETION_RECORD_EXPIRE (R356): REPLAY_WIN after its response a record is removed. -/
def execCompletionRecordExpire (domain device reqid : Nat) (s : State) : Host.Outcome State Fault Refusal :=
  let key := (domain % 64 * 64 + device % 64) * 2 ^ 24 + reqid % 2 ^ 24
  match tget s.fab.records key with
  | none => .next s
  | some r =>
    let s := reach s r.expires
    .next { s with fab := { s.fab with records := tdel s.fab.records key } }

end Sys2Proof.Machine
end

