-- ==== Sys2Proof/Machine/Requests.lean ====
section
/-!
DEFINITION. Single requests of the fabric from their arrival to their answer (R77, R191, R198, R217, R291
to R295, R345 to R349, R356, R357), the host side of the directory (R198 to R214), and the commands of
those messages.
-/

namespace Sys2Proof.Machine

/-! ### Signal words and atomic writes -/

/-- Replace the 8-byte word at a PPA as one atomic write at its home: the notice carries the new value
(R302). -/
def storeWord (s : State) (a v : Nat) : State :=
  let (_, s) := storePiece (fetchRange s a 8) a (leBytes 8 v)
  noteWatch (writeSeal s (pageOf a)) a 8 (some (a, v % 2 ^ 64))

/-- Read the 8-byte word at a PPA: its value, or none where its line is poisoned. -/
def loadWord (s : State) (a : Nat) : Option Nat × State :=
  let (b, bad, s) := load s a 8
  (if bad then none else some (leNat b), s)

/-- An addition to a signal word at its home (R291, R294, R295): the value after it, or none where the line
is poisoned and nothing is applied. -/
def signalAdd (s : State) (a amount : Nat) : Option Nat × State :=
  match loadWord s a with
  | (none, s) => (none, bump s Reg.SIG_POISONED 1)
  | (some v, s) =>
    let v' := (v + amount) % 2 ^ 64
    if amount % 2 ^ 64 = 0 then (some v, s) else (some v', storeWord s a v')

/-- The result of an atomic operation (R346): a and b are the two words of data slot 0. -/
def atomicResult (op old a b : Nat) : Option Nat :=
  if op = 0 then some ((old + a) % 2 ^ 64)
  else if op = 1 then some a
  else if op = 2 then some (if old = a then b else old)
  else if op = 3 then some (old &&& a)
  else if op = 4 then some (old ||| a)
  else if op = 5 then some (max old a)
  else if op = 6 then some (min old a)
  else none

/-! ### Segments -/

/-- Read the bytes of a list of segments. -/
def loadSegs : State → List (Nat × Nat) → List Byte × Bool × State
  | s, [] => ([], false, s)
  | s, (a, len) :: t =>
    let (b, x, s) := load s a len
    let (c, y, s) := loadSegs s t
    (b ++ c, x || y, s)

/-- Write the bytes of a list of segments under a mask. -/
def storeSegs : State → List (Nat × Nat) → List (Bool × Byte) → Bool × State
  | s, [], _ => (false, s)
  | s, (a, len) :: t, l =>
    let (x, s) := storeMasked s a (l.take len)
    let (y, s) := storeSegs s t (l.drop len)
    (x || y, s)

/-- The lines that hold a set byte of a masked write over segments. -/
def maskedLines : List (Nat × Nat) → List (Bool × Byte) → List Nat
  | [], _ => []
  | (a, len) :: t, l =>
    ((linesOf a len).filter (fun ln =>
      (List.range len).any (fun i => (a + i) / 128 == ln && (l[i]?.map (fun e => e.1)).getD false)))
      ++ maskedLines t (l.drop len)

/-- All bytes of a string, unmasked. -/
def unmasked (b : List Byte) : List (Bool × Byte) := b.map (fun x => (true, x))

/-- The bytes of a string under a mask of one bit per byte. -/
def maskedBytes (mask b : List Byte) : List (Bool × Byte) :=
  (List.range b.length).zip b |>.map (fun e => (bit (leAt mask (e.1 / 8) 1) (e.1 % 8), e.2))

/-- The marker repeated over the poisoned lines of a read's data (R348): every byte of a poisoned line that
the data holds. -/
def markPoison (s : State) : List (Nat × Nat) → List Byte → List Byte
  | [], _ => []
  | (a, len) :: t, b =>
    ((List.range len).map (fun i =>
      if linePoisoned s ((a + i) / 128) then BitVec.ofNat 8 (poisonWord / 2 ^ (8 * ((a + i) % 8)))
      else (b[i]?).getD 0#8)) ++ markPoison s t (b.drop len)

/-! ### The charge of the die links (R492) -/

/-- The charge of the accesses of one range: each granule's bytes, rounded up to a multiple of 64.
DEDUCED: assumption 52. -/
def rangeCharge (a len : Nat) : Nat :=
  if len = 0 then 0
  else
    let cut := (granulesOf a len).map (fun g => min (a + len) (256 * g + 256) - max a (256 * g))
    (cut.map (fun n => (n + 63) / 64 * 64)).foldl (· + ·) 0

/-- Charge a tenant for segments that cross a die link. DEDUCED: assumption 52. -/
def chargeSegs (s : State) (tenant : Nat) (segs : List (Nat × Nat)) : State :=
  let n := (segs.map (fun e => rangeCharge e.1 e.2)).foldl (· + ·) 0
  if n = 0 then s else bump64 s (Reg.XLT_TN_BYTES_LO tenant) n

/-! ### The span, the data and the need of a request -/

/-- Address and length that a request touches (R191, R344, R345). -/
def reqSpan (m : Msg) : Nat × Nat :=
  let a := m.addr.toNat
  let op := m.opcode.toNat
  if op = 0x11 ∨ op = 0x12 then (a, bits m.arg.toNat 8 0)
  else if op = 0x13 then (a / 256 * 256, 256)
  else if op = 0x08 ∨ op = 0x09 ∨ op = 0x0C then (a, 8)
  else (a / 128 * 128, 128)

/-- The data slots that an opcode needs (R344, R345, R381). -/
def reqSlots (m : Msg) : Nat :=
  let op := m.opcode.toNat
  if op = 0x12 then (bits m.arg.toNat 8 0 + 15) / 16
  else if op = 0x13 then 18
  else if op = 0x06 then 8
  else if op = 0x07 then 9
  else if op = 0x08 ∨ op = 0x09 then 1
  else if op = 0x0B then 4
  else if op = 0x0D then 2
  else if op = 0x14 then (if bit m.xf.toNat 0 then 11 else 9)
  else if op = 0x15 then (if bit m.xf.toNat 1 then 18 else 16)
  else if op = 0x17 then 1
  else if op = 0x18 then min m.dslots.toNat 18
  else 0

/-- A request that the module cannot interpret (R346, R347): data slots that disagree with its opcode, a
LENGTH outside 1 to 256, or an ATOMIC that names no operation. DEDUCED: assumption 113. -/
def malformed (m : Msg) : Bool :=
  let op := m.opcode.toNat
  m.dslots.toNat != reqSlots m
    || ((op == 0x11 || op == 0x12) && (bits m.arg.toNat 8 0 == 0 || decide (256 < bits m.arg.toNat 8 0)))
    || (op == 0x08 && decide (7 ≤ m.xf.toNat))

/-- The permission a request needs (R78, R217). DEDUCED: assumption 54. -/
def reqNeed (op : Nat) : Nat :=
  if op = 0x01 ∨ op = 0x05 ∨ op = 0x11 then pRD
  else if op = 0x02 then pRD + pWR
  else if op = 0x08 ∨ op = 0x09 then pATOM
  else if op = 0x0A then 0
  else pWR

/-- The bytes that a writing request writes, with their mask. -/
def reqData (m : Msg) : List (Bool × Byte) :=
  let op := m.opcode.toNat
  if op = 0x12 then unmasked (slice m.data 0 (bits m.arg.toNat 8 0))
  else if op = 0x13 then maskedBytes (slice m.data 0 32) (slice m.data 32 256)
  else if op = 0x07 then maskedBytes (slice m.data 128 16) (slice m.data 0 128)
  else unmasked (slice m.data 0 128)

/-- The retry-after time base of a BUSY_RETRY (R494). -/
def retryAfter (s : State) : Nat := now s + rf s Reg.XLT_ADMIT_RETRY 15 0 * 1000

/-! ### Mirroring of a request's writes (R310, R380 to R386) -/

/-- A PPA lies in a mirrored extent. -/
def mirroredAt (s : State) (a : Nat) : Bool := (extRec s (extOf a)).mirrored

/-- Send the MIRROR_WRITE of one line (R381): mask of the bytes written, the line as it stands, and with the
last one the completion record. -/
def mirrorLine (s : State) (line mask : Nat) (use : OwnUse) (rec : Option (Msg × Resp)) : State :=
  let m := mkMsg s 0 0x14 (twinPeer s)
  let r := match rec with
    | none => []
    | some (q, p) =>
      leBytes 2 (bits q.src.toNat 16 5) ++ leBytes 2 0 ++ leBytes 4 q.reqid.toNat
        ++ leBytes 1 (p.status + 16 * p.xf) ++ leBytes 1 p.cause ++ leBytes 6 0 ++ leBytes 8 p.arg ++ leBytes 8 0
  let m := { m with akind := 2, addr := BitVec.ofNat 52 (line * 128), xf := BitVec.ofNat 4 (b2n rec.isSome), poison := linePoisoned s line
                    arg := BitVec.ofNat 64 (popcount 128 mask) }
  let m := withData m (leBytes 16 mask ++ stored s (line * 128) 128 ++ r)
  let s := { s with twin := { s.twin with bytes := s.twin.bytes + msgSlots m * 16 } }
  ownRequestVia s (mirrorPort s (extOf (line * 128))) m use

/-- The lines and byte masks of a masked write over segments. -/
def lineMasks : List (Nat × Nat) → List (Bool × Byte) → List (Nat × Nat)
  | [], _ => []
  | (a, len) :: t, l =>
    ((linesOf a len).map (fun ln => (ln, (List.range len).foldl (fun v i =>
      if (a + i) / 128 = ln ∧ (l[i]?.map (fun e => e.1)).getD false then v + 2 ^ ((a + i) % 128) else v) 0)))
      ++ lineMasks t (l.drop len)

/-- Answer a request whose effect at the pool is applied: over the mirror first when it wrote a mirrored
extent of an active twin (R310). -/
def answerWrite (s : State) (m : Msg) (r : Resp) (segs : List (Nat × Nat)) (wrote : List (Bool × Byte)) : State :=
  let lm := (lineMasks segs wrote).filter (fun e => e.2 != 0 && mirroredAt s (e.1 * 128))
  if mirroring s = false ∨ lm.isEmpty then answer s m r
  else
    let owed := s.fab.nextReqid
    let s := { s with twin := { s.twin with owed := s.twin.owed ++ [(owed, m, r)] } }
    let last := lm.length - 1
    ((List.range lm.length).zip lm).foldl (fun s e =>
      mirrorLine s e.2.1 e.2.2 (.mirror owed) (if e.1 = last then some (m, r) else none)) s

/-- What a request to a mirrored extent meets: 0 it is served, 1 it is held (ISOLATED), 2 it is turned away
with BUSY_RETRY (HALTED) (R386). -/
def mirrorGate (s : State) (segs : List (Nat × Nat)) (writes : Bool) : Nat :=
  if !segs.any (fun e => mirroredAt s e.1) then 0
  else if s.twin.st = 6 then 2
  else if s.twin.st = 2 ∧ writes then 1
  else 0

/-! ### Serving a request whose lines are clear -/

/-- The grant or data response of a coherent request (R193): the line's PPA, DTIME, and the data.
DEDUCED: assumption 81. -/
def grant (s : State) (op line : Nat) (withLine : Bool) : Resp × State :=
  if withLine then
    let (b, bad, s) := load s (line * 128) 128
    ({ opcode := op, status := if bad then sPOISONED else sCOMPLETE, cause := 0, xf := 0, arg := now s, poison := bad
       line := some (line * 128), data := if bad then markPoison s [(line * 128, 128)] b else b }, s)
  else ({ opcode := op, status := sCOMPLETE, cause := 0, xf := 0, arg := now s, poison := false, line := some (line * 128), data := [] }, s)

/-- Put a holder into the entry of a line: exclusively, or as a sharer; a fifth sharer makes it SC (R198). -/
def addHolder (s : State) (line ep : Nat) (excl : Bool) : State :=
  let n := s.dirc.allocs
  let fresh := { s with dirc := { s.dirc with allocs := n + 1 } }
  if excl then
    match dirEnt s line with
    | none => setEnt fresh line (some { st := 3, ptrs := [ep], coarse := 0, alloc := n })
    | some e => setEnt s line (some { e with st := 3, ptrs := [ep], coarse := 0 })
  else match dirEnt s line with
    | none => setEnt fresh line (some { st := 1, ptrs := [ep], coarse := 0, alloc := n })
    | some e =>
      if e.st = 2 then setEnt s line (some { e with coarse := e.coarse ||| 2 ^ (ep / 32) })
      else if e.ptrs.contains ep then setEnt s line (some { e with st := 1 })
      else if e.ptrs.length < 4 then setEnt s line (some { e with st := 1, ptrs := e.ptrs ++ [ep] })
      else setEnt s line (some { e with st := 2, ptrs := [], coarse := (ep :: e.ptrs).foldl (fun v x => v ||| 2 ^ (x / 32)) 0 })

/-- Serve a request for a grant (R198, R213, R214): RD_SHARED, RD_OWN, UPGRADE, OWN_FULL. -/
def serveGrant (s : State) (m : Msg) (line : Nat) : State :=
  let op := m.opcode.toNat
  match takeEp s m.src.toNat with
  | (s, none) =>
    answer (report s 0x13 0x03 (dirSlice line) Reg.DIR_CTL 0 none none) m (Resp.faulted (ackOpcode op) cENDPOINT_LIMIT)
  | (s, some ep) =>
    let s := fetchRange s (line * 128) 128
    if linePoisoned s line && op != 0x04 then
      let (r, s) := grant s (ackOpcode op) line (op == 0x01 || op == 0x02)
      let s := if op = 0x01 then s else setEnt s line none
      answer s m { r with status := sPOISONED }
    else if op = 0x01 then
      let excl := match dirEnt s line with
        | none => rf s Reg.DIR_CTL 8 8 == 1
        | some e => e.st == 3 && e.ptrs == [ep]
      let (r, s) := grant s (if excl then 0x42 else 0x41) line true
      answer (addHolder s line ep excl) m r
    else
      let sharer := match dirEnt s line with
        | none => false
        | some e => e.st != 2 && e.ptrs.contains ep
      let kind := if op = 0x04 then 0x45 else if op = 0x03 ∧ sharer = true then 0x44 else 0x42
      let (r, s) := grant s kind line (kind == 0x42)
      answer (addHolder s line ep true) m r

/-- Serve EVICT_CLEAN (R198): the sender leaves the entry. -/
def serveEvict (s : State) (m : Msg) (line : Nat) : State :=
  let s := match dirEnt s line, epOf s m.src.toNat with
    | some e, some ep =>
      if e.st = 2 then s else setEnt s line (some { e with ptrs := e.ptrs.filter (fun x => x != ep) })
    | _, _ => s
  answer s m (Resp.plain 0x49 sCOMPLETE 0 0 0)

/-- Push a written line to a consumer (R208): only to an ACTIVE endpoint with PUSH_EN; the line stays busy
until PUSH_ACK. -/
def pushLine (s : State) (line coord : Nat) (who : TxnWho) : State :=
  match epOf s coord with
  | none => s
  | some ep =>
    if epState s ep ≠ 1 ∨ rf s Reg.DIR_CTL 9 9 = 0 ∨ coherentLine s line = false then s
    else
      let m := mkMsg s 1 0x23 coord
      let m := { m with akind := 2, addr := BitVec.ofNat 52 (line * 128), arg := BitVec.ofNat 64 (now s) }
      let id := s.fab.nextReqid % 2 ^ 24
      let m := { m with reqid := BitVec.ofNat 24 id }
      let s := sendMsg s (withData m (stored s (line * 128) 128))
      let t := { Txn.fresh line who true with served := true, push := some ep, pushAt := now s, pushId := id }
      setTxns { s with fab := { s.fab with nextReqid := s.fab.nextReqid + 1 } } (t :: s.dirc.txns)

/-- Serve a write, atomic operation or PUBLISH (R170, R200, R217, R345, R346, R348): it is applied, the
entries of its lines are freed, and it is answered. DEDUCED: assumption 76. DEDUCED: assumption 169. -/
def serveWrite (s : State) (k : Nat) (m : Msg) (segs : List (Nat × Nat)) (tenant : Nat) : State :=
  let op := m.opcode.toNat
  let free := fun (s : State) => (segs.flatMap (fun e => linesOf e.1 e.2)).foldl (fun s l =>
    if coherentLine s l then setEnt s l none else s) s
  let a := (segs.head?.map (fun e => e.1)).getD 0
  if op = 0x08 then
    match loadWord s a with
    | (none, s) => answer (free s) m (Resp.plain 0x47 sPOISONED 0 0 0)
    | (some v, s) =>
      let v' := (atomicResult m.xf.toNat v (leAt m.data 0 8) (leAt m.data 8 8)).getD v
      answerWrite (free (storeWord s a v')) m (Resp.plain 0x47 sCOMPLETE 0 0 v) segs (unmasked (leBytes 8 v'))
  else if op = 0x09 then
    match loadWord s a with
    | (none, s) => answer (free s) m (Resp.plain 0x48 sPOISONED 0 0 0)
    | (some v, s) =>
      let new := leAt m.data 0 8
      if v = m.arg.toNat then
        answerWrite (free (storeWord s a new)) m (Resp.plain 0x48 sCOMPLETE 0 0 new) segs (unmasked (leBytes 8 new))
      else answer (free (bump s Reg.DIR_PUBCONF 1)) m (Resp.plain 0x48 sCOMPLETE 0 1 v)
  else if op = 0x0C then
    match signalAdd s a m.arg.toNat with
    | (none, s) => answer (free s) m (Resp.plain 0x4B sPOISONED 0 0 0)
    | (some v, s) =>
      answer (if m.arg = 0#64 then s else free s) m (Resp.plain 0x4B sCOMPLETE 0 0 v)
  else
    let data := reqData m
    let count := (data.filter (fun e => e.1)).length
    let (bad, s) := storeSegs s segs data
    let s := if m.poison then (maskedLines segs data).foldl storePoison s else s
    let s := free s
    let s := answerWrite s m (Resp.plain 0x46 (if bad then sPOISONED else sCOMPLETE) 0 0 count) segs data
    if op = 0x06 ∧ bit m.arg.toNat 17 = true then
      pushLine s (a / 128) (bits m.arg.toNat 16 0) (.req k m segs tenant)
    else s

/-- Serve a read (R198, R207, R348). -/
def serveRead (s : State) (m : Msg) (segs : List (Nat × Nat)) : State :=
  let (b, bad, s) := loadSegs s segs
  let b := if bad then markPoison s segs b else b
  let st := if bad then sPOISONED else sCOMPLETE
  if m.opcode = 0x05#8 then
    answer s m { opcode := 0x43, status := st, cause := 0, xf := 0, arg := now s, poison := bad
                 line := some ((segs.head?.map (fun e => e.1)).getD 0), data := b }
  else
    answer s m { opcode := 0x54, status := st, cause := 0, xf := 0, arg := 0, poison := bad, line := none, data := b }

/-- Serve a request whose lines are clear. -/
def serve (s : State) (k : Nat) (m : Msg) (segs : List (Nat × Nat)) (tenant : Nat) : State :=
  let s := chargeSegs s tenant segs
  let op := m.opcode.toNat
  let line := ((segs.head?.map (fun e => e.1)).getD 0) / 128
  if op = 0x01 ∨ op = 0x02 ∨ op = 0x03 ∨ op = 0x04 then serveGrant s m line
  else if op = 0x0A then serveEvict s m line
  else if op = 0x05 ∨ op = 0x11 then serveRead s m segs
  else serveWrite s k m segs tenant

/-- Run a translated request: mirrored extents first (R386), then every coherent line it touches must be
clear, or a transaction begins for it and the request waits (R195 to R198, R207, R210, R565). entered: the
request is past the REQ input of its slices (R197). DEDUCED: assumption 81. -/
def runReq (entered : Bool) (s : State) (k : Nat) (m : Msg) (segs : List (Nat × Nat)) (tenant : Nat) : State :=
  let op := m.opcode.toNat
  let want := opWant op
  let who := TxnWho.req k m segs tenant
  let lines := (segs.flatMap (fun e => linesOf e.1 e.2)).filter (coherentLine s)
  let wait := fun (s : State) => { s with fab := { s.fab with inProgress := tset s.fab.inProgress (reqKey m) (latest s m) } }
  match mirrorGate s segs (want == 4) with
  | 2 => answer s m (Resp.plain (ackOpcode op) sBUSY_RETRY 0 0 (now s + 100000))
  | 1 => wait { s with twin := { s.twin with heldReqs := s.twin.heldReqs ++ [(k, m)] } }
  | _ =>
    if lines.isEmpty then
      if op = 0x01 ∨ op = 0x02 ∨ op = 0x03 ∨ op = 0x04 then answer s m (Resp.faulted (ackOpcode op) cNOT_COHERENT)
      else if op = 0x0A then answer s m (Resp.plain 0x49 sCOMPLETE 0 0 0)
      else serve s k m segs tenant
    else
      let ep := epOf s m.src.toNat
      if (match ep with
        | some x => epState s x == 2
        | none => false) then answer s m (Resp.faulted (ackOpcode op) cENDPOINT_FAILED)
      else
        let s := lines.foldl (fun s l => takeWay entered s l who) (lines.foldl purge s)
        let blocked := lines.filter (fun l => !lineClear s l want ep || lineBusy s l who || wantsWay s l want
          || (!entered && s.dirc.heldReq.any (fun h => dirSlice h.2.2 == dirSlice l)))
        if blocked.isEmpty then serve s k m segs tenant
        else wait (blocked.foldl (fun s l => beginTxn s l who) s)

/-- A request whose address has to be translated: alignment first (R294), then translation (R77), then the
request runs. -/
def translateReq (s : State) (k : Nat) (m : Msg) : State :=
  let op := m.opcode.toNat
  let (a, len) := reqSpan m
  if (op = 0x08 ∨ op = 0x09 ∨ op = 0x0C) ∧ a % 8 ≠ 0 then answer s m (Resp.faulted (ackOpcode op) cALIGNMENT)
  else if m.akind = 3 ∧ op = 0x0C then answer s m (Resp.faulted (ackOpcode op) cKIND)
  else match reqXl s k m a len (reqNeed op) with
    | (s, .fail c) => answer s m (Resp.faulted (ackOpcode op) c)
    | (s, .forward c) =>
      let m' := { m with dst := BitVec.ofNat 17 c }
      let drop := answer (bump s (Reg.FPT_HOPDROP k) 1) m (Resp.faulted (ackOpcode op) (if m.hops = 0 then cHOP_LIMIT else cNO_ROUTE))
      if m.hops = 0 then drop
      else match routePort s m' with
        | none => drop
        | some j => queueAt s j { m' with hops := m.hops - 1, lvl := m.lvl || rf s (Reg.FPT_CTL j) 4 4 == 1 }
    | (s, .ok segs t) =>
      let migrating := segs.any (fun e => match tget s.xlt.migrations (extOf e.1) with
        | some g => g.switching.isSome
        | none => false)
      if migrating then { s with xlt := { s.xlt with heldReqs := s.xlt.heldReqs ++ [(k, m)] } }
      else runReq false s k m segs t

/-- What a REQ message of a given opcode meets on arrival (R72, R347, R356, R357, R479): nothing is accepted
before COORD_SET or in the fatal safe state, a record or the original in progress answers a retry, a
full record store holds it in its pool, and a malformed one is answered UNKNOWN_OP. f is what a fresh
request does. DEDUCED: assumption 169. -/
def arriveReq (s : State) (k op : Nat) (m : Msg) (f : State → Msg → State) : State :=
  if s.fab.coord.isNone || inSafe s then takeMsg s k m
  else
    let m' := { m with opcode := BitVec.ofNat 8 op }
    let regrant := decide (1 ≤ op) && decide (op ≤ 4)
    match arrive s m' with
    | .joined =>
      let s := bump (takeMsg s k m) (Reg.FPT_DEDUP k) 1
      { s with fab := { s.fab with inProgress := tset s.fab.inProgress (reqKey m') m' } }
    | .recorded r =>
      if regrant && r.status == sCOMPLETE then f (takeMsg s k m) m'
      else
        let s := bump (takeMsg s k m) (Reg.FPT_DEDUP k) 1
        sendMsg s (respMsg s m' (Resp.plain (if r.opcode = 0 then ackOpcode op else r.opcode) r.status r.cause r.xf r.value))
    | .fresh =>
      if storeFull s && !recordless op then s
      else
        let s := takeMsg s k m
        if malformed m' then answer (bump s (Reg.FPT_MALFORMED k) 1) m' (Resp.faulted (ackOpcode op) cUNKNOWN_OP)
        else f s m'

/-- A single request that names memory. -/
def memReq (port_ op : Nat) (msg : Msg) (s : State) : Host.Outcome State Fault Refusal :=
  .next (arriveReq s port_ op msg (fun s m => translateReq s port_ m))

/-- READ (R345). -/
def execRead (port_ : Nat) (msg : Msg) (s : State) : Host.Outcome State Fault Refusal := memReq port_ 0x11 msg s

/-- WRITE (R345). -/
def execWrite (port_ : Nat) (msg : Msg) (s : State) : Host.Outcome State Fault Refusal := memReq port_ 0x12 msg s

/-- WRITE_MASK (R345). -/
def execWriteMask (port_ : Nat) (msg : Msg) (s : State) : Host.Outcome State Fault Refusal := memReq port_ 0x13 msg s

/-- RD_SHARED (R198). -/
def execRdShared (port_ : Nat) (msg : Msg) (s : State) : Host.Outcome State Fault Refusal := memReq port_ 0x01 msg s

/-- RD_OWN (R198). -/
def execRdOwn (port_ : Nat) (msg : Msg) (s : State) : Host.Outcome State Fault Refusal := memReq port_ 0x02 msg s

/-- UPGRADE (R198). -/
def execUpgrade (port_ : Nat) (msg : Msg) (s : State) : Host.Outcome State Fault Refusal := memReq port_ 0x03 msg s

/-- OWN_FULL (R214). -/
def execOwnFull (port_ : Nat) (msg : Msg) (s : State) : Host.Outcome State Fault Refusal := memReq port_ 0x04 msg s

/-- RD_ONCE (R198). -/
def execRdOnce (port_ : Nat) (msg : Msg) (s : State) : Host.Outcome State Fault Refusal := memReq port_ 0x05 msg s

/-- WR_LINE (R198, R208). -/
def execWrLine (port_ : Nat) (msg : Msg) (s : State) : Host.Outcome State Fault Refusal := memReq port_ 0x06 msg s

/-- WR_PART (R198). -/
def execWrPart (port_ : Nat) (msg : Msg) (s : State) : Host.Outcome State Fault Refusal := memReq port_ 0x07 msg s

/-- ATOMIC (R346). -/
def execAtomic (port_ : Nat) (msg : Msg) (s : State) : Host.Outcome State Fault Refusal := memReq port_ 0x08 msg s

/-- PUBLISH (R217, R218). -/
def execPublish (port_ : Nat) (msg : Msg) (s : State) : Host.Outcome State Fault Refusal := memReq port_ 0x09 msg s

/-- EVICT_CLEAN (R198). -/
def execEvictClean (port_ : Nat) (msg : Msg) (s : State) : Host.Outcome State Fault Refusal := memReq port_ 0x0A msg s

/-- SIGNAL (R294). -/
def execSignal (port_ : Nat) (msg : Msg) (s : State) : Host.Outcome State Fault Refusal := memReq port_ 0x0C msg s

end Sys2Proof.Machine
end

