-- ==== Sys2Proof/Machine/Coherence.lean ====
section
/-!
DEFINITION. The home's side of recalls, write-backs and pushes (R198 to R214), the timed and internal steps of
the directory (R195, R197, R208 to R212), and the endpoint commands of R220.
-/

namespace Sys2Proof.Machine

/-! ### The end of a transaction -/

/-- A PUSH was accepted: the consumer is recorded in S, with a way by R196, or the transaction waits for the
victim's recalls, or for a way (R208). An accepted push is marked by a pushId beyond every REQID. -/
def acceptPush (s : State) (t : Txn) (ep : Nat) : State :=
  if !wantsWay s t.line 1 then addHolder (setTxns s (s.dirc.txns.erase t)) t.line ep false
  else
    let u := { t with pushId := 2 ^ 24 }
    match pickVictim s t.line t.who with
    | none => swapTxn s t u
    | some v =>
      let s := bump64 (purge s v) Reg.DIR_VICTIM_LO 1
      let (s, vs) := sendRecalls s v false (holdersFor s v 4 none)
      if vs.isEmpty then addHolder (setTxns (setEnt s v none) (s.dirc.txns.erase t)) t.line ep false
      else swapTxn s t { u with recalls := vs, victim := some v }

/-- A transaction whose requester need wait no longer serves it (R195, R200, R205, R206, R209); its slot is
kept while an answer is still owed. A requester whose own recall timed out completes POISONED. -/
def completeTxn (s : State) (t : Txn) : State :=
  if !t.active || !t.ready || !s.dirc.txns.contains t then s
  else if t.served then
    if !t.recalls.isEmpty then s
    else match t.push with
      | none => setTxns s (s.dirc.txns.erase t)
      | some ep => if t.pushId = 2 ^ 24 then acceptPush (settleCoarse s t) { t with victim := none } ep else s
  else
    let s := settleCoarse s t
    let s := if t.recalls.isEmpty then setTxns s (s.dirc.txns.erase t) else swapTxn s t { t with served := true }
    match t.who with
    | .req k m segs ten =>
      let op := m.opcode.toNat
      if t.poisoned && (op == 0x04 || opWant op == 4) then answer s m (Resp.plain (ackOpcode op) sPOISONED 0 0 0)
      else freeEmpty (runReq true s k m segs ten) t.line
    | .agent _ => s
    | .retire _ => s

/-- Complete every transaction that can be. -/
def completeAll (s : State) : State := s.dirc.txns.foldl completeTxn s

/-- The ACTIVE transaction and the recall that an answer belongs to: it echoes the recall's REQID and comes
from the recalled endpoint. DEDUCED: assumption 74. -/
def findRecall (s : State) (m : Msg) : Option (Txn × Recall) :=
  let mine := fun (r : Recall) => r.id == m.reqid.toNat && epCoord s r.ep == m.src.toNat
  match s.dirc.txns.find? (fun t => t.active && t.recalls.any mine) with
  | none => none
  | some t => (t.recalls.find? mine).map (fun r => (t, r))

/-- The sender of a message is a FAILED endpoint (R210). -/
def fromFailed (s : State) (m : Msg) : Bool :=
  match epOf s m.src.toNat with
  | some x => epState s x == 2
  | none => false

/-- A response of a host is taken out of its pool; before COORD_SET and in the fatal safe state nothing else
happens (R72, R479). -/
def arriveRsp (s : State) (k : Nat) (m : Msg) (f : State → State) : State :=
  let s := takeMsg s k m
  if s.fab.coord.isNone || inSafe s then s else f s

/-- The modified data of a host is written to its line (R200, R348). -/
def writeBack (s : State) (line : Nat) (m : Msg) : State :=
  if m.poison then storePoison s line else (store s (line * 128) (slice m.data 0 128)).2

/-- The recall is answered and the transaction may go on. -/
def recallDone (s : State) (t : Txn) (r : Recall) (kept : Bool) : State :=
  let u := dropRecall t r.line r.ep
  completeTxn (recallAnswered (swapTxn s t u) r kept (t.grants r.line)) u

/-- Whether a recall went out as RCL_SHARE. -/
def sharedRecall (t : Txn) (r : Recall) : Bool :=
  r.line == t.line && (t.who.want == 1 || t.who.want == 3)

/-- RCL_ACK (R192, R205): NP, DROPPED and DOWNGRADED answer the recall; NP_WB only when the data has come.
DEDUCED: assumption 75. -/
def execRclAck (port_ : Nat) (msg : Msg) (s : State) : Host.Outcome State Fault Refusal :=
  .next (arriveRsp s port_ msg (fun s =>
    match findRecall s msg with
    | none => s
    | some (t, r) =>
      let a := msg.xf.toNat
      if 4 ≤ a ∨ (a = 1 ∧ r.data = false) then s
      else recallDone s t r (a == 3 && sharedRecall t r && !r.data)))

/-- RCL_DATA (R200, R205, R206, R210): the host's data is the latest, and the recall is answered. -/
def execRclData (port_ : Nat) (msg : Msg) (s : State) : Host.Outcome State Fault Refusal :=
  .next (arriveRsp s port_ msg (fun s =>
    if fromFailed s msg then bump s Reg.DIR_LATE_DISCARD 1
    else match findRecall s msg with
      | none => s
      | some (t, r) => recallDone (writeBack s r.line msg) t r (sharedRecall t r)))

/-- The line that a write-back names: by PPA, or by the address its host used, without a fault record
(R193, R565). -/
def wbackLine (s : State) (m : Msg) : Option Nat :=
  let a := m.addr.toNat
  let fromUnit := fun (r : UnitRes) => match r with
    | .ok e _ => some (ppaOf e.extent (a % 2 ^ 30) / 128)
    | _ => none
  if m.akind = 2 then (if ppaOk (a / 128 * 128) 128 then some (a / 128) else none)
  else if m.akind = 0 then
    match ctxTenant s m.context.toNat with
    | none => none
    | some t => fromUnit (unitXl s 0 t a 0 m.src.toNat).2
  else if m.akind = 1 then fromUnit (unitXl s 1 0 a 0 m.src.toNat).2
  else
    let ppa := a % 2 ^ 42
    if a / 2 ^ 42 = rf s Reg.XLT_LEGACY_CTL 9 0 ∧ ppaOk (ppa / 128 * 128) 128 = true then some (ppa / 128) else none

/-- Discard a write-back, count it, and say so (R199, R565). DEDUCED: assumption 77. -/
def refuseWback (s : State) (m : Msg) (cause : Nat) : State :=
  answer (bump s Reg.DIR_LATE_DISCARD 1) m (Resp.faulted 0x4A cause)

/-- A write-back is acknowledged, over the mirror where its line is mirrored (R310). -/
def ackWback (s : State) (line : Nat) (m : Msg) : State :=
  answerWrite s m (Resp.plain 0x4A sCOMPLETE 0 0 0) [(line * 128, 128)] (unmasked (slice m.data 0 128))

/-- WBACK (R198, R199, R205, R206, R210, R565). DEDUCED: assumption 77. -/
def execWback (port_ : Nat) (msg : Msg) (s : State) : Host.Outcome State Fault Refusal :=
  let m := { msg with opcode := 0x52#8 }
  .next (arriveRsp s port_ msg (fun s =>
    if fromFailed s m then bump s Reg.DIR_LATE_DISCARD 1
    else match wbackLine s m with
      | none => refuseWback s m cTRANSLATION
      | some line =>
        if !coherentLine s line then refuseWback s m cNOT_COHERENT
        else
          let owner := match dirEnt s line with
            | some e => e.st == 3 && (match epOf s m.src.toNat with
              | some x => e.ptrs == [x]
              | none => false)
            | none => false
          if !owner then
            let (v, s) := free32 s
            refuseWback s m (v.toNat % 256)
          else
            let x := (epOf s m.src.toNat).getD 0
            let s := ackWback (setEnt (writeBack s line m) line none) line m
            match recallTxn s line x with
            | none => s
            | some t =>
              let u := { t with recalls := t.recalls.map (fun r =>
                if r.line = line ∧ r.ep = x then { r with data := true } else r) }
              let s := swapTxn s t u
              let n := s.dirc.allocs
              completeTxn (if t.grants line then holdWay { s with dirc := { s.dirc with allocs := n + 1 } } line n else s) u))

/-- PUSH_ACK (R208): accepted, the consumer is recorded in S; declined, the line stays uncached.
DEDUCED: assumption 74. -/
def execPushAck (port_ : Nat) (msg : Msg) (s : State) : Host.Outcome State Fault Refusal :=
  .next (arriveRsp s port_ msg (fun s =>
    match s.dirc.txns.find? (fun t => t.pushId == msg.reqid.toNat && (match t.push with
      | some x => epCoord s x == msg.src.toNat
      | none => false)) with
    | none => s
    | some t =>
      let ep := t.push.getD 0
      if bit msg.xf.toNat 0 && epState s ep == 1 then acceptPush s t ep else setTxns s (s.dirc.txns.erase t)))

/-! ### Internal and timed steps -/

/-- TRANSACTION_ACTIVATE (R195, R34). -/
def execTransactionActivate (line : Nat) (s : State) : Host.Outcome State Fault Refusal :=
  match activateNext s line with
  | (s, none) => .next s
  | (s, some t) => .next (completeTxn s t)

/-- Put a held request to its slice again (R197). -/
def resumeHeld (s : State) (h : Nat × TxnWho × Nat) : State :=
  match h.2.1 with
  | .req k m segs ten => runReq false s k m segs ten
  | .agent _ => s
  | .retire x => beginTxn s h.2.2 (.retire x)

/-- REQ_INPUT_RESUME (R197, R221): what the slice held enters it again in order, and the KCLK cycles of the
hold are counted. -/
def execReqInputResume (slice_ : Nat) (s : State) : Host.Outcome State Fault Refusal :=
  let mine := s.dirc.heldReq.filter (fun h => dirSlice h.2.2 == slice_)
  let s := (s.dirc.txns.filter (fun t => t.pushId == 2 ^ 24 && t.recalls.isEmpty && dirSlice t.line == slice_)).foldl
    (fun s t => acceptPush s t (t.push.getD 0)) s
  match mine.head? with
  | none => .next s
  | some h =>
    let s := bump s Reg.DIR_REQHOLD ((now s - h.1) * 8 / 5)
    let s := { s with dirc := { s.dirc with heldReq := s.dirc.heldReq.filter (fun h => dirSlice h.2.2 != slice_) } }
    .next (mine.foldl resumeHeld s)

/-- RECALL_TO in ns (R221). -/
def recallTo (s : State) : Nat := rf s Reg.DIR_CTL 7 0 * 1000

/-- An endpoint fails: its retirement, if one runs, ends with CONFLICT (R210, R220), and the transactions that
waited for it go on. -/
def failAndGoOn (s : State) (x cause : Nat) : State :=
  let s := failEndpoint s x cause
  let s := { s with dirc := { s.dirc with retiring := s.dirc.retiring.filter (fun y => y != x) } }
  completeAll (finishAll s (fun w => w == .endpointRetire x) stCONFLICT [])

/-- RECALL_TIMEOUT (R209, R210). -/
def execRecallTimeout (line coord : Nat) (s : State) : Host.Outcome State Fault Refusal :=
  match epOf s coord with
  | none => .next s
  | some x => match recallTxn s line x with
    | none => .next s
    | some t => match t.recalls.find? (fun r => r.line == line && r.ep == x) with
      | none => .next s
      | some r => .next (failAndGoOn (reach s (r.sent + recallTo s)) x 0)

/-- PUSH_ACK_TIMEOUT (R208): the line is left uncached. -/
def execPushAckTimeout (line : Nat) (s : State) : Host.Outcome State Fault Refusal :=
  match s.dirc.txns.find? (fun t => t.line == line && t.push.isSome && t.pushId != 2 ^ 24) with
  | none => .next s
  | some t => .next (setTxns (reach s (t.pushAt + recallTo s)) (s.dirc.txns.erase t))

/-- ENDPOINT_SWEEP_END (R210 to R212): the rest of the directory is swept, ENDPOINT_FAILED is sent, and the
final reply of ENDPOINT_FAIL leaves with the same counts. DEDUCED: assumption 78. -/
def execEndpointSweepEnd (endpoint : Nat) (s : State) : Host.Outcome State Fault Refusal :=
  match s.dirc.sweep with
  | none => .next s
  | some (x, _) =>
    if x ≠ endpoint then .next s
    else
      let s := reach s (s.dirc.sweepAt + 163840)
      let s := (s.dirc.entries.map (fun e => e.1)).foldl purge s
      let (cause, l, p) := match s.dirc.sweep with
        | some (_, c, l, p) => (c, l, p)
        | none => (0, 0, 0)
      let s := { s with dirc := { s.dirc with
        sweep := s.dirc.sweepNext.head?, sweepNext := s.dirc.sweepNext.drop 1, sweepAt := now s } }
      let s := eventW s 0x0011 1 [epCoord s x, cause, l, p]
      .next (finishAll s (fun w => w == .endpointFail x) stOK (leBytes 8 l ++ leBytes 8 p))

/-! ### Endpoint commands -/

/-- The endpoint that a command names, in a given state. -/
def epNamed (s : State) (coord : Word64) (st : Nat) : Option Nat :=
  match epOf s coord.toNat with
  | some x => if epState s x = st then some x else none
  | none => none

/-- ENDPOINT_FAIL (R210, R220). -/
def execEndpointFail (slot : Nat) (tag : Word32) (coord : Word64) (s : State) : Host.Outcome State Fault Refusal :=
  .next (runTwin slot 0x0430 tag [coord] (!onlyBits coord 0x1FFFF) s (fun s =>
    match epNamed s coord 1 with
    | none => (s, .done stINVALID [])
    | some x => (failAndGoOn s x 1, .defer [] (.endpointFail x))))

/-- ENDPOINT_READMIT (R215, R220): BUSY while the endpoint's sweep runs. -/
def execEndpointReadmit (slot : Nat) (tag : Word32) (coord : Word64) (s : State) : Host.Outcome State Fault Refusal :=
  .next (runTwin slot 0x0431 tag [coord] (!onlyBits coord 0x1FFFF) s (fun s =>
    match epNamed s coord 2 with
    | none => (s, .done stINVALID [])
    | some x =>
      if (s.dirc.sweep.map (fun e => e.1)) = some x ∨ s.dirc.sweepNext.any (fun e => e.1 == x) = true then
        (s, .done stBUSY [])
      else (setEp s x coord.toNat 1, Rep.ok)))

/-- The lines that an endpoint holds by pointer. -/
def heldBy (s : State) (x : Nat) : List Nat :=
  (s.dirc.entries.filter (fun e => e.2.st != 2 && e.2.ptrs.contains x)).map (fun e => e.1)

/-- ENDPOINT_RETIRE (R220): every line the endpoint holds by pointer is recalled. DEDUCED: assumption 79. -/
def execEndpointRetire (slot : Nat) (tag : Word32) (coord : Word64) (s : State) : Host.Outcome State Fault Refusal :=
  .next (runTwin slot 0x0432 tag [coord] (!onlyBits coord 0x1FFFF) s (fun s =>
    match epNamed s coord 1 with
    | none => (s, .done stINVALID [])
    | some x =>
      let s := (heldBy s x).foldl (fun s l => beginTxn s l (.retire x)) s
      let r := if s.dirc.retiring.contains x then s.dirc.retiring else s.dirc.retiring ++ [x]
      ({ s with dirc := { s.dirc with retiring := r } }, .defer [] (.endpointRetire x))))

/-- ENDPOINT_RETIRE_DONE (R220): when no entry names the endpoint by pointer its index is freed; a line that it
took meanwhile is recalled. -/
def execEndpointRetireDone (endpoint : Nat) (s : State) : Host.Outcome State Fault Refusal :=
  if !s.dirc.retiring.contains endpoint then .next s
  else if (heldBy s endpoint).isEmpty then
    let s := { s with dirc := { s.dirc with retiring := s.dirc.retiring.filter (fun y => y != endpoint) } }
    .next (finishAll (setEp s endpoint 0 0) (fun w => w == .endpointRetire endpoint) stOK [])
  else .next ((heldBy s endpoint).foldl (fun s l => beginTxn s l (.retire endpoint)) s)

end Sys2Proof.Machine
end

