-- ==== Sys2Proof/Machine/Arith.lean ====
section
/-!
DEFINITION. Numbers of the courses (R262 to R279): formats, exact values, rounding, the accumulator, and the
coding of elements.
-/

namespace Sys2Proof.Machine

/-! ### Exact values -/

/-- The exact value of a number: a finite one has a sign and the magnitude n / d. -/
inductive Num where
  | nan
  | inf (neg : Bool)
  | fin (neg : Bool) (n d : Nat)
  deriving DecidableEq, Repr

/-- A binary format: significant bits, exponent of the smallest normal, bias, exponent bits. -/
structure BinFmt where
  prec : Nat
  emin : Int
  bias : Int
  ebits : Nat
  deriving DecidableEq, Repr

def fmtFP32 : BinFmt := ⟨24, -126, 127, 8⟩
def fmtBF16 : BinFmt := ⟨8, -126, 127, 8⟩
def fmtFP16 : BinFmt := ⟨11, -14, 15, 5⟩

/-- The element formats of MX by code; INT8 as a magnitude with the step 2^-6 (R263). -/
def mxFmt (f : Nat) : BinFmt :=
  if f = 4 then ⟨4, -6, 7, 4⟩
  else if f = 5 then ⟨3, -14, 15, 5⟩
  else if f = 6 then ⟨4, 0, 1, 2⟩
  else if f = 7 then ⟨3, -2, 3, 3⟩
  else if f = 8 then ⟨2, 0, 1, 2⟩
  else ⟨7, 0, 0, 0⟩

/-- The width of an element in bits (R262). -/
def fmtBits (f : Nat) : Nat :=
  if f = 0 then 32 else if f = 1 ∨ f = 2 then 16 else if f = 3 then 256
  else if f = 6 ∨ f = 7 then 6 else if f = 8 then 4 else 8

/-- An MX format (R262). -/
def isMx (f : Nat) : Bool := decide (4 ≤ f) && decide (f ≤ 9)

/-- The exponent of the largest normal element of an MX format (R263). -/
def mxEmax (f : Nat) : Int :=
  if f = 4 then 8 else if f = 5 then 15 else if f = 6 then 2 else if f = 7 then 4 else if f = 8 then 2 else 0

/-- The largest magnitude of an MX element, in units of 2^-6 (R263). -/
def mxMax (f : Nat) : Nat :=
  if f = 4 then 448 * 64 else if f = 5 then 57344 * 64 else if f = 6 then 480 else if f = 7 then 28 * 64
  else if f = 8 then 6 * 64 else 127

/-- The largest integer e with 2^e at most n / d, for a magnitude other than zero. -/
def flog2 (n d : Nat) : Int :=
  let e : Int := (n.log2 : Int) - (d.log2 : Int)
  let fits := if 0 ≤ e then decide (d * 2 ^ e.toNat ≤ n) else decide (d ≤ n * 2 ^ (-e).toNat)
  if fits then e else e - 1

/-- The magnitude n / d divided by 2^q, as a fraction. -/
def scaleDown (n d : Nat) (q : Int) : Nat × Nat :=
  if 0 ≤ q then (n, d * 2 ^ q.toNat) else (n * 2 ^ (-q).toNat, d)

/-- Round the fraction n / d to an integer: to nearest even, or stochastically with the 16-bit value R
(R274, R275). -/
def roundInt (n d : Nat) (r : Option Nat) : Nat :=
  let m := n / d
  let x := n % d
  let up := match r with
    | none => decide (d < 2 * x) || (decide (2 * x = d) && m % 2 == 1)
    | some r => decide (65536 ≤ 65536 * x / d + r)
  if up then m + 1 else m

/-- Round the magnitude n / d to prec significant bits, on the subnormal grid below 2^emin: the result is
m × 2^q (R273 to R275). -/
def roundMag (prec : Nat) (emin : Int) (n d : Nat) (r : Option Nat) : Nat × Int :=
  if n = 0 then (0, 0)
  else
    let q := max (flog2 n d) emin - ((prec : Int) - 1)
    let (a, b) := scaleDown n d q
    (roundInt a b r, q)

/-- The stored bits of the magnitude m × 2^q of a format, with no check of its range. -/
def encodeMag (f : BinFmt) (m : Nat) (q : Int) : Nat :=
  if m = 0 then 0
  else
    let l := m.log2
    let e := q + (l : Int)
    if e < f.emin then m * 2 ^ (q - (f.emin - ((f.prec : Int) - 1))).toNat
    else (e + f.bias).toNat * 2 ^ (f.prec - 1) + (m * 2 ^ (f.prec - 1) / 2 ^ l - 2 ^ (f.prec - 1))

/-- The bit of the sign of a format. -/
def signBit (f : BinFmt) (neg : Bool) : Nat := b2n neg * 2 ^ (f.ebits + f.prec - 1)

/-- The stored bits of infinity of a format that has it. -/
def infBits (f : BinFmt) : Nat := (2 ^ f.ebits - 1) * 2 ^ (f.prec - 1)

/-- Round a value to FP32, BF16 or FP16 (R277). -/
def encodeNum (f : BinFmt) (v : Num) (r : Option Nat) : Nat :=
  match v with
  | .nan => infBits f + 2 ^ (f.prec - 2)
  | .inf neg => signBit f neg + infBits f
  | .fin neg n d =>
    let (m, q) := roundMag f.prec f.emin n d r
    signBit f neg + min (encodeMag f m q) (infBits f)

/-- The value of stored bits in an IEEE form. -/
def decodeNum (f : BinFmt) (w : Nat) : Num :=
  let frac := w % 2 ^ (f.prec - 1)
  let e := w / 2 ^ (f.prec - 1) % 2 ^ f.ebits
  let neg := w / 2 ^ (f.ebits + f.prec - 1) % 2 == 1
  if e = 2 ^ f.ebits - 1 then (if frac = 0 then .inf neg else .nan)
  else
    let m := if e = 0 then frac else frac + 2 ^ (f.prec - 1)
    let q : Int := (if e = 0 then f.emin else (e : Int) - f.bias) - ((f.prec : Int) - 1)
    if 0 ≤ q then .fin neg (m * 2 ^ q.toNat) 1 else .fin neg m (2 ^ (-q).toNat)

/-- The value of an FP32 pattern. -/
def ofFp32 (w : Nat) : Num := decodeNum fmtFP32 w

/-- Every NaN is 0x7FC00000 (R267, R285). -/
def nan32 : Nat := 0x7FC00000

/-- A subnormal pattern becomes zero of the same sign (R268). -/
def subnormal32 (w : Nat) : Bool := bits w 30 23 == 0 && bits w 22 0 != 0
def flush32 (w : Nat) : Nat := if subnormal32 w then w / 2 ^ 31 * 2 ^ 31 else w

/-- A NaN pattern in its one form. -/
def canon32 (w : Nat) : Nat := if ofFp32 w = .nan then nan32 else w

/-! ### UNPACK -/

/-- The value of an MX element without its scale (R263). -/
def mxValue (f e : Nat) : Num :=
  let g := mxFmt f
  if f = 9 then
    let i := sext 8 e
    .fin (decide (i < 0)) i.natAbs 64
  else if f = 5 then decodeNum g e
  else
    let frac := e % 2 ^ (g.prec - 1)
    let x := e / 2 ^ (g.prec - 1) % 2 ^ g.ebits
    let neg := e / 2 ^ (g.ebits + g.prec - 1) % 2 == 1
    if f = 4 ∧ x = 15 ∧ frac = 7 then .nan
    else
      let m := if x = 0 then frac else frac + 2 ^ (g.prec - 1)
      let q : Int := (if x = 0 then g.emin else (x : Int) - g.bias) - ((g.prec : Int) - 1)
      if 0 ≤ q then .fin neg (m * 2 ^ q.toNat) 1 else .fin neg m (2 ^ (-q).toNat)

/-- A finite value times 2^q. -/
def scaleUp (v : Num) (q : Int) : Num :=
  match v with
  | .fin neg n d => if 0 ≤ q then .fin neg (n * 2 ^ q.toNat) d else .fin neg n (d * 2 ^ (-q).toNat)
  | v => v

/-- Decode one element to FP32 before the flush (R267): raw bits, and the scale byte of its block. -/
def unpackRaw (f raw scale : Nat) : Nat :=
  if f = 0 then canon32 raw
  else if f = 1 then canon32 (raw * 65536)
  else if f = 2 then encodeNum fmtFP32 (decodeNum fmtFP16 raw) none
  else if scale = 0xFF then nan32
  else encodeNum fmtFP32 (scaleUp (mxValue f raw) ((scale : Int) - 127)) none

/-- Decode one element with the flush of R268: the FP32 pattern, and whether it was flushed. -/
def unpackElem (f raw scale : Nat) : Nat × Bool :=
  let w := unpackRaw f raw scale
  (flush32 w, subnormal32 w)

/-! ### The accumulator -/

/-- An accumulator (R269): the integer A in units of 2^-126, and the NaN flag. -/
structure Acc256 where
  a : Int
  nan : Bool
  deriving DecidableEq, Repr

/-- A fresh accumulator. -/
def Acc256.zero : Acc256 := ⟨0, false⟩

/-- Reduce an integer modulo 2^256 into two's complement (R270). -/
def wrap256 (i : Int) : Int := sext 256 (toField 256 i)

/-- The contribution of an FP32 value (R269). -/
def accOfNum (v : Num) : Acc256 :=
  match v with
  | .fin neg n d =>
    let m := roundInt (n * 2 ^ 126) d none
    ⟨if neg then -(m : Int) else (m : Int), false⟩
  | _ => ⟨0, true⟩

/-- The contribution of a stored ACC element (R266, R269). -/
def accOfRaw (w : Nat) : Acc256 := if w = 2 ^ 255 then ⟨0, true⟩ else ⟨sext 256 w, false⟩

/-- Add a contribution (R270). -/
def Acc256.add (x y : Acc256) : Acc256 := ⟨wrap256 (x.a + y.a), x.nan || y.nan⟩

/-- The stored form (R266). -/
def Acc256.raw (x : Acc256) : Nat := if x.nan then 2 ^ 255 else toField 256 x.a

/-- The exact value (R272). -/
def Acc256.num (x : Acc256) : Num := if x.nan then .nan else .fin (decide (x.a < 0)) x.a.natAbs (2 ^ 126)

/-! ### PACK -/

/-- The generator of R276: SEED, position, site. -/
def stochR (seed x site : Nat) : Nat :=
  let m := 2 ^ 64
  let z := (seed + (x + 1) * 0x9E3779B97F4A7C15 + site * 0xD1B54A32D192ED03) % m
  let z := (z ^^^ (z / 2 ^ 30)) * 0xBF58476D1CE4E5B9 % m
  let z := (z ^^^ (z / 2 ^ 27)) * 0x94D049BB133111EB % m
  (z ^^^ (z / 2 ^ 31)) % 65536

/-- The rounding choice at a site: none for RMODE other than 1 (R273). -/
def stoch (rmode seed x site : Nat) : Option Nat := if rmode = 1 then some (stochR seed x site) else none

/-- The largest of the magnitudes of a block, as a fraction; none when a value is NaN or infinite. -/
def blockMax : List Num → Option (Nat × Nat)
  | [] => some (0, 1)
  | .fin _ n d :: t => (blockMax t).map (fun m => if m.1 * d < n * m.2 then (n, d) else m)
  | _ :: _ => none

/-- The shared exponent X of a block (R279). -/
def blockExp (f : Nat) (m : Nat × Nat) : Int := max (-127) (min 127 (flog2 m.1 m.2 - mxEmax f))

/-- One element of a block whose shared exponent is X (R279). -/
def mxElem (f : Nat) (x : Int) (v : Num) (r : Option Nat) : Nat :=
  match v with
  | .fin neg n d =>
    let (n, d) := scaleDown n d x
    let big := mxMax f
    let (n, d) := if big * d < n * 64 then (big, 64) else (n, d)
    let g := mxFmt f
    let (m, q) := roundMag g.prec g.emin n d r
    let (a, b) := if 0 ≤ q then (m * 2 ^ q.toNat * 64, 1) else (m * 64, 2 ^ (-q).toNat)
    if f = 9 then toField 8 (if neg then -((min (a / b) big : Nat) : Int) else ((min (a / b) big : Nat) : Int))
    else
      let (m, q) := if big * b < a then (big, -6) else (m, q)
      signBit g neg + encodeMag g m q
  | _ => 0

/-- Encode a 32-element block (R279): the scale byte and the elements. rs: the rounding choices. -/
def packBlock (f : Nat) (vs : List Num) (rs : List (Option Nat)) : Nat × List Nat :=
  match blockMax vs with
  | none => (0xFF, vs.map (fun _ => 0))
  | some m =>
    if m.1 = 0 then (0, vs.map (fun _ => 0))
    else
      let x := blockExp f m
      ((x + 127).toNat, (vs.zip rs).map (fun e => mxElem f x e.1 e.2))

/-- What reaches PACK at a position: the accumulator, or a value (R227, R278). -/
inductive PackIn where
  | acc (a : Acc256)
  | val (w : Nat)
  deriving DecidableEq, Repr

/-- Its exact value. A = 0 is +0 (R272). -/
def PackIn.num : PackIn → Num
  | .acc a => a.num
  | .val w => ofFp32 w

/-- Encode one element of a format other than MX (R277, R278). -/
def packElem (f : Nat) (v : PackIn) (r : Option Nat) : Nat :=
  if f = 3 then match v with
    | .acc a => a.raw
    | .val w => (accOfNum (ofFp32 w)).raw
  else match f, v with
    | 0, .val w => w
    | 0, v => encodeNum fmtFP32 v.num r
    | 1, v => encodeNum fmtBF16 v.num r
    | _, v => encodeNum fmtFP16 v.num r

/-- Little-endian bit packing of elements of b bits (R265). -/
def packBits (b : Nat) : List Nat → Nat
  | [] => 0
  | e :: t => e % 2 ^ b + 2 ^ b * packBits b t

/-- The bytes of a list of elements of b bits, 8 elements at a time. -/
def elemBytes (b : Nat) : Nat → List Nat → List Byte
  | 0, _ => []
  | n + 1, es => if es.isEmpty then [] else leBytes (b * min 8 es.length / 8) (packBits b (es.take 8)) ++ elemBytes b n (es.drop 8)

/-- Cut a list into blocks of 32. -/
def blocks32 {α : Type} : Nat → List α → List (List α)
  | 0, _ => []
  | n + 1, l => if l.isEmpty then [] else l.take 32 :: blocks32 n (l.drop 32)

/-- Encode the positions x0 onward of one destination (R277 to R279): its element bytes, and its scale
bytes. -/
def packTile (f rmode seed site x0 : Nat) (vs : List PackIn) : List Byte × List Byte :=
  let rs := (List.range vs.length).map (fun i => stoch rmode seed (x0 + i) site)
  let b := fmtBits f
  let n := vs.length
  if isMx f then
    let bl := (blocks32 n (vs.zip rs)).map (fun l => packBlock f (l.map (fun e => e.1.num)) (l.map (fun e => e.2)))
    (elemBytes b n (bl.flatMap (fun e => e.2)), bl.flatMap (fun e => leBytes 1 e.1))
  else (elemBytes b n ((vs.zip rs).map (fun e => packElem f e.1 e.2)), [])

/-- The raw elements of b bits in a byte string: n of them. -/
def rawElems (b n : Nat) (l : List Byte) : List Nat :=
  (List.range n).map (fun i =>
    let lo := b * i
    leAt l (lo / 8) ((lo % 8 + b + 7) / 8) / 2 ^ (lo % 8) % 2 ^ b)

end Sys2Proof.Machine
end

