-- ==== Sys2Proof/Machine/Shape.lean ====
section
/-!
DEFINITION. SHAPE (R280 to R287): instructions, their exact results, the check of a program, and its run at one
position.
-/

namespace Sys2Proof.Machine

/-! ### Exact arithmetic -/

/-- Flip the sign. -/
def Num.flip : Num → Num
  | .nan => .nan
  | .inf s => .inf (!s)
  | .fin s n d => .fin (!s) n d

/-- The exact product. -/
def Num.mul (a b : Num) : Num :=
  match a, b with
  | .nan, _ => .nan
  | _, .nan => .nan
  | .inf s, .inf t => .inf (s != t)
  | .inf s, .fin t n _ => if n = 0 then .nan else .inf (s != t)
  | .fin s n _, .inf t => if n = 0 then .nan else .inf (s != t)
  | .fin s n d, .fin t m e => .fin (s != t) (n * m) (d * e)

/-- The exact sum: an exact zero is +0 unless both terms are -0. -/
def Num.add (a b : Num) : Num :=
  match a, b with
  | .nan, _ => .nan
  | _, .nan => .nan
  | .inf s, .inf t => if s = t then .inf s else .nan
  | .inf s, .fin _ _ _ => .inf s
  | .fin _ _ _, .inf t => .inf t
  | .fin s n d, .fin t m e =>
    let x := n * e
    let y := m * d
    if s = t then .fin s (x + y) (d * e)
    else if x = y then .fin false 0 1
    else if x < y then .fin t (y - x) (d * e)
    else .fin s (x - y) (d * e)

/-- The exact reciprocal. -/
def Num.recip : Num → Num
  | .nan => .nan
  | .inf s => .fin s 0 1
  | .fin s n d => if n = 0 then .inf s else .fin s d n

/-- Newton steps towards the integer square root, from above. -/
def isqrtGo : Nat → Nat → Nat → Nat
  | 0, _, x => x
  | k + 1, n, x =>
    let y := (x + n / x) / 2
    if x ≤ y then x else isqrtGo k n y

/-- The integer square root. -/
def isqrt (n : Nat) : Nat := if n = 0 then 0 else isqrtGo (n.log2 + 2) n (2 ^ (n.log2 / 2 + 1))

/-- The square root of n / d on a grid of 2^-k: exact where it lies on the grid, else the middle between its
two neighbours there, which rounds as the root itself does. -/
def sqrtFrac (k n d : Nat) : Nat × Nat :=
  let x := n * 4 ^ k / d
  let r := isqrt x
  if r * r * d = n * 4 ^ k then (r, 2 ^ k) else (2 * r + 1, 2 ^ (k + 1))

/-- The square root; RDEN's sum may cancel, so the grid is fine. -/
def Num.sqrt (a : Num) : Num :=
  match a with
  | .nan => .nan
  | .inf s => if s then .nan else .inf false
  | .fin s n d =>
    if n = 0 then .fin s 0 1
    else if s then .nan
    else
      let (m, e) := sqrtFrac 2048 n d
      .fin false m e

/-- 2^(2^-i) for i = 1, 2, … in units of 2^-256. -/
def twoRoots : Nat → Nat → List Nat
  | 0, _ => []
  | n + 1, x =>
    let r := isqrt (x * 2 ^ 256)
    r :: twoRoots n r

/-- 2^f of a fraction f = m / 2^k below 1, in units of 2^-256. -/
def exp2Frac (m k : Nat) : Nat :=
  ((List.range k).zip (twoRoots k (2 ^ 257))).foldl (fun x e =>
    if m.testBit (k - 1 - e.1) then x * e.2 / 2 ^ 256 else x) (2 ^ 256)

/-- 2^a. A magnitude below 2^-30 gives a result that rounds to 1. -/
def Num.exp2 (a : Num) : Num :=
  match a with
  | .nan => .nan
  | .inf s => if s then .fin false 0 1 else .inf false
  | .fin s n d =>
    if n * 2 ^ 30 < d then .fin false 1 1
    else if 256 * d ≤ n then (if s then .fin false 0 1 else .inf false)
    else
      let k := d.log2
      let i : Int := if s then -((n : Int)) else n
      let whole := i / (d : Int)
      let m := (i % (d : Int)).toNat
      if m = 0 then scaleUp (.fin false 1 1) whole
      else scaleUp (.fin false (2 * exp2Frac m k + 1) (2 ^ 257)) whole

/-- Binary digits of the logarithm of x / 2^400, which lies in [1, 2): k of them. -/
def log2Digits : Nat → Nat → Nat → Nat
  | 0, _, acc => acc
  | k + 1, x, acc =>
    let y := x * x / 2 ^ 400
    if 2 ^ 401 ≤ y then log2Digits k (y / 2) (2 * acc + 1) else log2Digits k y (2 * acc)

/-- log2(a): exact for powers of two. -/
def Num.log2 (a : Num) : Num :=
  match a with
  | .nan => .nan
  | .inf s => if s then .nan else .inf false
  | .fin s n d =>
    if n = 0 then .inf true
    else if s then .nan
    else
      let e := flog2 n d
      let (x, y) := scaleDown n d e
      if x = y then .fin (decide (e < 0)) e.natAbs 1
      else
        let v : Int := e * 2 ^ 121 + (2 * log2Digits 120 (x * 2 ^ 400 / y) 0 + 1 : Nat)
        .fin (decide (v < 0)) v.natAbs (2 ^ 121)

/-! ### Results as FP32 patterns -/

/-- Round a result to FP32, or to BF16 held as FP32, and flush it (R285). DEDUCED: assumption 97. -/
def shapeRound (bf16 : Bool) (v : Num) : Nat :=
  match v with
  | .nan => nan32
  | v => flush32 (if bf16 then encodeNum fmtBF16 v none * 65536 else encodeNum fmtFP32 v none)

/-- Flip the sign bit of a pattern. -/
def neg32 (w : Nat) : Nat := w ^^^ 2 ^ 31

/-- Order of two patterns that are not NaN, with +0 above -0. -/
def below32 (a b : Nat) : Bool :=
  let key := fun (w : Nat) => if w < 2 ^ 31 then ((w : Nat) : Int) else -(((w - 2 ^ 31 : Nat) : Int)) - 1
  decide (key a < key b)

/-- MAX and MIN (R285). -/
def max32 (a b : Nat) : Nat :=
  if ofFp32 a = .nan ∨ ofFp32 b = .nan then nan32 else if below32 a b then b else a
def min32 (a b : Nat) : Nat :=
  if ofFp32 a = .nan ∨ ofFp32 b = .nan then nan32 else if below32 b a then b else a

/-! ### Instructions -/

/-- One decoded instruction (R283). -/
structure Ins where
  opc : Nat
  p : Bool
  d : Nat
  a : Nat
  b : Nat
  c : Nat
  na : Bool
  nb : Bool
  nc : Bool
  s : Nat
  t : Nat
  reserved : Bool
  deriving DecidableEq, Repr

/-- Read an instruction's fields. -/
def insOf (w : Nat) : Ins :=
  { opc := bits w 5 0, p := bit w 6, d := bits w 12 8, a := bits w 17 13, b := bits w 22 18, c := bits w 27 23
    na := bit w 28, nb := bit w 29, nc := bit w 30, s := bits w 37 32, t := bits w 43 38
    reserved := bit w 7 || bit w 31 || bits w 63 44 != 0 }

/-- The operands an opcode uses: number of registers a, b, c, and whether s and t (R284); none for an opcode
outside the table. -/
def insUses (opc : Nat) : Option (Nat × Bool × Bool) :=
  if opc = 0x01 ∨ opc = 0x0B then some (1, false, false)
  else if opc = 0x02 ∨ opc = 0x03 ∨ opc = 0x04 ∨ opc = 0x09 ∨ opc = 0x0A then some (2, false, false)
  else if opc = 0x05 ∨ opc = 0x0D then some (3, false, false)
  else if opc = 0x06 ∨ opc = 0x07 then some (2, true, true)
  else if opc = 0x08 ∨ opc = 0x0C ∨ opc = 0x13 then some (1, true, true)
  else if opc = 0x10 ∨ opc = 0x11 ∨ opc = 0x12 ∨ opc = 0x14 ∨ opc = 0x15 then some (1, false, false)
  else none

/-- An instruction breaks R287, with the numbers of input streams, destinations and scalars. -/
def insBad (ins : Ins) (streams dests scalars : Nat) : Bool :=
  match insUses ins.opc with
  | none => true
  | some (n, us, ut) =>
    let reg := fun (r : Nat) => decide (r < 8) && decide (streams ≤ r)
    ins.reserved || (ins.p && decide (0x10 ≤ ins.opc))
      || decide (ins.d < 8) || (decide (ins.d < 12) && decide (dests ≤ ins.d - 8))
      || reg ins.a
      || (if 2 ≤ n then reg ins.b else ins.b != 0 || ins.nb)
      || (if 3 ≤ n then reg ins.c else ins.c != 0 || ins.nc)
      || (if us then decide (scalars ≤ ins.s) else ins.s != 0)
      || (if ut then decide (scalars ≤ ins.t) else ins.t != 0)

/-- The check of a program at its first dispatch (R287). -/
def progBad (prog : List Nat) (streams dests scalars : Nat) : Bool :=
  let is := prog.map insOf
  is.any (fun i => insBad i streams dests scalars)
    || (List.range dests).any (fun k => !is.any (fun i => i.d == 8 + k))

/-- The result of one instruction from its operand patterns (R284, R285). DEDUCED: assumption 97. -/
def insResult (ins : Ins) (a b c s t : Nat) : Nat :=
  let a := flush32 (if ins.na then neg32 a else a)
  let b := flush32 (if ins.nb then neg32 b else b)
  let c := flush32 (if ins.nc then neg32 c else c)
  let s := flush32 s
  let t := flush32 t
  let x := ofFp32 a
  let y := ofFp32 b
  let z := ofFp32 c
  let u := ofFp32 s
  let v := ofFp32 t
  let r := shapeRound ins.p
  if ins.opc = 0x01 then r x
  else if ins.opc = 0x02 then r (x.add y)
  else if ins.opc = 0x03 then r (x.add y.flip)
  else if ins.opc = 0x04 then r (x.mul y)
  else if ins.opc = 0x05 then r ((x.mul y).add z)
  else if ins.opc = 0x06 then r ((u.mul x).add (v.mul y))
  else if ins.opc = 0x07 then r ((u.mul x).add ((v.mul y).mul y))
  else if ins.opc = 0x08 then r ((u.mul x).add v)
  else if ins.opc = 0x09 then r (ofFp32 (max32 a b))
  else if ins.opc = 0x0A then r (ofFp32 (min32 a b))
  else if ins.opc = 0x0B then r (ofFp32 (a % 2 ^ 31))
  else if ins.opc = 0x0C then r (ofFp32 (min32 (max32 a s) t))
  else if ins.opc = 0x0D then r (if a < 2 ^ 31 then y else z)
  else if ins.opc = 0x10 then r x.recip
  else if ins.opc = 0x11 then r x.sqrt.recip
  else if ins.opc = 0x12 then r x.sqrt
  else if ins.opc = 0x13 then r ((u.mul x).sqrt.add v).recip
  else if ins.opc = 0x14 then r x.exp2
  else r x.log2

/-- Run one instruction on a register file of 32 patterns. -/
def insStep (scalars : List Nat) (regs : List Nat) (ins : Ins) : List Nat :=
  let reg := fun (k : Nat) => (regs[k]?).getD 0
  let sc := fun (k : Nat) => (scalars[k]?).getD 0
  regs.set ins.d (insResult ins (reg ins.a) (reg ins.b) (reg ins.c) (sc ins.s) (sc ins.t))

/-- Run a program at one position: the input streams fill I0 to I7, O and T start at +0 (R280). Answers the
outputs O0 to O3. -/
def shapeRun (prog : List Ins) (scalars inputs : List Nat) : List Nat :=
  let regs := (inputs ++ List.replicate (8 - inputs.length) 0).take 8 ++ List.replicate 24 0
  ((prog.foldl (insStep scalars) regs).drop 8).take 4

end Sys2Proof.Machine
end

