-- ==== Sys2Proof/Machine/Descr.lean ====
section
/-!
DEFINITION. Descriptors: the fields and errors of course descriptors (R225 to R229, R238 to R242) and of bulk
descriptors (R82, R83), the units they touch, and their translation into shadow entries (R80, R81, R242).
-/

namespace Sys2Proof.Machine

/-! ### Course descriptors -/

/-- One operand record (R239). -/
structure OpRec where
  addr : Nat
  kind : Nat
  role : Nat
  mode : Nat
  sum : Bool
  fmt : Nat
  coord : Nat
  idx : Nat
  row : Nat
  rows : Nat
  /-- A reserved bit is 1, or an address bit that the record's KIND does not use (R241). -/
  bad : Bool
  deriving DecidableEq, Repr

/-- Read a record's 16 bytes. -/
def opRecOf (b : List Byte) : OpRec :=
  let w := leAt b 0 8
  let v := leAt b 8 8
  { addr := bits w 51 0, kind := bits w 53 52, role := bits w 55 54, mode := bits w 57 56, sum := bit w 58
    fmt := bits w 63 59, coord := bits v 16 0, idx := bits v 23 20, row := bits v 39 24, rows := bits v 63 40
    bad := bits v 19 17 != 0 || (bits w 53 52 == 0 && bits w 51 48 != 0) }

/-- The header of a course descriptor (R238) and its records in use. -/
structure Course where
  op : Nat
  nops : Nat
  gang : Nat
  /-- TILE_ELEMS. -/
  tile : Nat
  oobStop : Bool
  rmode : Nat
  progLen : Nat
  elems : Nat
  prog : Nat
  signal : Nat
  signalAdd : Nat
  seed : Nat
  notBefore : Nat
  target : Nat
  recs : List OpRec
  bad : Bool
  deriving DecidableEq, Repr

/-- Read the 256 bytes of a course descriptor. -/
def courseOf (b : List Byte) : Course :=
  let w := leAt b 0 8
  let n := bits w 11 8
  { op := bits w 7 0, nops := n, gang := bits w 15 12, tile := (bits w 22 16 + 1) * 512, oobStop := bit w 23
    rmode := bits w 25 24, progLen := bits w 38 32, elems := bits (leAt b 8 8) 39 0, prog := bits (leAt b 16 8) 47 0
    signal := bits (leAt b 24 8) 47 0, signalAdd := leAt b 32 8, seed := leAt b 40 8, notBefore := leAt b 48 8
    target := leAt b 56 8
    recs := (List.range (min n 11)).map (fun j => opRecOf (slice b (64 + 16 * j) 16))
    bad := bits w 31 26 != 0 || bits w 63 39 != 0 || bits (leAt b 8 8) 63 40 != 0 || bits (leAt b 16 8) 63 48 != 0
      || bits (leAt b 24 8) 63 48 != 0 }

/-- A STREAM descriptor. -/
def Course.isStream (c : Course) : Bool := c.op == 0x20

/-- A record by its number. -/
def Course.record (c : Course) (j : Nat) : OpRec := (c.recs[j]?).getD (opRecOf [])

/-- The records with their numbers. -/
def Course.ops (c : Course) : List (Nat × OpRec) := (List.range c.recs.length).zip c.recs

/-- The kinds of records. -/
def OpRec.isDest (r : OpRec) : Bool := r.role == 1
def OpRec.isIndex (r : OpRec) : Bool := r.role == 2
def OpRec.isStream (r : OpRec) : Bool := r.role == 0 && r.mode == 0
def OpRec.isGather (r : OpRec) : Bool := r.role == 0 && r.mode == 1
def OpRec.isBcast (r : OpRec) : Bool := r.role == 0 && r.mode == 2
def OpRec.remote (r : OpRec) : Bool := decide (2 ≤ r.kind)

/-- The destinations, the sources that FETCH streams, and the BROADCAST operands, in record order. -/
def Course.dests (c : Course) : List (Nat × OpRec) := c.ops.filter (fun e => e.2.isDest)
def Course.srcs (c : Course) : List (Nat × OpRec) := c.ops.filter (fun e => e.2.isStream || e.2.isGather)
def Course.bcasts (c : Course) : List (Nat × OpRec) := c.ops.filter (fun e => e.2.isBcast)

/-- The number of SUM sources, and of SHAPE's input streams (R226, R281). -/
def Course.sums (c : Course) : Nat := (c.srcs.filter (fun e => e.2.sum)).length
def Course.streams (c : Course) : Nat :=
  (if c.sums = 0 then 0 else 1) + (c.srcs.length - c.sums) + c.bcasts.length

/-- The scalars of a descriptor: elements of its BROADCAST operands, at most 64 (R281). -/
def Course.scalars (c : Course) : Nat := min 64 ((c.bcasts.map (fun e => e.2.row)).foldl (· + ·) 0)

/-- Tiles of a descriptor. -/
def Course.tiles (c : Course) : Nat := (c.elems + c.tile - 1) / c.tile

/-- Bytes of n elements of a format, scales included (R262, R264). -/
def fmtLen (f n : Nat) : Nat := n * fmtBits f / 8 + (if isMx f then n / 32 else 0)

/-- ROW of the GATHER that names an INDEX record. -/
def Course.indexRow (c : Course) (j : Nat) : Nat :=
  match c.ops.find? (fun e => e.2.isGather && e.2.idx == j) with
  | some e => max e.2.row 1
  | none => 1

/-- The bytes of operand j that n positions from the start take; for a table or a BROADCAST, all of it (R81,
R239). -/
def Course.opLen (c : Course) (j n : Nat) : Nat :=
  let r := c.record j
  if !c.isStream then 8
  else if r.isIndex then (n + c.indexRow j - 1) / c.indexRow j * 4
  else if r.isGather then fmtLen r.fmt (r.rows * r.row)
  else if r.isBcast then fmtLen r.fmt r.row
  else fmtLen r.fmt n

/-- The bytes that a tile of n positions takes of operand j in the tile buffer (R228). -/
def Course.tileLen (c : Course) (j n : Nat) : Nat :=
  let r := c.record j
  if r.isGather then fmtLen r.fmt n else c.opLen j n

/-- A format that its role does not allow (R262). -/
def fmtBad (r : OpRec) : Bool :=
  if r.isIndex then false
  else if r.isBcast then decide (2 < r.fmt)
  else if r.isGather then r.fmt == 3 || decide (9 < r.fmt)
  else decide (9 < r.fmt)

/-- A record of a STREAM descriptor that breaks R239, R241 or R262 on its own. -/
def Course.recBad (c : Course) (j : Nat) : Bool :=
  let r := c.record j
  r.bad || r.role == 3 || (r.role == 0 && r.mode == 3) || (r.isDest && decide (2 ≤ r.mode)) || (r.isIndex && r.mode != 0)
    || fmtBad r || (r.isBcast && (r.sum || r.row == 0 || decide (16384 < r.row)))
    || (r.isGather && (r.row % 32 != 0 || r.row == 0 || decide (16384 < r.row) || c.tile % max r.row 1 != 0
        || decide (c.nops ≤ r.idx) || !(c.record r.idx).isIndex))
    || (r.isIndex && (!c.ops.any (fun e => e.2.isGather && e.2.idx == j)
        || c.ops.any (fun e => e.2.isGather && e.2.idx == j && e.2.row != c.indexRow j)))

/-- A course descriptor has an error that can be seen before translation (R83, R225, R226, R228, R241, R499).
DEDUCED: assumption 92. -/
def Course.error (c : Course) (gangMax : Nat) (iso : Bool) : Bool :=
  let n := min c.tile c.elems
  let js := List.range c.recs.length
  (c.op != 0x20 && c.op != 0x21) || c.nops == 0 || decide (11 < c.nops) || c.bad || c.signal % 8 != 0
    || (if !c.isStream then
          c.nops != 1 || (c.record 0).bad || (c.record 0).kind != 0 || (c.record 0).role != 0 || (c.record 0).addr % 8 != 0
        else
          c.gang == 0 || decide (12 < c.gang) || decide (gangMax < c.gang) || decide (64 < c.progLen) || c.elems == 0
            || (c.ops.any (fun e => !e.2.isIndex && isMx e.2.fmt) && c.elems % 32 != 0)
            || js.any c.recBad || c.dests.isEmpty || decide (4 < c.dests.length) || decide (10 < c.sums)
            || decide (8 < c.streams) || (c.progLen == 0 && c.streams != 1)
            || js.any (fun j => !(c.record j).isBcast && decide (65536 < c.tileLen j n))
            || decide (262144 < (js.map (fun j => c.tileLen j n)).foldl (· + ·) 0)
            || (iso && c.ops.any (fun e => e.2.remote)))

/-- A DEST that is the in-place update of a STREAM source (R241, R242): the source's record. DEDUCED: assumption 93. -/
def Course.inPlace (c : Course) (j : Nat) : Option Nat :=
  let r := c.record j
  if !r.isDest then none
  else (c.ops.find? (fun e => e.2.isStream && e.2.kind == r.kind && e.2.addr == r.addr && e.2.fmt == r.fmt)).map (fun e => e.1)

/-! ### Bulk descriptors -/

/-- A bulk descriptor (R82). -/
structure Bulk where
  op : Nat
  srcKind : Nat
  dstKind : Nat
  context : Nat
  src : Nat
  dst : Nat
  srcCoord : Nat
  dstCoord : Nat
  length : Nat
  signal : Nat
  signalAdd : Nat
  pattern : Nat
  bad : Bool
  deriving DecidableEq, Repr

/-- Read the 64 bytes of a bulk descriptor. -/
def bulkOf (b : List Byte) : Bulk :=
  let w := leAt b 0 8
  let v := leAt b 24 8
  { op := bits w 7 0, srcKind := bits w 9 8, dstKind := bits w 11 10, context := bits w 29 16, src := leAt b 8 8
    dst := leAt b 16 8, srcCoord := bits v 16 0, dstCoord := bits v 48 32, length := bits (leAt b 32 8) 39 0
    signal := bits (leAt b 40 8) 47 0, signalAdd := leAt b 48 8, pattern := leAt b 56 8
    bad := bits w 15 12 != 0 || bits w 63 30 != 0 || bits v 31 17 != 0 || bits v 63 49 != 0
      || bits (leAt b 32 8) 63 40 != 0 || bits (leAt b 40 8) 63 48 != 0 }

/-- A MOVE. -/
def Bulk.isMove (d : Bulk) : Bool := d.op == 0x10

/-- An address bit that an operand's kind does not use (R83). -/
def bulkAddrBad (kind a : Nat) : Bool :=
  (kind == 0 && a / 2 ^ 48 != 0) || ((kind == 1 || kind == 3) && a / 2 ^ 52 != 0)

/-- A bulk descriptor has an error that can be seen before translation (R83). -/
def Bulk.error (d : Bulk) : Bool :=
  (d.op != 0x10 && d.op != 0x11) || d.length == 0 || decide (2 ^ 36 < d.length)
    || (d.isMove && decide (2 ≤ d.srcKind) && decide (2 ≤ d.dstKind)) || d.signal % 8 != 0 || d.bad
    || (d.isMove && bulkAddrBad d.srcKind d.src) || bulkAddrBad d.dstKind d.dst

/-- Tiles of a bulk descriptor: each successive 64 KiB (R92). -/
def Bulk.tiles (d : Bulk) : Nat := (d.length + 65535) / 65536

/-! ### Units and entries -/

/-- An operand to be translated: its field in the shadow, address kind, address, length and needs. -/
structure OpUnits where
  field : Nat
  kind : Nat
  addr : Nat
  len : Nat
  need : Nat
  deriving DecidableEq, Repr

/-- The range of an operand leaves its address space: 48 bits of a TVA, 40 bits within a window. -/
def OpUnits.leaves (u : OpUnits) : Bool :=
  if u.kind = 0 then decide (2 ^ 48 < u.addr + u.len) else decide (2 ^ 40 < u.addr % 2 ^ 40 + u.len)

/-- The operands of a course descriptor that take entries (R80, R242): an in-place destination lends its need to
its source. Field 11 is the program and field 16 the signal word. -/
def Course.units (c : Course) : List OpUnits :=
  let recs := if c.isStream then c.ops else c.ops.take 1
  let need := fun (j : Nat) (r : OpRec) =>
    if r.isDest then pWR + pCRS
    else if c.ops.any (fun e => c.inPlace e.1 == some j) then pRD + pWR + pCRS
    else pRD + pCRS
  let ops := (recs.filter (fun e => !e.2.remote && (c.inPlace e.1).isNone)).map (fun e =>
    { field := e.1, kind := e.2.kind, addr := e.2.addr, len := c.opLen e.1 c.elems, need := need e.1 e.2 : OpUnits })
  let prog := if c.isStream && c.progLen != 0 then
      [{ field := 11, kind := 0, addr := c.prog, len := c.progLen * 8, need := pRD + pCRS : OpUnits }]
    else []
  ops ++ prog ++ [{ field := 16, kind := 0, addr := c.signal, len := 8, need := pWR }]

/-- The operands of a bulk descriptor that take entries: field 0 the source, field 1 the destination. -/
def Bulk.units (d : Bulk) : List OpUnits :=
  let s := if d.isMove && decide (d.srcKind < 2) then
      [{ field := 0, kind := d.srcKind, addr := d.src, len := d.length, need := pRD : OpUnits }]
    else []
  let t := if d.dstKind < 2 then [{ field := 1, kind := d.dstKind, addr := d.dst, len := d.length, need := pWR : OpUnits }] else []
  s ++ t ++ [{ field := 16, kind := 0, addr := d.signal, len := 8, need := pWR }]

/-- The number of units that a range touches (R81). -/
def unitCount (a len : Nat) : Nat := if len = 0 then 0 else (a + len - 1) / 2 ^ 30 - a / 2 ^ 30 + 1

/-- The entries that a descriptor takes (R83). -/
def entryCount (us : List OpUnits) : Nat := (us.map (fun u => unitCount u.addr u.len)).foldl (· + ·) 0

/-- Errors of the units: more than 64 entries (R83), or a TVA range that leaves the 48 bits of its view. -/
def unitsBad (us : List OpUnits) : Bool := decide (64 < entryCount us) || us.any (fun u => u.kind == 0 && u.leaves)

/-- What the translation of a descriptor gives so far: entries, the fields' places in them, faults, and whether
the window table failed. -/
structure DescXl where
  entries : List ShEntry
  fields : List (Nat × Nat × Nat)
  faults : List Flt
  window : Bool
  deriving DecidableEq, Repr

/-- Translate the units of one operand (R86). A KIND = 0 window has no CRS bit (R78). -/
def xlUnits (kind tenant need src : Nat) : State → List (Nat × Nat) → State × List (UnitRes)
  | s, [] => (s, [])
  | s, (a, _) :: t =>
    let (s, r) := unitXl s kind tenant a need src
    let (s, rs) := xlUnits kind tenant need src s t
    (s, r :: rs)

/-- Translate every operand of a descriptor (R86). DEDUCED: assumption 92. -/
def xlDesc (tenant src : Nat) : State → List OpUnits → State × DescXl
  | s, [] => (s, { entries := [], fields := [], faults := [], window := false })
  | s, u :: t =>
    let parts := unitsOf 70 u.addr u.len
    let (s, rs) := xlUnits u.kind tenant u.need src s parts
    let (s, d) := xlDesc tenant src s t
    let es := rs.filterMap (fun r => match r with
      | .ok e _ => some e
      | _ => none)
    let fs := rs.filterMap (fun r => match r with
      | .fault f => some f
      | _ => none)
    let w := (u.kind == 1 && u.leaves) || rs.any (fun r => match r with
      | .window => true
      | _ => false)
    (s, { entries := es ++ d.entries, fields := (u.field, 0, es.length) :: d.fields, faults := fs ++ d.faults
          window := w || d.window })

/-- The fields with the first entry of each. -/
def placeFields : Nat → List (Nat × Nat × Nat) → List (Nat × Nat × Nat)
  | _, [] => []
  | k, (f, _, n) :: t => (f, k, n) :: placeFields (k + n) t

/-- FIRST and NUM of field j of a shadow. -/
def fieldOf (fs : List (Nat × Nat × Nat)) (j : Nat) : Nat × Nat :=
  match fs.find? (fun e => e.1 == j) with
  | some e => e.2
  | none => (0, 0)

/-- The operand fields of a course descriptor's shadow: an in-place destination has those of its source. -/
def Course.shadowFields (c : Course) (fs : List (Nat × Nat × Nat)) : List (Nat × Nat) :=
  (List.range 16).map (fun j => match c.inPlace j with
    | some i => fieldOf fs i
    | none => if j < c.recs.length ∨ j = 11 then fieldOf fs j else (0, 0))

/-- The operand fields of a bulk descriptor's shadow. -/
def bulkFields (fs : List (Nat × Nat × Nat)) : List (Nat × Nat) :=
  (List.range 16).map (fun j => if j < 2 then fieldOf fs j else (0, 0))

/-- The physical ranges of an operand: the PPA and length of each unit's part, from its entries. -/
def entryRanges (es : List ShEntry) (first addr len : Nat) : List (Nat × Nat) :=
  let us := unitsOf 70 addr len
  ((List.range us.length).zip us).map (fun e =>
    (ppaOf (((es[first + e.1]?).map (fun x => x.extent)).getD 0) (e.2.1 % 2 ^ 30), e.2.2))

/-- Two operands of a course descriptor overlap, other than a SOURCE and a DEST with the same KIND, ADDR and FMT
(R241). DEDUCED: assumption 93. -/
def Course.overlaps (c : Course) (es : List ShEntry) (fields : List (Nat × Nat)) : Bool :=
  let local_ := c.ops.filter (fun e => !e.2.remote)
  let rng := fun (j : Nat) => entryRanges es ((fields[j]?).getD (0, 0)).1 (c.record j).addr (c.opLen j c.elems)
  let same := fun (a b : OpRec) => a.kind == b.kind && a.addr == b.addr && a.fmt == b.fmt
    && ((a.role == 0 && b.isDest) || (a.isDest && b.role == 0))
  c.isStream && local_.any (fun a => local_.any (fun b => decide (a.1 < b.1) && !same a.2 b.2
    && (rng a.1).any (fun x => (rng b.1).any (fun y => decide (x.1 < y.1 + y.2) && decide (y.1 < x.1 + x.2)))))

/-- The extents of the destination entries, and of the source entries, of a descriptor (R252). -/
def Course.dieCount (c : Course) (es : List ShEntry) (fields : List (Nat × Nat)) (dest : Bool) (die : Nat) : Nat :=
  let of := c.ops.filter (fun e => if dest then e.2.isDest else e.2.role == 0)
  ((of.map (fun e =>
    let f := (fields[e.1]?).getD (0, 0)
    ((es.drop f.1).take f.2).filter (fun x => x.extent / 480 == die) |>.length))).foldl (· + ·) 0

/-- The bytes of a shadow: the header of R89 and its 64 entries (R90). -/
def ShEntry.word (e : ShEntry) : Nat :=
  1 + 2 * b2n e.rd + 4 * b2n e.wr + 8 * b2n e.atom + 16 * b2n e.coh + 32 * b2n e.mir + 64 * b2n e.viawin
    + 2 ^ 8 * (e.extent % 2 ^ 12) + 2 ^ 20 * (e.srcUnit % 2 ^ 22) + 2 ^ 42 * (e.epoch % 2 ^ 22)

/-- The header of a shadow (R89). -/
def Shadow.header (h : Shadow) : List Byte :=
  leBytes 8 (h.context + 2 ^ 14 * h.tenant + 2 ^ 22 * b2n h.course + 2 ^ 23 * h.entries.length + 2 ^ 30 * h.sigIdx
      + 2 ^ 36 * b2n h.held)
    ++ leBytes 8 h.era ++ leBytes 8 h.accepted ++ leBytes 8 h.origin
    ++ (List.range 16).flatMap (fun j =>
      let f := (h.operands[j]?).getD (0, 0)
      leBytes 2 (f.1 % 64 + 64 * f.2))

/-- A shadow's bytes. -/
def Shadow.toBytes (h : Shadow) : List Byte :=
  h.header ++ padTo 512 (h.entries.flatMap (fun e => leBytes 8 e.word))

end Sys2Proof.Machine
end

