-- ==== Sys2Proof/Machine/Streams.lean ====
section
/-!
DEFINITION. What a tile reads, computes and writes (R222 to R231, R348, R349): operands as bytes of the pool or of
an endpoint, the stations of a course on one tile, and the placing of its output.
-/

namespace Sys2Proof.Machine

/-! ### Jobs -/

/-- The descriptor, course or bulk, that holds shadow number sh. -/
def jobAt (s : State) (sh : Nat) : Option Job :=
  match s.sched.ctxs.findSome? (fun e => e.2.run.bind (fun r => if r.job.shadow = sh then some r.job else none)) with
  | some j => some j
  | none => (s.sched.bulk.find? (fun b => b.job.shadow == sh)).map (fun b => b.job)

/-- Rewrite the job that holds shadow number sh. -/
def updJob (s : State) (sh : Nat) (f : Job → Job) : State :=
  let run := fun (r : Run) => if r.job.shadow = sh then { r with job := f r.job } else r
  let cs := s.sched.ctxs.map (fun (e : Nat × Ctx) => (e.1, { e.2 with run := e.2.run.map run }))
  let bs := s.sched.bulk.map (fun b => if b.job.shadow = sh then { b with job := f b.job } else b)
  { s with sched := { s.sched with ctxs := cs, bulk := bs } }

/-- The first failure of a descriptor stands (R246). -/
def Job.failing (j : Job) (status cause : Nat) : Job :=
  { j with fail := match j.fail with
    | some f => some f
    | none => some (status, cause) }

/-- Rewrite one tile in flight. -/
def Job.tile (j : Job) (t : Nat) (f : Tile → Tile) : Job :=
  { j with flight := j.flight.map (fun x => if x.num = t then f x else x) }

/-- A job as it is accepted. -/
def Job.fresh (sh desc : Nat) : Job :=
  { shadow := sh, desc := desc, nextTile := 0, flight := [], tiles := 0, above := [], landed := [], asked := []
    lost := false, fail := none, held := false, recheck := false, acks := 0, phase := 0 }

/-- The shadow with a number. -/
def shadowAt (s : State) (sh : Nat) : Shadow :=
  tgetD s.xlt.shadows sh
    { context := 0, tenant := 0, course := false, entries := [], sigIdx := 0, held := false, era := 0, accepted := 0
      origin := 0, operands := [] }

/-! ### Operands -/

/-- An operand as an engine reaches it: its field in the shadow, address kind, address, endpoint, and its first
entry. -/
structure Opd where
  field : Nat
  kind : Nat
  addr : Nat
  coord : Nat
  first : Nat
  deriving DecidableEq, Repr

/-- Operand j of a course descriptor. -/
def Course.opd (c : Course) (h : Shadow) (j : Nat) : Opd :=
  let r := c.record j
  { field := j, kind := r.kind, addr := r.addr, coord := r.coord, first := ((h.operands[j]?).getD (0, 0)).1 }

/-- Operand j as tile t reads it: what comes of an endpoint for one tile serves no other. -/
def Course.tileOpd (c : Course) (h : Shadow) (t j : Nat) : Opd := { c.opd h j with field := j + 16 * (t + 1) }

/-- The program of a course descriptor. -/
def Course.progOpd (c : Course) (h : Shadow) : Opd :=
  { field := 11, kind := 0, addr := c.prog, coord := 0, first := ((h.operands[11]?).getD (0, 0)).1 }

/-- The two operands of a bulk descriptor. -/
def Bulk.srcOpd (d : Bulk) (h : Shadow) : Opd :=
  { field := 0, kind := d.srcKind, addr := d.src, coord := d.srcCoord, first := ((h.operands[0]?).getD (0, 0)).1 }
def Bulk.dstOpd (d : Bulk) (h : Shadow) : Opd :=
  { field := 1, kind := d.dstKind, addr := d.dst, coord := d.dstCoord, first := ((h.operands[1]?).getD (0, 0)).1 }

/-- The operand lies at an endpoint. -/
def Opd.remote (o : Opd) : Bool := decide (2 ≤ o.kind)

/-- The entries of a shadow that a range of a local operand uses (R93): their indices. -/
def Opd.entriesOf (o : Opd) (off len : Nat) : List Nat :=
  if o.remote || len == 0 then []
  else
    let u := (o.addr + off) / 2 ^ 30 - o.addr / 2 ^ 30
    List.range' (o.first + u) (unitCount (o.addr + off) len)

/-- The physical segments of a range of a local operand. -/
def Opd.segs (o : Opd) (h : Shadow) (off len : Nat) : List (Nat × Nat) :=
  let u := (o.addr + off) / 2 ^ 30 - o.addr / 2 ^ 30
  entryRanges h.entries (o.first + u) (o.addr + off) len

/-- Cut a range of an endpoint into requests of at most 256 B that do not cross a granule. DEDUCED: assumption 95. -/
def chunks : Nat → Nat → Nat → List (Nat × Nat)
  | 0, _, _ => []
  | n + 1, a, len =>
    if len = 0 then []
    else
      let k := min len (256 - a % 256)
      (a, k) :: chunks n (a + k) (len - k)

/-- The requests of a range of a remote operand. -/
def Opd.chunks (o : Opd) (off len : Nat) : List (Nat × Nat) := Machine.chunks (len / 256 + 2) (o.addr + off) len

/-- The key of bytes at an endpoint's address. -/
def Opd.key (o : Opd) (a : Nat) : Nat := o.field * 2 ^ 52 + a % 2 ^ 52

/-- A request to an operand's endpoint: kind 2 names its own physical space, kind 3 a window of another module
(R80). DEDUCED: assumption 95. -/
def Opd.msg (o : Opd) (s : State) (opcode a len : Nat) : Msg :=
  let m := mkMsg s 0 opcode o.coord
  { m with akind := if o.kind = 2 then 2 else 1, addr := BitVec.ofNat 52 a, arg := BitVec.ofNat 64 len }

/-- Every byte of a range can be read now. Lines that a host holds exclusively are recalled, and bytes of an
endpoint are asked for (R207, R345). -/
def ensureRead (sh : Nat) (o : Opd) (s : State) (off len : Nat) : Bool × State :=
  if o.remote then
    (o.chunks off len).foldl (fun (p : Bool × State) c =>
      let k := o.key c.1
      match jobAt p.2 sh with
      | none => (false, p.2)
      | some j =>
        if (tget j.landed k).isSome then p
        else if j.asked.contains k then (false, p.2)
        else
          let s := updJob p.2 sh (fun j => { j with asked := k :: j.asked })
          (false, ownRequest s (o.msg s 0x11 c.1 c.2) (.read sh k))) (true, s)
  else
    (o.segs (shadowAt s sh) off len).foldl (fun (p : Bool × State) e =>
      let (ok, s) := agentRange p.2 e.1 e.2 false
      (p.1 && ok, s)) (true, s)

/-- The same for a list of ranges of operands. -/
def ensureReads (sh : Nat) : State → List (Opd × Nat × Nat) → Bool × State
  | s, [] => (true, s)
  | s, (o, off, len) :: t =>
    let (x, s) := ensureRead sh o s off len
    let (y, s) := ensureReads sh s t
    (x && y, s)

/-- The die whose course runs tile t of a shadow's descriptor, or its first course where no tile is named; none for a
bulk descriptor, whose accesses all cross a die link. -/
def homeDie (s : State) (h : Shadow) (sh tile : Nat) : Option Nat :=
  if !h.course then none
  else match (tget s.sched.ctxs h.context).bind (fun c => c.run) with
    | none => none
    | some r =>
      let m := ((r.job.flight.find? (fun e => e.num == tile)).map (fun e => e.member)).getD 0
      if r.job.shadow = sh then (r.members[m]?).map (fun c => c / 2) else none

/-- Charge a descriptor's tenant for the segments of a range that lie on other dies (R491, R492). -/
def chargeRange (s : State) (sh tile : Nat) (segs : List (Nat × Nat)) : State :=
  let h := shadowAt s sh
  let d := homeDie s h sh tile
  chargeSegs s h.tenant (segs.filter (fun e => d != some (extOf e.1 / 480)))

/-- Read a range: its bytes, and whether a line of it is poisoned. -/
def fetch (sh : Nat) (o : Opd) (s : State) (off len : Nat) : List Byte × Bool × State :=
  if o.remote then
    let l := ((jobAt s sh).map (fun j => j.landed)).getD []
    let ps := (o.chunks off len).map (fun c => (tgetD l (o.key c.1) (false, []), c.2))
    (ps.flatMap (fun p => slice p.1.2 0 p.2), ps.any (fun p => p.1.1), s)
  else
    let segs := o.segs (shadowAt s sh) off len
    let (b, bad, s) := loadSegs (chargeRange s sh (o.field / 16 - 1) segs) segs
    (b, bad, s)

/-! ### Sources of a tile -/

/-- Positions of tile t: the first, and how many (R222). -/
def Course.span (c : Course) (t : Nat) : Nat × Nat := (t * c.tile, min c.tile (c.elems - t * c.tile))

/-- The element bytes, and the scale bytes, of n positions from x0 of an operand of total elements (R264): offset
and length. -/
def fmtSpan (f total x0 n : Nat) : List (Nat × Nat) :=
  let b := fmtBits f
  (x0 * b / 8, n * b / 8) :: (if isMx f then [(total * b / 8 + x0 / 32, n / 32)] else [])

/-- What a tile reads of a record, apart from rows of a table: ranges (R225, R229). -/
def Course.tileReads (c : Course) (t j : Nat) : List (Nat × Nat) :=
  let r := c.record j
  let (x0, n) := c.span t
  if r.isStream then fmtSpan r.fmt c.elems x0 n
  else if r.isIndex then [(x0 / c.indexRow j * 4, (n + c.indexRow j - 1) / c.indexRow j * 4)]
  else []

/-- What a tile writes to a destination. -/
def Course.tileWrites (c : Course) (t j : Nat) : List (Nat × Nat) :=
  let (x0, n) := c.span t
  if (c.record j).isDest then fmtSpan (c.record j).fmt c.elems x0 n else []

/-- The entries that tile t uses (R93): those of its ranges, and of the whole declared table of a GATHER. -/
def Course.tileEntries (c : Course) (h : Shadow) (t : Nat) : List Nat :=
  c.ops.flatMap (fun e =>
    let o := c.opd h e.1
    if e.2.remote then []
    else if e.2.isGather then o.entriesOf 0 (c.opLen e.1 c.elems)
    else (c.tileReads t e.1 ++ c.tileWrites t e.1).flatMap (fun x => o.entriesOf x.1 x.2))

/-- The indices of a tile for a GATHER record. DEDUCED: assumption 94. -/
def indicesOf (b : List Byte) : List Nat := (List.range (b.length / 4)).map (fun i => leAt b (4 * i) 4)

/-- The ranges of one row of a table; none for an index out of range (R229, R264). -/
def rowRanges (r : OpRec) (i : Nat) : List (Nat × Nat) :=
  if r.rows ≤ i then [] else fmtSpan r.fmt (r.rows * r.row) (i * r.row) r.row

/-- Elements with the scale of each from element bytes and scale bytes. -/
def scaled (f n : Nat) (eb sb : List Byte) : List (Nat × Nat) :=
  let es := rawElems (fmtBits f) n eb
  ((List.range n).zip es).map (fun e => (e.2, leAt sb (e.1 / 32) 1))

/-- Read a list of ranges of one operand. -/
def fetchAll (sh : Nat) (o : Opd) : State → List (Nat × Nat) → List (List Byte) × Bool × State
  | s, [] => ([], false, s)
  | s, (off, len) :: t =>
    let (b, x, s) := fetch sh o s off len
    let (bs, y, s) := fetchAll sh o s t
    (b :: bs, x || y, s)

/-- The elements that a STREAM source gives a tile. -/
def streamElems (sh : Nat) (c : Course) (h : Shadow) (t j : Nat) (s : State) : List (Nat × Nat) × Bool × State :=
  let (bs, bad, s) := fetchAll sh (c.tileOpd h t j) s (c.tileReads t j)
  (scaled (c.record j).fmt (c.span t).2 (bs.headD []) ((bs.drop 1).headD []), bad, s)

/-- The rows that a GATHER source gives a tile: an index out of range gives zeros. DEDUCED: assumption 94. -/
def rowElems (sh : Nat) (o : Opd) (r : OpRec) : State → List Nat → List (Nat × Nat) × Bool × State
  | s, [] => ([], false, s)
  | s, i :: t =>
    let (bs, x, s) := fetchAll sh o s (rowRanges r i)
    let row := if r.rows ≤ i then List.replicate r.row (0, 0)
      else scaled r.fmt r.row (bs.headD []) ((bs.drop 1).headD [])
    let (es, y, s) := rowElems sh o r s t
    (row ++ es, x || y, s)

/-- Everything the sources of a tile give: per record of a streamed source its elements; whether a poisoned line
was read; and the indices out of range. None while something is awaited (R171, R225, R229). -/
def tileSources (sh : Nat) (c : Course) (h : Shadow) (t : Nat) (s : State) :
    Option (List (Nat × List (Nat × Nat)) × Bool × Nat) × State :=
  let first := c.ops.flatMap (fun e => (c.tileReads t e.1).map (fun x => (c.tileOpd h t e.1, x.1, x.2)))
  let (ok, s) := ensureReads sh s first
  if !ok then (none, s)
  else
    let gathers := c.ops.filter (fun e => e.2.isGather)
    let (idx, bad, s) := gathers.foldl (fun (p : List (List Nat) × Bool × State) g =>
      let (bs, x, s) := fetchAll sh (c.tileOpd h t g.2.idx) p.2.2 (c.tileReads t g.2.idx)
      (p.1 ++ [indicesOf (bs.headD [])], p.2.1 || x, s)) ([], false, s)
    let rows := (gathers.zip idx).flatMap (fun e =>
      e.2.flatMap (fun i => (rowRanges e.1.2 i).map (fun x => (c.tileOpd h t e.1.1, x.1, x.2))))
    let (ok, s) := ensureReads sh s rows
    if !ok then (none, s)
    else
      let oob := ((gathers.zip idx).map (fun e => (e.2.filter (fun i => decide (e.1.2.rows ≤ i))).length)).foldl (· + ·) 0
      let (es, bad, s) := (gathers.zip idx).foldl (fun (p : List (Nat × List (Nat × Nat)) × Bool × State) e =>
        let (l, x, s) := rowElems sh (c.tileOpd h t e.1.1) e.1.2 p.2.2 e.2
        (p.1 ++ [(e.1.1, l.take (c.span t).2)], p.2.1 || x, s)) ([], bad, s)
      let (es, bad, s) := (c.ops.filter (fun e => e.2.isStream)).foldl
        (fun (p : List (Nat × List (Nat × Nat)) × Bool × State) e =>
          let (l, x, s) := streamElems sh c h t e.1 p.2.2
          (p.1 ++ [(e.1, l)], p.2.1 || x, s)) (es, bad, s)
      (some (es, bad, oob), s)

/-! ### UNPACK, COMBINE, SHAPE and PACK -/

/-- UNPACK of one source for SHAPE: FP32 patterns, and which were flushed (R267, R268). -/
def unpackSrc (r : OpRec) (es : List (Nat × Nat)) : List (Nat × Bool) :=
  es.map (fun e => if r.fmt = 3 then (encodeNum fmtFP32 (accOfRaw e.1).num none, false) else unpackElem r.fmt e.1 e.2)

/-- UNPACK of one SUM source: contributions, and which were flushed (R269). -/
def contribs (r : OpRec) (es : List (Nat × Nat)) : List (Acc256 × Bool) :=
  es.map (fun e =>
    if r.fmt = 3 then (accOfRaw e.1, false)
    else
      let (w, f) := unpackElem r.fmt e.1 e.2
      (accOfNum (ofFp32 w), f))

/-- The flushed elements of a list. -/
def countFlush {α : Type} (l : List (α × Bool)) : Nat := (l.filter (fun e => e.2)).length

/-- Turn streams over positions into the inputs of each position. -/
def byPosition (n : Nat) (ss : List (List Nat)) : List (List Nat) :=
  ss.foldr (fun st acc => List.zipWith (fun a l => a :: l) st acc) (List.replicate n [])

/-- The elements of a BROADCAST operand (R225, R281). -/
def bcastElems (r : OpRec) (b : List Byte) : List (Nat × Bool) :=
  (rawElems (fmtBits r.fmt) r.row b).map (fun e => unpackElem r.fmt e 0)

/-- What reaches PACK for each destination, over the positions of a tile, and the elements flushed (R223, R226,
R227, R280, R281). -/
def stations (c : Course) (prog : List Word64) (bcast : List (List Byte)) (t : Nat)
    (src : List (Nat × List (Nat × Nat))) : List (List PackIn) × Nat :=
  let (x0, n) := c.span t
  let of := fun (j : Nat) => ((src.find? (fun e => e.1 == j)).map (fun e => e.2)).getD []
  let sums := (c.srcs.filter (fun e => e.2.sum)).map (fun e => contribs e.2 (of e.1))
  let accs := sums.foldl (fun a l => List.zipWith (fun x y => Acc256.add x y.1) a l) (List.replicate n Acc256.zero)
  let plain := (c.srcs.filter (fun e => !e.2.sum)).map (fun e => unpackSrc e.2 (of e.1))
  let bs := (c.bcasts.zip bcast).map (fun e => bcastElems e.1.2 e.2)
  let spread := bs.map (fun l => (List.range n).map (fun i => (l[(x0 + i) % max l.length 1]?).getD (0, false)))
  let flushed := (sums.map countFlush).foldl (· + ·) 0 + ((plain ++ spread).map countFlush).foldl (· + ·) 0
  let nd := c.dests.length
  if c.progLen = 0 then
    let one : List PackIn := if c.sums = 0 then (((plain ++ spread).headD []).map (fun e => PackIn.val e.1))
      else accs.map PackIn.acc
    (List.replicate nd one, flushed)
  else
    let comb := ((List.range n).zip accs).map (fun e =>
      encodeNum fmtFP32 e.2.num (stoch c.rmode c.seed (x0 + e.1) 0))
    let streams := (if c.sums = 0 then [] else [comb]) ++ (plain ++ spread).map (fun l => l.map (fun e => e.1))
    let scal := (bs.flatMap (fun l => l.map (fun e => e.1))).take 64
    let outs := (byPosition n streams).map (fun ins => shapeRun (prog.map (fun w => insOf w.toNat)) scal ins)
    ((List.range nd).map (fun k => outs.map (fun o => PackIn.val ((o[k]?).getD 0))), flushed)

/-- The pieces of a tile's output: element bytes and scale bytes of each destination, joined where they meet. -/
def tilePieces (c : Course) (t : Nat) (outs : List (List PackIn)) : List Piece :=
  let x0 := (c.span t).1
  ((List.range c.dests.length).zip (c.dests.zip outs)).flatMap (fun e =>
    let j := e.2.1.1
    let f := e.2.1.2.fmt
    let (eb, sb) := packTile f c.rmode c.seed (1 + e.1) x0 e.2.2
    let lo := x0 * fmtBits f / 8
    let so := c.elems * fmtBits f / 8 + x0 / 32
    if sb.isEmpty then [{ op := j, off := lo, data := eb }]
    else if lo + eb.length = so then [{ op := j, off := lo, data := eb ++ sb }]
    else [{ op := j, off := lo, data := eb }, { op := j, off := so, data := sb }])

/-! ### PLACE -/

/-- The granules of a physical range, each with the mask of its bytes in the range. -/
def granuleMasks (a len : Nat) : List (Nat × Nat) :=
  (granulesOf a len).map (fun g =>
    let lo := max a (g * 256) - g * 256
    let hi := min (a + len) (g * 256 + 256) - g * 256
    (g, (2 ^ (hi - lo) - 1) * 2 ^ lo))

/-- Send the MIRROR_TILE of one granule (R381). -/
def mirrorTile (s : State) (bulk : Bool) (x sh desc tile g mask : Nat) (poison : Bool) : State :=
  let m := mkMsg s 0 0x15 (twinPeer s)
  let whole := mask == 2 ^ 256 - 1
  let m := { m with akind := 2, addr := BitVec.ofNat 52 (g * 256), context := BitVec.ofNat 14 x, poison := poison
                    xf := BitVec.ofNat 4 (b2n bulk + 2 * b2n (!whole))
                    arg := BitVec.ofNat 64 (tile % 2 ^ 32 + 2 ^ 32 * (desc % 2 ^ 32)) }
  let m := withData m ((if whole then [] else leBytes 32 mask) ++ stored s (g * 256) 256)
  let s := { s with twin := { s.twin with bytes := s.twin.bytes + msgSlots m * 16 } }
  ownRequestVia s (mirrorPort s (extOf (g * 256))) m (.mirrorTile sh tile)

/-- Write one physical segment of a tile: line by line through the directory in a coherent extent, with whole
pages gathered elsewhere; a tile that read a poisoned line writes poisoned lines (R171, R230, R231). -/
def placeSeg (s : State) (a : Nat) (b : List Byte) (poison : Bool) (push : Option Nat) : State :=
  let coh := (extRec s (extOf a)).coherent
  let ls := linesOf a b.length
  let s := if poison then ls.foldl storePoison s
    else if coh then (store s a b).2
    else (storeGathered (b.length / 4096 + 2) s a b).2
  let s := if coh then ls.foldl (fun s l => setEnt s l none) s else s
  match push with
  | none => s
  | some c => if coh && !poison then ls.foldl (fun s l => pushLine s l c (.agent true)) s else s

/-- Send the writes of one piece to an endpoint (R231, R348, R349). -/
def placeRemote (s : State) (o : Opd) (sh tile : Nat) (p : Piece) (poison : Bool) : State :=
  (o.chunks p.off p.data.length).foldl (fun s c =>
    let d := slice p.data (c.1 - (o.addr + p.off)) c.2
    let d := if poison then (List.range c.2).map (fun i => BitVec.ofNat 8 (poisonWord / 2 ^ (8 * ((c.1 + i) % 8)))) else d
    let m := withData { o.msg s 0x12 c.1 c.2 with poison := poison } d
    let s := updJob s sh (fun j => j.tile tile (fun t => { t with left := t.left + 1, want := t.want + c.2 }))
    ownRequest s m (.write sh tile)) s

/-- Write one piece of a tile, and send what the standby needs of it (R380, R383). -/
def placePiece (bulk : Bool) (x sh desc tile : Nat) (o : Opd) (push : Option Nat) (poison : Bool) (s : State) (p : Piece) :
    State :=
  if o.remote then placeRemote s o sh tile p poison
  else
    let segs := o.segs (shadowAt s sh) p.off p.data.length
    let s := chargeRange s sh tile segs
    let cut := (segs.foldl (fun (q : List (Nat × List Byte) × List Byte) e =>
      (q.1 ++ [(e.1, q.2.take e.2)], q.2.drop e.2)) ([], p.data)).1
    cut.foldl (fun s e =>
      let s := placeSeg s e.1 e.2 poison push
      if mirroring s && mirroredAt s e.1 then
        let lo := if poison then e.1 / 128 * 128 else e.1
        let hi := if poison then (e.1 + e.2.length + 127) / 128 * 128 else e.1 + e.2.length
        (granuleMasks lo (hi - lo)).foldl (fun s g =>
          let s := updJob s sh (fun j => j.tile tile (fun t => { t with left := t.left + 1, mirrored := true }))
          mirrorTile s bulk x sh desc tile g.1 g.2 poison) s
      else s) s

/-- Every line of a tile's output can be written now (R207). -/
def ensureWrites (sh : Nat) (os : Piece → Opd) (s : State) (ps : List Piece) : Bool × State :=
  ps.foldl (fun (q : Bool × State) p =>
    let o := os p
    if o.remote then q
    else (o.segs (shadowAt q.2 sh) p.off p.data.length).foldl (fun (q : Bool × State) e =>
      let (ok, s) := agentRange q.2 e.1 e.2 true
      (q.1 && ok, s)) q) (true, s)

end Sys2Proof.Machine
end

