-- ==== Sys2Proof/Machine/TimeSync.lean ====
section
/-!
DEFINITION. The common time base: local copies, time exchange, the group master, holdover and the
commands GROUP_SET to TIME_STEP (R30, R364 to R373, R394 to R396, R533).
-/

namespace Sys2Proof.Machine

/-- The nominal increment of 0.625 ns, in units of 2^-32 ns (R533). -/
def nominalInc : Nat := 2684354560

/-- Store the last measured offset, saturating (R395). -/
def setOffset (s : State) (o : Int) : State :=
  let c := max (-(2 ^ 31 : Int)) (min o (2 ^ 31 - 1))
  rput { s with tb := { s.tb with offset := o } } Reg.PWR_TB_OFFSET (toField 32 c)

/-- The increment that removes an offset over one exchange interval of 1 ms, within 200 ppm (R371).
DESIGN CHOICE: assumption 116. -/
def steerInc (o : Int) : Nat :=
  let d := (nominalInc : Int) * o / 1000000
  ((nominalInc : Int) + max (-536870) (min d 536870)).toNat

/-- Exchanges in a row after which the first lock is taken. DESIGN CHOICE: assumption 115. -/
def firstLockExchanges : Nat := 3

/-- Use one measured offset, the source's time less this module's (R371): before the first lock the time
base steps to the source's time in either direction once enough exchanges have been seen; afterwards an
offset above 1 ms is reported, once until TIME_STEP, and not corrected, and any other is corrected by rate.
DESIGN CHOICE: assumption 115. -/
def useOffset (s : State) (o : Int) : State :=
  let s := setOffset s o
  let s := { s with tb := { s.tb with missed := 0, good := s.tb.good + 1, holdover := false } }
  if !s.tb.everLocked then
    if s.tb.good < firstLockExchanges then s
    else
      let before := now s
      let after := ((before : Int) + o).toNat % 2 ^ 64
      let t := { s.tb with ns := after, locked := true, everLocked := true, pendingOffset := 0 }
      eventW { s with tb := t } 0x0021 0 [before, after]
  else if 1000000 < o.natAbs then
    let fault := s.tb.timeFault
    let s := { s with tb := { s.tb with locked := false, timeFault := true, pendingOffset := o } }
    if fault then s else eventW s 0x0022 2 [toField 64 o]
  else if s.tb.timeFault then { s with tb := { s.tb with pendingOffset := o } }
  else { s with tb := { s.tb with locked := true, inc := steerInc o, pendingOffset := o } }

/-! ### Groups -/

/-- The module belongs to a group (R396). -/
def inGroup (s : State) : Bool := rf s Reg.FPT_GRP_CTL 31 31 == 1

/-- The member of the group that a coordinate belongs to. -/
def memberOf (s : State) (c : Nat) : Option Nat :=
  (List.range 8).find? (fun m =>
    let w := rg s (Reg.FPT_GRP_MEM m)
    bit w 31 && bits w 16 5 == bits c 16 5)

/-- Ports that are UP and lead to a given member, nearest first by round trip is the caller's choice. -/
def memberPorts (s : State) (m : Nat) : List Nat :=
  (List.range 32).filter (fun k => portUp s k && memberOf s (peerCoord (port s k)) == some m)

/-- The port with the shortest measured round trip (R369). -/
def nearest (s : State) : List Nat → Option Nat
  | [] => none
  | k :: t => match nearest s t with
    | none => some k
    | some j => if (port s k).rttNs ≤ (port s j).rttNs then some k else some j

/-- Whether this module is a follower of its group's master in use. -/
def isFollower (s : State) : Bool :=
  inGroup s && rf s Reg.FPT_GRP_CTL 24 22 != rf s Reg.FPT_GRP_CTL 18 16

/-- The fabric port from which the time base is disciplined (R369). -/
def timePort (s : State) : Option Nat :=
  if isFollower s then nearest s (memberPorts s (rf s Reg.FPT_GRP_CTL 24 22))
  else if rf s Reg.PWR_TB_CTL 1 0 = 2 then some (rf s Reg.PWR_TB_CTL 6 2)
  else none

/-- The ports on which exchanges run: every path to a member, and the source (R367, R370). -/
def exchangePorts (s : State) : List Nat :=
  (List.range 32).filter (fun k => portUp s k &&
    ((inGroup s && (memberOf s (peerCoord (port s k))).isSome) || timePort s == some k))

/-- TIME_BASE_CORRECT (R30): a local copy is corrected from the master; it then agrees within 2 ns, and
which of these it holds is not given. DESIGN CHOICE: assumption 116. -/
def execTimeBaseCorrect (copy : Nat) (s : State) : Host.Outcome State Fault Refusal :=
  let d : Int := (Config.freeNat s.free % 5 : Nat)
  let t := { s.tb with skew := tset s.tb.skew copy (d - 2) }
  .next { s with tb := t, free := s.free + 1 }

/-- TIMESYNC (R324, R370): a request is answered with t1, t2 and t3, taken here at one instant.
DEDUCED: assumption 117. -/
def execTimesync (port_ : Nat) (flit : List Byte) (s : State) : Host.Outcome State Fault Refusal :=
  .next (ctrlFlit port_ flit 0x0C s (fun s pl =>
    if leAt pl 1 1 = 0 then
      let t := leBytes 8 (localNow s (8 + port_))
      emitCtrl s port_ 0x0C ([1, BitVec.ofNat 8 (b2n s.tb.locked), 0]
        ++ leBytes 4 (rf s Reg.FPT_GRP_CTL 15 0) ++ slice pl 8 8 ++ t ++ t)
    else s))

/-- TIMESYNC_ANSWER (R368, R370, R371): the member at the far end answers; the offset is used when the
answer comes over the source's path. -/
def execTimesyncAnswer (port_ : Nat) (flit : List Byte) (s : State) : Host.Outcome State Fault Refusal :=
  .next (ctrlFlit port_ flit 0x0C s (fun s pl =>
    if leAt pl 1 1 = 1 then
      let s := match memberOf s (peerCoord (port s port_)) with
        | none => s
        | some m =>
          let s := rputF s (Reg.FPT_GRP_MEM m) 30 30 1
          let named := rf s Reg.FPT_GRP_CTL 21 19 == m
          let since := if named then (if bit (leAt pl 2 1) 0 then some (s.tb.namedSince.getD (now s)) else none)
            else s.tb.namedSince
          { s with tb := { s.tb with memMissed := tset s.tb.memMissed m 0, namedSince := since } }
      if timePort s = some port_ then
        let t1 : Int := leAt pl 8 8
        let t2 : Int := leAt pl 16 8
        let t3 : Int := leAt pl 24 8
        let t4 : Int := localNow s (8 + port_)
        useOffset s (((t2 - t1) - (t4 - t3)) / 2)
      else s
    else s))

/-- Count one exchange with a member as unanswered until its answer comes; one that misses more than three is no
longer reached (R367, R368). -/
def missMember (s : State) (m : Nat) : State :=
  let n := tgetD s.tb.memMissed m 0 + 1
  let s := { s with tb := { s.tb with memMissed := tset s.tb.memMissed m n } }
  let since := if rf s Reg.FPT_GRP_CTL 21 19 = m then none else s.tb.namedSince
  if 3 < n then rputF { s with tb := { s.tb with namedSince := since } } (Reg.FPT_GRP_MEM m) 30 30 0 else s

/-- The other members of the group. -/
def otherMembers (s : State) : List Nat :=
  if inGroup s then (List.range 8).filter (fun m => bit (rg s (Reg.FPT_GRP_MEM m)) 31 && m != rf s Reg.FPT_GRP_CTL 18 16) else []

/-- Count this exchange with the source and with every member, on all its paths together; one to which no port is UP
misses it (R367, R373). DEDUCED: assumption 118. -/
def countExchange (s : State) : State :=
  let t := if isFollower s || rf s Reg.PWR_TB_CTL 1 0 == 2 then { s.tb with missed := s.tb.missed + 1 } else s.tb
  (otherMembers s).foldl missMember { s with tb := t }

/-- A request for the time leaves by a port (R370). -/
def askTime (s : State) (k : Nat) : State :=
  emitCtrl s k 0x0C ([0, 0, 0] ++ leBytes 4 (rf s Reg.FPT_GRP_CTL 15 0) ++ leBytes 8 (localNow s (8 + k)))

/-- TIME_EXCHANGE_TIMER (R370): every 1 ms a request leaves on each path in use. -/
def execTimeExchangeTimer (s : State) : Host.Outcome State Fault Refusal :=
  .next ((exchangePorts s).foldl askTime (countExchange s))

/-- The member that takes over as master: the next number above the lost one, wrapping, that this module
can reach, or itself (R368). DEDUCED: assumption 118. -/
def nextMaster (s : State) (lost : Nat) : Option Nat :=
  ((List.range' 1 8).map (fun i => (lost + i) % 8)).find? (fun m =>
    bit (rg s (Reg.FPT_GRP_MEM m)) 31
      && (m == rf s Reg.FPT_GRP_CTL 18 16 || bit (rg s (Reg.FPT_GRP_MEM m)) 30) && m != lost)

/-- Take a master and report MASTER_CHANGE (R368). DEDUCED: assumption 118. -/
def takeMaster (s : State) (m : Nat) : State :=
  let old := rf s Reg.FPT_GRP_CTL 24 22
  let s := rputF s Reg.FPT_GRP_CTL 24 22 m
  let s := { s with tb := { s.tb with missed := 0 } }
  eventW s 0x0020 1 [rf s Reg.FPT_GRP_CTL 15 0, old, m]

/-- MASTER_LOST (R367, R368): three exchanges with the master in use were missed. -/
def execMasterLost (s : State) : Host.Outcome State Fault Refusal :=
  let old := rf s Reg.FPT_GRP_CTL 24 22
  if isFollower s && decide (3 ≤ tgetD s.tb.memMissed old 0) then
    let s := rputF s (Reg.FPT_GRP_MEM old) 30 30 0
    match nextMaster s old with
    | none => .next s
    | some m => .next (takeMaster s m)
  else .next s

/-- MASTER_RETURN (R368): the named master has been reachable with a locked time base for 1 s. -/
def execMasterReturn (s : State) : Host.Outcome State Fault Refusal :=
  let named := rf s Reg.FPT_GRP_CTL 21 19
  match s.tb.namedSince with
  | none => .next s
  | some t =>
    if inGroup s && named != rf s Reg.FPT_GRP_CTL 24 22 then .next (takeMaster (reach s (t + 1000000000)) named)
    else .next s

/-- The source is lost: three exchanges with it were missed, or PTP, once it has been followed, names no time
transmitter on either network any more (R373, R409). -/
def sourceLost (s : State) : Bool :=
  decide (3 ≤ s.tb.missed)
    || (rf s Reg.PWR_TB_CTL 1 0 == 1 && !isFollower s && s.tb.everLocked && s.eth.best.isEmpty)

/-- TIME_HOLDOVER (R373): the source is lost; the time base goes on at the rate of the reference clock. -/
def execTimeHoldover (s : State) : Host.Outcome State Fault Refusal :=
  if sourceLost s && !s.tb.holdover then
    let t := { s.tb with holdover := true, locked := false, inc := nominalInc, good := 0 }
    .next (eventW { s with tb := t } 0x0023 1 [toField 64 s.tb.offset])
  else .next s

/-! ### Commands -/

/-- GROUP_SET (R364, R394, R396, R449). -/
def execGroupSet (slot : Nat) (tag : Word32) (group member master : Word64) (members : List Word64) (s : State) :
    Host.Outcome State Fault Refusal :=
  let bad := !atMost group 0xFFFF || !atMost member 7 || !atMost master 7 || members.length != 8
    || !members.all (fun w => onlyBits w 0x8001FFFF)
  .next (runCmd slot 0x0501 tag bad s (fun s =>
    if !members.any (fun w => bit w.toNat 31 && isOwn s (bits w.toNat 16 0)) then (s, .done stINVALID [])
    else
      let s := (members.zipIdx).foldl (fun s e => rput s (Reg.FPT_GRP_MEM e.2) e.1.toNat) s
      let w := group.toNat + 2 ^ 16 * member.toNat + 2 ^ 19 * master.toNat + 2 ^ 22 * master.toNat + 2 ^ 31
      let s := rput s Reg.FPT_GRP_CTL w
      ({ s with tb := { s.tb with memMissed := [], namedSince := none, missed := 0 } }, Rep.ok)))

/-- PWR_TB_STAT (R395). -/
def tbStat (s : State) : Nat :=
  b2n s.tb.locked + 2 * b2n s.tb.everLocked + 4 * b2n s.tb.holdover + 8 * b2n s.tb.timeFault

/-- GROUP_QUERY (R394, R449). -/
def execGroupQuery (slot : Nat) (tag : Word32) (s : State) : Host.Outcome State Fault Refusal :=
  .next (runCmd slot 0x0502 tag false s (fun s =>
    (s, Rep.words [rg s Reg.FPT_GRP_CTL, tbStat s, rg s Reg.PWR_TB_OFFSET])))

/-- TIME_SET (R369, R395). -/
def execTimeSet (slot : Nat) (tag : Word32) (src port_ : Word64) (s : State) : Host.Outcome State Fault Refusal :=
  .next (runCmd slot 0x0503 tag (!atMost src 2 || !atMost port_ 31) s (fun s =>
    let s := rput s Reg.PWR_TB_CTL (src.toNat + 4 * port_.toNat)
    ({ s with tb := { s.tb with missed := 0, good := 0 } }, Rep.ok)))

/-- TIME_STEP (R371, R394, R449): forward only, to the source's time. -/
def execTimeStep (slot : Nat) (tag : Word32) (s : State) : Host.Outcome State Fault Refusal :=
  .next (runCmd slot 0x0504 tag false s (fun s =>
    if s.tb.pendingOffset < 0 then (s, .done stCONFLICT [])
    else
      let before := now s
      let after := before + s.tb.pendingOffset.toNat
      let t := { s.tb with ns := after, timeFault := false, pendingOffset := 0 }
      let s := eventW { s with tb := t } 0x0021 0 [before, after]
      (s, Rep.words [after])))

end Sys2Proof.Machine
end

