-- ==== Sys2Proof/Machine/Ethernet.lean ====
section
/-!
DEFINITION. The Ethernet ports, PTP, the egress scheduler and the Ethernet commands (R397 to R420, R448).
-/

namespace Sys2Proof.Machine

/-- Count a frame that arrived with a good FCS (R419). DEDUCED: assumption 128. -/
def rxFrame (s : State) (k len : Nat) : State :=
  bump64 (bump64 s (Reg.ETH_RXFRM_LO k) 1) (Reg.ETH_RXBYTES_LO k) len

/-- Discard a frame and count it (R397, R399 to R401). DEDUCED: assumption 128. -/
def rxDrop (s : State) (k : Nat) : State := bump s (Reg.ETH_RXDROP k) 1

/-- The recovery load runs: the ROM offers itself or loads an image (R558, R562). -/
def inRecovery (s : State) : Bool := rf s Reg.PLN_BOOT 3 0 == 6 || rf s Reg.PLN_BOOT 3 0 == 7

/-- ETH_LINK_UP (R397, R554, R556): auto-negotiation and training of an enabled port are complete; without rails, and after
a halted start-up, no port trains. -/
def execEthLinkUp (port_ : Nat) (s : State) : Host.Outcome State Fault Refusal :=
  if 8 ≤ port_ ∨ s.pwr.rails = 0 ∨ rf s Reg.PLN_BOOT 3 0 = 8 ∨ rf s (Reg.ETH_CTL port_) 0 0 = 0 ∨ rf s (Reg.ETH_STAT port_) 1 0 = 3 then .next s
  else
    let s := rputF s (Reg.ETH_STAT port_) 1 0 2
    let n := port_ / 4
    let since := if tgetD s.boot.recPort n 0 = port_ then tdel s.boot.recSince n else s.boot.recSince
    .next { s with boot := { s.boot with recSince := since } }

/-- ETH_LINK_DOWN (R412, R419, R558): the link is down; the event copies of its network and the choice of
the recovery port follow ETH_STAT.LINK, and the peer's pause ends with the link. -/
def execEthLinkDown (port_ : Nat) (s : State) : Host.Outcome State Fault Refusal :=
  if 8 ≤ port_ ∨ rf s (Reg.ETH_STAT port_) 1 0 = 3 then .next s
  else
    let s := rputF (rputF s (Reg.ETH_STAT port_) 1 0 0) (Reg.ETH_STAT port_) 3 3 0
    let n := port_ / 4
    let since := if tgetD s.boot.recPort n 0 = port_ then tset s.boot.recSince n (now s) else s.boot.recSince
    .next { s with boot := { s.boot with recSince := since } }

/-- ETH_FRAME_DISCARD (R397, R399): the frame is discarded and counted; a frame with a bad FCS is counted
in ETH_FCSERR alone. -/
def execEthFrameDiscard (port_ length : Nat) (reason : EthDiscard) (s : State) :
    Host.Outcome State Fault Refusal :=
  match reason with
  | .badFcs => .next (bump s (Reg.ETH_FCSERR port_) 1)
  | .tooLong | .unsupported | .udpPort | .bufferFull => .next (rxDrop (rxFrame s port_ length) port_)

/-- The module's base MAC address, from its fuses, plus k (R398). -/
def macOf (k : Nat) : Nat := (Config.baseMac + k) % 2 ^ 48

/-- The IPv6 link-local address of a port, its MAC as a modified EUI-64 (R558). -/
def linkLocal (k : Nat) : Nat :=
  let m := macOf k
  let hi := (m / 2 ^ 24) ^^^ 0x020000
  0xFE80 * 2 ^ 112 + hi * 2 ^ 40 + 0xFFFE * 2 ^ 24 + m % 2 ^ 24

/-- ARP (R397): a request for the port's own IPv4 address is answered. -/
def execArp (port_ mac ip target : Nat) (s : State) : Host.Outcome State Fault Refusal :=
  let s := rxFrame s port_ 64
  if target = (ethPort s port_).ipv4 ∧ target ≠ 0 then .next (ethQueue s port_ 2 (.arp mac ip) 64)
  else .next s

/-- NEIGHBOUR_DISCOVERY (R397, R558): a solicitation for the port's own IPv6 address, or in the recovery
load for its link-local address, is answered. -/
def execNeighbourDiscovery (port_ mac ip target : Nat) (s : State) : Host.Outcome State Fault Refusal :=
  let s := rxFrame s port_ 90
  if (target = (ethPort s port_).ipv6 ∧ target ≠ 0) ∨ (inRecovery s = true ∧ target = linkLocal port_) then
    .next (ethQueue s port_ 2 (.neighbour mac ip) 90)
  else .next s

/-- ICMP_ECHO (R397): an echo to one of the port's own addresses is answered with its data. -/
def execIcmpEcho (port_ ip target ident seq : Nat) (data : List Byte) (s : State) :
    Host.Outcome State Fault Refusal :=
  let s := rxFrame s port_ (data.length + 46)
  let p := ethPort s port_
  if target ≠ 0 ∧ (target = p.ipv4 ∨ target = p.ipv6) then
    .next (ethQueue s port_ 2 (.echo ip ident seq data) (data.length + 46))
  else .next s

/-- PFC_FRAME (R399): with PFC_EN = 1 a frame for ROCE_PCP pauses or releases it; any other is not
supported and is discarded. -/
def execPfcFrame (port_ priority : Nat) (xoff : Bool) (s : State) : Host.Outcome State Fault Refusal :=
  let s := bump (rxFrame s port_ 64) (Reg.ETH_PFCRX port_) 1
  if rf s (Reg.ETH_CTL port_) 4 4 = 1 ∧ priority = rf s (Reg.ETH_CTL port_) 3 1 then
    .next (rputF s (Reg.ETH_STAT port_) 3 3 (b2n xoff))
  else .next (rxDrop s port_)

/-- Adjust the bytes of RoCEv2 frames in a receive buffer, and send PFC XOFF above 768 KiB and XON below
512 KiB (R399). -/
def roceFill (s : State) (k : Nat) (fill : Nat) : State :=
  let p := ethPort s k
  let pfc := rf s (Reg.ETH_CTL k) 4 4 == 1
  if pfc && !p.xoffSent && decide (786432 < fill) then
    bump (ethQueue (setEthPort s k { p with fill := fill, xoffSent := true }) k 2 (.pfc true) 64) (Reg.ETH_PFCTX k) 1
  else if pfc && p.xoffSent && decide (fill < 524288) then
    bump (ethQueue (setEthPort s k { p with fill := fill, xoffSent := false }) k 2 (.pfc false) 64) (Reg.ETH_PFCTX k) 1
  else setEthPort s k { p with fill := fill }

/-! ### PTP -/

/-- The PTP port of a network (R409). -/
def ptpPort (s : State) (net : Nat) : Nat :=
  if net = 0 then rf s Reg.ETH_PTP_CTL 11 10 else 4 + rf s Reg.ETH_PTP_CTL 13 12

/-- The better announced network: the lower priority word, and network A on a tie. -/
def ptpBest (s : State) : Option (Nat × Nat) :=
  match tget s.eth.best 0, tget s.eth.best 1 with
  | some a, some b => if b < a then some (1, b) else some (0, a)
  | some a, none => some (0, a)
  | none, some b => some (1, b)
  | none, none => none

/-- The outcome of the best master clock algorithm (R408 to R410): the module is time transmitter only with
TX_EN = 1, locked to its own source and not in holdover, and when the algorithm prefers it.
DESIGN CHOICE: assumption 132. -/
def ptpDecide (s : State) : State :=
  let mayTx := rf s Reg.ETH_PTP_CTL 1 1 == 1 && s.tb.locked && !s.tb.holdover
  match ptpBest s with
  | none => rputF s Reg.ETH_PTP_STAT 1 0 (if mayTx then 3 else 1)
  | some (net, q) =>
    if mayTx && decide (Config.ptpPriority < q) then rputF s Reg.ETH_PTP_STAT 1 0 3
    else rputF (rputF s Reg.ETH_PTP_STAT 1 0 2) Reg.ETH_PTP_STAT 2 2 net

/-- Feed a PTP offset to the discipline while PTP is the source in use (R369, R409). -/
def usePtp (s : State) (o : Int) : State :=
  if rf s Reg.PWR_TB_CTL 1 0 = 1 ∧ isFollower s = false then useOffset s o else s

/-- PTP_MESSAGE (R408 to R410): an Announce enters the best master choice; Sync and Follow_Up give t1 and
t2, after which a Delay_Req leaves; Delay_Resp gives t4 and so the offset; a Delay_Req is answered while
the module is time transmitter. -/
def execPtpMessage (port_ : Nat) (msg : PtpMsg) (s : State) : Host.Outcome State Fault Refusal :=
  let s := rxFrame s port_ 90
  let net := port_ / 4
  if rf s Reg.ETH_PTP_CTL 0 0 = 0 ∨ port_ ≠ ptpPort s net ∨ msg.domain ≠ rf s Reg.ETH_PTP_CTL 9 2 then
    .next (rxDrop s port_)
  else if msg.kind = 4 then
    let e := { s.eth with best := tset s.eth.best net msg.quality, announcedAt := tset s.eth.announcedAt net (now s) }
    .next (ptpDecide { s with eth := { e with announceMissed := 0 } })
  else if msg.kind = 2 then
    if rf s Reg.ETH_PTP_STAT 1 0 = 3 then .next (ethQueue s port_ 0 (.ptp 3 msg.origin msg.arrival) 90)
    else .next s
  else if rf s Reg.ETH_PTP_STAT 1 0 ≠ 2 ∨ rf s Reg.ETH_PTP_STAT 2 2 ≠ net then .next s
  else if msg.kind = 0 ∧ msg.twoStep = true then
    .next { s with eth := { s.eth with ptpT2 := msg.arrival } }
  else if msg.kind = 0 ∨ msg.kind = 1 then
    let t2 := if msg.kind = 0 then msg.arrival else s.eth.ptpT2
    let s := { s with eth := { s.eth with ptpT1 := msg.origin, ptpT2 := t2, ptpT3 := now s } }
    .next (ethQueue s port_ 0 (.ptp 2 (now s) 0) 90)
  else if msg.kind = 3 then
    let t1 : Int := s.eth.ptpT1
    let t2 : Int := s.eth.ptpT2
    let t3 : Int := s.eth.ptpT3
    let t4 : Int := msg.origin
    .next (usePtp s (((t1 - t2) + (t4 - t3)) / 2))
  else .next s

/-- ANNOUNCE_TIMEOUT (R409): the chosen port misses three announce intervals and time is taken from the
other port. -/
def execAnnounceTimeout (s : State) : Host.Outcome State Fault Refusal :=
  if rf s Reg.ETH_PTP_CTL 0 0 = 0 ∨ rf s Reg.ETH_PTP_STAT 1 0 ≠ 2 then .next s
  else
    let net := rf s Reg.ETH_PTP_STAT 2 2
    let s := { s with eth := { s.eth with best := tdel s.eth.best net } }
    .next (ptpDecide (rputF s Reg.ETH_PTP_STAT 2 2 (1 - net)))

/-- PTP_SET (R418, R420, R448). -/
def execPtpSet (slot : Nat) (tag : Word32) (ctl : Word64) (s : State) : Host.Outcome State Fault Refusal :=
  .next (runTwin slot 0x0446 tag [ctl] (!onlyBits ctl 0xFFFF || bits ctl.toNat 15 14 == 3) s (fun s =>
    let s := rput s Reg.ETH_PTP_CTL ctl.toNat
    let s := { s with eth := { s.eth with best := [], announceMissed := 0 } }
    (rput s Reg.ETH_PTP_STAT (if bit ctl.toNat 0 then 1 else 0), Rep.ok)))

/-! ### The egress scheduler -/

/-- The charge of a frame: its length, 20 B and OVH_EXTRA (R415). -/
def charge (s : State) (k : Nat) (f : EthFrame) : Nat := f.len + 20 + rf s (Reg.ETH_EGR_CTL k) 23 16

/-- The queue pair whose frame this is. -/
def frameQp : EthKind → Option Nat
  | .roceAck q _ _ => some q
  | .roceAtomic q _ _ => some q
  | .roceRead q _ _ _ => some q
  | .cnp q => some q
  | .ptp _ _ _ | .event _ _ | .reply _ _ | .alert _ | .arp _ _ | .neighbour _ _ | .echo _ _ _ _
  | .pfc _ | .spdm _ | .hello _ | .tftp _ _ _ => none

/-- A frame of a queue pair held by its rate limit does not compete (R406, R415). -/
def rateHeld (s : State) (f : EthFrame) : Bool :=
  match frameQp f.kind with
  | none => false
  | some q => match tget s.eth.qps q with
    | none => false
    | some p => decide (now s < p.nextAt)

/-- The gate entries of a port in order: the valid ones (R416). -/
def gateList (s : State) (base : Nat) : List Nat :=
  ((List.range 64).map (fun j => rg s (base + 4 * j))).filter (fun w => bit w 29)

/-- Whether the gates of a port let tenant t start a frame of the given charge now (R416). -/
def gateOpen (s : State) (k t chg : Nat) : Bool :=
  if rf s (Reg.ETH_EGR_CTL k) 24 24 = 0 then true
  else
    let p := ethPort s k
    match (gateList s (Reg.ETH_GATE k 0))[p.gate]? with
    | none => false
    | some w => (bit w 28 || bits w 27 20 == t) && decide (chg * 8 ≤ (p.gateEnd - now s) * 100)

/-- Whether the head frame of a queue may compete: RoCEv2 frames wait for the gates, the peer's pause, the
rate limit and a drain, and none leaves in the fatal safe state (R399, R415, R416, R418, R479). -/
def mayCompete (s : State) (k q : Nat) (f : EthFrame) : Bool :=
  if q < 16 then true
  else gateOpen s k (q - 16) (charge s k f) && !rateHeld s f && rf s (Reg.ETH_STAT k) 3 3 == 0
    && !(ethPort s k).draining && rf s Reg.PLN_SAFE 0 0 == 0

/-- The weight of a queue (R414). -/
def queueWeight (s : State) (k q : Nat) : Nat :=
  if q = 2 then max 1 (rf s (Reg.ETH_EGR_CTL k) 7 0) else max 1 (rf s (Reg.ETH_TW (q - 16)) 7 0)

/-- The finish tag of a queue's head frame, in charge units scaled by 2^16 (R415). -/
def headTag (s : State) (k q : Nat) (p : EthPort) (f : EthFrame) : Nat :=
  f.tag.getD (max p.virt (tgetD p.finish q 0) + charge s k f * 2 ^ 16 / queueWeight s k q)

/-- Give every head frame that has none its finish tag. -/
def tagHeads (s : State) (k : Nat) (p : EthPort) : EthPort :=
  p.queues.foldl (fun p e =>
    match e.2 with
    | [] => p
    | f :: rest =>
      if e.1 < 2 ∨ f.tag.isSome = true then p
      else
        let t := headTag s k e.1 p f
        { p with queues := tset p.queues e.1 ({ f with tag := some t } :: rest), finish := tset p.finish e.1 t }) p

/-- The weighted queue whose head has the smallest finish tag; the lower queue on a tie (R415). -/
def pickQueue (s : State) (k : Nat) (p : EthPort) : Option Nat :=
  let ready := p.queues.filter (fun e => decide (2 ≤ e.1) && (match e.2 with
    | [] => false
    | f :: _ => mayCompete s k e.1 f))
  (ready.foldl (fun (b : Option (Nat × Nat)) e => match e.2 with
    | [] => b
    | f :: _ =>
      let t := f.tag.getD 0
      match b with
      | none => some (e.1, t)
      | some (q, u) => if t < u then some (e.1, t) else some (q, u)) none).map (·.1)

/-- Bits the EVENT bucket holds now: it fills at EVENT_RATE × 100 Mb/s up to one longest frame (R414).
DEDUCED: assumption 127. -/
def eventTokens (s : State) (k : Nat) (p : EthPort) : Nat :=
  min 34816 (p.tokens + (now s - p.tokensAt) * rf s (Reg.ETH_EGR_CTL k) 15 8 / 10)

/-- Send the head frame of a queue. -/
def sendHead (s : State) (k q : Nat) (p : EthPort) : State :=
  match tgetD p.queues q [] with
  | [] => s
  | f :: rest =>
    let c := charge s k f
    let p := { p with queues := tset p.queues q rest }
    let p := if q = 1 then { p with tokens := eventTokens s k p - 8 * f.len, tokensAt := now s } else p
    let p := if 2 ≤ q then { p with virt := f.tag.getD p.virt } else p
    let s := setEthPort s k p
    let s := match frameQp f.kind with
      | none => s
      | some x => match tget s.eth.qps x with
        | none => s
        | some qp =>
          let qp := { qp with nextAt := max (now s) qp.nextAt + c * 8 * 1000 / max 1 qp.rate }
          { s with eth := { s.eth with qps := tset s.eth.qps x qp } }
    let s := bump64 (bump64 s (Reg.ETH_TXFRM_LO k) 1) (Reg.ETH_TXBYTES_LO k) f.len
    emit s (.frame k f)

/-- EGRESS_FRAME_SEND (R414 to R416): TIME first, EVENT next while its bucket allows, then the weighted
queue whose head has the smallest finish tag. -/
def execEgressFrameSend (port_ : Nat) (s : State) : Host.Outcome State Fault Refusal :=
  if ethUp s port_ = false then .next s
  else
    let p := tagHeads s port_ (ethPort s port_)
    let s := setEthPort s port_ p
    match tgetD p.queues 0 [], tgetD p.queues 1 [] with
    | _ :: _, _ => .next (sendHead s port_ 0 p)
    | [], f :: _ =>
      if 8 * f.len ≤ eventTokens s port_ p then .next (sendHead s port_ 1 p)
      else match pickQueue s port_ p with
        | none => .next s
        | some q => .next (sendHead s port_ q p)
    | [], [] => match pickQueue s port_ p with
      | none => .next s
      | some q => .next (sendHead s port_ q p)

/-- The position in a gate cycle: entry and its end, counted from the last multiple of the cycle (R416). -/
def gateAt (t cycle : Nat) (durs : List Nat) : Nat × Nat :=
  let pos := if cycle = 0 then 0 else t % cycle
  let r := durs.foldl (fun (a : Nat × Nat × Bool) d =>
    if a.2.2 then a
    else if pos < a.2.1 + d then (a.1, a.2.1 + d, true) else (a.1 + 1, a.2.1 + d, false)) (0, 0, false)
  (r.1, t - pos + r.2.1)

/-- Settings of EGRESS_SET that wait take effect at the start of a cycle (R417, R418). -/
def applyEgr (s : State) (k : Nat) : State :=
  match (ethPort s k).pendingEgr with
  | none => s
  | some (egr, cycle, list) =>
    let s := rput (rput s (Reg.ETH_EGR_CTL k) egr) (Reg.ETH_GATE_CYCLE k) cycle
    let s := (List.range 64).foldl (fun s j => rput s (Reg.ETH_GATE k j) ((list[j]?).getD 0)) s
    setEthPort s k { ethPort s k with pendingEgr := none }

/-- The next moment at which a gate entry of a port begins: the end of the open entry, or without gates the
next multiple of CYCLE. DEDUCED: assumption 58. -/
def nextGate (t fin cycle : Nat) (en : Bool) : Nat :=
  if en ∧ t < fin then fin else if cycle = 0 then t else (t / cycle + 1) * cycle

/-- Open the entry of Ethernet port k that begins next (R416). -/
def ethGateBoundary (s : State) (k : Nat) : State :=
  let p := ethPort s k
  let en := rf s (Reg.ETH_EGR_CTL k) 24 24 == 1
  let cycle := rg s (Reg.ETH_GATE_CYCLE k)
  let s := reach s (nextGate (now s) p.gateEnd cycle en)
  let s := if cycle ≠ 0 ∧ now s % cycle = 0 then applyEgr s k else s
  let g := gateAt (now s) (rg s (Reg.ETH_GATE_CYCLE k)) ((gateList s (Reg.ETH_GATE k 0)).map (fun w => bits w 19 0 * 8))
  setEthPort s k { ethPort s k with gate := g.1, gateEnd := g.2 }

/-! ### Commands -/

/-- ETH_PORT_SET (R397, R398, R418, R419, R448, R458). DEDUCED: assumption 131. -/
def execEthPortSet (slot : Nat) (tag : Word32) (port_ action ctl ip4 gw4 ip6lo ip6hi plen6 gw6lo gw6hi : Word64)
    (s : State) : Host.Outcome State Fault Refusal :=
  let bad := !atMost port_ 7 || !atMost action 2 || !onlyBits ctl 0x1FFFF || !onlyBits ip4 0x3FFFFFFFFF
    || decide (32 < bits ip4.toNat 37 32) || !onlyBits gw4 0xFFFFFFFF || !atMost plen6 128
  .next (runTwin slot 0x0440 tag [port_, action, ctl, ip4, gw4, ip6lo, ip6hi, plen6, gw6lo, gw6hi] bad s (fun s =>
    let k := port_.toNat
    let p := ethPort s k
    if action = 0#64 then
      let s := rputF s (Reg.ETH_CTL k) 16 1 (bits ctl.toNat 16 1)
      let p :=
        { p with ipv4 := bits ip4.toNat 31 0, plen4 := bits ip4.toNat 37 32, gw4 := gw4.toNat
                 ipv6 := ip6lo.toNat + 2 ^ 64 * ip6hi.toNat, plen6 := plen6.toNat
                 gw6 := gw6lo.toNat + 2 ^ 64 * gw6hi.toNat }
      (setEthPort s k p, Rep.ok)
    else if action = 1#64 then
      if p.draining then (cancelWaits s (fun w => w == .ethEnable k), .defer [] (.ethDisable k))
      else if rf s (Reg.ETH_STAT k) 1 0 = 3 then (s, Rep.ok)
      else (setEthPort s k { p with draining := true }, .defer [] (.ethDisable k))
    else if p.draining then (s, .defer [] (.ethEnable k))
    else if rf s (Reg.ETH_STAT k) 1 0 = 3 then
      (rputF (rputF s (Reg.ETH_CTL k) 0 0 1) (Reg.ETH_STAT k) 1 0 1, Rep.ok)
    else (s, Rep.ok)))

/-- ETH_PORT_DRAIN_DONE (R418, R458). -/
def execEthPortDrainDone (port_ : Nat) (s : State) : Host.Outcome State Fault Refusal :=
  let p := ethPort s port_
  if p.draining then
    let s := setEthPort s port_ { p with draining := false }
    let s := rputF (rputF s (Reg.ETH_CTL port_) 0 0 0) (Reg.ETH_STAT port_) 1 0 3
    let s := finishAll s (fun w => w == .ethDisable port_) stOK []
    if s.mbx.deferred.any (fun d => d.wait == .ethEnable port_) then
      let s := rputF (rputF s (Reg.ETH_CTL port_) 0 0 1) (Reg.ETH_STAT port_) 1 0 1
      .next (finishAll s (fun w => w == .ethEnable port_) stOK [])
    else .next s
  else .next s

/-- The counters of an Ethernet port in register order (R419). -/
def ethCounters (s : State) (k : Nat) : List Nat :=
  [rg64 s (Reg.ETH_TXFRM_LO k), rg64 s (Reg.ETH_RXFRM_LO k), rg64 s (Reg.ETH_TXBYTES_LO k),
   rg64 s (Reg.ETH_RXBYTES_LO k), rg64 s (Reg.ETH_FECCORR_LO k)]
    ++ ([Reg.ETH_FCSERR k, Reg.ETH_FECUNC k, Reg.ETH_RXDROP k, Reg.ETH_PFCRX k, Reg.ETH_PFCTX k,
      Reg.ETH_ECNCE k, Reg.ETH_CNPTX k, Reg.ETH_CNPRX k].map (accumOf s))

/-- ETH_STAT (R419): NETWORK is 0 for E0 to E3 and 1 for E4 to E7. -/
def ethStat (s : State) (k : Nat) : Nat := setBits (rg s (Reg.ETH_STAT k)) 2 2 (k / 4)

/-- ETH_PORT_QUERY (R418, R448). -/
def execEthPortQuery (slot : Nat) (tag : Word32) (port_ : Word64) (s : State) : Host.Outcome State Fault Refusal :=
  .next (runCmd slot 0x0441 tag (!atMost port_ 7) s (fun s =>
    (s, Rep.words (ethStat s port_.toNat :: ethCounters s port_.toNat))))

/-- EGRESS_SET (R416 to R418, R448): it takes effect at the start of the next cycle. -/
def execEgressSet (slot : Nat) (tag : Word32) (port_ egr cycle : Word64) (list : List Word64) (s : State) :
    Host.Outcome State Fault Refusal :=
  let durs := (list.filter (fun w => bit w.toNat 29)).map (fun w => bits w.toNat 19 0 * 8)
  let bad := !atMost port_ 7 || !onlyBits egr 0x1FFFFFF || bits egr.toNat 7 0 == 0 || bits egr.toNat 15 8 == 0
    || !within cycle 10000 100000000 || decide (64 < list.length) || !list.all (fun w => onlyBits w 0x3FFFFFFF)
    || durs.foldl (· + ·) 0 != cycle.toNat || (list.dropWhile (fun w => bit w.toNat 29)).any (fun w => bit w.toNat 29)
  .next (runTwin slot 0x0445 tag ([port_, egr, cycle] ++ listWords list) bad s (fun s =>
    let k := port_.toNat
    (setEthPort s k { ethPort s k with pendingEgr := some (egr.toNat, cycle.toNat, list.map (·.toNat)) }, Rep.ok)))

/-- Whether a tenant exists (R487, R510). -/
def tenantExists (s : State) (t : Nat) : Bool := decide (t < 256) && rf s (Reg.XLT_TN_CFG t) 31 31 == 1

/-- Whether a tenant is isolated (R497). -/
def isolated (s : State) (t : Nat) : Bool := rf s (Reg.XLT_TN_CFG t) 11 11 == 1

/-- A new queue pair (R401): its rate limit starts at the line rate of 100 Gb/s. -/
def newQp (tenant port mac ip peerQpn psn mtu access rkey : Nat) : QPair :=
  { error := false, draining := false, tenant := tenant, port := port, mac := mac, ip := ip, peerQpn := peerQpn
    epsn := psn, mtu := mtu, access := access, rkey := BitVec.ofNat 32 rkey, nakked := false, writing := none
    units := [], reads := [], atomics := [], rate := 100000, cnpSentAt := none, cnpSeenAt := 0, dupWrites := 0
    dupReads := 0, dupAtomics := 0, seqErrors := 0, nakInvalid := 0, nakAccess := 0, nakOper := 0, nextAt := 0
    waiting := [], late := 0, mirrorAcks := 0, ackOwed := [] }

/-- Put a queue pair into the table. -/
def setQp (s : State) (q : Nat) (p : QPair) : State := { s with eth := { s.eth with qps := tset s.eth.qps q p } }

/-- Whether a port's gate list admits an isolated tenant (R499). -/
def gateAdmits (s : State) (k t : Nat) : Bool :=
  rf s (Reg.ETH_EGR_CTL k) 24 24 == 1 && (gateList s (Reg.ETH_GATE k 0)).any (fun w => bits w 27 20 == t)

/-- QP_CREATE (R401, R418, R448, R458, R487, R494, R499). DEDUCED: assumption 131. -/
def execQpCreate (slot : Nat) (tag : Word32) (qp tenant port_ mac ip0 ip1 qpnPsn mtuAccess rkey : Word64)
    (s : State) : Host.Outcome State Fault Refusal :=
  let bad := !atMost qp 4095 || !atMost tenant 255 || !atMost port_ 7 || !onlyBits mac 0xFFFFFFFFFFFF
    || !onlyBits qpnPsn 0x00FFFFFF00FFFFFF || !onlyBits mtuAccess 0x703 || bits mtuAccess.toNat 1 0 == 3
    || !onlyBits rkey 0xFFFFFFFF
  .next (runTwin slot 0x0442 tag [qp, tenant, port_, mac, ip0, ip1, qpnPsn, mtuAccess, rkey] bad s (fun s =>
    let q := qp.toNat
    let t := tenant.toNat
    let k := port_.toNat
    let ip := ip0.toNat + 2 ^ 64 * ip1.toNat
    let qpn := bits qpnPsn.toNat 23 0
    let psn := bits qpnPsn.toNat 55 32
    let mtu := 1024 * 2 ^ bits mtuAccess.toNat 1 0
    let acc := bits mtuAccess.toNat 10 8
    if !tenantExists s t then (s, .done stINVALID [])
    else if isolated s t && !gateAdmits s k t then (s, .done stCONFLICT [])
    else match tget s.eth.qps q with
      | some p =>
        if p.draining then
          (s, .defer [] (.qpCreate q t k mac.toNat ip qpn psn mtu acc rkey.toNat))
        else if 4096 ≤ s.eth.qps.length then (bump s (Reg.XLT_TN_REFCAP t) 1, .done stREFUSED [])
        else (s, .done stCONFLICT [])
      | none => (setQp s q (newQp t k mac.toNat ip qpn psn mtu acc rkey.toNat), Rep.ok)))

/-- QP_DESTROY (R418, R458): the queue pair drains; a create that waits is cancelled. -/
def execQpDestroy (slot : Nat) (tag : Word32) (qp : Word64) (s : State) : Host.Outcome State Fault Refusal :=
  .next (runTwin slot 0x0443 tag [qp] (!atMost qp 4095) s (fun s =>
    let q := qp.toNat
    match tget s.eth.qps q with
    | none => (s, .done stINVALID [])
    | some p =>
      let isCreate : Wait → Bool := fun w => match w with
        | .qpCreate x _ _ _ _ _ _ _ _ _ => x == q
        | _ => false
      let s := cancelWaits s isCreate
      (setQp s q { p with draining := true }, .defer [] (.qpDestroy q))))

/-- QP_DESTROY_DONE (R418, R458): the queue pair is freed; a pending create then takes it. -/
def execQpDestroyDone (qp : Nat) (s : State) : Host.Outcome State Fault Refusal :=
  match tget s.eth.qps qp with
  | none => .next s
  | some p =>
    if p.draining then
      let s := { s with eth := { s.eth with qps := tdel s.eth.qps qp } }
      let s := finishAll s (fun w => w == .qpDestroy qp) stOK []
      let isCreate : Wait → Bool := fun w => match w with
        | .qpCreate x _ _ _ _ _ _ _ _ _ => x == qp
        | _ => false
      match (s.mbx.deferred.find? (fun d => isCreate d.wait)).map (fun d => d.wait) with
      | some (Wait.qpCreate _ t k mac ip qpn psn mtu acc rkey) =>
        .next (finishAll (setQp s qp (newQp t k mac ip qpn psn mtu acc rkey)) isCreate stOK [])
      | _ => .next s
    else .next s

/-- QP_QUERY (R405, R418, R448): state 0 free, 1 RTS, 2 ERROR; then tenant, port, expected PSN, the count of
each row of R405 in its order, and the late accesses. -/
def execQpQuery (slot : Nat) (tag : Word32) (qp : Word64) (s : State) : Host.Outcome State Fault Refusal :=
  .next (runCmd slot 0x0444 tag (!atMost qp 4095) s (fun s =>
    match tget s.eth.qps qp.toNat with
    | none => (s, Rep.words (List.replicate 12 0))
    | some p => (s, Rep.words [if p.error then 2 else 1, p.tenant, p.port, p.epsn, p.seqErrors, p.dupWrites,
        p.dupReads, p.dupAtomics, p.nakInvalid, p.nakAccess, p.nakOper, p.late])))

/-- CNP (R406): the queue pair's egress rate limit halves, down to no less than 1 Gb/s. -/
def execCnp (port_ qp : Nat) (s : State) : Host.Outcome State Fault Refusal :=
  let s := bump (rxFrame s port_ 64) (Reg.ETH_CNPRX port_) 1
  match tget s.eth.qps qp with
  | none => .next (rxDrop s port_)
  | some p =>
    if p.port ≠ port_ then .next (rxDrop s port_)
    else if p.error then .next s
    else .next (setQp s qp { p with rate := max 1000 (p.rate / 2), cnpSeenAt := now s })

/-- CNP_RATE_TIMER (R406): 50 µs pass without a CNP and the limit rises by 5 Gb/s, up to the line rate. -/
def execCnpRateTimer (qp : Nat) (s : State) : Host.Outcome State Fault Refusal :=
  match tget s.eth.qps qp with
  | none => .next s
  | some p =>
    let s := reach s (p.cnpSeenAt + 50000)
    .next (setQp s qp { p with rate := min 100000 (p.rate + 5000), cnpSeenAt := now s })

end Sys2Proof.Machine
end

