-- ==== Sys2Proof/Machine/Extents.lean ====
section
/-!
DEFINITION. The extent, view and window commands 0x02xx (R48 to R67, R96, R99 to R101, R445, R446, R495, R499,
R563) and the end of a zero fill (R51 to R53). Each command's effect is a function of its own, which a
standby applies as well (R379).
-/

namespace Sys2Proof.Machine

/-! ### Shared -/

/-- A migration copies from or to an extent (R101). -/
def migrating (s : State) (e : Nat) : Bool := s.xlt.migrations.any (fun m => m.1 == e || m.2.dest == e)

/-- An extent lies outside GATE_DIES (R499). DEDUCED: assumption 46. -/
def offGates (s : State) (e : Nat) : Bool := !bit (rf s Reg.XLT_GATE_CTL 5 0) (e / 480)

/-- The CLASS of a tenant (R490). -/
def tenantClass (s : State) (t : Nat) : Nat := rf s (Reg.XLT_TN_CFG t) 10 8

/-- The first extent of one of the groups of 16 without a reserved extent (R47). -/
def alignedGroup (e : Nat) : Bool := decide (e < 2880) && e % 16 == 0 && decide (16 ≤ e % 480)

/-- An extent that can be allocated: FREE, and not blocked by the twin (R51, R377). -/
def freeExt (s : State) (e : Nat) : Bool := (extRec s e).st == exFREE && (tget s.twin.blocked e).isNone

/-- A group whose 16 extents can all be allocated. -/
def freeGroup (s : State) (e : Nat) : Bool := alignedGroup e && (List.range' e 16).all (freeExt s)

/-- A list names nothing twice. -/
def noDup : List Nat → Bool
  | [] => true
  | a :: t => !t.contains a && noDup t

/-- The fields of an ATTR word (R445). -/
def atCoh (a : Nat) : Bool := bit a 0
def atMir (a : Nat) : Bool := bit a 1
def atPrio (a : Nat) : Nat := bits a 10 8
def atG16 (a : Nat) : Bool := bit a 16

/-! ### Allocation -/

/-- The extents, or first extents of groups, of die n that can be allocated, rising. -/
def candidatesOf (s : State) (g16 : Bool) (n : Nat) : List Nat :=
  if g16 then ((List.range' 1 29).map (fun m => 480 * n + 16 * m)).filter (freeGroup s)
  else (List.range' (480 * n) 480).filter (freeExt s)

/-- One from each die in turn, dies that have none left skipped (R563). -/
def turns : Nat → List (List Nat) → List Nat
  | 0, _ => []
  | n + 1, l => l.filterMap List.head? ++ turns n (l.map (fun c => c.drop 1))

/-- The 16 extents of each listed group, or the extents as listed. -/
def spreadGroups (g16 : Bool) (l : List Nat) : List Nat := if g16 then l.flatMap (fun e => List.range' e 16) else l

/-- The extents that an allocation takes, in order: those it names, or the module's choice (R563). -/
def allocPick (s : State) (attr count diemask : Nat) (list : List Nat) : List Nat :=
  let g := atG16 attr
  if list.isEmpty then
    spreadGroups g ((turns 480 ((maskList 6 diemask).map (candidatesOf s g))).take (if g then count / 16 else count))
  else spreadGroups g list

/-- FREE extents that count towards a floor: over the allowed dies, or over all for a named list (R495). -/
def eligible0 (s : State) (attr diemask : Nat) (list : List Nat) : Nat :=
  let dies := if list.isEmpty then maskList 6 diemask else List.range 6
  (dies.map (fun n => (candidatesOf s (atG16 attr) n).length * (if atG16 attr then 16 else 1))).foldl (· + ·) 0

/-- A parameter that R563 rejects. DEDUCED: assumption 46. -/
def allocBad (holder attr count diemask : Word64) (list : List Word64) : Bool :=
  let a := attr.toNat
  let es := list.map (fun w => w.toNat)
  !atMost holder 255 || !onlyBits attr 0x10703 || !onlyBits diemask 0x3F || (atCoh a && atMir a)
    || (if list.isEmpty then count == 0#64 || diemask == 0#64 || (atG16 a && count.toNat % 16 != 0)
        else !es.all (fun e => decide (e < 2880)) || !noDup es || (atG16 a && !es.all alignedGroup))

/-- Put extents into ZEROING, each at the end of its die's filling queue (R51, R52). DEDUCED: assumption 45. -/
def startFill (s : State) (e : Nat) (r : ExtRec) : State :=
  let n := e / 480
  let s := setExt s e { r with st := exZEROING, mapcount := 0 }
  { s with xlt := { s.xlt with filling := tset s.xlt.filling n (tgetD s.xlt.filling n [] ++ [e]) } }

/-- The effect of EXTENT_ALLOC (R51, R490, R495, R499, R563). -/
def doAlloc (holder attr count diemask : Nat) (list : List Nat) (s : State) : State × Rep :=
  let es := allocPick s attr count diemask list
  let elig := eligible0 s attr diemask list
  let need := if list.isEmpty then count else es.length
  let floor := rg s (Reg.XLT_FLOOR (atPrio attr))
  if !tenantExists s holder || decide (tenantClass s holder < atPrio attr) then (s, .done stINVALID [])
  else if isolated s holder && (atCoh attr
      || (if list.isEmpty then (maskList 6 diemask).any (fun n => offGates s (480 * n)) else es.any (offGates s))) then
    (s, .done stINVALID [])
  else if !list.isEmpty && es.any (migrating s) then (s, .done stBUSY [])
  else if !list.isEmpty && !es.all (freeExt s) then (s, .done stCONFLICT [])
  else if elig < need + floor then
    (bump s (Reg.XLT_TN_REFCAP holder) 1, .done stREFUSED (leBytes 8 elig ++ leBytes 8 floor))
  else
    let r : ExtRec := { st := exZEROING, holder := holder, prio := atPrio attr, coherent := atCoh attr, mirrored := atMir attr, mapcount := 0 }
    (es.foldl (fun s e => startFill s e r) s, .defer (leBytes 8 es.length ++ es.flatMap (leBytes 8)) (.alloc es))

/-- EXTENT_ALLOC. -/
def execExtentAlloc (slot : Nat) (tag : Word32) (holder attr count diemask : Word64) (list : List Word64) (s : State) :
    Host.Outcome State Fault Refusal :=
  .next (runTwin slot 0x0201 tag ([holder, attr, count, diemask] ++ listWords list)
    (allocBad holder attr count diemask list) s
    (doAlloc holder.toNat attr.toNat count.toNat diemask.toNat (list.map (fun w => w.toNat))))

/-- Deferred allocations none of whose extents is ZEROING any more send their final reply (R51). -/
def finishAllocs (s : State) : State :=
  finishAll s (fun w => match w with
    | .alloc es => !es.any (fun e => (extRec s e).st == exZEROING)
    | _ => false) stOK []

/-- An extent released while ZEROING is no longer part of its allocation (R51). -/
def leaveAlloc (s : State) (e : Nat) : State :=
  let cut := fun (d : Deferred) => match d.wait with
    | .alloc es => { d with wait := .alloc (es.filter (fun x => x != e)) }
    | _ => d
  { s with mbx := { s.mbx with deferred := s.mbx.deferred.map cut } }

/-- ZERO_FILL_DONE (R51 to R53): the extent that its die fills is zeroed, with valid seals, and enters READY.
DEDUCED: assumption 45. -/
def execZeroFillDone (extent : Nat) (s : State) : Host.Outcome State Fault Refusal :=
  let n := extent / 480
  match tgetD s.xlt.filling n [] with
  | [] => .next s
  | e :: rest =>
    if e ≠ extent ∨ inSafe s = true then .next s
    else
      let s := { s with xlt := { s.xlt with filling := tset s.xlt.filling n rest } }
      let s := noteDirty (zeroExtent s e) (ppaOf e 0) (2 ^ 30)
      .next (finishAllocs (setExt s e { extRec s e with st := exREADY }))

/-! ### Release and attributes -/

/-- An extent becomes FREE. -/
def freeExtent (s : State) (e : Nat) : State := setExt s e (ExtRec.init e)

/-- What EXTENT_RELEASE meets at one extent: INVALID, CONFLICT, or neither (R53, R446). DEDUCED: assumption 47. -/
def releaseBars (s : State) (e : Nat) : Option Nat :=
  let r := extRec s e
  if r.st = 0 then some stINVALID
  else if r.st = exREADY ∧ 0 < r.mapcount then some stCONFLICT
  else none

/-- Release one extent that nothing bars (R53). -/
def releaseOne (s : State) (e : Nat) : State :=
  let r := extRec s e
  if r.st = exZEROING then
    let n := e / 480
    let f := (tgetD s.xlt.filling n []).filter (fun x => x != e)
    finishAllocs (leaveAlloc (freeExtent { s with xlt := { s.xlt with filling := tset s.xlt.filling n f } } e) e)
  else if r.st = exREADY then
    if fenced s e then setExt s e { r with st := exDRAINING } else freeExtent s e
  else s

/-- The effect of EXTENT_RELEASE (R446): every extent is checked before any changes. -/
def doRelease (list : List Nat) (s : State) : State × Rep :=
  match list.find? (fun e => (releaseBars s e).isSome) with
  | some e => (s, .done ((releaseBars s e).getD stINVALID) (leBytes 8 e))
  | none =>
    if list.any (migrating s) then (s, .done stBUSY [])
    else
      let s := list.foldl releaseOne s
      let left := list.filter (fun e => (extRec s e).st == exDRAINING)
      if left.isEmpty then (s, Rep.ok) else (s, .defer [] (.release left))

/-- EXTENT_RELEASE. -/
def execExtentRelease (slot : Nat) (tag : Word32) (list : List Word64) (s : State) :
    Host.Outcome State Fault Refusal :=
  .next (runTwin slot 0x0202 tag (listWords list) (!list.all (fun w => atMost w 2879)) s
    (doRelease (list.map (fun w => w.toNat))))

/-- A record with the bits of ATTR that MASK selects. DEDUCED: assumption 48. -/
def withAttr (r : ExtRec) (attr mask : Nat) : ExtRec :=
  { r with coherent := if bit mask 0 then atCoh attr else r.coherent
           mirrored := if bit mask 1 then atMir attr else r.mirrored
           prio := (atPrio attr &&& bits mask 10 8) ||| (r.prio &&& (7 - bits mask 10 8)) }

/-- What EXTENT_SET_ATTR meets at one extent (R54, R378, R490, R499). DEDUCED: assumption 47. -/
def attrBars (s : State) (attr mask e : Nat) : Option Nat :=
  let r := extRec s e
  let w := withAttr r attr mask
  if r.st = exREADY ∧ 0 < r.mapcount then some stCONFLICT
  else if r.st ≠ exREADY ∨ (w.coherent && w.mirrored) = true ∨ tenantClass s r.holder < w.prio
      ∨ (isolated s r.holder && w.coherent) = true then some stINVALID
  else none

/-- The effect of EXTENT_SET_ATTR (R54). -/
def doSetAttr (list : List Nat) (attr mask : Nat) (s : State) : State × Rep :=
  if list.any (migrating s) then (s, .done stBUSY [])
  else match list.find? (fun e => (attrBars s attr mask e).isSome) with
    | some e => (s, .done ((attrBars s attr mask e).getD stINVALID) (leBytes 8 e))
    | none => (list.foldl (fun s e => setExt s e (withAttr (extRec s e) attr mask)) s, Rep.ok)

/-- EXTENT_SET_ATTR. GROUP16 is no attribute of a record. -/
def execExtentSetAttr (slot : Nat) (tag : Word32) (list : List Word64) (attr mask : Word64) (s : State) :
    Host.Outcome State Fault Refusal :=
  .next (runTwin slot 0x0203 tag (listWords list ++ [attr, mask])
    (!list.all (fun w => atMost w 2879) || !onlyBits attr 0x10703 || !onlyBits mask 0x10703) s
    (doSetAttr (list.map (fun w => w.toNat)) attr.toNat mask.toNat))

/-- The entry of one extent in the reply of EXTENT_QUERY (R445): its record, and a list of its views. -/
def extentEntry (s : State) (e : Nat) : List Byte :=
  let r := extRec s e
  let vs := mappers s e
  leBytes 8 (r.st + 2 ^ 3 * r.holder + 2 ^ 11 * r.prio + 2 ^ 14 * b2n r.coherent + 2 ^ 15 * b2n r.mirrored + 2 ^ 16 * r.mapcount)
    ++ leBytes 8 vs.length ++ vs.flatMap (fun v => leBytes 8 (v.1 + 2 ^ 8 * (v.2 * 2 ^ 30)))

/-- As many whole entries as fit in a room, and at least one (R445). -/
def fitEntries : List (List Byte) → Nat → Bool → List (List Byte)
  | [], _, _ => []
  | e :: t, room, first =>
    if first || decide (e.length ≤ room) then e :: fitEntries t (room - e.length) false else []

/-- EXTENT_QUERY (R50, R445). -/
def execExtentQuery (slot : Nat) (tag : Word32) (list : List Word64) (s : State) :
    Host.Outcome State Fault Refusal :=
  .next (runCmd slot 0x0204 tag (decide (64 < list.length) || !list.all (fun w => atMost w 2879)) s (fun s =>
    let es := fitEntries (list.map (fun w => extentEntry s w.toNat)) 4088 true
    (s, .done stOK (leBytes 8 es.length ++ es.flatten))))

/-! ### Views -/

/-- The permissions of a PERM word as a view entry holds them, with its page size (R56, R445). -/
def viewWord (extent perm : Nat) : Nat :=
  1 + 2 * bits perm 4 4 + 2 ^ 2 * bits perm 3 0 + 2 ^ 8 * extent

/-- Add to or take from the MAPCOUNT of an extent. -/
def addMap (s : State) (e : Nat) (up : Bool) : State :=
  let r := extRec s e
  setExt s e { r with mapcount := if up then r.mapcount + 1 else r.mapcount - 1 }

/-- The effect of VIEW_MAP (R53, R57, R58, R499): the first outcome that applies in the order INVALID, BUSY,
CONFLICT. -/
def doViewMap (t vslot extent perm : Nat) (s : State) : State × Rep :=
  let big := bit perm 4
  let n := if big then 16 else 1
  let es := List.range' extent n
  let slots := List.range' vslot n
  let rs := es.map (extRec s)
  let r0 := extRec s extent
  if !tenantExists s t || (big && (vslot % 16 != 0 || !alignedGroup extent))
      || rs.any (fun r => r.st == 0) || (big && !rs.all (fun r => r.coherent == r0.coherent && r.mirrored == r0.mirrored))
      || (bit perm 2 && !bit perm 1)
      || (isolated s t && (es.any (offGates s) || rs.any (fun r => r.coherent))) then (s, .done stINVALID [])
  else if rs.any (fun r => r.st == exZEROING) || es.any (migrating s) then (s, .done stBUSY [])
  else if rs.any (fun r => r.st != exREADY) || slots.any (fun x => veValid (viewEnt s t x))
      || es.any (fun e => (mappers s e).any (fun v => v.1 == t)) then (s, .done stCONFLICT [])
  else
    let s := slots.foldl (fun s x => setView s t x (viewWord extent perm)) s
    (es.foldl (fun s e => addMap s e true) s, Rep.ok)

/-- VIEW_MAP. -/
def execViewMap (slot : Nat) (tag : Word32) (tenant vslot extent perm : Word64) (s : State) :
    Host.Outcome State Fault Refusal :=
  .next (runTwin slot 0x0205 tag [tenant, vslot, extent, perm]
    (!atMost tenant 255 || !atMost vslot 262143 || !atMost extent 2879 || !onlyBits perm 0x1F) s
    (doViewMap tenant.toNat vslot.toNat extent.toNat perm.toNat))

/-- The slots of the page that a valid slot belongs to, and the extents of that page (R57). -/
def pageSlots (w vslot : Nat) : List Nat := if veSize w then List.range' (vslot / 16 * 16) 16 else [vslot]
def pageExtents (w : Nat) : List Nat := if veSize w then List.range' (veExtent w) 16 else [veExtent w]

/-- An unmap is carried out (R57, R60, R96): the entries are cleared, MAPCOUNT falls, and a fence opens. -/
def unmapNow (t vslot : Nat) (s : State) : State :=
  let w := viewEnt s t vslot
  let s := (pageSlots w vslot).foldl (fun s x => setView s t x 0) s
  openFence ((pageExtents w).foldl (fun s e => addMap s e false) s) (pageExtents w) 0

/-- A change that needs a fence waits, whole, while 64 are open (R99). -/
def waitFence (s : State) (w : FenceWait) : State × Rep :=
  ({ s with xlt := { s.xlt with fenceWait := s.xlt.fenceWait ++ [w] } }, .wait)

/-- The effect of VIEW_UNMAP. -/
def doViewUnmap (slot : Nat) (tag : Word32) (t vslot : Nat) (s : State) : State × Rep :=
  let w := viewEnt s t vslot
  if !tenantExists s t || !veValid w then (s, .done stINVALID [])
  else if (pageExtents w).any (migrating s) then (s, .done stBUSY [])
  else if !fenceRoom s then waitFence s (.viewUnmap slot tag t vslot)
  else (unmapNow t vslot s, Rep.ok)

/-- VIEW_UNMAP. -/
def execViewUnmap (slot : Nat) (tag : Word32) (tenant vslot : Word64) (s : State) :
    Host.Outcome State Fault Refusal :=
  .next (runTwin slot 0x0206 tag [tenant, vslot] (!atMost tenant 255 || !atMost vslot 262143) s
    (doViewUnmap slot tag tenant.toNat vslot.toNat))

/-- VIEW_QUERY (R56, R57, R445). -/
def execViewQuery (slot : Nat) (tag : Word32) (tenant first count : Word64) (s : State) :
    Host.Outcome State Fault Refusal :=
  .next (runCmd slot 0x0207 tag (!atMost tenant 255 || !atMost count 256 || decide (262144 < first.toNat + count.toNat)) s
    (fun s =>
      if !tenantExists s tenant.toNat then (s, .done stINVALID [])
      else (s, Rep.words ((List.range' first.toNat count.toNat).map (viewEnt s tenant.toNat)))))

/-! ### Windows -/

/-- The extents that a KIND = 0 window counts for, or none (R66). -/
def winCounted (s : State) (w : Nat) : List Nat := if bit (winCtl s w) 1 then [] else winExtents s w

/-- The entry's count leaves MAPCOUNT, and a fence opens over what the old entry resolved to (R66, R96). -/
def winDrop (s : State) (w : Nat) : State :=
  let es := winExtents s w
  let s := (winCounted s w).foldl (fun s e => addMap s e false) s
  if es.isEmpty then s else openFence s es 1

/-- WINDOW_SET is carried out (R65): VALID is cleared before the other registers and set last. -/
def windowNow (w ctl base src : Nat) (s : State) : State :=
  let s := winDrop s w
  let s := rputF s (Reg.XLT_WIN_CTL w) 0 0 0
  let s := rputF s (Reg.XLT_WIN_BASE_LO w) 31 30 (base % 4)
  let s := rput (rputF s (Reg.XLT_WIN_BASE_HI w) 15 0 (base / 4)) (Reg.XLT_WIN_SRC w) src
  let s := rput s (Reg.XLT_WIN_CTL w) ctl
  (winCounted s w).foldl (fun s e => addMap s e true) s

/-- The extents that a new KIND = 0 entry would cover. -/
def newCover (ctl base : Nat) : List Nat :=
  if bit ctl 1 then [] else List.range' (base % 4096) (bits ctl 26 16)

/-- A fence that this change would open finds 64 open (R96, R99). -/
def needsFence (s : State) (w : Nat) : Bool := !(winExtents s w).isEmpty && !fenceRoom s

/-- The effect of WINDOW_SET (R65 to R67, R499). -/
def doWindowSet (slot : Nat) (tag : Word32) (w ctl base src : Nat) (s : State) : State × Rep :=
  let t := bits ctl 15 8
  let n := bits ctl 26 16
  let cover := newCover ctl base
  let inView := if bit ctl 1 then (List.range n).filterMap (fun u =>
      let v := viewEnt s t ((base + u) % 2 ^ 18)
      if veValid v then some (entExtent v ((base + u) % 2 ^ 18)) else none) else cover
  if !tenantExists s t || !cover.all (fun e => decide (e < 2880) && !reservedExt e)
      || cover.any (fun e => (extRec s e).st != exREADY && !migrating s e)
      || (isolated s t && inView.any (fun e => offGates s e || (extRec s e).coherent)) then (s, .done stINVALID [])
  else if cover.any (migrating s) || (winCounted s w).any (migrating s) then (s, .done stBUSY [])
  else if needsFence s w then waitFence s (.windowSet slot tag w ctl base src)
  else (windowNow w ctl base src s, Rep.ok)

/-- A parameter of WINDOW_SET that is out of range (R64, R66). -/
def windowBad (window ctl base src : Word64) : Bool :=
  let c := ctl.toNat
  !atMost window 4095 || !onlyBits ctl 0x07FFFF1F || !onlyBits base 0x3FFFF || !onlyBits src 0x3FFF
    || !bit c 0 || bits c 26 16 == 0 || decide (1024 < bits c 26 16)
    || (if bit c 1 then decide (2 ^ 18 < base.toNat + bits c 26 16) else decide (2880 < base.toNat + bits c 26 16))

/-- WINDOW_SET. -/
def execWindowSet (slot : Nat) (tag : Word32) (window ctl base src : Word64) (s : State) :
    Host.Outcome State Fault Refusal :=
  .next (runTwin slot 0x0208 tag [window, ctl, base, src] (windowBad window ctl base src) s
    (doWindowSet slot tag window.toNat ctl.toNat base.toNat src.toNat))

/-- WINDOW_CLEAR is carried out. -/
def windowClearNow (w : Nat) (s : State) : State := rputF (winDrop s w) (Reg.XLT_WIN_CTL w) 0 0 0

/-- The effect of WINDOW_CLEAR (R65, R66): an invalid entry is left alone. -/
def doWindowClear (slot : Nat) (tag : Word32) (w : Nat) (s : State) : State × Rep :=
  if !bit (winCtl s w) 0 then (s, Rep.ok)
  else if (winCounted s w).any (migrating s) then (s, .done stBUSY [])
  else if needsFence s w then waitFence s (.windowClear slot tag w)
  else (windowClearNow w s, Rep.ok)

/-- WINDOW_CLEAR. -/
def execWindowClear (slot : Nat) (tag : Word32) (window : Word64) (s : State) : Host.Outcome State Fault Refusal :=
  .next (runTwin slot 0x0209 tag [window] (!atMost window 4095) s (doWindowClear slot tag window.toNat))

/-! ### Migration -/

/-- A KIND = 0 window covers an extent. -/
def inWindow (s : State) (e : Nat) : Bool := (List.range 4096).any (fun w => bit (winCtl s w) 0 && (winCounted s w).contains e)

/-- The effect of EXTENT_MIGRATE (R100, R101): the destination takes the source's attributes and stays unmappable
while the first pass copies every page. DESIGN CHOICE: assumption 49. -/
def doMigrate (src dst : Nat) (s : State) : State × Rep :=
  let r := extRec s src
  let part := (mappers s src).any (fun v => veSize (viewEnt s v.1 v.2))
  if reservedExt src || reservedExt dst || r.coherent || r.mirrored || part || inWindow s src then (s, .done stINVALID [])
  else if migrating s src || migrating s dst then (s, .done stBUSY [])
  else if r.st ≠ exREADY ∨ freeExt s dst = false then (s, .done stCONFLICT [])
  else
    let s := setExt s dst { r with st := exZEROING, mapcount := 0 }
    let g : Migration := { dest := dst, pass := 1, dirty := [], switching := none }
    ({ s with xlt := { s.xlt with migrations := tset s.xlt.migrations src g } }, .defer [] (.migrate src))

/-- EXTENT_MIGRATE. -/
def execExtentMigrate (slot : Nat) (tag : Word32) (source dest : Word64) (s : State) :
    Host.Outcome State Fault Refusal :=
  .next (runTwin slot 0x020A tag [source, dest] (!atMost source 2879 || !atMost dest 2879) s
    (doMigrate source.toNat dest.toNat))

end Sys2Proof.Machine
end

