-- ==== Sys2Proof/Machine/Tenants.lean ====
section
/-!
DEFINITION. Tenants, capacity floors, gates and fault queues as the owner sets them (R106, R109, R110, R447,
R487, R488, R495, R501), and what a tenant holds.
-/

namespace Sys2Proof.Machine

/-! ### What a tenant holds -/

/-- Extents charged to a tenant (R48). -/
def heldExtents (s : State) (t : Nat) : Nat :=
  (s.xlt.ext.filter (fun e => decide (2 ≤ e.2.st) && e.2.holder == t)).length

/-- Valid view slots of a tenant. -/
def heldViews (s : State) (t : Nat) : Nat := (viewSlots s t).length

/-- Valid windows of a tenant (R64). -/
def heldWindows (s : State) (t : Nat) : Nat :=
  ((List.range 4096).filter (fun w => bit (winCtl s w) 0 && bits (winCtl s w) 15 8 == t)).length

/-- Contexts of a tenant. -/
def heldContexts (s : State) (t : Nat) : Nat := (s.sched.ctxs.filter (fun c => c.2.tenant == t)).length

/-- Queue pairs of a tenant. -/
def heldQps (s : State) (t : Nat) : Nat := (s.eth.qps.filter (fun q => q.2.tenant == t)).length

/-- Lintel objects of a tenant. -/
def heldLintels (s : State) (t : Nat) : Nat := (s.sig.lintels.filter (fun l => l.2.tenant == t)).length

/-! ### Tenants -/

/-- The settings of a tenant go into its registers (R487, R510); WEIGHT is what ETH_TWt reports. -/
def putTenant (s : State) (t weight cls mode maxC maxW maxA : Nat) (valid : Bool) : State :=
  let s := rput s (Reg.XLT_TN_CFG t) (weight + 2 ^ 8 * cls + 2 ^ 11 * mode + 2 ^ 31 * b2n valid)
  let s := rput s (Reg.XLT_TN_LIMITS t) (maxC + 2 ^ 15 * maxW)
  rput (rput s (Reg.XLT_TN_ADMITLIM t) maxA) (Reg.ETH_TW t) weight

/-- The effect of TENANT_SET (R487, R488). -/
def doTenantSet (t weight cls mode maxC maxW maxA : Nat) (s : State) : State × Rep :=
  if tenantExists s t && isolated s t != (mode == 1)
      && decide (0 < heldExtents s t + heldContexts s t + heldQps s t) then (s, .done stCONFLICT [])
  else (putTenant s t weight cls mode maxC maxW maxA true, Rep.ok)

/-- TENANT_SET. -/
def execTenantSet (slot : Nat) (tag : Word32) (tenant weight cls mode maxContexts maxWatches maxAdmit : Word64)
    (s : State) : Host.Outcome State Fault Refusal :=
  let bad := !atMost tenant 255 || !within weight 1 255 || !atMost cls 7 || !atMost mode 1
    || !atMost maxContexts 16384 || !atMost maxWatches 32768 || !within maxAdmit 1 8192
  .next (runTwin slot 0x0301 tag [tenant, weight, cls, mode, maxContexts, maxWatches, maxAdmit] bad s
    (doTenantSet tenant.toNat weight.toNat cls.toNat mode.toNat maxContexts.toNat maxWatches.toNat maxAdmit.toNat))

/-- The effect of TENANT_CLEAR (R447, R487): the registers of the tenant are as after reset. DEDUCED: assumption 57. -/
def doTenantClear (t : Nat) (s : State) : State × Rep :=
  if !tenantExists s t then (s, .done stINVALID [])
  else if 0 < heldExtents s t + heldViews s t + heldWindows s t + heldContexts s t + heldQps s t + heldLintels s t then
    (s, .done stCONFLICT [])
  else (putTenant s t 1 0 0 0 0 0 false, Rep.ok)

/-- TENANT_CLEAR. -/
def execTenantClear (slot : Nat) (tag : Word32) (tenant : Word64) (s : State) : Host.Outcome State Fault Refusal :=
  .next (runTwin slot 0x0302 tag [tenant] (!atMost tenant 255) s (doTenantClear tenant.toNat))

/-- TENANT_QUERY (R447): the settings, then the counts in the order in which TENANT_CLEAR names the objects.
DEDUCED: assumption 57. -/
def execTenantQuery (slot : Nat) (tag : Word32) (tenant : Word64) (s : State) : Host.Outcome State Fault Refusal :=
  .next (runCmd slot 0x0303 tag (!atMost tenant 255) s (fun s =>
    let t := tenant.toNat
    if !tenantExists s t then (s, .done stINVALID [])
    else (s, Rep.words [rf s (Reg.XLT_TN_CFG t) 7 0, tenantClass s t, b2n (isolated s t),
      rf s (Reg.XLT_TN_LIMITS t) 14 0, rf s (Reg.XLT_TN_LIMITS t) 30 15, rf s (Reg.XLT_TN_ADMITLIM t) 13 0,
      heldExtents s t, heldViews s t, heldWindows s t, heldContexts s t, heldQps s t, heldLintels s t])))

/-! ### Floors and gates -/

/-- Floors do not rise with the class (R495). -/
def falling : List Nat → Bool
  | a :: b :: t => decide (b ≤ a) && falling (b :: t)
  | _ => true

/-- The effect of CAPACITY_SET (R495, R510). -/
def doCapacitySet (floors : List Nat) (retry : Nat) (s : State) : State × Rep :=
  let s := ((List.range 8).zip floors).foldl (fun s e => rput s (Reg.XLT_FLOOR e.1) e.2) s
  (rput s Reg.XLT_ADMIT_RETRY retry, Rep.ok)

/-- CAPACITY_SET. -/
def execCapacitySet (slot : Nat) (tag : Word32) (floors : List Word64) (retry : Word64) (s : State) :
    Host.Outcome State Fault Refusal :=
  let fs := floors.map (fun w => w.toNat)
  .next (runTwin slot 0x0304 tag (floors ++ [retry])
    (floors.length != 8 || !falling fs || decide (2832 < fs.headD 0) || !within retry 1 1000) s
    (doCapacitySet fs retry.toNat))

/-- The tenants that exist and are isolated. -/
def isolatedTenants (s : State) : List Nat := (List.range 256).filter (fun t => tenantExists s t && isolated s t)

/-- The effect of GATE_SET (R498, R501): the new cycle takes effect at the start of the next cycle. -/
def doGateSet (ctl cycle : Nat) (list : List Nat) (s : State) : State × Rep :=
  let iso := isolatedTenants s
  let off := fun (n : Nat) => !bit ctl n
  let valid := list.filter (fun w => bit w 29)
  if iso.any (fun t => !valid.any (fun w => bits w 27 20 == t && !bit w 28)) || decide (16 < iso.length)
      || decide (4096 < (iso.map (fun t => rf s (Reg.XLT_TN_ADMITLIM t) 13 0)).foldl (· + ·) 0) then
    (s, .done stINVALID [])
  else if s.xlt.ext.any (fun e => decide (2 ≤ e.2.st) && iso.contains e.2.holder && off (e.1 / 480))
      || s.sched.ctxs.any (fun c => iso.contains c.2.tenant && (maskList 6 c.2.diemask).any off) then
    (s, .done stCONFLICT [])
  else ({ s with sched := { s.sched with pendingGate := some (ctl, cycle, list) } }, Rep.ok)

/-- GATE_SET. An entry's duration counts in units of 8 ns, as ETH_GATEj. -/
def execGateSet (slot : Nat) (tag : Word32) (ctl cycle : Word64) (list : List Word64) (s : State) :
    Host.Outcome State Fault Refusal :=
  let durs := (list.filter (fun w => bit w.toNat 29)).map (fun w => bits w.toNat 19 0 * 8)
  let guard := bits ctl.toNat 15 8
  let bad := !onlyBits ctl 0xFF7F || decide (guard < 4) || !within cycle 10000 100000000 || decide (64 < list.length)
    || !list.all (fun w => onlyBits w 0x3FFFFFFF) || durs.foldl (· + ·) 0 != cycle.toNat
    || durs.any (fun d => decide (d < 2000 * guard))
  .next (runTwin slot 0x0305 tag ([ctl, cycle] ++ listWords list) bad s
    (doGateSet ctl.toNat cycle.toNat (list.map (fun w => w.toNat))))

/-! ### Fault queues -/

/-- The effect of FAULTQ_SET (R106, R109). -/
def doFaultqSet (t depth : Nat) (s : State) : State × Rep :=
  if !tenantExists s t then (s, .done stINVALID [])
  else if depth < (faultsOf s t).length then (s, .done stCONFLICT [])
  else (rput s (Reg.XLT_FQ_CFG t) depth, Rep.ok)

/-- FAULTQ_SET. -/
def execFaultqSet (slot : Nat) (tag : Word32) (tenant depth : Word64) (s : State) : Host.Outcome State Fault Refusal :=
  .next (runTwin slot 0x0312 tag [tenant, depth] (!atMost tenant 255 || !within depth 16 16384) s
    (doFaultqSet tenant.toNat depth.toNat))

/-- Put a record into a list that is in SEQ order, by its age after the tenant's last SEQ. DEDUCED: assumption 56. -/
def insertSeq (last : Nat) (e : Nat × FaultRec) : List (Nat × FaultRec) → List (Nat × FaultRec)
  | [] => [e]
  | x :: t =>
    if (e.2.seq + 2 ^ 32 - last - 1) % 2 ^ 32 < (x.2.seq + 2 ^ 32 - last - 1) % 2 ^ 32 then e :: x :: t
    else x :: insertSeq last e t

/-- The open records of a tenant with REPORTED = 0, in SEQ order (R110). DEDUCED: assumption 56. -/
def unreported (s : State) (t : Nat) : List (Nat × FaultRec) :=
  let last := tgetD s.xlt.faultSeq t 0
  ((faultsOf s t).filter (fun e => !e.2.reported)).foldl (fun l e => insertSeq last e l) []

/-- FAULT_READ (R110): up to 32 records; only for the owner are they marked as reported. -/
def execFaultRead (slot : Nat) (tag : Word32) (tenant : Word64) (s : State) : Host.Outcome State Fault Refusal :=
  .next (runCmd slot 0x0310 tag (!atMost tenant 255) s (fun s =>
    let t := tenant.toNat
    if !tenantExists s t then (s, .done stINVALID [])
    else
      let l := (unreported s t).take 32
      let own := s.mbx.owner == some slot
      let l := l.map (fun e => (e.1, if own then { e.2 with reported := true } else e.2))
      let s := if own then l.foldl (fun s e => setFault s t e.1 e.2) s else s
      (s, .done stOK (leBytes 8 l.length ++ l.flatMap (fun e => e.2.toBytes)))))

end Sys2Proof.Machine
end

