-- ==== Sys2Proof/Machine/Watch.lean ====
section
/-!
DEFINITION. Watch entries: their bytes and places (R299), arming, freeing, and the firing of NOTIFY and ADD
entries (R295 to R303).
-/

namespace Sys2Proof.Machine

/-! ### Entries -/

/-- The 64 bytes of an entry (R299). -/
def WatchEnt.toBytes (e : WatchEnt) (valid : Bool) : List Byte :=
  leBytes 8 (b2n valid + 2 * b2n e.time + 2 ^ 2 * e.action + 2 ^ 4 * b2n e.persist + 2 ^ 8 * e.tenant
      + 2 ^ 16 * e.context + 2 ^ 32 * e.tag)
    ++ leBytes 8 e.word ++ leBytes 8 e.target ++ leBytes 8 e.dest ++ leBytes 8 e.coord ++ leBytes 8 e.amount
    ++ leBytes 8 e.seq ++ leBytes 8 (e.extent + 2 ^ 12 * e.epoch)

/-- The place of entry x in reserved extent 3 (R45, R299). -/
def watchPpa (x : Nat) : Nat := resPpa (x % 6) 3 (x / 6 * 64)

/-- Put an entry into the table and into pool memory. -/
def putWatch (s : State) (x : Nat) (e : WatchEnt) : State :=
  poke { s with sig := { s.sig with watches := tset s.sig.watches x e } } (watchPpa x) (e.toBytes true)

/-- Free an entry: its VALID bit is cleared. One that WATCH_ARM armed and that has fired is remembered for
WATCH_DISARM (R303). DEDUCED: assumption 100. -/
def freeWatch (s : State) (x : Nat) (hasFired : Bool) : State :=
  match tget s.sig.watches x with
  | none => s
  | some e =>
    let f := if hasFired && e.byArm then (e.tenant, x, e.tag) :: s.sig.fired.filter (fun r => r.2.1 != x) else s.sig.fired
    poke { s with sig := { s.sig with watches := tdel s.sig.watches x, fired := f } } (watchPpa x) (e.toBytes false)

/-- The lowest free entry. -/
def freeWatchNo (s : State) : Option Nat := (List.range 65536).find? (fun x => (tget s.sig.watches x).isNone)

/-- Entries that WATCH_ARM armed, of one tenant, or of all (R489). -/
def armedBy (s : State) (t : Option Nat) : Nat :=
  (s.sig.watches.filter (fun e => e.2.byArm && (t.isNone || t == some e.2.tenant))).length

/-- Install an entry (R301, step 1). -/
def installWatch (s : State) (e : WatchEnt) : State × Option Nat :=
  match freeWatchNo s with
  | none => (s, none)
  | some x =>
    let o := s.sig.order + 1
    let s := putWatch s x { e with order := o }
    ({ s with sig := { s.sig with order := o, fired := s.sig.fired.filter (fun r => r.2.1 != x) } }, some x)

/-- A SCHED entry on a word of the pool (R243, R250). -/
def schedEntry (s : State) (persist : Bool) (tenant context word target ppa : Nat) : WatchEnt :=
  { time := false, action := 0, persist := persist, tenant := tenant, context := context, tag := 0, word := word
    target := target, dest := 0, coord := 0, amount := 0, seq := 0, extent := extOf ppa, epoch := epochOf s (extOf ppa)
    ppa := ppa, order := 0, byArm := false }

/-! ### Translation of a word -/

/-- Translate a TVA for one word of a tenant, without a fault record: its PPA (R302, R303). DEDUCED: assumption 105. -/
def wordXl (s : State) (tenant addr need : Nat) : State × Option Nat :=
  let slot := (addr / 2 ^ 30) % 2 ^ 18
  match slotXl s tenant slot need 15 addr slot false with
  | (s, .ok e _) => (s, some (ppaOf e.extent (addr % 2 ^ 30)))
  | (s, _) => (s, none)

/-! ### Firing -/

/-- Send NOTIFY (R296, R298, R302, R305). -/
def sendNotify (s : State) (coord addr value tag seq source status : Nat) : State :=
  let m := mkMsg s 0 0x10 coord
  let m := { m with xf := BitVec.ofNat 4 source, arg := BitVec.ofNat 64 addr, status := BitVec.ofNat 4 status }
  ownRequest s (withData m (leBytes 8 value ++ leBytes 4 tag ++ leBytes 4 seq)) .notify

/-- An addition that a watch or a lintel release makes (R291, R295, R302, R305): not applied, and counted, when its
word no longer translates. -/
def addSignal (s : State) (tenant addr amount : Nat) : State :=
  match wordXl s tenant addr pWR with
  | (s, none) => bump s Reg.SIG_REVOKED 1
  | (s, some a) => (signalAdd (chargeSegs s tenant [(a, 8)]) a amount).2

/-- The line of a signal word can be written now (R207): true where the word does not translate. -/
def addClear (s : State) (tenant addr : Nat) : Bool × State :=
  match wordXl s tenant addr pWR with
  | (s, none) => (true, s)
  | (s, some a) => agentLine s (a / 128) true

/-- Carry out a NOTIFY or ADD entry whose condition is met: value is the word's value, or the time base. -/
def fireEntry (s : State) (e : WatchEnt) (value : Nat) : State :=
  let s := bump s Reg.SIG_FIRED 1
  if e.action = 1 then sendNotify s e.coord e.dest value e.tag e.seq 0 sCOMPLETE
  else if e.action = 2 then addSignal s e.tenant e.dest e.amount
  else s

/-- Carry out a NOTIFY or ADD entry with failure (R295, R303): counter is the count of an addition not applied. -/
def failEntry (s : State) (e : WatchEnt) (status counter : Nat) : State :=
  let s := bump s Reg.SIG_FIRED 1
  if e.action = 1 then sendNotify s e.coord e.dest 0 e.tag e.seq 0 status
  else if e.action = 2 then bump s counter 1
  else s

/-- The armed entries on a line, in order of arming. -/
def entriesOn (s : State) (line : Nat) : List (Nat × WatchEnt) :=
  let ins := fun (l : List (Nat × WatchEnt)) (e : Nat × WatchEnt) =>
    l.filter (fun x => decide (x.2.order < e.2.order)) ++ [e] ++ l.filter (fun x => decide (e.2.order ≤ x.2.order))
  (s.sig.watches.filter (fun e => !e.2.time && e.2.ppa / 128 == line)).foldl ins []

end Sys2Proof.Machine
end

