-- ==== Sys2Proof/Machine/Contexts.lean ====
section
/-!
DEFINITION. Contexts and their rings: ring reads and writes, TAIL, stops, acceptance, parking, completion and the
draining of a stopped ring (R84 to R90, R103 to R108, R232 to R249, R295).
-/

namespace Sys2Proof.Machine

/-! ### Contexts -/

/-- The states of a context (R260). -/
def cxIDLE : Nat := 1
def cxREADY : Nat := 2
def cxRUNNING : Nat := 3
def cxPARKED : Nat := 4
def cxSUSPENDED : Nat := 5
def cxSTOPPED : Nat := 6
def cxDRAINING : Nat := 7

/-- One context. -/
def ctxAt (s : State) (x : Nat) : Option Ctx := tget s.sched.ctxs x

/-- Replace one context. -/
def setCtx (s : State) (x : Nat) (c : Ctx) : State := { s with sched := { s.sched with ctxs := tset s.sched.ctxs x c } }

/-- Rewrite one context. -/
def updCtx (s : State) (x : Nat) (f : Ctx → Ctx) : State :=
  match ctxAt s x with
  | none => s
  | some c => setCtx s x (f c)

/-- Rewrite the descriptor that a context runs. -/
def updRun (s : State) (x : Nat) (f : Run → Run) : State := updCtx s x (fun c => { c with run := c.run.map f })

/-- The TVA of slot d of a ring (R232). -/
def slotAddr (c : Ctx) (d : Nat) : Nat := c.ring + 0x100 + (d % 2 ^ c.ringLog) * 0x100

/-- The bulk jobs of a context, in order of acceptance. -/
def bulkOfCtx (s : State) (x : Nat) : List BulkJob := s.sched.bulk.filter (fun b => b.context == x)

/-- The extent that holds a context's ring header, as its view stands. -/
def ringExt (s : State) (c : Ctx) : Option Nat :=
  let slot := (c.ring / 2 ^ 30) % 2 ^ 18
  let w := viewEnt s c.tenant slot
  if veValid w then some (entExtent w slot) else none

/-- A context under R379: its ring lies in a mirrored extent. -/
def paired (s : State) (c : Ctx) : Bool :=
  match ringExt s c with
  | some e => (extRec s e).mirrored
  | none => false

/-- The context records wake-ups but dispatches nothing: this module is the standby, or halted (R312, R386).
DEDUCED: assumption 88. -/
def paused (s : State) (c : Ctx) : Bool := decide (4 ≤ s.twin.st) && paired s c

/-! ### Ring accesses (R237) -/

/-- What an access of the scheduler to a ring meets. -/
inductive RingAcc where
  | ok (b : List Byte) (lines : Nat)
  | poisoned
  | fault
  | blocked
  deriving DecidableEq, Repr

/-- Translate a ring address as a single request of the context's tenant: a fault is recorded (R79, R237). -/
def ringXl (s : State) (c : Ctx) (addr need : Nat) : State × Option Nat :=
  let slot := (addr / 2 ^ 30) % 2 ^ 18
  match slotXl s c.tenant slot need 15 addr slot false with
  | (s, .ok e _) => (s, some (ppaOf e.extent (addr % 2 ^ 30)))
  | (s, .fault f) => ((recordFault s f none (portCoord s 0) (fun _ => false)).1, none)
  | (s, .window) => (s, none)

/-- A single request to an extent is held: a migration switches it (R101), or its write must be mirrored while
this module is ISOLATED (R386). -/
def heldExt (s : State) (e : Nat) (write : Bool) : Bool :=
  (match tget s.xlt.migrations e with
    | some g => g.switching.isSome
    | none => false)
  || (write && s.twin.st == 2 && (extRec s e).mirrored)

/-- Read from a ring. -/
def ringRead (s : State) (c : Ctx) (addr len : Nat) : State × RingAcc :=
  match ringXl s c addr pRD with
  | (s, none) => (s, .fault)
  | (s, some a) =>
    if heldExt s (extOf a) false then (s, .blocked)
    else match agentRange s a len false with
      | (false, s) => (s, .blocked)
      | (true, s) =>
        let (b, bad, s) := load s a len
        (s, if bad then .poisoned else .ok b 0)

/-- Write a range of pool memory for the scheduler and mirror its lines: the number of mirrored lines. -/
def storeMirrored (s : State) (a : Nat) (b : List Byte) (use : OwnUse) : State × Nat :=
  let s := (store s a b).2
  if mirroring s && mirroredAt s a then
    let lm := lineMasks [(a, b.length)] (unmasked b)
    (lm.foldl (fun s e => mirrorLine s e.1 e.2 use none) s, lm.length)
  else (s, 0)

/-- Write to a ring. -/
def ringWrite (s : State) (c : Ctx) (addr : Nat) (b : List Byte) (use : OwnUse) : State × RingAcc :=
  match ringXl s c addr pWR with
  | (s, none) => (s, .fault)
  | (s, some a) =>
    if heldExt s (extOf a) true then (s, .blocked)
    else match agentRange s a b.length true with
      | (false, s) => (s, .blocked)
      | (true, s) =>
        let (s, n) := storeMirrored s a b use
        (s, .ok [] n)

/-- A range of a ring can be written now, or cannot be translated. -/
def ringClear (s : State) (c : Ctx) (addr len : Nat) : Bool × State :=
  match wordXl s c.tenant addr pWR with
  | (s, none) => (true, s)
  | (s, some a) => if heldExt s (extOf a) true then (false, s) else agentRange s a len true

/-- Write part of the module's line of the ring header (R232); while a host holds the line the write waits.
Answers whether the write faulted. -/
def headerPut (s : State) (x : Nat) (c : Ctx) (off : Nat) (b : List Byte) : State × Bool :=
  let wait := fun (s : State) => { s with sched := { s.sched with posts := s.sched.posts ++ [(x, off, b)] } }
  if s.sched.posts.any (fun p => p.1 == x) then (wait s, false)
  else match ringWrite s c (c.ring + off) b .plain with
    | (s, .fault) => (s, true)
    | (s, .blocked) => (wait s, false)
    | (s, _) => (s, false)

/-- Make the header writes of a context that wait. -/
def flushPosts (s : State) (x : Nat) : State :=
  match ctxAt s x with
  | none => { s with sched := { s.sched with posts := s.sched.posts.filter (fun p => p.1 != x) } }
  | some c =>
    let mine := s.sched.posts.filter (fun p => p.1 == x)
    let s := { s with sched := { s.sched with posts := s.sched.posts.filter (fun p => p.1 != x) } }
    mine.foldl (fun s p => (headerPut s x c p.2.1 p.2.2).1) s

/-! ### Shadows, parks and stops -/

/-- Free a shadow. -/
def freeShadow (s : State) (sh : Nat) : State := { s with xlt := { s.xlt with shadows := tdel s.xlt.shadows sh } }

/-- A context leaves the WAITERS of a record (R105, R112). -/
def leaveRecord (s : State) (r : Nat × Nat) : State :=
  match (faultsOf s r.1).find? (fun e => e.2.seq == r.2) with
  | none => s
  | some e => setFault s r.1 e.1 { e.2 with waiters := e.2.waiters - 1 }

/-- A context's parked descriptor is dropped: it leaves the WAITERS of its records, and the unrecorded contexts. -/
def dropPark (s : State) (x : Nat) : State :=
  match (ctxAt s x).bind (fun c => c.park) with
  | none => s
  | some p =>
    let s := p.records.foldl leaveRecord s
    let u := s.xlt.unrecorded.map (fun (e : Nat × List Nat) => (e.1, e.2.filter (fun y => y != x)))
    updCtx { s with xlt := { s.xlt with unrecorded := u } } x (fun c => { c with park := none })

/-- Free the shadows of a run. -/
def freeRun (s : State) (r : Option Run) : State :=
  match r with
  | none => s
  | some r => freeShadow s r.job.shadow

/-- The accepted next descriptor is dropped. -/
def dropNext (s : State) (x : Nat) : State :=
  match ctxAt s x with
  | none => s
  | some c => setCtx (freeRun s c.next) x { c with next := none }

/-- Free a watch entry, if there is one. -/
def freeWatchOpt (s : State) (w : Option Nat) : State :=
  match w with
  | none => s
  | some k => freeWatch s k false

/-- The scheduler has begun a descriptor. -/
def Run.started (r : Run) : Bool :=
  !r.members.isEmpty || decide (0 < r.job.nextTile) || r.waiting || !r.job.flight.isEmpty

/-- A bulk descriptor of a context that stops: it fails, or is not executed (R246, R247). -/
def stopBulk (s : State) (x : Nat) : State :=
  let f := fun (b : BulkJob) =>
    if b.context = x then { b with job := b.job.failing (if 0 < b.job.nextTile then sFAULTED else sNOT_EXECUTED) 0x08 } else b
  { s with sched := { s.sched with bulk := s.sched.bulk.map f } }

/-- What a context loses when it stops or drains: its park, its next descriptor, and a descriptor that it has not
begun. -/
def dropWork (s : State) (x : Nat) : State :=
  let s := dropNext (dropPark s x) x
  let s := stopBulk s x
  match ctxAt s x with
  | none => s
  | some c => match c.run with
    | none => s
    | some r =>
      if r.started then s
      else setCtx (freeShadow s r.job.shadow) x { c with run := none }

/-- A context enters STOPPED (R246): its cause is written into the ring header. -/
def enterStopped (s : State) (x cause : Nat) : State :=
  let s := dropWork s x
  match ctxAt s x with
  | none => s
  | some c =>
    let s := freeWatchOpt s c.waitWatch
    let c := { c with st := cxSTOPPED, cause := cause, pend := false, busyRetry := false, retryAt := none, reserved := []
                      stealAt := none, stealDone := false, waitWatch := none, refused := [], overrun := false }
    (headerPut (setCtx s x c) x c 0x18 (leBytes 8 cause)).1

/-- A context is to stop: at once, or when the descriptor it has begun has completed FAULTED (R246). -/
def stopCtx (s : State) (x cause : Nat) : State :=
  match ctxAt s x with
  | none => s
  | some c =>
    if c.st = cxSTOPPED ∨ c.st = cxDRAINING then s
    else match c.run with
      | some r =>
        if r.started then
          let r := { r with job := r.job.failing sFAULTED 0x08, stop := 3, waiting := false }
          let s := freeWatchOpt s c.waitWatch
          dropNext (dropPark (setCtx s x { c with run := some r, cause := cause, waitWatch := none }) x) x
        else enterStopped s x cause
      | none => enterStopped s x cause

/-- The cause codes of a stop that are not completion causes (R260). -/
def stRING : Nat := 0x09
def stRING_OVERRUN : Nat := 0x0A
def stSIGNAL_POISON : Nat := 0x0B

/-! ### Virtual time (R493) -/

/-- The WEIGHT of a tenant. -/
def weightOf (s : State) (t : Nat) : Nat := max (rf s (Reg.XLT_TN_CFG t) 7 0) 1

/-- The course time of a dispatch so far, as virtual time of its tenant. -/
def useOf (s : State) (c : Ctx) : Nat :=
  match c.run with
  | some r => r.members.length * (now s - r.dispatched) * 65536 / weightOf s c.tenant
  | none => 0

/-- The virtual time of a tenant, with what its contexts are using. DESIGN CHOICE: assumption 90. -/
def vtimeNow (s : State) (t : Nat) : Nat :=
  tgetD s.sched.vtime t 0
    + ((s.sched.ctxs.filter (fun c => c.2.tenant == t)).map (fun c => useOf s c.2)).foldl (· + ·) 0

/-- A dispatch ends: its course time is charged. -/
def chargeUse (s : State) (c : Ctx) : State :=
  { s with sched := { s.sched with vtime := tset s.sched.vtime c.tenant (tgetD s.sched.vtime c.tenant 0 + useOf s c) } }

/-- A context enters READY: a tenant of whose contexts none was takes the lowest virtual time of the READY tenants,
or its own if that is higher. -/
def wakeTenant (s : State) (t : Nat) : State :=
  let ready := s.sched.ctxs.filter (fun c => c.2.st == cxREADY)
  if ready.any (fun c => c.2.tenant == t) then s
  else match (ready.map (fun c => tgetD s.sched.vtime c.2.tenant 0)).min? with
    | none => s
    | some v => { s with sched := { s.sched with vtime := tset s.sched.vtime t (max v (tgetD s.sched.vtime t 0)) } }

/-! ### TAIL and the state of a context -/

/-- A TAIL value as the scheduler meets it (R234). DEDUCED: assumption 83. -/
def takeTail (s : State) (x v : Nat) (counted : Bool) : State :=
  match ctxAt s x with
  | none => s
  | some c =>
    if c.overrun then s
    else if v ≤ c.tail then (if counted then bump s Reg.XLT_TAIL_IGNORED 1 else s)
    else if v ≤ c.head + 2 ^ c.ringLog then setCtx s x { c with tail := v }
    else
      let s := report s 0x14 0x04 0 (Reg.XLT_CTX_STAT x) 0 (some c.tenant) none
      if c.st = cxSTOPPED then s
      else match c.run with
        | some r => if r.started then dropNext (setCtx s x { c with overrun := true }) x else enterStopped s x stRING_OVERRUN
        | none => enterStopped s x stRING_OVERRUN

/-- Read TAIL from the ring header. -/
def readTail (s : State) (x : Nat) (counted : Bool) : State :=
  match ctxAt s x with
  | none => s
  | some c => match ringRead s c (c.ring + 0x80) 8 with
    | (s, .ok b _) => takeTail s x (leNat b) counted
    | (s, .poisoned) => stopCtx s x stRING
    | (s, .fault) => stopCtx s x stRING
    | (s, .blocked) => updCtx s x (fun c => { c with pend := true })

/-- The state that a context's work gives it (R249). -/
def workState (s : State) (x : Nat) (c : Ctx) : Nat :=
  let active := match c.run with
    | some r => !r.members.isEmpty || r.waiting || r.job.phase == 1
    | none => false
  if active || !(bulkOfCtx s x).isEmpty then cxRUNNING
  else if c.run.isSome then cxREADY
  else if c.park.isSome then cxPARKED
  else if c.head < c.tail then cxREADY
  else cxIDLE

/-- Put a context into the state its work gives it, unless it is SUSPENDED, STOPPED or DRAINING. Before it enters
IDLE, TAIL is read once more (R235). -/
def settle (s : State) (x : Nat) : State :=
  let place := fun (s : State) => match ctxAt s x with
    | none => s
    | some c =>
      if cxSUSPENDED ≤ c.st then s
      else
        let w := workState s x c
        let s := if w = cxREADY ∧ c.st ≠ cxREADY then wakeTenant s c.tenant else s
        updCtx s x (fun c => { c with st := w })
  match ctxAt s x with
  | none => s
  | some c =>
    if cxSUSPENDED ≤ c.st then s
    else if workState s x c = cxIDLE ∧ (c.st ≠ cxIDLE ∨ c.pend) ∧ paused s c = false then
      place (readTail (setCtx s x { c with pend := false }) x false)
    else place s

/-! ### WAIT (R243) -/

/-- A WAIT becomes the descriptor that its context runs: it completes at once, waits with a watch entry, or fails.
While a fence covers its word, or a host holds the line, it is tried again. DEDUCED: assumption 84. -/
def startWait (s : State) (x : Nat) : State :=
  match ctxAt s x with
  | none => s
  | some c => match c.run with
    | none => s
    | some r =>
      let d := courseOf r.raw
      if d.isStream || r.job.fail.isSome || r.waiting || decide (0 < r.job.nextTile)
          || (bulkOfCtx s x).any (fun b => decide (b.job.shadow < r.job.shadow)) then s
      else
        let a := (d.record 0).addr
        let e := ((shadowAt s r.job.shadow).entries.head?.map (fun e => e.extent)).getD 0
        if fenced s e then s
        else match wordXl s c.tenant a (pRD + pCRS) with
          | (s, none) => updRun s x (fun r => { r with job := r.job.failing sFAULTED 0x03 })
          | (s, some p) =>
            match agentLine s (p / 128) false with
            | (false, s) => s
            | (true, s) =>
              match loadWord s p with
              | (none, s) => updRun s x (fun r => { r with job := r.job.failing sPOISONED 0x06 })
              | (some v, s) =>
                if d.target ≤ v then updRun s x (fun r => { r with job := { r.job with nextTile := 1 } })
                else
                  let (s, w) := installWatch s (schedEntry s false c.tenant x a d.target p)
                  updCtx s x (fun c => { c with waitWatch := w, run := c.run.map (fun r => { r with waiting := true }) })

/-! ### Acceptance -/

/-- A shadow is free for a tenant (R84, R497): the shadows of isolated tenants are held for them.
DEDUCED: assumption 91. -/
def shadowFree (s : State) (t : Nat) : Bool :=
  if isolated s t then true
  else
    let held := ((isolatedTenants s).map (fun t => rf s (Reg.XLT_TN_ADMITLIM t) 13 0)).foldl (· + ·) 0
    let used := (s.xlt.shadows.filter (fun h => !isolated s h.2.tenant)).length
    decide (used + held < 8192)

/-- The cause of a refusal at step 4 of R84: 2 SHADOWS, 3 TENANT_LIMIT. DEDUCED: assumption 91. -/
def admitBar (s : State) (t : Nat) : Option Nat :=
  if !shadowFree s t then some 2
  else if rf s (Reg.XLT_TN_ADMITLIM t) 13 0 ≤ (s.xlt.shadows.filter (fun h => h.2.tenant == t)).length then some 3
  else none

/-- Take a number in the order of acceptance. -/
def takeNumber (s : State) : State × Nat :=
  ({ s with sched := { s.sched with nextShadow := s.sched.nextShadow + 1 } }, s.sched.nextShadow)

/-- Put a shadow into the store (R89). -/
def putShadow (s : State) (sh : Nat) (h : Shadow) : State := { s with xlt := { s.xlt with shadows := tset s.xlt.shadows sh h } }

/-- Record or merge the faults of a descriptor and park its context (R86, R103 to R108). A context that is in the
unrecorded order of a tenant already keeps its place. -/
def parkOn (s : State) (x src : Nat) (fs : List Flt) (raw : List Byte) (bulk : Option Msg) : State :=
  let (s, recs, lost) := fs.foldl (fun (p : State × List (Nat × Nat) × List Nat) f =>
    match recordFault p.1 f (some x) src (fun n => p.2.1.contains (f.tenant, n)) with
    | (s, some n) => (s, (if p.2.1.contains (f.tenant, n) then p.2.1 else p.2.1 ++ [(f.tenant, n)]), p.2.2)
    | (s, none) => (s, p.2.1, if p.2.2.contains f.tenant then p.2.2 else p.2.2 ++ [f.tenant])) (s, [], [])
  let s := lost.foldl (fun s t =>
    let l := tgetD s.xlt.unrecorded t []
    if l.contains x then s
    else
      let s := bump s (Reg.XLT_FQ_OVF t) 1
      { s with xlt := { s.xlt with unrecorded := tset s.xlt.unrecorded t (l ++ [x]) } }) s
  let u := s.xlt.unrecorded.map (fun (e : Nat × List Nat) => (e.1, if lost.contains e.1 then e.2 else e.2.filter (fun y => y != x)))
  let s := { s with xlt := { s.xlt with unrecorded := u } }
  updCtx s x (fun c => { c with park := some { records := recs, unrecorded := !lost.isEmpty, raw := raw, bulk := bulk, again := false } })

/-- A course descriptor as its context holds it. -/
def Run.fresh (raw : List Byte) (job : Job) : Run :=
  { raw := raw, job := job, prog := none, bcast := none, accesses := 0, lateAcc := 0, flushed := 0, oob := 0
    waiting := false, members := [], dispatched := 0, stop := 0 }

/-- Put an accepted, or failed, descriptor behind the one that its context runs; a WAIT that becomes the
descriptor that it runs is looked at. -/
def enqueueRun (s : State) (x : Nat) (r : Run) : State :=
  let s := updCtx s x (fun c => match c.run with
    | none => { c with run := some r }
    | some _ => { c with next := some r })
  settle (startWait s x) x

/-- The lowest tile of a descriptor that a takeover has not found moved (R388): 0 for any other.
DEDUCED: assumption 99. -/
def startTile (s : State) (bulk : Bool) (x d : Nat) : Nat :=
  ((s.twin.moved.find? (fun m => m.1 == bulk && m.2.1 == x && m.2.2.1 == d % 2 ^ 32)).map (fun m => m.2.2.2)).getD 0

/-- Check and translate a course descriptor: steps 5 and 6 of R84. It is accepted, fails, or parks its context. -/
def admitCourse (s : State) (x : Nat) (c : Ctx) (d : Nat) (raw : List Byte) : State :=
  let k := courseOf raw
  let src := portCoord s 0
  let failed := fun (s : State) (cause : Nat) =>
    let (s, n) := takeNumber s
    enqueueRun s x (Run.fresh raw ((Job.fresh n d).failing sFAULTED cause))
  if k.error c.gangMax (isolated s c.tenant) || unitsBad k.units then failed s 0x01
  else
    let (s, r) := xlDesc c.tenant src s k.units
    if r.window then failed s 0x0C
    else if !r.faults.isEmpty then settle (parkOn s x src r.faults raw none) x
    else
      let fs := placeFields 0 r.fields
      let ops := k.shadowFields fs
      if k.overlaps r.entries ops then failed s 0x01
      else
        let (s, n) := takeNumber s
        let h : Shadow :=
          { context := x, tenant := c.tenant, course := true, entries := r.entries, sigIdx := (fieldOf fs 16).1
            held := false, era := s.xlt.era, accepted := now s, origin := slotAddr c d, operands := ops }
        let t := startTile s false x d
        enqueueRun (putShadow s n h) x (Run.fresh raw { Job.fresh n d with nextTile := t, tiles := t })

/-- Post ADMIT_STATUS BUSY_RETRY (R232, R248). -/
def postAdmit (s : State) (x : Nat) (c : Ctx) (cause retry : Nat) : State :=
  let s := bump s Reg.XLT_ADMIT_REFUSED 1
  let c := { c with busyRetry := true, retryAt := if cause = 1 then none else some retry }
  let (s, bad) := headerPut (setCtx s x c) x c 0x08 (leBytes 8 (5 + 256 * cause) ++ leBytes 8 retry)
  if bad then stopCtx s x stRING else s

/-- Clear ADMIT_STATUS on acceptance. -/
def clearAdmit (s : State) (x : Nat) (c : Ctx) : State :=
  if !c.busyRetry then s
  else
    let c := { c with busyRetry := false, retryAt := none }
    let (s, bad) := headerPut (setCtx s x c) x c 0x08 (leBytes 16 0)
    if bad then stopCtx s x stRING else s

/-- The number of the next descriptor that the scheduler may read, if it may read one (R244). -/
def Ctx.nextDesc (c : Ctx) : Option Nat :=
  let run := match c.run with
    | some r => if r.job.phase = 0 then 1 else 0
    | none => 0
  let stop := match c.run with
    | some r => r.stop != 0 || r.job.fail.isSome
    | none => false
  if c.next.isSome || stop || c.overrun || decide (c.tail ≤ c.head + run) then none else some (c.head + run)

/-- Read and accept the next descriptor of a ring (R84, R237, R244, R248). -/
def acceptNext (s : State) (x : Nat) : State :=
  let s := flushPosts s x
  match ctxAt s x with
  | none => s
  | some c =>
    if c.st < cxREADY ∨ cxPARKED < c.st ∨ paused s c = true then s
    else match c.nextDesc with
      | none => s
      | some d =>
        if c.park.isSome then (if c.busyRetry then s else postAdmit s x c 1 0)
        else match admitBar s c.tenant with
          | some cause => postAdmit (bump s (Reg.XLT_TN_ADMIT c.tenant) 1) x c cause (retryAfter s)
          | none => match ringRead s c (slotAddr c d) 256 with
            | (s, .ok b _) =>
              let s := clearAdmit s x c
              match ctxAt s x with
              | some c => if c.st = cxSTOPPED then s else admitCourse s x c d b
              | none => s
            | (s, .poisoned) => stopCtx s x stRING
            | (s, .fault) => stopCtx s x stRING
            | (s, .blocked) => s

/-- DESCRIPTOR_ACCEPT (R84, R248): a refused descriptor waits for its retry time. -/
def execDescriptorAccept (context : Nat) (s : State) : Host.Outcome State Fault Refusal :=
  match (ctxAt s context).bind (fun c => c.retryAt) with
  | some t => if now s < t then .next (flushPosts s context) else .next (acceptNext s context)
  | none => .next (acceptNext s context)

/-! ### Completion -/

/-- What the advance of a signal word meets. -/
inductive Adv where
  | done
  | poison
  | blocked
  deriving DecidableEq, Repr

/-- Translate a descriptor's signal word: by its shadow entry while that is current, again where it is stale, and
as a single request where it has no shadow. DEDUCED: assumption 105. -/
def signalXl (s : State) (c : Ctx) (sh addr : Nat) : State × Option Nat :=
  match tget s.xlt.shadows sh with
  | none => ringXl s c addr pWR
  | some h => match h.entries[h.sigIdx]? with
    | none => (s, none)
    | some e =>
      if e.epoch = epochOf s e.extent ∧ h.era = s.xlt.era then (s, some (ppaOf e.extent (addr % 2 ^ 30)))
      else wordXl s c.tenant addr pWR

/-- Advance a descriptor's signal word (R245, R291, R295), and send the addition to the standby (R312). -/
def advance (s : State) (x : Nat) (c : Ctx) (sh addr amount desc : Nat) (bulk : Bool) : State × Adv :=
  if addr % 8 ≠ 0 then (s, .done)
  else match signalXl s c sh addr with
    | (s, none) => (s, .done)
    | (s, some a) =>
      if heldExt s (extOf a) true then (s, .blocked)
      else match agentLine s (a / 128) true with
        | (false, s) => (s, .blocked)
        | (true, s) => match signalAdd (chargeSegs s c.tenant [(a, 8)]) a amount with
          | (none, s) => (s, .poison)
          | (some _, s) =>
            if mirroring s && mirroredAt s a && amount % 2 ^ 64 != 0 then
              let m := mkMsg s 0 0x17 (twinPeer s)
              let m := { m with akind := 2, addr := BitVec.ofNat 52 a, context := BitVec.ofNat 14 x
                                xf := BitVec.ofNat 4 (b2n bulk), arg := BitVec.ofNat 64 amount }
              let m := withData m (leBytes 4 desc)
              let s := { s with twin := { s.twin with bytes := s.twin.bytes + msgSlots m * 16 } }
              (ownRequestVia s (mirrorPort s (extOf a)) m .plain, .done)
            else (s, .done)

/-- Completion record of a descriptor (R240). -/
def recordBytes (status cause tiles flushed oob : Nat) : List Byte :=
  leBytes 8 (status + 256 * cause + 2 ^ 32 * (tiles % 2 ^ 32)) ++ leBytes 4 (min flushed 0xFFFFFFFF)
    ++ leBytes 4 (min oob 0xFFFFFFFF)

/-- Write the completion record of descriptor d and then HEAD (R245): the mirrored lines, or nothing where a write
faults; none while a host holds one of the lines. DEDUCED: assumption 98. -/
def writeRecord (s : State) (c : Ctx) (sh d : Nat) (rec_ : List Byte) : Option (Option Nat) × State :=
  let (ok1, s) := ringClear s c (slotAddr c d + 0xF0) 16
  let (ok2, s) := ringClear s c c.ring 8
  if !(ok1 && ok2) then (none, s)
  else match ringWrite s c (slotAddr c d + 0xF0) rec_ (.commit sh) with
    | (s, .ok _ n) => match ringWrite s c c.ring (leBytes 8 (d + 1)) (.commit sh) with
      | (s, .ok _ m) => (some (some (n + m)), s)
      | (s, _) => (some none, s)
    | (s, _) => (some none, s)

/-- Tiles that a descriptor must end: a WAIT counts as one. -/
def Course.steps (k : Course) : Nat := if k.isStream then k.tiles else 1

/-- Every tile of a job has ended, or it has failed and its tiles in flight have. -/
def Job.finished (j : Job) (total : Nat) : Bool := j.flight.isEmpty && j.acks == 0 && (j.fail.isSome || decide (total ≤ j.nextTile))

/-- STATUS and CAUSE of a course descriptor whose tiles have ended (R130, R229, R246). -/
def Run.outcome (r : Run) : Nat × Nat :=
  match r.job.fail with
  | some f => f
  | none =>
    if 0 < r.oob ∧ (courseOf r.raw).oobStop = true ∧ (courseOf r.raw).isStream = true then (sFAULTED, 0x04)
    else if 0 < r.lateAcc ∧ r.accesses ≤ 1024 * r.lateAcc then (sLATE, 0)
    else (sCOMPLETE, 0)

/-- Deferred suspensions of a context that is suspended, or has stopped, send their final reply (R249, R250). -/
def finishSuspend (s : State) (x : Nat) : State :=
  match ctxAt s x with
  | none => finishAll s (fun w => w == .contextSuspend x) stCONFLICT []
  | some c =>
    if c.st = cxSUSPENDED then finishAll s (fun w => w == .contextSuspend x) stOK []
    else if cxSTOPPED ≤ c.st then finishAll s (fun w => w == .contextSuspend x) stCONFLICT []
    else s

/-- The descriptor that a context ran is concluded: the context stops where it failed, else the next one follows
(R244 to R246, R295). DEDUCED: assumption 98. -/
def conclude (s : State) (x : Nat) (r : Run) (poison : Bool) : State :=
  match ctxAt s x with
  | none => s
  | some c =>
    let (st, cause) := r.outcome
    let failed := decide (2 ≤ st)
    let s := freeWatchOpt (freeShadow (chargeUse s c) r.job.shadow) c.waitWatch
    let c := { c with run := none, waitWatch := none }
    let s := setCtx s x c
    if c.st = cxDRAINING then dropNext s x
    else if c.st = cxSTOPPED then s
    else if failed then finishSuspend (enterStopped s x (if r.stop = 3 then c.cause else cause)) x
    else if poison then finishSuspend (enterStopped s x stSIGNAL_POISON) x
    else if c.overrun then finishSuspend (enterStopped s x stRING_OVERRUN) x
    else
      let s := startWait (setCtx s x { c with run := c.next, next := none }) x
      if r.stop = 2 then finishSuspend (updCtx s x (fun c => { c with st := cxSUSPENDED })) x else settle s x

/-- Complete the descriptor that a context runs, as far as it can go (R245): record and HEAD, their mirrored writes,
the signal word. -/
def completeRun (s : State) (x : Nat) : State :=
  match ctxAt s x with
  | none => s
  | some c => match c.run with
    | none => s
    | some r =>
      let k := courseOf r.raw
      if (bulkOfCtx s x).any (fun b => decide (b.job.shadow < r.job.shadow)) || !r.job.finished k.steps || paused s c
          || (c.st == cxSUSPENDED && r.job.fail.isNone) then s
      else
        let (st, cause) := r.outcome
        let second := fun (s : State) => match ctxAt s x with
          | none => s
          | some c => match advance s x c r.job.shadow k.signal k.signalAdd r.job.desc false with
            | (s, .blocked) => s
            | (s, a) => conclude s x r (a == .poison)
        if r.job.phase = 1 then second s
        else match writeRecord s c r.job.shadow r.job.desc (recordBytes st cause r.job.tiles r.flushed r.oob) with
          | (none, s) => s
          | (some none, s) =>
            let s := freeWatchOpt (freeShadow (chargeUse s c) r.job.shadow) c.waitWatch
            let s := setCtx s x { c with run := none, waitWatch := none, head := c.head + 1 }
            if cxSTOPPED ≤ c.st then s else finishSuspend (enterStopped s x stRING) x
          | (some (some n), s) =>
            let s := updCtx s x (fun c => { c with head := c.head + 1
                                                   run := c.run.map (fun r => { r with job := { r.job with phase := 1, acks := n } }) })
            if n = 0 then second s else s

/-! ### The ring of a stopped or draining context (R247, R250) -/

/-- Up to which descriptor a context drains. -/
def Ctx.drainTo (c : Ctx) : Nat := c.limit.getD c.tail

/-- Complete one slot NOT_EXECUTED (R247): whether it was done, and not held up. A slot that cannot be read is passed
over. DEDUCED: assumption 86. -/
def drainSlot (s : State) (x : Nat) (c : Ctx) : Bool × State :=
  let d := c.head
  let pass := fun (s : State) => updCtx s x (fun c => { c with head := d + 1 })
  match ringRead s c (slotAddr c d) 256 with
  | (s, .blocked) => (false, s)
  | (s, .ok b _) =>
    let k := courseOf b
    let sig := wordXl s c.tenant k.signal pWR
    let ready := match sig with
      | (s, none) => (true, s)
      | (s, some a) => if heldExt s (extOf a) true then (false, s) else agentLine s (a / 128) true
    match ready with
    | (false, s) => (false, s)
    | (true, s) => match writeRecord s c 0 d (recordBytes sNOT_EXECUTED 0x08 0 0 0) with
      | (none, s) => (false, s)
      | (some none, s) => (true, pass s)
      | (some (some _), s) => (true, pass (advance s x c s.sched.nextShadow k.signal k.signalAdd d false).1)
  | (s, _) => (true, pass s)

/-- Drain up to n slots. DEDUCED: assumption 86. -/
def drainSlots : Nat → State → Nat → Bool × State
  | 0, s, _ => (true, s)
  | n + 1, s, x =>
    match ctxAt s x with
    | none => (true, s)
    | some c =>
      if c.run.isSome || decide (c.drainTo ≤ c.head) then (c.run.isNone, s)
      else match drainSlot s x c with
        | (false, s) => (false, s)
        | (true, s) => drainSlots n s x

end Sys2Proof.Machine
end

