-- ==== Sys2Proof/Machine/Sched.lean ====
section
/-!
DEFINITION. The course scheduler and the bulk engine: revalidation, the choice of context and course, dispatch,
tiles, preemption, and bulk descriptors (R82 to R95, R223 to R231, R251 to R258, R492 to R499, R566).
-/

namespace Sys2Proof.Machine

/-! ### Revalidation (R93 to R95) -/

/-- The address kind and need of each entry of a shadow, in order. -/
def entryNeeds (us : List OpUnits) : List Nat := us.flatMap (fun u => List.replicate (unitCount u.addr u.len) u.need)

/-- Translate an entry again along the path recorded in it; nothing is recorded as a fault. -/
def againEntry (s : State) (tenant src need : Nat) (e : ShEntry) : State × Option ShEntry :=
  let r := if e.viawin then
      windowXl s ((e.srcUnit / 2 ^ 10) * 2 ^ 40 + (e.srcUnit % 2 ^ 10) * 2 ^ 30) need src
    else slotXl s tenant e.srcUnit need 15 (e.srcUnit * 2 ^ 30) e.srcUnit false
  match r with
  | (s, .ok e _) => (s, some e)
  | (s, _) => (s, none)

/-- An entry does not carry its extent's current epoch. -/
def staleEntry (s : State) (e : ShEntry) : Bool := e.epoch != epochOf s e.extent

/-- What a revalidation gives. -/
inductive Reval where
  | ok
  | failed
  | held
  deriving DecidableEq, Repr

/-- Revalidate the stale entries of a shadow, or all of them where its ERA is old (R94, R95): held while a fence is
open on the extent of one. -/
def revalidate (s : State) (sh src : Nat) (us : List OpUnits) : State × Reval :=
  match tget s.xlt.shadows sh with
  | none => (s, .ok)
  | some h =>
    let all := h.era != s.xlt.era
    let ne := (h.entries.zip (entryNeeds us))
    let redo := fun (e : ShEntry) => all || staleEntry s e
    if ne.any (fun p => redo p.1 && fenced s p.1.extent) then (s, .held)
    else
      let (s, es, ok) := ne.foldl (fun (q : State × List ShEntry × Bool) p =>
        if redo p.1 then
          match againEntry q.1 h.tenant src p.2 p.1 with
          | (s, some e) => (s, q.2.1 ++ [e], q.2.2)
          | (s, none) => (s, q.2.1 ++ [p.1], false)
        else (q.1, q.2.1 ++ [p.1], q.2.2)) (s, [], true)
      if ok then (putShadow s sh { h with entries := es, era := s.xlt.era, held := false }, .ok) else (s, .failed)

/-- Mark a descriptor HELD, or not (R93). -/
def markHeld (s : State) (sh : Nat) (v : Bool) : State :=
  let s := updJob s sh (fun j => { j with held := v })
  match tget s.xlt.shadows sh with
  | none => s
  | some h => putShadow s sh { h with held := v }

/-- Revalidate a descriptor and act on the result: true when it may go on. -/
def revalJob (s : State) (sh src : Nat) (us : List OpUnits) : Bool × State :=
  match revalidate s sh src us with
  | (s, .ok) => (true, updJob (markHeld s sh false) sh (fun j => { j with recheck := false }))
  | (s, .failed) => (false, updJob (markHeld s sh false) sh (fun j => j.failing sFAULTED 0x03))
  | (s, .held) => (false, markHeld s sh true)

/-- The entries that a tile uses are current (R93). -/
def entriesFresh (s : State) (sh : Nat) (idx : List Nat) : Bool :=
  match tget s.xlt.shadows sh with
  | none => true
  | some h => h.era == s.xlt.era && idx.all (fun i => match h.entries[i]? with
    | some e => !staleEntry s e
    | none => true)

/-! ### Gates (R498, R499) -/

/-- Tenant t is open in the current gate entry. -/
def tenantOpen (s : State) (t : Nat) : Bool :=
  match (gateList s (Reg.XLT_GATE 0))[s.sched.gate]? with
  | none => false
  | some w => if isolated s t then !bit w 28 && bits w 27 20 == t else bit w 28

/-- Die n runs gates. -/
def gated (s : State) (n : Nat) : Bool := rf s Reg.XLT_GATE_CTL 6 6 == 1 && bit (rg s Reg.XLT_GATE_CTL) n

/-- Work of tenant t may start on die n now. DESIGN CHOICE: assumption 175. -/
def dieOpen (s : State) (t n : Nat) : Bool := !gated s n || (tenantOpen s t && !bit s.sched.guard n)

/-! ### The choice of course (R252, R258) -/

/-- A course may be dispatched: enabled and not being disabled. -/
def courseOn (s : State) (k : Nat) : Bool := rf s (Reg.CRS_CTL (k / 2) (k % 2)) 0 0 == 1 && !bit s.sched.draining k

/-- A course runs a descriptor, or is reserved for another context than x. -/
def courseTaken (s : State) (x k : Nat) : Bool :=
  s.sched.ctxs.any (fun e => (e.1 != x && e.2.reserved.contains k) || (match e.2.run with
    | some r => r.members.contains k
    | none => false))

/-- The gates let a descriptor run on die n: a shared tenant's only with every local operand on gated dies, and no
remote one. -/
def gateFits (s : State) (c : Ctx) (k : Course) (h : Shadow) (n : Nat) : Bool :=
  !gated s n || (dieOpen s c.tenant n
    && (isolated s c.tenant || (!k.ops.any (fun e => e.2.remote) && h.entries.all (fun e => gated s (e.extent / 480)))))

/-- Whether die a comes before die b for a descriptor. -/
def dieBefore (k : Course) (h : Shadow) (a b : Nat) : Bool :=
  let da := k.dieCount h.entries h.operands true a
  let db := k.dieCount h.entries h.operands true b
  let sa := k.dieCount h.entries h.operands false a
  let sb := k.dieCount h.entries h.operands false b
  decide (db < da) || (da == db && (decide (sb < sa) || (sa == sb && decide (a < b))))

/-- Insert a course into a list in the order of R252. -/
def insertCourse (k : Course) (h : Shadow) (a : Nat) : List Nat → List Nat
  | [] => [a]
  | b :: t => if dieBefore k h (a / 2) (b / 2) || (a / 2 == b / 2 && decide (a < b)) then a :: b :: t else b :: insertCourse k h a t

/-- The enabled courses that a context may use, in the order of R252. -/
def courseOrder (s : State) (c : Ctx) (k : Course) (h : Shadow) : List Nat :=
  ((List.range 12).filter (fun n => courseOn s n && bit c.diemask (n / 2) && gateFits s c k h (n / 2))).foldl
    (fun l n => insertCourse k h n l) []

/-- A context has a descriptor that a dispatch could start now. -/
def startable (s : State) (x : Nat) (c : Ctx) (r : Run) : Bool :=
  let k := courseOf r.raw
  c.st == cxREADY && r.members.isEmpty && !r.waiting && r.job.fail.isNone && r.job.phase == 0 && r.stop == 0 && k.isStream
    && decide (r.job.nextTile < k.tiles) && !paused s c && (decide (0 < r.job.nextTile) || decide (k.notBefore ≤ now s))
    && (bulkOfCtx s x).all (fun b => decide (r.job.shadow < b.job.shadow))

/-- The courses a dispatch would take now: one course of the best die, or any after STEAL_WAIT; a gang when all of
its courses are free. DEDUCED: assumption 89. -/
def pickCourses (s : State) (x : Nat) (c : Ctx) (r : Run) : Option (List Nat) :=
  let k := courseOf r.raw
  let order := courseOrder s c k (shadowAt s r.job.shadow)
  let free := order.filter (fun n => !courseTaken s x n)
  if k.gang ≤ 1 then
    match free.find? (fun n => some (n / 2) == order.head?.map (fun b => b / 2)) with
    | some n => some [n]
    | none => if c.stealDone then free.head?.map (fun n => [n]) else none
  else
    let held := (c.reserved ++ free.filter (fun n => !c.reserved.contains n)).take k.gang
    if held.length = k.gang then some held else none

/-- Free courses that a gang could still reserve. -/
def newReserve (s : State) (x : Nat) (c : Ctx) (r : Run) : List Nat :=
  let k := courseOf r.raw
  let free := (courseOrder s c k (shadowAt s r.job.shadow)).filter (fun n => !courseTaken s x n && !c.reserved.contains n)
  if k.gang ≤ 1 then [] else free.take (k.gang - c.reserved.length)

/-- Context x comes before context y at a choice (R251, R493). DEDUCED: assumption 89. -/
def servedBefore (s : State) (x : Nat) (a : Ctx) (y : Nat) (b : Ctx) : Bool :=
  if a.tenant = b.tenant then
    decide (b.prio < a.prio) || (a.prio == b.prio && (decide (a.served < b.served) || (a.served == b.served && decide (x < y))))
  else
    let va := vtimeNow s a.tenant
    let vb := vtimeNow s b.tenant
    decide (va < vb) || (va == vb && decide (x < y))

/-- Context y could be given courses now. -/
def contender (s : State) (y : Nat) (c : Ctx) : Bool :=
  match c.run with
  | some r => startable s y c r && ((pickCourses s y c r).isSome || !(newReserve s y c r).isEmpty)
  | none => false

/-- Context x is the choice of R251. -/
def isChoice (s : State) (x : Nat) (c : Ctx) : Bool :=
  contender s x c && s.sched.ctxs.all (fun e => e.1 == x || !contender s e.1 e.2 || servedBefore s x c e.1 e.2)

/-! ### Dispatch (R225, R256, R287, R566) -/

/-- Load and check the station program at the first dispatch: true when the descriptor may go on. -/
def loadProgram (s : State) (x : Nat) (r : Run) : Bool × State :=
  let k := courseOf r.raw
  let sh := r.job.shadow
  if r.prog.isSome then (true, s)
  else if k.progLen = 0 then (true, updRun s x (fun r => { r with prog := some [] }))
  else
    let o := k.progOpd (shadowAt s sh)
    match ensureRead sh o s 0 (8 * k.progLen) with
    | (false, s) => (false, s)
    | (true, s) =>
      let (b, bad, s) := fetch sh o s 0 (8 * k.progLen)
      let ws := bytesWords k.progLen b
      if bad then (false, updJob s sh (fun j => j.failing sPOISONED 0x06))
      else if progBad (ws.map (fun w => w.toNat)) k.streams k.dests.length k.scalars then
        (false, updJob s sh (fun j => j.failing sFAULTED 0x01))
      else (true, updRun s x (fun r => { r with prog := some ws }))

/-- Read the BROADCAST operands of a dispatch. -/
def loadBroadcast (s : State) (x : Nat) (r : Run) : Bool × State :=
  let k := courseOf r.raw
  let sh := r.job.shadow
  let rs := k.bcasts.map (fun e => (k.opd (shadowAt s sh) e.1, 0, fmtLen e.2.fmt e.2.row))
  match ensureReads sh s rs with
  | (false, s) => (false, s)
  | (true, s) =>
    let (bs, bad, s) := rs.foldl (fun (p : List (List Byte) × Bool × State) e =>
      let (b, y, s) := fetch sh e.1 p.2.2 e.2.1 e.2.2
      (p.1 ++ [b], p.2.1 || y, s)) ([], false, s)
    let s := updJob s sh (fun j => { j with landed := j.landed.filter (fun (e : Nat × Bool × List Byte) => decide (2 ^ 56 ≤ e.1))
                                            asked := j.asked.filter (fun a => decide (2 ^ 56 ≤ a)) })
    if bad then (false, updJob s sh (fun j => j.failing sPOISONED 0x06))
    else (true, updRun s x (fun r => { r with bcast := some bs }))

/-- Start, or restore, a context's descriptor on courses (R254): it revalidates first where it must. -/
def startOn (s : State) (x : Nat) (cs : List Nat) : State :=
  match (ctxAt s x).bind (fun c => c.run) with
  | none => s
  | some r =>
    let k := courseOf r.raw
    let sh := r.job.shadow
    let all := List.range (shadowAt s sh).entries.length
    match (if entriesFresh s sh all then (true, s) else revalJob s sh (portCoord s 0) k.units) with
    | (false, s) => settle s x
    | (true, s) => match loadProgram s x r with
      | (false, s) => settle s x
      | (true, s) => match loadBroadcast s x r with
        | (false, s) => settle s x
        | (true, s) =>
          let turn := s.sched.turn + 1
          let s := { s with sched := { s.sched with turn := turn } }
          let s := markHeld s sh false
          settle (updCtx s x (fun c => { c with
            run := c.run.map (fun r => { r with members := cs, dispatched := now s, job := { r.job with recheck := false } })
            reserved := [], stealAt := none, stealDone := false, served := turn })) x

/-- COURSE_DISPATCH (R251, R252, R258): the context that is the choice takes its courses, or reserves what a gang can;
one whose local courses are busy begins to wait for them. A WAIT is looked at again. -/
def execCourseDispatch (context : Nat) (s : State) : Host.Outcome State Fault Refusal :=
  let s := settle (startWait (flushPosts s context) context) context
  match ctxAt s context with
  | none => .next s
  | some c => match c.run with
    | none => .next s
    | some r =>
      if !startable s context c r || inSafe s then .next s
      else match pickCourses s context c r with
        | some cs => if isChoice s context c then .next (startOn s context cs) else .next s
        | none =>
          let more := newReserve s context c r
          if !more.isEmpty then
            if isChoice s context c then
              .next (setCtx s context { c with reserved := c.reserved ++ more
                                               gangAt := if c.reserved.isEmpty then now s else c.gangAt })
            else .next s
          else if (courseOf r.raw).gang ≤ 1 ∧ c.stealAt.isNone = true then .next (setCtx s context { c with stealAt := some (now s) })
          else .next s

/-- STEAL_WAIT_EXPIRE (R252): any free course within DIEMASK is taken. -/
def execStealWaitExpire (context : Nat) (s : State) : Host.Outcome State Fault Refusal :=
  match ctxAt s context with
  | none => .next s
  | some c => match c.stealAt with
    | none => .next s
    | some t =>
      let s := reach s (t + rf s Reg.XLT_SCHED_CTL 27 20 * 1000)
      execCourseDispatch context (setCtx s context { c with stealDone := true })

/-- GANG_WAIT_EXPIRE (R258): the gang starts with the courses it holds. -/
def execGangWaitExpire (context : Nat) (s : State) : Host.Outcome State Fault Refusal :=
  match ctxAt s context with
  | none => .next s
  | some c =>
    if c.reserved.isEmpty then .next s
    else .next (startOn (reach s (c.gangAt + rf s Reg.XLT_SCHED_CTL 19 12 * 1000)) context c.reserved)

/-- NOT_BEFORE_REACHED (R238): the time base reaches NOT_BEFORE of the context's descriptor. -/
def execNotBeforeReached (context : Nat) (s : State) : Host.Outcome State Fault Refusal :=
  match (ctxAt s context).bind (fun c => c.run) with
  | none => .next s
  | some r =>
    let k := courseOf r.raw
    if k.isStream = true ∧ r.job.nextTile = 0 then .next (settle (reach s k.notBefore) context) else .next s

/-! ### Tiles -/

/-- Granules that a range at an address touches. -/
def granuleCount (a len : Nat) : Nat := if len = 0 then 0 else (a % 256 + len + 255) / 256

/-- Granule accesses of tile t in the pool (R130). -/
def Course.accesses (k : Course) (t : Nat) : Nat :=
  (k.ops.map (fun e => if e.2.remote then 0 else
    ((k.tileReads t e.1 ++ k.tileWrites t e.1).map (fun x => granuleCount (e.2.addr + x.1) x.2)).foldl (· + ·) 0)).foldl (· + ·) 0

/-- The course of a member. -/
def Run.course (r : Run) (m : Nat) : Nat := (r.members[m]?).getD 0

/-- Read the sources of a course's tile and compute its output, once everything it reads is there.
DEDUCED: assumption 99. -/
def computeTile (s : State) (x : Nat) (r : Run) (t : Tile) : State :=
  let k := courseOf r.raw
  let sh := r.job.shadow
  match tileSources sh k (shadowAt s sh) t.num s with
  | (none, s) => s
  | (some (src, poison, oob), s) =>
    let (outs, flushed) := stations k (r.prog.getD []) (r.bcast.getD []) t.num src
    let ps := tilePieces k t.num outs
    let s := updRun s x (fun r => { r with
      flushed := min (r.flushed + flushed) 0xFFFFFFFF, oob := min (r.oob + oob) 0xFFFFFFFF
      accesses := r.accesses + k.accesses t.num
      job := (if poison then r.job.failing sPOISONED 0x06 else r.job).tile t.num (fun t => { t with out := some ps, poison := poison }) })
    let c := r.course t.member
    bump (bump s (Reg.CRS_FLUSH (c / 2) (c % 2)) flushed) (Reg.CRS_OOB (c / 2) (c % 2)) oob

/-- A tile of a job. -/
def Job.tileAt (j : Job) (t : Nat) : Option Tile := j.flight.find? (fun e => e.num == t)

/-- Write the output of a tile, once every line it writes is clear. -/
def placeTile (s : State) (bulk : Bool) (x sh t : Nat) (os : Piece → Opd) (push : Piece → Option Nat) : State :=
  match jobAt s sh with
  | none => s
  | some j => match j.tileAt t with
    | none => s
    | some e => match e.out with
      | none => s
      | some ps =>
        if e.placed then s
        else match ensureWrites sh os s ps with
          | (false, s) => s
          | (true, s) =>
            let s := ps.foldl (fun s p => placePiece bulk x sh j.desc t (os p) (push p) e.poison s p) s
            updJob s sh (fun j => j.tile t (fun e => { e with placed := true }))

/-- Compute and place a tile of a course as far as it can go now. DEDUCED: assumption 96. -/
def workTile (s : State) (x t : Nat) : State :=
  match (ctxAt s x).bind (fun c => c.run) with
  | none => s
  | some r => match r.job.tileAt t with
    | none => s
    | some e =>
      let k := courseOf r.raw
      let h := shadowAt s r.job.shadow
      let s := if e.out.isNone then computeTile s x r e else s
      placeTile s false x r.job.shadow t (fun p => k.opd h p.op) (fun p =>
        let d := k.record p.op
        if d.mode = 1 ∧ d.remote = false then some d.coord else none)

/-- Count a tile as written whole (R245). -/
def Job.whole (j : Job) (t : Nat) : Job :=
  let go := (List.range (j.above.length + 1)).foldl (fun (p : Nat × List Nat) _ =>
    if p.2.contains p.1 then (p.1 + 1, p.2.filter (fun a => a != p.1)) else p) (j.tiles, t :: j.above)
  { j with tiles := go.1, above := go.2 }

/-- Take a tile out of flight, with what came of endpoints for it. -/
def Job.drop (j : Job) (t : Nat) : Job :=
  { j with flight := j.flight.filter (fun e => e.num != t)
           landed := j.landed.filter (fun (e : Nat × Bool × List Byte) => e.1 / 2 ^ 56 != t + 1)
           asked := j.asked.filter (fun a => a / 2 ^ 56 != t + 1) }

/-- Send the MIRROR_COMMIT of a tile (R381, R383). -/
def sendCommit (s : State) (bulk : Bool) (x sh desc t : Nat) : State :=
  let m := mkMsg s 0 0x16 (twinPeer s)
  let m := { m with context := BitVec.ofNat 14 x, xf := BitVec.ofNat 4 (b2n bulk)
                    arg := BitVec.ofNat 64 (t % 2 ^ 32 + 2 ^ 32 * (desc % 2 ^ 32)) }
  let s := { s with twin := { s.twin with bytes := s.twin.bytes + msgSlots m * 16 } }
  ownRequestVia (updJob s sh (fun j => { j with acks := j.acks + 1 })) ((mirrorPorts s).headD 0) m (.commit sh)

/-- End a tile whose writes are all acknowledged, or that cannot be computed (R92, R246, R349, R383). mir: its
descriptor has a mirrored destination. Answers whether the tile was written whole. -/
def endTile (s : State) (bulk : Bool) (x sh t : Nat) (mir : Bool) : Bool × State :=
  match jobAt s sh with
  | none => (false, s)
  | some j => match j.tileAt t with
    | none => (false, s)
    | some e =>
      if e.out.isNone && j.lost then (false, updJob s sh (fun j => j.drop t))
      else if !e.placed || e.left != 0 then (false, s)
      else if e.got ≠ e.want then (false, updJob s sh (fun j => (j.failing sFAULTED 0x05).drop t))
      else
        let s := updJob s sh (fun j => (j.whole t).drop t)
        (true, if e.mirrored || (mir && mirroring s) then sendCommit s bulk x sh j.desc t else s)

/-- A destination of a course descriptor lies in a mirrored extent. -/
def Course.mirrors (k : Course) (s : State) (h : Shadow) : Bool :=
  k.dests.any (fun e => !e.2.remote && (let f := (h.operands[e.1]?).getD (0, 0)
    ((h.entries.drop f.1).take f.2).any (fun x => (extRec s x.extent).mirrored)))

/-- A READY context could be dispatched to one of a running context's courses, and R251 would choose it now
(R253). -/
def rival (s : State) (x : Nat) (c : Ctx) (r : Run) : Bool :=
  s.sched.ctxs.any (fun e => e.1 != x && (match e.2.run with
    | some q => startable s e.1 e.2 q && r.members.any (fun n => bit e.2.diemask (n / 2))
    | none => false)
    && (if e.2.tenant = c.tenant then decide (c.prio ≤ e.2.prio) else decide (vtimeNow s e.2.tenant ≤ vtimeNow s c.tenant)))

/-- Another context waits that could use one of a held context's courses (R253). -/
def someoneWaits (s : State) (x : Nat) (r : Run) : Bool :=
  s.sched.ctxs.any (fun e => e.1 != x && (match e.2.run with
    | some q => startable s e.1 e.2 q && r.members.any (fun n => bit e.2.diemask (n / 2))
    | none => false))

/-- Start the next round of a course descriptor (R228, R245, R253, R257, R386, R498, R519). -/
def startRound (s : State) (x : Nat) (c : Ctx) (r : Run) : State :=
  let k := courseOf r.raw
  let sh := r.job.shadow
  let h := shadowAt s sh
  let g := r.members.length
  let ts := (List.range g).filterMap (fun m =>
    if r.job.nextTile + m < k.tiles then some (r.job.nextTile + m, m) else none)
  let room := (List.range g).all (fun m => decide ((r.job.flight.filter (fun t => t.member == m)).length < 4))
  if ts.isEmpty || !room || !capOpen s || r.stop != 0 || r.job.fail.isSome || (s.twin.st == 2 && k.mirrors s h)
      || r.members.any (fun n => !dieOpen s c.tenant (n / 2)) then s
  else if r.job.held || !entriesFresh s sh (ts.flatMap (fun t => k.tileEntries h t.1)) then
    let s := markHeld s sh true
    if someoneWaits s x r then updRun s x (fun r => { r with stop := 1 }) else s
  else
    let new := ts.map (fun t => { num := t.1, member := t.2, out := none, poison := false, placed := false, mirrored := false
                                  left := 0, want := 0, got := 0 : Tile })
    let s := updJob s sh (fun j => { j with nextTile := j.nextTile + ts.length, flight := j.flight ++ new })
    ts.foldl (fun s t => workTile s x t.1) s

/-! ### Bulk tiles (R82, R92) -/

/-- The bulk job of a context that may run: the first in its order (R244). -/
def bulkTurn (s : State) (x : Nat) : Option BulkJob :=
  match (bulkOfCtx s x).head? with
  | none => none
  | some b =>
    let first := match (ctxAt s x).bind (fun c => c.run) with
      | some r => decide (b.job.shadow < r.job.shadow)
      | none => true
    if first then some b else none

/-- Offset and length of a bulk tile. -/
def Bulk.span (d : Bulk) (t : Nat) : Nat × Nat := (t * 65536, min 65536 (d.length - t * 65536))

/-- Read, or make, the data of a bulk tile. -/
def computeBulk (s : State) (b : BulkJob) (t : Nat) : State :=
  let d := bulkOf b.raw
  let sh := b.job.shadow
  let (off, len) := d.span t
  let put := fun (s : State) (l : List Byte) (poison : Bool) => updJob s sh (fun j =>
    (if poison then j.failing sPOISONED 0x06 else j).tile t (fun e =>
      { e with out := some [{ op := 1, off := off, data := l }], poison := poison }))
  if d.isMove then
    let o := { d.srcOpd (shadowAt s sh) with field := 16 * (t + 1) }
    match ensureRead sh o s off len with
    | (false, s) => s
    | (true, s) =>
      let (l, bad, s) := fetch sh o s off len
      put s l bad
  else
    let p := leBytes 8 d.pattern
    put s ((List.range len).map (fun i => (p[(off + i) % 8]?).getD 0#8)) false

/-- Compute and place a bulk tile as far as it can go now. -/
def workBulk (s : State) (x t : Nat) : State :=
  match bulkTurn s x with
  | none => s
  | some b => match b.job.tileAt t with
    | none => s
    | some e =>
      let d := bulkOf b.raw
      let s := if e.out.isNone then computeBulk s b t else s
      placeTile s true x b.job.shadow t (fun _ => d.dstOpd (shadowAt s b.job.shadow)) (fun _ => none)

/-- A bulk descriptor's destination lies in a mirrored extent. -/
def Bulk.mirrors (d : Bulk) (s : State) (h : Shadow) : Bool :=
  decide (d.dstKind < 2) && (let f := (h.operands[1]?).getD (0, 0)
    ((h.entries.drop f.1).take f.2).any (fun x => (extRec s x.extent).mirrored))

/-- Start the next tile of a context's bulk descriptor: one is in flight at a time. DEDUCED: assumption 96. -/
def startBulk (s : State) (x : Nat) (c : Ctx) (b : BulkJob) : State :=
  let d := bulkOf b.raw
  let sh := b.job.shadow
  let h := shadowAt s sh
  let t := b.job.nextTile
  let (off, len) := d.span t
  let idx := (if d.isMove then (d.srcOpd h).entriesOf off len else []) ++ (d.dstOpd h).entriesOf off len
  let dies := idx.filterMap (fun i => (h.entries[i]?).map (fun e => e.extent / 480))
  if d.tiles ≤ t || (t == 0 && c.st == cxSUSPENDED) || !b.job.flight.isEmpty || b.job.fail.isSome || (s.twin.st == 2 && d.mirrors s h)
      || dies.any (fun n => !dieOpen s c.tenant n) then s
  else if b.job.held || !entriesFresh s sh idx then markHeld s sh true
  else
    let new : Tile := { num := t, member := 0, out := none, poison := false, placed := false, mirrored := false, left := 0, want := 0, got := 0 }
    workBulk (updJob s sh (fun j => { j with nextTile := t + 1, flight := [new] })) x t

/-- TILE_START (R92, R93, R228, R257, R386): the next round of a context's course descriptor, or the next tile of its
bulk descriptor. -/
def execTileStart (context : Nat) (bulk : Bool) (s : State) : Host.Outcome State Fault Refusal :=
  match ctxAt s context with
  | none => .next s
  | some c =>
    if inSafe s || paused s c then .next s
    else if bulk then
      match bulkTurn s context with
      | none => .next s
      | some b => .next (startBulk s context c b)
    else match c.run with
      | none => .next s
      | some r => if r.members.isEmpty then .next s else .next (startRound s context c r)

/-- TILE_END (R92, R230, R231, R245, R349, R383): what a tile still waits for is tried again; with every write
acknowledged it ends, and CRS_TILES counts it. -/
def execTileEnd (context : Nat) (bulk : Bool) (tile : Nat) (s : State) : Host.Outcome State Fault Refusal :=
  if inSafe s then .next s
  else if bulk then
    let s := workBulk s context tile
    match bulkTurn s context with
    | none => .next s
    | some b => .next (endTile s true context b.job.shadow tile ((bulkOf b.raw).mirrors s (shadowAt s b.job.shadow))).2
  else
    let s := workTile s context tile
    match (ctxAt s context).bind (fun c => c.run) with
    | none => .next s
    | some r =>
      let m := ((r.job.tileAt tile).map (fun t => t.member)).getD 0
      match endTile s false context r.job.shadow tile ((courseOf r.raw).mirrors s (shadowAt s r.job.shadow)) with
      | (false, s) => .next s
      | (true, s) => .next (bump64 s (Reg.CRS_TILES_LO (r.course m / 2) (r.course m % 2)) 1)

/-! ### Preemption (R253 to R255) -/

/-- QUANTUM_EXPIRE: a context that has held its courses for QUANTUM is preempted when another should run. -/
def execQuantumExpire (context : Nat) (s : State) : Host.Outcome State Fault Refusal :=
  match ctxAt s context with
  | none => .next s
  | some c => match c.run with
    | none => .next s
    | some r =>
      if r.members.isEmpty then .next s
      else
        let s := reach s (r.dispatched + rf s Reg.XLT_SCHED_CTL 11 0 * 1000)
        if r.stop = 0 ∧ rival s context c r = true then .next (updRun s context (fun r => { r with stop := 1 })) else .next s

/-- The bytes of a save slot (R255). -/
def saveBytes (s : State) (x : Nat) (c : Ctx) (r : Run) : List Byte :=
  leBytes 8 (x + 2 ^ 14 * c.tenant + 2 ^ 22 * c.st + 2 ^ 25 * c.cause + 2 ^ 33) ++ leBytes 8 r.job.nextTile
    ++ leBytes 8 r.job.tiles ++ leBytes 8 r.accesses ++ leBytes 8 r.lateAcc ++ leBytes 4 r.flushed ++ leBytes 4 r.oob
    ++ leBytes 8 (now s - r.dispatched) ++ leBytes 8 0 ++ slice r.raw 0 256 ++ slice (shadowAt s r.job.shadow).toBytes 0 576
    ++ slice (wordsBytes (r.prog.getD [])) 0 512

/-- PREEMPT_SAVE_DONE (R249, R253 to R255): with its tiles ended, a preempted descriptor is saved, an accepted next one is
dropped, and its courses are free. -/
def execPreemptSaveDone (context : Nat) (s : State) : Host.Outcome State Fault Refusal :=
  match ctxAt s context with
  | none => .next s
  | some c => match c.run with
    | none => .next s
    | some r =>
      let k := courseOf r.raw
      if (r.stop ≠ 1 ∧ r.stop ≠ 2) ∨ r.job.flight ≠ [] ∨ r.job.fail.isSome = true ∨ r.members.isEmpty = true
          ∨ k.tiles ≤ r.job.nextTile ∨ inSafe s = true then .next s
      else
        let s := poke s (resPpa (context % 6) 0 (context / 6 * 262144)) (saveBytes s context c r)
        let s := dropNext (chargeUse s c) context
        let s := bump64 s Reg.XLT_PREEMPT_LO 1
        let s := updCtx s context (fun c => { c with
          run := c.run.map (fun r => { r with members := [], stop := 0, bcast := none, job := { r.job with recheck := true } }) })
        if r.stop = 2 then .next (finishSuspend (updCtx s context (fun c => { c with st := cxSUSPENDED })) context)
        else .next (settle s context)

/-- REVALIDATION_DONE (R94, R95): the held entries of a context's descriptors are translated again. -/
def execRevalidationDone (context : Nat) (s : State) : Host.Outcome State Fault Refusal :=
  let s := match (ctxAt s context).bind (fun c => c.run) with
    | none => s
    | some r => if r.job.held then (revalJob s r.job.shadow (portCoord s 0) (courseOf r.raw).units).2 else s
  .next ((bulkOfCtx s context).foldl (fun s b =>
    if b.job.held then (revalJob s b.job.shadow b.src (bulkOf b.raw).units).2 else s) s)

/-! ### Bulk descriptors (R84, R85, R349, R381) -/

/-- Put a bulk descriptor into its context's order, failed already or not. -/
def enqueueBulk (s : State) (x src desc : Nat) (raw : List Byte) (n : Nat) (fail : Option (Nat × Nat)) : State :=
  let b : BulkJob := { context := x, src := src, raw := raw, job := { Job.fresh n desc with fail := fail } }
  settle { s with sched := { s.sched with bulk := s.sched.bulk ++ [b] } } x

/-- What the checks from step 5 on give a bulk descriptor. -/
inductive BulkRes where
  | accepted
  | parked
  | failed (window : Bool)
  deriving DecidableEq, Repr

/-- Steps 5 and 6 of R84 for a bulk descriptor, and its acceptance; one with a mirrored destination is made known to the
standby (R380, R381). -/
def admitBulk (s : State) (x : Nat) (c : Ctx) (m : Msg) : State × BulkRes :=
  let raw := slice m.data 0 64
  let d := bulkOf raw
  let src := m.src.toNat
  let fail := fun (s : State) (w : Bool) =>
    let (s, n) := takeNumber s
    (enqueueBulk s x src 0 raw n (some (sFAULTED, if w then 0x0C else 0x01)), BulkRes.failed w)
  if d.error || unitsBad d.units then fail s false
  else
    let (s, r) := xlDesc c.tenant src s d.units
    if r.window then fail s true
    else if !r.faults.isEmpty then (settle (parkOn s x src r.faults raw (some m)) x, .parked)
    else
      let fs := placeFields 0 r.fields
      let (s, n) := takeNumber s
      let h : Shadow :=
        { context := x, tenant := c.tenant, course := false, entries := r.entries, sigIdx := (fieldOf fs 16).1
          held := false, era := s.xlt.era, accepted := now s, origin := m.reqid.toNat, operands := bulkFields fs }
      let s := putShadow s n h
      if s.twin.formed && d.mirrors s h then
        let num := s.sched.bulkDesc
        let s := { s with sched := { s.sched with bulkDesc := (num + 1) % 2 ^ 32 } }
        let s := if mirroring s then (sendCfg s 1 (raw ++ leBytes 4 num)).1 else s
        (enqueueBulk s x src num raw n none, .accepted)
      else (enqueueBulk s x src 0 raw n none, .accepted)

/-- A bulk descriptor meets the checks of R84 and is answered with DESC_ACK. The cause of a FAULTED answer for which the
table names none is a free value. -/
def bulkArrive (s : State) (m : Msg) : State :=
  let x := (bulkOf (slice m.data 0 64)).context
  let raw := slice m.data 0 64
  let ack := fun (s : State) (st xf arg : Nat) => answer s m (Resp.plain 0x55 st 0 xf arg)
  let bad := fun (s : State) =>
    let (v, s) := free32 s
    answer s m (Resp.plain 0x55 sFAULTED (v.toNat % 256) 0 0)
  match ctxAt s x with
  | none => bad s
  | some c =>
    if c.st = cxDRAINING then bad s
    else if s.twin.st = 6 ∧ paired s c = true then ack s sBUSY_RETRY 0 (now s + 100000)
    else if c.st = cxSTOPPED then ack s sNOT_EXECUTED 0 0
    else
      let refuse := fun (s : State) =>
        let s := updCtx s x (fun c => { c with refused := if c.refused.contains raw then c.refused else c.refused ++ [raw] })
        ack s sBUSY_RETRY 0 (retryAfter s)
      if c.park.isSome || !(c.refused.isEmpty || c.refused.head? == some raw) then refuse s
      else if (admitBar s c.tenant).isSome then refuse (bump s (Reg.XLT_TN_ADMIT c.tenant) 1)
      else
        let s := setCtx s x { c with refused := c.refused.drop 1 }
        match admitBulk s x c m with
        | (s, .accepted) => ack s sCOMPLETE 0 0
        | (s, .parked) => ack s sCOMPLETE 1 0
        | (s, .failed true) => answer s m (Resp.plain 0x55 sFAULTED cTRANSLATION 0 0)
        | (s, .failed false) => bad s

/-- BULK_DESC (R82 to R86, R345). DEDUCED: assumption 82. -/
def execBulkDesc (port_ : Nat) (msg : Msg) (s : State) : Host.Outcome State Fault Refusal :=
  .next (arriveReq s port_ 0x0B msg bulkArrive)

/-- Take a bulk job out of the engine. -/
def dropBulk (s : State) (sh : Nat) : State :=
  freeShadow { s with sched := { s.sched with bulk := s.sched.bulk.filter (fun b => b.job.shadow != sh) } } sh

/-- Complete a context's bulk descriptor (R245, R246, R295, R349): its signal word is advanced, and its context stops when
it has failed. -/
def completeBulk (s : State) (x : Nat) : State :=
  match ctxAt s x, bulkTurn s x with
  | some c, some b =>
    let d := bulkOf b.raw
    if !b.job.finished d.tiles || (paused s c && b.job.fail.isNone) then s
    else match advance s x c b.job.shadow d.signal d.signalAdd b.job.desc true with
      | (s, .blocked) => s
      | (s, a) =>
        let s := if s.twin.formed && mirroring s && d.mirrors s (shadowAt s b.job.shadow) then (sendCfg s 2 (leBytes 4 b.job.desc)).1 else s
        let s := dropBulk s b.job.shadow
        if cxSTOPPED ≤ c.st then s
        else match b.job.fail with
          | some (_, cause) => finishSuspend (stopCtx s x cause) x
          | none => if a = .poison then finishSuspend (stopCtx s x stSIGNAL_POISON) x else settle (startWait s x) x
  | _, _ => s

/-- DESCRIPTOR_COMPLETE (R245). -/
def execDescriptorComplete (context : Nat) (bulk : Bool) (s : State) : Host.Outcome State Fault Refusal :=
  if inSafe s then .next s
  else
    let s := flushPosts s context
    if bulk then .next (completeBulk s context) else .next (completeRun s context)

/-- STOPPED_DESCRIPTOR_DRAIN (R247, R250): a stopped or draining context completes one descriptor NOT_EXECUTED; what it had
begun comes first. -/
def execStoppedDescriptorDrain (context : Nat) (s : State) : Host.Outcome State Fault Refusal :=
  match ctxAt s context with
  | none => .next s
  | some c =>
    if c.st < cxSTOPPED ∨ inSafe s = true then .next s
    else
      let s := flushPosts s context
      if (bulkTurn s context).isSome then .next (completeBulk s context)
      else .next (drainSlots 1 s context).2

end Sys2Proof.Machine
end

