-- ==== Sys2Proof/Machine/Signals.lean ====
section
/-!
DEFINITION. The watch unit and the lintel unit (R294 to R308, R312, R313, R489, R567).
-/

namespace Sys2Proof.Machine

/-! ### Wake-ups of contexts (R234, R235, R243, R295, R303) -/

/-- A TAIL watch fires: the scheduler meets the value of TAIL. A standby records the wake-up. -/
def wakeTail (s : State) (x v : Nat) : State :=
  match ctxAt s x with
  | none => s
  | some c =>
    if c.st = cxDRAINING then s
    else if paused s c then setCtx s x { c with pend := true }
    else
      let s := if cxRUNNING ≤ c.st ∧ c.st ≤ cxSUSPENDED then setCtx s x { c with pend := true } else s
      settle (takeTail s x v true) x

/-- The watch of a WAIT fires: the WAIT is satisfied. -/
def wakeWait (s : State) (x : Nat) : State :=
  updCtx s x (fun c => { c with
    waitWatch := none, run := c.run.map (fun r => { r with waiting := false, job := { r.job with nextTile := 1 } }) })

/-- The watch of a WAIT fails. -/
def failWait (s : State) (x status cause : Nat) : State :=
  updCtx s x (fun c => { c with
    waitWatch := none, run := c.run.map (fun r => { r with waiting := false, job := r.job.failing status cause }) })

/-- A TAIL watch fails: its context stops with cause RING. -/
def failTail (s : State) (x : Nat) : State := stopCtx (updCtx s x (fun c => { c with tailWatch := none })) x stRING

/-! ### Evaluation of entries -/

/-- An entry whose word reads as poisoned fires with failure and is freed (R295). -/
def poisonEntry (s : State) (x : Nat) (e : WatchEnt) : State :=
  let s := freeWatch s x true
  if e.action = 0 then
    let s := bump s Reg.SIG_FIRED 1
    if e.persist then failTail s e.context else failWait s e.context sPOISONED 0x06
  else failEntry s e sPOISONED Reg.SIG_POISONED

/-- An entry meets the value of its word (R302). -/
def evalEntry (s : State) (x : Nat) (e : WatchEnt) (v : Nat) : State :=
  if e.persist then wakeTail (bump s Reg.SIG_FIRED 1) e.context v
  else if v < e.target then s
  else
    let s := freeWatch s x true
    if e.action = 0 then wakeWait (bump s Reg.SIG_FIRED 1) e.context else fireEntry s e v

/-- The lines that the firing of an entry writes are clear. -/
def fireClear (s : State) (e : WatchEnt) : Bool × State :=
  if e.action = 2 then addClear s e.tenant e.dest else (true, s)

/-- The value that a notice gives an entry: that of its atomic operation, else the word as it stands (R302). -/
def noticeValue (s : State) (n : Notice) (e : WatchEnt) : Option Nat × State :=
  match n.value with
  | some (a, v) => if a = e.ppa then (some v, s) else loadWord s e.ppa
  | none => loadWord s e.ppa

/-- Whether every entry that a notice fires can be carried out now. -/
def noticeClear (s : State) (n : Notice) : List (Nat × WatchEnt) → Bool × State
  | [] => (true, s)
  | (_, e) :: t =>
    let (v, s) := noticeValue s n e
    let (a, s) := match v with
      | some v => if e.target ≤ v then fireClear s e else (true, s)
      | none => (true, s)
    let (b, s) := noticeClear s n t
    (a && b, s)

/-- Evaluate every entry on a line, in order of arming; one that an earlier one has freed is passed over. -/
def evalAll (s : State) (n : Notice) (es : List (Nat × WatchEnt)) : State :=
  es.foldl (fun s p =>
    if tget s.sig.watches p.1 = some p.2 then
      match noticeValue s n p.2 with
      | (some v, s) => evalEntry s p.1 p.2 v
      | (none, s) => poisonEntry s p.1 p.2
    else s) s

/-- WATCH_NOTICE (R35, R302): the oldest notice for a line reaches the watch unit. While a host holds a line that the unit
must read or write, the notice waits. -/
def execWatchNotice (line : Nat) (s : State) : Host.Outcome State Fault Refusal :=
  match s.sig.notices.find? (fun n => n.line == line) with
  | none => .next s
  | some n =>
    let es := entriesOn s line
    match (if es.isEmpty then (true, s) else agentLine s line false) with
    | (false, s) => .next s
    | (true, s) => match noticeClear s n es with
      | (false, s) => .next s
      | (true, s) =>
        let s := { s with sig := { s.sig with notices := s.sig.notices.erase n } }
        .next (evalAll (bump64 s Reg.SIG_NOTICES_LO 1) n es)

/-- Fire a time watch, unless its word is awaited from the directory. -/
def fireTime (s : State) (watch : Nat) (e : WatchEnt) : State :=
  match fireClear s e with
  | (false, s) => s
  | (true, s) => fireEntry (freeWatch s watch true) e (now s)

/-- TIME_WATCH_FIRE (R302, R530): the time base reaches TARGET. In pool-hold the entry waits for POOL_RESUME. -/
def execTimeWatchFire (watch : Nat) (s : State) : Host.Outcome State Fault Refusal :=
  match tget s.sig.watches watch with
  | none => .next s
  | some e =>
    if !e.time then .next s
    else if inHold s then .next (reach s e.target)
    else .next (fireTime (reach s e.target) watch e)

/-- Translate an entry's word again when a fence on its extent completes (R303): it moves, or fires with failure. -/
def revalWatch (s : State) (x : Nat) (e : WatchEnt) : State :=
  match wordXl s e.tenant e.word pRD with
  | (s, none) =>
    let s := freeWatch s x true
    if e.action = 0 then
      let s := bump s Reg.SIG_FIRED 1
      if e.persist then failTail s e.context else failWait s e.context sFAULTED 0x03
    else failEntry s e sFAULTED Reg.SIG_REVOKED
  | (s, some a) =>
    let e := { e with extent := extOf a, epoch := epochOf s (extOf a), ppa := a }
    let s := putWatch s x e
    { s with sig := { s.sig with notices := s.sig.notices ++ [{ line := a / 128, value := none }] } }

/-! ### WATCH_ARM and WATCH_DISARM -/

/-- Fields of WATCH_ARM (R344). -/
def armAction (m : Msg) : Nat := bits m.xf.toNat 1 0
def armTime (m : Msg) : Bool := bit m.xf.toNat 3
def armDest (m : Msg) : Nat := leAt m.data 0 8

/-- The entry that a WATCH_ARM asks for, on the word at a PPA. -/
def armEntry (s : State) (m : Msg) (t ppa : Nat) : WatchEnt :=
  { time := armTime m, action := armAction m, persist := false, tenant := t, context := 0, tag := leAt m.data 16 4
    word := m.addr.toNat % 2 ^ 48, target := m.arg.toNat, dest := armDest m, coord := bits (leAt m.data 24 4) 16 0
    amount := leAt m.data 8 8, seq := leAt m.data 20 4, extent := if armTime m then 0 else extOf ppa
    epoch := if armTime m then 0 else epochOf s (extOf ppa), ppa := ppa, order := 0, byArm := true }

/-- WATCH_ARM as an applied request (R294, R295, R300, R301, R489). -/
def armNow (s : State) (m : Msg) : State :=
  let bad := fun (s : State) (c : Nat) => answer s m (Resp.faulted 0x4C c)
  let word := m.addr.toNat
  if (armTime m = false ∧ word % 8 ≠ 0) ∨ (armAction m = 2 ∧ armDest m % 8 ≠ 0) then bad s cALIGNMENT
  else if armAction m = 0 ∨ armAction m = 3 ∨ bit m.xf.toNat 2 = true ∨ (armTime m = true ∧ word ≠ 0) then bad s cARGUMENT
  else if m.akind ≠ 0 then bad s cKIND
  else match ctxTenant s m.context.toNat with
    | none => bad s cTRANSLATION
    | some t =>
      let src := m.src.toNat
      let one := fun (s : State) (a need : Nat) => if 2 ^ 48 ≤ a then (s, none) else unitsXl s 0 t need src [(a, 8)]
      let (s, w) := if armTime m then (s, some ([(0, 8)], t)) else one s word pRD
      let (s, d) := if armAction m = 2 then one s (armDest m) pWR else (s, some ([(0, 8)], t))
      match w, d with
      | some (l, _), some _ =>
        if 32768 ≤ armedBy s none ∨ rf s (Reg.XLT_TN_LIMITS t) 30 15 ≤ armedBy s (some t) then
          answer (bump s (Reg.XLT_TN_ADMIT t) 1) m (Resp.plain 0x4C sBUSY_RETRY 0 0 (retryAfter s))
        else
          let a := (l.head?.map (fun e => e.1)).getD 0
          let e := armEntry s m t a
          let done := fun (s : State) (x : Nat) => answer s m (Resp.plain 0x4C sCOMPLETE 0 0 x)
          match installWatch s e with
          | (s, none) => answer (bump s (Reg.XLT_TN_ADMIT t) 1) m (Resp.plain 0x4C sBUSY_RETRY 0 0 (retryAfter s))
          | (s, some x) =>
            if armTime m then done s x
            else match loadWord s a with
              | (none, s) => answer (freeWatch s x false) m (Resp.plain 0x4C sPOISONED 0 0 0)
              | (some v, s) => match tget s.sig.watches x with
                | some e => evalEntry (done s x) x e v
                | none => s
      | _, _ => bad s cTRANSLATION

/-- The lines that a WATCH_ARM reads, and may write, are clear. DEDUCED: assumption 104. -/
def armClear (s : State) (m : Msg) : Bool × State :=
  match ctxTenant s m.context.toNat with
  | none => (true, s)
  | some t =>
    let word := m.addr.toNat
    let (a, s) := if armTime m || word % 8 != 0 then (true, s)
      else match wordXl s t word pRD with
        | (s, none) => (true, s)
        | (s, some p) => agentLine s (p / 128) false
    let (b, s) := if armAction m = 2 ∧ armDest m % 8 = 0 then addClear s t (armDest m) else (true, s)
    (a && b, s)

/-- WATCH_ARM (R300, R301): while a host holds a line that it reads, it waits in its pool. DEDUCED: assumption 101. -/
def execWatchArm (port_ : Nat) (msg : Msg) (s : State) : Host.Outcome State Fault Refusal :=
  match (if s.fab.coord.isNone || inSafe s then (true, s) else armClear s msg) with
  | (false, s) => .next s
  | (true, s) => .next (arriveReq s port_ 0x0D msg armNow)

/-- WATCH_DISARM as an applied request (R303). -/
def disarmNow (s : State) (m : Msg) : State :=
  match ctxTenant s m.context.toNat with
  | none => answer s m (Resp.plain 0x4C sFAULTED 0 0 0)
  | some t =>
    let x := bits m.arg.toNat 15 0
    let tag := bits m.arg.toNat 63 32
    let ack := fun (s : State) (xf : Nat) => answer s m (Resp.plain 0x4C sCOMPLETE 0 xf x)
    let live := match tget s.sig.watches x with
      | some e => e.byArm && e.tenant == t && e.tag == tag
      | none => false
    if live then ack (freeWatch s x false) 0
    else if s.sig.fired.contains (t, x, tag) then ack s 1
    else ack s 2

/-- WATCH_DISARM (R303). -/
def execWatchDisarm (port_ : Nat) (msg : Msg) (s : State) : Host.Outcome State Fault Refusal :=
  .next (arriveReq s port_ 0x0E msg disarmNow)

/-- WATCH_QUERY (R313, R447): armed entries of one tenant from an entry number on. DEDUCED: assumption 100. -/
def execWatchQuery (slot : Nat) (tag : Word32) (tenant first count : Word64) (s : State) :
    Host.Outcome State Fault Refusal :=
  .next (runCmd slot 0x0344 tag (!atMost tenant 255 || !atMost first 65535 || !atMost count 63) s (fun s =>
    if !tenantExists s tenant.toNat then (s, .done stINVALID [])
    else
      let es := (s.sig.watches.filter (fun e => e.2.tenant == tenant.toNat && decide (first.toNat ≤ e.1))).take count.toNat
      (s, .done stOK (leBytes 8 es.length ++ es.flatMap (fun e => e.2.toBytes true)))))

/-! ### Lintel objects -/

/-- One object. -/
def lintel (s : State) (b : Nat) : Option Lintel := tget s.sig.lintels b

/-- LNT_OBJb_CFG and LNT_OBJb_COUNT (R315). -/
def Lintel.cfg (l : Lintel) : Nat :=
  1 + 2 * l.mode + 8 * b2n l.twinned + 2 ^ 4 * l.job + 2 ^ 10 * l.participants + 2 ^ 21 * l.tenant
def Lintel.count (l : Lintel) : Nat := l.countCur + 2 ^ 16 * l.countNext

/-- Replace an object. -/
def putLintel (s : State) (b : Nat) (l : Lintel) : State := { s with sig := { s.sig with lintels := tset s.sig.lintels b l } }

/-- The copy of an object in reserved extent 3 (R567). -/
def copyLintel (s : State) (b : Nat) (l : Lintel) : State :=
  poke s (resPpa (b % 6) 3 (2 ^ 20 + b / 6 * 64))
    (leBytes 4 l.cfg ++ leBytes 4 l.cur ++ leBytes 4 l.count ++ leBytes 4 l.broken ++ leBytes 8 l.relSignal
      ++ leBytes 8 l.relAddr ++ leBytes 8 l.tag ++ leBytes 8 (now s) ++ leBytes 16 0)

/-- Release the current generation (R305, R307, R308). DEDUCED: assumption 102. -/
def releaseOnce (s : State) (b : Nat) (l : Lintel) (broken : Bool) : State × Lintel :=
  let old := l.cur
  let l := { l with cur := (l.cur + 1) % 2 ^ 32, countCur := l.countNext, countNext := 0
                    broken := if broken then l.cur else l.broken }
  let s := bump64 (putLintel s b l) Reg.LNT_RELEASES_LO 1
  let s := if broken then bump s Reg.LNT_BROKEN 1 else s
  let s := if bit l.mode 0 then addSignal s l.tenant l.relSignal 1 else s
  let s := if bit l.mode 1 then
      (List.range l.participants).foldl (fun s x => match rankCoord s 0 l.job x with
        | none => bump s Reg.LNT_RANKMISS 1
        | some c => sendNotify s c l.relAddr l.cur l.tag old 1 (if broken then sFAULTED else sCOMPLETE)) s
    else s
  (copyLintel s b l, l)

/-- Release while the current generation is complete. -/
def releaseAll : Nat → State → Nat → Lintel → State × Lintel
  | 0, s, _, l => (s, l)
  | n + 1, s, b, l =>
    if l.countCur < l.participants then (s, l)
    else
      let (s, l) := releaseOnce s b l false
      releaseAll n s b l

/-- The line of REL_SIGNAL is clear. DEDUCED: assumption 104. -/
def lintelClear (s : State) (b : Nat) : Bool × State :=
  match lintel s b with
  | none => (true, s)
  | some l => if bit l.mode 0 then addClear s l.tenant l.relSignal else (true, s)

/-- ARRIVE as an applied request (R304). -/
def arriveNow (s : State) (m : Msg) : State :=
  let b := bits m.arg.toNat 11 0
  let rank := bits m.arg.toNat 21 12
  let gen := bits m.arg.toNat 63 32
  let ack := fun (s : State) (st xf cur : Nat) => answer s m (Resp.plain 0x4D st 0 xf cur)
  match lintel s b with
  | none => ack s sFAULTED 5 0
  | some l =>
    let d := (gen + 2 ^ 32 - l.cur) % 2 ^ 32
    if l.participants ≤ rank ∨ rankCoord s 0 l.job rank ≠ some m.src.toNat then ack s sFAULTED 4 l.cur
    else if d = 0 then
      let l := { l with countCur := l.countCur + 1 }
      let (s, l) := releaseAll 3 (putLintel s b l) b l
      ack s sCOMPLETE 0 l.cur
    else if d = 1 then ack (putLintel s b { l with countNext := l.countNext + 1 }) sCOMPLETE 1 l.cur
    else if d < 2 ^ 31 then ack (bump s Reg.LNT_AHEAD 1) sFAULTED 2 l.cur
    else ack (bump s Reg.LNT_STALE 1) sFAULTED 3 l.cur

/-- ARRIVE (R304 to R307): while a host holds the line of REL_SIGNAL, it waits in its pool. DEDUCED: assumption 101. -/
def execArrive (port_ : Nat) (msg : Msg) (s : State) : Host.Outcome State Fault Refusal :=
  match (if s.fab.coord.isNone || inSafe s then (true, s) else lintelClear s (bits msg.arg.toNat 11 0)) with
  | (false, s) => .next s
  | (true, s) => .next (arriveReq s port_ 0x0F msg arriveNow)

/-- The effect of LINTEL_CREATE (R313). DEDUCED: assumption 103. -/
def doLintelCreate (b cfg relSignal relAddr tag : Nat) (s : State) : State × Rep :=
  let job := bits cfg 5 0
  let n := bits cfg 16 6
  let t := bits cfg 24 17
  let j := rg s (Reg.FPT_RJOB 0 job)
  let (s, w) := if bit cfg 25 then wordXl s t relSignal pWR else (s, some 0)
  if !tenantExists s t || !bit j 31 || decide (bits j 22 12 < n) || w.isNone then (s, .done stINVALID [])
  else if (lintel s b).isSome then (s, .done stCONFLICT [])
  else
    let l : Lintel :=
      { job := job, participants := n, tenant := t, mode := bits cfg 26 25, twinned := bit cfg 27, relSignal := relSignal
        relAddr := relAddr, tag := tag, cur := 0, countCur := 0, countNext := 0, broken := 0 }
    (putLintel s b l, Rep.ok)

/-- LINTEL_CREATE. -/
def execLintelCreate (slot : Nat) (tag : Word32) (object cfg relSignal relAddr relTag : Word64) (s : State) :
    Host.Outcome State Fault Refusal :=
  let n := bits cfg.toNat 16 6
  let bad := !atMost object 4095 || !onlyBits cfg 0xFFFFFFF || n == 0 || decide (1024 < n) || bits cfg.toNat 26 25 == 0
    || !onlyBits relSignal 0xFFFFFFFFFFFF || relSignal.toNat % 8 != 0 || !atMost relTag 0xFFFFFFFF
  .next (runTwin slot 0x0340 tag [object, cfg, relSignal, relAddr, relTag] bad s
    (doLintelCreate object.toNat cfg.toNat relSignal.toNat relAddr.toNat relTag.toNat))

/-- Break the current generation (R308). -/
def breakLintel (s : State) (b : Nat) (l : Lintel) : State × Lintel :=
  let (s, l) := releaseOnce s b l true
  releaseAll 2 s b l

/-- The effect of LINTEL_DESTROY. -/
def doLintelDestroy (b : Nat) (s : State) : State × Rep :=
  match lintel s b with
  | none => (s, .done stINVALID [])
  | some l => match lintelClear s b with
    | (false, s) => (s, .again)
    | (true, s) =>
      let s := if 0 < l.countCur then (breakLintel s b l).1 else s
      ({ s with sig := { s.sig with lintels := tdel s.sig.lintels b } }, Rep.ok)

/-- LINTEL_DESTROY. -/
def execLintelDestroy (slot : Nat) (tag : Word32) (object : Word64) (s : State) : Host.Outcome State Fault Refusal :=
  .next (runTwin slot 0x0341 tag [object] (!atMost object 4095) s (doLintelDestroy object.toNat))

/-- LINTEL_QUERY (R313, R447). -/
def execLintelQuery (slot : Nat) (tag : Word32) (object : Word64) (s : State) : Host.Outcome State Fault Refusal :=
  .next (runCmd slot 0x0342 tag (!atMost object 4095) s (fun s => match lintel s object.toNat with
    | none => (s, Rep.words [0, 0, 0, 0, 0, 0, 0])
    | some l => (s, Rep.words [l.cfg, l.cur, l.count, l.broken, l.relSignal, l.relAddr, l.tag])))

/-- The effect of LINTEL_BREAK (R308). DEDUCED: assumption 102. -/
def doLintelBreak (b : Nat) (s : State) : State × Rep :=
  match lintel s b with
  | none => (s, .done stINVALID [])
  | some l => match lintelClear s b with
    | (false, s) => (s, .again)
    | (true, s) => ((breakLintel s b l).1, Rep.ok)

/-- LINTEL_BREAK. -/
def execLintelBreak (slot : Nat) (tag : Word32) (object : Word64) (s : State) : Host.Outcome State Fault Refusal :=
  .next (runTwin slot 0x0343 tag [object] (!atMost object 4095) s (doLintelBreak object.toNat))

end Sys2Proof.Machine
end

