-- ==== Sys2Proof/Machine/CtxCmds.lean ====
section
/-!
DEFINITION. The context and course commands (R236, R249, R250, R259, R447, R458, R499), the ends of their drains, and the
retranslation of a parked descriptor (R86, R108, R112, R248).
-/

namespace Sys2Proof.Machine

/-! ### Parked descriptors -/

/-- Translate a parked descriptor again: one of the ring is read again from its slot, a bulk descriptor comes from its
message. Without a shadow it is tried again after RETRY_AFTER. A suspended context only records it. -/
def retryPark (s : State) (x : Nat) : State :=
  match ctxAt s x with
  | none => s
  | some c => match c.park with
    | none => s
    | some p =>
      if !p.again || c.st == cxSUSPENDED || c.st == cxSTOPPED || c.st == cxDRAINING || paused s c then s
      else match p.bulk with
        | none => acceptNext (settle (setCtx s x { c with park := none, retryAt := none }) x) x
        | some m =>
          if (admitBar s c.tenant).isSome then setCtx s x { c with retryAt := some (retryAfter s) }
          else
            let c := { c with park := none, retryAt := none }
            (admitBulk (setCtx s x c) x c m).1

/-- ADMIT_RETRY_EXPIRE (R248): the time base reaches RETRY_AFTER, and the slot is read again, or the parked bulk
descriptor translated again. -/
def execAdmitRetryExpire (context : Nat) (s : State) : Host.Outcome State Fault Refusal :=
  match ctxAt s context with
  | none => .next s
  | some c => match c.retryAt with
    | none => .next s
    | some t =>
      if (c.park.map (fun p => p.again)).getD false then .next (retryPark (reach s t) context)
      else .next (acceptNext (reach s t) context)

/-! ### CONTEXT_CREATE -/

/-- The page of a view that a ring lies in is one page with RD and WR, and no extent of it is coherent (R236). -/
def ringPageOk (s : State) (t ring log : Nat) : Bool :=
  let a := ring / 2 ^ 30
  let b := (ring + 0xFF + 0x100 * 2 ^ log) / 2 ^ 30
  let w := viewEnt s t a
  decide (b < 2 ^ 18) && veValid w && vePerm w &&& 3 == 3
    && (a == b || (veSize w && a / 16 == b / 16))
    && !(extRec s (entExtent w a)).coherent && !(extRec s (entExtent w b)).coherent

/-- A die mask that R499 forbids for a tenant. -/
def diesBad (s : State) (t mask : Nat) : Bool := isolated s t && (maskList 6 mask).any (fun n => !bit (rf s Reg.XLT_GATE_CTL 5 0) n)

/-- Arm the watch on a context's TAIL, unless it is armed. DEDUCED: assumption 85. -/
def armTail (s : State) (x : Nat) : State :=
  match ctxAt s x with
  | none => s
  | some c =>
    if c.tailWatch.isSome then s
    else match wordXl s c.tenant (c.ring + 0x80) pRD with
      | (s, none) => s
      | (s, some p) =>
        let (s, w) := installWatch s (schedEntry s true c.tenant x (c.ring + 0x80) 0 p)
        setCtx s x { c with tailWatch := w }

/-- The context exists, IDLE, with HEAD and TAIL at 0; TAIL is read before it enters IDLE (R235, R250).
DEDUCED: assumption 83. -/
def createNow (s : State) (x t ring ccfg : Nat) : State :=
  let c : Ctx :=
    { tenant := t, prio := bits ccfg 10 8, gangMax := bits ccfg 27 24, diemask := bits ccfg 21 16, ringLog := bits ccfg 4 0
      ring := ring, st := cxIDLE, cause := 0, head := 0, tail := 0, pend := true, run := none, next := none, park := none
      busyRetry := false, retryAt := none, reserved := [], gangAt := 0, stealAt := none, stealDone := false, tailWatch := none
      waitWatch := none, refused := [], limit := none, served := 0, overrun := false }
  settle (armTail (setCtx s x c) x) x

/-- The effect of CONTEXT_CREATE. DEDUCED: assumption 87. -/
def doCtxCreate (x t ring ccfg : Nat) (s : State) : State × Rep :=
  if !tenantExists s t || !ringPageOk s t ring (bits ccfg 4 0) || diesBad s t (bits ccfg 21 16) then (s, .done stINVALID [])
  else
    let full := decide (rf s (Reg.XLT_TN_LIMITS t) 14 0
      ≤ (s.sched.ctxs.filter (fun c => c.2.tenant == t && c.1 != x)).length) || (freeWatchNo s).isNone
    match ctxAt s x with
    | none =>
      if full then (bump s (Reg.XLT_TN_REFCAP t) 1, .done stREFUSED [])
      else (createNow s x t ring ccfg, Rep.ok)
    | some c =>
      if c.st ≠ cxDRAINING then (s, .done stCONFLICT [])
      else if full then (bump s (Reg.XLT_TN_REFCAP t) 1, .done stREFUSED [])
      else (s, .defer [] (.contextCreate x t ring ccfg))

/-- CONTEXT_CREATE. -/
def execContextCreate (slot : Nat) (tag : Word32) (context tenant ring ccfg : Word64) (s : State) :
    Host.Outcome State Fault Refusal :=
  let log := bits ccfg.toNat 4 0
  let bad := !atMost context 16383 || !atMost tenant 255 || !onlyBits ring 0xFFFFFFFFF000 || !onlyBits ccfg 0x0F3F071F
    || decide (log < 4) || decide (16 < log)
  .next (runTwin slot 0x0320 tag [context, tenant, ring, ccfg] bad s
    (doCtxCreate context.toNat tenant.toNat ring.toNat ccfg.toNat))

/-! ### CONTEXT_DESTROY and its drain -/

/-- A deferred create of a context. -/
def isCreate (x : Nat) (w : Wait) : Bool :=
  match w with
  | .contextCreate y _ _ _ => y == x
  | _ => false

/-- The context drains: what it had begun ends FAULTED with cause DESTROYED, the rest up to TAIL completes
NOT_EXECUTED. -/
def destroyNow (s : State) (x : Nat) : State :=
  let s := dropWork s x
  match ctxAt s x with
  | none => s
  | some c =>
    let s := freeWatchOpt (freeWatchOpt s c.tailWatch) c.waitWatch
    let run := c.run.map (fun r => { r with job := r.job.failing sFAULTED 0x07, stop := 4, waiting := false })
    let s := setCtx s x { c with st := cxDRAINING, run := run, limit := some c.tail, tailWatch := none, waitWatch := none
                                 reserved := [], stealAt := none, pend := false, busyRetry := false, retryAt := none, refused := [], overrun := false }
    finishSuspend s x

/-- The effect of CONTEXT_DESTROY (R249, R250, R458). DEDUCED: assumption 87. -/
def doCtxDestroy (x : Nat) (s : State) : State × Rep :=
  match ctxAt s x with
  | none => (s, .done stINVALID [])
  | some c =>
    if c.st = cxDRAINING then
      if s.mbx.deferred.any (fun d => isCreate x d.wait) then (finishAll s (isCreate x) stCONFLICT [], .defer [] (.contextDestroy x))
      else (s, .done stBUSY [])
    else match ringRead s c (c.ring + 0x80) 8 with
      | (s, .blocked) => (s, .again)
      | (s, .ok b _) => (destroyNow (takeTail s x (leNat b) false) x, .defer [] (.contextDestroy x))
      | (s, _) => (destroyNow s x, .defer [] (.contextDestroy x))

/-- CONTEXT_DESTROY. -/
def execContextDestroy (slot : Nat) (tag : Word32) (context : Word64) (s : State) : Host.Outcome State Fault Refusal :=
  .next (runTwin slot 0x0321 tag [context] (!atMost context 16383) s (doCtxDestroy context.toNat))

/-- CONTEXT_DRAIN_DONE (R250, R458): the context is FREE; a create that waited for it takes effect. -/
def execContextDrainDone (context : Nat) (s : State) : Host.Outcome State Fault Refusal :=
  match ctxAt s context with
  | none => .next s
  | some c =>
    if c.st ≠ cxDRAINING ∨ c.run.isSome = true ∨ (bulkOfCtx s context).isEmpty = false ∨ c.head < c.drainTo then .next s
    else
      let s := { s with sched := { s.sched with
        ctxs := tdel s.sched.ctxs context, posts := s.sched.posts.filter (fun p => p.1 != context) } }
      let s := finishAll s (fun w => w == .contextDestroy context) stOK []
      match (s.mbx.deferred.filter (fun d => isCreate context d.wait)).getLast? with
      | some d => match d.wait with
        | .contextCreate x t ring ccfg => .next (finishAll (createNow s x t ring ccfg) (isCreate context) stOK [])
        | _ => .next s
      | none => .next s

/-! ### CONTEXT_RESTART, SUSPEND, RESUME, SET, QUERY -/

/-- The effect of CONTEXT_RESTART (R250): the ring is drained up to TAIL, and the context enters IDLE. A TAIL whose
overrun stopped the context is not taken: the previous TAIL stands (R234). DEDUCED: assumption 85. -/
def doCtxRestart (x : Nat) (s : State) : State × Rep :=
  match ctxAt s x with
  | none => (s, .done stINVALID [])
  | some c =>
    if c.st = cxDRAINING then (s, .done stBUSY [])
    else if c.st ≠ cxSTOPPED then (s, .done stINVALID [])
    else match (if c.limit.isSome ∨ c.cause = stRING_OVERRUN then (s, RingAcc.fault) else ringRead s c (c.ring + 0x80) 8) with
      | (s, .blocked) => (s, .again)
      | (s, r) =>
        let s := match r with
          | .ok b _ => takeTail s x (leNat b) false
          | _ => s
        let s := updCtx s x (fun c => { c with limit := some c.drainTo })
        let s := (bulkOfCtx s x).foldl (fun s _ => completeBulk s x) s
        match drainSlots (2 ^ c.ringLog + 1) s x with
        | (false, s) => (s, .again)
        | (true, s) =>
          if !(bulkOfCtx s x).isEmpty then (s, .again)
          else match ctxAt s x with
            | none => (s, .done stINVALID [])
            | some c =>
              let s := (headerPut s x c 0x18 (leBytes 8 0)).1
              let s := setCtx s x { c with st := cxIDLE, limit := none, pend := decide (c.cause ≠ stRING_OVERRUN), overrun := false }
              (settle (armTail s x) x, Rep.words [c.head])

/-- CONTEXT_RESTART. -/
def execContextRestart (slot : Nat) (tag : Word32) (context : Word64) (s : State) : Host.Outcome State Fault Refusal :=
  .next (runTwin slot 0x0323 tag [context] (!atMost context 16383) s (doCtxRestart context.toNat))

/-- The effect of CONTEXT_SUSPEND (R249, R250, R253). -/
def doCtxSuspend (x : Nat) (s : State) : State × Rep :=
  match ctxAt s x with
  | none => (s, .done stINVALID [])
  | some c =>
    if c.st = cxDRAINING then (s, .done stBUSY [])
    else if cxSUSPENDED ≤ c.st then (s, .done stINVALID [])
    else
      let c := { c with reserved := [], stealAt := none, stealDone := false }
      let on := match c.run with
        | some r => !r.members.isEmpty || r.job.phase == 1
        | none => false
      let c := if on then { c with run := c.run.map (fun r => { r with stop := if r.stop = 0 ∨ r.stop = 1 then 2 else r.stop }) }
        else { c with st := cxSUSPENDED }
      (setCtx s x c, .defer [] (.contextSuspend x))

/-- CONTEXT_SUSPEND: a context that runs no course is suspended at once. -/
def execContextSuspend (slot : Nat) (tag : Word32) (context : Word64) (s : State) : Host.Outcome State Fault Refusal :=
  .next (finishSuspend (runTwin slot 0x0324 tag [context] (!atMost context 16383) s (doCtxSuspend context.toNat)) context.toNat)

/-- The effect of CONTEXT_RESUME (R249). -/
def doCtxResume (x : Nat) (s : State) : State × Rep :=
  match ctxAt s x with
  | none => (s, .done stINVALID [])
  | some c =>
    if c.st = cxDRAINING then (s, .done stBUSY [])
    else if c.st ≠ cxSUSPENDED then (s, .done stINVALID [])
    else (retryPark (settle (setCtx s x { c with st := cxIDLE, pend := true }) x) x, Rep.ok)

/-- CONTEXT_RESUME. -/
def execContextResume (slot : Nat) (tag : Word32) (context : Word64) (s : State) : Host.Outcome State Fault Refusal :=
  .next (runTwin slot 0x0325 tag [context] (!atMost context 16383) s (doCtxResume context.toNat))

/-- The effect of CONTEXT_SET (R250, R499). -/
def doCtxSet (x ccfg mask : Nat) (s : State) : State × Rep :=
  match ctxAt s x with
  | none => (s, .done stINVALID [])
  | some c =>
    let pick := fun (hi lo old : Nat) => (bits ccfg hi lo &&& bits mask hi lo) ||| (old &&& (2 ^ (hi + 1 - lo) - 1 - bits mask hi lo))
    let dies := pick 21 16 c.diemask
    if diesBad s c.tenant dies then (s, .done stINVALID [])
    else (setCtx s x { c with prio := pick 10 8 c.prio, diemask := dies, gangMax := pick 27 24 c.gangMax }, Rep.ok)

/-- CONTEXT_SET: RING_LOG2 cannot be changed. -/
def execContextSet (slot : Nat) (tag : Word32) (context ccfg mask : Word64) (s : State) : Host.Outcome State Fault Refusal :=
  .next (runTwin slot 0x0326 tag [context, ccfg, mask]
    (!atMost context 16383 || !onlyBits ccfg 0x0F3F071F || !onlyBits mask 0x0F3F0700) s
    (doCtxSet context.toNat ccfg.toNat mask.toNat))

/-- XLT_CTXx_CFG and XLT_CTXx_STAT (R260). -/
def ctxCfgWord (s : State) (x : Nat) : Nat :=
  match ctxAt s x with
  | none => 0
  | some c => c.tenant + 2 ^ 8 * c.prio + 2 ^ 11 * c.gangMax + 2 ^ 15 * c.diemask + 2 ^ 21 * c.ringLog + 2 ^ 31
def ctxStatWord (s : State) (x : Nat) : Nat :=
  match ctxAt s x with
  | none => 0
  | some c => c.st + 2 ^ 3 * c.cause + 2 ^ 11 * (match c.run with
    | some r => (r.members.map (fun n => 2 ^ n)).foldl (· + ·) 0
    | none => 0)

/-- CONTEXT_QUERY (R447). -/
def execContextQuery (slot : Nat) (tag : Word32) (context : Word64) (s : State) : Host.Outcome State Fault Refusal :=
  .next (runCmd slot 0x0322 tag (!atMost context 16383) s (fun s =>
    let x := context.toNat
    let ht := match ctxAt s x with
      | none => (0, 0)
      | some c => (c.head, c.tail)
    (s, Rep.words [ctxCfgWord s x, ctxStatWord s x, ht.1, ht.2])))

/-! ### Courses -/

/-- The capability table as its sixteen 32-bit words (R259). -/
def capWords : List Nat :=
  [12 + 2 ^ 8 * 12 + 2 ^ 16 * 512, 1800 + 2 ^ 16 * 256, 4 + 2 ^ 8 * 262144, 65536, 11 + 2 ^ 8 * 64 + 2 ^ 16 * 8 + 2 ^ 24 * 4,
   16384 + 2 ^ 16 * 8192, 4 + 2 ^ 8 * 16, 0x3FF, 0, 0, 0, 0, 0, 0, 0, 0]

/-- COURSE_CAPS (R259). -/
def execCourseCaps (slot : Nat) (tag : Word32) (s : State) : Host.Outcome State Fault Refusal :=
  .next (runCmd slot 0x0327 tag false s (fun s => (s, .done stOK (capWords.flatMap (leBytes 4)))))

/-- Some descriptor runs on a course. -/
def courseRuns (s : State) (k : Nat) : Bool :=
  s.sched.ctxs.any (fun e => match e.2.run with
    | some r => r.members.contains k
    | none => false)

/-- Set or clear EN of a course. -/
def putCourse (s : State) (k v : Nat) : State := rputF s (Reg.CRS_CTL (k / 2) (k % 2)) 0 0 v

/-- A course is to be disabled: at once where it is idle, else its context is preempted at its next tile boundary
(R253). -/
def disableCourse (s : State) (k : Nat) : State :=
  let cs := s.sched.ctxs.map (fun (e : Nat × Ctx) => (e.1, { e.2 with
    reserved := e.2.reserved.filter (fun n => n != k)
    run := e.2.run.map (fun r => if r.members.contains k ∧ r.stop = 0 then { r with stop := 1 } else r) }))
  if courseRuns s k then { s with sched := { s.sched with ctxs := cs, draining := s.sched.draining ||| 2 ^ k } }
  else putCourse { s with sched := { s.sched with ctxs := cs } } k 0

/-- Cancel the enable of a course in every command that waits for it (R458). -/
def cancelEnable (s : State) (k : Nat) : State :=
  let cut := fun (d : Deferred) => match d.wait with
    | .courseSet off on can => if bit on k then { d with wait := .courseSet off (on - 2 ^ k) (can ||| 2 ^ k) } else d
    | _ => d
  { s with mbx := { s.mbx with deferred := s.mbx.deferred.map cut } }

/-- Final replies of the COURSE_SETs whose drains have ended: shutdowns first. -/
def finishCourses (s : State) : State :=
  let ended := fun (d : Deferred) => match d.wait with
    | .courseSet off on _ => (off ||| on) &&& s.sched.draining == 0
    | _ => false
  let starts := fun (d : Deferred) => match d.wait with
    | .courseSet _ on _ => on != 0
    | _ => false
  let send := fun (s : State) (d : Deferred) => match d.wait with
    | .courseSet _ _ can => if can = 0 then finalReply s d stOK [] else finalReply s d stCONFLICT (leBytes 8 can)
    | _ => s
  let ds := s.mbx.deferred.filter ended
  (ds.filter (fun d => !starts d) ++ ds.filter starts).foldl send s

/-- The effect of COURSE_SET (R250, R253, R458). -/
def doCourseSet (mask enable : Nat) (s : State) : State × Rep :=
  let off := (maskList 12 mask).filter (fun k => !bit enable k)
  let on := (maskList 12 mask).filter (fun k => bit enable k)
  let late := on.filter (fun k => bit s.sched.draining k)
  let s := finishCourses ((off.filter (fun k => bit s.sched.draining k)).foldl cancelEnable s)
  let s := (off.filter (fun k => !bit s.sched.draining k)).foldl disableCourse s
  let s := (on.filter (fun k => !bit s.sched.draining k)).foldl (fun s k => putCourse s k 1) s
  let sum := fun (l : List Nat) => (l.map (fun k => 2 ^ k)).foldl (· + ·) 0
  let wait := sum (off.filter (fun k => bit s.sched.draining k))
  if wait = 0 ∧ late.isEmpty = true then (s, Rep.ok) else (s, .defer [] (.courseSet wait (sum late) 0))

/-- COURSE_SET. -/
def execCourseSet (slot : Nat) (tag : Word32) (mask enable : Word64) (s : State) : Host.Outcome State Fault Refusal :=
  .next (runTwin slot 0x0328 tag [mask, enable] (!onlyBits mask 0xFFF || !onlyBits enable 0xFFF) s
    (doCourseSet mask.toNat enable.toNat))

/-- COURSE_DRAIN_DONE (R250, R458): the course runs nothing: it is disabled, and enabled again where an enable waits. -/
def execCourseDrainDone (course : Nat) (s : State) : Host.Outcome State Fault Refusal :=
  if !bit s.sched.draining course || courseRuns s course then .next s
  else
    let s := putCourse { s with sched := { s.sched with draining := s.sched.draining - 2 ^ course } } course 0
    let again := s.mbx.deferred.any (fun d => match d.wait with
      | .courseSet _ on _ => bit on course
      | _ => false)
    .next (finishCourses (if again then putCourse s course 1 else s))

end Sys2Proof.Machine
end

