-- ==== Sys2Proof/Machine/Roce.lean ====
section
/-!
DEFINITION. The RoCEv2 target (R399 to R407): packets of a queue pair are executed one after the other in order of
arrival; READ responses are sent packet by packet. Transport opcodes are those of the InfiniBand RC class.
-/

namespace Sys2Proof.Machine

/-! ### Frames -/

/-- Bytes of a RoCEv2 frame beside its extended headers and payload: Ethernet, a VLAN tag, IP, UDP, the base transport
header, the invariant CRC and the FCS. -/
def roceOver (s : State) (k : Nat) (v6 : Bool) : Nat :=
  14 + (if rf s (Reg.ETH_CTL k) 16 5 = 0 then 0 else 4) + (if v6 then 40 else 20) + 8 + 12 + 4 + 4

/-- A queue pair's peer has an IPv6 address. -/
def QPair.v6 (p : QPair) : Bool := decide (2 ^ 32 ≤ p.ip)

/-- Length of a frame that a queue pair sends: acknowledgements carry an AETH, atomic ones the result as well. -/
def roceOut (s : State) (p : QPair) (f : EthKind) : Nat :=
  roceOver s p.port p.v6 + (match f with
    | .roceAtomic _ _ _ => 12
    | .roceRead _ _ pos d => (if pos = 1 then 0 else 4) + d.length
    | .cnp _ => 16
    | _ => 4)

/-- The opcodes that the target supports (R400). -/
def isWriteOp (op : Nat) : Bool := op == 6 || op == 7 || op == 8 || op == 10
def isReadOp (op : Nat) : Bool := op == 0x0C
def isAtomicOp (op : Nat) : Bool := op == 0x13 || op == 0x14

/-- Length of a frame that arrives. -/
def roceIn (s : State) (k : Nat) (v6 : Bool) (m : RocePkt) : Nat :=
  roceOver s k v6 + m.payload.length
    + (if m.opcode = 6 ∨ m.opcode = 10 ∨ m.opcode = 0x0C then 16 else if isAtomicOp m.opcode then 28 else 0)

/-- Send an answer, or keep it until the standby has acknowledged the mirrored writes before it (R310, R404). -/
def roceAnswer (s : State) (q : Nat) (f : EthKind) : State :=
  match tget s.eth.qps q with
  | none => s
  | some p =>
    if p.mirrorAcks = 0 then ethQueue s p.port (16 + p.tenant) f (roceOut s p f)
    else setQp s q { p with ackOwed := p.ackOwed ++ [f] }

/-- A mirrored write of a queue pair is acknowledged by the standby. DEDUCED: assumption 167. -/
def roceMirrored (s : State) (q : Nat) : State :=
  match tget s.eth.qps q with
  | none => s
  | some p =>
    let n := p.mirrorAcks - 1
    if n = 0 then p.ackOwed.foldl (fun s f => roceAnswer s q f) (setQp s q { p with mirrorAcks := 0, ackOwed := [] })
    else setQp s q { p with mirrorAcks := n }

/-! ### Refusals (R405) -/

/-- NAK syndromes: PSN sequence error, invalid request, remote access error, remote operational error. -/
def nakSEQ : Nat := 1
def nakINVALID : Nat := 2
def nakACCESS : Nat := 3
def nakOPER : Nat := 4

/-- Answer a NAK that puts the queue pair into ERROR. -/
def roceNak (s : State) (q psn code : Nat) : State :=
  match tget s.eth.qps q with
  | none => s
  | some p =>
    let p := { p with error := true, writing := none, units := [], reads := []
                      nakInvalid := p.nakInvalid + b2n (code == nakINVALID), nakAccess := p.nakAccess + b2n (code == nakACCESS)
                      nakOper := p.nakOper + b2n (code == nakOPER) }
    roceAnswer (setQp s q p) q (.roceAck q psn code)

/-! ### Translation (R402, R403) -/

/-- Record or merge a fault of a RoCEv2 request: FIRST_CONTEXT is 0x3FFE and FIRST_SOURCE the queue pair. -/
def roceFault (s : State) (q : Nat) (f : Flt) : State :=
  let fresh := (faultMatch s f).isNone
  match recordFault s f none q (fun _ => false) with
  | (s, none) => s
  | (s, some n) =>
    if !fresh then s
    else match (faultsOf s f.tenant).find? (fun e => e.2.seq == n) with
      | none => s
      | some e => setFault s f.tenant e.1 { e.2 with firstContext := 0x3FFE, firstSource := q % 4096 }

/-- Translate every unit of a request: its units, or none where one fails. -/
def roceXl (s : State) (q tenant need : Nat) : List (Nat × Nat) → State × Option (List (Nat × Nat × Nat × Nat))
  | [] => (s, some [])
  | (a, _) :: t =>
    let slot := (a / 2 ^ 30) % 2 ^ 18
    let (s, out) := match slotXl s tenant slot need 15 a slot false with
      | (s, .ok e _) => (s, some (slot, e.extent, e.epoch, s.xlt.era))
      | (s, .fault f) => (roceFault s q f, none)
      | (s, .window) => (s, none)
    match out, roceXl s q tenant need t with
    | some u, (s, some l) => (s, some (u :: l))
    | _, (s, _) => (s, none)

/-- Translate a request as it arrives. -/
def roceBegin (s : State) (q tenant need va len : Nat) : State × Option (List (Nat × Nat × Nat × Nat)) :=
  if 2 ^ 48 < va + len then (s, none) else roceXl s q tenant need (unitsOf 4 va len)

/-- What the check of the units that a packet touches gives. -/
inductive UnitChk where
  | ok (segs : List (Nat × Nat)) (units : List (Nat × Nat × Nat × Nat))
  | wait
  | failed
  deriving DecidableEq, Repr

/-- Check one unit: current, translated again, or held while its fence is open. -/
def roceUnit (s : State) (tenant need : Nat) (us : List (Nat × Nat × Nat × Nat)) (a : Nat) :
    State × Option (Option (Nat × Nat × Nat × Nat)) :=
  let slot := (a / 2 ^ 30) % 2 ^ 18
  match us.find? (fun u => u.1 == slot) with
  | none => (s, some none)
  | some u =>
    if u.2.2.1 = epochOf s u.2.1 ∧ u.2.2.2 = s.xlt.era then (s, some (some u))
    else if fenced s u.2.1 then (s, none)
    else match slotXl s tenant slot need 15 a slot false with
      | (s, .ok e _) => (s, some (some (slot, e.extent, e.epoch, s.xlt.era)))
      | (s, _) => (s, some none)

/-- Check the units that a packet touches (R403). -/
def roceCheck (s : State) (tenant need : Nat) (us : List (Nat × Nat × Nat × Nat)) : List (Nat × Nat) → State × UnitChk
  | [] => (s, .ok [] us)
  | (a, len) :: t =>
    match roceUnit s tenant need us a with
    | (s, none) => (s, .wait)
    | (s, some none) => (s, .failed)
    | (s, some (some u)) =>
      let us := us.map (fun v => if v.1 = u.1 then u else v)
      match roceCheck s tenant need us t with
      | (s, .ok l us) => (s, .ok ((ppaOf u.2.1 (a % 2 ^ 30), len) :: l) us)
      | r => r

/-- The segments can be read or written now: no migration or twin holds them, and the directory lets the target at every
line (R101, R207, R386). -/
def roceClear (s : State) (segs : List (Nat × Nat)) (write : Bool) : Bool × State :=
  if segs.any (fun e => heldExt s (extOf e.1) write || (s.twin.st == 6 && mirroredAt s e.1)) then (false, s)
  else segs.foldl (fun (p : Bool × State) e =>
    let (ok, s) := agentRange p.2 e.1 e.2 write
    (p.1 && ok, s)) (true, s)

/-! ### The requests -/

/-- Write the payload of a packet over its segments, and mirror it. -/
def roceStore (q : Nat) : State → List (Nat × Nat) → List Byte → State × Nat
  | s, [], _ => (s, 0)
  | s, (a, len) :: t, b =>
    let (s, n) := storeMirrored s a (b.take len) (.roce q)
    let (s, m) := roceStore q s t (b.drop len)
    (s, n + m)

/-- The address of a WRITE packet, what its request has left, and its units, if it may go on (R400, R402): the outer none
is a NAK code. -/
def writeAt (s : State) (q : Nat) (p : QPair) (m : RocePkt) : State × (Nat ⊕ (Nat × Nat × List (Nat × Nat × Nat × Nat))) :=
  let n := m.payload.length
  if m.opcode = 6 ∨ m.opcode = 10 then
    if p.writing.isSome || m.len == 0 || decide (2 ^ 31 < m.len)
        || (if m.opcode = 10 then n != m.len || decide (p.mtu < n) else n != p.mtu || decide (m.len ≤ n)) then (s, .inl nakINVALID)
    else if m.rkey ≠ p.rkey ∨ bit p.access 1 = false then (s, .inl nakACCESS)
    else match roceBegin s q p.tenant pWR m.va m.len with
      | (s, none) => (s, .inl nakACCESS)
      | (s, some us) => (s, .inr (m.va, m.len, us))
  else match p.writing with
    | none => (s, .inl nakINVALID)
    | some (a, left) =>
      if (if m.opcode = 7 then n != p.mtu || decide (left ≤ n) else n != left || n == 0 || decide (p.mtu < n)) then (s, .inl nakINVALID)
      else (s, .inr (a, left, p.units))

/-- Execute a WRITE packet with the expected PSN: false while it has to wait. -/
def roceWrite (s : State) (q : Nat) (p : QPair) (m : RocePkt) : Bool × State :=
  if !p.reads.isEmpty then (false, s)
  else match writeAt s q p m with
    | (s, .inl code) => (true, roceNak s q m.psn code)
    | (s, .inr (a, left, us)) =>
      match roceCheck s p.tenant pWR us (unitsOf 3 a m.payload.length) with
      | (s, .wait) => (false, s)
      | (s, .failed) => (true, roceNak s q m.psn nakACCESS)
      | (s, .ok segs us) => match roceClear s segs true with
        | (false, s) => (false, s)
        | (true, s) =>
          let n := m.payload.length
          let (s, mir) := roceStore q (chargeSegs s p.tenant segs) segs m.payload
          let last := left == n
          let s := match tget s.eth.qps q with
            | none => s
            | some p => setQp s q { p with epsn := (p.epsn + 1) % 2 ^ 24, nakked := false, mirrorAcks := p.mirrorAcks + mir
                                           writing := if last then none else some (a + n, left - n), units := if last then [] else us }
          (true, if last then roceAnswer s q (.roceAck q m.psn 0) else s)

/-- Response packets of a READ. -/
def readPackets (p : QPair) (len : Nat) : Nat := (len + p.mtu - 1) / p.mtu

/-- Execute a READ request: its responses are scheduled. -/
def roceRead (s : State) (q : Nat) (p : QPair) (m : RocePkt) (dup : Bool) : Bool × State :=
  if m.len = 0 ∨ 2 ^ 31 < m.len ∨ p.writing.isSome = true ∨ 16 ≤ p.reads.length then (true, roceNak s q m.psn nakINVALID)
  else if m.rkey ≠ p.rkey ∨ bit p.access 0 = false then (true, roceNak s q m.psn nakACCESS)
  else match roceBegin s q p.tenant pRD m.va m.len with
    | (s, none) => (true, roceNak s q m.psn nakACCESS)
    | (s, some us) =>
      let r : RoceRead := { psn := m.psn, va := m.va, len := m.len, sent := 0, units := us }
      let p := { p with reads := p.reads ++ [r] }
      (true, setQp s q (if dup then { p with dupReads := p.dupReads + 1 }
        else { p with epsn := (p.epsn + readPackets p m.len) % 2 ^ 24, nakked := false }))

/-- Execute an atomic request (R400, R407): false while it has to wait. -/
def roceAtomic (s : State) (q : Nat) (p : QPair) (m : RocePkt) : Bool × State :=
  if m.va % 8 ≠ 0 ∨ p.writing.isSome = true ∨ 16 ≤ p.reads.length then (true, roceNak s q m.psn nakINVALID)
  else if m.rkey ≠ p.rkey ∨ bit p.access 2 = false then (true, roceNak s q m.psn nakACCESS)
  else if !p.reads.isEmpty then (false, s)
  else match roceBegin s q p.tenant pATOM m.va 8 with
    | (s, none) => (true, roceNak s q m.psn nakACCESS)
    | (s, some us) =>
      let a := ((us.head?).map (fun u => ppaOf u.2.1 (m.va % 2 ^ 30))).getD 0
      match roceClear s [(a, 8)] true with
      | (false, s) => (false, s)
      | (true, s) => match loadWord (chargeSegs s p.tenant [(a, 8)]) a with
        | (none, s) => (true, roceNak s q m.psn nakOPER)
        | (some v, s) =>
          let v' := if m.opcode = 0x13 then (if v = m.compare.toNat then m.swapAdd.toNat else v) else (v + m.swapAdd.toNat) % 2 ^ 64
          let s := storeWord s a v'
          let mir := mirroring s && mirroredAt s a
          let s := if mir then mirrorLine s (a / 128) (255 * 2 ^ (a % 128)) (.roce q) none else s
          let old : Word64 := BitVec.ofNat 64 v
          let s := match tget s.eth.qps q with
            | none => s
            | some p => setQp s q { p with epsn := (p.epsn + 1) % 2 ^ 24, nakked := false, mirrorAcks := p.mirrorAcks + b2n mir
                                           atomics := ((m.psn, old) :: p.atomics).take 16 }
          (true, roceAnswer s q (.roceAtomic q m.psn old))

/-- Answer a duplicate (R405). PRESUMED: assumption 129. -/
def roceDup (s : State) (q : Nat) (p : QPair) (m : RocePkt) : Bool × State :=
  if isWriteOp m.opcode then (true, roceAnswer (setQp s q { p with dupWrites := p.dupWrites + 1 }) q (.roceAck q m.psn 0))
  else if isReadOp m.opcode then roceRead s q p m true
  else match p.atomics.find? (fun e => e.1 == m.psn) with
    | some e => (true, roceAnswer (setQp s q { p with dupAtomics := p.dupAtomics + 1 }) q (.roceAtomic q m.psn e.2))
    | none => (true, s)

/-- Execute a packet of a queue pair that is RTS: false while it has to wait. -/
def rocePacket (s : State) (q : Nat) (p : QPair) (m : RocePkt) : Bool × State :=
  let d := (m.psn + 2 ^ 24 - p.epsn) % 2 ^ 24
  if d ≠ 0 ∧ d < 2 ^ 23 then
    if p.nakked then (true, s)
    else (true, roceAnswer (setQp s q { p with nakked := true, seqErrors := p.seqErrors + 1 }) q (.roceAck q p.epsn nakSEQ))
  else if !isWriteOp m.opcode && !isReadOp m.opcode && !isAtomicOp m.opcode then (true, roceNak s q m.psn nakINVALID)
  else if d ≠ 0 then roceDup s q p m
  else if isWriteOp m.opcode then roceWrite s q p m
  else if isReadOp m.opcode then roceRead s q p m false
  else roceAtomic s q p m

/-- A packet leaves the receive buffer (R399). -/
def roceLeave (s : State) (p : QPair) (m : RocePkt) : State :=
  roceFill s p.port ((ethPort s p.port).fill - roceIn s p.port p.v6 m)

/-- Execute the packets of a queue pair, in order, until one has to wait. One that is in ERROR, or ends, discards them.
DEDUCED: assumption 167. -/
def rocePump : Nat → State → Nat → State
  | 0, s, _ => s
  | n + 1, s, q =>
    match tget s.eth.qps q with
    | none => s
    | some p => match p.waiting with
      | [] => s
      | m :: rest =>
        let p := { p with waiting := rest }
        if p.error || p.draining then rocePump n (roceLeave (setQp s q p) p m) q
        else match rocePacket (setQp s q p) q p m with
          | (true, s) => rocePump n (roceLeave s p m) q
          | (false, s) => match tget s.eth.qps q with
            | none => s
            | some p => setQp s q { p with waiting := m :: p.waiting }

/-- Execute what a queue pair can. -/
def roceRun (s : State) (q : Nat) : State :=
  match tget s.eth.qps q with
  | none => s
  | some p => rocePump p.waiting.length s q

/-- A congestion mark: at most one CNP every 50 µs (R406). -/
def roceMark (s : State) (q : Nat) (p : QPair) (m : RocePkt) : State :=
  if !m.ce then s
  else
    let s := bump s (Reg.ETH_ECNCE p.port) 1
    let due := match p.cnpSentAt with
      | none => true
      | some t => decide (t + 50000 ≤ now s)
    if due && (isWriteOp m.opcode || isReadOp m.opcode) then
      bump (ethQueue (setQp s q { p with cnpSentAt := some (now s) }) p.port (16 + p.tenant) (.cnp q) (roceOut s p (.cnp q)))
        (Reg.ETH_CNPTX p.port) 1
    else s

/-- A frame finds the receive buffer full: without PFC, what RoCEv2 may fill is 1 MiB less the 64 KiB reserved for other
frames (R399). -/
def bufferFull (s : State) (k len : Nat) : Bool :=
  rf s (Reg.ETH_CTL k) 4 4 == 0 && decide (983040 < (ethPort s k).fill + len)

/-- A RoCEv2 packet arrives (R399 to R401, R405). PRESUMED: assumption 129. -/
def roceArrive (s : State) (k : Nat) (m : RocePkt) : State :=
  if !ethUp s k then s
  else
    match tget s.eth.qps m.qp with
    | none => rxDrop (rxFrame s k (roceIn s k false m)) k
    | some p =>
      let len := roceIn s k p.v6 m
      let s := rxFrame s k len
      if p.port ≠ k ∨ m.icrcGood = false then rxDrop s k
      else if p.error || p.draining then s
      else if bufferFull s k len then rxDrop s k
      else
        let s := roceFill (roceMark s m.qp p m) k ((ethPort s k).fill + len)
        match tget s.eth.qps m.qp with
        | none => s
        | some p => roceRun (setQp s m.qp { p with waiting := p.waiting ++ [m] }) m.qp

/-- RDMA_WRITE (R404). -/
def execRdmaWrite (port_ : Nat) (pkt : RocePkt) (s : State) : Host.Outcome State Fault Refusal :=
  .next (roceArrive s port_ pkt)

/-- RDMA_READ_REQUEST (R402). -/
def execRdmaReadRequest (port_ : Nat) (pkt : RocePkt) (s : State) : Host.Outcome State Fault Refusal :=
  .next (roceArrive s port_ { pkt with opcode := 0x0C })

/-- COMPARE_AND_SWAP (R400). -/
def execCompareAndSwap (port_ : Nat) (pkt : RocePkt) (s : State) : Host.Outcome State Fault Refusal :=
  .next (roceArrive s port_ { pkt with opcode := 0x13 })

/-- FETCH_AND_ADD (R407). -/
def execFetchAndAdd (port_ : Nat) (pkt : RocePkt) (s : State) : Host.Outcome State Fault Refusal :=
  .next (roceArrive s port_ { pkt with opcode := 0x14 })

/-- INVALID_ROCE_PACKET (R405): what the packet holds decides the answer. -/
def execInvalidRocePacket (port_ : Nat) (pkt : RocePkt) (s : State) : Host.Outcome State Fault Refusal :=
  .next (roceArrive s port_ pkt)

/-- Send the next response packet of a queue pair's oldest READ. -/
def roceRespond (s : State) (q : Nat) (p : QPair) (r : RoceRead) (rest : List RoceRead) : State :=
  let off := r.sent * p.mtu
  let n := min p.mtu (r.len - off)
  let psn := (r.psn + r.sent) % 2 ^ 24
  match roceCheck s p.tenant pRD r.units (unitsOf 3 (r.va + off) n) with
  | (s, .wait) => s
  | (s, .failed) => roceNak s q psn nakACCESS
  | (s, .ok segs us) => match roceClear s segs false with
    | (false, s) => s
    | (true, s) =>
      let (b, bad, s) := loadSegs (chargeSegs s p.tenant segs) segs
      if bad then roceNak s q psn nakOPER
      else
        let last := decide (r.len ≤ off + n)
        let pos := if r.sent = 0 then (if last then 3 else 0) else if last then 2 else 1
        let s := roceAnswer s q (.roceRead q psn pos b)
        match tget s.eth.qps q with
        | none => s
        | some p => setQp s q { p with reads := if last then rest else { r with sent := r.sent + 1, units := us } :: rest }

/-- READ_RESPONSE_SEND (R403, R404, R418): the next response packet of the queue pair, and then the packets that waited
for it. -/
def execReadResponseSend (qp : Nat) (s : State) : Host.Outcome State Fault Refusal :=
  let s := roceRun s qp
  match tget s.eth.qps qp with
  | none => .next s
  | some p => match p.reads with
    | [] => .next s
    | r :: rest =>
      if p.draining || p.mirrorAcks != 0 || (ethPort s p.port).draining then .next s
      else .next (roceRun (roceRespond s qp p r rest) qp)

end Sys2Proof.Machine
end

