-- ==== Sys2Proof/Machine/Fences.lean ====
section
/-!
DEFINITION. The end of revocation fences (R53, R94, R97, R99, R303, R403), migration (R100 to R102), the resolution of
faults and the contexts parked unrecorded (R108, R110 to R112), and gate entries (R416, R498).
-/

namespace Sys2Proof.Machine

/-! ### Fences -/

/-- An entry of a shadow lies on one of some extents with an epoch from before their fence. -/
def oldEntry (s : State) (es : List Nat) (h : Shadow) (i : Nat) : Bool :=
  match h.entries[i]? with
  | none => false
  | some e => es.contains e.extent && staleEntry s e

/-- A tile in flight uses an entry on one of some extents that carries an epoch from before the fence (R97). -/
def tileUses (s : State) (es : List Nat) : Bool :=
  s.sched.ctxs.any (fun c => match c.2.run with
    | none => false
    | some r =>
      let h := shadowAt s r.job.shadow
      r.job.flight.any (fun t => ((courseOf r.raw).tileEntries h t.num).any (oldEntry s es h)))
  || s.sched.bulk.any (fun b =>
    let h := shadowAt s b.job.shadow
    let d := bulkOf b.raw
    b.job.flight.any (fun t =>
      let p := d.span t.num
      ((if d.isMove then (d.srcOpd h).entriesOf p.1 p.2 else []) ++ (d.dstOpd h).entriesOf p.1 p.2).any (oldEntry s es h)))

/-- Send the reply of a command that waited for a fence: over the standby first, as any other (R99, R379). -/
def lateReply (s : State) (slot op : Nat) (tag : Word32) (words : List Nat) (r : Rep) : State :=
  match r with
  | .done st b =>
    if (s.twin.st = 1 ∨ s.twin.st = 2) ∧ st = stOK then oweReply s slot op tag (words.flatMap (leBytes 8)) st b none
    else reply s slot op tag st b
  | .defer _ _ | .wait | .again => s

/-- The switch of a migration begins (R101): single requests to the source are held, and a fence opens on it.
DEDUCED: assumption 50. -/
def beginSwitch (s : State) (src : Nat) : State :=
  match tget s.xlt.migrations src with
  | none => s
  | some g =>
    if !fenceRoom s then (waitFence s (.migrationSwitch src)).1
    else
      let s := openFence s [src] 2
      { s with xlt := { s.xlt with migrations := tset s.xlt.migrations src { g with switching := some (now s) } } }

/-- Carry out a change that waited for a fence. -/
def resumeChange (s : State) (w : FenceWait) : State :=
  match w with
  | .viewUnmap slot tag t v =>
    let (s, r) := doViewUnmap slot tag t v s
    lateReply s slot 0x0206 tag [t, v] r
  | .windowSet slot tag w ctl base src =>
    let (s, r) := doWindowSet slot tag w ctl base src s
    lateReply s slot 0x0208 tag [w, ctl, base, src] r
  | .windowClear slot tag w =>
    let (s, r) := doWindowClear slot tag w s
    lateReply s slot 0x0209 tag [w] r
  | .migrationSwitch src => beginSwitch s src

/-- Carry out the changes that wait, first in first out, while a fence can open (R99). -/
def resumeChanges : Nat → State → State
  | 0, s => s
  | n + 1, s =>
    match s.xlt.fenceWait with
    | [] => s
    | w :: rest =>
      if fenceRoom s then resumeChanges n (resumeChange { s with xlt := { s.xlt with fenceWait := rest } } w) else s

/-- Deferred releases of which no extent is DRAINING any more send their final reply (R53). -/
def finishReleases (s : State) : State :=
  finishAll s (fun w => match w with
    | .release l => !l.any (fun e => (extRec s e).st == exDRAINING)
    | _ => false) stOK []

/-- A fence completes (R53, R97, R99, R303, R403): DRAINING extents become FREE, watch entries translate again, waiting
RoCEv2 packets go on, and waiting changes are carried out. DEDUCED: assumption 50. -/
def completeFence (s : State) (f : Nat) : State :=
  match tget s.xlt.fences f with
  | none => s
  | some r =>
    let s := { s with xlt := { s.xlt with fences := tdel s.xlt.fences f } }
    let done := r.extents.filter (fun e => !fenced s e)
    let s := (done.filter (fun e => (extRec s e).st == exDRAINING)).foldl freeExtent s
    let s := finishReleases s
    let s := (s.sig.watches.filter (fun e => !e.2.time && done.contains e.2.extent)).foldl (fun s e => revalWatch s e.1 e.2) s
    let s := s.eth.qps.foldl (fun s q => roceRun s q.1) s
    resumeChanges s.xlt.fenceWait.length s

/-- FENCE_COMPLETE (R97). The fence of a switch completes with the switch (R101, R102). -/
def execFenceComplete (fence : Nat) (s : State) : Host.Outcome State Fault Refusal :=
  match tget s.xlt.fences fence with
  | none => .next s
  | some r => if r.cause = 2 ∨ inSafe s = true ∨ tileUses s r.extents = true then .next s else .next (completeFence s fence)

/-! ### Migration -/

/-- A migration ends without its switch (R101, R102): the destination is FREE and the final reply is CONFLICT. -/
def abortMigration (s : State) (src : Nat) (g : Migration) : State :=
  let s := freeExtent s g.dest
  let s := { s with xlt := { s.xlt with migrations := tdel s.xlt.migrations src } }
  finishAll s (fun w => w == .migrate src) stCONFLICT []

/-- MIGRATION_PASS_END (R101): the switch, another pass, or an abort after PASSES. -/
def execMigrationPassEnd (source : Nat) (s : State) : Host.Outcome State Fault Refusal :=
  match tget s.xlt.migrations source with
  | none => .next s
  | some g =>
    if g.switching.isSome || s.xlt.fenceWait.contains (.migrationSwitch source) || inSafe s then .next s
    else if g.dirty.length ≤ rf s Reg.XLT_MIG_CTL 27 12 then .next (beginSwitch s source)
    else if rf s Reg.XLT_MIG_CTL 11 8 ≤ g.pass then .next (abortMigration s source g)
    else
      let g := { g with pass := g.pass + 1, dirty := [] }
      .next { s with xlt := { s.xlt with migrations := tset s.xlt.migrations source g } }

/-- The fence of a migration's switch. -/
def switchFence (s : State) (src : Nat) : Option Nat :=
  (s.xlt.fences.find? (fun f => f.2.cause == 2 && f.2.extents == [src])).map (fun f => f.1)

/-- Requests held at translation go on (R101, R102). -/
def releaseHeld (s : State) : State :=
  let held := s.xlt.heldReqs
  held.foldl (fun s e => translateReq s e.1 e.2) { s with xlt := { s.xlt with heldReqs := [] } }

/-- What a copy of an extent reads is corrected or lost first, and the lines that an earlier rebuild lost take the
marker (R153, R167). -/
def scrubExtent (s : State) (e : Nat) : State :=
  let base := e * 2 ^ 30
  let gs := ((s.dram.marks.filter (fun m => m.1 * 8 / 2 ^ 30 == e)).map (fun m => m.1 / 32)).eraseDups
  let s := gs.foldl (fun s g => fetchGranule s g (List.range 32)) s
  if s.dram.losses.isEmpty then s
  else ((List.range' (base / 128) (2 ^ 23)).filter (fun l => s.dram.losses.any (fun x => x.covers l))).foldl settleLine s

/-- Copy the contents of an extent: bytes, poisoned lines, and what self-refresh left undefined.
DESIGN CHOICE: assumption 49. -/
def copyExtent (s : State) (src dst : Nat) : State :=
  let s := zeroExtent (scrubExtent s src) dst
  let shift := fun (a : Nat) => dst * 2 ^ 30 + a % 2 ^ 30
  let bytes := s.mem.filter (fun (e : Nat × Byte) => decide (extOf e.1 = src))
  let mem := bytes.foldl (fun m (e : Nat × Byte) => memSet m (shift e.1) e.2) s.mem
  let s := { s with mem := mem }
  let bad := (((s.dram.marks.filter (fun (m : Nat × Nat) => m.1 * 8 / 2 ^ 30 == src)).map (fun m => m.1 / 16)).eraseDups).filter (linePoisoned s)
  let s := bad.foldl (fun s l => poisonLine s (shift (l * 128) / 128)) s
  if !s.dram.undef.contains src then s
  else { s with dram := { s.dram with
    undef := dst :: s.dram.undef
    undefAt := tset s.dram.undefAt dst (tgetD s.dram.undefAt src 0)
    undefWritten := s.dram.undefWritten ++ (s.dram.undefWritten.filter (fun a => extOf a == src)).map shift } }

/-- MIGRATION_SWITCH_DONE (R101): with the tiles on the source ended and the last pages copied, the mappings move to the
destination, and everything held goes on. -/
def execMigrationSwitchDone (source : Nat) (s : State) : Host.Outcome State Fault Refusal :=
  match tget s.xlt.migrations source with
  | none => .next s
  | some g => match g.switching, switchFence s source with
    | some t, some f =>
      if tileUses s [source] || inSafe s || decide (t + rf s Reg.XLT_MIG_CTL 7 0 * 1000 < now s) then .next s
      else
        let r := extRec s source
        let s := copyExtent s source g.dest
        let s := (mappers s source).foldl (fun s v => setView s v.1 v.2 (setBits (viewEnt s v.1 v.2) 19 8 g.dest)) s
        let s := setExt (freeExtent s source) g.dest { extRec s g.dest with st := exREADY, mapcount := r.mapcount }
        let s := { s with xlt := { s.xlt with migrations := tdel s.xlt.migrations source } }
        let s := releaseHeld (completeFence s f)
        .next (finishAll s (fun w => w == .migrate source) stOK [])
    | _, _ => .next s

/-- MIGRATION_HOLD_LIMIT (R102): the switch has taken HOLD_LIMIT; the views stay as they are. -/
def execMigrationHoldLimit (source : Nat) (s : State) : Host.Outcome State Fault Refusal :=
  match tget s.xlt.migrations source with
  | none => .next s
  | some g => match g.switching, switchFence s source with
    | some t, some f =>
      let s := reach s (t + rf s Reg.XLT_MIG_CTL 7 0 * 1000)
      let s := abortMigration s source g
      .next (releaseHeld (completeFence s f))
    | _, _ => .next s

/-! ### Resolution of faults -/

/-- A parked descriptor fails because one of its records does (R112): it completes FAULTED in its turn, and its context
leaves the WAITERS of its other records. -/
def failParked (s : State) (x : Nat) : State :=
  match ctxAt s x with
  | none => s
  | some c => match c.park with
    | none => s
    | some p =>
      let s := dropPark s x
      match p.bulk with
      | some m =>
        let (s, n) := takeNumber s
        enqueueBulk s x m.src.toNat 0 (slice m.data 0 64) n (some (sFAULTED, 0x02))
      | none =>
        let (s, n) := takeNumber s
        let d := c.head + (match c.run with
          | some r => if r.job.phase = 0 then 1 else 0
          | none => 0)
        enqueueRun s x (Run.fresh p.raw ((Job.fresh n d).failing sFAULTED 0x02))

/-- A record that a context waits on is resolved with RETRY. -/
def retryRecord (r : Nat × Nat) (c : Ctx) : Ctx :=
  { c with park := c.park.map (fun p =>
    if p.records.contains r then
      let l := p.records.filter (fun x => x != r)
      { p with records := l, again := p.again || (l.isEmpty && !p.unrecorded) }
    else p) }

/-- The contexts whose parked descriptor waits on a record. -/
def waitersOf (s : State) (r : Nat × Nat) : List Nat :=
  (s.sched.ctxs.filter (fun c => match c.2.park with
    | some p => p.records.contains r
    | none => false)).map (fun c => c.1)

/-- Resolve one pair: whether it named an open record (R110, R112). -/
def resolveOne (s : State) (w : Nat) : Bool × State :=
  let t := bits w 7 0
  let seq := bits w 63 32
  match (faultsOf s t).find? (fun e => e.2.seq == seq) with
  | none => (false, s)
  | some e =>
    let who := waitersOf s (t, seq)
    let s := delFault s t e.1
    if bit w 8 then (true, who.foldl failParked s)
    else (true, who.foldl (fun s x => updCtx s x (retryRecord (t, seq))) s)

/-- The effect of FAULT_RESOLVE: every pair is applied, and then the contexts that have nothing left to wait on translate
again. -/
def doFaultResolve (list : List Nat) (s : State) : State × Rep :=
  let (s, skipped) := list.foldl (fun (q : State × List Nat) w =>
    match resolveOne q.1 w with
    | (true, s) => (s, q.2)
    | (false, s) => (s, q.2 ++ [w])) (s, [])
  let ready := (s.sched.ctxs.filter (fun c => (c.2.park.map (fun p => p.again && c.2.retryAt.isNone)).getD false)).map (fun c => c.1)
  (ready.foldl retryPark s, .done stOK (leBytes 8 skipped.length ++ skipped.flatMap (leBytes 8)))

/-- FAULT_RESOLVE (R110, R112, R447). -/
def execFaultResolve (slot : Nat) (tag : Word32) (list : List Word64) (s : State) : Host.Outcome State Fault Refusal :=
  .next (runTwin slot 0x0311 tag (listWords list)
    (decide (64 < list.length) || !list.all (fun w => onlyBits w 0xFFFFFFFF000001FF)) s
    (doFaultResolve (list.map (fun w => w.toNat))))

/-- A context is in no unrecorded order any more. -/
def leaveUnrecorded (s : State) (x : Nat) : State :=
  let u := s.xlt.unrecorded.map (fun (e : Nat × List Nat) => (e.1, e.2.filter (fun y => y != x)))
  { s with xlt := { s.xlt with unrecorded := u } }

/-- Translate the descriptor of an unrecorded context again. -/
def retryUnrecorded (s : State) (x : Nat) (c : Ctx) (p : Park) : State :=
  if c.st = cxSUSPENDED then
    leaveUnrecorded (setCtx s x { c with park := some { p with unrecorded := false, again := true } }) x
  else if (admitBar s c.tenant).isSome || paused s c then s
  else
    let s := p.records.foldl leaveRecord s
    let c := { c with park := none, retryAt := none }
    let s := setCtx s x c
    let s := match p.bulk with
      | none => acceptNext (settle s x) x
      | some m => (admitBulk s x c m).1
    match (ctxAt s x).bind (fun c => c.park) with
    | none => leaveUnrecorded s x
    | some p => if p.unrecorded then s else leaveUnrecorded s x

/-- UNRECORDED_RETRANSLATE (R107, R108): while a slot of the tenant is free, the first of its unrecorded contexts translates
again. -/
def execUnrecordedRetranslate (tenant : Nat) (s : State) : Host.Outcome State Fault Refusal :=
  match tgetD s.xlt.unrecorded tenant [] with
  | [] => .next s
  | x :: _ =>
    if rf s (Reg.XLT_FQ_CFG tenant) 14 0 ≤ (faultsOf s tenant).length ∨ inSafe s = true then .next s
    else match ctxAt s x with
      | none => .next (leaveUnrecorded s x)
      | some c => match c.park with
        | none => .next (leaveUnrecorded s x)
        | some p => .next (retryUnrecorded s x c p)

/-! ### Gates of the dies (R498) -/

/-- The settings of GATE_SET take effect. DEDUCED: assumption 58. -/
def applyGate (s : State) : State :=
  match s.sched.pendingGate with
  | none => s
  | some (ctl, cycle, list) =>
    let s := rput (rput s Reg.XLT_GATE_CTL ctl) Reg.XLT_GATE_CYCLE cycle
    let s := (List.range 64).foldl (fun s j => rput s (Reg.XLT_GATE j) ((list[j]?).getD 0)) s
    { s with sched := { s.sched with pendingGate := none } }

/-- GATE_ENTRY_BOUNDARY (R416, R498). The durations of both kinds of gate count in units of 8 ns. -/
def execGateEntryBoundary (gate : GateSite) (s : State) : Host.Outcome State Fault Refusal :=
  match gate with
  | .ethPort k => if k < 8 then .next (ethGateBoundary s k) else .next s
  | .dies =>
    let en := rf s Reg.XLT_GATE_CTL 6 6 == 1
    let cycle := rg s Reg.XLT_GATE_CYCLE
    let s := reach s (nextGate (now s) s.sched.gateEnd cycle en)
    let s := if cycle ≠ 0 ∧ now s % cycle = 0 then applyGate s else s
    let g := gateAt (now s) (rg s Reg.XLT_GATE_CYCLE) ((gateList s (Reg.XLT_GATE 0)).map (fun w => bits w 19 0 * 8))
    .next { s with sched := { s.sched with gate := g.1, gateEnd := g.2, guard := 0 } }

/-- A course of die n runs a descriptor. -/
def runsOnDie (r : Run) (n : Nat) : Bool := r.members.any (fun k => k / 2 == n)

/-- GUARD_START (R253, R498): the last GUARD µs of an entry begin on a gated die: nothing more starts there, and its courses
preempt their contexts. -/
def execGuardStart (die : Nat) (s : State) : Host.Outcome State Fault Refusal :=
  if 6 ≤ die ∨ gated s die = false ∨ bit s.sched.guard die = true then .next s
  else
    let s := reach s (s.sched.gateEnd - rf s Reg.XLT_GATE_CTL 15 8 * 1000)
    let cs := s.sched.ctxs.map (fun (e : Nat × Ctx) => (e.1, { e.2 with
      run := e.2.run.map (fun r => if runsOnDie r die ∧ r.stop = 0 then { r with stop := 1 } else r) }))
    .next { s with sched := { s.sched with ctxs := cs, guard := s.sched.guard ||| 2 ^ die } }

end Sys2Proof.Machine
end

