-- ==== Sys2Proof/Machine/Answers.lean ====
section
/-!
DEFINITION. The answers to the module's own requests, and what happens when none comes (R297, R298, R345, R347, R349,
R354).
-/

namespace Sys2Proof.Machine

/-- The request of the module's own that a response answers, if its use passes a test. -/
def ownAsked (s : State) (m : Msg) (p : OwnUse → Bool) : Option OwnReq :=
  match tget s.fab.own m.reqid.toNat with
  | some o => if p o.use then some o else none
  | none => none

/-- Forget a request of the module's own. -/
def dropOwn (s : State) (id : Nat) : State := { s with fab := { s.fab with own := tdel s.fab.own id } }

/-- REQ_TO in ns (R354). -/
def reqTo (s : State) : Nat := rf s Reg.FPT_REQ 13 0 * 1000

/-- A request was turned away with BUSY_RETRY: it is sent again at the time base that the answer names (R343).
DEDUCED: assumption 114. -/
def retryOwn (s : State) (id : Nat) (o : OwnReq) (m : Msg) : State :=
  { s with fab := { s.fab with own := tset s.fab.own id { o with sent := m.arg.toNat - reqTo s } } }

/-- A response with data slots that its opcode does not have is discarded and counted (R347). -/
def badSlots (s : State) (k : Nat) (m : Msg) (n : Nat) (f : State → State) : State :=
  if m.dslots.toNat = n then f s else bump s (Reg.FPT_MALFORMED k) 1

/-- NOTIFY_ACK (R297). -/
def execNotifyAck (port_ : Nat) (msg : Msg) (s : State) : Host.Outcome State Fault Refusal :=
  .next (arriveRsp s port_ msg (fun s => badSlots s port_ msg 0 (fun s =>
    match ownAsked s msg (fun u => u == .notify) with
    | none => s
    | some _ => dropOwn s msg.reqid.toNat)))

/-- A write of a tile is acknowledged (R345, R349): got bytes count. -/
def writeAcked (s : State) (sh tile got : Nat) (poisoned : Bool) : State :=
  updJob s sh (fun j =>
    let j := j.tile tile (fun t => { t with left := t.left - 1, got := t.got + got })
    if poisoned then j.failing sPOISONED 0x0D else j)

/-- WR_ACK (R345, R349). A write that the endpoint did not apply counts no bytes. -/
def execWrAck (port_ : Nat) (msg : Msg) (s : State) : Host.Outcome State Fault Refusal :=
  .next (arriveRsp s port_ msg (fun s => badSlots s port_ msg 0 (fun s =>
    match ownAsked s msg (fun u => match u with
      | .write _ _ => true
      | _ => false) with
    | none => s
    | some o =>
      let id := msg.reqid.toNat
      let st := msg.status.toNat
      match o.use with
      | .write sh tile =>
        if st = sBUSY_RETRY then retryOwn s id o msg
        else writeAcked (dropOwn s id) sh tile (if st ≤ sPOISONED then bits msg.arg.toNat 8 0 else 0) (st == sPOISONED)
      | _ => s)))

/-- Bytes of an endpoint will not come (R354): the tiles that need them end unwritten. -/
def readLost (s : State) (sh : Nat) : State := updJob s sh (fun j => { j.failing sFAULTED 0x05 with lost := true })

/-- READ_DATA (R345, R348). -/
def execReadData (port_ : Nat) (msg : Msg) (s : State) : Host.Outcome State Fault Refusal :=
  .next (arriveRsp s port_ msg (fun s =>
    match ownAsked s msg (fun u => match u with
      | .read _ _ => true
      | _ => false) with
    | none => s
    | some o =>
      let id := msg.reqid.toNat
      let st := msg.status.toNat
      match o.use with
      | .read sh key =>
        let n := bits o.msg.arg.toNat 8 0
        if st = sBUSY_RETRY then retryOwn s id o msg
        else if sPOISONED < st then readLost (dropOwn s id) sh
        else badSlots s port_ msg ((n + 15) / 16) (fun s =>
          updJob (dropOwn s id) sh (fun j => { j with landed := tset j.landed key (msg.poison || st == sPOISONED, slice msg.data 0 n) }))
      | _ => s))

/-- A request of the mirror stream: it stays outstanding while the mirror is lost (R386). -/
def isMirrorUse : OwnUse → Bool
  | .mirrorTile _ _ | .commit _ | .mirror _ | .cfg _ | .roce _ => true
  | .notify | .write _ _ | .read _ _ | .plain => false

/-- The port of a resend: it avoids the port of the attempt before when another is UP (R354). The mirror stream keeps its
port (R380). -/
def resendPort (s : State) (o : OwnReq) : Option Nat :=
  let m := { o.msg with adapt := true }
  if isMirrorUse o.use then some o.port
  else
    let up := (maskList 32 (routeMask s m.dst.toNat)).filter (portUp s)
    match bestPort s m (up.filter (fun k => k != o.port)) with
    | some k => some k
    | none => bestPort s m up

/-- Send a request again. -/
def resendOwn (s : State) (id : Nat) (o : OwnReq) : State :=
  let m := { o.msg with retry := true, adapt := true, hops := BitVec.ofNat 4 (rf s Reg.FPT_GCTL 3 0) }
  let k := resendPort s o
  let o := { o with msg := m, port := k.getD o.port, sent := now s, tries := o.tries + 1 }
  let s := { s with fab := { s.fab with own := tset s.fab.own id o } }
  match k with
  | none => s
  | some k => if s.fab.coord.isNone || inSafe s then s else queueAt s k (fromPort s k m)

/-- A request fails after its retries (R298, R349, R354). DEDUCED: assumption 114. -/
def failOwn (s : State) (id : Nat) (o : OwnReq) : State :=
  let s := dropOwn s id
  match o.use with
  | .notify => report (bump s Reg.SIG_NOTIFY_LOST 1) 0x15 0x05 0 Reg.SIG_NOTIFY_LOST 0 none none
  | .write sh tile => updJob (writeAcked s sh tile 0 false) sh (fun j => j.failing sFAULTED 0x05)
  | .read sh _ => readLost s sh
  | .mirrorTile _ _ | .commit _ | .mirror _ | .cfg _ | .roce _ | .plain => s

/-- REQUEST_TIMEOUT (R354): no response within REQ_TO of the last send. -/
def execRequestTimeout (reqid : Nat) (s : State) : Host.Outcome State Fault Refusal :=
  match tget s.fab.own reqid with
  | none => .next s
  | some o =>
    let s := reach s (o.sent + reqTo s)
    if o.tries < rf s Reg.FPT_REQ 16 14 then .next (resendOwn s reqid o)
    else if isMirrorUse o.use then .next s
    else .next (failOwn s reqid o)

end Sys2Proof.Machine
end

