-- ==== Sys2Proof/Machine/Ownership.lean ====
section
/-!
DEFINITION. The meanings of the mailbox events and of the ownership commands, 0x01xx (R426 to R444).
-/

namespace Sys2Proof.Machine

/-- The network of an Ethernet port (R397). -/
def netOf (port : Nat) : Nat := port / 4

/-- PLN_BOOT.STAGE (R562). -/
def bootStage (s : State) : Nat := rf s Reg.PLN_BOOT 3 0

/-- The identity of a client: the SHA-384 digest of its leaf's subject public key info (R427). -/
def clientIdentity (h : DtlsHello) : List Byte :=
  match h.chain with
  | [] => []
  | c :: _ => (List.range 48).map (Config.sha384 ((List.range 124).map (Config.certificateKey c.der)))

/-- Whether a client's chain is admitted: one to four certificates, leading to a filled anchor slot, and,
once the time base is locked, valid now (R426, R427). DEDUCED: assumption 35. -/
def chainAdmitted (s : State) (h : DtlsHello) : Bool :=
  !h.chain.isEmpty && decide (h.chain.length ≤ 4)
    && s.boot.anchors.any (fun a => Config.chainLeadsTo (h.chain.map (·.der)) a.2)
    && (!s.tb.locked || h.chain.all (fun c => decide (c.notBefore ≤ now s) && decide (now s ≤ c.notAfter)))

/-- The lowest anchor slot that a client's chain leads to. -/
def anchorOf (s : State) (h : DtlsHello) : Nat :=
  ((s.boot.anchors.find? (fun a => Config.chainLeadsTo (h.chain.map (·.der)) a.2)).map (·.1)).getD 0

/-- The lowest slot a new identity may take (R428). -/
def freeSlot (s : State) (ident : List Byte) : Option Nat :=
  (List.range 8).find? (fun k => (session s k).isNone
    && (k != 7 || !twinValid s || ident == s.mbx.witness))

/-- A session opens in recovery mode: it receives FATAL and the open records (R480). -/
def recoveryGreeting (s : State) (slot : Nat) : State :=
  if inSafe s then
    let s := eventTo (some slot) s 0x0041 3 (leBytes 8 (rf s Reg.PLN_SAFE 23 16))
    s.btr.recs.foldl (fun s r => eventTo (some slot) s 0x0040 r.2.severity r.2.toBytes) s
  else s

/-- Events raised while the firmware restarted are sent to the first session that opens, from the event log (R454).
DESIGN CHOICE: assumption 43. -/
def sendUnsent (s : State) (slot : Nat) (as : List AssocRec) : State :=
  match s.boot.unsent with
  | none => s
  | some q =>
    let s := { s with boot := { s.boot with unsent := none } }
    (List.range' (q + 1) (s.boot.plnSeq - q)).foldl (fun s n =>
      let b := peek s (resPpa 0 5 (2 ^ 29 + (n % 262144) * 2048)) 2048
      let d := fun (net : Nat) => leBytes 8 (leAt b 0 8 + 2 ^ 43 * net) ++ (b.drop 8).take (24 + bits (leAt b 0 8) 42 32)
      eventCopy d (eventCopy d s slot 0 as) slot 1 as) s

/-- An admitted association joins its identity's session, replaces that identity's association on its
network, takes the lowest free slot, or is kept for 1 s to be refused (R428). DEDUCED: assumption 36. -/
def joinAssoc (s : State) (port : Nat) (h : DtlsHello) (ident : List Byte) : State :=
  let a : AssocRec := { net := netOf port, port := port, identity := ident, anchor := anchorOf s h, seen := now s }
  match s.mbx.sessions.find? (fun e => e.1 != 8 && e.2.identity == ident) with
  | some (k, se) =>
    sessionChange (setSession s k { se with assocs := se.assocs.filter (fun b => b.net != a.net) ++ [a] }) k
  | none =>
    match freeSlot s ident with
    | some k =>
      let se : Session := { identity := ident, assocs := [a], queue := [], replies := [] }
      recoveryGreeting (sessionChange (sendUnsent (setSession s k se) k [a]) k) k
    | none => { s with mbx := { s.mbx with refusing := s.mbx.refusing ++ [(a, now s + 1000000000)] } }

/-- DTLS_HANDSHAKE (R426 to R428, R555): datagrams to another UDP port are discarded; before sessions are
accepted, or with the link down, nothing answers; an offer without the supported features ends with the
alert handshake_failure and a chain that is not admitted with bad_certificate. DEDUCED: assumption 35. -/
def execDtlsHandshake (hello : DtlsHello) (s : State) : Host.Outcome State Fault Refusal :=
  if bootStage s ≠ 5 ∨ ethUp s hello.port = false then .next s
  else if hello.udp ≠ rf s Reg.MBX_CTL 15 0 then .next (bump s (Reg.ETH_RXDROP hello.port) 1)
  else if !(hello.suite && hello.group && hello.scheme) then
    .next (ethQueue s hello.port 2 (.alert 40) dtlsOverhead)
  else if chainAdmitted s hello then .next (joinAssoc s hello.port hello (clientIdentity hello))
  else .next (bump (ethQueue s hello.port 2 (.alert 42) dtlsOverhead) Reg.MBX_BADCRED 1)

/-- ASSOCIATION_IDLE (R428): the time base reaches IDLE_S after the last datagram. -/
def execAssociationIdle (slot net : Nat) (s : State) : Host.Outcome State Fault Refusal :=
  match session s slot with
  | none => .next s
  | some se => match se.assocs.find? (fun a => a.net == net) with
    | none => .next s
    | some a => .next (endAssoc (reach s (a.seen + rf s Reg.MBX_CTL 23 16 * 1000000000)) slot net)

/-- REFUSING_CLOSE (R428): 1 s after its handshake an association without a slot is closed.
DESIGN CHOICE: assumption 37. -/
def execRefusingClose (net : Nat) (identity : List Byte) (s : State) : Host.Outcome State Fault Refusal :=
  match s.mbx.refusing.find? (fun r => r.1.net == net && r.1.identity == identity) with
  | none => .next s
  | some r =>
    let s := reach s r.2
    .next { s with mbx := { s.mbx with refusing := s.mbx.refusing.filter (fun x => x != r) } }

/-- COMMAND_FRAME (R434): the frame arrives on an association of its session. A slot number from 9 up
names an association without a slot, whose every command is answered REFUSED_CAPACITY (R428). -/
def execCommandFrame (slot net : Nat) (bytes : List Byte) (s : State) : Host.Outcome State Fault Refusal :=
  let s := lapseIfDue s
  if slot < 9 then .next (submit (touchAssoc s slot net) slot bytes)
  else match s.mbx.refusing[slot - 9]? with
    | none => .next s
    | some r =>
      if bytes.length < 16 then .next s
      else
        let w := leAt bytes 0 8
        let f := replyBytes 0xFF (bits w 31 16) (BitVec.ofNat 32 (bits w 63 32)) stREFUSED true []
        .next (ethQueue s r.1.port 2 (.reply 0xFF f) (f.length + dtlsOverhead))

/-- COMMAND_HEAD (R379, R435, R440, R443): the next command of the change queue reaches its head once the
one before it has been answered, no command waits for a fence, and no reply waits for the standby; its right to run is checked there. -/
def execCommandHead (s : State) : Host.Outcome State Fault Refusal :=
  let s := lapseIfDue s
  if s.mbx.current.isSome || !s.xlt.fenceWait.isEmpty || !s.twin.replies.isEmpty then .next s
  else match s.mbx.change with
    | [] => .next s
    | f :: rest =>
      match mayNot s f.slot f.opcode with
      | some (st, b) => .next (reply (dequeue s f.slot f.tag) f.slot f.opcode f.tag st b)
      | none => .next { s with mbx := { s.mbx with change := rest, current := some f } }

/-- LEASE_EXPIRE (R439, R440): the time base reaches EXPIRES and the lease lapses, unless a renewal that came in time still
waits. -/
def execLeaseExpire (s : State) : Host.Outcome State Fault Refusal :=
  match s.mbx.owner with
  | none => .next s
  | some _ => .next (lapseIfDue (reach s s.mbx.expires))

/-- OWN_CLAIM (R438, R444). -/
def execOwnClaim (slot : Nat) (tag : Word32) (leaseMs : Word64) (s : State) : Host.Outcome State Fault Refusal :=
  .next (runCmd slot 0x0101 tag (!within leaseMs 1000 600000) s (fun s =>
    match s.mbx.owner with
    | some k => (s, .done stCONFLICT (leBytes 8 k ++ leBytes 8 s.mbx.expires))
    | none =>
      let s := grantOwner s slot (now s + leaseMs.toNat * 1000000)
      (s, Rep.words [slot, s.mbx.epoch, s.mbx.expires])))

/-- OWN_RENEW (R439, R444): EXPIRES becomes the arrival time plus LEASE_MS; one that arrived at EXPIRES or later returns
NOT_OWNER. -/
def execOwnRenew (slot : Nat) (tag : Word32) (leaseMs : Word64) (s : State) : Host.Outcome State Fault Refusal :=
  let t := arrivalOf s slot tag
  .next (runCmd slot 0x0102 tag (!within leaseMs 1000 600000) s (fun s =>
    let e := t + leaseMs.toNat * 1000000
    if s.mbx.expires ≤ t then (s, .done stNOT_OWNER []) else ({ s with mbx := { s.mbx with expires := e } }, Rep.words [e])))

/-- OWN_RELEASE (R440). -/
def execOwnRelease (slot : Nat) (tag : Word32) (s : State) : Host.Outcome State Fault Refusal :=
  .next (runCmd slot 0x0103 tag false s (fun s => (lapse s, Rep.ok)))

/-- OWN_QUERY (R444). -/
def execOwnQuery (slot : Nat) (tag : Word32) (s : State) : Host.Outcome State Fault Refusal :=
  .next (runCmd slot 0x0104 tag false s (fun s =>
    (s, .done stOK (leBytes 8 (s.mbx.owner.getD 0xFF) ++ leBytes 8 s.mbx.epoch ++ leBytes 8 s.mbx.expires
      ++ ownerDigest s))))

/-- OWN_TRANSFER (R440, R444): the commands of the former owner that still wait return NOT_OWNER, and the
named session owns the module with a new lease. -/
def execOwnTransfer (slot : Nat) (tag : Word32) (target leaseMs : Word64) (s : State) :
    Host.Outcome State Fault Refusal :=
  .next (runCmd slot 0x0105 tag (!within leaseMs 1000 600000 || !atMost target 8) s (fun s =>
    let k := target.toNat
    if k = 8 ∨ k = slot ∨ (session s k).isNone then (s, .done stINVALID [])
    else
      let s := refuseQueued s slot
      let s := grantOwner s k (now s + leaseMs.toNat * 1000000)
      (s, Rep.words [s.mbx.epoch, s.mbx.expires])))

/-- SESSION_LIST (R444): eight entries, each a word as MBX_SLOTs and a digest. -/
def execSessionList (slot : Nat) (tag : Word32) (s : State) : Host.Outcome State Fault Refusal :=
  .next (runCmd slot 0x0106 tag false s (fun s =>
    (s, .done stOK ((List.range 8).flatMap (fun k => leBytes 8 (slotWord s k) ++
      (match session s k with
       | some se => se.identity
       | none => List.replicate 48 0#8))))))

/-- SESSION_CLOSE (R444): a slot that holds no session has nothing to close. DESIGN CHOICE: assumption 37. -/
def execSessionClose (slot : Nat) (tag : Word32) (target : Word64) (s : State) : Host.Outcome State Fault Refusal :=
  .next (runCmd slot 0x0107 tag (!atMost target 7) s (fun s =>
    if target.toNat = slot ∨ (session s target.toNat).isNone then (s, .done stINVALID [])
    else (endSession s target.toNat, Rep.ok)))

/-- MGMT_SET (R444, R459): MGMT_UDP applies to new associations, IDLE_S is 5 to 255. -/
def execMgmtSet (slot : Nat) (tag : Word32) (udp idleS : Word64) (s : State) : Host.Outcome State Fault Refusal :=
  .next (runCmd slot 0x0108 tag (!atMost udp 0xFFFF || !within idleS 5 255) s (fun s =>
    (rputF (rputF s Reg.MBX_CTL 15 0 udp.toNat) Reg.MBX_CTL 23 16 idleS.toNat, Rep.ok)))

end Sys2Proof.Machine
end

