-- ==== Sys2Proof/Machine/SafeState.lean ====
section
/-!
DEFINITION. The reactions of the Buttress (R471, R474, R475, R477, R479): restart of the Mason cores, the
entry of every block into the fatal safe state, and self-refresh with the segment mask (R134, R135,
R137, R164).
-/

namespace Sys2Proof.Machine

/-! ### Self-refresh -/

/-- The extents of die n whose segment the mask leaves out: those that are FREE (R134). -/
def unmaskedExtents (s : State) (n : Nat) : List Nat :=
  (List.range' (480 * n) 480).filter (fun e => (extRec s e).st == exFREE)

/-- Word j of the segment mask of die n (R134, R147). DEDUCED: assumption 159. -/
def pasrWord (s : State) (n j : Nat) : Nat :=
  (List.range 32).foldl (fun v b =>
    let i := 32 * j + b
    if 480 ≤ i ∨ (extRec s (480 * n + i)).st ≠ exFREE then v + 2 ^ b else v) 0

/-- A channel stops for self-refresh or the fatal safe state: its queued writes, already applied to the pool,
are in DRAM, its reads are discarded, and every bank is closed (R137). -/
def Chan.quiesce (k : Chan) : Chan :=
  { k with rq := [], wq := [], held := [], flight := [], rebuild := [], done := [], drain := false, stalled := false
           banks := k.banks.map (fun b => (b.1, { b.2 with row := none, closed := none })), cmds := [], again := none }

/-- The channels of die n stop. -/
def quiesceDie (s : State) (n : Nat) : State :=
  { s with dram := { s.dram with chans := s.dram.chans.map (fun (e : Nat × Chan) =>
    if e.1 / 128 = n then (e.1, Chan.quiesce e.2) else e) } }

/-- The stacks of die n enter self-refresh with the mask as it stands (R135). The seal cache has applied every
delta and written back every line (R164). -/
def enterSelfRefresh (s : State) (n : Nat) : State :=
  let d := sealDie s n
  let d := { d with lines := d.lines.map (fun (e : Nat × SealLine) => (e.1, { e.2 with dirty := none })), deltas := [], waiting := [] }
  setSealDie (quiesceDie s n) n { d with holds := [], selfRefresh := true, unmasked := unmaskedExtents s n }

/-! ### Restarts of the Mason cores -/

/-- PLN_BOOT.STAGE (R562). -/
def setStage (s : State) (st : Nat) : State := rputF s Reg.PLN_BOOT 3 0 st

/-- The Mason cores enter the boot ROM: STAGE and FAIL start over, and PLN_RESET says why (R485, R562). -/
def enterRom (s : State) (cause : Nat) : State :=
  let s := rputF (rputF (rputF s Reg.PLN_BOOT 3 0 1) Reg.PLN_BOOT 7 4 0) Reg.PLN_RESET 2 0 cause
  { s with boot := { s.boot with image := [], loaded := [], offer := none, block := 0, unsent := some s.boot.plnSeq }
           bus := { s.bus with held := false, reserved := [] } }

/-- The restart of FW_ACTIVATE and of the watchdog (R454, R477): ownership lapses, every session closes, and
the cores restart from the boot ROM. Deferred commands run on. -/
def masonRestart (s : State) (cause : Nat) : State :=
  let s := endAllSessions (lapse s)
  enterRom { s with mbx := { s.mbx with refusing := [] } } cause

/-! ### The fatal safe state -/

/-- FATAL_N is driven low while SAFE is 1 (R540). -/
def fatalPin (s : State) : State := emit s (.pin 0 false)

/-- A port that is UP sends 16 FENCE flits and falls silent; no port accepts anything more (R337, R479).
DEDUCED: assumption 135. -/
def fencePort (s : State) (k : Nat) : State :=
  let p := port s k
  let s := if p.st = .up then (List.range 16).foldl (fun s _ => emitFlit s k 3 0 0 []) s else s
  let p := port s k
  setPort s k { p with st := if p.st = .disabled then .disabled else .fenced, txq := [], txPart := [], rxPart := []
                       retry := [], ask := none, oper := none, trainDue := none, ackDue := none }

/-- The entry into the fatal safe state (R479): the Plinth's note, the sessions gone with the cores, the ports
fenced, the queue pairs in ERROR, and every die in self-refresh. What had not reached a channel is
discarded; descriptors stay as they stand and nothing advances them. DEDUCED: assumption 135. -/
def fatalEntry (s : State) (slot cls unit : Nat) : State :=
  if inSafe s then s
  else
    let s := rput s Reg.PLN_SAFE (1 + 2 * slot + 2 ^ 16 * cls + 2 ^ 24 * unit)
    let s := fatalPin (rput64 s Reg.PLN_SAFE_TIME_LO (now s))
    let m := { s.mbx with sessions := [], refusing := [], change := [], current := none, deferred := [], owner := none }
    let s := { s with bus := { s.bus with held := true, reserved := [] }, mbx := { m with unread := [], readIdx := 0 } }
    let s := (List.range 32).foldl fencePort s
    let q := s.eth.qps.map (fun e => (e.1, { e.2 with error := true, reads := [], waiting := [], writing := none }))
    let s := { s with eth := { s.eth with qps := q } }
    let s := { s with fab := { s.fab with own := [], inProgress := [] } }
    (List.range 6).foldl enterSelfRefresh s

/-- What an error does besides its record (R471): a fatal one, primary or secondary, starts the fatal safe
state; FW_WATCHDOG restarts the cores. Tracking after ECC_CE is a step of its own (TRACKING_TRIGGER). -/
def react (s : State) (e : ErrIn) (slot : Nat) : State :=
  if btrSeverity e.cls = some 3 then fatalEntry s slot e.cls e.unit
  else if e.cls = 0x16 then masonRestart s 3
  else s

/-- Record an error and carry out its reaction (R470 to R479). -/
def btrError (s : State) (e : ErrIn) (inj : Bool) : State :=
  let (s, slot) := btrRecord s e inj
  react s e slot

/-- A fatal error of a unit. -/
def fatal (s : State) (cls unit inst location : Nat) : State :=
  btrError s { cls := cls, unit := unit, inst := inst, location := location, detail := 0, tenant := none, during := none } false

end Sys2Proof.Machine
end

