-- ==== Sys2Proof/Machine/Boot.lean ====
section
/-!
DEFINITION. The boot ROM, the recovery load, firmware, anchors and attestation (R452 to R454, R502 to R506, R550 to R561).
-/

namespace Sys2Proof.Machine

/-- Replace the boot state. -/
def setBoot (s : State) (b : Boot) : State := { s with boot := b }

/-! ### Firmware images (R503, R552, R553, R557) -/

/-- The largest image (R550, R552). -/
def imageMax : Nat := 66060288

/-- Fields of an image header (R552). -/
def imgSize (b : List Byte) : Nat := leAt b 0x10 8
def imgRes (b : List Byte) : Nat := leAt b 0x18 4
def imgSvn (b : List Byte) : Nat := leAt b 0x20 4
def imgAdvance (b : List Byte) : Nat := leAt b 0x24 4
def imgRevoke (b : List Byte) : Nat := leAt b 0x28 4 % 16
def imgVersion (b : List Byte) : Nat := leAt b 0x2C 4
def imgKey (b : List Byte) : List Byte := slice b 0x40 124
def imgSignature (b : List Byte) : List Byte := slice b 0xC0 96

/-- Check 1: the header is readable and its sizes keep R552. -/
def headerGood (b : List Byte) : Bool :=
  decide (4096 ≤ b.length) && slice b 0 8 == ascii "HYONEFW1" && leAt b 8 4 == 1 && decide (4096 ≤ imgSize b)
    && decide (imgSize b ≤ imageMax) && imgRes b % 8 == 0 && decide (imgRes b ≤ 1572864) && decide (imgRes b + 4096 ≤ imgSize b)

/-- Check 2: the lowest slot that is not revoked and whose KEYDIG is the digest of the image's key. -/
def keySlot (s : State) (b : List Byte) : Option Nat :=
  (List.range 4).find? (fun k => !bit s.boot.revoked k
    && (List.range 48).all (fun j => Config.keyDigest k j == Config.sha384 (imgKey b) j))

/-- Check 5: the signature verifies over the image with SIGNATURE taken as zero (R552). -/
def signed (b : List Byte) : Bool :=
  Config.signatureGood (imgKey b) (b.take 0xC0 ++ List.replicate 96 0#8 ++ b.drop 0x120) (imgSignature b)

/-- The first of checks 1 to 4 that an image fails, by its FAIL code (R557). short: fewer bytes came than IMAGE_SIZE. -/
def imageFault (s : State) (b : List Byte) : Option Nat :=
  if !headerGood b then some 1
  else if (keySlot s b).isNone then some 2
  else if imgSvn b < s.boot.svn then some 3
  else if b.length < imgSize b then some 4
  else none

/-- The ROM returns to its networks for an image (R557, R558, R560): FAIL says why. A failed recovery load counts in
ATTEMPTS. -/
def recoveryWait (s : State) (fail : Nat) (attempt : Bool) : State :=
  let a := rf s Reg.PLN_BOOT 15 8
  let s := rputF (rputF (rputF s Reg.PLN_BOOT 3 0 6) Reg.PLN_BOOT 7 4 fail) Reg.PLN_BOOT 15 8 (if attempt then min (a + 1) 255 else a)
  let b := { s.boot with offer := none, loaded := [], block := 0, image := [], fromRecovery := false, helloAt := now s }
  let b := if attempt then b else { b with recPort := [(0, 0), (1, 4)], recSince := [(0, now s), (1, now s)] }
  rputF { s with boot := b, bus := { s.bus with sram := [] } } Reg.SEC_BOOT 3 3 0

/-- The image mover places an image (R553): the resident part in SRAM, the rest as whole pages in reserved extent 6 of die 0,
or nowhere while the stacks of die 0 are in self-refresh. What fills the last page is left open. -/
def moveImage (s : State) (b : List Byte) : State :=
  let body := (b.take (imgSize b)).drop 4096
  let away := (sealDie s 0).selfRefresh
  let s := { s with bus := { s.bus with sram := memWrite [] 0 (body.take (imgRes b)) } }
  let s := rputF s Reg.PLN_BOOT 22 22 (b2n away)
  let rest := body.drop (imgRes b)
  if away || rest.isEmpty then s
  else
    let (pad, s) := freeBytes s ((4096 - rest.length % 4096) % 4096)
    (store s (resPpa 0 6 (2 ^ 29)) (rest ++ pad)).2

/-- The mover has an image: it is placed and waits for its signature, or is refused. DESIGN CHOICE: assumption 143. -/
def takeImage (s : State) (b : List Byte) (recovery : Bool) : State :=
  let fault := match imageFault s b with
    | some f => some (if recovery && f == 4 then 1 else f)
    | none => if recovery && imgSize b != b.length then some 1 else none
  match fault with
  | some f => recoveryWait s f recovery
  | none =>
    let s := moveImage s b
    setStage (setBoot s { s.boot with image := b.take (imgSize b), fromRecovery := recovery }) 3

/-- IMAGE_READ_DONE (R553, R554, R557): the mover has read the flash; image is what the flash was shipped with, which FW_COMMIT
may have replaced or erased. The boot ROM waits for the stack training. -/
def execImageReadDone (image : List Byte) (s : State) : Host.Outcome State Fault Refusal :=
  if bootStage s ≠ 1 ∨ s.dram.trained = false then .next s
  else match s.boot.flash with
    | .shipped => .next (takeImage s image false)
    | .erased => .next (takeImage s [] false)
    | .written b => .next (takeImage s b false)

/-- Burn the fuses that an accepted image asks for; a header that names its own slot is ignored (R504).
DEDUCED: assumption 141. DEDUCED: assumption 142. -/
def burnFuses (s : State) (b : List Byte) (k : Nat) : State :=
  if bit (imgRevoke b) k then s
  else setBoot s { s.boot with revoked := s.boot.revoked ||| imgRevoke b, svn := max s.boot.svn (min (imgAdvance b) 64) }

/-- Store the words of measurement m (R511). -/
def putMeasurement (s : State) (m : Nat) (data : List Byte) : State :=
  (List.range 12).foldl (fun s w =>
    rput s (Reg.SEC_MEAS (m - 1) w) (leNat ((List.range 4).map (fun j => Config.measurement m data (4 * w + j))))) s

/-- The anchors of the copy with the higher generation (R551). -/
def storedAnchors (b : Boot) : Tab (List Byte) :=
  match tget b.copies 0, tget b.copies 1 with
  | some x, some y => if x.1 < y.1 then y.2 else x.2
  | some x, none => x.2
  | none, some y => y.2
  | none, none => []

/-- IMAGE_VERIFY_DONE (R503 to R506, R554, R557, R561): the signature fails, or the fuses are burned, the measurements fixed,
and the firmware starts: after power-on or a wake it zeroes the reserved extents 0 to 5 and 7. STAGE passes through INIT.
DEDUCED: assumption 144. -/
def execImageVerifyDone (s : State) : Host.Outcome State Fault Refusal :=
  if bootStage s ≠ 3 then .next s
  else
    let b := s.boot.image
    let rec_ := s.boot.fromRecovery
    if !signed b then .next (recoveryWait s 5 rec_)
    else
      let k := (keySlot s b).getD 0
      let s := burnFuses s b k
      let sec := k + 4 * b2n rec_ + 8 + 16 * s.boot.revoked + 2 ^ 8 * s.boot.svn + 2 ^ 16 * (imgSvn b % 256)
      let s := rput s Reg.SEC_BOOT sec
      let s := putMeasurement (putMeasurement s 2 b) 3 ([BitVec.ofNat 8 k, BitVec.ofNat 8 (b2n rec_)] ++ leBytes 4 (imgSvn b))
      let s := setBoot s { s.boot with version := imgVersion b, anchors := storedAnchors s.boot, image := [], loaded := [] }
      let s := { s with btr := { s.btr with wdog := now s } }
      let es := (List.range 6).flatMap (fun n => [0, 1, 2, 3, 4, 5, 7].map (fun j => 480 * n + j))
      let s := if rf s Reg.PLN_RESET 2 0 ≤ 1 then es.foldl zeroExtent s else s
      .next (setStage s 5)

/-- D2D_START_FAIL (R556): a die-to-die link or the PLLs of a die fail at start-up; only the SMBus of R548 and JTAG answer
from here on. -/
def execD2dStartFail (dies : Nat) (s : State) : Host.Outcome State Fault Refusal :=
  if bootStage s ≠ 1 ∨ s.dram.trained = true ∨ dies % 64 = 0 then .next s
  else .next (setStage (rputF (rputF s Reg.PLN_BOOT 7 4 6) Reg.PLN_BOOT 21 16 dies) 8)

/-! ### The recovery load (R558 to R560) -/

/-- The port that the recovery load uses on a network. -/
def recoveryPort (s : State) (net : Nat) : Nat := tgetD s.boot.recPort net (4 * net)

/-- Bytes that MAC, IPv6 and UDP add to a datagram, the FCS included. -/
def udpOverhead : Nat := 66

/-- RECOVERY_HELLO (R558). -/
def helloBytes (s : State) : List Byte :=
  leBytes 4 1 ++ leBytes 4 (rf s Reg.PLN_BOOT 7 4) ++ padTo 16 (ascii "LGN-HC2880 B1") ++ leBytes 8 s.boot.bootId.toNat
    ++ (List.range 12).flatMap (fun w => leBytes 4 (rg s (Reg.SEC_MARK w)))
    ++ leBytes 4 (s.boot.svn + 2 ^ 8 * s.boot.revoked) ++ leBytes 4 (rf s Reg.PLN_BOOT 15 8)

/-- RECOVERY_HELLO_TIMER (R558): 1 s after the last one a hello leaves on each port in use that is UP. -/
def execRecoveryHelloTimer (s : State) : Host.Outcome State Fault Refusal :=
  if bootStage s ≠ 6 then .next s
  else
    let s := reach s (s.boot.helloAt + 1000000000)
    let s := setBoot s { s.boot with helloAt := now s }
    .next ([0, 1].foldl (fun s n =>
      let k := recoveryPort s n
      if ethUp s k then ethQueue s k 2 (.hello (helloBytes s)) (88 + udpOverhead) else s) s)

/-- RECOVERY_PORT_TIMEOUT (R558): a port that is not UP within 2 s gives way to the next one of its network. -/
def execRecoveryPortTimeout (net : Nat) (s : State) : Host.Outcome State Fault Refusal :=
  let k := recoveryPort s net
  match tget s.boot.recSince net with
  | none => .next s
  | some t =>
    if 2 ≤ net ∨ (bootStage s ≠ 6 ∧ bootStage s ≠ 7) ∨ ethUp s k = true then .next s
    else
      let s := reach s (t + 2000000000)
      let b := { s.boot with recPort := tset s.boot.recPort net (4 * net + (k + 1) % 4) }
      .next (setBoot s { b with recSince := tset b.recSince net (now s) })

/-- Send a TFTP message to the server of the load: 1 a read request, 4 an acknowledgement (R559). -/
def sendTftp (s : State) (kind block : Nat) : State :=
  match s.boot.offer with
  | none => s
  | some (net, _, _, name) =>
    let k := recoveryPort s net
    let len := if kind = 1 then 36 + name.length else 4
    if ethUp s k then ethQueue s k 2 (.tftp kind block name) (len + udpOverhead) else s

/-- RECOVERY_OFFER (R559): the first valid offer is taken. DESIGN CHOICE: assumption 145. -/
def execRecoveryOffer (net version : Nat) (bootid : Word64) (size server : Nat) (name : List Byte) (s : State) :
    Host.Outcome State Fault Refusal :=
  let good := decide (net < 2) && version == 1 && bootid == s.boot.bootId && decide (4096 ≤ size) && decide (size ≤ imageMax)
    && decide (1 ≤ name.length) && decide (name.length ≤ 64) && name.all (fun c => decide (c.toNat < 128))
  if bootStage s ≠ 6 ∨ good = false ∨ ethUp s (recoveryPort s net) = false then .next s
  else
    let s := setBoot s { s.boot with offer := some (net, server, size, name), loaded := [], block := 0, lastData := now s }
    .next (sendTftp (setStage s 7) 1 0)

/-- The first of checks 1 to 3 that the header fails, once it has come whole: they need nothing of the body (R557).
DESIGN CHOICE: assumption 145. -/
def headFault (s : State) (b : List Byte) : Option Nat :=
  if b.length < 4096 then none else (imageFault s b).filter (fun f => decide (f < 4))

/-- TFTP_DATA (R557, R559, R560): blocks of 1,432 B in order, acknowledged at the end of each window of 16; a header that fails
its checks ends the load, and so does a short block, which fails it when it brought another size than IMAGE_SIZE. A block out
of order is answered with the last one in order. DESIGN CHOICE: assumption 145. -/
def execTftpData (block : Nat) (data : List Byte) (s : State) : Host.Outcome State Fault Refusal :=
  match s.boot.offer with
  | none => .next s
  | some (net, _, size, _) =>
    if bootStage s ≠ 7 ∨ 1432 < data.length ∨ ethUp s (recoveryPort s net) = false then .next s
    else if block ≠ (s.boot.block + 1) % 65536 then .next (sendTftp s 4 (s.boot.block % 65536))
    else
      let n := s.boot.block + 1
      let all := s.boot.loaded ++ data
      let s := setBoot s { s.boot with loaded := all, block := n, lastData := now s }
      if let some f := headFault s all then .next (recoveryWait s f true)
      else if data.length = 1432 then .next (if n % 16 = 0 then sendTftp s 4 (n % 65536) else s)
      else
        let s := sendTftp s 4 (n % 65536)
        if all.length ≠ size then .next (recoveryWait s 7 true) else .next (takeImage s all true)

/-- TRANSFER_STALL (R560): a transfer has stopped for 5 s. -/
def execTransferStall (s : State) : Host.Outcome State Fault Refusal :=
  if bootStage s ≠ 7 then .next s else .next (recoveryWait (reach s (s.boot.lastData + 5000000000)) 7 true)

/-! ### Firmware commands (R452 to R454) -/

/-- The staged image or its verification is under deferred work (R433). DEDUCED: assumption 140. -/
def fwBusy (s : State) : Bool := s.boot.verifying.isSome || s.boot.committing.isSome

/-- The staged bytes: the staging area is the first 64 MiB of reserved extent 6 of die 0. DEDUCED: assumption 140. -/
def stagedBytes (s : State) (n : Nat) : List Byte × State :=
  let (b, _, s) := load s (resPpa 0 6 0) n
  (b, s)

/-- FW_STAGE (R452). -/
def execFwStage (slot : Nat) (tag : Word32) (offset : Word64) (data : List Byte) (s : State) : Host.Outcome State Fault Refusal :=
  let bad := decide (67108864 < offset.toNat + data.length)
  .next (runCmd slot 0x0702 tag bad s (fun s =>
    if fwBusy s then (s, .done stBUSY [])
    else
      let s := if data.isEmpty then s else (store s (resPpa 0 6 offset.toNat) data).2
      (setBoot s { s.boot with verified := none }, Rep.ok)))

/-- FW_VERIFY (R452, R550). -/
def execFwVerify (slot : Nat) (tag : Word32) (size : Word64) (s : State) : Host.Outcome State Fault Refusal :=
  .next (runCmd slot 0x0703 tag (!atMost size imageMax) s (fun s =>
    if fwBusy s then (s, .done stBUSY [])
    else (setBoot s { s.boot with verifying := some size.toNat, verified := none }, .defer [] .fwVerify)))

/-- FW_VERIFY_DONE (R452, R503): OK, or BAD_CREDENTIAL for an image that the boot ROM would refuse. -/
def execFwVerifyDone (s : State) : Host.Outcome State Fault Refusal :=
  match s.boot.verifying with
  | none => .next s
  | some n =>
    let (b, s) := stagedBytes s n
    let ok := (imageFault s b).isNone && imgSize b == n && signed b
    let s := setBoot s { s.boot with verifying := none, verified := if ok then some n else none }
    .next (finishAll s (fun w => w == .fwVerify) (if ok then stOK else stBADCRED) [])

/-- FW_COMMIT (R453): from here to the final reply the flash holds no valid image. -/
def execFwCommit (slot : Nat) (tag : Word32) (s : State) : Host.Outcome State Fault Refusal :=
  .next (runCmd slot 0x0704 tag false s (fun s =>
    if fwBusy s then (s, .done stBUSY [])
    else match s.boot.verified with
      | none => (s, .done stCONFLICT [])
      | some n => (setBoot s { s.boot with committing := some n, flash := .erased }, .defer [] .fwCommit)))

/-- FW_COMMIT_DONE (R453). -/
def execFwCommitDone (s : State) : Host.Outcome State Fault Refusal :=
  match s.boot.committing with
  | none => .next s
  | some n =>
    let (b, s) := stagedBytes s n
    .next (finishAll (setBoot s { s.boot with committing := none, flash := .written b }) (fun w => w == .fwCommit) stOK [])

/-- FW_ACTIVATE (R440, R454): the reply OK leaves, and the cores restart from the boot ROM. -/
def execFwActivate (slot : Nat) (tag : Word32) (s : State) : Host.Outcome State Fault Refusal :=
  let go := (mayNot (lapseIfDue s) slot 0x0705).isNone
  let s := runCmd slot 0x0705 tag false s (fun s => (s, Rep.ok))
  if go then .next (masonRestart s 2) else .next s

/-! ### Anchors, identity and attestation (R452, R502, R506, R551) -/

/-- The digest of the subject public key info of a certificate. -/
def anchorDigest (der : List Byte) : List Byte :=
  (List.range 48).map (Config.sha384 ((List.range 124).map (Config.certificateKey der)))

/-- The four digests of ANCHOR_QUERY. -/
def anchorDigests (s : State) : List Byte :=
  (List.range 4).flatMap (fun k => match tget s.boot.anchors k with
    | some c => anchorDigest c
    | none => List.replicate 48 0#8)

/-- Change the anchors: the copy of the lower generation is written, with a generation one above the other's (R551).
DESIGN CHOICE: assumption 143. -/
def saveAnchors (s : State) (a : Tab (List Byte)) : State :=
  let g := fun c => match tget s.boot.copies c with
    | some x => x.1 + 1
    | none => 0
  let c := if g 1 < g 0 then 1 else 0
  setBoot s { s.boot with anchors := a, copies := tset s.boot.copies c (max (g 0) (g 1), a) }

/-- ANCHOR_SET (R452, R551): an empty certificate clears the slot, unless it is the anchor of the owner's own chain.
DEDUCED: assumption 146. -/
def execAnchorSet (slot : Nat) (tag : Word32) (anchor : Word64) (cert : List Byte) (s : State) : Host.Outcome State Fault Refusal :=
  .next (runCmd slot 0x0707 tag (!atMost anchor 3) s (fun s =>
    let k := anchor.toNat
    let own := match session s slot with
      | some se => se.assocs.any (fun a => a.anchor == k)
      | none => false
    if cert.isEmpty then
      if own then (s, .done stCONFLICT []) else (saveAnchors s (tdel s.boot.anchors k), Rep.ok)
    else (saveAnchors s (tset s.boot.anchors k cert), Rep.ok)))

/-- ANCHOR_QUERY (R452). -/
def execAnchorQuery (slot : Nat) (tag : Word32) (s : State) : Host.Outcome State Fault Refusal :=
  .next (runCmd slot 0x0708 tag false s (fun s => (s, .done stOK (anchorDigests s))))

/-- IDENTITY (R1, R452). -/
def execIdentity (slot : Nat) (tag : Word32) (s : State) : Host.Outcome State Fault Refusal :=
  .next (runCmd slot 0x0701 tag false s (fun s =>
    (s, .done stOK (padTo 16 (ascii "LGN-HC2880") ++ padTo 8 (ascii "B1") ++ leBytes 8 s.boot.version
      ++ (List.range 12).flatMap (fun w => leBytes 4 (rg s (Reg.SEC_MARK w))) ++ leBytes 8 s.boot.bootId.toNat))))

/-- What the six measurements are taken over, or hold (R506): those that change while the firmware runs are taken now. -/
def measured (s : State) (m : Nat) : List Byte :=
  if m = 4 then (List.range 4).flatMap (fun k => (List.range 48).map (Config.keyDigest k)) ++ leBytes 1 s.boot.revoked ++ leBytes 8 s.boot.svn
  else if m = 5 then anchorDigests s
  else if m = 6 then s.mbx.lastOwner ++ leBytes 4 s.mbx.epoch
  else []

/-- Word w of measurement m, 1 to 6, as SEC_MEAS shows it (R506, R511): 0 until an image has been accepted. -/
def measurementWord (s : State) (m w : Nat) : Nat :=
  if m = 2 ∨ m = 3 then rg s (Reg.SEC_MEAS (m - 1) w)
  else if rf s Reg.SEC_BOOT 3 3 = 0 then 0
  else leNat ((List.range 4).map (fun j => Config.measurement m (measured s m) (4 * w + j)))

/-- The requests that the module answers, with their responses: GET_VERSION, GET_CAPABILITIES, NEGOTIATE_ALGORITHMS,
GET_DIGESTS, GET_CERTIFICATE, CHALLENGE and GET_MEASUREMENTS (R506; the codes are those of DMTF SPDM 1.3).
PRESUMED: assumption 139. -/
def spdmCodes : List (Nat × Nat) :=
  [(0x84, 0x04), (0xE1, 0x61), (0xE3, 0x63), (0x81, 0x01), (0x82, 0x02), (0x83, 0x03), (0xE0, 0x60)]

/-- SPDM (R506): the response to one request; any other request gets the error UnsupportedRequest. What follows the header
is fixed by SPDM, outside this spec. PRESUMED: assumption 139. -/
def execSpdm (slot : Nat) (tag : Word32) (request : List Byte) (s : State) : Host.Outcome State Fault Refusal :=
  .next (runCmd slot 0x0706 tag false s (fun s =>
    let code := leAt request 1 1
    let ms := (List.range' 1 6).flatMap (fun m => (List.range 12).flatMap (fun w => leBytes 4 (measurementWord s m w)))
    match tget spdmCodes code with
    | some r =>
      let v := if r = 4 then 0x10 else 0x13
      (s, .done stOK ((leBytes 1 v ++ leBytes 1 r ++ Config.spdmBody request ms).take 4096))
    | none => (s, .done stOK (leBytes 1 0x13 ++ leBytes 1 0x7F ++ leBytes 1 0x07 ++ leBytes 1 code))))

end Sys2Proof.Machine
end

