-- ==== Sys2Proof/Machine/Power.lean ====
section
/-!
DEFINITION. Power, supplies, thermal limits and clocks: the samples of PWR52, the limiters and the activity cap, the
plate load, ride-through, pool-hold and standby (R512 to R536), and the resets (R468, R469, R535).
-/

namespace Sys2Proof.Machine

/-! ### The governor -/

/-- Replace the power state. DESIGN CHOICE: assumption 149. -/
def setPwr (s : State) (p : Power) : State := { s with pwr := p }

/-- Ride-through: PWR_STAT.RIDE. -/
def inRide (s : State) : Bool := rf s Reg.PWR_STAT 4 4 == 1

/-- The shelf is on battery (R526). -/
def onBattery (s : State) : Bool := rf s Reg.PWR_SHELF 1 0 == 2

/-- The sustained limit in mW (R518, R526). -/
def sustMw (s : State) : Nat :=
  let w := rf s Reg.PWR_LIMIT 11 0
  1000 * (if onBattery s then min w (rf s Reg.PWR_SHELF 13 2) else w)

/-- The peak is permitted: PEAK_EN, the plate load, no ride-through, and no battery (R518, R522). -/
def peakNow (s : State) : Bool := rf s Reg.PWR_LIMIT 12 12 == 1 && s.pwr.armed && !inRide s && !onBattery s

/-- The limit in force, in mW (R518, R521, R527). -/
def limitMw (s : State) : Nat :=
  if inRide s then 1000 * rf s Reg.PWR_RIDE 11 0
  else if peakNow s then 2600000
  else max (s.pwr.ramp.getD 0) (sustMw s)

/-- The mean of the samples of the last 100 µs, in mW (R518). -/
def inputMw (p : Power) : Nat := p.samples.foldl (· + ·) 0 / max p.samples.length 1

/-- The sensors with their dies: 8 on each voussoir die and 16 on the keystone die, which is die 6 (R528).
DESIGN CHOICE: assumption 151. -/
def sensorDie (i : Nat) : Nat := min (i / 8) 6

/-- The hottest of a table of temperatures, with its number. -/
def hottest (t : Tab Nat) : Nat × Nat := t.foldl (fun b e => if b.1 < e.2 then (e.2, e.1) else b) (0, 0)

/-- The event POWER (R536), with MIC source 79. DEDUCED: assumption 23. -/
def powerEvent (s : State) (cause : Nat) : State :=
  micLevel (eventW s 0x0050 1 [cause, rf s Reg.PWR_INPUT 15 0, rf s Reg.PWR_LOAD 15 0, (hottest s.pwr.junction).1]) 79 true

/-- The cap, the limiters that hold it below 64, and the peak, as PWR_STAT shows them (R520, R537); the ramp starts when
the peak is withdrawn, unless ride-through or the battery took it away (R521, R527); CAP_END is sent when A returns to 64
after a thermal cause (R536). DESIGN CHOICE: assumption 149. DEDUCED: assumption 150. -/
def govern (s : State) : State :=
  let p := s.pwr
  let p := if p.capPower = 64 then { p with fastHeld := false, rideHeld := false } else p
  let peak := peakNow s
  let fell := rf s Reg.PWR_STAT 5 5 == 1 && !peak && !inRide s && !onBattery s
  let p := { p with ramp := if fell then some 2600000 else if peak || inRide s || onBattery s then none else p.ramp }
  let a := min p.capPower (min p.capJunction p.capStack)
  let held := p.capPower < 64
  let lims := b2n (p.fastHeld && held) + 2 * b2n held + 4 * b2n (decide (p.capJunction < 64)) + 8 * b2n (decide (p.capStack < 64))
    + 16 * b2n (p.rideHeld && held) + 32 * b2n (held && onBattery s)
  let s := rputF (rputF (rputF (setPwr s p) Reg.PWR_STAT 13 8 (a % 64)) Reg.PWR_STAT 19 14 lims) Reg.PWR_STAT 5 5 (b2n peak)
  if a = 64 ∧ p.thermalCap = true then powerEvent (setPwr s { s.pwr with thermalCap := false }) 7 else s

/-- Time since which a voltage condition holds. DESIGN CHOICE: assumption 90. DEDUCED: assumption 148. -/
def since (s : State) (cond : Bool) (t : Option Nat) : Option Nat := if cond then some (t.getD (now s)) else none

/-- POWER_SAMPLE (R518, R520): 10 µs after the last one; input power is the mean of ten, energy and the time under a cap
are counted, and the fast limiter acts on a sample above 2,800 W. DEDUCED: assumption 147. -/
def execPowerSample (milliVolts milliAmps : Nat) (s : State) : Host.Outcome State Fault Refusal :=
  let s := reach s (s.pwr.sampledAt + 10000)
  let mw := milliVolts * milliAmps / 1000
  let p := s.pwr
  let e := p.energy + mw
  let fast := decide (2800000 < mw)
  let p := { p with samples := (mw :: p.samples).take 10, sampledAt := now s, current := milliAmps, energy := e % 100000 }
  let p := { p with accW := p.accW + mw, accN := p.accN + 1, belowSince := since s (decide (milliVolts < 44000)) p.belowSince }
  let p := { p with below40 := since s (decide (milliVolts < 40000)) p.below40, aboveSince := since s (decide (45000 ≤ milliVolts)) p.aboveSince }
  let p := { p with capPower := if fast then min p.capPower 32 else p.capPower, fastHeld := p.fastHeld || fast }
  let s := bump64 (setPwr s p) Reg.PWR_ENERGY_LO (e / 100000)
  let s := if capA s < 64 then bump s Reg.PWR_THROTTLE 10 else s
  let s := rput s Reg.PWR_INPUT (min (inputMw p / 1000) 65535 + 2 ^ 16 * min (milliVolts / 100) 4095)
  .next (govern (rputF s Reg.PWR_STAT 2 2 (b2n (decide (44000 ≤ milliVolts)))))

/-- A thermal limiter starts at its threshold and lowers until 2 °C below it (R520). -/
def heat (hot : Bool) (t threshold : Nat) : Bool := decide (threshold ≤ t) || (hot && decide (threshold < t + 2))

/-- The junction limiter looks at the hottest junction (R520, R536, R545). -/
def watchJunction (s : State) : State :=
  let (t, _) := hottest s.pwr.junction
  let hot := heat s.pwr.junctionHot t (rf s Reg.PWR_THERM 7 0)
  let first := hot && !s.pwr.junctionHot
  let s := setPwr s { s.pwr with junctionHot := hot, thermalCap := s.pwr.thermalCap || first }
  let s := if decide (rf s Reg.PWR_THERM 7 0 ≤ t) then { s with brd := { s.brd with statusTemp := setBit s.brd.statusTemp 0 true } } else s
  if first then powerEvent s 3 else s

/-- The stack limiter looks at the hottest stack. -/
def watchStacks (s : State) : State :=
  let (t, _) := hottest s.pwr.stackTemp
  let hot := heat s.pwr.stackHot t (rf s Reg.PWR_THERM 15 8)
  let first := hot && !s.pwr.stackHot
  let s := setPwr s { s.pwr with stackHot := hot, thermalCap := s.pwr.thermalCap || first }
  if first then powerEvent s 4 else s

/-- JUNCTION_SENSOR_READ (R528): J_HOT and J_DIE are those of the hottest sensor, the lowest one among equals. -/
def execJunctionSensorRead (sensor celsius : Nat) (s : State) : Host.Outcome State Fault Refusal :=
  if 64 ≤ sensor then .next s
  else
    let s := setPwr s { s.pwr with junction := tset s.pwr.junction sensor celsius }
    let (t, i) := hottest s.pwr.junction
    .next (govern (watchJunction (rputF (rputF s Reg.PWR_THERM 23 16 (min t 255)) Reg.PWR_THERM 26 24 (sensorDie i))))

/-- One limiter's cap at a tick: lowered by 4, raised by 1 when 1 ms has passed since it last changed, or as it is; and when
it last changed. DEDUCED: assumption 150. -/
def stepCap (t cap last : Nat) (lower raise : Bool) : Nat × Nat :=
  if lower then (max 1 (cap - 4), t)
  else if raise && decide (cap < 64) then (if last + 1000000 ≤ t then (cap + 1, t) else (cap, last))
  else (cap, t)

/-- LIMITER_TICK (R520, R521): every 100 µs the power, junction and stack limiters lower their caps, or every 1 ms raise them;
the ramp falls at 300 W/s. DEDUCED: assumption 148. -/
def execLimiterTick (s : State) : Host.Outcome State Fault Refusal :=
  let s := watchStacks (watchJunction (reach s (s.pwr.tickAt + 100000)))
  let t := now s
  let lower := match s.pwr.ramp with
    | some r => if r ≤ sustMw s + 30 then none else some (r - 30)
    | none => none
  let s := setPwr s { s.pwr with ramp := lower, tickAt := t }
  let lim := limitMw s
  let w := inputMw s.pwr
  let p := s.pwr
  let (cp, tp) := stepCap t p.capPower p.powerAt (decide (lim < w)) (decide (w + 50000 < lim))
  let (cj, tj) := stepCap t p.capJunction p.junctionAt p.junctionHot true
  let (cs, ts) := stepCap t p.capStack p.stackAt p.stackHot true
  .next (govern (setPwr s { p with capPower := cp, powerAt := tp, capJunction := cj, junctionAt := tj, capStack := cs, stackAt := ts }))

/-- PLATE_MODEL_UPDATE (R522): L takes its first value 10 ms after the rails come up; then every 1 ms it moves by a part
1 ms / TAU towards the mean input power. At L_LIM the peak is withdrawn until L_REARM. DEDUCED: assumption 147. -/
def execPlateModelUpdate (s : State) : Host.Outcome State Fault Refusal :=
  let p := s.pwr
  if rf s Reg.PWR_STAT 3 3 = 0 then .next s
  else
    let s := reach s (if p.loadInit then p.loadAt + 1000000 else p.railsAt + 10000000)
    let uw := 1000 * (if p.loadInit then p.accW / max p.accN 1 else inputMw p)
    let tau := 10 * max (rf s Reg.PWR_MODEL_TAU 15 0) 1
    let l := if p.loadInit then ((p.load : Int) + ((uw : Int) - (p.load : Int)) / (tau : Int)).toNat else uw
    let lim := l / 100000 ≥ rf s Reg.PWR_MODEL_LIM 15 0
    let armed := if lim then false else p.armed || decide (l / 100000 ≤ rf s Reg.PWR_MODEL_LIM 31 16)
    let p := { p with load := l, loadInit := true, loadAt := now s, accW := 0, accN := 0 }
    let s := rputF (setPwr s { p with armed := armed }) Reg.PWR_LOAD 15 0 (min (l / 100000) 65535)
    if lim ∧ p.armed = true then .next (powerEvent (govern (bump s Reg.PWR_PEAKS 1)) 0) else .next (govern s)

/-! ### Ride-through (R524 to R527) -/

/-- RIDE_THROUGH_ENTER (R520, R524, R527, R545): PWR52 is below 44 V. -/
def execRideThroughEnter (s : State) : Host.Outcome State Fault Refusal :=
  if inRide s ∨ s.pwr.belowSince.isNone = true ∨ rf s Reg.PWR_STAT 3 3 = 0 then .next s
  else
    let a := rf s Reg.PWR_RIDE 17 12
    let p := { s.pwr with capPower := min s.pwr.capPower (if a = 0 then 64 else a), rideHeld := true, ramp := none }
    let s := bump (rputF (setPwr s p) Reg.PWR_STAT 4 4 1) Reg.PWR_RIDES 1
    let s := { s with brd := { s.brd with statusInput := setBit s.brd.statusInput 0 true } }
    .next (powerEvent (govern s) 1)

/-- RIDE_THROUGH_EXIT (R524, R527): PWR52 has been at or above 45 V for 1 ms. -/
def execRideThroughExit (s : State) : Host.Outcome State Fault Refusal :=
  match s.pwr.aboveSince with
  | none => .next s
  | some t =>
    if !inRide s then .next s
    else
      let s := rputF (reach s (t + 1000000)) Reg.PWR_STAT 4 4 0
      let s := match s.pwr.pendingSet with
        | some w => setPwr (rput s Reg.PWR_LIMIT w) { s.pwr with pendingSet := none }
        | none => s
      .next (powerEvent (govern s) 2)

/-- SUPPLY_FAULT (R471, R545): the undervoltage fault is set, and the fatal safe state begins.
DESIGN CHOICE: assumption 151. -/
def supplyFault (s : State) (inst location : Nat) : State :=
  fatal { s with brd := { s.brd with statusInput := setBit s.brd.statusInput 1 true } } 0x25 0x08 inst location

/-- BUS_LOW_TIMEOUT (R524): PWR52 has stayed below 44 V for 20 ms, or below 40 V for 50 µs. -/
def execBusLowTimeout (s : State) : Host.Outcome State Fault Refusal :=
  if inSafe s ∨ rf s Reg.PWR_STAT 3 3 = 0 then .next s
  else match s.pwr.belowSince, s.pwr.below40 with
    | some a, some b => .next (supplyFault (reach s (min (a + 20000000) (b + 50000))) 0 Reg.PWR_INPUT)
    | some a, none => .next (supplyFault (reach s (a + 20000000)) 0 Reg.PWR_INPUT)
    | none, _ => .next s

/-- PWRGD follows PWR_STAT.RAILS (R540). -/
def setRails (s : State) (mask : Nat) : State :=
  let up := mask == 0x7FF
  let s := rputF (setPwr s { s.pwr with rails := mask }) Reg.PWR_STAT 3 3 (b2n up)
  emit s (.pin 1 up)

/-- VANA_FAULT (R514): in service VANA out of range is a SUPPLY_FAULT; in standby it may be removed. -/
def execVanaFault (s : State) : Host.Outcome State Fault Refusal :=
  let up := rf s Reg.PWR_STAT 3 3 == 1
  let s := rputF s Reg.PWR_STAT 1 1 0
  if up && !inSafe s then .next (supplyFault s 0 Reg.PWR_STAT) else .next s

/-- RAIL_FAULT (R517). DEDUCED: assumption 152. -/
def execRailFault (rail : Nat) (s : State) : Host.Outcome State Fault Refusal :=
  if 11 ≤ rail ∨ rf s Reg.PWR_STAT 3 3 = 0 then .next s
  else
    let s := setRails s (setBit s.pwr.rails rail false)
    if inSafe s then .next s else .next (supplyFault s rail Reg.PWR_STAT)

/-- THERMAL_TRIP (R528, R545): the comparator of the sensor's die drives the Buttress. Without rails neither has power.
DEDUCED: assumption 152. -/
def execThermalTrip (sensor : Nat) (s : State) : Host.Outcome State Fault Refusal :=
  if 64 ≤ sensor ∨ s.pwr.rails = 0 then .next s
  else
    let s := { s with brd := { s.brd with statusTemp := setBit s.brd.statusTemp 1 true } }
    .next (fatal s 0x24 0x08 (sensorDie sensor) Reg.PWR_THERM)

/-- CLOCK_LOSS (R532, R534): REFCLK, which is 0, or a PLL of domain 1 to 7 of PWR_CLK. Standby needs no reference clock.
DEDUCED: assumption 152. -/
def execClockLoss (pll : Nat) (s : State) : Host.Outcome State Fault Refusal :=
  if 8 ≤ pll ∨ s.pwr.rails = 0 then .next s
  else .next (fatal (rputF s Reg.PWR_CLK pll pll 0) 0x26 0x09 pll Reg.PWR_CLK)

/-- PLL_RELOCK (R536): a transient within the hold range ends with source 80 and no event. -/
def execPllRelock (pll : Nat) (s : State) : Host.Outcome State Fault Refusal :=
  if pll = 0 ∨ 8 ≤ pll ∨ s.pwr.rails = 0 then .next s else .next (micLevel (rputF s Reg.PWR_CLK pll pll 1) 80 true)

/-! ### Commands -/

/-- POWER_QUERY (R456): input power, the rails, the 64 junction sensors, the 24 stacks, then PWR_STAT, PWR_LIMIT and
PWR_LOAD. The layout is the model's. DESIGN CHOICE: assumption 158. -/
def execPowerQuery (slot : Nat) (tag : Word32) (s : State) : Host.Outcome State Fault Refusal :=
  .next (runCmd slot 0x0901 tag false s (fun s =>
    (s, Rep.words ([rg s Reg.PWR_INPUT, s.pwr.rails] ++ (List.range 64).map (fun i => tgetD s.pwr.junction i 0)
      ++ (List.range 24).map (fun i => tgetD s.pwr.stackTemp i 0) ++ [rg s Reg.PWR_STAT, rg s Reg.PWR_LIMIT, rg s Reg.PWR_LOAD]))))

/-- POWER_SET (R518, R527, R537): SUST_W is 600 to 2,000; in ride-through it takes effect when that ends. -/
def execPowerSet (slot : Nat) (tag : Word32) (limit peak : Word64) (s : State) : Host.Outcome State Fault Refusal :=
  .next (runCmd slot 0x0902 tag (!within limit 600 2000 || !atMost peak 1) s (fun s =>
    let w := setBits (setBits (rg s Reg.PWR_LIMIT) 11 0 limit.toNat) 12 12 peak.toNat
    if inRide s then (setPwr s { s.pwr with pendingSet := some w }, Rep.ok)
    else (govern (rput s Reg.PWR_LIMIT w), Rep.ok)))

/-- POOL_HOLD is accepted: no context is READY, RUNNING or PARKED, no bulk descriptor is in progress, the directory is empty,
and the module is no formed twin (R530). -/
def holdable (s : State) : Bool :=
  !s.sched.ctxs.any (fun e => decide (cxREADY ≤ e.2.st) && decide (e.2.st ≤ cxPARKED)) && s.sched.bulk.isEmpty
    && s.dirc.entries.isEmpty && !s.twin.formed

/-- Every queue pair enters ERROR (R530). -/
def errorQps (s : State) : State :=
  let q := s.eth.qps.map (fun (e : Nat × QPair) => (e.1, { e.2 with error := true, reads := [], waiting := [], writing := none }))
  { s with eth := { s.eth with qps := q } }

/-- POOL_HOLD (R530): from here on the module is in pool-hold. DEDUCED: assumption 154. -/
def execPoolHold (slot : Nat) (tag : Word32) (s : State) : Host.Outcome State Fault Refusal :=
  .next (runCmd slot 0x0903 tag false s (fun s =>
    if !holdable s then (s, .done stCONFLICT [])
    else
      let ks := (List.range 32).filter (fun k => (port s k).st != .disabled)
      let s := ks.foldl startPortDrain (errorQps s)
      let s := setPwr s { s.pwr with heldPorts := ks.foldl (fun m k => m + 2 ^ k) 0 }
      (rputF s Reg.PWR_STAT 6 6 1, .defer [] .poolHold)))

/-- A deferred POOL_HOLD or POOL_RESUME runs. -/
def waits (s : State) (w : Wait) : Bool := s.mbx.deferred.any (fun d => d.wait == w)

/-- POOL_HOLD_DONE (R530): with every port disabled the stacks enter self-refresh, and the final reply leaves. -/
def execPoolHoldDone (s : State) : Host.Outcome State Fault Refusal :=
  if !waits s .poolHold || (maskList 32 s.pwr.heldPorts).any (fun k => (port s k).draining) || inSafe s then .next s
  else .next (finishAll ((List.range 6).foldl enterSelfRefresh s) (fun w => w == .poolHold) stOK [])

/-- POOL_RESUME (R530): the ports of POOL_HOLD are enabled; the stacks leave self-refresh. DEDUCED: assumption 154. -/
def execPoolResume (slot : Nat) (tag : Word32) (s : State) : Host.Outcome State Fault Refusal :=
  .next (runCmd slot 0x0904 tag false s (fun s =>
    if !inHold s || waits s .poolHold || waits s .poolResume then (s, .done stCONFLICT [])
    else
      let s := (maskList 32 s.pwr.heldPorts).foldl (fun s k =>
        if (port s k).st = .disabled then setPort s k { port s k with st := .down } else s) s
      (setPwr s { s.pwr with resumeDue := now s + 500000 }, .defer [] .poolResume)))

/-- POOL_RESUME_DONE (R146, R530): the stacks are in service, and every port is UP or 500 µs have passed. Time watches whose
TARGET passed during the hold fire. -/
def execPoolResumeDone (s : State) : Host.Outcome State Fault Refusal :=
  if !waits s .poolResume || (List.range 6).any (fun n => (sealDie s n).selfRefresh) || inSafe s then .next s
  else
    let up := (maskList 32 s.pwr.heldPorts).all (fun k => (port s k).st == .up)
    let s := if up then s else reach s s.pwr.resumeDue
    let s := rputF (setPwr s { s.pwr with heldPorts := 0 }) Reg.PWR_STAT 6 6 0
    let s := finishAll s (fun w => w == .poolResume) stOK []
    let due := s.sig.watches.filter (fun e => e.2.time && decide (e.2.target ≤ now s))
    .next (due.foldl (fun s e => fireTime s e.1 e.2) s)

/-! ### Standby and the resets (R468, R469, R530, R535) -/

/-- The registers of the Plinth. -/
def isPlinth (a : Nat) : Bool := decide (0x10010000 ≤ a) && decide (a < 0x10020000)

/-- What keeps its value in standby: the Plinth's registers, and PWR_SHELF until power-on reset (R485, R526).
DEDUCED: assumption 155. -/
def keepsStandby (a : Nat) : Bool := isPlinth a || a == Reg.PWR_SHELF

/-- What is left of the module when only the Plinth stays powered: its registers, the BOOTID, the last event SEQ and the
time base it compares with PLN_TIMER; and what holds without power: the flash, the fuses and the board (R468, R469, R550). -/
def plinthOnly (s : State) : State :=
  let b := { Boot.reset with bootId := s.boot.bootId, plnSeq := s.boot.plnSeq, copies := s.boot.copies, flash := s.boot.flash }
  let b := { b with svn := s.boot.svn, revoked := s.boot.revoked }
  let r := { State.reset with regs := s.regs.filter (fun e => keepsStandby e.1), boot := b, out := s.out, free := s.free, pending := s.pending }
  let r := { r with tb := { TimeBase.reset with ns := s.tb.ns, frac := s.tb.frac }, brd := { s.brd with smbActive := false } }
  let r := rputF r Reg.PWR_STAT 2 0 (rf s Reg.PWR_STAT 2 0)
  rput64 r Reg.ETH_EVT_SEQ_LO s.boot.plnSeq

/-- STANDBY (R440, R530): the reply OK leaves, the sessions close and ownership lapses, and every rail is turned off.
DEDUCED: assumption 155. -/
def execStandby (slot : Nat) (tag : Word32) (s : State) : Host.Outcome State Fault Refusal :=
  let s := runCmd slot 0x0905 tag false s (fun s =>
    let free := (List.range 2880).all (fun e => decide ((extRec s e).st ≤ exFREE))
    if free then (s, .defer [] .standby) else (s, .done stCONFLICT []))
  if !waits s .standby then .next s
  else
    let s := lapse (endAllSessions (finishAll s (fun w => w == .standby) stOK []))
    let s := plinthOnly s
    .next (setRails (setPwr s { s.pwr with standby := true }) 0)

/-- The rails ramp in their order and the Mason cores enter the boot ROM, which reads the fuses (R502, R511, R516, R554).
DEDUCED: assumption 156. -/
def rampUp (s : State) (cause : Nat) : State :=
  let s := setRails (setPwr s { s.pwr with standby := false, railsAt := now s, loadInit := false }) 0x7FF
  let s := rput (rputF s Reg.PWR_STAT 2 0 7) Reg.PWR_CLK 0xFF
  let s := (List.range 12).foldl (fun s w => rput s (Reg.SEC_MARK w) (leNat ((List.range 4).map (fun j => Config.markDigest (4 * w + j))))) s
  enterRom (rputF (rputF s Reg.SEC_BOOT 7 4 s.boot.revoked) Reg.SEC_BOOT 15 8 s.boot.svn) cause

/-- POWER_UP (R513, R516): the supplies have met their condition for 10 ms. After a wake that found a supply absent the cause
stays the wake. -/
def execPowerUp (s : State) : Host.Outcome State Fault Refusal :=
  if rf s Reg.PWR_STAT 3 3 = 1 ∨ s.pwr.standby = true ∨ s.pwr.vauxOn = false ∨ inSafe s = true then .next s
  else .next (govern (rampUp s (rf s Reg.PLN_RESET 2 0)))

/-- POWER_ON_RESET (R483, R535): everything is reset, the Plinth included; a new BOOTID is drawn, and the address on the
SMBus is read. What the flash and the fuses hold stays. DESIGN CHOICE: assumption 10. DESIGN CHOICE: assumption 165. -/
def execPowerOnReset (smbAddr : Nat) (s : State) : Host.Outcome State Fault Refusal :=
  let (id, s) := free64 s
  let b := { Boot.reset with bootId := id, copies := s.boot.copies, flash := s.boot.flash, svn := s.boot.svn, revoked := s.boot.revoked }
  let r := { State.reset with boot := b, out := s.out, free := s.free, pending := s.pending }
  .next (emit (emit { r with brd := { Board.reset with smbAddr := 0x58 + smbAddr % 8 } } (.pin 1 false)) (.pin 0 true))

/-- VAUX_LOSS (R514): every converter is off and stored data is lost; the module waits for power-on reset.
DEDUCED: assumption 157. -/
def execVauxLoss (s : State) : Host.Outcome State Fault Refusal :=
  let b := { Boot.reset with bootId := s.boot.bootId, copies := s.boot.copies, flash := s.boot.flash, svn := s.boot.svn, revoked := s.boot.revoked }
  let r := { State.reset with boot := b, out := s.out, free := s.free, pending := s.pending }
  .next { r with brd := { Board.reset with smbAddr := s.brd.smbAddr }, pwr := { Power.reset with vauxOn := false } }

/-- JTAG_TRST (R535, R549): the test access port alone is reset, to IDCODE. -/
def execJtagTrst (s : State) : Host.Outcome State Fault Refusal :=
  .next { s with brd := { s.brd with jtagIr := 0, jtagOut := 0, pinsDriven := none } }

/-- A wake from standby on an enabled source (R468, R531): the source's bit is set with MIC source 78, and the module starts
as from power-on reset; without VANA or PWR52 the converters wait for POWER_UP. DEDUCED: assumption 156. -/
def wake (s : State) (source : Nat) : State :=
  if !s.pwr.standby || decide (4 ≤ source) || !bit (rg s Reg.PLN_WAKE_EN) source then s
  else
    let s := rputF (plinthOnly s) Reg.PLN_WAKE_SRC source source 1
    let s := if source = 3 then rputF s Reg.PWR_STAT 1 1 1 else s
    let s := micLevel s 78 true
    if rf s Reg.PWR_STAT 2 1 = 3 then govern (rampUp s 1) else rputF s Reg.PLN_RESET 2 0 1

/-- WAKE (R468): 0 a transaction on the SMBus, 1 the WAKE pin, 3 VANA restored; 2 is PLN_TIMER_REACHED. -/
def execWake (source : Nat) (s : State) : Host.Outcome State Fault Refusal :=
  if source = 2 then .next s else .next (wake s source)

/-- PLN_TIMER_REACHED (R468): the time base reaches PLN_TIMER. -/
def execPlnTimerReached (s : State) : Host.Outcome State Fault Refusal :=
  if !s.pwr.standby || !bit (rg s Reg.PLN_WAKE_EN) 2 then .next s
  else .next (wake (reach s (rg64 s Reg.PLN_TIMER_LO)) 2)

end Sys2Proof.Machine
end

