-- ==== Sys2Proof/Machine/Channels.lean ====
section
/-!
DEFINITION. The channel schedulers of the stacks (R116 to R148): entry of accesses, hazards, the choice of the
next command, refresh, urgency, training, tracking and row sparing. A scheduler's cycles are MCLK cycles
of 1 ns. What an access does to the pool happens at its entry, by the operations of Machine/Dram.lean.
-/

namespace Sys2Proof.Machine

/-! ### Settings -/

/-- Write-drain thresholds; an invalid pair is replaced by the reset values (R148). -/
def drainHigh (s : State) (n st : Nat) : Nat :=
  let v := rg s (Reg.STK_WDRAIN n st)
  if bits v 5 0 ≤ bits v 13 8 then 48 else bits v 5 0
def drainLow (s : State) (n st : Nat) : Nat :=
  let v := rg s (Reg.STK_WDRAIN n st)
  if bits v 5 0 ≤ bits v 13 8 then 24 else bits v 13 8

/-- Latency target of an input, in ns (R120, R147). -/
def latTarget (s : State) (n st i : Nat) : Nat := rf s (Reg.STK_LAT n st i) 15 0

/-- The stack is in hot mode (R132). -/
def stackHot (s : State) (n st : Nat) : Bool := rf s (Reg.STK_CTL n st) 0 0 == 1

/-- LOCATION of a record about a channel as a whole (R471). -/
def chanLocation (n c : Nat) : Nat := 2 ^ 48 * (4 * n + c / 32) + 2 ^ 53 * (c % 32)

/-- The channel is in use: of the module, out of training, and its stacks are not in self-refresh. -/
def chanRuns (s : State) (n c : Nat) : Bool :=
  decide (n < 6) && decide (c < 128) && (chan s n c).st != 0 && !(sealDie s n).selfRefresh && !inSafe s

/-! ### Queues -/

/-- An input has a free reserved or shared entry in a queue (R121). -/
def queueRoom (q : List Acc) (i : Nat) : Bool :=
  let used := fun j => (q.filter (fun a => a.input == j)).length
  decide (used i < 4) || decide ((List.range 8).foldl (fun n j => n + (used j - 4)) 0 < 32)

/-- The granule of an access. -/
def Acc.granule (a : Acc) : Nat := a.ppa / 256

/-- An access covers its whole granule. -/
def Acc.whole (a : Acc) : Bool := a.ppa % 256 == 0 && a.len == 256

/-- The bursts an access touches. -/
def Acc.bursts (a : Acc) : Nat := (a.ppa + a.len - 1) / 64 + 1 - a.ppa / 64

/-- The queued write that a later access to the granule meets: the last one (R124). -/
def lastWrite (k : Chan) (g : Nat) : Option Acc := (k.wq.filter (fun a => a.granule == g)).getLast?

/-- Ask for a page hold (R160). who: 0 rebuild, 1 scrubber, 2 another holder. -/
def askHold (s : State) (n page who : Nat) : State :=
  let d := sealDie s n
  if d.holds.any (fun h => h.page == page && h.who == who) then s
  else setSealDie s n { d with holds := d.holds ++ [{ page := page, granted := false, who := who }] }

/-- A page is under a granted hold. -/
def heldPage (s : State) (n page : Nat) : Bool := (sealDie s n).holds.any (fun h => h.page == page && h.granted)

/-- A write enters its channel (R123, R142): it is applied and acknowledged, the watch filter sees it, and
unless its channel is unavailable it is queued, merged with a queued write by R124. DEDUCED: assumption 59. -/
def enterWrite (s : State) (n c : Nat) (a : Acc) : State :=
  let s := (store s a.ppa a.data).2
  let k := chan s n c
  let t := max (k.cycle + 1) (now s)
  let k := { k with cycle := t }
  let a := { a with entered := t }
  if k.st = 3 ∨ k.st = 5 then setChan s n c k
  else
    let merge := match lastWrite k a.granule with
      | none => none
      | some w =>
        let seen := fun (r : Acc) => r.granule == a.granule && decide (w.entered ≤ r.entered)
        if a.whole && !k.rq.any seen && !k.flight.any seen && !k.done.any seen then some w else none
    match merge with
    | some w => setChan s n c { k with wq := k.wq.map (fun x => if x = w then { w with ppa := a.ppa, len := 256, data := a.data } else x) }
    | none =>
      let q := k.wq ++ [a]
      setChan s n c { k with wq := q, drain := k.drain || decide (drainHigh s n (c / 32) ≤ q.length) || k.rq.isEmpty }

/-- A read enters its channel (R124, R142): it is served from the write queue behind a whole-granule write,
rebuilt when its channel is unavailable, or queued with what it finds. DEDUCED: assumption 59. -/
def enterRead (s : State) (n c : Nat) (a : Acc) : State :=
  let g := a.granule
  let s := settleLine (settleLine s (2 * g)) (2 * g + 1)
  let k := chan s n c
  let t := max (k.cycle + 1) (now s)
  let k := { k with cycle := t }
  let a := { a with entered := t, data := stored s a.ppa a.len, bad := (burstWords g a.ppa a.len).map (fun w => markOf s (g * 32 + w)) }
  let a := { a with poison := (linesOf a.ppa a.len).any (linePoisoned s) }
  if k.st = 3 ∨ k.st = 5 then askHold (setChan s n c { k with rebuild := k.rebuild ++ [a] }) n (pageOf a.ppa) 0
  else match lastWrite k g with
    | some w =>
      if w.whole then setChan s n c { k with done := a :: k.done }
      else setChan s n c { k with rq := k.rq ++ [a] }
    | none => setChan s n c { k with rq := k.rq ++ [a] }

/-- The inputs that the activity cap holds at the crossing: XLT, BULK, CRSE, CRSO and ROCE (R519). -/
def cappedInput (i : Nat) : Bool := decide (1 ≤ i) && decide (i ≤ 5)

/-- In the guard of a gate entry no access enters a gated die, but for the inputs MGT and BKG (R498).
DESIGN CHOICE: assumption 175. -/
def guardShut (s : State) (n i : Nat) : Bool :=
  rf s Reg.XLT_GATE_CTL 6 6 == 1 && bit (rg s Reg.XLT_GATE_CTL) n && bit s.sched.guard n && decide (i < 6)

/-- An access enters when its input has room and is neither capped nor in a guard now, and no earlier access of its input
waits; else it is held at the crossing (R121, R498, R519). -/
def enterChan (s : State) (n c : Nat) (a : Acc) : State :=
  let k := chan s n c
  let q := if a.write then k.wq else k.rq
  if queueRoom q a.input && (capOpen s || !cappedInput a.input) && !guardShut s n a.input && !k.held.any (fun h => h.input == a.input && h.write == a.write) then
    if a.write then enterWrite s n c a else enterRead s n c a
  else setChan s n c { k with held := k.held ++ [a] }

/-- Held accesses enter while there is room, in their order. -/
def releaseChan (s : State) (n c : Nat) : State :=
  let h := (chan s n c).held
  h.foldl (fun s a => enterChan s n c a) (setChan s n c { chan s n c with held := [] })

/-- An access as it arrives at a channel. -/
def newAcc (write : Bool) (input ppa : Nat) (data : List Byte) (len : Nat) : Acc :=
  { write := write, input := input, ppa := ppa, len := len, data := data, bad := [], poison := false, entered := 0
    urg := 0, late := false, issued := 0 }

/-- An access names a part of one granule that lies on the channel (R32, R43, R120). -/
def accFits (n c input ppa len : Nat) : Bool :=
  decide (1 ≤ len) && decide (ppa % 256 + len ≤ 256) && decide (extOf ppa < 2880) && decide (input < 8)
    && dieOf ppa == n && chanOf ppa == c

/-- CHANNEL_WRITE_ENTRY (R121, R123, R124, R170). -/
def execChannelWriteEntry (die channel input ppa : Nat) (data : List Byte) (s : State) :
    Host.Outcome State Fault Refusal :=
  if chanRuns s die channel && accFits die channel input ppa data.length then
    .next (enterChan s die channel (newAcc true input ppa data data.length))
  else .next s

/-- CHANNEL_READ_ENTRY (R121, R124, R142). -/
def execChannelReadEntry (die channel input ppa length : Nat) (s : State) : Host.Outcome State Fault Refusal :=
  if chanRuns s die channel && accFits die channel input ppa length then
    .next (enterChan s die channel (newAcc false input ppa [] length))
  else .next s

/-! ### Banks and timing -/

/-- A bank after training (R128). -/
def Bank.init (s : State) (n st : Nat) : Bank :=
  { row := none, idle := rf s (Reg.STK_IDLE n st) 23 16, last := 0, closed := none, due := 0, acts := 0, rfm := false
    hits := 0, spares := 0 }

/-- One bank of a channel. -/
def bankOf (s : State) (n c b : Nat) : Bank := tgetD (chan s n c).banks b (Bank.init s n (c / 32))

/-- Replace a bank in a channel. -/
def putBank (k : Chan) (b : Nat) (x : Bank) : Chan := { k with banks := tset k.banks b x }

/-- The bank and row of an access, after remapping (R118, R145). -/
def accBank (a : Acc) : Nat := slotBank (slotOf a.ppa)
def accRow (k : Chan) (a : Acc) : Nat :=
  let r := slotRow (slotOf a.ppa)
  tgetD k.remap (accBank a * 32768 + r) r

/-- Least cycles from command p to command q on one channel (R117). The bursts of one granule follow each
other without a gap. -/
def cmdGap (p q : DramCmd) : Nat :=
  let same := p.bank == q.bank
  let group := p.bank / 4 == q.bank / 4
  let col := max p.bursts (if group then 2 else 1)
  match p.kind, q.kind with
  | 0, 0 => if same then 48 else if group then 4 else 2
  | 0, 1 => if same then 32 else 1
  | 0, 2 => if same then 16 else 1
  | 0, 3 => if same then 16 else 1
  | 0, _ => if same then 48 else 1
  | 1, 0 => if same then 16 else 1
  | 1, 4 => if same then 16 else 1
  | 1, 5 => if same then 16 else 1
  | 2, 2 => col
  | 2, 3 => p.bursts + 5
  | 2, 1 => if same then p.bursts else 1
  | 3, 3 => col
  | 3, 2 => 8 + p.bursts + (if group then 8 else 4)
  | 3, 1 => if same then 8 + p.bursts + 16 else 1
  | 4, _ => if same then 100 else 1
  | 5, _ => if same then 100 else 1
  | _, _ => 1

/-- The timing allows a command now (R117): every gap is kept, and no five activates of a SID fall within
tFAW. DEDUCED: assumption 60. -/
def timingOk (k : Chan) (q : DramCmd) : Bool :=
  k.cmds.all (fun p => decide (p.cycle + cmdGap p q ≤ q.cycle))
    && (q.kind != 0 || decide ((k.cmds.filter (fun p => p.kind == 0 && p.bank / 16 == q.bank / 16
      && decide (q.cycle < p.cycle + 16))).length < 4))

/-- Put a command into the history, which reaches back further than any gap. -/
def pushCmd (k : Chan) (q : DramCmd) : Chan :=
  { k with cmds := q :: k.cmds.filter (fun p => decide (q.cycle < p.cycle + 160)) }

/-! ### Choosing the next command -/

/-- The urgency of an access (R129). DEDUCED: assumption 60. -/
def urgency (s : State) (n st t : Nat) (a : Acc) : Nat :=
  let g := latTarget s n st a.input
  let age := t - a.entered
  if 2 * age < g then 0 else if age < g then 1 else 2

/-- The mode of the queue (R127). DEDUCED: assumption 62. -/
def drainMode (s : State) (n st t : Nat) (k : Chan) : Bool :=
  let urgent := k.rq.any (fun a => urgency s n st t a == 2)
  if k.drain then !urgent && !(k.wq.isEmpty || (decide (k.wq.length ≤ drainLow s n st) && !k.rq.isEmpty))
  else decide (drainHigh s n st ≤ k.wq.length) || (!k.wq.isEmpty && k.rq.isEmpty)

/-- Input BKG may use the channel now (R122). DESIGN CHOICE: assumption 63. -/
def bkgAllowed (k : Chan) (a : Acc) : Bool := a.input != 7 || decide (10 * a.bursts ≤ k.bkgLeft)

/-- Two accesses meet in one granule, the first before the second. DESIGN CHOICE: assumption 61. -/
def before (a b : Acc) : Bool := a.granule == b.granule && decide (a.entered < b.entered)

/-- The accesses that may be served now, oldest first (R124, R127, R145, R160, R163): in read mode the reads,
with the writes that a read waits for; in drain mode the writes. -/
def eligible (s : State) (n : Nat) (k : Chan) : List Acc :=
  let reads := k.rq.filter (fun r => !k.wq.any (fun w => before w r))
  let writes := if k.stalled then [] else k.wq.filter (fun w =>
    !heldPage s n (pageOf w.ppa) && !k.rq.any (fun r => before r w) && !k.wq.any (fun v => before v w))
  let l := if k.drain then writes else reads ++ writes.filter (fun w => k.rq.any (fun r => before w r))
  let l := l.filter (fun a => bkgAllowed k a && (match k.copying with
    | some (b, r) => !(accBank a == b && slotRow (slotOf a.ppa) == r)
    | none => true))
  l.foldl (fun q a => q.takeWhile (fun x => decide (x.entered ≤ a.entered)) ++ [a]
    ++ q.dropWhile (fun x => decide (x.entered ≤ a.entered))) []

/-- The row that an access needs is open. -/
def rowHit (s : State) (n c : Nat) (a : Acc) : Bool := (bankOf s n c (accBank a)).row == some (accRow (chan s n c) a)

/-- The command that brings an access forward. -/
def cmdFor (s : State) (n c t : Nat) (a : Acc) : DramCmd :=
  let kind := match (bankOf s n c (accBank a)).row with
    | none => 0
    | some _ => if rowHit s n c a then (if a.write then 3 else 2) else 1
  { kind := kind, bank := accBank a, cycle := t, bursts := if kind = 2 ∨ kind = 3 then a.bursts else 0 }

/-- A refresh, RFM or precharge of a bank. -/
def bankCmd (kind b t : Nat) : DramCmd := { kind := kind, bank := b, cycle := t, bursts := 0 }

/-- The commands in the order of R126, each with the access it serves. DESIGN CHOICE: assumption 61. -/
def candidates (s : State) (n c t : Nat) : List (DramCmd × Option Acc) :=
  let k := chan s n c
  let st := c / 32
  let el := eligible s n k
  let at_ := fun u => el.filter (fun a => urgency s n st t a == u)
  let acc := fun (a : Acc) => (cmdFor s n c t a, some a)
  let banks := List.range 64
  let bk := fun b => bankOf s n c b
  let forced := (banks.filter (fun b => decide (8 ≤ (bk b).due))).map (fun b =>
    (bankCmd (if (bk b).row.isSome then 1 else 4) b t, none))
  let capped := fun (a : Acc) => decide (rf s (Reg.STK_IDLE n st) 28 24 ≤ (bk (accBank a)).hits)
    && el.any (fun o => decide (o.entered < a.entered) && accBank o == accBank a && accRow k o != accRow k a)
  let idle := banks.filter (fun b => (bk b).row.isNone)
  forced
    ++ ((at_ 2).take 1).map acc
    ++ ((at_ 1).filter (rowHit s n c)).map acc ++ ((at_ 1).filter (fun a => !rowHit s n c a)).map acc
    ++ ((at_ 0).filter (fun a => rowHit s n c a && !capped a)).map acc
    ++ ((at_ 0).take 1).map acc
    ++ (idle.filter (fun b => decide (0 < (bk b).due))).map (fun b => (bankCmd 4 b t, none))
    ++ (idle.filter (fun b => (bk b).rfm)).map (fun b => (bankCmd 5 b t, none))
    ++ (idle.filter (fun b => decide (-8 < (bk b).due))).map (fun b => (bankCmd 4 b t, none))
    ++ (banks.filter (fun b => (bk b).row.isSome && decide ((bk b).last + (bk b).idle ≤ t))).map
      (fun b => (bankCmd 1 b t, none))

/-- Count an access past its target (R130). DESIGN CHOICE: assumption 130. -/
def countLate (s : State) (n c t : Nat) (a : Acc) : State × Bool :=
  let late := decide (latTarget s n (c / 32) a.input < t - a.entered)
  (if late then bump s (Reg.STK_LATECNT n (c / 32) a.input) 1 else s, late)

/-- Send a command and note what it does (R126 to R133, R159). -/
def sendCmd (s : State) (n c : Nat) (q : DramCmd) (a : Option Acc) : State :=
  let k := pushCmd (chan s n c) q
  let b := bankOf s n c q.bank
  let lim := rg s (Reg.STK_IDLE n (c / 32))
  match q.kind, a with
  | 0, some a =>
    let row := accRow k a
    let grown := match b.closed with
      | some (r, t) => if r = row ∧ a.entered ≤ t + 2 * b.idle then min (2 * b.idle) (bits lim 15 8) else b.idle
      | none => b.idle
    setChan s n c (putBank k q.bank { b with row := some row, idle := grown, closed := none, hits := 0, acts := b.acts + 1, last := q.cycle })
  | 1, some _ =>
    setChan s n c (putBank k q.bank { b with row := none, closed := none, idle := max (b.idle / 2) (bits lim 7 0) })
  | 1, none =>
    let timer := b.row.map (fun r => (r, q.cycle))
    setChan s n c (putBank k q.bank { b with row := none, closed := if 8 ≤ b.due then none else timer })
  | 2, some a =>
    let k := putBank k q.bank { b with hits := b.hits + 1, last := q.cycle }
    let k := { k with bkgLeft := if a.input = 7 then k.bkgLeft - 10 * a.bursts else k.bkgLeft }
    setChan s n c { k with rq := k.rq.erase a, flight := k.flight ++ [{ a with issued := q.cycle }] }
  | 3, some a =>
    let k := putBank k q.bank { b with hits := b.hits + 1, last := q.cycle }
    let k := { k with bkgLeft := if a.input = 7 then k.bkgLeft - 10 * a.bursts else k.bkgLeft }
    let k := if a.whole && decide (a.input = 7) then k
      else { k with cmds := { q with kind := 2 } :: k.cmds.map (fun p => if p = q then { q with cycle := q.cycle + q.bursts + 5 } else p) }
    let s := setChan s n c { k with wq := k.wq.erase a }
    let d := sealDie s n
    let s := setSealDie s n { d with deltas := d.deltas ++ [{ page := pageOf a.ppa, channel := c }] }
    (countLate s n c (q.cycle + 8 + a.bursts) a).1
  | 4, _ => setChan s n c (putBank k q.bank { b with due := b.due - 1 })
  | 5, _ => setChan s n c (putBank k q.bank { b with rfm := false })
  | _, _ => s

/-- The bucket of input BKG is refilled every 1 µs (R122, R132): 3.44% of the channel, or 0.88% in hot mode.
DESIGN CHOICE: assumption 63. -/
def refillBkg (k : Chan) (t : Nat) (hot : Bool) : Chan :=
  if k.bkgAt + 1000 ≤ t then { k with bkgLeft := if hot then 88 else 344, bkgAt := t } else k

/-- CHANNEL_SCHEDULE (R126): one MCLK cycle of a channel. The first command that the timing allows is sent; a
command that the stack refused for parity comes first. A channel in TRACKING sends none (R141). -/
def execChannelSchedule (die channel : Nat) (s : State) : Host.Outcome State Fault Refusal :=
  if !chanRuns s die channel then .next s
  else
    let k := chan s die channel
    let t := max (k.cycle + 1) (now s)
    let k := refillBkg { k with cycle := t } t (stackHot s die (channel / 32))
    let k := { k with drain := drainMode s die (channel / 32) t k }
    let s := setChan s die channel k
    if k.st ≠ 1 ∧ k.st ≠ 4 then .next s
    else match k.again with
      | some q =>
        let q := { q with cycle := t }
        if timingOk k q then .next (setChan s die channel (pushCmd { k with again := none } q)) else .next s
      | none =>
        match (candidates s die channel t).find? (fun e => timingOk k e.1) with
        | none => .next (releaseChan s die channel)
        | some (q, a) => .next (releaseChan (sendCmd s die channel q a) die channel)

/-- What an access found at its entry still stands. -/
def unchanged (s : State) (a : Acc) : Bool :=
  stored s a.ppa a.len == a.data
    && (burstWords a.granule a.ppa a.len).map (fun w => markOf s (a.granule * 32 + w)) == a.bad

/-- The words of a read from DRAM are decoded (R153, R154, R165, R169): as they stand now, with the
write-backs of corrections, or, when a later write has entered, as they stood at the entry, with the
write-back discarded. Answers the read with its data. -/
def decodeRead (s : State) (n c : Nat) (a : Acc) : State × Acc :=
  if unchanged s a then
    let (b, bad, s) := load s a.ppa a.len
    (s, { a with data := b, poison := bad })
  else
    let fix := ((burstWords a.granule a.ppa a.len).zip a.bad).filter (fun e => e.2 != 0 && (popcount 8 e.2 == 1 || codeColumns.contains e.2))
    let due := (a.bad.filter (fun m => m != 0 && popcount 8 m != 1 && !codeColumns.contains m && m != 0xFF)).length
    let s := if fix.isEmpty then s else noteCe s a.granule (fix.map (fun e => e.1)) ((fix.map (fun e => e.2)).getLastD 0)
    (if due = 0 then s else bump s (Reg.STK_ECC_DUE n (c / 32)) due, a)

/-- A read found words that its channel cannot correct. -/
def needsRebuild (a : Acc) : Bool :=
  a.bad.any (fun m => m != 0 && popcount 8 m != 1 && !codeColumns.contains m && m != 0xFF)

/-- READ_DECODE (R129, R130, R153, R154, R165): the last beat of the oldest read in flight has been returned and
its words are decoded; one that needs the seal waits for a page hold. An inverted parity of STK_INJ_CTL
is replayed once (R173, R180). DESIGN CHOICE: assumption 130. -/
def execReadDecode (die channel : Nat) (s : State) : Host.Outcome State Fault Refusal :=
  if !chanRuns s die channel then .next s
  else
    let k := chan s die channel
    match k.flight with
    | [] => .next s
    | a :: rest =>
      let t := max k.cycle (a.issued + 18 + a.bursts)
      let s := setChan s die channel { k with flight := rest, cycle := t }
      let st := channel / 32
      let inj := rg s (Reg.STK_INJ_CTL die st)
      let s := if bit inj 15 && bits inj 12 8 == channel % 32 then
        report (rput s (Reg.STK_INJ_CTL die st) (setBit inj 15 false)) 0x07 0x10 (4 * die + st) (chanLocation die channel) 0 none none
      else s
      if needsRebuild a then
        let k := chan s die channel
        .next (askHold (setChan s die channel { k with rebuild := k.rebuild ++ [a] }) die (pageOf a.ppa) 0)
      else
        let (s, a) := decodeRead s die channel a
        let (s, late) := countLate s die channel t a
        let k := chan s die channel
        .next (setChan s die channel { k with done := { a with late := late } :: k.done })

/-! ### Refresh and idle timers -/

/-- REFRESH_DUE (R131): tREFI has passed for a bank. -/
def execRefreshDue (die channel bank : Nat) (s : State) : Host.Outcome State Fault Refusal :=
  if chanRuns s die channel && decide (bank < 64) then
    let b := bankOf s die channel bank
    .next (setChan s die channel (putBank (chan s die channel) bank { b with due := b.due + 1 }))
  else .next s

/-- RFM_THRESHOLD (R133): the count of activates has reached RFM_TH. -/
def execRfmThreshold (die channel bank : Nat) (s : State) : Host.Outcome State Fault Refusal :=
  let ctl := rg s (Reg.STK_CTL die (channel / 32))
  let b := bankOf s die channel bank
  if chanRuns s die channel && decide (bank < 64) && bit ctl 1 && decide (bits ctl 9 2 ≤ b.acts) then
    .next (setChan s die channel (putBank (chan s die channel) bank { b with rfm := true, acts := b.acts - bits ctl 9 2 }))
  else .next s

/-- BANK_IDLE_EXPIRE (R126, R128): no access to the open row came within T, and the row is closed. -/
def execBankIdleExpire (die channel bank : Nat) (s : State) : Host.Outcome State Fault Refusal :=
  let k := chan s die channel
  let b := bankOf s die channel bank
  let t := max k.cycle (b.last + b.idle)
  let k := { k with cycle := t }
  let waits := (eligible s die k).any (fun a => accBank a == bank && b.row == some (accRow k a))
  if chanRuns s die channel && decide (bank < 64) && b.row.isSome && !waits && timingOk k (bankCmd 1 bank t) then
    .next (sendCmd (setChan s die channel k) die channel (bankCmd 1 bank t) none)
  else .next s

/-- URGENCY_RISE (R127, R129): the age of some queued access reaches half its target, or its target. -/
def execUrgencyRise (die channel : Nat) (s : State) : Host.Outcome State Fault Refusal :=
  let k := chan s die channel
  let st := channel / 32
  let due := (k.rq ++ k.wq).flatMap (fun a =>
    let g := latTarget s die st a.input
    [a.entered + (g + 1) / 2, a.entered + g])
  match (due.filter (fun t => decide (k.cycle < t))).foldl (fun (m : Option Nat) t => match m with
    | none => some t
    | some x => some (min x t)) none with
  | none => .next s
  | some t =>
    if !chanRuns s die channel then .next s
    else
      let up := fun (a : Acc) => { a with urg := urgency s die st t a }
      let k := { k with cycle := t, rq := k.rq.map up, wq := k.wq.map up }
      .next (setChan s die channel { k with drain := drainMode s die st t k })

/-! ### Temperature, tracking and training -/

/-- STACK_TEMP_READ (R116, R132, R147). -/
def execStackTempRead (stack celsius : Nat) (s : State) : Host.Outcome State Fault Refusal :=
  if 24 ≤ stack then .next s
  else
    let n := stack / 4
    let st := stack % 4
    let s := rputF s (Reg.STK_TEMP n st) 7 0 (min celsius 255)
    let s := { s with pwr := { s.pwr with stackTemp := tset s.pwr.stackTemp stack celsius } }
    if rf s (Reg.STK_TEMP n st) 15 8 ≤ celsius then .next (rputF s (Reg.STK_CTL n st) 0 0 1)
    else if celsius ≤ rf s (Reg.STK_TEMP n st) 23 16 then .next (rputF s (Reg.STK_CTL n st) 0 0 0)
    else .next s

/-- Another channel of the stack is in TRACKING (R140). -/
def stackTracks (s : State) (n c : Nat) : Bool :=
  (List.range' (c / 32 * 32) 32).any (fun d => d != c && (chan s n d).st == 2)

/-- A channel in service enters TRACKING, unless its stack tracks another (R140, R141). -/
def startTracking (s : State) (n c : Nat) : State :=
  let k := chan s n c
  if k.st = 1 ∧ stackTracks s n c = false then setChan s n c { k with st := 2, fails := 0 } else s

/-- TRACKING_TRIGGER (R140, R141): the correctable words of a millisecond have reached CE_TH, the temperature has
drifted, or else INTERVAL passes. -/
def execTrackingTrigger (die channel : Nat) (s : State) : Host.Outcome State Fault Refusal :=
  if !chanRuns s die channel then .next s
  else
    let k := chan s die channel
    let st := channel / 32
    let cfg := rg s (Reg.STK_RETRAIN die st)
    let ce := decide (bits cfg 31 16 ≤ k.ce)
    let temp := tgetD s.pwr.stackTemp (4 * die + st) 0
    let drift := decide (k.trackedTemp + bits cfg 15 8 ≤ temp) || decide (temp + bits cfg 15 8 ≤ k.trackedTemp)
    let s := if ce then setChan s die channel { k with ce := 0 }
      else if drift then s
      else reach s (k.trackedAt + bits cfg 7 0 * 1000000)
    if k.st = 4 then .next (setChan s die channel { chan s die channel with trackHeld := true })
    else .next (startTracking s die channel)

/-- The queued reads of a channel that is no longer available are rebuilt from the seal, and its writes are in
the seal already (R141, R142). Dirty seal lines of the channel are discarded (R166). DEDUCED: assumption 65. -/
def loseChannel (s : State) (n c st : Nat) : State :=
  let k := chan s n c
  let reads := k.rq ++ k.flight
  let s := setChan s n c { k with st := st, rq := [], flight := [], wq := [], rebuild := k.rebuild ++ reads, cmds := [], again := none
                                  banks := k.banks.map (fun (b : Nat × Bank) => (b.1, { b.2 with row := none, closed := none })) }
  let d := sealDie s n
  let s := setSealDie s n { d with lines := d.lines.filter (fun e => !(e.2.dirty.isSome && sealChan e.1 == c)) }
  reads.foldl (fun s a => askHold s n (pageOf a.ppa) 0) s

/-- TRACKING_DONE (R140, R141): a pass returns the channel to service; the third failure sends it to
RETRAINING. -/
def execTrackingDone (die channel : Nat) (pass : Bool) (s : State) : Host.Outcome State Fault Refusal :=
  let k := chan s die channel
  if !chanRuns s die channel || k.st != 2 then .next s
  else if pass then
    let temp := tgetD s.pwr.stackTemp (4 * die + channel / 32) 0
    .next (setChan s die channel { k with st := 1, tracks := min (k.tracks + 1) 65535, fails := 0, trackedAt := now s, trackedTemp := temp })
  else if k.fails + 1 < 3 then .next (setChan s die channel { k with fails := k.fails + 1 })
  else .next (loseChannel (setChan s die channel { k with fails := 0 }) die channel 3)

/-- The other channels of the group pair of a channel that are unavailable (R144). -/
def pairDown (s : State) (n c : Nat) : List Nat :=
  (List.range 128).filter (fun d => d != c && (d % 32 / 4 % 4 == c % 32 / 4 % 4) && chanDown s n d)

/-- A channel fails for good, and is reported (R139, R141). -/
def failChannel (s : State) (n c : Nat) : State :=
  report (loseChannel s n c 5) 0x0A 0x10 (4 * n + c / 32) (chanLocation n c) 0 none none

/-- FULL_TRAINING_DONE (R141, R143, R157, R167): a pass starts the rebuild, in which the lines that the channel lost
to another unavailable channel of its group pair come back poisoned; the lines of the same pages on the other channel
are lost as well. DEDUCED: assumption 64. -/
def execFullTrainingDone (die channel : Nat) (pass : Bool) (s : State) : Host.Outcome State Fault Refusal :=
  if !chanRuns s die channel || (chan s die channel).st != 3 then .next s
  else if pass then
    let ls := (pairDown s die channel).flatMap (fun d =>
      [({ die := die, channel := channel, other := d, cured := [], zeroed := [] } : Loss),
       { die := die, channel := d, other := channel, cured := [], zeroed := [] }])
    let k := chan s die channel
    let s := setChan s die channel { k with st := 4, banks := [] }
    .next { s with dram := { s.dram with losses := s.dram.losses ++ ls } }
  else .next (failChannel s die channel)

/-- The page and position of a granule slot of a channel in the data area (R43): the PPA of the granule. -/
def slotPpa (n c slot : Nat) : Nat :=
  let e := slot / 32768
  let hi := slot % 32768
  let p := hi * 8 + ((c % 32 / 4) ^^^ (hi % 8) ^^^ (hi / 8 % 8) ^^^ ((480 * n + e) % 8))
  (480 * n + e) * 2 ^ 30 + p * 4096 + (c / 32 + 4 * (c % 4)) * 256

/-- A page has a data granule on another unavailable channel than c (R143). -/
def dataDown (s : State) (page c : Nat) : Bool :=
  let n := page / 2 ^ 18 / 480
  (List.range 16).any (fun q => chanOfGranule page q != c && chanDown s n (chanOfGranule page q))

/-- REBUILD_DONE (R141, R143, R167): every data slot of the channel agrees with its page and seal again, and every
seal slot with its data, unless another data channel of its page is unavailable; a seal that held the marker is made
from the data when the last unavailable granule of its page has returned. -/
def execRebuildDone (die channel : Nat) (s : State) : Host.Outcome State Fault Refusal :=
  if !chanRuns s die channel || (chan s die channel).st != 4 then .next s
  else
    let mine := fun (a : Nat) => dieOf a == die && chanOf a == channel
    let skewed := (s.dram.sealErr.map (fun e => e.1 / 128)).eraseDups
    let s := skewed.foldl (fun s page =>
      match (List.range 16).find? (fun q => mine (page * 4096 + q * 256)) with
      | none => s
      | some q => rebuildWords s page q ((List.range 32).filter (fun w => wordIs s ((page * 4096 + q * 256) / 8 + w) != .poison))) s
    let kept := s.dram.marks.filter (fun e => !mine (e.1 * 8) || wordIs s e.1 == .poison)
    let own := fun (page : Nat) => page / 2 ^ 18 / 480 == die && sealChan page == channel && !dataDown s page channel
    let whole := fun (page : Nat) => (List.range 16).any (fun q => mine (page * 4096 + q * 256)) && !dataDown s page channel
    let d := { s.dram with marks := kept, sealErr := s.dram.sealErr.filter (fun e => !own (e.1 / 128))
                           sealMarks := s.dram.sealMarks.filter (fun e => !own (e.1 / 32) && !(e.2 == 0xFF && whole (e.1 / 32))) }
    let s := { s with dram := { d with stale := d.stale.filter (fun p => !own p) } }
    let k := chan s die channel
    let s := setChan s die channel { k with st := 1, trackHeld := false }
    if k.trackHeld then .next (startTracking s die channel) else .next s

/-- STACK_TRAINING_DONE (R138, R139): start-up training ends; the channels named failed a step or need more
than two spare lanes, and start FAILED. DEDUCED: assumption 64. -/
def execStackTrainingDone (failed : List Nat) (s : State) : Host.Outcome State Fault Refusal :=
  if s.dram.trained ∨ rf s Reg.PLN_BOOT 3 0 ≠ 1 then .next s
  else
    let s := { s with dram := { s.dram with trained := true } }
    .next ((failed.filter (fun x => decide (x < 768))).foldl (fun s x => failChannel s (x / 128) (x % 128)) s)

/-- The stacks of a die leave self-refresh: they are in service after one tracking pass of every channel; the
contents of the segments that the mask left out are undefined. DESIGN CHOICE: assumption 66. -/
def exitSelfRefresh (s : State) (die : Nat) : State :=
    let d := sealDie s die
    let es := d.unmasked
    let s := setSealDie s die { d with selfRefresh := false, unmasked := [] }
    let keep := s.dram.undefWritten.filter (fun a => !es.contains (extOf a))
    let draws := es.foldl (fun t e => tset t e (s.free + e)) s.dram.undefAt
    let old := s.dram.undef.filter (fun e => !es.contains e)
    let s := { s with free := s.free + 2880, dram := { s.dram with undef := old ++ es, undefWritten := keep, undefAt := draws } }
    (List.range 128).foldl (fun s c =>
      let k := chan s die c
      if k.st = 1 then setChan s die c { k with tracks := min (k.tracks + 1) 65535, trackedAt := now s } else s) s

/-- SELF_REFRESH_EXIT_DONE (R136, R146): after POOL_RESUME the stacks of a die are in service. -/
def execSelfRefreshExitDone (die : Nat) (s : State) : Host.Outcome State Fault Refusal :=
  if die < 6 ∧ (sealDie s die).selfRefresh = true ∧ s.mbx.deferred.any (fun d => d.wait == .poolResume) = true then
    .next (exitSelfRefresh s die)
  else .next s

/-! ### Row sparing and command parity -/

/-- ROW_SPARE (R145): the row is copied to a spare row of its bank; a bank with none left reports it. -/
def execRowSpare (die channel bank row : Nat) (s : State) : Host.Outcome State Fault Refusal :=
  if chanRuns s die channel && decide (bank < 64) && decide (row < 32640) then
    if 128 ≤ (bankOf s die channel bank).spares then
      .next (report s 0x09 0x10 (4 * die + channel / 32) (chanLocation die channel) 0 none none)
    else .next (setChan s die channel { chan s die channel with copying := some (bank, row) })
  else .next s

/-- The granule slots of a row of a bank (R118). -/
def rowSlots (bank row : Nat) : List Nat :=
  (List.range' (row * 512) 512).filter (fun sl => slotBank sl == bank)

/-- ROW_COPY_DONE (R145): granules that failed their word code have been rebuilt, and the remap entry is set. -/
def execRowCopyDone (die channel bank row : Nat) (s : State) : Host.Outcome State Fault Refusal :=
  let k := chan s die channel
  if chanRuns s die channel && k.copying == some (bank, row) then
    let s := ((rowSlots bank row).filter (fun sl => decide (sl < 15728640))).foldl (fun s sl =>
      let a := slotPpa die channel sl
      if granuleDirty s (a / 256) then fetchGranule s (a / 256) (List.range 32) else s) s
    let b := bankOf s die channel bank
    let k := chan s die channel
    let k := putBank k bank { b with spares := b.spares + 1 }
    let s := setChan s die channel { k with copying := none, remap := tset k.remap (bank * 32768 + row) (32640 + b.spares) }
    .next (report s 0x08 0x10 (4 * die + channel / 32) (chanLocation die channel) 0 none none)
  else .next s

/-- COMMAND_ADDRESS_PARITY_ERROR (R116): the controller issues the refused command again. -/
def execCommandAddressParityError (die channel : Nat) (s : State) : Host.Outcome State Fault Refusal :=
  let k := chan s die channel
  if chanRuns s die channel then .next (setChan s die channel { k with again := k.cmds.head? }) else .next s

end Sys2Proof.Machine
end

