-- ==== Sys2Proof/Machine/Seal.lean ====
section
/-!
DEFINITION. The seal cache, page holds and rebuilds (R158 to R167), the scrubber (R175 to R178), parity on the
data path (R24, R25, R173, R174), fault injection (R179 to R181) and the diagnostic commands of R455.
-/

namespace Sys2Proof.Machine

/-! ### The seal cache -/

/-- The set of a page in the seal cache (R162). -/
def sealSet (page : Nat) : Nat := (pageIdx page % 1024) ^^^ (page / 2 ^ 18 % 480)

/-- The injection of STK_INJ_CTL on a write of a seal granule (R179). DEDUCED: assumption 171. -/
def injectSeal (s : State) (page : Nat) : State :=
  let n := page / 2 ^ 18 / 480
  let c := sealChan page
  let st := c / 32
  let v := rg s (Reg.STK_INJ_CTL n st)
  let mode := bits v 14 13
  let hit := if mode = 1 then sealSlot page == rf s (Reg.STK_INJ_SLOT n st) 23 0
    else mode == 2 && decide (0 < bits v 29 22)
  if !hit || bit v 31 || bits v 12 8 != c % 32 then s
  else
    let ws := (List.range 32).filter (fun w => bit v 21 || w == bits v 20 16)
    let s := ws.foldl (fun s w => setSealMark s page w (bits v 7 0)) s
    let left := if mode = 1 then 0 else bits v 29 22 - 1
    let v := setBits v 29 22 left
    rput s (Reg.STK_INJ_CTL n st) (if left = 0 then setBit v 31 true else v)

/-- A dirty line is written back to its seal channel, or discarded when that is unavailable (R162, R166). -/
def writeBackSeal (s : State) (n page : Nat) : State :=
  let d := sealDie s n
  match tget d.lines page with
  | none => s
  | some l =>
    let s := setSealDie s n { d with lines := tset d.lines page { l with dirty := none } }
    if l.dirty.isSome && !chanDown s n (sealChan page) then injectSeal s page else s

/-- Dirty lines of a seal channel (R162). -/
def dirtyOn (d : SealDie) (c : Nat) : Nat :=
  (d.lines.filter (fun e => e.2.dirty.isSome && sealChan e.1 == c)).length

/-- Apply one delta: its line is made dirty, allocated if need be, or the delta is discarded with its seal
channel unavailable (R159, R162, R163, R166). None when the line cannot be allocated or dirtied yet. -/
def applyDelta (s : State) (n : Nat) (x : Delta) : Option State :=
  let d := sealDie s n
  let c := sealChan x.page
  if chanDown s n c then some s
  else
    let dirty := fun (d : SealDie) (since : Nat) =>
      { d with lines := tset d.lines x.page { dirty := some since, used := d.use + 1 }, use := d.use + 1 }
    match tget d.lines x.page with
    | some l =>
      match l.dirty with
      | some t => some (setSealDie s n (dirty d t))
      | none => if rf s (Reg.SEA_CTL n) 22 16 ≤ dirtyOn d c then none else some (setSealDie s n (dirty d (now s)))
    | none =>
      if rf s (Reg.SEA_CTL n) 22 16 ≤ dirtyOn d c then none
      else
        let set := d.lines.filter (fun e => sealSet e.1 == sealSet x.page)
        if set.length < 16 then some (setSealDie s n (dirty d (now s)))
        else
          let free := set.filter (fun e => !heldPage s n e.1)
          match free.foldl (fun (b : Option (Nat × SealLine)) e => match b with
            | none => some e
            | some v => if e.2.used < v.2.used then some e else some v) none with
          | none => none
          | some v =>
            let s := writeBackSeal s n v.1
            let d := sealDie s n
            some (setSealDie s n (dirty { d with lines := tdel d.lines v.1 } (now s)))

/-- SEAL_DELTA (R159, R162, R163, R166): the oldest delta reaches the seal cache, or waits there, and its
channel stops releasing writes. -/
def execSealDelta (die : Nat) (s : State) : Host.Outcome State Fault Refusal :=
  let d := sealDie s die
  match d.deltas with
  | [] => .next s
  | x :: rest =>
    let s := setSealDie s die { d with deltas := rest }
    match applyDelta s die x with
    | some s => .next s
    | none =>
      let d := sealDie s die
      let s := setSealDie s die { d with waiting := d.waiting ++ [x] }
      .next (setChan s die x.channel { chan s die x.channel with stalled := true })

/-- SEAL_DELTA_RESUME (R163): the oldest waiting delta is tried again; when no other of its channel waits, the
channel releases writes again. -/
def execSealDeltaResume (die : Nat) (s : State) : Host.Outcome State Fault Refusal :=
  let d := sealDie s die
  match d.waiting with
  | [] => .next s
  | x :: rest =>
    match applyDelta (setSealDie s die { d with waiting := rest }) die x with
    | none => .next s
    | some s =>
      if rest.any (fun y => y.channel == x.channel) then .next s
      else .next (setChan s die x.channel { chan s die x.channel with stalled := false })

/-- PAGE_HOLD_GRANT (R160): every delta of the page has been applied and no other hold on it is granted. -/
def execPageHoldGrant (die page : Nat) (s : State) : Host.Outcome State Fault Refusal :=
  let d := sealDie s die
  if heldPage s die page || (d.deltas ++ d.waiting).any (fun x => x.page == page) then .next s
  else match d.holds.find? (fun h => h.page == page) with
    | none => .next s
    | some h => .next (setSealDie s die { d with holds := d.holds.map (fun x => if x = h then { h with granted := true } else x) })

/-- Release the granted hold on a page. -/
def releaseHold (s : State) (n page : Nat) : State :=
  let d := sealDie s n
  setSealDie s n { d with holds := d.holds.filter (fun h => !(h.page == page && h.granted)) }

/-- The granted hold on a page is that of a given kind of holder. -/
def heldFor (s : State) (n page who : Nat) : Bool :=
  (sealDie s n).holds.any (fun h => h.page == page && h.granted && h.who == who)

/-- SEAL_LINE_AGE (R162): FLUSH_AGE after it was first dirtied a line is written back. -/
def execSealLineAge (die page : Nat) (s : State) : Host.Outcome State Fault Refusal :=
  match tget (sealDie s die).lines page with
  | none => .next s
  | some l => match l.dirty with
    | none => .next s
    | some t => .next (writeBackSeal (reach s (t + rf s (Reg.SEA_CTL die) 15 0 * 1000)) die page)

/-- SEAL_REBUILD_DONE (R154, R157, R165, R167): every waiting read of the page is answered from one decode under
the hold; a lost line reads as poisoned. -/
def execSealRebuildDone (die page : Nat) (s : State) : Host.Outcome State Fault Refusal :=
  if !heldFor s die page 0 then .next s
  else
    let s := (List.range 16).foldl (fun s q =>
      let c := chanOfGranule page q
      let k := chan s die c
      let mine := k.rebuild.filter (fun a => pageOf a.ppa == page)
      let s := setChan s die c { k with rebuild := k.rebuild.filter (fun a => pageOf a.ppa != page) }
      mine.foldl (fun s a =>
        let (s, a) := decodeRead s die c a
        let k := chan s die c
        let (s, late) := countLate s die c k.cycle a
        setChan s die c { chan s die c with done := { a with late := late } :: k.done }) s) s
    .next (releaseHold s die page)

/-! ### The scrubber -/

/-- The scrubber visits an extent: not FREE and not ZEROING (R175). DEDUCED: assumption 72. -/
def scrubbed (s : State) (e : Nat) : Bool := (extRec s e).st != exFREE && (extRec s e).st != exZEROING

/-- Put the position of the scrubber of a die, also into PNT_POS (R184). -/
def setScrub (s : State) (n pos : Nat) : State :=
  rput (setSealDie s n { sealDie s n with pos := pos }) (Reg.PNT_POS n) (pos / 2 ^ 18 + 2 ^ 9 * (pos % 2 ^ 18))

/-- A pass ends (R184). -/
def endPass (s : State) (n : Nat) : State := rput64 (bump s (Reg.PNT_PASSES n) 1) (Reg.PNT_PASSEND_LO n) (now s)

/-- The page, within the die, at or after a position that the scrubber visits next, if any before the end.
DEDUCED: assumption 72. -/
def nextScrub (s : State) (n pos : Nat) : Option Nat :=
  if scrubbed s (480 * n + pos / 2 ^ 18) && decide (pos / 2 ^ 18 < 480) then some pos
  else ((List.range' (pos / 2 ^ 18 + 1) (479 - pos / 2 ^ 18)).find? (fun i => scrubbed s (480 * n + i))).map (fun i => i * 2 ^ 18)

/-- SCRUB_VISIT (R175, R176): the scrubber asks for a hold on the next page; past the last one a pass ends. -/
def execScrubVisit (die : Nat) (s : State) : Host.Outcome State Fault Refusal :=
  let d := sealDie s die
  if 6 ≤ die ∨ rf s (Reg.PNT_CTL die) 0 0 = 0 ∨ d.selfRefresh = true ∨ s.dram.trained = false ∨ d.holds.any (fun h => h.who == 1) = true then
    .next s
  else
    let (s, p) := match nextScrub s die d.pos with
      | some p => (s, some p)
      | none => (endPass s die, nextScrub s die 0)
    match p with
    | none => .next (setScrub s die 0)
    | some p => .next (askHold (setScrub s die p) die (die * 480 * 2 ^ 18 + p) 1)

/-- What the scrubber finds on a page: a word that is not clean, a wrong seal symbol, or a marked seal word. -/
def pageFinding (s : State) (page : Nat) : Bool :=
  (List.range 512).any (fun i => markOf s (page * 512 + i) != 0)
    || s.dram.sealErr.any (fun e => e.1 / 128 == page) || s.dram.sealMarks.any (fun e => e.1 / 32 == page)
    || (List.range 16).any (fun q => s.dram.losses.any (fun l => l.covers (page * 32 + 2 * q)))

/-- SCRUB_PAGE_CHECKED (R177, R178): the page is read under its hold, correctable words are written back, located
failures rebuilt and lost lines marked; a seal that disagrees with clean data is made right and reported. -/
def execScrubPageChecked (die : Nat) (s : State) : Host.Outcome State Fault Refusal :=
  let d := sealDie s die
  let page := die * 480 * 2 ^ 18 + d.pos
  if !heldFor s die page 1 then .next s
  else
    let s := if pageFinding s page then bump s (Reg.PNT_FOUND die) 1 else s
    let clean := (List.range 512).all (fun i => markOf s (page * 512 + i) == 0)
    let s := fetchRange s (page * 4096) 4096
    let avail := (List.range 16).all (fun q => !chanDown s die (chanOfGranule page q))
    let wrong := s.dram.sealErr.any (fun e => e.1 / 128 == page)
    let s := if clean && avail && wrong then
      report (bump (recomputeSeal s page) (Reg.SEA_MISMATCH die) 1) 0x04 0x13 die (memLocation (page * 4096)) 0 none none
    else if avail && s.dram.sealMarks.any (fun e => e.1 / 32 == page) then recomputeSeal s page
    else s
    let s := releaseHold s die page
    if d.pos + 1 < 480 * 2 ^ 18 then .next (setScrub s die (d.pos + 1)) else .next (setScrub (endPass s die) die 0)

/-! ### Parity on the data path -/

/-- A parity error of a hop and the replay it causes (R24, R173). Errors within 1 µs of the one before belong to
one transfer; when 16 consecutive replays have failed it is fatal (R25, R174), as a secondary error of
the replay's record. DEDUCED: assumption 71. -/
def parityError (s : State) (n hop cls unit inst loc : Nat) : State :=
  let d := sealDie s n
  let last := tgetD d.replays (2 + hop) 0
  let cnt := if now s ≤ last + 1000 then tgetD d.replays hop 0 + 1 else 1
  let s := setSealDie s n { d with replays := tset (tset d.replays hop (if 17 ≤ cnt then 0 else cnt)) (2 + hop) (now s) }
  let e : ErrIn := { cls := 0x07, unit := unit, inst := inst, location := loc, detail := 0, tenant := none, during := none }
  let (s, slot) := btrRecord s e false
  if 17 ≤ cnt then
    let s := if hop = 0 then setSealDie s n { sealDie s n with linkLost := true } else s
    btrError s { e with cls := cls, during := some slot } false
  else s

/-- The base of a voussoir die's register window (R26). DEDUCED: assumption 71. -/
def dieWindow (n : Nat) : Nat := 0x20000000 + n * 0x01000000

/-- D2D_PARITY_ERROR (R24, R25). -/
def execD2dParityError (die : Nat) (s : State) : Host.Outcome State Fault Refusal :=
  if die < 6 ∧ inSafe s = false then .next (parityError s die 0 0x21 0x0B die (dieWindow die)) else .next s

/-- D2D_TRAINING_LOSS (R25): 10 µs without training are fatal. -/
def execD2dTrainingLoss (die : Nat) (s : State) : Host.Outcome State Fault Refusal :=
  if die < 6 ∧ inSafe s = false then
    .next (fatal (setSealDie s die { sealDie s die with linkLost := true }) 0x21 0x0B die (dieWindow die))
  else .next s

/-- ONDIE_PARITY_ERROR (R173, R174). -/
def execOndieParityError (die : Nat) (s : State) : Host.Outcome State Fault Refusal :=
  if die < 6 ∧ inSafe s = false then .next (parityError s die 1 0x20 0x10 (4 * die) (dieWindow die)) else .next s

/-! ### Injection -/

/-- A write of STK_INJ_CTL (R179, R182): a mask of a weight other than 1 or 2 changes nothing. DEDUCED: assumption 69. -/
def writeInjCtl (s : State) (n st v : Nat) : State :=
  let w := popcount 8 (bits v 7 0)
  let a := Reg.STK_INJ_CTL n st
  if 6 ≤ n ∨ 4 ≤ st ∨ (w ≠ 1 ∧ w ≠ 2) then s
  else
    let keep := b2n (bit (rg s a) 31 && (bits v 14 13 == 0 || bits v 14 13 == 3)) * 2 ^ 31
    rput s a (setBit (bits v 29 0) 15 (bit v 15 || bit (rg s a) 15) + keep)

/-- A write of SEA_INJ_CTL (R180, R183). -/
def writeSeaInj (s : State) (n v : Nat) : State :=
  let a := Reg.SEA_INJ_CTL n
  if 6 ≤ n then s else rput s a (setBit (bits v 14 0) 15 (bit v 15 || bit (rg s a) 15))

/-- STK_INJ_CTL_WRITE (R179). -/
def execStkInjCtlWrite (die stack : Nat) (value : Word32) (s : State) : Host.Outcome State Fault Refusal :=
  .next (writeInjCtl s die stack value.toNat)

/-- STK_INJ_PAR (R180): a write of STK_INJ_CTL with PAR set. -/
def execStkInjPar (die stack : Nat) (value : Word32) (s : State) : Host.Outcome State Fault Refusal :=
  .next (writeInjCtl s die stack (setBit value.toNat 15 true))

/-- SEA_INJ_ARM (R180): a write of SEA_INJ_CTL with ARM set. -/
def execSeaInjArm (die : Nat) (value : Word32) (s : State) : Host.Outcome State Fault Refusal :=
  .next (writeSeaInj s die (setBit value.toNat 15 true))

/-! ### Diagnostic commands -/

/-- INJECT (R455): the words of a stack's injection registers, or of the seal cache's. DEDUCED: assumption 69. -/
def execInject (slot : Nat) (tag : Word32) (die stack word0 word1 : Word64) (s : State) :
    Host.Outcome State Fault Refusal :=
  let bad := !atMost die 5 || !atMost stack 4
    || !(if stack = 4#64 then onlyBits word0 0xFFFF && onlyBits word1 0x7FFFFFF else onlyBits word0 0xBFFFFFFF && onlyBits word1 0xFFFFFF)
  .next (runCmd slot 0x0802 tag bad s (fun s =>
    if stack = 4#64 then
      (writeSeaInj (rput s (Reg.SEA_INJ_PAGE die.toNat) word1.toNat) die.toNat word0.toNat, Rep.ok)
    else
      (writeInjCtl (rput s (Reg.STK_INJ_SLOT die.toNat stack.toNat) word1.toNat) die.toNat stack.toNat word0.toNat, Rep.ok)))

/-- POISON_WRITE (R168, R181, R455): the marker over one line of a READY extent; a coherent line passes the
directory first (R207). -/
def execPoisonWrite (slot : Nat) (tag : Word32) (ppa : Word64) (s : State) : Host.Outcome State Fault Refusal :=
  let a := ppa.toNat
  .next (runCmd slot 0x0803 tag false s (fun s =>
    if 2880 ≤ extOf a ∨ reservedExt (extOf a) = true ∨ (extRec s (extOf a)).st ≠ exREADY then (s, .done stINVALID [])
    else
      let (ok, s) := agentLine s (a / 128) true
      if ok then (storePoison s (a / 128), Rep.ok) else (s, .again)))

/-- MEMTEST (R455). -/
def execMemtest (slot : Nat) (tag : Word32) (die channels0 channels1 pattern : Word64) (s : State) :
    Host.Outcome State Fault Refusal :=
  .next (runCmd slot 0x0801 tag (!atMost die 5) s (fun s =>
    (s, .defer [] (.memtest die.toNat (channels0.toNat + 2 ^ 64 * channels1.toNat) pattern.toNat))))

/-- Write a 64-bit pattern over the granules of a reserved extent that lie on selected channels: the last n of
them. DEDUCED: assumption 70. -/
def patternFill (base chans pattern : Nat) : Nat → State → State
  | 0, s => s
  | n + 1, s =>
    let a := base + n * 256
    let s := if bit chans (chanOf a) then (store s a ((List.range 32).flatMap (fun _ => leBytes 8 pattern))).2 else s
    patternFill base chans pattern n s

/-- MEMTEST_DONE (R455): the pattern has been written over the scratch extent of the die and read back; the
final reply carries the mismatches. DEDUCED: assumption 70. -/
def execMemtestDone (mismatches : List Word64) (s : State) : Host.Outcome State Fault Refusal :=
  match s.mbx.deferred.find? (fun d => match d.wait with
    | .memtest _ _ _ => true
    | _ => false) with
  | none => .next s
  | some d =>
    let s := match d.wait with
      | .memtest n chans pattern => patternFill (resPpa n 7 0) chans pattern 4194304 s
      | _ => s
    .next (finalReply s d stOK (leBytes 8 mismatches.length ++ wordsBytes mismatches))

end Sys2Proof.Machine
end

