-- ==== Sys2Proof/Machine/SafeCmds.lean ====
section
/-!
DEFINITION. The Buttress and the fatal safe state as commands: errors, the watchdog, injection, the entry with its
simultaneous causes, the release of the cores and the readout (R471 to R482).
-/

namespace Sys2Proof.Machine

/-- BUTTRESS_ERROR (R470 to R475): an error of a class of R471 is recorded and its reaction runs. A page that the seal
cache could not finish in the entry into the fatal safe state is SEAL_STALE from then on (R164). -/
def execButtressError (err : ErrIn) (s : State) : Host.Outcome State Fault Refusal :=
  if (btrSeverity err.cls).isNone then .next s
  else
    let page := bits err.location 41 0 / 4096
    let stale := err.cls = 0x05 ∧ s.dram.stale.contains page = false
    let s := if stale then { s with dram := { s.dram with stale := page :: s.dram.stale } } else s
    .next (btrError s err false)

/-- Whether one of two causes is primary: the lower unit, then the lower instance (R475). DEDUCED: assumption 134. -/
def causeBefore (a b : ErrIn) : Bool := decide (a.unit < b.unit) || (a.unit == b.unit && decide (a.inst ≤ b.inst))

/-- Put a cause in its place among the others. -/
def insertCause (e : ErrIn) : List ErrIn → List ErrIn
  | [] => [e]
  | a :: t => if causeBefore e a then e :: a :: t else a :: insertCause e t

/-- FATAL_SAFE_STATE_ENTRY (R475, R479): fatal causes of one KCLK cycle form one record; the first opens it and drives the
safe-state wire, the others merge as secondary errors. DEDUCED: assumption 134. -/
def execFatalSafeStateEntry (causes : List ErrIn) (s : State) : Host.Outcome State Fault Refusal :=
  let es := (causes.filter (fun e => btrSeverity e.cls == some 3)).foldr insertCause []
  .next (es.foldl (fun s e => btrError s { e with during := none } false) s)

/-- SAFE_STATE_CORE_RELEASE (R479, R535): 10 µs after the entry the Plinth releases the cores into the boot ROM. -/
def execSafeStateCoreRelease (s : State) : Host.Outcome State Fault Refusal :=
  if inSafe s = false ∨ s.bus.held = false then .next s
  else .next (enterRom (reach s (rg64 s Reg.PLN_SAFE_TIME_LO + 10000)) 4)

/-- WATCHDOG_EXPIRE (R477): WD_MS pass without a write of BTR_WDOG: FW_WATCHDOG is recorded and the cores restart. -/
def execWatchdogExpire (s : State) : Host.Outcome State Fault Refusal :=
  if rf s Reg.BTR_CTL 16 16 = 0 ∨ s.bus.held = true then .next s
  else
    let s := reach s (s.btr.wdog + rf s Reg.BTR_CTL 31 24 * 1000000)
    let s := { s with btr := { s.btr with wdog := now s } }
    .next (btrError s { cls := 0x16, unit := 0x07, inst := 0, location := Reg.BTR_WDOG, detail := 0, tenant := none, during := none } false)

/-- BTR_CLOSE_WRITE (R476, R486). DEDUCED: assumption 133. -/
def execBtrCloseWrite (value : Word32) (s : State) : Host.Outcome State Fault Refusal := .next (btrClose s (bits value.toNat 7 0))

/-- BTR_WDOG_WRITE (R477, R486): any value restarts the period. -/
def execBtrWdogWrite (_value : Word32) (s : State) : Host.Outcome State Fault Refusal :=
  .next { s with btr := { s.btr with wdog := now s } }

/-- A write of BTR_INJ (R478, R486): with GO the record of the named class is created with INJECTED, and the class's
reaction runs. What LOCATION and DETAIL it holds is left open. DEDUCED: assumption 136. -/
def btrInject (s : State) (v : Nat) : State :=
  let s := rput s Reg.BTR_INJ (bits v 30 0)
  if bit v 31 && (btrSeverity (bits v 7 0)).isSome then
    let (l, s) := free64 s
    let (d, s) := free64 s
    let e : ErrIn := { cls := bits v 7 0, unit := bits v 15 8, inst := bits v 23 16, location := l.toNat, detail := d.toNat
                       tenant := none, during := none }
    btrError s e true
  else s

/-- BTR_INJ_GO (R478, R486). -/
def execBtrInjGo (value : Word32) (s : State) : Host.Outcome State Fault Refusal := .next (btrInject s value.toNat)

/-- The mask of the lines of a range that meet a test: bit i for line i. -/
def lineMask (a n : Nat) (p : Nat → Bool) : Nat :=
  (List.range n).foldl (fun m i => if p (a / 128 + i) then m + 2 ^ i else m) 0

/-- RECOVERY_READ (R136, R146, R157, R481): the first read on a die takes its stacks out of self-refresh. -/
def execRecoveryRead (slot : Nat) (tag : Word32) (ppa length : Word64) (s : State) : Host.Outcome State Fault Refusal :=
  let a := ppa.toNat
  let n := length.toNat
  let bad := !within length 128 3968 || n % 128 != 0 || a % 128 != 0 || decide (2880 ≤ extOf a) || extOf a != extOf (a + n - 1)
  .next (runCmd slot 0x0805 tag bad s (fun s =>
    let d := sealDie s (dieOf a)
    let st := (extRec s (extOf a)).st
    if inSafe s = false then (s, .done stINVALID [])
    else if st = exFREE ∨ st = exZEROING ∨ d.linkLost = true then (s, .done stCONFLICT [])
    else
      let s := if d.selfRefresh then exitSelfRefresh s (dieOf a) else s
      let (b, _, s) := load s a n
      let poisoned := lineMask a (n / 128) (linePoisoned s)
      let plain := lineMask a (n / 128) (fun l => s.dram.stale.contains (l / 32))
      (s, .done stOK (leBytes 8 poisoned ++ leBytes 8 plain ++ b))))

end Sys2Proof.Machine
end

