-- ==== Sys2Proof/Machine/Twins.lean ====
section
/-!
DEFINITION. Twin pairs (R310, R312, R376 to R396): the mirror stream at its receiver and at its sender, the states of a
twin, takeover, resynchronisation and takeback, and the twin commands.
-/

namespace Sys2Proof.Machine

/-! ### The states (R385) -/

/-- The states, as FPT_TWIN_STAT.STATE codes them. -/
def twACTIVE : Nat := 1
def twISOLATED : Nat := 2
def twSOLO : Nat := 3
def twSTANDBY : Nat := 4
def twSYNCING : Nat := 5
def twHALTED : Nat := 6

/-- Set the state. -/
def setTwin (s : State) (st : Nat) : State := { s with twin := { s.twin with st := st } }

/-- This module applies a mirror stream. -/
def receiving (s : State) : Bool := s.twin.formed && (s.twin.st == twSTANDBY || s.twin.st == twSYNCING)

/-- A message comes from the twin. -/
def fromPeer (s : State) (m : Msg) : Bool := twinValid s && bits m.src.toNat 16 5 == bits (twinPeer s) 16 5

/-- MIRROR_ACK (R381). -/
def mirrorAck (s : State) (m : Msg) (ok : Bool) : State :=
  answer s m (Resp.plain 0x56 (if ok then sCOMPLETE else sFAULTED) 0 0 0)

/-- A message of the mirror stream arrives: one that cannot be applied is answered FAULTED. -/
def twinReq (s : State) (k op : Nat) (m : Msg) (ok : State → Msg → Bool) (f : State → Msg → State) : State :=
  arriveReq s k op m (fun s m => if fromPeer s m && ok s m then f s m else mirrorAck s m false)

/-- The mirrored extents of this module. -/
def mirroredExts (s : State) : List Nat := (s.xlt.ext.filter (fun e => e.2.mirrored && decide (2 ≤ e.2.st))).map (fun e => e.1)

/-- Every page of every mirrored extent. -/
def mirroredPages (s : State) : List Nat := (mirroredExts s).flatMap (fun e => List.range' (e * 2 ^ 18) (2 ^ 18))

/-- The event TWIN_LOST. DEDUCED: assumption 121. -/
def twinLost (s : State) : State := eventW s 0x0030 2 [s.twin.gen, s.twin.st]

/-- The event TWIN_ACTIVE (R388). -/
def twinActive (s : State) : State := eventW s 0x0031 1 ([s.twin.gen, s.twin.removed.length] ++ s.twin.removed.take 120)

/-! ### Acknowledgements at the sender -/

/-- Send the replies of a command that its twin has carried out (R379). -/
def sendOwed (s : State) (r : CfgReply) : State :=
  let s := { s with twin := { s.twin with replies := s.twin.replies.filter (fun x => x != r) } }
  let s := reply (dequeue s r.slot r.tag) r.slot r.opcode r.tag r.status r.body
  match r.final with
  | none => s
  | some (st, b) => finalReply s { slot := r.slot, opcode := r.opcode, tag := r.tag, wait := .twinSet } st b

/-- Another request of the module's own has a use. -/
def stillOut (s : State) (u : OwnUse) : Bool := s.fab.own.any (fun o => o.2.use == u)

/-- A request of the mirror stream has been applied on the standby, or no longer needs to be. -/
def mirrorDone (s : State) (id : Nat) (u : OwnUse) : State :=
  let s := dropOwn s id
  match u with
  | .mirrorTile sh t => updJob s sh (fun j => j.tile t (fun e => { e with left := e.left - 1 }))
  | .commit sh => updJob s sh (fun j => { j with acks := j.acks - 1 })
  | .mirror n =>
    if stillOut s u then s
    else match s.twin.owed.find? (fun o => o.1 == n) with
      | none => s
      | some o => answer { s with twin := { s.twin with owed := s.twin.owed.filter (fun x => x.1 != n) } } o.2.1 o.2.2
  | .cfg i => if stillOut s u then s else (s.twin.replies.filter (fun r => r.item == i)).foldl sendOwed s
  | .roce q => roceMirrored s q
  | .notify | .write _ _ | .read _ _ | .plain => s

/-- Writes of the mirror stream: their pages are dirty when the standby may lack them (R391). -/
def isMirrorWrite : OwnUse → Bool
  | .mirrorTile _ _ | .mirror _ | .roce _ => true
  | .commit _ | .cfg _ | .notify | .write _ _ | .read _ _ | .plain => false

/-- Nothing waits for the standby any more: requests of the mirror stream count as done, held requests go on (R385). -/
def settleMirror (s : State) : State :=
  let mine := s.fab.own.filter (fun o => isMirrorUse o.2.use)
  let s := mine.foldl (fun s o => if isMirrorWrite o.2.use then noteDirty s o.2.msg.addr.toNat 1 else s) s
  let s := mine.foldl (fun s o => mirrorDone s o.1 o.2.use) s
  let s := s.twin.replies.foldl sendOwed s
  let held := s.twin.heldReqs
  let s := held.foldl (fun s e => translateReq s e.1 e.2) { s with twin := { s.twin with heldReqs := [] } }
  s.eth.qps.foldl (fun s q => roceRun s q.1) s

/-- Enter SOLO: the pair splits, and its generation advances (R379, R385, R391). DEDUCED: assumption 122. -/
def enterSolo (s : State) : State :=
  settleMirror { s with twin := { s.twin with st := twSOLO, gen := (s.twin.gen + 1) % 2 ^ 32, handing := false } }

/-- Enter HALTED: requests that were held are turned away (R386). -/
def enterHalted (s : State) : State :=
  let held := s.twin.heldReqs
  let s := { s with twin := { s.twin with st := twHALTED, heldReqs := [], handing := false } }
  held.foldl (fun s e => translateReq s e.1 e.2) s

/-- The twin is heard. -/
def heard (s : State) : State := { s with twin := { s.twin with lastHeard := now s } }

/-- MIRROR_ACK (R379, R381, R383). A command that failed on the standby splits the pair; a write that the standby could not
apply stays outstanding. DEDUCED: assumption 126. -/
def execMirrorAck (port_ : Nat) (msg : Msg) (s : State) : Host.Outcome State Fault Refusal :=
  .next (arriveRsp s port_ msg (fun s => badSlots s port_ msg 0 (fun s =>
    let s := heard s
    match tget s.fab.own msg.reqid.toNat with
    | none => s
    | some o =>
      let id := msg.reqid.toNat
      if msg.status = 0#4 then
        if o.use = .plain then dropOwn s id else if isMirrorUse o.use then mirrorDone s id o.use else s
      else match o.use with
        | .cfg _ => enterSolo (mirrorDone s id o.use)
        | .plain => dropOwn s id
        | _ => s)))

/-! ### The mirror stream at its receiver -/

/-- A line in a mirrored extent of a receiving twin. DEDUCED: assumption 125. -/
def mirrorTarget (s : State) (m : Msg) : Bool :=
  receiving s && m.akind == 2 && decide (extOf m.addr.toNat < 2880) && mirroredAt s m.addr.toNat

/-- Keep the completion record that a MIRROR_WRITE carries (R356, R381, R382). DEDUCED: assumption 125. -/
def mirrorRecord (s : State) (m : Msg) : State :=
  let r := slice m.data 144 32
  let who := leAt r 0 2 % 4096
  let v : ComplRec :=
    { status := bits (leAt r 8 1) 3 0, xf := bits (leAt r 8 1) 7 4, cause := leAt r 9 1, value := leAt r 16 8, hasValue := true
      opcode := 0, expires := now s + replayWin s }
  { s with fab := { s.fab with records := tset s.fab.records (who * 2 ^ 24 + leAt r 4 4 % 2 ^ 24) v } }

/-- MIRROR_WRITE (R382): the line is written, and the record kept, before the answer. -/
def execMirrorWrite (port_ : Nat) (msg : Msg) (s : State) : Host.Outcome State Fault Refusal :=
  .next (twinReq s port_ 0x14 msg mirrorTarget (fun s m =>
    let line := m.addr.toNat / 128
    let s := if m.poison then storePoison s line
      else (storeMasked s (line * 128) (maskedBytes (slice m.data 0 16) (slice m.data 16 128))).2
    mirrorAck (if bit m.xf.toNat 0 then mirrorRecord s m else s) m true))

/-- The journal's entry of a tile. -/
def journalOf (s : State) (bulk : Bool) (x d t : Nat) : Option Journal :=
  s.twin.journal.find? (fun j => j.bulk == bulk && j.context == x && j.desc == d && j.tile == t)

/-- Put an entry into the journal in place of the old one of its tile. DESIGN CHOICE: assumption 120. -/
def putJournal (s : State) (j : Journal) : State :=
  let l := s.twin.journal.filter (fun i => !(i.bulk == j.bulk && i.context == j.context && i.desc == j.desc && i.tile == j.tile))
  { s with twin := { s.twin with journal := l ++ [j] } }

/-- The entry of a tile, or a new one. -/
def journalAt (s : State) (bulk : Bool) (x d t : Nat) : Journal :=
  (journalOf s bulk x d t).getD { bulk := bulk, context := x, desc := d, tile := t, committed := false, writes := [] }

/-- Write a tile from the journal into its extents. -/
def moveTile (s : State) (j : Journal) : State :=
  let s := j.writes.foldl (fun s w =>
    if w.2.1 then (maskedLines [(w.1, 256)] w.2.2).foldl storePoison s else (storeMasked s w.1 w.2.2).2) s
  { s with twin := { s.twin with journal := s.twin.journal.filter (fun i => i != j) } }

/-- The next tile of a stream to move (R383). -/
def movedOf (s : State) (bulk : Bool) (x d : Nat) : Nat := startTile s bulk x d

/-- Record it. -/
def setMoved (s : State) (bulk : Bool) (x d t : Nat) : State :=
  let l := s.twin.moved.filter (fun m => !(m.1 == bulk && m.2.1 == x && m.2.2.1 == d))
  { s with twin := { s.twin with moved := l ++ [(bulk, x, d, t)] } }

/-- Move the tiles of a stream that may be moved (R383): committed, with every lower tile moved. While the twin is SYNCING the
copy brings the lower tiles. -/
def moveTiles : Nat → State → Bool → Nat → Nat → State
  | 0, s, _, _, _ => s
  | n + 1, s, bulk, x, d =>
    let next := movedOf s bulk x d
    match s.twin.journal.find? (fun j => j.bulk == bulk && j.context == x && j.desc == d && j.committed
        && (decide (j.tile ≤ next) || s.twin.st == twSYNCING)) with
    | none => s
    | some j => moveTiles n (setMoved (moveTile s j) bulk x d (max next (j.tile + 1))) bulk x d

/-- MIRROR_TILE (R383): the data goes into the journal. -/
def execMirrorTile (port_ : Nat) (msg : Msg) (s : State) : Host.Outcome State Fault Refusal :=
  .next (twinReq s port_ 0x15 msg mirrorTarget (fun s m =>
    let masked := bit m.xf.toNat 1
    let b := slice m.data (if masked then 32 else 0) 256
    let l := if masked then maskedBytes (slice m.data 0 32) b else unmasked b
    let j := journalAt s (bit m.xf.toNat 0) m.context.toNat (bits m.arg.toNat 63 32) (bits m.arg.toNat 31 0)
    mirrorAck (putJournal s { j with writes := j.writes ++ [(m.addr.toNat / 256 * 256, m.poison, l)] }) m true))

/-- MIRROR_COMMIT (R383). -/
def execMirrorCommit (port_ : Nat) (msg : Msg) (s : State) : Host.Outcome State Fault Refusal :=
  .next (twinReq s port_ 0x16 msg (fun s _ => receiving s) (fun s m =>
    let bulk := bit m.xf.toNat 0
    let x := m.context.toNat
    let d := bits m.arg.toNat 63 32
    let s := putJournal s { journalAt s bulk x d (bits m.arg.toNat 31 0) with committed := true }
    mirrorAck (moveTiles s.twin.journal.length s bulk x d) m true))

/-- A bulk descriptor of the active has completed. -/
def bulkOver (s : State) (d : Nat) : State :=
  { s with twin := { s.twin with
    bulkSeen := s.twin.bulkSeen.filter (fun b => b.1 != d), moved := s.twin.moved.filter (fun m => !(m.1 && m.2.2.1 == d))
    journal := s.twin.journal.filter (fun j => !(j.bulk && j.desc == d)) } }

/-- MIRROR_ADD (R312, R383): applied as a SIGNAL. A bulk descriptor whose signal is advanced has completed. -/
def execMirrorAdd (port_ : Nat) (msg : Msg) (s : State) : Host.Outcome State Fault Refusal :=
  .next (twinReq s port_ 0x17 msg (fun s m => mirrorTarget s m && m.addr.toNat % 8 == 0) (fun s m =>
    let (v, s) := signalAdd s m.addr.toNat m.arg.toNat
    let s := if bit m.xf.toNat 0 then bulkOver s (leAt m.data 0 4) else s
    mirrorAck s m v.isSome))

/-! ### Commands of the active on the standby (R377, R379) -/

/-- Word i of a body. -/
def bodyWord (b : List Byte) (i : Nat) : Nat := leAt b (8 * i) 8

/-- The list parameter that begins with its count at word i. -/
def bodyList (b : List Byte) (i : Nat) : List Nat := (List.range (bodyWord b i)).map (fun j => bodyWord b (i + 1 + j))

/-- Whether an answer is a success. -/
def repOk (r : State × Rep) : Bool × State :=
  match r.2 with
  | .done st _ => (st == stOK, r.1)
  | .defer _ _ => (true, r.1)
  | .wait | .again => (false, r.1)

/-- A mirrored extent of this module. -/
def isMirrored (s : State) (e : Nat) : Bool := (extRec s e).mirrored && decide (2 ≤ (extRec s e).st)

/-- An allocation of the active: mirrored extents are allocated here as well, others only blocked (R377). -/
def cfgAlloc (b : List Byte) (s : State) : Bool × State :=
  let holder := bodyWord b 0
  let attr := bodyWord b 1
  let list := bodyList b 4
  if atMir attr then repOk (doAlloc holder attr (bodyWord b 2) (bodyWord b 3) list s)
  else
    let r : ExtRec := { st := exREADY, holder := holder, prio := atPrio attr, coherent := atCoh attr, mirrored := false, mapcount := 0 }
    let es := allocPick s attr (bodyWord b 2) (bodyWord b 3) list
    (true, { s with twin := { s.twin with blocked := es.foldl (fun t e => tset t e r) s.twin.blocked } })

/-- A release of the active. -/
def cfgRelease (b : List Byte) (s : State) : Bool × State :=
  let list := bodyList b 0
  let s := { s with twin := { s.twin with blocked := list.foldl tdel s.twin.blocked } }
  let mine := list.filter (isMirrored s)
  if mine.isEmpty then (true, s) else repOk (doRelease mine s)

/-- One extent whose attributes the active sets: it becomes, stays or ceases to be mirrored. -/
def cfgAttrOne (attr mask : Nat) (s : State) (e : Nat) : State :=
  let unblock := fun (s : State) => { s with twin := { s.twin with blocked := tdel s.twin.blocked e } }
  let block := fun (s : State) (r : ExtRec) => { s with twin := { s.twin with blocked := tset s.twin.blocked e r } }
  match tget s.twin.blocked e with
  | some r =>
    let r := withAttr r attr mask
    if r.mirrored then setExt (unblock s) e r else block s r
  | none =>
    let r := withAttr (extRec s e) attr mask
    if !isMirrored s e then s
    else if r.mirrored then setExt s e r
    else block (freeExtent s e) r

/-- The extents that a window resolves to are all mirrored (R379). -/
def cfgWindowFits (s : State) (ctl base : Nat) : Bool :=
  let n := bits ctl 26 16
  let es := if bit ctl 1 then (List.range n).filterMap (fun u =>
      let slot := (base + u) % 2 ^ 18
      let v := viewEnt s (bits ctl 15 8) slot
      if veValid v then some (entExtent v slot) else none) else newCover ctl base
  !es.isEmpty && es.all (isMirrored s)

/-- A context of the pair is destroyed on the standby. -/
def cfgDestroy (s : State) (x : Nat) : State :=
  let s := destroyNow s x
  let s := match (ctxAt s x).bind (fun c => c.run) with
    | some r => freeShadow s r.job.shadow
    | none => s
  { s with sched := { s.sched with ctxs := tdel s.sched.ctxs x, posts := s.sched.posts.filter (fun p => p.1 != x) }
           twin := { s.twin with moved := s.twin.moved.filter (fun m => m.1 || m.2.1 != x)
                                 journal := s.twin.journal.filter (fun j => j.bulk || j.context != x) } }

/-- Put a context of the pair into a state. -/
def cfgState (s : State) (x st : Nat) : State :=
  updCtx s x (fun c => if paired s c ∧ c.st ≠ cxDRAINING then { c with st := st, limit := none } else c)

/-- A context that exists here with its ring in a mirrored extent. -/
def isPaired (s : State) (x : Nat) : Bool := ((ctxAt s x).map (paired s)).getD false

/-- A command on extents, views and windows. -/
def cfgExtents (op : Nat) (b : List Byte) (s : State) : Bool × State :=
  let w := bodyWord b
  if op = 0x0201 then cfgAlloc b s
  else if op = 0x0202 then cfgRelease b s
  else if op = 0x0203 then
    let list := bodyList b 0
    (true, list.foldl (cfgAttrOne (w (list.length + 1)) (w (list.length + 2))) s)
  else if op = 0x0205 then
    if (List.range' (w 2) (if bit (w 3) 4 then 16 else 1)).all (isMirrored s) then repOk (doViewMap (w 0) (w 1) (w 2) (w 3) s) else (true, s)
  else if op = 0x0206 then
    let v := viewEnt s (w 0) (w 1)
    if !veValid v then (true, s) else if fenceRoom s then (true, unmapNow (w 0) (w 1) s) else (false, s)
  else if op = 0x0208 then
    if needsFence s (w 0) then (false, s)
    else if cfgWindowFits s (w 1) (w 2) then repOk (doWindowSet 0 0 (w 0) (w 1) (w 2) (w 3) s)
    else (true, if bit (winCtl s (w 0)) 0 then windowClearNow (w 0) s else s)
  else if op = 0x0209 then
    if needsFence s (w 0) then (false, s) else (true, if bit (winCtl s (w 0)) 0 then windowClearNow (w 0) s else s)
  else (true, s)

/-- A command on tenants, contexts, lintel objects and rank tables. -/
def cfgOthers (op : Nat) (b : List Byte) (s : State) : Bool × State :=
  let w := bodyWord b
  if op = 0x0301 then repOk (doTenantSet (w 0) (w 1) (w 2) (w 3) (w 4) (w 5) (w 6) s)
  else if op = 0x0302 then repOk (doTenantClear (w 0) s)
  else if op = 0x0312 then repOk (doFaultqSet (w 0) (w 1) s)
  else if op = 0x0320 then
    let v := viewEnt s (w 1) ((w 2 / 2 ^ 30) % 2 ^ 18)
    if veValid v && isMirrored s (entExtent v ((w 2 / 2 ^ 30) % 2 ^ 18)) then repOk (doCtxCreate (w 0) (w 1) (w 2) (w 3) s) else (true, s)
  else if op = 0x0321 then (true, if isPaired s (w 0) then cfgDestroy s (w 0) else s)
  else if op = 0x0323 ∨ op = 0x0325 then (true, cfgState s (w 0) cxIDLE)
  else if op = 0x0324 then (true, cfgState s (w 0) cxSUSPENDED)
  else if op = 0x0326 then (if isPaired s (w 0) then repOk (doCtxSet (w 0) (w 1) (w 2) s) else (true, s))
  else if op = 0x0340 then
    if bit (w 1) 27 then repOk (doLintelCreate (w 0) (w 1) (w 2) (w 3) (w 4) s) else (true, s)
  else if op = 0x0341 then (if ((lintel s (w 0)).map (fun l => l.twinned)).getD false then repOk (doLintelDestroy (w 0) s) else (true, s))
  else if op = 0x0343 then (if ((lintel s (w 0)).map (fun l => l.twinned)).getD false then repOk (doLintelBreak (w 0) s) else (true, s))
  else if op = 0x0410 then repOk (doRankTable (w 0) (w 1) (bodyList b 2) s)
  else (true, s)

/-- Apply one item: a command, or the acceptance or completion of a bulk descriptor (R381). DEDUCED: assumption 123. -/
def cfgApply (kind : Nat) (b : List Byte) (s : State) : Bool × State :=
  if kind = 0 then
    let op := bits (leAt b 0 8) 31 16
    let body := b.drop 16
    if op / 256 = 2 then cfgExtents op body s else cfgOthers op body s
  else if kind = 1 then
    (true, { s with twin := { s.twin with bulkSeen := s.twin.bulkSeen ++ [(leAt b 64 4, slice b 0 64)] } })
  else if kind = 2 then (true, bulkOver s (leAt b 0 4))
  else (false, s)

/-- MIRROR_CFG (R379, R381): the item is applied when its fragments are there. -/
def execMirrorCfg (port_ : Nat) (msg : Msg) (s : State) : Host.Outcome State Fault Refusal :=
  .next (twinReq s port_ 0x18 msg (fun s _ => receiving s) (fun s m =>
    let kind := m.xf.toNat
    let item := bits m.arg.toNat 15 0
    let idx := bits m.arg.toNat 23 16
    let mine := fun (e : Nat × Nat × Nat × List Byte) => e.1 == kind && e.2.1 == item
    let parts := (s.twin.cfg.filter (fun e => mine e && e.2.2.1 != idx)) ++ [(kind, item, idx, slice m.data 0 (16 * m.dslots.toNat))]
    let rest := s.twin.cfg.filter (fun e => !mine e)
    let last := (parts.find? (fun e => decide (128 ≤ e.2.2.1))).map (fun e => e.2.2.1 - 128)
    let part := fun (i : Nat) => (parts.find? (fun e => e.2.2.1 % 128 == i)).map (fun e => e.2.2.2)
    match last with
    | none => mirrorAck { s with twin := { s.twin with cfg := rest ++ parts } } m true
    | some n =>
      if (List.range (n + 1)).any (fun i => (part i).isNone) then mirrorAck { s with twin := { s.twin with cfg := rest ++ parts } } m true
      else
        let b := (List.range (n + 1)).flatMap (fun i => (part i).getD [])
        let (ok, s) := cfgApply kind b { s with twin := { s.twin with cfg := rest } }
        mirrorAck s m ok))

/-! ### Takeover (R388, R393) -/

/-- A context under R379 goes on from its ring: HEAD, STOP_CAUSE and TAIL are read again. -/
def resumeContext (s : State) (x : Nat) : State :=
  let s := dropNext (dropPark s x) x
  match ctxAt s x with
  | none => s
  | some c =>
    let s := match c.run with
      | some r => freeShadow s r.job.shadow
      | none => s
    let c := { c with run := none }
    match ringRead s c c.ring 0x20 with
    | (s, .ok b _) =>
      let head := leAt b 0 8
      let cause := leAt b 0x18 8
      let s := { s with twin := { s.twin with moved := s.twin.moved.filter (fun m => m.1 || m.2.1 != x || m.2.2.1 == head % 2 ^ 32
        || m.2.2.1 == (head + 1) % 2 ^ 32) } }
      if c.st = cxSUSPENDED then setCtx s x { c with head := head, tail := max head c.tail }
      else if cause ≠ 0 then setCtx s x { c with head := head, tail := head, st := cxSTOPPED, cause := cause }
      else settle (setCtx s x { c with head := head, tail := head, st := cxIDLE, pend := true, overrun := false }) x
    | (s, _) => enterStopped (setCtx s x c) x stRING

/-- Take over a bulk descriptor of the old active from its lowest tile not moved. -/
def resumeBulk (s : State) (d : Nat) (raw : List Byte) : State :=
  let x := (bulkOf raw).context
  match ctxAt s x with
  | none => s
  | some c =>
    let t := movedOf s true x d
    let n := s.sched.nextShadow
    let m := withData { mkMsg s 0 0x0B (portCoord s 0) with context := BitVec.ofNat 14 x } raw
    updJob (admitBulk s x c m).1 n (fun j => { j with nextTile := t, tiles := t })

/-- The contexts whose rings lie in mirrored extents. -/
def pairedContexts (s : State) : List Nat := (s.sched.ctxs.filter (fun c => paired s c.2)).map (fun c => c.1)

/-- Steps 3 and 4 of R388: the work of the pair goes on here, in the given state. DEDUCED: assumption 124. -/
def takeOver (s : State) (st : Nat) : State :=
  let s := { s with twin := { s.twin with st := st, journal := [], cfg := [], handing := false } }
  let bulk := s.twin.bulkSeen
  let s := (pairedContexts s).foldl resumeContext s
  let s := bulk.foldl (fun s b => resumeBulk s b.1 b.2) { s with twin := { s.twin with bulkSeen := [] } }
  twinActive { s with twin := { s.twin with moved := s.twin.moved.filter (fun m => !m.1) } }

/-- Steps 1 and 2 of R388: the journal is discarded, and extents that were not mirrored leave every view. -/
def beginTakeover (s : State) : State :=
  let gone := s.twin.blocked.map (fun e => e.1)
  let s := { s with twin := { s.twin with journal := [], removed := gone, blocked := [] } }
  (gone.flatMap (mappers s)).foldl (fun s v => if veValid (viewEnt s v.1 v.2) then unmapNow v.1 v.2 s else s) s

/-- The effect of TWIN_PROMOTE. -/
def doPromote (s : State) : State × Rep :=
  if s.twin.st = twSTANDBY then (beginTakeover s, .defer [] .twinPromote)
  else if s.twin.st = twHALTED then (enterSolo s, .defer [] .twinPromote)
  else (s, .done stINVALID [])

/-- Deferred promotions of a twin that is SOLO send their final reply. -/
def finishPromote (s : State) : State := if s.twin.st = twSOLO then finishAll s (fun w => w == .twinPromote) stOK [] else s

/-- TWIN_PROMOTE (R385, R388, R394). -/
def execTwinPromote (slot : Nat) (tag : Word32) (s : State) : Host.Outcome State Fault Refusal :=
  .next (finishPromote (runCmd slot 0x0512 tag false s doPromote))

/-- TAKEOVER_DONE (R388): with the fences over the removed extents complete, the promoted twin is SOLO. -/
def execTakeoverDone (s : State) : Host.Outcome State Fault Refusal :=
  if s.twin.st ≠ twSTANDBY ∨ s.mbx.deferred.any (fun d => d.wait == .twinPromote) = false ∨ s.twin.removed.any (fenced s) = true
      ∨ inSafe s = true then .next s
  else
    let gen := (s.twin.gen + 1) % 2 ^ 32
    .next (finishPromote (takeOver { s with twin := { s.twin with gen := gen } } twSOLO))

/-- The old active of a handover becomes the standby: what it had begun is known to the pair by its lowest tiles
(R393). -/
def leaveActive (s : State) (x : Nat) : State :=
  let s := dropNext (dropPark s x) x
  let s := (bulkOfCtx s x).foldl (fun s b =>
    if (bulkOf b.raw).mirrors s (shadowAt s b.job.shadow) then
      let s := setMoved s true x b.job.desc b.job.tiles
      dropBulk { s with twin := { s.twin with bulkSeen := s.twin.bulkSeen ++ [(b.job.desc, b.raw)] } } b.job.shadow
    else s) s
  match ctxAt s x with
  | none => s
  | some c => match c.run with
    | none => s
    | some r => setCtx (setMoved (freeShadow s r.job.shadow) false x (r.job.desc % 2 ^ 32) r.job.tiles) x { c with run := none }

/-- A context of the pair has no course, no tile in flight and nothing on its way to the standby. -/
def quiet (s : State) (x : Nat) : Bool :=
  (match (ctxAt s x).bind (fun c => c.run) with
    | none => true
    | some r => r.members.isEmpty && r.job.flight.isEmpty && r.job.acks == 0 && r.job.phase == 0)
  && (bulkOfCtx s x).all (fun b => b.job.flight.isEmpty && b.job.acks == 0)

/-- Steps 1 and 2 of R393: the active preempts every context of the pair. -/
def beginHandover (s : State) : State :=
  let s := (pairedContexts s).foldl (fun s x => updRun s x (fun r => { r with stop := if r.stop = 0 then 1 else r.stop })) s
  { s with twin := { s.twin with handing := true } }

/-- Step 3 of R393, once steps 1 and 2 are over. DEDUCED: assumption 124. -/
def handOver (s : State) : State :=
  if !s.twin.handing || s.twin.st != twACTIVE || !(pairedContexts s).all (quiet s)
      || s.fab.own.any (fun o => isMirrorUse o.2.use) then s
  else
    let s := (pairedContexts s).foldl leaveActive s
    let s := { s with twin := { s.twin with st := twSTANDBY, standbyAt := now s, handing := false } }
    finishAll s (fun w => w == .twinTakeback) stOK []

/-! ### Beats and the mirror (R380, R385) -/

/-- MIRROR_BEAT_TIMER (R380): every 10 µs a beat leaves on every mirror port, with the state and the generation. A handover
whose preemptions are over ends first (R393). -/
def execMirrorBeatTimer (s : State) : Host.Outcome State Fault Refusal :=
  if !twinValid s || inSafe s then .next s
  else
    let s := handOver (reach s ((now s / 10000 + 1) * 10000))
    .next ((mirrorPorts s).foldl (fun s k =>
      let m := { mkMsg s 0 0x19 (twinPeer s) with arg := BitVec.ofNat 64 (s.twin.st + 2 ^ 32 * s.twin.gen) }
      ownRequestVia { s with twin := { s.twin with bytes := s.twin.bytes + msgSlots m * 16 } } k m .plain) s)

/-- The peer's state changes as a beat tells it: a SYNCING peer is copied to (R392), one that stands by is timed (R393), and a
primary that finds its twin in STANDBY takes over. -/
def peerState (s : State) (st gen : Nat) : State :=
  let old := s.twin.peerSt
  let s := { s with twin := { s.twin with peerSt := st, peerGen := gen } }
  let s := if s.twin.st = twSOLO ∧ st = twSYNCING ∧ old ≠ twSYNCING then
      let pages := if gen = s.twin.gen then s.twin.dirty else mirroredPages s
      { s with twin := { s.twin with toCopy := pages, total := pages.length } }
    else s
  let s := if s.twin.st = twACTIVE ∧ st = twSTANDBY ∧ old ≠ twSTANDBY then { s with twin := { s.twin with standbyAt := now s } } else s
  if s.twin.st = twSTANDBY ∧ st = twSTANDBY ∧ s.twin.formed = true ∧ rf s Reg.FPT_TWIN_CTL 17 17 = 1 then
    takeOver { s with twin := { s.twin with removed := [] } } twACTIVE
  else s

/-- MIRROR_BEAT (R380, R385). -/
def execMirrorBeat (port_ : Nat) (msg : Msg) (s : State) : Host.Outcome State Fault Refusal :=
  .next (twinReq s port_ 0x19 msg (fun _ _ => true) (fun s m =>
    mirrorAck (peerState (heard s) (bits m.arg.toNat 2 0) (bits m.arg.toNat 63 32)) m true))

/-- No mirror port is UP, or one of them is fenced: the mirror is lost at once (R385). DEDUCED: assumption 121. -/
def mirrorDown (s : State) : Bool :=
  (mirrorPorts s).all (fun k => !portUp s k) || (mirrorPorts s).any (fun k => (port s k).st == .fenced)

/-- MIRROR_LOSS (R385): the mirror is lost, at once or LOSS_T after the twin was last heard. The twin's manager hears of it. -/
def execMirrorLoss (s : State) : Host.Outcome State Fault Refusal :=
  if !s.twin.formed || s.twin.lost || inSafe s then .next s
  else
    let s := if mirrorDown s then s else reach s (s.twin.lastHeard + rf s Reg.FPT_TWIN_TIMERS 7 0 * 1000)
    let s := { s with twin := { s.twin with lost := true, lostAt := now s } }
    if s.twin.st = twACTIVE then
      .next (twinLost { s with twin := { s.twin with st := twISOLATED, isolatedAt := now s, handing := false } })
    else if s.twin.st = twSTANDBY then .next (twinLost s)
    else if s.twin.st = twSYNCING then .next (enterHalted s)
    else if s.twin.st = twSOLO ∧ s.twin.peerSt = twSYNCING then
      .next (settleMirror { s with twin := { s.twin with peerSt := 0, toCopy := [], total := 0 } })
    else .next s

/-- MIRROR_RESTORED (R385): an ISOLATED active goes on, with its held writes mirrored; a HALTED twin of a SOLO one is brought
back into step. -/
def execMirrorRestored (s : State) : Host.Outcome State Fault Refusal :=
  if !s.twin.formed || inSafe s || (!s.twin.lost && s.twin.st != twHALTED) || mirrorDown s then .next s
  else
    let s := heard { s with twin := { s.twin with lost := false } }
    if s.twin.st = twISOLATED then
      let held := s.twin.heldReqs
      let s := { s with twin := { s.twin with st := twACTIVE, heldReqs := [] } }
      let s := (s.fab.own.filter (fun o => isMirrorUse o.2.use)).foldl (fun s o => resendOwn s o.1 { o.2 with tries := 0 }) s
      let s := held.foldl (fun s e => translateReq s e.1 e.2) s
      .next (s.eth.qps.foldl (fun s q => roceRun s q.1) s)
    else if s.twin.st = twHALTED ∧ s.twin.peerSt = twSOLO then
      let own := s.fab.own.filter (fun o => !isMirrorUse o.2.use)
      let s := { s with fab := { s.fab with own := own }
                        twin := { s.twin with st := twSYNCING, owed := [], journal := [], moved := [], bulkSeen := [], cfg := [], dirty := [] } }
      .next (s.twin.replies.foldl sendOwed ((pairedContexts s).foldl leaveActive s))
    else .next s

/-- SOLO_WAIT_EXPIRE (R385, R387). -/
def execSoloWaitExpire (s : State) : Host.Outcome State Fault Refusal :=
  if s.twin.st ≠ twISOLATED then .next s
  else .next (enterHalted (reach s (s.twin.isolatedAt + rf s Reg.FPT_TWIN_TIMERS 17 8 * 1000)))

/-! ### Forming and resynchronisation (R376, R392) -/

/-- PAIR_FORM (R376): with every mirror port UP the pair forms, and the primary copies every mirrored extent.
DEDUCED: assumption 119. -/
def execPairForm (s : State) : Host.Outcome State Fault Refusal :=
  if !twinValid s || s.twin.formed || (mirrorPorts s).isEmpty || !(mirrorPorts s).all (portUp s) || inSafe s then .next s
  else
    let prim := rf s Reg.FPT_TWIN_CTL 17 17 == 1
    let pages := if prim then mirroredPages s else []
    .next (heard { s with twin := { s.twin with
      formed := true, st := if prim then twACTIVE else twSYNCING, lost := false, toCopy := pages, total := pages.length
      handing := false, removed := [] } })

/-- The pages that were left are copied: their bytes count as sent (R396). DESIGN CHOICE: assumption 120. -/
def copyDone (s : State) : State :=
  { s with twin := { s.twin with bytes := s.twin.bytes + s.twin.toCopy.length * 4096, toCopy := [], total := 0 } }

/-- INITIAL_COPY_DONE (R376, R394): the primary's copy is done, and the final reply of TWIN_SET leaves. -/
def execInitialCopyDone (s : State) : Host.Outcome State Fault Refusal :=
  if !s.twin.formed || s.twin.st != twACTIVE then .next s
  else .next (finishAll (copyDone s) (fun w => w == .twinSet) stOK [])

/-- Clear the dirty map, in the unit and in reserved extent 4 of each die (R391, R392). -/
def clearDirty (s : State) : State :=
  let m := (List.range 6).foldl (fun m n => memZero m (resPpa n 4 0) 15728640) s.mem
  { s with mem := m, twin := { s.twin with dirty := [] } }

/-- RESYNC_DONE (R385, R392): the SOLO twin is ACTIVE, the SYNCING one STANDBY. -/
def execResyncDone (s : State) : Host.Outcome State Fault Refusal :=
  if !s.twin.formed || inSafe s then .next s
  else if s.twin.st = twSOLO ∧ s.twin.peerSt = twSYNCING then .next (clearDirty (setTwin (copyDone s) twACTIVE))
  else if s.twin.st = twSYNCING then
    .next (finishAll { s with twin := { s.twin with st := twSTANDBY, standbyAt := now s } } (fun w => w == .twinSet) stOK [])
  else .next s

/-- REVERT_HOLD_EXPIRE (R393): with REVERT = 1 the primary has been STANDBY for REVERT_HOLD, and the active hands over. The
primary takes over when a beat tells it that its twin stands by. -/
def execRevertHoldExpire (s : State) : Host.Outcome State Fault Refusal :=
  let prim := rf s Reg.FPT_TWIN_CTL 17 17 == 1
  if !s.twin.formed || rf s Reg.FPT_TWIN_CTL 18 18 == 0 || inSafe s || s.twin.lost then .next s
  else
    let t := s.twin.standbyAt + rf s Reg.FPT_TWIN_TIMERS 31 18 * 1000000000
    if s.twin.st = twACTIVE ∧ s.twin.peerSt = twSTANDBY ∧ prim = false then .next (handOver (beginHandover (reach s t)))
    else if s.twin.st = twSTANDBY ∧ prim = true then .next (reach s t)
    else .next s

/-! ### The commands (R394, R449) -/

/-- The effect of TWIN_SET. -/
def doTwinSet (peer ports flags loss solo hold : Nat) (witness : List Byte) (s : State) : State × Rep :=
  if s.twin.formed then (s, .done stCONFLICT [])
  else
    let s := rput (rput s Reg.FPT_TWIN_CTL (peer + 2 ^ 17 * flags + 2 ^ 31)) Reg.FPT_TWIN_PORTS ports
    let s := rput s Reg.FPT_TWIN_TIMERS (loss + 2 ^ 8 * solo + 2 ^ 18 * hold)
    ({ s with mbx := { s.mbx with witness := witness } }, .defer [] .twinSet)

/-- TWIN_SET (R376, R394). DEDUCED: assumption 119. -/
def execTwinSet (slot : Nat) (tag : Word32) (peer ports flags : Word64) (witness : List Word64) (lossT soloWait revertHold : Word64)
    (s : State) : Host.Outcome State Fault Refusal :=
  let bad := !onlyBits peer 0x1FFFF || !onlyBits ports 0xFFFFFFFF || ports == 0#64 || !onlyBits flags 3 || witness.length != 6
    || !within lossT 10 255 || !within soloWait 50 1023 || !within revertHold 1 16383
  .next (runCmd slot 0x0510 tag bad s
    (doTwinSet peer.toNat ports.toNat flags.toNat lossT.toNat soloWait.toNat revertHold.toNat (wordsBytes witness)))

/-- FPT_TWIN_STAT (R396). -/
def twinStat (s : State) : Nat := s.twin.st + 2 ^ 3 * b2n s.twin.formed

/-- Put a number into a rising list. -/
def insertNat (a : Nat) : List Nat → List Nat
  | [] => [a]
  | b :: t => if a ≤ b then a :: b :: t else b :: insertNat a t

/-- TWIN_QUERY (R449). The period over which the mirror load is taken is not stated: it is a free value. -/
def execTwinQuery (slot : Nat) (tag : Word32) (start : Word64) (s : State) : Host.Outcome State Fault Refusal :=
  .next (runCmd slot 0x0511 tag false s (fun s =>
    let (load, s) := free64 s
    let all := s.twin.removed.foldr insertNat []
    let l := (all.drop start.toNat).take 500
    (s, Rep.words ([twinStat s, s.twin.gen, s.twin.toCopy.length, load.toNat, all.length, l.length] ++ l))))

/-- TWIN_DEMOTE (R385). -/
def execTwinDemote (slot : Nat) (tag : Word32) (s : State) : Host.Outcome State Fault Refusal :=
  .next (runCmd slot 0x0513 tag false s (fun s =>
    if s.twin.st = twHALTED then (s, Rep.ok)
    else if s.twin.st = twACTIVE ∨ s.twin.st = twISOLATED ∨ s.twin.st = twSOLO ∨ s.twin.st = twSYNCING then (enterHalted s, Rep.ok)
    else (s, .done stINVALID [])))

/-- TWIN_SOLO (R385). -/
def execTwinSolo (slot : Nat) (tag : Word32) (s : State) : Host.Outcome State Fault Refusal :=
  .next (runCmd slot 0x0514 tag false s (fun s =>
    if s.twin.st = twISOLATED then (enterSolo s, Rep.ok)
    else if s.twin.st = twSOLO then (s, Rep.ok)
    else (s, .done stINVALID [])))

/-- TWIN_TAKEBACK (R393, R394). -/
def execTwinTakeback (slot : Nat) (tag : Word32) (s : State) : Host.Outcome State Fault Refusal :=
  .next (handOver (runCmd slot 0x0515 tag false s (fun s =>
    if s.twin.st ≠ twACTIVE ∨ s.twin.peerSt ≠ twSTANDBY then (s, .done stINVALID [])
    else (beginHandover s, .defer [] .twinTakeback))))

/-- The effect of TWIN_CLEAR: what waits for the twin goes on without it, and copies become this module's own. -/
def doTwinClear (s : State) : State × Rep :=
  let was := s.twin.st
  let s := rput (rput s Reg.FPT_TWIN_CTL 0) Reg.FPT_TWIN_PORTS 0
  let s := { s with mbx := { s.mbx with witness := [] }
                    twin := { s.twin with st := 0, formed := false, lost := false, handing := false, blocked := [], toCopy := [], total := 0
                                          journal := [], cfg := [], peerSt := 0 } }
  let s := settleMirror s
  let s := if twSTANDBY ≤ was then
      let bulk := s.twin.bulkSeen
      bulk.foldl (fun s b => resumeBulk s b.1 b.2) ((pairedContexts s).foldl resumeContext { s with twin := { s.twin with bulkSeen := [] } })
    else s
  (finishAll s (fun w => w == .twinSet || w == .twinPromote || w == .twinTakeback) stCONFLICT [], Rep.ok)

/-- TWIN_CLEAR (R394). -/
def execTwinClear (slot : Nat) (tag : Word32) (s : State) : Host.Outcome State Fault Refusal :=
  .next (runCmd slot 0x0516 tag false s doTwinClear)

end Sys2Proof.Machine
end

