-- ==== Sys2Proof/Machine/Regs.lean ====
section
/-!
DEFINITION. The register file as a bus master sees it: what each register reads as, the access codes of R14, the halves of
a 64-bit quantity (R10), the SET and CLR addresses (R12), the MIC's claim and completion (R460 to R466), and the commands
that write and read registers.
-/

namespace Sys2Proof.Machine

/-! ### What a register reads as -/

/-- The low or the high word of a 64-bit quantity. -/
def half (hi : Bool) (v : Nat) : Nat := if hi then v / 2 ^ 32 % 2 ^ 32 else v % 2 ^ 32

/-- The courses that run a descriptor, as the bits of XLT_SCHED_STAT.BUSY (R260). -/
def busyCourses (s : State) : Nat :=
  (List.range 12).foldl (fun w c =>
    if s.sched.ctxs.any (fun e => ((e.2.run.map (fun r => r.members.contains c)).getD false)) then w + 2 ^ c else w) 0

/-- The context that course c runs, its member number and the size of its gang (R258). -/
def courseWork (s : State) (c : Nat) : Option (Nat × Nat × Nat) :=
  s.sched.ctxs.findSome? (fun e => match e.2.run with
    | some r => (r.members.findIdx? (fun n => n == c)).map (fun m => (e.1, m, r.members.length))
    | none => none)

/-- CRS_STAT (R261). -/
def courseStat (s : State) (n c : Nat) : Nat :=
  let k := 2 * n + c
  let r := courseWork s k
  let st := if bit s.sched.draining k then 2 else if rf s (Reg.CRS_CTL n c) 0 0 = 0 then 3 else b2n r.isSome
  match r with
  | none => st
  | some (x, m, g) => st + 2 ^ 2 * x + 2 ^ 16 * m + 2 ^ 20 * g

/-- XLT_FENCEf (R115). -/
def fenceWord (f : Fence) : Nat :=
  f.extents.foldl min (f.extents.headD 0) + 2 ^ 12 * f.extents.length + 2 ^ 23 * f.cause

/-- The registers of translation and contexts that show state held elsewhere (R115, R260). -/
def viewXLT (s : State) (base x : Nat) : Option Nat :=
  if base = Reg.XLT_FENCE_OPEN_LO then some (half false (s.xlt.fences.foldl (fun w f => w + 2 ^ f.1) 0))
  else if base = Reg.XLT_FENCE_OPEN_HI then some (half true (s.xlt.fences.foldl (fun w f => w + 2 ^ f.1) 0))
  else if base = Reg.XLT_SHADOW_STAT then some s.xlt.shadows.length
  else if base = Reg.XLT_VCACHE_MISS_LO then some (half false s.xlt.vmiss)
  else if base = Reg.XLT_VCACHE_MISS_HI then some (half true s.xlt.vmiss)
  else if base = Reg.XLT_FENCE 0 then some (((tget s.xlt.fences x).map fenceWord).getD 0)
  else if base = Reg.XLT_FQ_OPEN 0 then some ((faultsOf s x).length + 2 ^ 16 * (tgetD s.xlt.unrecorded x []).length)
  else if base = Reg.XLT_SCHED_STAT then
    some ((s.sched.ctxs.filter (fun e => e.2.st == cxREADY)).length + 2 ^ 16 * busyCourses s)
  else if base = Reg.XLT_CTX_CFG 0 then some (ctxCfgWord s x)
  else if base = Reg.XLT_CTX_STAT 0 then some (ctxStatWord s x)
  else none

/-- The fabric and twin registers that show state held elsewhere (R362, R396). -/
def viewFPT (s : State) (base x : Nat) : Option Nat :=
  if base = Reg.FPT_STAT 0 then some (fptStat s x)
  else if base = Reg.FPT_LINK 0 then some (fptLink s x)
  else if base = Reg.FPT_RECSTAT then some s.fab.records.length
  else if base = Reg.FPT_TWIN_STAT then some (twinStat s)
  else if base = Reg.FPT_TWIN_GEN then some s.twin.gen
  else if base = Reg.FPT_TWIN_BYTES_LO then some (half false s.twin.bytes)
  else if base = Reg.FPT_TWIN_BYTES_HI then some (half true s.twin.bytes)
  else if base = Reg.FPT_TWIN_DIRTY then some s.twin.dirty.length
  else none

/-- The registers of a voussoir die that show state held elsewhere (R147, R183, R261). The segment mask keeps its reset
value until the stacks are trained. DEDUCED: assumption 159. -/
def viewDie (s : State) (base n x y : Nat) : Option Nat :=
  if base = Reg.STK_PASR 0 0 0 then some (if s.dram.trained then pasrWord s n y else 0xFFFFFFFF)
  else if base = Reg.STK_CHSTAT 0 0 0 then
    let k := chan s n (32 * x + y)
    some (k.st + 2 ^ 3 * k.lanes + 2 ^ 16 * min k.tracks 0xFFFF)
  else if base = Reg.SEA_STAT 0 then
    let d := sealDie s n
    some ((d.lines.filter (fun e => e.2.dirty.isSome)).length + 2 ^ 16 * (d.holds.filter (fun h => h.granted)).length)
  else if base = Reg.CRS_STAT 0 0 then some (courseStat s n x)
  else if base = Reg.CRS_CAP 0 0 0 then capWords[y]?
  else none

/-- The directory registers that show state held elsewhere (R221). -/
def viewDIR (s : State) (base x : Nat) : Option Nat :=
  if base = Reg.DIR_STAT then some s.dirc.entries.length
  else if base = Reg.DIR_TXN then some s.dirc.txns.length
  else if base = Reg.DIR_SWEEP then some ((s.dirc.sweep.map (fun w => w.1 + 2 ^ 10)).getD 0)
  else if base = Reg.DIR_EP 0 then some (((tget s.dirc.eps x).map (fun e => e.1 + 2 ^ 17 * e.2)).getD 0)
  else none

/-- LNT_OBJb_CFG (R315). -/
def lintelWord (l : Lintel) : Nat :=
  1 + 2 * l.mode + 2 ^ 3 * b2n l.twinned + 2 ^ 4 * l.job + 2 ^ 10 * l.participants + 2 ^ 21 * l.tenant

/-- The registers of the watch and lintel units that show state held elsewhere (R314, R315). -/
def viewSIG (s : State) (base x : Nat) : Option Nat :=
  let l := tget s.sig.lintels x
  if base = Reg.SIG_STAT then some s.sig.watches.length
  else if base = Reg.LNT_STAT then some s.sig.lintels.length
  else if base = Reg.LNT_OBJ_CFG 0 then some ((l.map lintelWord).getD 0)
  else if base = Reg.LNT_OBJ_GEN 0 then some ((l.map (fun l => l.cur)).getD 0)
  else if base = Reg.LNT_OBJ_COUNT 0 then some ((l.map (fun l => l.countCur + 2 ^ 16 * l.countNext)).getD 0)
  else if base = Reg.LNT_OBJ_BROKEN 0 then some ((l.map (fun l => l.broken)).getD 0)
  else none

/-- Word k of the pending bits (R463). -/
def pendWord (s : State) (k : Nat) : Nat :=
  (List.range 32).foldl (fun w i => if micPending s (32 * k + i) then w + 2 ^ i else w) 0

/-- The registers of the management complex that show state held elsewhere (R395, R420, R459, R484, R486, R511).
DESIGN CHOICE: assumption 42. -/
def viewMgmt (s : State) (base x y : Nat) : Option Nat :=
  if base = Reg.PWR_TB_STAT then some (tbStat s)
  else if base = Reg.PWR_TB_NOW_LO then some (half false (now s))
  else if base = Reg.PWR_TB_NOW_HI then some (half true (now s))
  else if base = Reg.ETH_STAT 0 then some (ethStat s x)
  else if base = Reg.ETH_ROCE_STAT then some s.eth.qps.length
  else if base = Reg.MBX_OWNER then some (s.mbx.owner.getD 0xF)
  else if base = Reg.MBX_EPOCH then some s.mbx.epoch
  else if base = Reg.MBX_EXPIRES_LO then some (half false s.mbx.expires)
  else if base = Reg.MBX_EXPIRES_HI then some (half true s.mbx.expires)
  else if base = Reg.MBX_SLOT 0 then some (slotWord s x)
  else if base = Reg.MIC_RAW 0 then some (s.mic.level.toNat / 2 ^ (32 * x) % 2 ^ 32)
  else if base = Reg.MIC_PEND 0 then some (pendWord s x)
  else if base = Reg.BTR_STAT then
    some (s.btr.recs.length + 2 ^ 9 * b2n (tget s.btr.recs 0).isSome + 2 ^ 10 * b2n (tget s.btr.recs 255).isSome)
  else if base = Reg.BTR_NEW 0 then some (s.btr.new.toNat / 2 ^ (32 * x) % 2 ^ 32)
  else if base = Reg.BTR_REC 0 0 then some (((tget s.btr.recs x).map (fun r => leAt r.toBytes (4 * y) 4)).getD 0)
  else if base = Reg.SEC_MEAS 0 0 then some (measurementWord s (x + 1) y)
  else none

/-- The view that a block gives of a register, or none where the register is a stored word. -/
def regView (s : State) (base : Nat) (i : List Nat) : Option Nat :=
  let x := i.getD 0 0
  let y := i.getD 1 0
  let b := base / 0x1000000
  if b = 0x20 then viewDie s base x y (i.getD 2 0)
  else if b = 0x13 then viewFPT s base x
  else if b = 0x14 then viewDIR s base x
  else if b = 0x15 then viewXLT s base x
  else if b = 0x16 then viewSIG s base x
  else viewMgmt s base x y

/-- The value of the register at an address of a row; a WO register reads as 0 (R14). -/
def rowValue (s : State) (r : RegRow) (a : Nat) : Nat :=
  if r.wo ≠ 0 then 0
  else ((regView s r.base (regIdx (a - r.base) r.dims)).getD (rg s a)) % 2 ^ 32

/-! ### The interrupt controller's own reads and writes (R465, R466) -/

/-- Core c reads MIC_CLAIMc: it claims the best source deliverable to it, or the return is spurious.
DEDUCED: assumption 22. -/
def micClaim (s : State) (c : Nat) : Nat × State :=
  match micBest s c with
  | some x => (x + 2 ^ 31, { s with mic := { s.mic with claim := tset s.mic.claim x c } })
  | none => (0, bump s (Reg.MIC_SPUR c) 1)

/-- Core c's claim on a source ends, and its COAL hold begins; a source that the core has not claimed is counted. -/
def micComplete (s : State) (c v : Nat) : State :=
  let x := bits v 8 0
  if tget s.mic.claim x ≠ some c then bump s (Reg.MIC_BADCOMP c) 1
  else
    let coal := rf s (Reg.MIC_PRIO x) 15 8
    let hold := if coal = 0 then s.mic.hold else tset s.mic.hold x (now s + coal * 1000)
    { s with mic := { s.mic with claim := tdel s.mic.claim x, hold := hold } }

/-! ### SET and CLR addresses (R12) -/

/-- The registers with SET and CLR addresses. -/
def setClrBases : List Nat := [Reg.MIC_PEND 0, Reg.MIC_TGT 0 0, Reg.PLN_WAKE_SRC, Reg.BTR_NEW 0]

/-- The register whose SET or CLR address this is, and whether it is the SET address. -/
def setClrOf (a : Nat) : Option (Nat × Bool) :=
  let isOne := fun (b : Nat) => ((regRow b).map (fun r => setClrBases.contains r.base)).getD false
  if isOne (a - 4) then some (a - 4, true)
  else if isOne (a - 8) then some (a - 8, false)
  else none

/-- Set or clear the bits of a mask. -/
def maskBits (set : Bool) (w m : Nat) : Nat := if set then w ||| m else w - (w &&& m)

/-- A vector with word k, of 32 bits, changed by a mask. -/
def maskWord (n : Nat) (set : Bool) (v : BitVec n) (k m : Nat) : BitVec n :=
  let b := BitVec.ofNat n (m * 2 ^ (32 * k))
  if set then v ||| b else v &&& ~~~b

/-- The bits of word k whose sources are not reserved: a reserved source never asserts (R460). -/
def realBits (k m : Nat) : Nat :=
  (List.range 32).foldl (fun w i => if bit m i && !micReserved (32 * k + i) then w + 2 ^ i else w) 0

/-- A write of 1s to the SET or CLR address of register a (R12, R463, R485, R486). -/
def writeSetClr (s : State) (a : Nat) (set : Bool) (m : Nat) : State :=
  if a = Reg.PLN_WAKE_SRC then
    let v := maskBits set (rg s a) (bits m 3 0)
    micLevel (rput s a v) 78 (v != 0)
  else if a < Reg.MIC_TGT 0 0 then
    let k := (a - Reg.MIC_PEND 0) / 16
    { s with mic := { s.mic with latch := maskWord 512 set s.mic.latch k (if set then realBits k m else m) } }
  else if a < Reg.BTR_CTL then rput s a (maskBits set (rg s a) m)
  else
    let k := (a - Reg.BTR_NEW 0) / 16
    btrLevels { s with btr := { s.btr with new := maskWord 256 set s.btr.new k m } }

/-! ### Access by a bus master -/

/-- The key of a master's latch or held write for a _LO register. -/
def halfKey (m a : Nat) : Nat := m * 2 ^ 42 + a

/-- The 32-bit word that a write makes of a plain register: RW bits take the value, W1S bits are set by 1 (R14). -/
def mergeWrite (r : RegRow) (old v : Nat) : Nat := ((old ^^^ (old &&& r.rw)) ||| (v &&& r.rw)) ||| (v &&& r.w1s)

/-- Store the RW and W1S bits of one register. -/
def putReg (s : State) (r : RegRow) (a v : Nat) : State := rput s a (mergeWrite r (rg s a) v)

/-- The first index of an address in its row, and the second. -/
def rowIdx (r : RegRow) (a i : Nat) : Nat := (regIdx (a - r.base) r.dims).getD i 0

/-- A write to _LO commits the held write to _HI with it, if this master holds one (R10). DESIGN CHOICE: assumption 11. -/
def commitHalves (s : State) (m : Nat) (r : RegRow) (a v : Nat) : State :=
  let k := halfKey m a
  let s' := match tget s.bus.hiHold k, regRow (a + 4) with
    | some h, some r' => putReg s r' (a + 4) h.toNat
    | _, _ => s
  putReg { s' with bus := { s'.bus with hiHold := tdel s'.bus.hiHold k } } r a v

/-- A 32-bit write to a register of the map: those whose write does something more than to set bits first. PWR_SHELF
changes only by MFR_SHELF_STATE (R546). DEDUCED: assumption 13. -/
def writeRow (s : State) (m : Nat) (r : RegRow) (a v : Nat) : State :=
  let x := rowIdx r a 0
  if r.base = Reg.STK_INJ_CTL 0 0 then writeInjCtl s x (rowIdx r a 1) v
  else if r.base = Reg.SEA_INJ_CTL 0 then writeSeaInj s x v
  else if r.base = Reg.BTR_INJ then btrInject s v
  else if r.base = Reg.BTR_CLOSE then btrClose s (bits v 7 0)
  else if r.base = Reg.BTR_WDOG then { s with btr := { s.btr with wdog := now s } }
  else if r.base = Reg.MIC_COMPLETE 0 then micComplete s x v
  else if r.base = Reg.PWR_SHELF then s
  else if r.rw = 0 then s
  else if r.half = 2 then { s with bus := { s.bus with hiHold := tset s.bus.hiHold (halfKey m (a - 4)) (BitVec.ofNat 32 v) } }
  else if r.half = 1 then commitHalves s m r a v
  else putReg s r a v

/-- A 32-bit write by a bus master: to a SET or CLR address, to a register, or to an unassigned address, which ignores it
(R12, R14, R15). -/
def writeReg (s : State) (m a v : Nat) : State :=
  match setClrOf a with
  | some (b, set) => writeSetClr s b set v
  | none => match regRow a with
    | some r => writeRow s m r a v
    | none => s

/-- A 32-bit read by a bus master (R10, R12, R14, R15): an RC register is cleared, MIC_CLAIM claims, _LO latches _HI, and
the next read of _HI takes what was latched; an unassigned address reads as a free value.
DESIGN CHOICE: assumption 11. DEDUCED: assumption 13. -/
def readReg (s : State) (m a : Nat) : Nat × State :=
  let a := match setClrOf a with
    | some (b, _) => b
    | none => a
  match regRow a with
  | none =>
    let (w, s) := free32 s
    (w.toNat, s)
  | some r =>
    let v := rowValue s r a
    if r.base = Reg.MIC_CLAIM 0 then micClaim s (rowIdx r a 0)
    else if r.rc then (v, rput s a 0)
    else if r.half = 1 then
      let hi := match regRow (a + 4) with
        | some r' => rowValue s r' (a + 4)
        | none => 0
      (v, { s with bus := { s.bus with loLatch := tset s.bus.loLatch (halfKey m a) (BitVec.ofNat 32 hi) } })
    else if r.half = 2 then
      match tget s.bus.loLatch (halfKey m (a - 4)) with
      | some w => (w.toNat, { s with bus := { s.bus with loLatch := tdel s.bus.loLatch (halfKey m (a - 4)) } })
      | none => (v, s)
    else (v, s)

/-- The data that a read returns to its master. DESIGN CHOICE: assumption 24. -/
def giveData (s : State) (m v : Nat) : State :=
  { s with bus := { s.bus with readData := tset s.bus.readData m (BitVec.ofNat 64 v) } }

/-- Read a register and return the word to the master. -/
def readTo (s : State) (m a : Nat) : State :=
  let (v, s) := readReg s m a
  giveData s m v

/-! ### The commands -/

/-- REGISTER_WRITE (R9, R14): a write narrower than 32 bits, or one that is not aligned, is ignored. -/
def execRegisterWrite (master addr size : Nat) (value : Word32) (s : State) : Host.Outcome State Fault Refusal :=
  if size = 4 then .next (writeReg s master addr value.toNat) else .next s

/-- SET_ADDRESS_WRITE (R12): addr is the SET address. -/
def execSetAddressWrite (_master addr : Nat) (value : Word32) (s : State) : Host.Outcome State Fault Refusal :=
  match setClrOf addr with
  | some (b, true) => .next (writeSetClr s b true value.toNat)
  | _ => .next s

/-- CLR_ADDRESS_WRITE (R12): addr is the CLR address. -/
def execClrAddressWrite (_master addr : Nat) (value : Word32) (s : State) : Host.Outcome State Fault Refusal :=
  match setClrOf addr with
  | some (b, false) => .next (writeSetClr s b false value.toNat)
  | _ => .next s

/-- Which of the two flags of a PMBus status byte its bits name: warning by bit w, fault by bit f. -/
def flagBits (v w f : Nat) : Nat := b2n (bit v w) + 2 * b2n (bit v f)

/-- STATUS_INPUT cleared by a mask while the hardware sets bits (R16, R545): bit 5 is the undervoltage warning, which stays
set in ride-through, bit 4 the undervoltage fault. DEDUCED: assumption 153. -/
def clearInput (s : State) (v h : Nat) : State :=
  let x := maskBits false s.brd.statusInput (flagBits v 5 4) ||| flagBits h 5 4 ||| b2n (inRide s)
  { s with brd := { s.brd with statusInput := x } }

/-- STATUS_TEMPERATURE in the same way: bit 6 is the overtemperature warning, which stays set at J_THROTTLE, bit 7 the
overtemperature fault. DEDUCED: assumption 153. -/
def clearTemperature (s : State) (v h : Nat) : State :=
  let hot := decide (rf s Reg.PWR_THERM 7 0 ≤ rf s Reg.PWR_THERM 23 16)
  let x := maskBits false s.brd.statusTemp (flagBits v 6 7) ||| flagBits h 6 7 ||| b2n hot
  { s with brd := { s.brd with statusTemp := x } }

/-- W1C_WRITE (R14, R16): a 1 clears its bit, and a bit that the hardware sets in the same clock (hw) stays set. The map
has no W1C register; the PMBus status bytes clear in this way (R545). DEDUCED: assumption 14. -/
def execW1cWrite (target : W1cTarget) (value hw : Word32) (s : State) : Host.Outcome State Fault Refusal :=
  match target with
  | .register _ => .next s
  | .statusInput => .next (clearInput s value.toNat hw.toNat)
  | .statusTemperature => .next (clearTemperature s value.toNat hw.toNat)

/-- RC_READ (R14, R16): the value is returned and cleared; an increment in the same clock stays in the counter.
DEDUCED: assumption 15. -/
def execRcRead (master addr incr : Nat) (s : State) : Host.Outcome State Fault Refusal :=
  let s := readTo s master addr
  let counts := match regRow addr with
    | some r => r.rc && r.base != Reg.MIC_CLAIM 0
    | none => false
  .next (if counts && incr != 0 then bump s addr incr else s)

/-- LO_READ_LATCH (R10). -/
def execLoReadLatch (master addr : Nat) (s : State) : Host.Outcome State Fault Refusal := .next (readTo s master addr)

/-- HI_WRITE_HOLD (R10). -/
def execHiWriteHold (master addr : Nat) (value : Word32) (s : State) : Host.Outcome State Fault Refusal :=
  match regRow addr with
  | some r => .next (if r.half = 2 then writeRow s master r addr value.toNat else s)
  | none => .next s

/-- LO_WRITE_COMMIT (R10). -/
def execLoWriteCommit (master addr : Nat) (value : Word32) (s : State) : Host.Outcome State Fault Refusal :=
  match regRow addr with
  | some r => .next (if r.half = 1 then writeRow s master r addr value.toNat else s)
  | none => .next s

/-- MIC_CLAIM_READ (R465). -/
def execMicClaimRead (core : Nat) (s : State) : Host.Outcome State Fault Refusal :=
  if 4 ≤ core then .next s
  else
    let (v, s) := micClaim s core
    .next (giveData s core v)

/-- MIC_COMPLETE_WRITE (R466). -/
def execMicCompleteWrite (core : Nat) (value : Word32) (s : State) : Host.Outcome State Fault Refusal :=
  if 4 ≤ core then .next s else .next (micComplete s core value.toNat)

/-- COAL_HOLD_END (R466): the COAL time of a source ends. -/
def execCoalHoldEnd (source : Nat) (s : State) : Host.Outcome State Fault Refusal :=
  match tget s.mic.hold source with
  | none => .next s
  | some t =>
    let s := reach s t
    .next { s with mic := { s.mic with hold := tdel s.mic.hold source } }

/-- SOURCE_LEVEL_CHANGE (R460 to R463): a reserved source never asserts, and SW0 to SW3 have no block.
DEDUCED: assumption 21. -/
def execSourceLevelChange (source : Nat) (high : Bool) (s : State) : Host.Outcome State Fault Refusal :=
  if source < 4 ∨ 512 ≤ source ∨ micReserved source = true then .next s else .next (micLevel s source high)

/-- Move one RC counter into its accumulator, which saturates (R425). DESIGN CHOICE: assumption 16. -/
def accumulate (s : State) (a v : Nat) : State :=
  let s := rput s a 0
  { s with bus := { s.bus with accum := tset s.bus.accum a (min (accumOf s a + v) (2 ^ 64 - 1)) } }

/-- COUNTER_ACCUMULATE (R425): every RC counter register that has counted is read into its accumulator.
DESIGN CHOICE: assumption 16. -/
def execCounterAccumulate (s : State) : Host.Outcome State Fault Refusal :=
  if s.bus.held then .next s
  else
    let rc := s.regs.filter (fun e => e.2 != 0#32 && ((regRow e.1).map (fun r => r.rc)).getD false)
    .next (rc.foldl (fun s e => accumulate s e.1 e.2.toNat) s)

/-- The events of the log from a SEQ on, as many as fit (R450, R476): the slot of an event that the ring no longer holds
ends the list. DESIGN CHOICE: assumption 19. -/
def eventsFrom : Nat → Nat → Nat → State → List Byte × State
  | 0, _, _, s => ([], s)
  | n + 1, seq, room, s =>
    let (b, _, s) := load s (resPpa 0 5 (2 ^ 29 + (seq % 262144) * 2048)) 2048
    let len := 32 + bits (leAt b 0 8) 42 32
    if leAt b 8 8 ≠ seq ∨ seq = 0 ∨ room < len then ([], s)
    else
      let (r, s) := eventsFrom n (seq + 1) (room - len) s
      (b.take len ++ r, s)

/-- EVENT_READ (R418, R450, R480): in the fatal safe state the log is read by a recovery read.
DESIGN CHOICE: assumption 19. -/
def execEventRead (slot : Nat) (tag : Word32) (seq count : Word64) (s : State) : Host.Outcome State Fault Refusal :=
  .next (runCmd slot 0x0601 tag (!atMost count 64) s (fun s =>
    let s := if inSafe s && (sealDie s 0).selfRefresh then exitSelfRefresh s 0 else s
    let (b, s) := eventsFrom count.toNat seq.toNat 4096 s
    (s, .done stOK b)))

/-- One address of REG_READ (R425, R451, R511). DEDUCED: assumption 17. -/
def regReadOne (s : State) (a : Nat) : Nat × State :=
  match regRow a with
  | some r =>
    if r.base = Reg.MIC_CLAIM 0 then (0, s)
    else if r.rc then (accumOf s a, s)
    else readReg s 5 a
  | none => if a / 0x1000000 = 0x19 then (0, s) else readReg s 5 a

/-- REG_READ (R451): at most 64 addresses. DEDUCED: assumption 17. -/
def execRegRead (slot : Nat) (tag : Word32) (list : List Word64) (s : State) : Host.Outcome State Fault Refusal :=
  .next (runCmd slot 0x0602 tag (decide (64 < list.length)) s (fun s =>
    let (b, s) := list.foldl (fun (p : List Byte × State) a =>
      let (v, s) := regReadOne p.2 a.toNat
      (p.1 ++ leBytes 8 v, s)) ([], s)
    (s, .done stOK b)))

/-- REG_WRITE (R455): INVALID for a register that the firmware changes only through a named command.
DEDUCED: assumption 18. -/
def execRegWrite (slot : Nat) (tag : Word32) (addr value : Word64) (s : State) : Host.Outcome State Fault Refusal :=
  let named := ((regRow addr.toNat).map (fun r => r.named)).getD false
  .next (runCmd slot 0x0804 tag (!onlyBits value 0xFFFFFFFF || named) s (fun s => (writeReg s 5 addr.toNat value.toNat, Rep.ok)))

/-- The counters of one stack (R147, R182), one course (R261), and one seal cache and scrubber (R183, R184), and those of
the directory (R221), in the order of their tables. -/
def stackCounters (s : State) (n st : Nat) : List Nat :=
  ((List.range 8).map (fun i => accumOf s (Reg.STK_LATECNT n st i)))
    ++ [Reg.STK_ECC_CE n st, Reg.STK_ECC_DUE n st, Reg.STK_ECC_POISON n st].map (accumOf s)
def courseCounters (s : State) (n c : Nat) : List Nat :=
  [rg64 s (Reg.CRS_TILES_LO n c), rg64 s (Reg.CRS_BUSY_LO n c)] ++ [Reg.CRS_FLUSH n c, Reg.CRS_OOB n c].map (accumOf s)
def sealCounters (s : State) (n : Nat) : List Nat :=
  [Reg.SEA_REBUILT n, Reg.SEA_LOST n, Reg.SEA_MISMATCH n].map (accumOf s) ++ [rg s (Reg.PNT_PASSES n), accumOf s (Reg.PNT_FOUND n)]
def dirCounters (s : State) : List Nat :=
  rg64 s Reg.DIR_VICTIM_LO :: [Reg.DIR_RCLTO, Reg.DIR_POISONED, Reg.DIR_REQHOLD, Reg.DIR_PUBCONF, Reg.DIR_LATE_DISCARD].map (accumOf s)

/-- How many instances each block of TELEMETRY_READ has. DESIGN CHOICE: assumption 20. -/
def telemetryCount (b : Nat) : Nat := ([32, 8, 1, 24, 12, 6].getD b 0)

/-- TELEMETRY_READ (R450). DESIGN CHOICE: assumption 20. -/
def execTelemetryRead (slot : Nat) (tag : Word32) (block index : Word64) (s : State) : Host.Outcome State Fault Refusal :=
  let i := index.toNat
  let bad := !atMost block 5 || decide (telemetryCount block.toNat ≤ i)
  .next (runCmd slot 0x0603 tag bad s (fun s =>
    (s, Rep.words (match block.toNat with
      | 0 => portCounters s i
      | 1 => ethCounters s i
      | 2 => dirCounters s
      | 3 => stackCounters s (i / 4) (i % 4)
      | 4 => courseCounters s (i / 2) (i % 2)
      | _ => sealCounters s i))))

end Sys2Proof.Machine
end

