-- ==== Sys2Proof/Machine/CoreBus.lean ====
section
/-!
DEFINITION. The Mason cores on their bus (R421 to R424): the boot ROM, the SRAM with its atomic instructions, the register
blocks, the windows of the voussoir dies (R27) and the pool window. The JTAG port reaches the same map as bus master 4.
-/

namespace Sys2Proof.Machine

/-- The size of the boot ROM and of the SRAM, and the first address of the SRAM (R423). -/
def romBytes : Nat := 0x40000
def sramBytes : Nat := 0x200000
def sramBase : Nat := 0x08000000

/-- Where the pool window begins (R423). -/
def poolBase : Nat := 0x40000000000

/-- A range of the map holds all bytes of an access. -/
def inRange (base size a n : Nat) : Bool := decide (base ≤ a) && decide (a + n ≤ base + size)

/-- An address lies in a register block of the keystone die (R423). -/
def inBlocks (a n : Nat) : Bool := inRange 0x10000000 0x20000 a n || inRange 0x11000000 0x09000000 a n

/-- An address lies in the window of a voussoir die (R423). -/
def inDies (a n : Nat) : Bool := inRange 0x20000000 0x06000000 a n

/-- An access fault in the core, or a fault of the JTAG port's access (R422 to R424). -/
def accessFault (s : State) (m : Nat) : State := { s with bus := { s.bus with coreFault := tupd s.bus.coreFault m 0 (· + 1) } }

/-- A byte of the SRAM: one that nothing has written reads as 0. DESIGN CHOICE: assumption 8. -/
def sramByte (s : State) (off : Nat) : Byte := tgetD s.bus.sram off 0#8

/-- Bytes of the SRAM. DEDUCED: assumption 31. -/
def sramRead (s : State) (off n : Nat) : List Byte := (List.range n).map (fun i => sramByte s (off + i))

/-- Write bytes to the SRAM. The reservation of another master that holds one of them is lost. DEDUCED: assumption 31. -/
def sramWrite (s : State) (m off : Nat) (b : List Byte) : State :=
  let lost := s.bus.reserved.filter (fun e => e.1 == m || decide (e.2 + 8 ≤ off) || decide (off + b.length ≤ e.2 / 8 * 8))
  { s with bus := { s.bus with sram := memWrite s.bus.sram off b, reserved := lost } }

/-- Whether a bus master can make an access: a core that is held in reset cannot (R479). DESIGN CHOICE: assumption 28. -/
def canAccess (s : State) (m : Nat) : Bool := m == 4 || (decide (m < 4) && !s.bus.held)

/-- The widths of an access. -/
def sizeOk (n : Nat) : Bool := n == 1 || n == 2 || n == 4 || n == 8

/-- An access to a register block (R9, R15): a narrower read returns the whole word, a narrower write is ignored, and so is
one of 8 bytes, which no register has. DEDUCED: assumption 12. -/
def regAccess (s : State) (m a n : Nat) (st : Option Nat) : State :=
  match st with
  | some v => if n = 4 then writeReg s m a v else s
  | none => if n = 8 ∨ (n = 4 ∧ a % 4 ≠ 0) then
      let (w, s) := free64 s
      giveData s m w.toNat
    else readTo s m (a / 4 * 4)

/-- An access to the window of a voussoir die in the MGT class: it completes on the die's reply, which does not come when
the die's link has failed (R25, R27). DESIGN CHOICE: assumption 28. -/
def dieAccess (s : State) (m a n : Nat) (st : Option Nat) : State :=
  if (sealDie s (a / 0x1000000 - 0x20)).linkLost then s else regAccess s m a n st

/-- An access to the pool (R207, R424): naturally aligned, on input MGT, past the directory where the line is coherent. It
waits while a host holds the line, while a migration switches the extent, and while the stacks are in self-refresh.
DEDUCED: assumption 26. DEDUCED: assumption 27. -/
def poolAccess (s : State) (m ppa n : Nat) (st : Option Nat) : State :=
  if !sizeOk n || ppa % n != 0 then s
  else if 2879 < extOf ppa then accessFault s m
  else if (sealDie s (dieOf ppa)).selfRefresh || heldExt s (extOf ppa) st.isSome then s
  else
    match agentLine s (ppa / 128) st.isSome with
    | (false, s) => s
    | (true, s) =>
      match st with
      | some v => (storeMirrored s ppa (leBytes n v) .plain).1
      | none =>
        let (b, _, s) := load s ppa n
        giveData s m (leNat b)

/-- One access of a bus master to the map of R423. DESIGN CHOICE: assumption 25. -/
def busAccess (s : State) (m a n : Nat) (st : Option Nat) : State :=
  if !canAccess s m || !sizeOk n then s
  else if inRange 0 romBytes a n then
    match st with
    | some _ => s
    | none => giveData s m (leNat ((List.range n).map (fun i => Config.bootRom (a + i))))
  else if inRange sramBase sramBytes a n then
    match st with
    | some v => sramWrite s m (a - sramBase) (leBytes n v)
    | none => giveData s m (leNat (sramRead s (a - sramBase) n))
  else if inBlocks a n then regAccess s m a n st
  else if inDies a n then dieAccess s m a n st
  else if inRange poolBase (2 ^ 42) a n then poolAccess s m (a - poolBase) n st
  else accessFault s m

/-- CORE_ACCESS (R27, R421 to R424). -/
def execCoreAccess (core addr size : Nat) (st : Option Word64) (s : State) : Host.Outcome State Fault Refusal :=
  if 4 ≤ core then .next s else .next (busAccess s core addr size (st.map (·.toNat)))

/-- POOL_WINDOW_ACCESS (R424). -/
def execPoolWindowAccess (core ppa size : Nat) (st : Option Word64) (s : State) : Host.Outcome State Fault Refusal :=
  if 4 ≤ core ∨ canAccess s core = false ∨ 2 ^ 42 ≤ ppa then .next s else .next (poolAccess s core ppa size (st.map (·.toNat)))

/-- VOUSSOIR_WINDOW_ACCESS (R27). -/
def execVoussoirWindowAccess (core die off size : Nat) (st : Option Word32) (s : State) :
    Host.Outcome State Fault Refusal :=
  if 4 ≤ core ∨ canAccess s core = false ∨ 6 ≤ die ∨ 0x1000000 ≤ off ∨ 4 < size ∨ sizeOk size = false then .next s
  else .next (dieAccess s core (0x20000000 + 0x1000000 * die + off) size (st.map (·.toNat)))

/-- What an AMO writes, from the word it read and its operand, both of n bits (the A extension of RISC-V).
PRESUMED: assumption 29. -/
def amoResult (n : Nat) (op : Amo) (x y : Nat) : Nat :=
  match op with
  | .lr => x
  | .sc => y
  | .swap => y
  | .add => (x + y) % 2 ^ n
  | .xor => x ^^^ y
  | .and => x &&& y
  | .or => x ||| y
  | .min => if sext n y < sext n x then y else x
  | .max => if sext n x < sext n y then y else x
  | .minu => min x y
  | .maxu => max x y

/-- An atomic instruction on a word of the SRAM: what the core's register receives, and the state. LR reserves the word;
SC stores only while the reservation holds, and answers 0 where it stored. PRESUMED: assumption 29. -/
def sramAtomic (s : State) (c off n : Nat) (op : Amo) (y : Nat) : Nat × State :=
  let x := leNat (sramRead s off n)
  let drop := fun (s : State) => { s with bus := { s.bus with reserved := tdel s.bus.reserved c } }
  match op with
  | .lr => (toField 64 (sext (8 * n) x), { s with bus := { s.bus with reserved := tset s.bus.reserved c off } })
  | .sc =>
    if tget s.bus.reserved c = some off then (0, drop (sramWrite s c off (leBytes n y)))
    else (1, drop s)
  | _ => (toField 64 (sext (8 * n) x), sramWrite s c off (leBytes n (amoResult (8 * n) op x (y % 2 ^ (8 * n)))))

/-- CORE_ATOMIC (R422): on SRAM only; aimed elsewhere it faults, and nothing is read or written. One that is not aligned
faults too, as the A extension has it. -/
def execCoreAtomic (core addr size : Nat) (op : Amo) (value : Word64) (s : State) : Host.Outcome State Fault Refusal :=
  if 4 ≤ core ∨ canAccess s core = false ∨ (size ≠ 4 ∧ size ≠ 8) then .next s
  else if inRange sramBase sramBytes addr size = false ∨ addr % size ≠ 0 then .next (accessFault s core)
  else
    let (v, s) := sramAtomic s core (addr - sramBase) size op value.toNat
    .next (giveData s core v)

end Sys2Proof.Machine
end

