-- ==== Sys2Proof/Machine/Board.lean ====
section
/-!
DEFINITION. The board's side of the module: the PMBus commands and the mailbox on the SMBus (R544 to R548), and the JTAG
port (R549).
-/

namespace Sys2Proof.Machine

/-! ### The SMBus (R544, R548) -/

/-- Only the Plinth answers on the SMBus: before STAGE reaches READY, and in standby (R548). -/
def plinthMode (s : State) : Bool := bootStage s != 5 || s.pwr.standby

/-- The bytes that a transaction returns, or none where its command code is not acknowledged. -/
def smbReturn (s : State) (d : Option (List Byte)) : State := { s with brd := { s.brd with smbData := d } }

/-- A transaction addressed to the module (R468, R548): the Plinth alone answers some command codes only, and in standby
the transaction wakes the module. Without VAUX nothing answers (R514). -/
def smbus (byPlinth : Bool) (s : State) (f : State → State) : State :=
  if !s.pwr.vauxOn || (plinthMode s && !byPlinth) then
    let s := smbReturn s none
    if s.pwr.vauxOn then wake s 0 else s
  else wake (f s) 0

/-- A read transaction that has no effect of its own. -/
def smbRead (byPlinth : Bool) (s : State) (f : State → List Byte) : State :=
  smbus byPlinth s (fun s => smbReturn s (some (f s)))

/-- SMB_ALERT_N is asserted: a PMBus status bit is set, or a reply waits (R544). DEDUCED: assumption 163. -/
def alertAsserted (s : State) : Bool := s.brd.statusInput != 0 || s.brd.statusTemp != 0 || !s.mbx.unread.isEmpty

/-! ### PMBus (R545, R546) -/

/-- The smallest exponent from -16 for which num / den fits the mantissa of LINEAR11, tried n times from e upward: the
word, rounded down. DEDUCED: assumption 161. -/
def linearFrom (num den : Nat) : Nat → Int → Nat
  | 0, _ => 0x7BFF
  | n + 1, e =>
    let m := if e < 0 then num * 2 ^ e.natAbs / den else num / (den * 2 ^ e.natAbs)
    if m ≤ 1023 then toField 5 e * 2048 + m else linearFrom num den n (e + 1)

/-- The LINEAR11 word of num / den. DEDUCED: assumption 161. -/
def linear11 (num den : Nat) : List Byte := leBytes 2 (linearFrom num den 32 (-16))

/-- STATUS_WORD (R545): bit 13 INPUT, bit 2 TEMPERATURE. PRESUMED: assumption 30. -/
def statusWord (s : State) : List Byte :=
  leBytes 2 (2 ^ 13 * b2n (s.brd.statusInput != 0) + 2 ^ 2 * b2n (s.brd.statusTemp != 0))

/-- STATUS_WORD (R545, R548). -/
def execStatusWord (s : State) : Host.Outcome State Fault Refusal := .next (smbRead true s statusWord)

/-- The byte of a status register: warning at bit w, fault at bit f. PRESUMED: assumption 30. -/
def statusByte (v w f : Nat) : List Byte := leBytes 1 (2 ^ w * b2n (bit v 0) + 2 ^ f * b2n (bit v 1))

/-- STATUS_INPUT (R545): a read, or a write of 1s that clear. -/
def execStatusInput (clear : Option Nat) (s : State) : Host.Outcome State Fault Refusal :=
  match clear with
  | none => .next (smbRead false s (fun s => statusByte s.brd.statusInput 5 4))
  | some v => .next (smbus false s (fun s => smbReturn (clearInput s v 0) (some [])))

/-- STATUS_TEMPERATURE (R545): a read, or a write of 1s that clear. -/
def execStatusTemperature (clear : Option Nat) (s : State) : Host.Outcome State Fault Refusal :=
  match clear with
  | none => .next (smbRead false s (fun s => statusByte s.brd.statusTemp 6 7))
  | some v => .next (smbus false s (fun s => smbReturn (clearTemperature s v 0) (some [])))

/-- READ_VIN (R545): PWR_INPUT.BUS, in V. -/
def execReadVin (s : State) : Host.Outcome State Fault Refusal :=
  .next (smbRead false s (fun s => linear11 (rf s Reg.PWR_INPUT 27 16) 10))

/-- READ_IIN (R545): the current of PWR52, in A. -/
def execReadIin (s : State) : Host.Outcome State Fault Refusal :=
  .next (smbRead false s (fun s => linear11 s.pwr.current 1000))

/-- READ_TEMPERATURE_1 (R545): the hottest junction, in °C. -/
def execReadTemperature1 (s : State) : Host.Outcome State Fault Refusal :=
  .next (smbRead false s (fun s => linear11 (rf s Reg.PWR_THERM 23 16) 1))

/-- READ_TEMPERATURE_2 (R545): the hottest stack, in °C. -/
def execReadTemperature2 (s : State) : Host.Outcome State Fault Refusal :=
  .next (smbRead false s (fun s => linear11 (hottest s.pwr.stackTemp).1 1))

/-- READ_PIN (R545): PWR_INPUT.POWER, in W. -/
def execReadPin (s : State) : Host.Outcome State Fault Refusal :=
  .next (smbRead false s (fun s => linear11 (rf s Reg.PWR_INPUT 15 0) 1))

/-- MFR_ID (R545, R548). -/
def execMfrId (s : State) : Host.Outcome State Fault Refusal := .next (smbRead true s (fun _ => ascii "LGN"))

/-- MFR_MODEL (R545, R548). -/
def execMfrModel (s : State) : Host.Outcome State Fault Refusal := .next (smbRead true s (fun _ => ascii "HC2880"))

/-- MFR_REVISION (R545, R548). -/
def execMfrRevision (s : State) : Host.Outcome State Fault Refusal := .next (smbRead true s (fun _ => ascii "B1"))

/-- The shelf's state as the board controller writes it (R526, R536, R546). The event waits for firmware that runs.
DEDUCED: assumption 23. DEDUCED: assumption 160. -/
def setShelf (s : State) (v : Nat) : State :=
  let old := rf s Reg.PWR_SHELF 1 0
  let s := rput s Reg.PWR_SHELF (v % 2 ^ 16)
  if plinthMode s then s
  else
    let new := bits v 1 0
    let s := govern s
    if new = 2 ∧ old ≠ 2 then powerEvent s 5 else if new = 1 ∧ old ≠ 1 then powerEvent s 6 else s

/-- MFR_SHELF_STATE (R545, R546, R548). -/
def execMfrShelfState (write : Option Nat) (s : State) : Host.Outcome State Fault Refusal :=
  match write with
  | none => .next (smbRead true s (fun s => leBytes 2 (rg s Reg.PWR_SHELF)))
  | some v => .next (smbus true s (fun s => smbReturn (setShelf s v) (some [])))

/-- MFR_BOOT_STATUS (R545, R548): the low half of PLN_BOOT. -/
def execMfrBootStatus (s : State) : Host.Outcome State Fault Refusal :=
  .next (smbRead true s (fun s => leBytes 2 (rf s Reg.PLN_BOOT 15 0)))

/-! ### The mailbox over SMBus (R430, R547) -/

/-- Slot 8 has its session, without an identity, from its first use on. DEDUCED: assumption 40. -/
def openSlot8 (s : State) : State :=
  let s := { s with brd := { s.brd with smbActive := true } }
  if (session s 8).isSome then s else setSession s 8 slot8Session

/-- Replies that slot 8 holds unread or still owes (R547). -/
def slot8Owed (s : State) : Nat := s.mbx.unread.length + ((session s 8).map (fun se => se.queue.length)).getD 0

/-- A whole frame of slot 8: a command that would make a 17th unread reply returns BUSY at once and is not queued.
DEDUCED: assumption 40. -/
def submitSlot8 (s : State) (f : List Byte) : State :=
  let s := openSlot8 s
  if 16 ≤ slot8Owed s then
    let w := leAt f 0 8
    let b := replyBytes 8 (bits w 31 16) (BitVec.ofNat 32 (bits w 63 32)) stBUSY true []
    smbReturn (bump s Reg.MBX_BUSY 1) (some b)
  else submit s 8 f

/-- One fragment of a command: its control byte and its bytes. A fragment out of order discards the partial frame; one with
index 0 begins the next frame. DEDUCED: assumption 41. -/
def takeFragment (s : State) (ctl : Nat) (b : List Byte) : State :=
  let i := bits ctl 6 0
  let setFrame := fun (s : State) (f : List Byte) (n : Nat) => { s with mbx := { s.mbx with partialFrame := f, nextFrag := n } }
  let broken := i ≠ s.mbx.nextFrag ∧ s.mbx.nextFrag ≠ 0
  let s := if broken then setFrame (bump s Reg.MBX_DUP 1) [] 0 else s
  if i ≠ s.mbx.nextFrag then s
  else if bit ctl 7 then submitSlot8 (setFrame s [] 0) (s.mbx.partialFrame ++ b)
  else setFrame s (s.mbx.partialFrame ++ b) (i + 1)

/-- MFR_MBOX_WRITE (R430, R545, R547). DEDUCED: assumption 41. -/
def execMfrMboxWrite (bytes : List Byte) (s : State) : Host.Outcome State Fault Refusal :=
  .next (smbus false s (fun s => match bytes with
    | [] => smbReturn s (some [])
    | c :: b => if 254 < b.length then smbReturn s none else takeFragment (smbReturn s (some [])) c.toNat b))

/-- The next fragment of the oldest unread reply (R547). -/
def nextFragment (s : State) : State :=
  match s.mbx.unread with
  | [] => smbReturn s (some [0x7F#8])
  | f :: t =>
    let i := s.mbx.readIdx
    let last := decide (f.length ≤ 254 * (i + 1))
    let m := if last then { s.mbx with unread := t, readIdx := 0 } else { s.mbx with readIdx := i + 1 }
    smbReturn { s with mbx := m } (some (BitVec.ofNat 8 (i + 128 * b2n last) :: (f.drop (254 * i)).take 254))

/-- MFR_MBOX_READ (R545, R547). -/
def execMfrMboxRead (s : State) : Host.Outcome State Fault Refusal :=
  .next (smbus false s (fun s => nextFragment { s with brd := { s.brd with smbActive := true } }))

/-- ALERT_RESPONSE (R544): the module that asserts SMB_ALERT_N answers with its address, in the upper seven bits.
DEDUCED: assumption 162. -/
def execAlertResponse (s : State) : Host.Outcome State Fault Refusal :=
  .next (smbReturn s (if s.pwr.vauxOn && alertAsserted s then some (leBytes 1 (2 * s.brd.smbAddr)) else none))

/-! ### JTAG (R549) -/

/-- An instruction of the test access port with what it shifts out; the pins return to the module. -/
def jtag (s : State) (ir out : Nat) : State := { s with brd := { s.brd with jtagIr := ir, jtagOut := out, pinsDriven := none } }

/-- IDCODE (R549). -/
def execIdcode (s : State) : Host.Outcome State Fault Refusal := .next (jtag s 0 0x128809D3)

/-- BYPASS (R549): the bypass register captures 0. -/
def execBypass (s : State) : Host.Outcome State Fault Refusal := .next (jtag s 1 0)

/-- SAMPLE/PRELOAD (R549): what the pins carry is a free value, and the boundary register is loaded.
DESIGN CHOICE: assumption 164. -/
def execSamplePreload (preload : Nat) (s : State) : Host.Outcome State Fault Refusal :=
  let (v, s) := free64 s
  let s := jtag s 2 v.toNat
  .next { s with brd := { s.brd with boundary := preload } }

/-- EXTEST (R549): the pins of the boundary register are driven from it, and its inputs are captured.
DESIGN CHOICE: assumption 164. -/
def execExtest (s : State) : Host.Outcome State Fault Refusal :=
  let (v, s) := free64 s
  let s := jtag s 3 v.toNat
  .next { s with brd := { s.brd with pinsDriven := some s.brd.boundary } }

/-- REGACC (R10, R508, R549): an access as a Mason core makes it, by bus master 4. Only the Plinth answers in standby. -/
def execRegacc (addr size : Nat) (st : Option Word64) (s : State) : Host.Outcome State Fault Refusal :=
  let s := jtag s 4 0
  if s.pwr.standby && !isPlinth addr then .next s
  else
    let s := busAccess s 4 addr size (st.map (·.toNat))
    .next (if st.isSome then s else jtag s 4 (tgetD s.bus.readData 4 0).toNat)

/-- ANCHOR_LOAD (R549, R551): a certificate of up to 4 KiB into anchor slot 0, while every slot is empty.
DEDUCED: assumption 146. -/
def execAnchorLoad (cert : List Byte) (s : State) : Host.Outcome State Fault Refusal :=
  let s := jtag s 5 0
  if cert.isEmpty || decide (4096 < cert.length) || !s.boot.anchors.isEmpty || !(storedAnchors s.boot).isEmpty then .next s
  else .next (saveAnchors s [(0, cert)])

end Sys2Proof.Machine
end

