-- ==== Sys2Proof/Machine/Dispatch.lean ====
section
/-!
DEFINITION. The dispatch: one arm per command, each a direct call of that command's meaning.
-/

namespace Sys2Proof.Machine

/-- The effect of one command on everything but the queue. DESIGN CHOICE: assumption 2. DESIGN CHOICE: assumption 5. -/
def exec (i : Instr) (s : State) : Host.Outcome State Fault Refusal :=
  match i with
  | .registerWrite master addr size value => Sys2Proof.Machine.execRegisterWrite master addr size value s
  | .setAddressWrite master addr value => Sys2Proof.Machine.execSetAddressWrite master addr value s
  | .clrAddressWrite master addr value => Sys2Proof.Machine.execClrAddressWrite master addr value s
  | .w1cWrite target value hw => Sys2Proof.Machine.execW1cWrite target value hw s
  | .rcRead master addr incr => Sys2Proof.Machine.execRcRead master addr incr s
  | .loReadLatch master addr => Sys2Proof.Machine.execLoReadLatch master addr s
  | .hiWriteHold master addr value => Sys2Proof.Machine.execHiWriteHold master addr value s
  | .loWriteCommit master addr value => Sys2Proof.Machine.execLoWriteCommit master addr value s
  | .micClaimRead core => Sys2Proof.Machine.execMicClaimRead core s
  | .micCompleteWrite core value => Sys2Proof.Machine.execMicCompleteWrite core value s
  | .coalHoldEnd source => Sys2Proof.Machine.execCoalHoldEnd source s
  | .sourceLevelChange source high => Sys2Proof.Machine.execSourceLevelChange source high s
  | .btrCloseWrite value => Sys2Proof.Machine.execBtrCloseWrite value s
  | .btrWdogWrite value => Sys2Proof.Machine.execBtrWdogWrite value s
  | .btrInjGo value => Sys2Proof.Machine.execBtrInjGo value s
  | .stkInjCtlWrite die stack value => Sys2Proof.Machine.execStkInjCtlWrite die stack value s
  | .stkInjPar die stack value => Sys2Proof.Machine.execStkInjPar die stack value s
  | .seaInjArm die value => Sys2Proof.Machine.execSeaInjArm die value s
  | .coreAccess core addr size store => Sys2Proof.Machine.execCoreAccess core addr size store s
  | .coreAtomic core addr size op value => Sys2Proof.Machine.execCoreAtomic core addr size op value s
  | .poolWindowAccess core ppa size store => Sys2Proof.Machine.execPoolWindowAccess core ppa size store s
  | .voussoirWindowAccess core die off size store => Sys2Proof.Machine.execVoussoirWindowAccess core die off size store s
  | .counterAccumulate => Sys2Proof.Machine.execCounterAccumulate s
  | .dtlsHandshake hello => Sys2Proof.Machine.execDtlsHandshake hello s
  | .associationIdle slot net => Sys2Proof.Machine.execAssociationIdle slot net s
  | .refusingClose net identity => Sys2Proof.Machine.execRefusingClose net identity s
  | .commandFrame slot net bytes => Sys2Proof.Machine.execCommandFrame slot net bytes s
  | .commandHead => Sys2Proof.Machine.execCommandHead s
  | .leaseExpire => Sys2Proof.Machine.execLeaseExpire s
  | .ownClaim slot tag leaseMs => Sys2Proof.Machine.execOwnClaim slot tag leaseMs s
  | .ownRenew slot tag leaseMs => Sys2Proof.Machine.execOwnRenew slot tag leaseMs s
  | .ownRelease slot tag => Sys2Proof.Machine.execOwnRelease slot tag s
  | .ownQuery slot tag => Sys2Proof.Machine.execOwnQuery slot tag s
  | .ownTransfer slot tag target leaseMs => Sys2Proof.Machine.execOwnTransfer slot tag target leaseMs s
  | .sessionList slot tag => Sys2Proof.Machine.execSessionList slot tag s
  | .sessionClose slot tag target => Sys2Proof.Machine.execSessionClose slot tag target s
  | .mgmtSet slot tag udp idleS => Sys2Proof.Machine.execMgmtSet slot tag udp idleS s
  | .extentAlloc slot tag holder attr count diemask list => Sys2Proof.Machine.execExtentAlloc slot tag holder attr count diemask list s
  | .extentRelease slot tag list => Sys2Proof.Machine.execExtentRelease slot tag list s
  | .extentSetAttr slot tag list attr mask => Sys2Proof.Machine.execExtentSetAttr slot tag list attr mask s
  | .extentQuery slot tag list => Sys2Proof.Machine.execExtentQuery slot tag list s
  | .viewMap slot tag tenant vslot extent perm => Sys2Proof.Machine.execViewMap slot tag tenant vslot extent perm s
  | .viewUnmap slot tag tenant vslot => Sys2Proof.Machine.execViewUnmap slot tag tenant vslot s
  | .viewQuery slot tag tenant first count => Sys2Proof.Machine.execViewQuery slot tag tenant first count s
  | .windowSet slot tag window ctl base src => Sys2Proof.Machine.execWindowSet slot tag window ctl base src s
  | .windowClear slot tag window => Sys2Proof.Machine.execWindowClear slot tag window s
  | .extentMigrate slot tag source dest => Sys2Proof.Machine.execExtentMigrate slot tag source dest s
  | .tenantSet slot tag tenant weight cls mode maxContexts maxWatches maxAdmit => Sys2Proof.Machine.execTenantSet slot tag tenant weight cls mode maxContexts maxWatches maxAdmit s
  | .tenantClear slot tag tenant => Sys2Proof.Machine.execTenantClear slot tag tenant s
  | .tenantQuery slot tag tenant => Sys2Proof.Machine.execTenantQuery slot tag tenant s
  | .capacitySet slot tag floors retry => Sys2Proof.Machine.execCapacitySet slot tag floors retry s
  | .gateSet slot tag ctl cycle list => Sys2Proof.Machine.execGateSet slot tag ctl cycle list s
  | .faultRead slot tag tenant => Sys2Proof.Machine.execFaultRead slot tag tenant s
  | .faultResolve slot tag list => Sys2Proof.Machine.execFaultResolve slot tag list s
  | .faultqSet slot tag tenant depth => Sys2Proof.Machine.execFaultqSet slot tag tenant depth s
  | .contextCreate slot tag context tenant ring ccfg => Sys2Proof.Machine.execContextCreate slot tag context tenant ring ccfg s
  | .contextDestroy slot tag context => Sys2Proof.Machine.execContextDestroy slot tag context s
  | .contextQuery slot tag context => Sys2Proof.Machine.execContextQuery slot tag context s
  | .contextRestart slot tag context => Sys2Proof.Machine.execContextRestart slot tag context s
  | .contextSuspend slot tag context => Sys2Proof.Machine.execContextSuspend slot tag context s
  | .contextResume slot tag context => Sys2Proof.Machine.execContextResume slot tag context s
  | .contextSet slot tag context ccfg mask => Sys2Proof.Machine.execContextSet slot tag context ccfg mask s
  | .courseCaps slot tag => Sys2Proof.Machine.execCourseCaps slot tag s
  | .courseSet slot tag mask enable => Sys2Proof.Machine.execCourseSet slot tag mask enable s
  | .lintelCreate slot tag object cfg relSignal relAddr relTag => Sys2Proof.Machine.execLintelCreate slot tag object cfg relSignal relAddr relTag s
  | .lintelDestroy slot tag object => Sys2Proof.Machine.execLintelDestroy slot tag object s
  | .lintelQuery slot tag object => Sys2Proof.Machine.execLintelQuery slot tag object s
  | .lintelBreak slot tag object => Sys2Proof.Machine.execLintelBreak slot tag object s
  | .watchQuery slot tag tenant first count => Sys2Proof.Machine.execWatchQuery slot tag tenant first count s
  | .coordSet slot tag domain device => Sys2Proof.Machine.execCoordSet slot tag domain device s
  | .portSet slot tag port action ctl timers => Sys2Proof.Machine.execPortSet slot tag port action ctl timers s
  | .portQuery slot tag port => Sys2Proof.Machine.execPortQuery slot tag port s
  | .routeSet slot tag list => Sys2Proof.Machine.execRouteSet slot tag list s
  | .portRetrain slot tag port width => Sys2Proof.Machine.execPortRetrain slot tag port width s
  | .fabricSet slot tag hopInit reqTo retries replayWin => Sys2Proof.Machine.execFabricSet slot tag hopInit reqTo retries replayWin s
  | .rankTableSet slot tag job base list => Sys2Proof.Machine.execRankTableSet slot tag job base list s
  | .legacySet slot tag ctl portEn list => Sys2Proof.Machine.execLegacySet slot tag ctl portEn list s
  | .endpointFail slot tag coord => Sys2Proof.Machine.execEndpointFail slot tag coord s
  | .endpointReadmit slot tag coord => Sys2Proof.Machine.execEndpointReadmit slot tag coord s
  | .endpointRetire slot tag coord => Sys2Proof.Machine.execEndpointRetire slot tag coord s
  | .ethPortSet slot tag port action ctl ip4 gw4 ip6lo ip6hi plen6 gw6lo gw6hi => Sys2Proof.Machine.execEthPortSet slot tag port action ctl ip4 gw4 ip6lo ip6hi plen6 gw6lo gw6hi s
  | .ethPortQuery slot tag port => Sys2Proof.Machine.execEthPortQuery slot tag port s
  | .qpCreate slot tag qp tenant port mac ip0 ip1 qpnPsn mtuAccess rkey => Sys2Proof.Machine.execQpCreate slot tag qp tenant port mac ip0 ip1 qpnPsn mtuAccess rkey s
  | .qpDestroy slot tag qp => Sys2Proof.Machine.execQpDestroy slot tag qp s
  | .qpQuery slot tag qp => Sys2Proof.Machine.execQpQuery slot tag qp s
  | .egressSet slot tag port egr cycle list => Sys2Proof.Machine.execEgressSet slot tag port egr cycle list s
  | .ptpSet slot tag ctl => Sys2Proof.Machine.execPtpSet slot tag ctl s
  | .groupSet slot tag group member master members => Sys2Proof.Machine.execGroupSet slot tag group member master members s
  | .groupQuery slot tag => Sys2Proof.Machine.execGroupQuery slot tag s
  | .timeSet slot tag src port => Sys2Proof.Machine.execTimeSet slot tag src port s
  | .timeStep slot tag => Sys2Proof.Machine.execTimeStep slot tag s
  | .twinSet slot tag peer ports flags witness lossT soloWait revertHold => Sys2Proof.Machine.execTwinSet slot tag peer ports flags witness lossT soloWait revertHold s
  | .twinQuery slot tag start => Sys2Proof.Machine.execTwinQuery slot tag start s
  | .twinPromote slot tag => Sys2Proof.Machine.execTwinPromote slot tag s
  | .twinDemote slot tag => Sys2Proof.Machine.execTwinDemote slot tag s
  | .twinSolo slot tag => Sys2Proof.Machine.execTwinSolo slot tag s
  | .twinTakeback slot tag => Sys2Proof.Machine.execTwinTakeback slot tag s
  | .twinClear slot tag => Sys2Proof.Machine.execTwinClear slot tag s
  | .eventRead slot tag seq count => Sys2Proof.Machine.execEventRead slot tag seq count s
  | .regRead slot tag list => Sys2Proof.Machine.execRegRead slot tag list s
  | .telemetryRead slot tag block index => Sys2Proof.Machine.execTelemetryRead slot tag block index s
  | .identity slot tag => Sys2Proof.Machine.execIdentity slot tag s
  | .fwStage slot tag offset data => Sys2Proof.Machine.execFwStage slot tag offset data s
  | .fwVerify slot tag size => Sys2Proof.Machine.execFwVerify slot tag size s
  | .fwCommit slot tag => Sys2Proof.Machine.execFwCommit slot tag s
  | .fwActivate slot tag => Sys2Proof.Machine.execFwActivate slot tag s
  | .spdm slot tag request => Sys2Proof.Machine.execSpdm slot tag request s
  | .anchorSet slot tag anchor cert => Sys2Proof.Machine.execAnchorSet slot tag anchor cert s
  | .anchorQuery slot tag => Sys2Proof.Machine.execAnchorQuery slot tag s
  | .memtest slot tag die channels0 channels1 pattern => Sys2Proof.Machine.execMemtest slot tag die channels0 channels1 pattern s
  | .inject slot tag die stack word0 word1 => Sys2Proof.Machine.execInject slot tag die stack word0 word1 s
  | .poisonWrite slot tag ppa => Sys2Proof.Machine.execPoisonWrite slot tag ppa s
  | .regWrite slot tag addr value => Sys2Proof.Machine.execRegWrite slot tag addr value s
  | .recoveryRead slot tag ppa length => Sys2Proof.Machine.execRecoveryRead slot tag ppa length s
  | .powerQuery slot tag => Sys2Proof.Machine.execPowerQuery slot tag s
  | .powerSet slot tag limit peak => Sys2Proof.Machine.execPowerSet slot tag limit peak s
  | .poolHold slot tag => Sys2Proof.Machine.execPoolHold slot tag s
  | .poolResume slot tag => Sys2Proof.Machine.execPoolResume slot tag s
  | .standby slot tag => Sys2Proof.Machine.execStandby slot tag s
  | .zeroFillDone extent => Sys2Proof.Machine.execZeroFillDone extent s
  | .fenceComplete fence => Sys2Proof.Machine.execFenceComplete fence s
  | .revalidationDone context => Sys2Proof.Machine.execRevalidationDone context s
  | .migrationPassEnd source => Sys2Proof.Machine.execMigrationPassEnd source s
  | .migrationSwitchDone source => Sys2Proof.Machine.execMigrationSwitchDone source s
  | .migrationHoldLimit source => Sys2Proof.Machine.execMigrationHoldLimit source s
  | .unrecordedRetranslate tenant => Sys2Proof.Machine.execUnrecordedRetranslate tenant s
  | .descriptorAccept context => Sys2Proof.Machine.execDescriptorAccept context s
  | .admitRetryExpire context => Sys2Proof.Machine.execAdmitRetryExpire context s
  | .watchNotice line => Sys2Proof.Machine.execWatchNotice line s
  | .timeWatchFire watch => Sys2Proof.Machine.execTimeWatchFire watch s
  | .courseDispatch context => Sys2Proof.Machine.execCourseDispatch context s
  | .stealWaitExpire context => Sys2Proof.Machine.execStealWaitExpire context s
  | .gangWaitExpire context => Sys2Proof.Machine.execGangWaitExpire context s
  | .notBeforeReached context => Sys2Proof.Machine.execNotBeforeReached context s
  | .tileStart context bulk => Sys2Proof.Machine.execTileStart context bulk s
  | .tileEnd context bulk tile => Sys2Proof.Machine.execTileEnd context bulk tile s
  | .descriptorComplete context bulk => Sys2Proof.Machine.execDescriptorComplete context bulk s
  | .quantumExpire context => Sys2Proof.Machine.execQuantumExpire context s
  | .preemptSaveDone context => Sys2Proof.Machine.execPreemptSaveDone context s
  | .stoppedDescriptorDrain context => Sys2Proof.Machine.execStoppedDescriptorDrain context s
  | .channelWriteEntry die channel input ppa data => Sys2Proof.Machine.execChannelWriteEntry die channel input ppa data s
  | .channelReadEntry die channel input ppa length => Sys2Proof.Machine.execChannelReadEntry die channel input ppa length s
  | .channelSchedule die channel => Sys2Proof.Machine.execChannelSchedule die channel s
  | .readDecode die channel => Sys2Proof.Machine.execReadDecode die channel s
  | .refreshDue die channel bank => Sys2Proof.Machine.execRefreshDue die channel bank s
  | .rfmThreshold die channel bank => Sys2Proof.Machine.execRfmThreshold die channel bank s
  | .bankIdleExpire die channel bank => Sys2Proof.Machine.execBankIdleExpire die channel bank s
  | .urgencyRise die channel => Sys2Proof.Machine.execUrgencyRise die channel s
  | .stackTempRead stack celsius => Sys2Proof.Machine.execStackTempRead stack celsius s
  | .trackingTrigger die channel => Sys2Proof.Machine.execTrackingTrigger die channel s
  | .trackingDone die channel pass => Sys2Proof.Machine.execTrackingDone die channel pass s
  | .fullTrainingDone die channel pass => Sys2Proof.Machine.execFullTrainingDone die channel pass s
  | .rebuildDone die channel => Sys2Proof.Machine.execRebuildDone die channel s
  | .rowSpare die channel bank row => Sys2Proof.Machine.execRowSpare die channel bank row s
  | .rowCopyDone die channel bank row => Sys2Proof.Machine.execRowCopyDone die channel bank row s
  | .stackTrainingDone failed => Sys2Proof.Machine.execStackTrainingDone failed s
  | .selfRefreshExitDone die => Sys2Proof.Machine.execSelfRefreshExitDone die s
  | .sealDelta die => Sys2Proof.Machine.execSealDelta die s
  | .sealDeltaResume die => Sys2Proof.Machine.execSealDeltaResume die s
  | .pageHoldGrant die page => Sys2Proof.Machine.execPageHoldGrant die page s
  | .sealLineAge die page => Sys2Proof.Machine.execSealLineAge die page s
  | .sealRebuildDone die page => Sys2Proof.Machine.execSealRebuildDone die page s
  | .scrubVisit die => Sys2Proof.Machine.execScrubVisit die s
  | .scrubPageChecked die => Sys2Proof.Machine.execScrubPageChecked die s
  | .d2dParityError die => Sys2Proof.Machine.execD2dParityError die s
  | .d2dTrainingLoss die => Sys2Proof.Machine.execD2dTrainingLoss die s
  | .ondieParityError die => Sys2Proof.Machine.execOndieParityError die s
  | .timeBaseCorrect copy => Sys2Proof.Machine.execTimeBaseCorrect copy s
  | .portLightDetect port => Sys2Proof.Machine.execPortLightDetect port s
  | .portTrainingDone port => Sys2Proof.Machine.execPortTrainingDone port s
  | .portTrainingTimeout port => Sys2Proof.Machine.execPortTrainingTimeout port s
  | .trainingRetryTimer port => Sys2Proof.Machine.execTrainingRetryTimer port s
  | .dataFlitReceive port flit => Sys2Proof.Machine.execDataFlitReceive port flit s
  | .badCrcFlit port flit => Sys2Proof.Machine.execBadCrcFlit port flit s
  | .idleFlitReceive port flit => Sys2Proof.Machine.execIdleFlitReceive port flit s
  | .fenceFlitReceive port flit => Sys2Proof.Machine.execFenceFlitReceive port flit s
  | .ts port flit => Sys2Proof.Machine.execTs port flit s
  | .ident port flit => Sys2Proof.Machine.execIdent port flit s
  | .identReq port flit => Sys2Proof.Machine.execIdentReq port flit s
  | .creditInit port flit => Sys2Proof.Machine.execCreditInit port flit s
  | .replayStart port flit => Sys2Proof.Machine.execReplayStart port flit s
  | .retrainReq port flit => Sys2Proof.Machine.execRetrainReq port flit s
  | .retrainAck port flit => Sys2Proof.Machine.execRetrainAck port flit s
  | .widthReq port flit => Sys2Proof.Machine.execWidthReq port flit s
  | .widthAck port flit => Sys2Proof.Machine.execWidthAck port flit s
  | .rttProbe port flit => Sys2Proof.Machine.execRttProbe port flit s
  | .rttEcho port flit => Sys2Proof.Machine.execRttEcho port flit s
  | .timesync port flit => Sys2Proof.Machine.execTimesync port flit s
  | .timesyncAnswer port flit => Sys2Proof.Machine.execTimesyncAnswer port flit s
  | .ackTimerExpire port => Sys2Proof.Machine.execAckTimerExpire port s
  | .lockLossTimeout port => Sys2Proof.Machine.execLockLossTimeout port s
  | .retrainDone port => Sys2Proof.Machine.execRetrainDone port s
  | .retrainMaxExpire port => Sys2Proof.Machine.execRetrainMaxExpire port s
  | .widthChangeDone port => Sys2Proof.Machine.execWidthChangeDone port s
  | .fecRetrainTrigger port corrected uncorrectable => Sys2Proof.Machine.execFecRetrainTrigger port corrected uncorrectable s
  | .wavelengthLockLoss port wavelength => Sys2Proof.Machine.execWavelengthLockLoss port wavelength s
  | .laserMeasure block powers => Sys2Proof.Machine.execLaserMeasure block powers s
  | .laserRemoveTimeout block wavelength => Sys2Proof.Machine.execLaserRemoveTimeout block wavelength s
  | .flitTransmit port => Sys2Proof.Machine.execFlitTransmit port s
  | .rdShared port msg => Sys2Proof.Machine.execRdShared port msg s
  | .rdOwn port msg => Sys2Proof.Machine.execRdOwn port msg s
  | .upgrade port msg => Sys2Proof.Machine.execUpgrade port msg s
  | .ownFull port msg => Sys2Proof.Machine.execOwnFull port msg s
  | .rdOnce port msg => Sys2Proof.Machine.execRdOnce port msg s
  | .wrLine port msg => Sys2Proof.Machine.execWrLine port msg s
  | .wrPart port msg => Sys2Proof.Machine.execWrPart port msg s
  | .atomic port msg => Sys2Proof.Machine.execAtomic port msg s
  | .publish port msg => Sys2Proof.Machine.execPublish port msg s
  | .evictClean port msg => Sys2Proof.Machine.execEvictClean port msg s
  | .rclAck port msg => Sys2Proof.Machine.execRclAck port msg s
  | .rclData port msg => Sys2Proof.Machine.execRclData port msg s
  | .wback port msg => Sys2Proof.Machine.execWback port msg s
  | .pushAck port msg => Sys2Proof.Machine.execPushAck port msg s
  | .transactionActivate line => Sys2Proof.Machine.execTransactionActivate line s
  | .reqInputResume slice => Sys2Proof.Machine.execReqInputResume slice s
  | .recallTimeout line coord => Sys2Proof.Machine.execRecallTimeout line coord s
  | .pushAckTimeout line => Sys2Proof.Machine.execPushAckTimeout line s
  | .endpointSweepEnd endpoint => Sys2Proof.Machine.execEndpointSweepEnd endpoint s
  | .bulkDesc port msg => Sys2Proof.Machine.execBulkDesc port msg s
  | .read port msg => Sys2Proof.Machine.execRead port msg s
  | .write port msg => Sys2Proof.Machine.execWrite port msg s
  | .writeMask port msg => Sys2Proof.Machine.execWriteMask port msg s
  | .unknownOpMessage port msg => Sys2Proof.Machine.execUnknownOpMessage port msg s
  | .messageForward port msg => Sys2Proof.Machine.execMessageForward port msg s
  | .wrAck port msg => Sys2Proof.Machine.execWrAck port msg s
  | .readData port msg => Sys2Proof.Machine.execReadData port msg s
  | .signal port msg => Sys2Proof.Machine.execSignal port msg s
  | .watchArm port msg => Sys2Proof.Machine.execWatchArm port msg s
  | .watchDisarm port msg => Sys2Proof.Machine.execWatchDisarm port msg s
  | .arrive port msg => Sys2Proof.Machine.execArrive port msg s
  | .notifyAck port msg => Sys2Proof.Machine.execNotifyAck port msg s
  | .requestTimeout reqid => Sys2Proof.Machine.execRequestTimeout reqid s
  | .completionRecordExpire domain device reqid => Sys2Proof.Machine.execCompletionRecordExpire domain device reqid s
  | .mirrorWrite port msg => Sys2Proof.Machine.execMirrorWrite port msg s
  | .mirrorTile port msg => Sys2Proof.Machine.execMirrorTile port msg s
  | .mirrorCommit port msg => Sys2Proof.Machine.execMirrorCommit port msg s
  | .mirrorAdd port msg => Sys2Proof.Machine.execMirrorAdd port msg s
  | .mirrorCfg port msg => Sys2Proof.Machine.execMirrorCfg port msg s
  | .mirrorBeat port msg => Sys2Proof.Machine.execMirrorBeat port msg s
  | .mirrorAck port msg => Sys2Proof.Machine.execMirrorAck port msg s
  | .mirrorBeatTimer => Sys2Proof.Machine.execMirrorBeatTimer s
  | .mirrorLoss => Sys2Proof.Machine.execMirrorLoss s
  | .mirrorRestored => Sys2Proof.Machine.execMirrorRestored s
  | .soloWaitExpire => Sys2Proof.Machine.execSoloWaitExpire s
  | .pairForm => Sys2Proof.Machine.execPairForm s
  | .takeoverDone => Sys2Proof.Machine.execTakeoverDone s
  | .resyncDone => Sys2Proof.Machine.execResyncDone s
  | .revertHoldExpire => Sys2Proof.Machine.execRevertHoldExpire s
  | .timeExchangeTimer => Sys2Proof.Machine.execTimeExchangeTimer s
  | .masterLost => Sys2Proof.Machine.execMasterLost s
  | .masterReturn => Sys2Proof.Machine.execMasterReturn s
  | .timeHoldover => Sys2Proof.Machine.execTimeHoldover s
  | .ethLinkUp port => Sys2Proof.Machine.execEthLinkUp port s
  | .ethFrameDiscard port length reason => Sys2Proof.Machine.execEthFrameDiscard port length reason s
  | .arp port mac ip target => Sys2Proof.Machine.execArp port mac ip target s
  | .neighbourDiscovery port mac ip target => Sys2Proof.Machine.execNeighbourDiscovery port mac ip target s
  | .icmpEcho port ip target ident seq data => Sys2Proof.Machine.execIcmpEcho port ip target ident seq data s
  | .pfcFrame port priority xoff => Sys2Proof.Machine.execPfcFrame port priority xoff s
  | .rdmaWrite port pkt => Sys2Proof.Machine.execRdmaWrite port pkt s
  | .rdmaReadRequest port pkt => Sys2Proof.Machine.execRdmaReadRequest port pkt s
  | .readResponseSend qp => Sys2Proof.Machine.execReadResponseSend qp s
  | .compareAndSwap port pkt => Sys2Proof.Machine.execCompareAndSwap port pkt s
  | .fetchAndAdd port pkt => Sys2Proof.Machine.execFetchAndAdd port pkt s
  | .invalidRocePacket port pkt => Sys2Proof.Machine.execInvalidRocePacket port pkt s
  | .cnp port qp => Sys2Proof.Machine.execCnp port qp s
  | .cnpRateTimer qp => Sys2Proof.Machine.execCnpRateTimer qp s
  | .ptpMessage port msg => Sys2Proof.Machine.execPtpMessage port msg s
  | .announceTimeout => Sys2Proof.Machine.execAnnounceTimeout s
  | .egressFrameSend port => Sys2Proof.Machine.execEgressFrameSend port s
  | .gateEntryBoundary gate => Sys2Proof.Machine.execGateEntryBoundary gate s
  | .buttressError err => Sys2Proof.Machine.execButtressError err s
  | .watchdogExpire => Sys2Proof.Machine.execWatchdogExpire s
  | .fatalSafeStateEntry causes => Sys2Proof.Machine.execFatalSafeStateEntry causes s
  | .safeStateCoreRelease => Sys2Proof.Machine.execSafeStateCoreRelease s
  | .wake source => Sys2Proof.Machine.execWake source s
  | .plnTimerReached => Sys2Proof.Machine.execPlnTimerReached s
  | .powerUp => Sys2Proof.Machine.execPowerUp s
  | .powerOnReset smbAddr => Sys2Proof.Machine.execPowerOnReset smbAddr s
  | .jtagTrst => Sys2Proof.Machine.execJtagTrst s
  | .powerSample milliVolts milliAmps => Sys2Proof.Machine.execPowerSample milliVolts milliAmps s
  | .limiterTick => Sys2Proof.Machine.execLimiterTick s
  | .plateModelUpdate => Sys2Proof.Machine.execPlateModelUpdate s
  | .rideThroughEnter => Sys2Proof.Machine.execRideThroughEnter s
  | .rideThroughExit => Sys2Proof.Machine.execRideThroughExit s
  | .busLowTimeout => Sys2Proof.Machine.execBusLowTimeout s
  | .vanaFault => Sys2Proof.Machine.execVanaFault s
  | .vauxLoss => Sys2Proof.Machine.execVauxLoss s
  | .railFault rail => Sys2Proof.Machine.execRailFault rail s
  | .junctionSensorRead sensor celsius => Sys2Proof.Machine.execJunctionSensorRead sensor celsius s
  | .thermalTrip sensor => Sys2Proof.Machine.execThermalTrip sensor s
  | .clockLoss pll => Sys2Proof.Machine.execClockLoss pll s
  | .pllRelock pll => Sys2Proof.Machine.execPllRelock pll s
  | .contextDrainDone context => Sys2Proof.Machine.execContextDrainDone context s
  | .courseDrainDone course => Sys2Proof.Machine.execCourseDrainDone course s
  | .portDrainDone port => Sys2Proof.Machine.execPortDrainDone port s
  | .ethPortDrainDone port => Sys2Proof.Machine.execEthPortDrainDone port s
  | .qpDestroyDone qp => Sys2Proof.Machine.execQpDestroyDone qp s
  | .endpointRetireDone endpoint => Sys2Proof.Machine.execEndpointRetireDone endpoint s
  | .initialCopyDone => Sys2Proof.Machine.execInitialCopyDone s
  | .fwVerifyDone => Sys2Proof.Machine.execFwVerifyDone s
  | .fwCommitDone => Sys2Proof.Machine.execFwCommitDone s
  | .memtestDone mismatches => Sys2Proof.Machine.execMemtestDone mismatches s
  | .poolHoldDone => Sys2Proof.Machine.execPoolHoldDone s
  | .poolResumeDone => Sys2Proof.Machine.execPoolResumeDone s
  | .imageReadDone image => Sys2Proof.Machine.execImageReadDone image s
  | .imageVerifyDone => Sys2Proof.Machine.execImageVerifyDone s
  | .d2dStartFail dies => Sys2Proof.Machine.execD2dStartFail dies s
  | .recoveryHelloTimer => Sys2Proof.Machine.execRecoveryHelloTimer s
  | .recoveryPortTimeout net => Sys2Proof.Machine.execRecoveryPortTimeout net s
  | .recoveryOffer net version bootid size server name => Sys2Proof.Machine.execRecoveryOffer net version bootid size server name s
  | .tftpData block data => Sys2Proof.Machine.execTftpData block data s
  | .transferStall => Sys2Proof.Machine.execTransferStall s
  | .statusWord => Sys2Proof.Machine.execStatusWord s
  | .statusInput clear => Sys2Proof.Machine.execStatusInput clear s
  | .statusTemperature clear => Sys2Proof.Machine.execStatusTemperature clear s
  | .readVin => Sys2Proof.Machine.execReadVin s
  | .readIin => Sys2Proof.Machine.execReadIin s
  | .readTemperature1 => Sys2Proof.Machine.execReadTemperature1 s
  | .readTemperature2 => Sys2Proof.Machine.execReadTemperature2 s
  | .readPin => Sys2Proof.Machine.execReadPin s
  | .mfrId => Sys2Proof.Machine.execMfrId s
  | .mfrModel => Sys2Proof.Machine.execMfrModel s
  | .mfrRevision => Sys2Proof.Machine.execMfrRevision s
  | .mfrShelfState write => Sys2Proof.Machine.execMfrShelfState write s
  | .mfrBootStatus => Sys2Proof.Machine.execMfrBootStatus s
  | .mfrMboxWrite bytes => Sys2Proof.Machine.execMfrMboxWrite bytes s
  | .mfrMboxRead => Sys2Proof.Machine.execMfrMboxRead s
  | .alertResponse => Sys2Proof.Machine.execAlertResponse s
  | .idcode => Sys2Proof.Machine.execIdcode s
  | .bypass => Sys2Proof.Machine.execBypass s
  | .samplePreload preload => Sys2Proof.Machine.execSamplePreload preload s
  | .extest => Sys2Proof.Machine.execExtest s
  | .regacc addr size store => Sys2Proof.Machine.execRegacc addr size store s
  | .anchorLoad cert => Sys2Proof.Machine.execAnchorLoad cert s
  | .symbolLockRegained port wavelength => Sys2Proof.Machine.execSymbolLockRegained port wavelength s
  | .ethLinkDown port => Sys2Proof.Machine.execEthLinkDown port s
  | .guardStart die => Sys2Proof.Machine.execGuardStart die s
  | .commandAddressParityError die channel => Sys2Proof.Machine.execCommandAddressParityError die channel s

end Sys2Proof.Machine
end

