-- ==== Sys2Proof/Machine/Step.lean ====
section
/-!
DEFINITION. One step of the block: the command at the front of the queue runs on the state that holds the rest of the
queue. On an empty queue one KCLK cycle of the time base passes (R30, R533).
-/

namespace Sys2Proof.Machine

/-- The state with another queue. -/
def State.withPending (s : State) (q : List Instr) : State := { s with pending := q }

/-- The state with a command put at the front of its queue. -/
def State.push (s : State) (c : Instr) : State := s.withPending (c :: s.pending)

/-- The state with the command that a word spells put at the front of its queue; unchanged where it spells none.
DESIGN CHOICE: assumption 1. -/
def State.withFetchWord (s : State) (nbits w : Nat) : State :=
  match decodeTableWord nbits w with
  | some c => s.push c
  | none => s

/-- One step. DESIGN CHOICE: assumption 3. DESIGN CHOICE: assumption 5. -/
def step (s : State) : Host.Outcome State Fault Refusal :=
  match s.pending with
  | [] => .next (tick s)
  | c :: rest => exec c (s.withPending rest)

end Sys2Proof.Machine
end

