-- ==== Sys2Proof/Safety.lean ====
section
/-!
DEFINITION. The words in which claims are stated: what it is for a command to complete, for a management command to be
allowed to run, for a reply to be sent, and the invariant of the model.
-/

namespace Sys2Proof.Machine

/-- The command answers a next state, and that state has a property. -/
def Completes (c : Instr) (s : State) (P : State → Prop) : Prop := ∃ t, exec c s = .next t ∧ P t

/-- The command answers exactly this next state. -/
def Gives (c : Instr) (s t : State) : Prop := exec c s = .next t

/-- A management command may run now: the lease, if any, has not ended (R439), no reply to the same command is owed
already (R379), and the catalogue, the owner's right, the witness's right, the safe state and pool-hold allow it (R430,
R443, R480, R530). -/
structure MayRun (s : State) (slot op : Nat) (tag : Word32) : Prop where
  lease : s.mbx.owner = none ∨ now s < s.mbx.expires
  fresh : s.twin.replies.any (fun r => r.slot == slot && r.tag == tag) = false
  right : mayNot s slot op = none

/-- The module is not the active of a twin pair, so it has no command carried out on a standby (R379). -/
def Alone (s : State) : Prop := s.twin.st ≠ 1 ∧ s.twin.st ≠ 2

/-- A deferred command can be accepted: fewer than 64 are deferred (R436). -/
def DeferRoom (s : State) : Prop := s.mbx.deferred.length < 64

/-- The lease, if any, has not ended (R439). -/
def LeaseRuns (s : State) : Prop := s.mbx.owner = none ∨ now s < s.mbx.expires

/-- TAG and OPCODE of a frame (R431). -/
def frameTag (b : List Byte) : Word32 := BitVec.ofNat 32 (bits (leAt b 0 8) 63 32)
def frameOp (b : List Byte) : Nat := bits (leAt b 0 8) 31 16

/-- A frame is a command that its session has not sent before: neither answered, nor queued, nor deferred (R434). -/
structure NewFrame (s : State) (slot : Nat) (se : Session) (b : List Byte) : Prop where
  whole : 16 ≤ b.length
  unanswered : se.replies.find? (fun r => r.tag == frameTag b) = none
  unqueued : se.queue.any (fun f => f.tag == frameTag b) = false
  undeferred : s.mbx.deferred.any (fun d => d.slot == slot && d.tag == frameTag b) = false

/-- A frame is well formed: VERSION 1, KIND 0, reserved bits 0, and LENGTH that of the body and of the command (R431,
R432). -/
structure GoodFrame (sh : Shape) (b : List Byte) : Prop where
  version : bits (leAt b 0 8) 7 0 = 1
  known : shapeOf (frameOp b) = some sh
  kind : bit (leAt b 0 8) 8 = false
  clean : headerClean b = true
  len : (b.drop 16).length = bits (leAt b 8 8) 12 0
  fits : lengthOk sh (b.drop 16) = true

/-- The command that a frame brings, as its session's queue holds it. -/
def queuedFrame (s : State) (slot : Nat) (b : List Byte) : Frame :=
  { slot := slot, opcode := frameOp b, tag := frameTag b, body := b.drop 16, arrived := now s }

/-- A client whose handshake the module admits (R426, R427, R555). -/
structure Admitted (s : State) (h : DtlsHello) : Prop where
  ready : bootStage s = 5
  link : ethUp s h.port = true
  udp : h.udp = rf s Reg.MBX_CTL 15 0
  suite : (h.suite && h.group && h.scheme) = true
  chain : chainAdmitted s h = true

/-- The association that an admitted client opens. -/
def newAssoc (s : State) (h : DtlsHello) : AssocRec :=
  { net := netOf h.port, port := h.port, identity := clientIdentity h, anchor := anchorOf s h, seen := now s }

/-- The last thing that happened is that a reply was sent: slot, opcode, TAG, status and body (R431, R434). -/
def Replied (t : State) (slot op : Nat) (tag : Word32) (status : Nat) (body : List Byte) : Prop :=
  ∃ u, t = reply u slot op tag status body

/-- Pool memory, extents, translation, the stacks, the directory, the watch unit, the scheduler and the twin are as
before. -/
structure SamePool (s t : State) : Prop where
  mem : t.mem = s.mem
  xlt : t.xlt = s.xlt
  dram : t.dram = s.dram
  dirc : t.dirc = s.dirc
  sig : t.sig = s.sig
  sched : t.sched = s.sched
  twin : t.twin = s.twin

/-- The time base, the interrupt controller, the Buttress, the fabric, the power control, the boot state and the board are
as before. -/
structure SameRest (s t : State) : Prop where
  tb : t.tb = s.tb
  mic : t.mic = s.mic
  btr : t.btr = s.btr
  fab : t.fab = s.fab
  pwr : t.pwr = s.pwr
  boot : t.boot = s.boot
  brd : t.brd = s.brd

/-- Every register but those listed is as before. -/
def SameRegs (s t : State) (but : List Nat) : Prop := ∀ a, a ∉ but → rg t a = rg s a

/-- A write to a register of this row does nothing but set its bits: the registers whose write starts something have rows
or statements of their own. -/
def NoEffectRow (r : RegRow) : Prop :=
  r.base ≠ Reg.STK_INJ_CTL 0 0 ∧ r.base ≠ Reg.SEA_INJ_CTL 0 ∧ r.base ≠ Reg.BTR_INJ ∧ r.base ≠ Reg.BTR_CLOSE
  ∧ r.base ≠ Reg.BTR_WDOG ∧ r.base ≠ Reg.MIC_COMPLETE 0 ∧ r.base ≠ Reg.PWR_SHELF

/-- A register that REGISTER_WRITE sets at once: no half of a 64-bit quantity that can be written, and no effect. -/
def PlainRow (r : RegRow) : Prop := NoEffectRow r ∧ r.w1s = 0 ∧ (r.half = 0 ∨ r.rw = 0)

/-- The stacks hold no error: every channel serves, no word, seal or page is marked, nothing is lost or left undefined by
self-refresh, and no injection is armed (R139, R151, R164, R167, R179, R180). -/
structure Clean (s : State) : Prop where
  up : ∀ n c, chanDown s n c = false
  marks : s.dram.marks = []
  stale : s.dram.stale = []
  losses : s.dram.losses = []
  undef : s.dram.undef = []
  injStk : ∀ n st, rf s (Reg.STK_INJ_CTL n st) 14 13 = 0
  injSea : ∀ n, bit (rg s (Reg.SEA_INJ_CTL n)) 15 = false

/-- The extent of a PPA is neither coherent nor mirrored, and no migration copies from it (R48, R100). -/
structure PlainExtent (s : State) (a : Nat) : Prop where
  coherent : (extRec s (extOf a)).coherent = false
  mirrored : (extRec s (extOf a)).mirrored = false
  still : tget s.xlt.migrations (extOf a) = none

/-- Records of extents, but for those listed, are as before. -/
def SameExts (s t : State) (but : List Nat) : Prop := ∀ e, e ∉ but → extRec t e = extRec s e

/-- View slots, but for those listed of one tenant, are as before. -/
def SameViews (s t : State) (ten : Nat) (but : List Nat) : Prop :=
  ∀ u v, v < 2 ^ 18 → (u ≠ ten ∨ v ∉ but) → viewEnt t u v = viewEnt s u v

/-- The lowest free fence, and room for it (R96, R99). -/
structure FreeFence (s : State) (f : Nat) : Prop where
  room : fenceRoom s = true
  small : f < 64
  free : tget s.xlt.fences f = none
  lowest : ∀ g, g < f → tget s.xlt.fences g ≠ none

/-- A fence is open over these extents, whose epochs have advanced (R91, R96). -/
structure FenceOpened (s t : State) (f : Nat) (es : List Nat) (cause : Nat) : Prop where
  fence : tget t.xlt.fences f = some { extents := es, cause := cause, opened := now s }
  others : ∀ g, g ≠ f → tget t.xlt.fences g = tget s.xlt.fences g
  epochs : ∀ e, epochOf t e = if e ∈ es then (epochOf s e + 1) % 2 ^ 22 else epochOf s e

/-- Nothing waits for a fence to complete: no change, no held request, no RoCEv2 packet, no watch on these extents. -/
structure NoneWait (s : State) (es : List Nat) : Prop where
  changes : s.xlt.fenceWait = []
  held : s.xlt.heldReqs = []
  packets : ∀ q, q ∈ s.eth.qps → q.2.waiting = []
  watches : ∀ w, w ∈ s.sig.watches → w.2.time = true ∨ w.2.extent ∉ es

/-- Contexts, but for those listed, are as before. -/
def SameCtxs (s t : State) (but : List Nat) : Prop := ∀ y, y ∉ but → ctxAt t y = ctxAt s y

/-- A context has a next descriptor that can be read and admitted now (R84, R244): it is READY and runs nothing, no header
write of it waits, and a shadow is free for its tenant. -/
structure Acceptable (s : State) (x : Nat) (c : Ctx) : Prop where
  ctx : ctxAt s x = some c
  ready : c.st = cxREADY
  going : paused s c = false
  run : c.run = none
  next : c.next = none
  park : c.park = none
  inRing : c.overrun = false
  more : c.head < c.tail
  room : admitBar s c.tenant = none
  posts : s.sched.posts = []

/-- The last thing that happened is that a request was answered: the response leaves for its SRC (R192, R342). -/
def Answered (t : State) (m : Msg) (r : Resp) : Prop := ∃ u, t = sendMsg u (respMsg u m r)

/-- The completion record of a request is kept for REPLAY_WIN (R356). -/
def Recorded (s t : State) (m : Msg) (r : Resp) : Prop :=
  tget t.fab.records (reqKey m) = some { status := r.status, xf := r.xf, cause := r.cause, value := r.arg
                                         hasValue := r.arg != 0, opcode := r.opcode, expires := now s + replayWin s }

/-- A request of an opcode that the module takes in as a first attempt: it has its coordinate and is not in the safe
state, no attempt of it is in progress, the record store has room, and its form is the opcode's (R72, R346, R347, R356,
R357, R479). -/
structure Fresh (s : State) (op : Nat) (m : Msg) : Prop where
  coord : s.fab.coord.isNone = false
  running : inSafe s = false
  first : m.retry = false
  alone : tget s.fab.inProgress (reqKey m) = none
  room : storeFull s = false
  form : malformed { m with opcode := BitVec.ofNat 8 op } = false

/-- A request names by PPA a range of one extent that the fabric may reach, on a port in MODE 2 (R39, R41, R46, R77); the
stacks hold no error, and the extent is neither mirrored nor copied by a migration. -/
structure PpaReq (s : State) (k : Nat) (m : Msg) (a len : Nat) : Prop where
  kind : m.akind = 2
  mode : portMode s k = 2
  ok : ppaOk a len = true
  inside : a % 2 ^ 30 + len ≤ 2 ^ 30
  clean : Clean s
  mirrored : (extRec s (extOf a)).mirrored = false
  still : tget s.xlt.migrations (extOf a) = none

/-- The directory rests: no transaction, no held request (R189, R197). -/
def DirIdle (s : State) : Prop := s.dirc.txns = [] ∧ s.dirc.heldReq = []

/-- The byte counter of the tenant that PPA requests charge (R492). -/
def chargeRegs : List Nat := [Reg.XLT_TN_BYTES_LO 0, Reg.XLT_TN_BYTES_LO 0 + 4]

/-- The descriptor that a context runs can be put onto courses at once (R93, R225, R256): every entry of its shadow is
current, and it has neither a program to load nor a BROADCAST operand to read. -/
structure Startable (s : State) (x : Nat) (c : Ctx) (r : Run) : Prop where
  ctx : ctxAt s x = some c
  run : c.run = some r
  fresh : entriesFresh s r.job.shadow (List.range (shadowAt s r.job.shadow).entries.length) = true
  program : (courseOf r.raw).progLen = 0
  broadcast : (courseOf r.raw).bcasts = []

/-- A context's descriptor is on these courses since now. -/
def OnCourses (s t : State) (x : Nat) (r : Run) (cs : List Nat) : Prop :=
  ∃ c' r', ctxAt t x = some c' ∧ c'.st = cxRUNNING ∧ c'.reserved = [] ∧ c'.run = some r' ∧ r'.raw = r.raw ∧ r'.members = cs
    ∧ r'.dispatched = now s ∧ r'.job.nextTile = r.job.nextTile

/-- Fabric ports, but for one, are as before. -/
def SamePorts (s t : State) (k : Nat) : Prop := ∀ j, j ≠ k → port t j = port s j

/-- A port listens, and takes in a CTRL flit of this subtype whose CRC is good and whose CRPOOL names a pool (R322, R323,
R330, R339). -/
structure CtrlFlit (s : State) (k : Nat) (f : List Byte) (sub : Nat) : Prop where
  hears : listens s k = true
  crc : crcGood f = true
  pool : bits (leAt f 0 8) 35 32 ∈ poolTurn
  sub : leAt (slice f 8 240) 0 1 = sub

/-- One CTRL flit has left the port: subtype and payload (R323, R324). -/
def SentCtrl (s t : State) (k sub : Nat) (rest : List Byte) : Prop :=
  ∃ q : Port, t.out = .flit k (mkFlit q 2 0 0 (BitVec.ofNat 8 sub :: rest)) :: s.out ∧ q.rxCount = (port s k).rxCount
    ∧ q.freed = (port s k).freed

/-- One frame of this kind has been put at the end of an egress queue of an Ethernet port (R414). -/
def EthQueued (s t : State) (k q : Nat) (kind : EthKind) : Prop :=
  (∃ f, tgetD (ethPort t k).queues q [] = tgetD (ethPort s k).queues q [] ++ [f] ∧ f.kind = kind ∧ f.tag = none)
    ∧ (∀ x, x ≠ q → tgetD (ethPort t k).queues x [] = tgetD (ethPort s k).queues x []) ∧ (∀ j, j ≠ k → ethPort t j = ethPort s j)

/-- Every egress queue is as before. -/
def SameEgress (s t : State) : Prop := ∀ j, (ethPort t j).queues = (ethPort s j).queues

/-- The counters that a frame with a good FCS advances (R419). -/
def rxRegs (k : Nat) : List Nat := [Reg.ETH_RXFRM_LO k, Reg.ETH_RXFRM_LO k + 4, Reg.ETH_RXBYTES_LO k, Reg.ETH_RXBYTES_LO k + 4]

/-- A RoCEv2 packet that its queue pair executes as it arrives (R399 to R401): the pair is RTS and has nothing in progress, the
packet has the expected PSN and a good ICRC, and the port has no priority flow control. -/
structure RoceReq (s : State) (k q : Nat) (p : QPair) (m : RocePkt) : Prop where
  pair : tget s.eth.qps q = some p
  names : m.qp = q
  up : ethUp s k = true
  port : p.port = k
  crc : m.icrcGood = true
  going : p.error = false ∧ p.draining = false
  idle : p.waiting = [] ∧ p.reads = [] ∧ p.writing = none ∧ p.mirrorAcks = 0
  psn : m.psn = p.epsn ∧ p.epsn < 2 ^ 24
  mark : m.ce = false
  flow : rf s (Reg.ETH_CTL k) 4 4 = 0
  room : bufferFull s k (roceIn s k p.v6 m) = false

/-- The bytes that a RoCEv2 request names lie in one extent, at a PPA that its tenant's view gives with the permission needed
(R55, R78, R402); the stacks hold no error, and the extent is neither coherent nor mirrored. -/
structure RoceTarget (s : State) (p : QPair) (m : RocePkt) (need len a : Nat) : Prop where
  rkey : m.rkey = p.rkey
  view : veValid (viewEnt s p.tenant (m.va / 2 ^ 30 % 2 ^ 18)) = true
  perm : need &&& (vePerm (viewEnt s p.tenant (m.va / 2 ^ 30 % 2 ^ 18)) &&& 15) = need
  addr : a = ppaOf (entExtent (viewEnt s p.tenant (m.va / 2 ^ 30 % 2 ^ 18)) (m.va / 2 ^ 30 % 2 ^ 18)) (m.va % 2 ^ 30)
  inside : m.va % 2 ^ 30 + len ≤ 2 ^ 30 ∧ m.va + len ≤ 2 ^ 48
  clean : Clean s
  plain : PlainExtent s a

/-- The commands of the catalogue that are not open to every session, with slot, opcode and TAG (R443 to R445). -/
def restricted : Instr → Option (Nat × Nat × Word32)
  | .ownRenew slot tag _ => some (slot, 0x0102, tag)
  | .ownRelease slot tag => some (slot, 0x0103, tag)
  | .ownTransfer slot tag _ _ => some (slot, 0x0105, tag)
  | .sessionClose slot tag _ => some (slot, 0x0107, tag)
  | .mgmtSet slot tag _ _ => some (slot, 0x0108, tag)
  | .extentAlloc slot tag _ _ _ _ _ => some (slot, 0x0201, tag)
  | .extentRelease slot tag _ => some (slot, 0x0202, tag)
  | .extentSetAttr slot tag _ _ _ => some (slot, 0x0203, tag)
  | .viewMap slot tag _ _ _ _ => some (slot, 0x0205, tag)
  | .viewUnmap slot tag _ _ => some (slot, 0x0206, tag)
  | .windowSet slot tag _ _ _ _ => some (slot, 0x0208, tag)
  | .windowClear slot tag _ => some (slot, 0x0209, tag)
  | .extentMigrate slot tag _ _ => some (slot, 0x020A, tag)
  | .tenantSet slot tag _ _ _ _ _ _ _ => some (slot, 0x0301, tag)
  | .tenantClear slot tag _ => some (slot, 0x0302, tag)
  | .capacitySet slot tag _ _ => some (slot, 0x0304, tag)
  | .gateSet slot tag _ _ _ => some (slot, 0x0305, tag)
  | .faultResolve slot tag _ => some (slot, 0x0311, tag)
  | .faultqSet slot tag _ _ => some (slot, 0x0312, tag)
  | .contextCreate slot tag _ _ _ _ => some (slot, 0x0320, tag)
  | .contextDestroy slot tag _ => some (slot, 0x0321, tag)
  | .contextRestart slot tag _ => some (slot, 0x0323, tag)
  | .contextSuspend slot tag _ => some (slot, 0x0324, tag)
  | .contextResume slot tag _ => some (slot, 0x0325, tag)
  | .contextSet slot tag _ _ _ => some (slot, 0x0326, tag)
  | .courseSet slot tag _ _ => some (slot, 0x0328, tag)
  | .lintelCreate slot tag _ _ _ _ _ => some (slot, 0x0340, tag)
  | .lintelDestroy slot tag _ => some (slot, 0x0341, tag)
  | .lintelBreak slot tag _ => some (slot, 0x0343, tag)
  | .coordSet slot tag _ _ => some (slot, 0x0401, tag)
  | .portSet slot tag _ _ _ _ => some (slot, 0x0402, tag)
  | .routeSet slot tag _ => some (slot, 0x0404, tag)
  | .portRetrain slot tag _ _ => some (slot, 0x0405, tag)
  | .fabricSet slot tag _ _ _ _ => some (slot, 0x0406, tag)
  | .rankTableSet slot tag _ _ _ => some (slot, 0x0410, tag)
  | .legacySet slot tag _ _ _ => some (slot, 0x0420, tag)
  | .endpointFail slot tag _ => some (slot, 0x0430, tag)
  | .endpointReadmit slot tag _ => some (slot, 0x0431, tag)
  | .endpointRetire slot tag _ => some (slot, 0x0432, tag)
  | .ethPortSet slot tag _ _ _ _ _ _ _ _ _ _ => some (slot, 0x0440, tag)
  | .qpCreate slot tag _ _ _ _ _ _ _ _ _ => some (slot, 0x0442, tag)
  | .qpDestroy slot tag _ => some (slot, 0x0443, tag)
  | .egressSet slot tag _ _ _ _ => some (slot, 0x0445, tag)
  | .ptpSet slot tag _ => some (slot, 0x0446, tag)
  | .groupSet slot tag _ _ _ _ => some (slot, 0x0501, tag)
  | .timeSet slot tag _ _ => some (slot, 0x0503, tag)
  | .timeStep slot tag => some (slot, 0x0504, tag)
  | .twinSet slot tag _ _ _ _ _ _ _ => some (slot, 0x0510, tag)
  | .twinPromote slot tag => some (slot, 0x0512, tag)
  | .twinDemote slot tag => some (slot, 0x0513, tag)
  | .twinSolo slot tag => some (slot, 0x0514, tag)
  | .twinTakeback slot tag => some (slot, 0x0515, tag)
  | .twinClear slot tag => some (slot, 0x0516, tag)
  | .fwStage slot tag _ _ => some (slot, 0x0702, tag)
  | .fwVerify slot tag _ => some (slot, 0x0703, tag)
  | .fwCommit slot tag => some (slot, 0x0704, tag)
  | .fwActivate slot tag => some (slot, 0x0705, tag)
  | .anchorSet slot tag _ _ => some (slot, 0x0707, tag)
  | .memtest slot tag _ _ _ _ => some (slot, 0x0801, tag)
  | .inject slot tag _ _ _ _ => some (slot, 0x0802, tag)
  | .poisonWrite slot tag _ => some (slot, 0x0803, tag)
  | .regWrite slot tag _ _ => some (slot, 0x0804, tag)
  | .recoveryRead slot tag _ _ => some (slot, 0x0805, tag)
  | .powerSet slot tag _ _ => some (slot, 0x0902, tag)
  | .poolHold slot tag => some (slot, 0x0903, tag)
  | .poolResume slot tag => some (slot, 0x0904, tag)
  | .standby slot tag => some (slot, 0x0905, tag)
  | _ => none

/-- The invariant of the model: pool memory, the SRAM and the registers stand in their canonical forms. -/
structure State.Inv (s : State) : Prop where
  mem : Memory.wf s.mem = true
  sram : Memory.wf s.bus.sram = true
  regs : tsortedFrom s.regs 0 = true

end Sys2Proof.Machine
end

