-- ==== Sys2Proof/WellFormed.lean ====
section
/-!
DEFINITION. Well-formed commands: every operand that names a part of the module names one that exists, every message
carries the data slots it announces, and every flit is whole. A command that is not well formed stands for nothing that
can reach the module; exec is total on it all the same.
-/

namespace Sys2Proof

/-- The widths of an access of a bus master (R424). -/
def sizeFits (n : Nat) : Bool := n == 1 || n == 2 || n == 4 || n == 8

/-- A flit is 256 bytes (R321). -/
def flitFits (f : List Byte) : Bool := f.length == 256

/-- A message carries 16 bytes for each of its at most 18 data slots (R342). -/
def Msg.wf (m : Msg) : Bool := decide (m.dslots.toNat ≤ 18) && m.data.length == 16 * m.dslots.toNat

/-- The queue pair and the PSN of a packet have 24 bits (R400). -/
def RocePkt.wf (p : RocePkt) : Bool := decide (p.qp < 2 ^ 24) && decide (p.psn < 2 ^ 24)

/-- The gates of the dies, or of one of the eight Ethernet ports (R416, R498). -/
def GateSite.wf : GateSite → Bool
  | .ethPort k => decide (k < 8)
  | .dies => true

/-- Every operand of a command lies in its range. -/
def Instr.wf : Instr → Bool
  | .registerWrite master _ size _ => decide (master < 6) && sizeFits size
  | .setAddressWrite master _ _ => decide (master < 6)
  | .clrAddressWrite master _ _ => decide (master < 6)
  | .w1cWrite _ _ _ => true
  | .rcRead master _ _ => decide (master < 6)
  | .loReadLatch master _ => decide (master < 6)
  | .hiWriteHold master _ _ => decide (master < 6)
  | .loWriteCommit master _ _ => decide (master < 6)
  | .micClaimRead core => decide (core < 4)
  | .micCompleteWrite core _ => decide (core < 4)
  | .coalHoldEnd source => decide (source < 512)
  | .sourceLevelChange source _ => decide (source < 512)
  | .btrCloseWrite _ => true
  | .btrWdogWrite _ => true
  | .btrInjGo _ => true
  | .stkInjCtlWrite die stack _ => decide (die < 6) && decide (stack < 4)
  | .stkInjPar die stack _ => decide (die < 6) && decide (stack < 4)
  | .seaInjArm die _ => decide (die < 6)
  | .coreAccess core _ size _ => decide (core < 4) && sizeFits size
  | .coreAtomic core _ size _ _ => decide (core < 4) && sizeFits size
  | .poolWindowAccess core ppa size _ => decide (core < 4) && decide (ppa < 2 ^ 42) && sizeFits size
  | .voussoirWindowAccess core die off size _ => decide (core < 4) && decide (die < 6) && decide (off < 0x1000000) && sizeFits size
  | .counterAccumulate => true
  | .dtlsHandshake hello => decide (hello.port < 8)
  | .associationIdle slot net => decide (slot ≤ 8) && decide (net < 2)
  | .refusingClose net _ => decide (net < 2)
  | .commandFrame _ net _ => decide (net < 2)
  | .commandHead => true
  | .leaseExpire => true
  | .ownClaim slot _ _ => decide (slot ≤ 8)
  | .ownRenew slot _ _ => decide (slot ≤ 8)
  | .ownRelease slot _ => decide (slot ≤ 8)
  | .ownQuery slot _ => decide (slot ≤ 8)
  | .ownTransfer slot _ _ _ => decide (slot ≤ 8)
  | .sessionList slot _ => decide (slot ≤ 8)
  | .sessionClose slot _ _ => decide (slot ≤ 8)
  | .mgmtSet slot _ _ _ => decide (slot ≤ 8)
  | .extentAlloc slot _ _ _ _ _ _ => decide (slot ≤ 8)
  | .extentRelease slot _ _ => decide (slot ≤ 8)
  | .extentSetAttr slot _ _ _ _ => decide (slot ≤ 8)
  | .extentQuery slot _ _ => decide (slot ≤ 8)
  | .viewMap slot _ _ _ _ _ => decide (slot ≤ 8)
  | .viewUnmap slot _ _ _ => decide (slot ≤ 8)
  | .viewQuery slot _ _ _ _ => decide (slot ≤ 8)
  | .windowSet slot _ _ _ _ _ => decide (slot ≤ 8)
  | .windowClear slot _ _ => decide (slot ≤ 8)
  | .extentMigrate slot _ _ _ => decide (slot ≤ 8)
  | .tenantSet slot _ _ _ _ _ _ _ _ => decide (slot ≤ 8)
  | .tenantClear slot _ _ => decide (slot ≤ 8)
  | .tenantQuery slot _ _ => decide (slot ≤ 8)
  | .capacitySet slot _ _ _ => decide (slot ≤ 8)
  | .gateSet slot _ _ _ _ => decide (slot ≤ 8)
  | .faultRead slot _ _ => decide (slot ≤ 8)
  | .faultResolve slot _ _ => decide (slot ≤ 8)
  | .faultqSet slot _ _ _ => decide (slot ≤ 8)
  | .contextCreate slot _ _ _ _ _ => decide (slot ≤ 8)
  | .contextDestroy slot _ _ => decide (slot ≤ 8)
  | .contextQuery slot _ _ => decide (slot ≤ 8)
  | .contextRestart slot _ _ => decide (slot ≤ 8)
  | .contextSuspend slot _ _ => decide (slot ≤ 8)
  | .contextResume slot _ _ => decide (slot ≤ 8)
  | .contextSet slot _ _ _ _ => decide (slot ≤ 8)
  | .courseCaps slot _ => decide (slot ≤ 8)
  | .courseSet slot _ _ _ => decide (slot ≤ 8)
  | .lintelCreate slot _ _ _ _ _ _ => decide (slot ≤ 8)
  | .lintelDestroy slot _ _ => decide (slot ≤ 8)
  | .lintelQuery slot _ _ => decide (slot ≤ 8)
  | .lintelBreak slot _ _ => decide (slot ≤ 8)
  | .watchQuery slot _ _ _ _ => decide (slot ≤ 8)
  | .coordSet slot _ _ _ => decide (slot ≤ 8)
  | .portSet slot _ _ _ _ _ => decide (slot ≤ 8)
  | .portQuery slot _ _ => decide (slot ≤ 8)
  | .routeSet slot _ _ => decide (slot ≤ 8)
  | .portRetrain slot _ _ _ => decide (slot ≤ 8)
  | .fabricSet slot _ _ _ _ _ => decide (slot ≤ 8)
  | .rankTableSet slot _ _ _ _ => decide (slot ≤ 8)
  | .legacySet slot _ _ _ _ => decide (slot ≤ 8)
  | .endpointFail slot _ _ => decide (slot ≤ 8)
  | .endpointReadmit slot _ _ => decide (slot ≤ 8)
  | .endpointRetire slot _ _ => decide (slot ≤ 8)
  | .ethPortSet slot _ _ _ _ _ _ _ _ _ _ _ => decide (slot ≤ 8)
  | .ethPortQuery slot _ _ => decide (slot ≤ 8)
  | .qpCreate slot _ _ _ _ _ _ _ _ _ _ => decide (slot ≤ 8)
  | .qpDestroy slot _ _ => decide (slot ≤ 8)
  | .qpQuery slot _ _ => decide (slot ≤ 8)
  | .egressSet slot _ _ _ _ _ => decide (slot ≤ 8)
  | .ptpSet slot _ _ => decide (slot ≤ 8)
  | .groupSet slot _ _ _ _ _ => decide (slot ≤ 8)
  | .groupQuery slot _ => decide (slot ≤ 8)
  | .timeSet slot _ _ _ => decide (slot ≤ 8)
  | .timeStep slot _ => decide (slot ≤ 8)
  | .twinSet slot _ _ _ _ _ _ _ _ => decide (slot ≤ 8)
  | .twinQuery slot _ _ => decide (slot ≤ 8)
  | .twinPromote slot _ => decide (slot ≤ 8)
  | .twinDemote slot _ => decide (slot ≤ 8)
  | .twinSolo slot _ => decide (slot ≤ 8)
  | .twinTakeback slot _ => decide (slot ≤ 8)
  | .twinClear slot _ => decide (slot ≤ 8)
  | .eventRead slot _ _ _ => decide (slot ≤ 8)
  | .regRead slot _ _ => decide (slot ≤ 8)
  | .telemetryRead slot _ _ _ => decide (slot ≤ 8)
  | .identity slot _ => decide (slot ≤ 8)
  | .fwStage slot _ _ _ => decide (slot ≤ 8)
  | .fwVerify slot _ _ => decide (slot ≤ 8)
  | .fwCommit slot _ => decide (slot ≤ 8)
  | .fwActivate slot _ => decide (slot ≤ 8)
  | .spdm slot _ _ => decide (slot ≤ 8)
  | .anchorSet slot _ _ _ => decide (slot ≤ 8)
  | .anchorQuery slot _ => decide (slot ≤ 8)
  | .memtest slot _ _ _ _ _ => decide (slot ≤ 8)
  | .inject slot _ _ _ _ _ => decide (slot ≤ 8)
  | .poisonWrite slot _ _ => decide (slot ≤ 8)
  | .regWrite slot _ _ _ => decide (slot ≤ 8)
  | .recoveryRead slot _ _ _ => decide (slot ≤ 8)
  | .powerQuery slot _ => decide (slot ≤ 8)
  | .powerSet slot _ _ _ => decide (slot ≤ 8)
  | .poolHold slot _ => decide (slot ≤ 8)
  | .poolResume slot _ => decide (slot ≤ 8)
  | .standby slot _ => decide (slot ≤ 8)
  | .zeroFillDone extent => decide (extent < 2880)
  | .fenceComplete fence => decide (fence < 64)
  | .revalidationDone context => decide (context < 16384)
  | .migrationPassEnd source => decide (source < 2880)
  | .migrationSwitchDone source => decide (source < 2880)
  | .migrationHoldLimit source => decide (source < 2880)
  | .unrecordedRetranslate tenant => decide (tenant < 256)
  | .descriptorAccept context => decide (context < 16384)
  | .admitRetryExpire context => decide (context < 16384)
  | .watchNotice line => decide (line < 2880 * 2 ^ 23)
  | .timeWatchFire watch => decide (watch < 65536)
  | .courseDispatch context => decide (context < 16384)
  | .stealWaitExpire context => decide (context < 16384)
  | .gangWaitExpire context => decide (context < 16384)
  | .notBeforeReached context => decide (context < 16384)
  | .tileStart context _ => decide (context < 16384)
  | .tileEnd context _ _ => decide (context < 16384)
  | .descriptorComplete context _ => decide (context < 16384)
  | .quantumExpire context => decide (context < 16384)
  | .preemptSaveDone context => decide (context < 16384)
  | .stoppedDescriptorDrain context => decide (context < 16384)
  | .channelWriteEntry die channel input ppa data => decide (die < 6) && decide (channel < 128) && decide (input < 8) && decide (ppa < 2 ^ 42) && decide (0 < data.length) && decide (data.length ≤ 256)
  | .channelReadEntry die channel input ppa length => decide (die < 6) && decide (channel < 128) && decide (input < 8) && decide (ppa < 2 ^ 42) && decide (0 < length) && decide (length ≤ 256)
  | .channelSchedule die channel => decide (die < 6) && decide (channel < 128)
  | .readDecode die channel => decide (die < 6) && decide (channel < 128)
  | .refreshDue die channel bank => decide (die < 6) && decide (channel < 128) && decide (bank < 64)
  | .rfmThreshold die channel bank => decide (die < 6) && decide (channel < 128) && decide (bank < 64)
  | .bankIdleExpire die channel bank => decide (die < 6) && decide (channel < 128) && decide (bank < 64)
  | .urgencyRise die channel => decide (die < 6) && decide (channel < 128)
  | .stackTempRead stack _ => decide (stack < 24)
  | .trackingTrigger die channel => decide (die < 6) && decide (channel < 128)
  | .trackingDone die channel _ => decide (die < 6) && decide (channel < 128)
  | .fullTrainingDone die channel _ => decide (die < 6) && decide (channel < 128)
  | .rebuildDone die channel => decide (die < 6) && decide (channel < 128)
  | .rowSpare die channel bank row => decide (die < 6) && decide (channel < 128) && decide (bank < 64) && decide (row < 32768)
  | .rowCopyDone die channel bank row => decide (die < 6) && decide (channel < 128) && decide (bank < 64) && decide (row < 32768)
  | .stackTrainingDone _ => true
  | .selfRefreshExitDone die => decide (die < 6)
  | .sealDelta die => decide (die < 6)
  | .sealDeltaResume die => decide (die < 6)
  | .pageHoldGrant die page => decide (die < 6) && decide (page < 2880 * 2 ^ 18)
  | .sealLineAge die page => decide (die < 6) && decide (page < 2880 * 2 ^ 18)
  | .sealRebuildDone die page => decide (die < 6) && decide (page < 2880 * 2 ^ 18)
  | .scrubVisit die => decide (die < 6)
  | .scrubPageChecked die => decide (die < 6)
  | .d2dParityError die => decide (die < 6)
  | .d2dTrainingLoss die => decide (die < 6)
  | .ondieParityError die => decide (die < 6)
  | .timeBaseCorrect copy => decide (copy < 40)
  | .portLightDetect port => decide (port < 32)
  | .portTrainingDone port => decide (port < 32)
  | .portTrainingTimeout port => decide (port < 32)
  | .trainingRetryTimer port => decide (port < 32)
  | .dataFlitReceive port flit => decide (port < 32) && flitFits flit
  | .badCrcFlit port flit => decide (port < 32) && flitFits flit
  | .idleFlitReceive port flit => decide (port < 32) && flitFits flit
  | .fenceFlitReceive port flit => decide (port < 32) && flitFits flit
  | .ts port flit => decide (port < 32) && flitFits flit
  | .ident port flit => decide (port < 32) && flitFits flit
  | .identReq port flit => decide (port < 32) && flitFits flit
  | .creditInit port flit => decide (port < 32) && flitFits flit
  | .replayStart port flit => decide (port < 32) && flitFits flit
  | .retrainReq port flit => decide (port < 32) && flitFits flit
  | .retrainAck port flit => decide (port < 32) && flitFits flit
  | .widthReq port flit => decide (port < 32) && flitFits flit
  | .widthAck port flit => decide (port < 32) && flitFits flit
  | .rttProbe port flit => decide (port < 32) && flitFits flit
  | .rttEcho port flit => decide (port < 32) && flitFits flit
  | .timesync port flit => decide (port < 32) && flitFits flit
  | .timesyncAnswer port flit => decide (port < 32) && flitFits flit
  | .ackTimerExpire port => decide (port < 32)
  | .lockLossTimeout port => decide (port < 32)
  | .retrainDone port => decide (port < 32)
  | .retrainMaxExpire port => decide (port < 32)
  | .widthChangeDone port => decide (port < 32)
  | .fecRetrainTrigger port _ _ => decide (port < 32)
  | .wavelengthLockLoss port wavelength => decide (port < 32) && decide (wavelength < 16)
  | .laserMeasure block powers => decide (block < 4) && decide (powers.length = 16)
  | .laserRemoveTimeout block wavelength => decide (block < 4) && decide (wavelength < 16)
  | .flitTransmit port => decide (port < 32)
  | .rdShared port msg => decide (port < 32) && msg.wf
  | .rdOwn port msg => decide (port < 32) && msg.wf
  | .upgrade port msg => decide (port < 32) && msg.wf
  | .ownFull port msg => decide (port < 32) && msg.wf
  | .rdOnce port msg => decide (port < 32) && msg.wf
  | .wrLine port msg => decide (port < 32) && msg.wf
  | .wrPart port msg => decide (port < 32) && msg.wf
  | .atomic port msg => decide (port < 32) && msg.wf
  | .publish port msg => decide (port < 32) && msg.wf
  | .evictClean port msg => decide (port < 32) && msg.wf
  | .rclAck port msg => decide (port < 32) && msg.wf
  | .rclData port msg => decide (port < 32) && msg.wf
  | .wback port msg => decide (port < 32) && msg.wf
  | .pushAck port msg => decide (port < 32) && msg.wf
  | .transactionActivate line => decide (line < 2880 * 2 ^ 23)
  | .reqInputResume slice => decide (slice < 16)
  | .recallTimeout line coord => decide (line < 2880 * 2 ^ 23) && decide (coord < 2 ^ 17)
  | .pushAckTimeout line => decide (line < 2880 * 2 ^ 23)
  | .endpointSweepEnd endpoint => decide (endpoint < 1024)
  | .bulkDesc port msg => decide (port < 32) && msg.wf
  | .read port msg => decide (port < 32) && msg.wf
  | .write port msg => decide (port < 32) && msg.wf
  | .writeMask port msg => decide (port < 32) && msg.wf
  | .unknownOpMessage port msg => decide (port < 32) && msg.wf
  | .messageForward port msg => decide (port < 32) && msg.wf
  | .wrAck port msg => decide (port < 32) && msg.wf
  | .readData port msg => decide (port < 32) && msg.wf
  | .signal port msg => decide (port < 32) && msg.wf
  | .watchArm port msg => decide (port < 32) && msg.wf
  | .watchDisarm port msg => decide (port < 32) && msg.wf
  | .arrive port msg => decide (port < 32) && msg.wf
  | .notifyAck port msg => decide (port < 32) && msg.wf
  | .requestTimeout reqid => decide (reqid < 2 ^ 24)
  | .completionRecordExpire domain device reqid => decide (domain < 64) && decide (device < 64) && decide (reqid < 2 ^ 24)
  | .mirrorWrite port msg => decide (port < 32) && msg.wf
  | .mirrorTile port msg => decide (port < 32) && msg.wf
  | .mirrorCommit port msg => decide (port < 32) && msg.wf
  | .mirrorAdd port msg => decide (port < 32) && msg.wf
  | .mirrorCfg port msg => decide (port < 32) && msg.wf
  | .mirrorBeat port msg => decide (port < 32) && msg.wf
  | .mirrorAck port msg => decide (port < 32) && msg.wf
  | .mirrorBeatTimer => true
  | .mirrorLoss => true
  | .mirrorRestored => true
  | .soloWaitExpire => true
  | .pairForm => true
  | .takeoverDone => true
  | .resyncDone => true
  | .revertHoldExpire => true
  | .timeExchangeTimer => true
  | .masterLost => true
  | .masterReturn => true
  | .timeHoldover => true
  | .ethLinkUp port => decide (port < 8)
  | .ethFrameDiscard port _ _ => decide (port < 8)
  | .arp port _ _ _ => decide (port < 8)
  | .neighbourDiscovery port _ _ _ => decide (port < 8)
  | .icmpEcho port _ _ _ _ _ => decide (port < 8)
  | .pfcFrame port priority _ => decide (port < 8) && decide (priority < 8)
  | .rdmaWrite port pkt => decide (port < 8) && pkt.wf
  | .rdmaReadRequest port pkt => decide (port < 8) && pkt.wf
  | .readResponseSend qp => decide (qp < 4096)
  | .compareAndSwap port pkt => decide (port < 8) && pkt.wf
  | .fetchAndAdd port pkt => decide (port < 8) && pkt.wf
  | .invalidRocePacket port pkt => decide (port < 8) && pkt.wf
  | .cnp port qp => decide (port < 8) && decide (qp < 4096)
  | .cnpRateTimer qp => decide (qp < 4096)
  | .ptpMessage port _ => decide (port < 8)
  | .announceTimeout => true
  | .egressFrameSend port => decide (port < 8)
  | .gateEntryBoundary gate => gate.wf
  | .buttressError _ => true
  | .watchdogExpire => true
  | .fatalSafeStateEntry _ => true
  | .safeStateCoreRelease => true
  | .wake source => decide (source < 4)
  | .plnTimerReached => true
  | .powerUp => true
  | .powerOnReset smbAddr => decide (smbAddr < 8)
  | .jtagTrst => true
  | .powerSample _ _ => true
  | .limiterTick => true
  | .plateModelUpdate => true
  | .rideThroughEnter => true
  | .rideThroughExit => true
  | .busLowTimeout => true
  | .vanaFault => true
  | .vauxLoss => true
  | .railFault rail => decide (rail < 11)
  | .junctionSensorRead sensor _ => decide (sensor < 64)
  | .thermalTrip sensor => decide (sensor < 64)
  | .clockLoss pll => decide (pll < 8)
  | .pllRelock pll => decide (pll < 8)
  | .contextDrainDone context => decide (context < 16384)
  | .courseDrainDone course => decide (course < 12)
  | .portDrainDone port => decide (port < 32)
  | .ethPortDrainDone port => decide (port < 32)
  | .qpDestroyDone qp => decide (qp < 4096)
  | .endpointRetireDone endpoint => decide (endpoint < 1024)
  | .initialCopyDone => true
  | .fwVerifyDone => true
  | .fwCommitDone => true
  | .memtestDone _ => true
  | .poolHoldDone => true
  | .poolResumeDone => true
  | .imageReadDone _ => true
  | .imageVerifyDone => true
  | .d2dStartFail dies => decide (dies < 64)
  | .recoveryHelloTimer => true
  | .recoveryPortTimeout net => decide (net < 2)
  | .recoveryOffer net _ _ _ _ _ => decide (net < 2)
  | .tftpData block _ => decide (block < 65536)
  | .transferStall => true
  | .statusWord => true
  | .statusInput _ => true
  | .statusTemperature _ => true
  | .readVin => true
  | .readIin => true
  | .readTemperature1 => true
  | .readTemperature2 => true
  | .readPin => true
  | .mfrId => true
  | .mfrModel => true
  | .mfrRevision => true
  | .mfrShelfState _ => true
  | .mfrBootStatus => true
  | .mfrMboxWrite bytes => decide (bytes.length ≤ 255)
  | .mfrMboxRead => true
  | .alertResponse => true
  | .idcode => true
  | .bypass => true
  | .samplePreload _ => true
  | .extest => true
  | .regacc _ size _ => sizeFits size
  | .anchorLoad _ => true
  | .symbolLockRegained port wavelength => decide (port < 32) && wavelength.all (fun w => decide (w < 16))
  | .ethLinkDown port => decide (port < 8)
  | .guardStart die => decide (die < 6)
  | .commandAddressParityError die channel => decide (die < 6) && decide (channel < 128)

end Sys2Proof
end

