-- ==== Sys2Proof/Certificates/Slice0/Obligations.lean ====
section
/-!
DEFINITION. The statements for the provers: what each family of commands does, what it leaves unchanged, and the invariants of
the model. An operation of the model that a statement names is the one its command uses.
-/

open Sys2Proof Sys2Proof.Machine

/-- A step takes the command at the front of the queue and runs it on the state that holds the queue's rest. -/
def Obligations.StepRunsTheFrontCommand : Prop :=
  ∀ (c : Instr) (rest : List Instr) (s : State), step (s.withPending (c :: rest)) = exec c (s.withPending rest)

/-- The state after reset and the idle step. After power-on reset the registers named hold the values of their tables, the reserved extents are RESERVED and every
other one is FREE, no view is valid, there is no session and no owner, and memory and the registers stand in canonical form (R9, R17, R45, R48). On an empty
queue a step is one KCLK cycle of the time base and changes nothing else: the model's choice (assumption 3). -/
def Obligations.TheBlockStartsAndIdles : Prop :=
  (rf State.reset Reg.FPT_GCTL 3 0 = 15 ∧ rf State.reset Reg.FPT_REQ 13 0 = 50 ∧ rg State.reset Reg.FPT_REPLAY = 150 ∧ rg State.reset Reg.MBX_OWNER = 15
    ∧ rg State.reset (Reg.ETH_CTL 7) = 7 ∧ rg State.reset (Reg.STK_WDRAIN 5 3) = 0x1830 ∧ rg State.reset Reg.PLN_WAKE_EN = 0xB
    ∧ rg State.reset Reg.XLT_ADMIT_RETRY = 5 ∧ rg State.reset (Reg.CRS_CTL 0 1) = 1)
  ∧ (∀ e, e < 2880 → (extRec State.reset e).st = if e % 480 < 8 then 0 else exFREE)
  ∧ (∀ u v, veValid (viewEnt State.reset u v) = false)
  ∧ (State.reset.pending = [] ∧ (∀ k, session State.reset k = none) ∧ State.reset.mbx.owner = none ∧ State.Inv State.reset)
  ∧ (∀ s : State, s.pending = [] → ∃ t, step s = .next t ∧ t.tb.ns = (s.tb.ns + (s.tb.frac + s.tb.inc) / 2 ^ 32) % 2 ^ 64
      ∧ t.tb.frac = (s.tb.frac + s.tb.inc) % 2 ^ 32 ∧ t = { s with tb := t.tb })

/-- The invariant of the model: from every state whose pool memory, SRAM and registers stand in their canonical forms (addresses strictly rising, no entry that
reads as an unlisted one), every step that answers a next state answers one that is in these forms. -/
def Obligations.EveryStepKeepsTheCanonicalForms : Prop :=
  ∀ (s t : State), State.Inv s → step s = .next t → State.Inv t

/-- The bytes of a fabric message (R342): a message with its data slots, written as bytes and read again, is the same message; its bits 63 to 55 of word 0 and
its bits 63 to 58 of word 1 are 0, and it is a whole number of slots of 16 B. -/
def Obligations.MessagesRoundTrip : Prop :=
  ∀ m : Msg, m.data.length = 16 * m.dslots.toNat →
    msgOfBytes (msgBytes m) = m ∧ (msgBytes m).length = 16 * msgSlots m
    ∧ bits (leAt (msgBytes m) 0 8) 63 55 = 0 ∧ bits (leAt (msgBytes m) 8 8) 63 58 = 0 ∧ bits (leAt (msgBytes m) 16 8) 63 52 = 0

/-- Registers (R9, R12, R14, R15, R463): a 32-bit REGISTER_WRITE to a register without a row of its own sets the RW fields, and ignores RO, RC and WO
fields; a narrower write and a write to an unassigned address change nothing; the 1s of SET_ADDRESS_WRITE set, those of CLR_ADDRESS_WRITE clear the bits of
MIC_TGT; on MIC_PEND they act on the software latch, but for reserved sources, which never assert. Every other bit and register stays.
Where the spec is silent the model's choice stands: assumption 13. -/
def Obligations.RegistersTakeWrites : Prop :=
  (∀ (s : State) (m a : Nat) (r : RegRow) (v : Word32), regRow a = some r → setClrOf a = none → PlainRow r →
    Completes (.registerWrite m a 4 v) s (fun t =>
      (∀ i, i < 32 → (rg t a).testBit i = if r.rw.testBit i then v.toNat.testBit i else (rg s a).testBit i)
      ∧ SameRegs s t [a] ∧ SamePool s t ∧ SameRest s t ∧ t.bus = s.bus ∧ t.mbx = s.mbx ∧ t.eth = s.eth))
  ∧ (∀ (s : State) (m a size : Nat) (v : Word32), size ≠ 4 → Completes (.registerWrite m a size v) s (fun t => t = s))
  ∧ (∀ (s : State) (m a : Nat) (v : Word32), regRow a = none → setClrOf a = none →
    Completes (.registerWrite m a 4 v) s (fun t => t = s))
  ∧ (∀ (s : State) (m c k : Nat) (v : Word32), c < 4 → k < 16 →
    Completes (.setAddressWrite m (Reg.MIC_TGT c k + 4) v) s (fun t =>
      rg t (Reg.MIC_TGT c k) = rg s (Reg.MIC_TGT c k) ||| v.toNat ∧ SameRegs s t [Reg.MIC_TGT c k] ∧ SamePool s t ∧ SameRest s t)
    ∧ Completes (.clrAddressWrite m (Reg.MIC_TGT c k + 8) v) s (fun t =>
      (∀ i, (rg t (Reg.MIC_TGT c k)).testBit i = ((rg s (Reg.MIC_TGT c k)).testBit i && !v.toNat.testBit i))
      ∧ SameRegs s t [Reg.MIC_TGT c k] ∧ SamePool s t ∧ SameRest s t))
  ∧ (∀ (s : State) (m k : Nat) (v : Word32), k < 16 →
    Completes (.setAddressWrite m (Reg.MIC_PEND k + 4) v) s (fun t =>
      (∀ i, i < 512 → t.mic.latch.getLsbD i = (s.mic.latch.getLsbD i || (i / 32 == k && v.toNat.testBit (i % 32) && !micReserved i)))
      ∧ t.mic.level = s.mic.level ∧ SameRegs s t [] ∧ SamePool s t)
    ∧ Completes (.clrAddressWrite m (Reg.MIC_PEND k + 8) v) s (fun t =>
      (∀ i, i < 512 → t.mic.latch.getLsbD i = (s.mic.latch.getLsbD i && !(i / 32 == k && v.toNat.testBit (i % 32))))
      ∧ t.mic.level = s.mic.level ∧ SameRegs s t [] ∧ SamePool s t))

/-- Reads that clear and writes that clear (R14, R16, R545): RC_READ returns the value before the increment of the same clock, the counter is
cleared, and the increment stays in it; a 1 clears its PMBus status bit, unless the hardware sets it in the same clock; nothing else changes but the data
that the master receives. The places of the status bits in their bytes are the family's (assumption 30). -/
def Obligations.NoEventIsLost : Prop :=
  (∀ (s : State) (m a incr : Nat) (r : RegRow), regRow a = some r → setClrOf a = none → r.rc = true → r.base ≠ Reg.MIC_CLAIM 0 →
    Completes (.rcRead m a incr) s (fun t =>
      tget t.bus.readData m = some (BitVec.ofNat 64 (rg s a)) ∧ rg t a = min incr 0xFFFFFFFF
      ∧ SameRegs s t [a] ∧ SamePool s t ∧ SameRest s t ∧ t.mbx = s.mbx ∧ t.eth = s.eth))
  ∧ (∀ (s : State) (v h : Word32), Completes (.w1cWrite .statusInput v h) s (fun t =>
      t.brd.statusInput.testBit 0 = ((s.brd.statusInput.testBit 0 && !v.toNat.testBit 5) || h.toNat.testBit 5 || inRide s)
      ∧ t.brd.statusInput.testBit 1 = ((s.brd.statusInput.testBit 1 && !v.toNat.testBit 4) || h.toNat.testBit 4)
      ∧ t.brd.statusTemp = s.brd.statusTemp ∧ SameRegs s t [] ∧ SamePool s t))

/-- The halves of a 64-bit quantity (R10). LO_READ_LATCH returns _LO, and whatever happens before this master reads _HI,
that read returns the value of the same instant. HI_WRITE_HOLD changes no register; LO_WRITE_COMMIT by the same master
commits both halves at once. -/
def Obligations.HalvesStayTogether : Prop :=
  (∀ (s : State) (m a : Nat) (r r' : RegRow), regRow a = some r → regRow (a + 4) = some r' → r.half = 1 → r'.half = 2 →
    r.rc = false → r'.rc = false → setClrOf a = none → setClrOf (a + 4) = none → r.base ≠ Reg.MIC_CLAIM 0 → r'.base ≠ Reg.MIC_CLAIM 0 →
    Completes (.loReadLatch m a) s (fun t =>
      tget t.bus.readData m = some (BitVec.ofNat 64 (rowValue s r a))
      ∧ (∀ u : State, u.bus.loLatch = t.bus.loLatch → (readReg u m (a + 4)).1 = rowValue s r' (a + 4))
      ∧ SameRegs s t [] ∧ SamePool s t ∧ SameRest s t))
  ∧ (∀ (s : State) (m a : Nat) (v : Word32) (r' : RegRow), regRow (a + 4) = some r' → r'.half = 2 → r'.rw ≠ 0 → NoEffectRow r' →
    Completes (.hiWriteHold m (a + 4) v) s (fun t =>
      tget t.bus.hiHold (halfKey m a) = some v ∧ SameRegs s t [] ∧ SamePool s t ∧ SameRest s t))
  ∧ (∀ (s : State) (m a : Nat) (h v : Word32) (r r' : RegRow), regRow a = some r → regRow (a + 4) = some r' → r.half = 1 →
    r.rw = 0xFFFFFFFF → r'.rw = 0xFFFFFFFF → r.w1s = 0 → r'.w1s = 0 → NoEffectRow r → tget s.bus.hiHold (halfKey m a) = some h →
    Completes (.loWriteCommit m a v) s (fun t =>
      rg t a = v.toNat ∧ rg t (a + 4) = h.toNat ∧ tget t.bus.hiHold (halfKey m a) = none
      ∧ SameRegs s t [a, a + 4] ∧ SamePool s t ∧ SameRest s t))

/-- A core's accesses (R27, R421, R423, R424): a store to the SRAM changes the bytes it names and no others, a load returns them; a load through the pool
window returns the bytes of the PPA, a store changes those bytes alone; a register of a voussoir die is read through its window; an access outside the map,
or to an extent above 2,879, faults with nothing read or written.
Where the spec is silent the model's choice stands: assumptions 12, 25, 26. -/
def Obligations.CoresReachSramPoolAndDies : Prop :=
  (∀ (s : State) (c : Nat), c < 4 → s.bus.held = false →
    (∀ (off n : Nat) (v : Word64), sizeOk n = true → off + n ≤ sramBytes →
      Completes (.coreAccess c (sramBase + off) n (some v)) s (fun t =>
        (∀ x, sramByte t x = if off ≤ x ∧ x < off + n then BitVec.ofNat 8 (v.toNat / 256 ^ (x - off)) else sramByte s x)
        ∧ SameRegs s t [] ∧ SamePool s t ∧ SameRest s t)
      ∧ Completes (.coreAccess c (sramBase + off) n none) s (fun t =>
        tget t.bus.readData c = some (BitVec.ofNat 64 (leNat (sramRead s off n))) ∧ t.bus.sram = s.bus.sram
        ∧ SameRegs s t [] ∧ SamePool s t ∧ SameRest s t))
    ∧ (∀ (a n : Nat) (v : Option Word64), sizeOk n = true → inRange 0 romBytes a n = false → inRange sramBase sramBytes a n = false →
      inBlocks a n = false → inDies a n = false → inRange poolBase (2 ^ 42) a n = false →
      Completes (.coreAccess c a n v) s (fun t =>
        tgetD t.bus.coreFault c 0 = tgetD s.bus.coreFault c 0 + 1 ∧ t.bus.sram = s.bus.sram ∧ t.bus.readData = s.bus.readData
        ∧ SameRegs s t [] ∧ SamePool s t ∧ SameRest s t)))
  ∧ (∀ (s : State) (c : Nat), c < 4 → s.bus.held = false →
    (∀ (ppa n : Nat), sizeOk n = true → ppa % n = 0 → ppa < 2880 * 2 ^ 30 → Clean s → PlainExtent s ppa →
      (sealDie s (dieOf ppa)).selfRefresh = false →
      Completes (.poolWindowAccess c ppa n none) s (fun t =>
        tget t.bus.readData c = some (BitVec.ofNat 64 (leNat (memRead s.mem ppa n))) ∧ SameRegs s t [] ∧ SamePool s t ∧ SameRest s t)
      ∧ (∀ v : Word64, Completes (.poolWindowAccess c ppa n (some v)) s (fun t =>
        t.mem = memWrite s.mem ppa (leBytes n v.toNat) ∧ (∀ x, x < ppa ∨ ppa + n ≤ x → memByte t.mem x = memByte s.mem x)
        ∧ SameRegs s t [] ∧ t.xlt = s.xlt ∧ t.dirc = s.dirc ∧ t.sched = s.sched)))
    ∧ (∀ (ppa n : Nat) (v : Option Word64), sizeOk n = true → ppa % n = 0 → 2880 * 2 ^ 30 ≤ ppa → ppa < 2 ^ 42 →
      Completes (.poolWindowAccess c ppa n v) s (fun t =>
        tgetD t.bus.coreFault c 0 = tgetD s.bus.coreFault c 0 + 1 ∧ t.bus.readData = s.bus.readData
        ∧ SameRegs s t [] ∧ SamePool s t ∧ SameRest s t))
    ∧ (∀ (die off : Nat) (r : RegRow), die < 6 → off < 0x1000000 → off % 4 = 0 → (sealDie s die).linkLost = false →
      regRow (0x20000000 + 0x1000000 * die + off) = some r → setClrOf (0x20000000 + 0x1000000 * die + off) = none →
      r.rc = false → r.half = 0 → r.base ≠ Reg.MIC_CLAIM 0 →
      Completes (.voussoirWindowAccess c die off 4 none) s (fun t =>
        tget t.bus.readData c = some (BitVec.ofNat 64 (rowValue s r (0x20000000 + 0x1000000 * die + off)))
        ∧ SameRegs s t [] ∧ SamePool s t ∧ SameRest s t)))

/-- Atomic instructions (R422): AMOADD on an aligned SRAM word returns the old value, sign-extended, and stores the sum; LR reserves, and an SC
to the reserved word stores and returns 0; an SC without the reservation stores nothing and returns 1. Outside the SRAM
the core faults, and nothing is read or written.
Where the spec is silent the model's choice stands: assumption 29. -/
def Obligations.AtomicsActOnSramOnly : Prop :=
  ∀ (s : State) (c : Nat) (n : Nat) (v : Word64), c < 4 → s.bus.held = false → (n = 4 ∨ n = 8) →
    (∀ off, off + n ≤ sramBytes → off % n = 0 →
      Completes (.coreAtomic c (sramBase + off) n .add v) s (fun t =>
        leNat (sramRead t off n) = (leNat (sramRead s off n) + v.toNat % 2 ^ (8 * n)) % 2 ^ (8 * n)
        ∧ tget t.bus.readData c = some (BitVec.ofNat 64 (toField 64 (sext (8 * n) (leNat (sramRead s off n)))))
        ∧ (∀ x, x < off ∨ off + n ≤ x → sramByte t x = sramByte s x) ∧ SameRegs s t [] ∧ SamePool s t ∧ SameRest s t)
      ∧ Completes (.coreAtomic c (sramBase + off) n .lr v) s (fun t =>
        tget t.bus.reserved c = some off ∧ t.bus.sram = s.bus.sram ∧ SameRegs s t [] ∧ SamePool s t ∧ SameRest s t)
      ∧ (tget s.bus.reserved c = some off → Completes (.coreAtomic c (sramBase + off) n .sc v) s (fun t =>
        leNat (sramRead t off n) = v.toNat % 2 ^ (8 * n) ∧ tget t.bus.readData c = some 0#64 ∧ tget t.bus.reserved c = none
        ∧ SameRegs s t [] ∧ SamePool s t))
      ∧ (tget s.bus.reserved c ≠ some off → Completes (.coreAtomic c (sramBase + off) n .sc v) s (fun t =>
        t.bus.sram = s.bus.sram ∧ tget t.bus.readData c = some 1#64 ∧ SameRegs s t [] ∧ SamePool s t)))
    ∧ (∀ (a : Nat) (op : Amo), inRange sramBase sramBytes a n = false →
      Completes (.coreAtomic c a n op v) s (fun t =>
        tgetD t.bus.coreFault c 0 = tgetD s.bus.coreFault c 0 + 1 ∧ t.bus.sram = s.bus.sram ∧ t.bus.readData = s.bus.readData
        ∧ SameRegs s t [] ∧ SamePool s t ∧ SameRest s t))

/-- The interrupt controller (R464, R465): a claim by a core takes, of all sources deliverable to it, one of the highest PRIO and of
these the lowest number, and marks it claimed; with nothing deliverable the return is 0 and counted in MIC_SPURc. -/
def Obligations.ClaimTakesTheBestSource : Prop :=
  ∀ (s : State) (c : Nat), c < 4 →
    (∀ x, x < 512 → micDeliverable s c x = true →
      (∀ y, y < 512 → micDeliverable s c y = true →
        rf s (Reg.MIC_PRIO y) 2 0 < rf s (Reg.MIC_PRIO x) 2 0 ∨ (rf s (Reg.MIC_PRIO y) 2 0 = rf s (Reg.MIC_PRIO x) 2 0 ∧ x ≤ y)) →
      Completes (.micClaimRead c) s (fun t =>
        tget t.bus.readData c = some (BitVec.ofNat 64 (x + 2 ^ 31)) ∧ tget t.mic.claim x = some c
        ∧ SameRegs s t [] ∧ SamePool s t ∧ t.mic.level = s.mic.level ∧ t.mic.latch = s.mic.latch))
    ∧ ((∀ x, x < 512 → micDeliverable s c x = false) →
      Completes (.micClaimRead c) s (fun t =>
        tget t.bus.readData c = some 0#64 ∧ rg t (Reg.MIC_SPUR c) = min (rg s (Reg.MIC_SPUR c) + 1) 0xFFFFFFFF
        ∧ SameRegs s t [Reg.MIC_SPUR c] ∧ SamePool s t ∧ SameRest s t))

/-- The interrupt controller (R460, R461, R463, R466): a completion by the core that claimed a source ends the claim and makes the
source not deliverable for its COAL time, another is counted in MIC_BADCOMPc; the end of that time makes a pending source deliverable again; a
block's level is what its source shows, but for reserved sources and SW0 to SW3. -/
def Obligations.CompletionCoalescingAndLevels : Prop :=
  (∀ (s : State) (c : Nat) (v : Word32), c < 4 → tget s.mic.claim (v.toNat % 512) = some c →
    Completes (.micCompleteWrite c v) s (fun t =>
      tget t.mic.claim (v.toNat % 512) = none
      ∧ (rf s (Reg.MIC_PRIO (v.toNat % 512)) 15 8 ≠ 0 →
          tget t.mic.hold (v.toNat % 512) = some (now s + rf s (Reg.MIC_PRIO (v.toNat % 512)) 15 8 * 1000)
          ∧ ∀ d, d < 4 → micDeliverable t d (v.toNat % 512) = false)
      ∧ SameRegs s t [] ∧ SamePool s t))
  ∧ (∀ (s : State) (c : Nat) (v : Word32), c < 4 → tget s.mic.claim (v.toNat % 512) ≠ some c →
    Completes (.micCompleteWrite c v) s (fun t =>
      t.mic = s.mic ∧ rg t (Reg.MIC_BADCOMP c) = min (rg s (Reg.MIC_BADCOMP c) + 1) 0xFFFFFFFF ∧ SameRegs s t [Reg.MIC_BADCOMP c]))
  ∧ (∀ (s : State) (x d : Nat), tget s.mic.hold x = some d → now s ≤ d →
    Completes (.coalHoldEnd x) s (fun t =>
      now t = d ∧ tget t.mic.hold x = none ∧ (∀ y, y ≠ x → tget t.mic.hold y = tget s.mic.hold y)
      ∧ (∀ c, c < 4 → micPending s x = true → bit (rg s (Reg.MIC_TGT c (x / 32))) (x % 32) = true → tget s.mic.claim x = none →
          rf s (Reg.MIC_THRESH c) 2 0 < rf s (Reg.MIC_PRIO x) 2 0 → micDeliverable t c x = true)
      ∧ SameRegs s t [] ∧ SamePool s t))
  ∧ (∀ (s : State) (x : Nat) (h : Bool), 4 ≤ x → x < 512 → micReserved x = false →
    Completes (.sourceLevelChange x h) s (fun t =>
      t.mic.level.getLsbD x = h ∧ (∀ y, y < 512 → y ≠ x → t.mic.level.getLsbD y = s.mic.level.getLsbD y)
      ∧ t.mic.latch = s.mic.latch ∧ SameRegs s t [] ∧ SamePool s t))

/-- Errors (R470 to R474): an error of severity 1 or 2 that arises in no reaction adds 1 to the COUNT of the open record of its class, unit, instance and
location, sets LAST_TIME, counts in BTR_MERGED and opens no record; where there is none it opens the lowest free slot from 1 to 254; where all are taken it
counts in the overflow record, slot 255. One that arises in the reaction to an open record merges into it as secondary: it sets SECONDARY, sets SEC_CLASS
where that is 0, adds 1 to SEC_COUNT, raises SEVERITY and counts in BTR_SECONDARY. Every other record stays.
Where the spec is silent the model's choice stands: assumptions 137, 174. -/
def Obligations.ErrorsMergeOpenOrOverflow : Prop :=
  (∀ (s : State) (e : ErrIn) (sev : Nat), btrSeverity e.cls = some sev → sev < 3 → e.cls ≠ 0x16 → e.during = none → inSafe s = false →
    (∀ k, btrMatch s e = some k →
      Completes (.buttressError e) s (fun t =>
        (∃ r, tget s.btr.recs k = some r
          ∧ tget t.btr.recs k = some { r with count := min (r.count + 1) 0xFFFFFFFF, lastTime := now s })
        ∧ (∀ j, j ≠ k → tget t.btr.recs j = tget s.btr.recs j)
        ∧ rg t Reg.BTR_MERGED = min (rg s Reg.BTR_MERGED + 1) 0xFFFFFFFF
        ∧ SameRegs s t [Reg.BTR_MERGED] ∧ t.mem = s.mem ∧ t.mic = s.mic))
    ∧ (∀ k, btrMatch s e = none → 1 ≤ k → k ≤ 254 → tget s.btr.recs k = none →
        (∀ j, 1 ≤ j → j < k → tget s.btr.recs j ≠ none) →
      Completes (.buttressError e) s (fun t =>
        tget t.btr.recs k = some { seq := s.btr.seq + 1, cls := e.cls, severity := sev, secondary := false, injected := false,
                                   secClass := 0, unit := e.unit, inst := e.inst, count := 1, firstTime := now s,
                                   lastTime := now s, location := e.location, detail := e.detail, secCount := 0,
                                   tenant := e.tenant }
        ∧ (∀ j, j ≠ k → tget t.btr.recs j = tget s.btr.recs j)
        ∧ t.btr.new.getLsbD k = true ∧ t.mic.level.getLsbD (if sev = 1 then 76 else 77) = true
        ∧ (sev = 1 → SameRegs s t [] ∧ SamePool s t)))
    ∧ (btrMatch s e = none → (∀ k, 1 ≤ k → k ≤ 254 → tget s.btr.recs k ≠ none) →
      Completes (.buttressError e) s (fun t =>
        rg t Reg.BTR_OVF = min (rg s Reg.BTR_OVF + 1) 0xFFFFFFFF
        ∧ (∃ r, tget t.btr.recs 255 = some r ∧ (tget s.btr.recs 255 = none → r.cls = 0x3F ∧ r.seq = s.btr.seq + 1 ∧ r.count = 1
            ∧ r.severity = sev)
          ∧ (∀ r', tget s.btr.recs 255 = some r' →
            r = { r' with count := min (r'.count + 1) 0xFFFFFFFF, lastTime := now s, severity := max r'.severity sev }))
        ∧ (∀ j, j ≠ 255 → tget t.btr.recs j = tget s.btr.recs j)
        ∧ (sev = 1 ∨ tget s.btr.recs 255 ≠ none → SameRegs s t [Reg.BTR_OVF] ∧ t.mem = s.mem))))
  ∧ (∀ (s : State) (e : ErrIn) (sev k : Nat) (r : BtrRec), btrSeverity e.cls = some sev → sev < 3 → e.cls ≠ 0x16 →
    e.during = some k → tget s.btr.recs k = some r →
      Completes (.buttressError e) s (fun t =>
        tget t.btr.recs k = some { r with secondary := true, secClass := if r.secClass = 0 then e.cls else r.secClass
                                          secCount := min (r.secCount + 1) 0xFFFFFFFF, severity := max r.severity sev }
        ∧ (∀ j, j ≠ k → tget t.btr.recs j = tget s.btr.recs j)
        ∧ rg t Reg.BTR_SECONDARY = min (rg s Reg.BTR_SECONDARY + 1) 0xFFFFFFFF
        ∧ SameRegs s t [Reg.BTR_SECONDARY] ∧ t.mem = s.mem ∧ t.xlt = s.xlt ∧ t.sched = s.sched))

/-- The fatal safe state (R474, R475, R479): of fatal causes detected together, the one with the lower unit, then the lower
instance, is the primary error of the record in slot 0, and the other merges as secondary. The cores are held, the
sessions are gone, every port that is not DISABLED is fenced, every queue pair is in ERROR and every die is in
self-refresh; descriptors and pool memory stay as they stand. -/
def Obligations.FatalCausesFormOneRecord : Prop :=
  ∀ (s : State) (a b : ErrIn), btrSeverity a.cls = some 3 → btrSeverity b.cls = some 3 →
    a.unit < 256 → (a.unit < b.unit ∨ (a.unit = b.unit ∧ a.inst < b.inst)) → inSafe s = false → tget s.btr.recs 0 = none →
    ∀ causes, causes = [a, b] ∨ causes = [b, a] →
      Completes (.fatalSafeStateEntry causes) s (fun t =>
        (∃ r, tget t.btr.recs 0 = some r ∧ r.cls = a.cls ∧ r.unit = a.unit ∧ r.inst = a.inst ∧ r.severity = 3
          ∧ r.count = 1 ∧ r.firstTime = now s ∧ r.secondary = true ∧ r.secClass = b.cls ∧ r.secCount = 1)
        ∧ (∀ j, j ≠ 0 → tget t.btr.recs j = tget s.btr.recs j)
        ∧ rg t Reg.PLN_SAFE = 1 + 2 ^ 16 * a.cls + 2 ^ 24 * a.unit
        ∧ t.bus.held = true ∧ t.mbx.sessions = [] ∧ t.mbx.owner = none
        ∧ (∀ k, k < 32 → (port t k).st = .fenced ∨ (port t k).st = .disabled)
        ∧ (∀ e, e ∈ t.eth.qps → e.2.error = true)
        ∧ (∀ n, n < 6 → (sealDie t n).selfRefresh = true)
        ∧ t.mem = s.mem ∧ t.sched = s.sched ∧ t.xlt = s.xlt)

/-- The Buttress at work (R476 to R479, R485, R562): 10 µs after the entry into the fatal safe state the cores are released into the boot ROM; a watchdog
period without a write records FW_WATCHDOG and restarts the cores, with no owner and no session, and leaves the pool running; a write of BTR_WDOG starts the
period again; BTR_CLOSE frees the slot of a record and appends it to the log in reserved extent 5 of its die; BTR_INJ with GO creates a record with INJECTED
set; without GO, or for a class that the table does not have, only the register changes.
Where the spec is silent the model's choice stands: assumptions 133, 136. -/
def Obligations.CoresRestartAndRecordsClose : Prop :=
  (∀ (s : State), inSafe s = true → s.bus.held = true →
    Completes .safeStateCoreRelease s (fun t =>
      t.bus.held = false ∧ rf t Reg.PLN_BOOT 3 0 = 1 ∧ rf t Reg.PLN_BOOT 7 4 = 0 ∧ rf t Reg.PLN_RESET 2 0 = 4
      ∧ rg64 s Reg.PLN_SAFE_TIME_LO + 10000 ≤ now t ∧ SamePool s t ∧ t.btr = s.btr))
  ∧ (∀ (s : State), rf s Reg.BTR_CTL 16 16 = 1 → s.bus.held = false → inSafe s = false →
    Completes .watchdogExpire s (fun t =>
      (∃ k r, tget t.btr.recs k = some r ∧ (k = 255 ∨ r.cls = 0x16)) ∧ t.mbx.owner = none ∧ (∀ k, k < 8 → session t k = none)
      ∧ rf t Reg.PLN_BOOT 3 0 = 1 ∧ rf t Reg.PLN_RESET 2 0 = 3 ∧ t.bus.held = false
      ∧ s.btr.wdog + rf s Reg.BTR_CTL 31 24 * 1000000 ≤ now t
      ∧ t.sched = s.sched ∧ t.xlt = s.xlt ∧ t.dirc = s.dirc ∧ t.dram = s.dram))
  ∧ (∀ (s : State) (v : Word32), Completes (.btrWdogWrite v) s (fun t =>
      t.btr.wdog = now s ∧ t.btr.recs = s.btr.recs ∧ SameRegs s t [] ∧ SamePool s t))
  ∧ (∀ (s : State) (v : Word32) (r : BtrRec), tget s.btr.recs (v.toNat % 256) = some r →
    Completes (.btrCloseWrite v) s (fun t =>
      tget t.btr.recs (v.toNat % 256) = none ∧ (∀ j, j ≠ v.toNat % 256 → tget t.btr.recs j = tget s.btr.recs j)
      ∧ tgetD t.btr.logged (btrDie r) 0 = tgetD s.btr.logged (btrDie r) 0 + 1
      ∧ t.xlt = s.xlt ∧ t.sched = s.sched ∧ t.dram = s.dram))
  ∧ (∀ (s : State) (v : Word32), tget s.btr.recs (v.toNat % 256) = none → Completes (.btrCloseWrite v) s (fun t => t = s))
  ∧ (∀ (s : State) (v : Word32) (k : Nat), btrSeverity (v.toNat % 256) = some 1 → v.toNat / 2 ^ 31 = 1 → inSafe s = false →
      1 ≤ k → k ≤ 254 → tget s.btr.recs k = none → (∀ j, 1 ≤ j → j < k → tget s.btr.recs j ≠ none) →
      (∀ j r, tget s.btr.recs j = some r → r.cls ≠ v.toNat % 256) →
    Completes (.btrInjGo v) s (fun t =>
      (∃ r, tget t.btr.recs k = some r ∧ r.cls = v.toNat % 256 ∧ r.unit = v.toNat / 256 % 256 ∧ r.inst = v.toNat / 65536 % 256
        ∧ r.injected = true ∧ r.count = 1)
      ∧ (∀ j, j ≠ k → tget t.btr.recs j = tget s.btr.recs j) ∧ SameRegs s t [Reg.BTR_INJ] ∧ SamePool s t))
  ∧ (∀ (s : State) (v : Word32), v.toNat / 2 ^ 31 = 0 ∨ btrSeverity (v.toNat % 256) = none →
    Completes (.btrInjGo v) s (fun t => rg t Reg.BTR_INJ = v.toNat % 2 ^ 31 ∧ SameRegs s t [Reg.BTR_INJ] ∧ SamePool s t ∧ t.btr = s.btr))

/-- Associations (R426 to R428): an admitted client joins the session of its identity and replaces that identity's association on its
network, takes the lowest free slot, or, where no slot is available, is kept for 1 s to be refused; a chain that leads to no
anchor opens nothing and counts in MBX_BADCRED; an association without a slot ends.
Where the spec is silent the model's choice stands: assumptions 35, 36. -/
def Obligations.AssociationsJoinOrAreTurnedAway : Prop :=
  (∀ (s : State) (h : DtlsHello) (k : Nat) (se : Session), Admitted s h →
    s.mbx.sessions.find? (fun e => e.1 != 8 && e.2.identity == clientIdentity h) = some (k, se) →
    Completes (.dtlsHandshake h) s (fun t =>
      session t k = some { se with assocs := se.assocs.filter (fun b => b.net != netOf h.port) ++ [newAssoc s h] }
      ∧ (∀ j, j ≠ k → session t j = session s j) ∧ t.mbx.owner = s.mbx.owner ∧ t.xlt = s.xlt ∧ t.sched = s.sched))
  ∧ (∀ (s : State) (h : DtlsHello) (k : Nat), Admitted s h →
      s.mbx.sessions.find? (fun e => e.1 != 8 && e.2.identity == clientIdentity h) = none → k < 8 → session s k = none →
      (∀ j, j < k → session s j ≠ none) → (k = 7 → twinValid s = false ∨ clientIdentity h = s.mbx.witness) →
    Completes (.dtlsHandshake h) s (fun t =>
      session t k = some { identity := clientIdentity h, assocs := [newAssoc s h], queue := [], replies := [] }
      ∧ (∀ j, j ≠ k → session t j = session s j) ∧ t.mbx.owner = s.mbx.owner ∧ t.xlt = s.xlt ∧ t.sched = s.sched))
  ∧ (∀ (s : State) (h : DtlsHello), Admitted s h →
      s.mbx.sessions.find? (fun e => e.1 != 8 && e.2.identity == clientIdentity h) = none → (∀ j, j < 8 → session s j ≠ none ∨ (j = 7 ∧ twinValid s = true ∧ clientIdentity h ≠ s.mbx.witness)) →
    Completes (.dtlsHandshake h) s (fun t =>
      t.mbx.sessions = s.mbx.sessions ∧ t.mbx.refusing = s.mbx.refusing ++ [(newAssoc s h, now s + 1000000000)]
      ∧ SameRegs s t [] ∧ SamePool s t ∧ SameRest s t))
  ∧ (∀ (s : State) (h : DtlsHello), bootStage s = 5 → ethUp s h.port = true → h.udp = rf s Reg.MBX_CTL 15 0 →
      (h.suite && h.group && h.scheme) = true → chainAdmitted s h = false →
    Completes (.dtlsHandshake h) s (fun t =>
      rg t Reg.MBX_BADCRED = min (rg s Reg.MBX_BADCRED + 1) 0xFFFFFFFF ∧ t.mbx = s.mbx
      ∧ SameRegs s t [Reg.MBX_BADCRED] ∧ SamePool s t ∧ SameRest s t))
  ∧ (∀ (s : State) (net : Nat) (id : List Byte) (a : AssocRec) (due : Nat),
      s.mbx.refusing.find? (fun r => r.1.net == net && r.1.identity == id) = some (a, due) →
    Completes (.refusingClose net id) s (fun t =>
      due ≤ now t ∧ t.mbx.refusing = s.mbx.refusing.filter (fun x => x != (a, due)) ∧ t.mbx.sessions = s.mbx.sessions
      ∧ SameRegs s t [] ∧ SamePool s t))

/-- Command frames (R432, R434, R435): a new, well-formed command enters its session's queue, and the change queue unless it is
a query; a command with the TAG of a stored reply receives that reply again; one with the TAG of a command in progress is
discarded and counted; one that finds 16 commands queued returns BUSY; an unknown opcode returns UNSUPPORTED. The next command
starts once the one before it is answered.
Where the spec is silent the model's choice stands: assumptions 32, 33. -/
def Obligations.CommandFramesAreQueuedOnce : Prop :=
  (∀ (s : State) (slot net : Nat) (b : List Byte) (se : Session), LeaseRuns s → slot < 9 → session s slot = some se → 16 ≤ b.length →
    (∀ (sh : Shape), NewFrame s slot se b → GoodFrame sh b → se.queue.length < 16 →
      Completes (.commandFrame slot net b) s (fun t =>
        (∃ u, session t slot = some u ∧ u.queue = se.queue ++ [queuedFrame s slot b] ∧ u.replies = se.replies ∧ u.identity = se.identity)
        ∧ (∀ j, j ≠ slot → session t j = session s j)
        ∧ t.mbx.change = (if sh.who = .any then s.mbx.change else s.mbx.change ++ [queuedFrame s slot b])
        ∧ SameRegs s t [] ∧ SamePool s t ∧ SameRest s t ∧ t.eth = s.eth))
    ∧ (∀ (sh : Shape), NewFrame s slot se b → GoodFrame sh b → 16 ≤ se.queue.length →
      Completes (.commandFrame slot net b) s (fun t =>
        Replied t slot (frameOp b) (frameTag b) stBUSY [] ∧ t.mbx.change = s.mbx.change ∧ SamePool s t))
    ∧ (NewFrame s slot se b → bits (leAt b 0 8) 7 0 ≠ 1 ∨ shapeOf (frameOp b) = none →
      Completes (.commandFrame slot net b) s (fun t =>
        Replied t slot (frameOp b) (frameTag b) stUNSUPPORTED [] ∧ t.mbx.change = s.mbx.change ∧ SamePool s t))
    ∧ (∀ r, se.replies.find? (fun r => r.tag == frameTag b) = some r →
      Completes (.commandFrame slot net b) s (fun t =>
        (∃ u, t = sendFrame u slot (replyBytes slot r.opcode r.tag r.status r.final r.body) ∧ u.eth = s.eth)
        ∧ t.mbx.change = s.mbx.change ∧ SameRegs s t [] ∧ SamePool s t ∧ SameRest s t))
    ∧ (se.replies.find? (fun r => r.tag == frameTag b) = none → se.queue.any (fun f => f.tag == frameTag b) = true →
      Completes (.commandFrame slot net b) s (fun t =>
        rg t Reg.MBX_DUP = min (rg s Reg.MBX_DUP + 1) 0xFFFFFFFF ∧ t.mbx.change = s.mbx.change
        ∧ SameRegs s t [Reg.MBX_DUP] ∧ SamePool s t ∧ SameRest s t)))
  ∧ (∀ (s : State) (f : Frame) (rest : List Frame), LeaseRuns s → s.mbx.current = none → s.xlt.fenceWait = [] → s.twin.replies = [] →
      s.mbx.change = f :: rest →
    (mayNot s f.slot f.opcode = none → Completes .commandHead s (fun t =>
      t.mbx.current = some f ∧ t.mbx.change = rest ∧ t.mbx.sessions = s.mbx.sessions ∧ SameRegs s t [] ∧ SamePool s t ∧ SameRest s t))
    ∧ (∀ st body, mayNot s f.slot f.opcode = some (st, body) → Completes .commandHead s (fun t =>
      Replied t f.slot f.opcode f.tag st body ∧ SamePool s t)))

/-- The right to a command (R430, R443): of the commands of the catalogue, those marked A may be issued by any session, those marked W by the witness and those
marked O by the owner. A command marked O from a session that is not the owner returns NOT_OWNER, one marked W from a session whose identity is not the witness
returns BAD_CREDENTIAL; a command with a parameter out of its range returns INVALID first (R432). None of these changes anything but the reply's own traces. Slot 8
runs five queries and nothing else.
Where the spec is silent the model's choice stands: assumption 32. -/
def Obligations.CommandsNeedTheirRight : Prop :=
  (∀ (s : State) (c : Instr) (slot op : Nat) (tag : Word32), restricted c = some (slot, op, tag) → slot < 8 → LeaseRuns s → inSafe s = false →
      s.mbx.deferred = [] → s.twin.replies = [] → s.twin.handing = false →
    ((shapeOf op).map (fun h => h.who) = some .owner → s.mbx.owner ≠ some slot → Completes c s (fun t =>
      (∃ st, (st = stNOT_OWNER ∨ st = stINVALID) ∧ Replied t slot op tag st []) ∧ t.mbx.owner = s.mbx.owner ∧ t.mbx.epoch = s.mbx.epoch
      ∧ t.mbx.expires = s.mbx.expires ∧ t.mem = s.mem ∧ SameRegs s t [Reg.MBX_NOTOWNER] ∧ SamePool s t ∧ SameRest s t))
    ∧ ((shapeOf op).map (fun h => h.who) = some .witness → isWitness s slot = false → Completes c s (fun t =>
      Replied t slot op tag stBADCRED [] ∧ t.mbx.owner = s.mbx.owner ∧ SameRegs s t [] ∧ SamePool s t ∧ SameRest s t)))
  ∧ (∀ (s : State) (slot op : Nat) (h : Machine.Shape), slot < 8 → inSafe s = false → inHold s = false → shapeOf op = some h →
      (h.who = .any ∨ (h.who = .witness ∧ isWitness s slot = true) ∨ (h.who = .owner ∧ s.mbx.owner = some slot)) → mayNot s slot op = none)
  ∧ (∀ (s : State) (op : Nat), (op = 0x0104 ∨ op = 0x0602 ∨ op = 0x0603 ∨ op = 0x0701 ∨ op = 0x0901 → inSafe s = false → inHold s = false → mayNot s 8 op = none)
      ∧ (op ≠ 0x0104 → op ≠ 0x0602 → op ≠ 0x0603 → op ≠ 0x0701 → op ≠ 0x0901 → mayNot s 8 op = some (stNOT_OWNER, [])))

/-- Ownership (R437 to R440, R444): a claim is granted when no session owns the module, with the next epoch and a lease; a claim
while a lease runs returns CONFLICT with the owner and EXPIRES; a renewal moves EXPIRES to its arrival plus LEASE_MS; a release ends
ownership; a transfer gives it to the named session with the next epoch.
Where the spec is silent the model's choice stands: assumption 34. -/
def Obligations.OwnershipPassesByCommand : Prop :=
  (∀ (s : State) (slot : Nat) (tag : Word32) (ms : Word64), MayRun s slot 0x0101 tag → 1000 ≤ ms.toNat → ms.toNat ≤ 600000 →
    (s.mbx.owner = none → Completes (.ownClaim slot tag ms) s (fun t =>
      t.mbx.owner = some slot ∧ t.mbx.epoch = (s.mbx.epoch + 1) % 2 ^ 32 ∧ t.mbx.expires = now s + ms.toNat * 1000000
      ∧ Replied t slot 0x0101 tag stOK (leBytes 8 slot ++ leBytes 8 t.mbx.epoch ++ leBytes 8 t.mbx.expires)
      ∧ t.sched = s.sched ∧ t.dirc = s.dirc ∧ t.xlt.views = s.xlt.views ∧ t.xlt.ext = s.xlt.ext))
    ∧ (∀ k, s.mbx.owner = some k → Completes (.ownClaim slot tag ms) s (fun t =>
      Replied t slot 0x0101 tag stCONFLICT (leBytes 8 k ++ leBytes 8 s.mbx.expires)
      ∧ t.mbx.owner = s.mbx.owner ∧ t.mbx.epoch = s.mbx.epoch ∧ SameRegs s t [] ∧ SamePool s t)))
  ∧ (∀ (s : State) (slot : Nat) (tag : Word32) (ms : Word64), MayRun s slot 0x0102 tag → 1000 ≤ ms.toNat → ms.toNat ≤ 600000 →
      arrivalOf s slot tag < s.mbx.expires →
    Completes (.ownRenew slot tag ms) s (fun t =>
      t.mbx.expires = arrivalOf s slot tag + ms.toNat * 1000000 ∧ t.mbx.owner = s.mbx.owner ∧ t.mbx.epoch = s.mbx.epoch
      ∧ Replied t slot 0x0102 tag stOK (leBytes 8 (arrivalOf s slot tag + ms.toNat * 1000000)) ∧ SameRegs s t [] ∧ SamePool s t))
  ∧ (∀ (s : State) (slot : Nat) (tag : Word32), MayRun s slot 0x0103 tag →
    Completes (.ownRelease slot tag) s (fun t =>
      t.mbx.owner = none ∧ Replied t slot 0x0103 tag stOK [] ∧ t.xlt = s.xlt ∧ t.sched = s.sched ∧ t.dirc = s.dirc))
  ∧ (∀ (s : State) (slot : Nat) (tag : Word32) (k ms : Word64), MayRun s slot 0x0105 tag → 1000 ≤ ms.toNat → ms.toNat ≤ 600000 →
      k.toNat < 8 → k.toNat ≠ slot →
    (session s k.toNat ≠ none → Completes (.ownTransfer slot tag k ms) s (fun t =>
      t.mbx.owner = some k.toNat ∧ t.mbx.epoch = (s.mbx.epoch + 1) % 2 ^ 32 ∧ t.mbx.expires = now s + ms.toNat * 1000000
      ∧ Replied t slot 0x0105 tag stOK (leBytes 8 t.mbx.epoch ++ leBytes 8 t.mbx.expires)))
    ∧ (session s k.toNat = none → Completes (.ownTransfer slot tag k ms) s (fun t =>
      Replied t slot 0x0105 tag stINVALID [] ∧ t.mbx.owner = s.mbx.owner ∧ SameRegs s t [] ∧ SamePool s t)))

/-- The other commands of the mailbox (R443, R444, R459): OWN_QUERY and SESSION_LIST answer owner, epoch, EXPIRES and the eight
slots, and change nothing else; SESSION_CLOSE ends the named session; MGMT_SET sets MGMT_UDP and IDLE_S. A command marked O
from a session that is not the owner returns NOT_OWNER and changes nothing.
Where the spec is silent the model's choice stands: assumption 37. -/
def Obligations.SessionCommandsAnswer : Prop :=
  (∀ (s : State) (slot : Nat) (tag : Word32), MayRun s slot 0x0104 tag →
    Completes (.ownQuery slot tag) s (fun t =>
      (∃ d, Replied t slot 0x0104 tag stOK (leBytes 8 (s.mbx.owner.getD 0xFF) ++ leBytes 8 s.mbx.epoch ++ leBytes 8 s.mbx.expires ++ d)
        ∧ (s.mbx.owner = none → d = List.replicate 48 0#8))
      ∧ t.mbx.owner = s.mbx.owner ∧ SameRegs s t [] ∧ SamePool s t ∧ SameRest s t))
  ∧ (∀ (s : State) (slot : Nat) (tag : Word32), MayRun s slot 0x0106 tag →
    Completes (.sessionList slot tag) s (fun t =>
      Replied t slot 0x0106 tag stOK ((List.range 8).flatMap (fun k => leBytes 8 (slotWord (dequeue s slot tag) k)
        ++ ((session s k).map (fun se => se.identity)).getD (List.replicate 48 0#8))) ∧ t.mbx.owner = s.mbx.owner ∧ SameRegs s t [] ∧ SamePool s t ∧ SameRest s t))
  ∧ (∀ (s : State) (slot : Nat) (tag : Word32) (k : Word64), MayRun s slot 0x0107 tag → k.toNat < 8 → k.toNat ≠ slot →
      session s k.toNat ≠ none →
    Completes (.sessionClose slot tag k) s (fun t =>
      session t k.toNat = none ∧ Replied t slot 0x0107 tag stOK [] ∧ t.mbx.owner = s.mbx.owner ∧ t.xlt = s.xlt ∧ t.sched = s.sched))
  ∧ (∀ (s : State) (slot : Nat) (tag : Word32) (k : Word64), MayRun s slot 0x0107 tag → k.toNat < 8 → k.toNat = slot →
    Completes (.sessionClose slot tag k) s (fun t =>
      Replied t slot 0x0107 tag stINVALID [] ∧ t.mbx.owner = s.mbx.owner ∧ SameRegs s t [] ∧ SamePool s t))
  ∧ (∀ (s : State) (slot : Nat) (tag : Word32) (udp idle : Word64), MayRun s slot 0x0108 tag → udp.toNat < 65536 → 5 ≤ idle.toNat →
      idle.toNat ≤ 255 →
    Completes (.mgmtSet slot tag udp idle) s (fun t =>
      rf t Reg.MBX_CTL 15 0 = udp.toNat ∧ rf t Reg.MBX_CTL 23 16 = idle.toNat ∧ Replied t slot 0x0108 tag stOK []
      ∧ SameRegs s t [Reg.MBX_CTL] ∧ SamePool s t ∧ SameRest s t))
  ∧ (∀ (s : State) (slot : Nat) (tag : Word32) (udp idle : Word64), LeaseRuns s →
      s.twin.replies.any (fun r => r.slot == slot && r.tag == tag) = false → inSafe s = false → s.mbx.owner ≠ some slot →
      udp.toNat < 65536 → 5 ≤ idle.toNat → idle.toNat ≤ 255 →
    Completes (.mgmtSet slot tag udp idle) s (fun t =>
      Replied t slot 0x0108 tag stNOT_OWNER [] ∧ SameRegs s t [Reg.MBX_NOTOWNER] ∧ SamePool s t ∧ SameRest s t))

/-- Sessions and leases end (R428, R439, R440): an association without a datagram for IDLE_S ends, and with the last one its
session, and with the owner's session ownership; at EXPIRES the lease lapses, unless a renewal that came in time waits.
Where the spec is silent the model's choice stands: assumptions 34, 36. -/
def Obligations.SessionsAndLeasesEnd : Prop :=
  (∀ (s : State) (k net : Nat) (se : Session) (a : AssocRec), session s k = some se →
      se.assocs.find? (fun a => a.net == net) = some a →
    Completes (.associationIdle k net) s (fun t =>
      a.seen + rf s Reg.MBX_CTL 23 16 * 1000000000 ≤ now t
      ∧ (se.assocs.filter (fun b => b.net != net) ≠ [] →
          session t k = some { se with assocs := se.assocs.filter (fun b => b.net != net) } ∧ t.mbx.owner = s.mbx.owner)
      ∧ (se.assocs.filter (fun b => b.net != net) = [] → session t k = none ∧ t.mbx.owner ≠ some k)
      ∧ t.xlt = s.xlt ∧ t.sched = s.sched ∧ t.dirc = s.dirc))
  ∧ (∀ (s : State) (k : Nat), s.mbx.owner = some k → renewWaits s = false →
    Completes .leaseExpire s (fun t =>
      t.mbx.owner = none ∧ s.mbx.expires ≤ now t ∧ t.mbx.epoch = s.mbx.epoch ∧ t.xlt = s.xlt ∧ t.sched = s.sched))
  ∧ (∀ (s : State) (k : Nat), s.mbx.owner = some k → renewWaits s = true →
    Completes .leaseExpire s (fun t => t.mbx = s.mbx ∧ s.mbx.expires ≤ now t ∧ SameRegs s t [] ∧ SamePool s t))

/-- Registers and counters read by command (R425, R450, R451, R455): the firmware moves every RC counter that has counted into its accumulator, and
REG_READ of such a counter returns the accumulator; of another register it returns the value, and REG_WRITE sets the RW
fields, but is INVALID for a register that changes only through a named command. TELEMETRY_READ returns the counters of
one block. EVENT_READ returns the events of the log from a SEQ on.
Where the spec is silent the model's choice stands: assumptions 16, 17, 18, 19, 20. -/
def Obligations.RegistersAndCountersByCommand : Prop :=
  (∀ (s : State), s.bus.held = false → tsortedFrom s.regs 0 = true → Completes .counterAccumulate s (fun t =>
      (∀ a w r, tget s.regs a = some w → regRow a = some r → r.rc = true → w ≠ 0#32 →
        rg t a = 0 ∧ accumOf t a = min (accumOf s a + w.toNat) (2 ^ 64 - 1))
      ∧ (∀ a, (∀ r, regRow a = some r → r.rc = false) → rg t a = rg s a ∧ accumOf t a = accumOf s a) ∧ SamePool s t ∧ SameRest s t))
  ∧ (∀ (s : State) (slot : Nat) (tag : Word32) (a : Word64) (r : RegRow), MayRun s slot 0x0602 tag → regRow a.toNat = some r →
      setClrOf a.toNat = none → r.base ≠ Reg.MIC_CLAIM 0 → (r.rc = true ∨ r.half = 0) →
    Completes (.regRead slot tag [a]) s (fun t =>
      Replied t slot 0x0602 tag stOK (leBytes 8 (if r.rc then accumOf s a.toNat else rowValue (dequeue s slot tag) r a.toNat))
      ∧ SameRegs s t [] ∧ SamePool s t ∧ SameRest s t))
  ∧ (∀ (s : State) (slot : Nat) (tag : Word32) (a v : Word64) (r : RegRow), MayRun s slot 0x0804 tag → regRow a.toNat = some r →
      setClrOf a.toNat = none → v.toNat < 2 ^ 32 →
    (r.named = false → PlainRow r → Completes (.regWrite slot tag a v) s (fun t =>
      (∀ i, i < 32 → (rg t a.toNat).testBit i = if r.rw.testBit i then v.toNat.testBit i else (rg s a.toNat).testBit i)
      ∧ Replied t slot 0x0804 tag stOK [] ∧ SameRegs s t [a.toNat] ∧ SamePool s t ∧ SameRest s t))
    ∧ (r.named = true → Completes (.regWrite slot tag a v) s (fun t =>
      Replied t slot 0x0804 tag stINVALID [] ∧ SameRegs s t [] ∧ SamePool s t ∧ SameRest s t)))
  ∧ (∀ (s : State) (slot : Nat) (tag : Word32) (b i : Word64), MayRun s slot 0x0603 tag → b.toNat ≤ 5 → i.toNat < telemetryCount b.toNat →
    Completes (.telemetryRead slot tag b i) s (fun t =>
      (b.toNat = 2 → Replied t slot 0x0603 tag stOK ((rg64 s Reg.DIR_VICTIM_LO :: [Reg.DIR_RCLTO, Reg.DIR_POISONED, Reg.DIR_REQHOLD,
        Reg.DIR_PUBCONF, Reg.DIR_LATE_DISCARD].map (accumOf s)).flatMap (leBytes 8)))
      ∧ (b.toNat = 5 → Replied t slot 0x0603 tag stOK ([accumOf s (Reg.SEA_REBUILT i.toNat), accumOf s (Reg.SEA_LOST i.toNat),
        accumOf s (Reg.SEA_MISMATCH i.toNat), rg s (Reg.PNT_PASSES i.toNat), accumOf s (Reg.PNT_FOUND i.toNat)].flatMap (leBytes 8)))
      ∧ (∃ ws : List Nat, Replied t slot 0x0603 tag stOK (ws.flatMap (leBytes 8)))
      ∧ SameRegs s t [] ∧ SamePool s t ∧ SameRest s t))
  ∧ (∀ (s : State) (slot : Nat) (tag : Word32) (q : Word64) (ev : List Byte), MayRun s slot 0x0601 tag → inSafe s = false → Clean s →
      ev = memRead s.mem (resPpa 0 5 (2 ^ 29 + q.toNat % 262144 * 2048)) 2048 →
    (leAt ev 8 8 = q.toNat → q.toNat ≠ 0 → Completes (.eventRead slot tag q 1) s (fun t =>
      Replied t slot 0x0601 tag stOK (ev.take (32 + bits (leAt ev 0 8) 42 32)) ∧ SameRegs s t [] ∧ SamePool s t))
    ∧ (∀ n : Word64, leAt ev 8 8 ≠ q.toNat → n.toNat ≤ 64 → Completes (.eventRead slot tag q n) s (fun t =>
      Replied t slot 0x0601 tag stOK [] ∧ SameRegs s t [] ∧ SamePool s t)))

/-- Allocation (R51, R52, R53, R490, R495, R499, R563): EXTENT_ALLOC puts the extents that it names, or the module's choice, into ZEROING
with the given holder, class and attributes and defers; when FREE extents would fall below the floor of the class it is
refused with the eligible count and the floor, and counted. The end of the zero fill leaves every byte zero and the extent READY.
Where the spec is silent the model's choice stands: assumptions 45, 46. -/
def Obligations.ExtentsAreAllocatedAndZeroed : Prop :=
  (∀ (s : State) (slot : Nat) (tag : Word32) (h a n d : Word64) (l : List Word64), MayRun s slot 0x0201 tag → Alone s → DeferRoom s →
      allocBad h a n d l = false → tenantExists s h.toNat = true → atPrio a.toNat ≤ tenantClass s h.toNat →
      (isolated s h.toNat = true → atCoh a.toNat = false ∧ (l = [] → ∀ k, k < 6 → bit d.toNat k = true → offGates s (480 * k) = false)
        ∧ (l ≠ [] → ∀ e, e ∈ allocPick s a.toNat n.toNat d.toNat (l.map (·.toNat)) → offGates s e = false)) →
      (l ≠ [] → ∀ e, e ∈ allocPick s a.toNat n.toNat d.toNat (l.map (·.toNat)) → migrating s e = false ∧ freeExt s e = true) →
    ((if l = [] then n.toNat else (allocPick s a.toNat n.toNat d.toNat (l.map (·.toNat))).length) + rg s (Reg.XLT_FLOOR (atPrio a.toNat))
        ≤ eligible0 s a.toNat d.toNat (l.map (·.toNat)) →
      Completes (.extentAlloc slot tag h a n d l) s (fun t =>
        (∀ e, e ∈ allocPick s a.toNat n.toNat d.toNat (l.map (·.toNat)) →
          extRec t e = { st := exZEROING, holder := h.toNat, prio := atPrio a.toNat, coherent := atCoh a.toNat
                         mirrored := atMir a.toNat, mapcount := 0 })
        ∧ SameExts s t (allocPick s a.toNat n.toNat d.toNat (l.map (·.toNat)))
        ∧ Replied t slot 0x0201 tag stDEFERRED (leBytes 8 (allocPick s a.toNat n.toNat d.toNat (l.map (·.toNat))).length
          ++ (allocPick s a.toNat n.toNat d.toNat (l.map (·.toNat))).flatMap (leBytes 8)) ∧ SameRegs s t [] ∧ t.mem = s.mem ∧ t.dram = s.dram ∧ t.sched = s.sched))
    ∧ (eligible0 s a.toNat d.toNat (l.map (·.toNat)) <
        (if l = [] then n.toNat else (allocPick s a.toNat n.toNat d.toNat (l.map (·.toNat))).length) + rg s (Reg.XLT_FLOOR (atPrio a.toNat)) →
      Completes (.extentAlloc slot tag h a n d l) s (fun t =>
        Replied t slot 0x0201 tag stREFUSED (leBytes 8 (eligible0 s a.toNat d.toNat (l.map (·.toNat)))
          ++ leBytes 8 (rg s (Reg.XLT_FLOOR (atPrio a.toNat))))
        ∧ rg t (Reg.XLT_TN_REFCAP h.toNat) = min (rg s (Reg.XLT_TN_REFCAP h.toNat) + 1) 0xFFFFFFFF
        ∧ SameRegs s t [Reg.XLT_TN_REFCAP h.toNat] ∧ SamePool s t)))
  ∧ (∀ (s : State) (e : Nat) (rest : List Nat), reservedExt e = false → inSafe s = false →
      tgetD s.xlt.filling (e / 480) [] = e :: rest →
    Completes (.zeroFillDone e) s (fun t =>
      (extRec t e).st = exREADY ∧ (extRec t e).holder = (extRec s e).holder ∧ SameExts s t [e]
      ∧ tgetD t.xlt.filling (e / 480) [] = rest
      ∧ (∀ x, extOf x = e → memByte t.mem x = 0#8)
      ∧ (∀ x, extOf x ≠ e → reservedExt (extOf x) = false → memByte t.mem x = memByte s.mem x)))

/-- Release and attributes (R53, R54, R445, R446): every extent is checked before any changes; a READY extent that nothing maps becomes FREE, or
DRAINING and a deferred reply while a fence covers it; a mapped or reserved one bars the whole command; EXTENT_SET_ATTR
replaces the attributes that MASK selects; EXTENT_QUERY changes nothing.
Where the spec is silent the model's choice stands: assumptions 47, 48. -/
def Obligations.ExtentsAreReleasedAndSet : Prop :=
  (∀ (s : State) (slot : Nat) (tag : Word32) (l : List Word64), MayRun s slot 0x0202 tag → Alone s → DeferRoom s →
      (∀ w, w ∈ l → w.toNat < 2880) →
    ((∀ w, w ∈ l → (extRec s w.toNat).st = exREADY ∧ (extRec s w.toNat).mapcount = 0 ∧ migrating s w.toNat = false
        ∧ fenced s w.toNat = false) →
      Completes (.extentRelease slot tag l) s (fun t =>
        (∀ w, w ∈ l → extRec t w.toNat = ExtRec.init w.toNat) ∧ SameExts s t (l.map (·.toNat))
        ∧ Replied t slot 0x0202 tag stOK [] ∧ SameRegs s t [] ∧ t.mem = s.mem))
    ∧ (∀ w, l = [w] → (extRec s w.toNat).st = exREADY → (extRec s w.toNat).mapcount = 0 → migrating s w.toNat = false →
        fenced s w.toNat = true →
      Completes (.extentRelease slot tag l) s (fun t =>
        extRec t w.toNat = { extRec s w.toNat with st := exDRAINING } ∧ SameExts s t [w.toNat]
        ∧ Replied t slot 0x0202 tag stDEFERRED [] ∧ SameRegs s t [] ∧ t.mem = s.mem))
    ∧ (∀ e, (l.map (·.toNat)).find? (fun e => (releaseBars s e).isSome) = some e →
      Completes (.extentRelease slot tag l) s (fun t =>
        Replied t slot 0x0202 tag ((releaseBars s e).getD stINVALID) (leBytes 8 e) ∧ SameRegs s t [] ∧ SamePool s t)))
  ∧ (∀ (s : State) (slot : Nat) (tag : Word32) (l : List Word64) (a m : Word64), MayRun s slot 0x0203 tag → Alone s →
      (∀ w, w ∈ l → w.toNat < 2880) → onlyBits a 0x10703 = true → onlyBits m 0x10703 = true →
      (∀ w, w ∈ l → migrating s w.toNat = false ∧ attrBars s a.toNat m.toNat w.toNat = none) →
    Completes (.extentSetAttr slot tag l a m) s (fun t =>
      (∀ w, w ∈ l → extRec t w.toNat = withAttr (extRec s w.toNat) a.toNat m.toNat) ∧ SameExts s t (l.map (·.toNat))
      ∧ Replied t slot 0x0203 tag stOK [] ∧ SameRegs s t [] ∧ t.mem = s.mem))
  ∧ (∀ (s : State) (slot : Nat) (tag : Word32) (l : List Word64), MayRun s slot 0x0204 tag → l.length ≤ 64 → (∀ w, w ∈ l → w.toNat < 2880) →
    Completes (.extentQuery slot tag l) s (fun t =>
      Replied t slot 0x0204 tag stOK
        (leBytes 8 (fitEntries (l.map (fun w => extentEntry s w.toNat)) 4088 true).length
          ++ (fitEntries (l.map (fun w => extentEntry s w.toNat)) 4088 true).flatten)
      ∧ SameRegs s t [] ∧ SamePool s t ∧ SameRest s t))

/-- Views (R53, R56 to R58, R96, R99): VIEW_MAP writes the entries of 1 or 16 slots and raises MAPCOUNT; VIEW_UNMAP clears
them, lowers MAPCOUNT and opens a fence over the extents; with 64 fences open it waits, whole, and nothing of it is carried
out; the completion of a fence makes DRAINING extents that no other fence covers FREE.
Where the spec is silent the model's choice stands: assumption 50. -/
def Obligations.ViewsMapAndUnmap : Prop :=
  (∀ (s : State) (slot : Nat) (tag : Word32) (u v e p : Word64) (n : Nat), MayRun s slot 0x0205 tag → Alone s →
      v.toNat < 2 ^ 18 → e.toNat < 2880 → p.toNat < 32 → n = (if bit p.toNat 4 then 16 else 1) → tenantExists s u.toNat = true →
      (bit p.toNat 4 = true → v.toNat % 16 = 0 ∧ alignedGroup e.toNat = true) → (bit p.toNat 2 = true → bit p.toNat 1 = true) →
      (∀ x, x ∈ List.range' e.toNat n → (extRec s x).st = exREADY ∧ migrating s x = false ∧ (∀ w, w ∈ mappers s x → w.1 ≠ u.toNat)
        ∧ (extRec s x).coherent = (extRec s e.toNat).coherent ∧ (extRec s x).mirrored = (extRec s e.toNat).mirrored
        ∧ (isolated s u.toNat = true → offGates s x = false ∧ (extRec s x).coherent = false)) →
      (∀ x, x ∈ List.range' v.toNat n → veValid (viewEnt s u.toNat x) = false) →
    Completes (.viewMap slot tag u v e p) s (fun t =>
      (∀ x, x ∈ List.range' v.toNat n → viewEnt t u.toNat x = viewWord e.toNat p.toNat)
      ∧ SameViews s t u.toNat (List.range' v.toNat n)
      ∧ (∀ x, x ∈ List.range' e.toNat n → extRec t x = { extRec s x with mapcount := (extRec s x).mapcount + 1 })
      ∧ SameExts s t (List.range' e.toNat n) ∧ Replied t slot 0x0205 tag stOK [] ∧ SameRegs s t []))
  ∧ (∀ (s : State) (slot : Nat) (tag : Word32) (u v : Word64), MayRun s slot 0x0206 tag → Alone s → u.toNat < 256 →
      v.toNat < 2 ^ 18 → tenantExists s u.toNat = true → veValid (viewEnt s u.toNat v.toNat) = true →
      (∀ x, x ∈ pageExtents (viewEnt s u.toNat v.toNat) → migrating s x = false) →
    (∀ f, FreeFence s f → Completes (.viewUnmap slot tag u v) s (fun t =>
      (∀ x, x ∈ pageSlots (viewEnt s u.toNat v.toNat) v.toNat → viewEnt t u.toNat x = 0)
      ∧ SameViews s t u.toNat (pageSlots (viewEnt s u.toNat v.toNat) v.toNat)
      ∧ (∀ x, x ∈ pageExtents (viewEnt s u.toNat v.toNat) →
          extRec t x = { extRec s x with mapcount := (extRec s x).mapcount - 1 })
      ∧ FenceOpened s t f (pageExtents (viewEnt s u.toNat v.toNat)) 0 ∧ Replied t slot 0x0206 tag stOK [] ∧ SameRegs s t []))
    ∧ (fenceRoom s = false → Completes (.viewUnmap slot tag u v) s (fun t =>
      t.xlt = { s.xlt with fenceWait := s.xlt.fenceWait ++ [.viewUnmap slot tag u.toNat v.toNat] }
      ∧ t.mem = s.mem ∧ SameRegs s t [] ∧ t.eth = s.eth ∧ t.sched = s.sched)))
  ∧ (∀ (s : State) (slot : Nat) (tag : Word32) (u f n : Word64), MayRun s slot 0x0207 tag → tenantExists s u.toNat = true →
      u.toNat < 256 → n.toNat ≤ 256 → f.toNat + n.toNat ≤ 262144 →
    Completes (.viewQuery slot tag u f n) s (fun t =>
      Replied t slot 0x0207 tag stOK (((List.range' f.toNat n.toNat).map (viewEnt s u.toNat)).flatMap (leBytes 8))
      ∧ SameRegs s t [] ∧ SamePool s t ∧ SameRest s t))
  ∧ (∀ (s : State) (f : Nat) (r : Fence), tget s.xlt.fences f = some r → r.cause ≠ 2 → inSafe s = false → tileUses s r.extents = false →
      NoneWait s r.extents →
    Completes (.fenceComplete f) s (fun t =>
      tget t.xlt.fences f = none ∧ (∀ g, g ≠ f → tget t.xlt.fences g = tget s.xlt.fences g)
      ∧ (∀ e, e ∈ r.extents → (∀ g q, g ≠ f → (g, q) ∈ s.xlt.fences → e ∉ q.extents) → (extRec s e).st = exDRAINING →
          extRec t e = ExtRec.init e)
      ∧ (∀ e, e ∉ r.extents ∨ (extRec s e).st ≠ exDRAINING → extRec t e = extRec s e)))

/-- Windows (R64 to R66, R96): WINDOW_SET writes the entry's registers and counts the extents that a KIND = 0 entry covers; over a
valid entry it opens a fence on what the old entry resolved to; WINDOW_CLEAR makes the entry invalid, with a fence, and
leaves an invalid entry alone. -/
def Obligations.WindowsAreSetAndCleared : Prop :=
  (∀ (s : State) (slot : Nat) (tag : Word32) (w c b x : Word64), MayRun s slot 0x0208 tag → Alone s → windowBad w c b x = false →
      tenantExists s (bits c.toNat 15 8) = true →
      (∀ e, e ∈ newCover c.toNat b.toNat → e < 2880 ∧ reservedExt e = false ∧ (extRec s e).st = exREADY ∧ migrating s e = false) →
      (∀ e, e ∈ winCounted s w.toNat → migrating s e = false) → isolated s (bits c.toNat 15 8) = false →
    (bit (winCtl s w.toNat) 0 = false → Completes (.windowSet slot tag w c b x) s (fun t =>
      winCtl t w.toNat = c.toNat ∧ winBase t w.toNat = b.toNat ∧ rg t (Reg.XLT_WIN_SRC w.toNat) = x.toNat
      ∧ (∀ e, e ∈ newCover c.toNat b.toNat → extRec t e = { extRec s e with mapcount := (extRec s e).mapcount + 1 })
      ∧ SameExts s t (newCover c.toNat b.toNat) ∧ t.xlt.fences = s.xlt.fences
      ∧ SameRegs s t [Reg.XLT_WIN_CTL w.toNat, Reg.XLT_WIN_BASE_LO w.toNat, Reg.XLT_WIN_BASE_HI w.toNat, Reg.XLT_WIN_SRC w.toNat]
      ∧ Replied t slot 0x0208 tag stOK [] ∧ t.mem = s.mem))
    ∧ (∀ f, FreeFence s f → winExtents s w.toNat ≠ [] → (winExtents s w.toNat).Nodup →
        Completes (.windowSet slot tag w c b x) s (fun t =>
      winCtl t w.toNat = c.toNat ∧ winBase t w.toNat = b.toNat ∧ rg t (Reg.XLT_WIN_SRC w.toNat) = x.toNat
      ∧ FenceOpened s t f (winExtents s w.toNat) 1 ∧ Replied t slot 0x0208 tag stOK [] ∧ t.mem = s.mem)))
  ∧ (∀ (s : State) (slot : Nat) (tag : Word32) (w : Word64), MayRun s slot 0x0209 tag → Alone s → w.toNat < 4096 →
    (bit (winCtl s w.toNat) 0 = false → Completes (.windowClear slot tag w) s (fun t =>
      Replied t slot 0x0209 tag stOK [] ∧ SameRegs s t [] ∧ SamePool s t))
    ∧ (∀ f, FreeFence s f → bit (winCtl s w.toNat) 0 = true → winExtents s w.toNat ≠ [] → (winExtents s w.toNat).Nodup →
        (∀ e, e ∈ winCounted s w.toNat → migrating s e = false) →
      Completes (.windowClear slot tag w) s (fun t =>
        bit (winCtl t w.toNat) 0 = false ∧ FenceOpened s t f (winExtents s w.toNat) 1
        ∧ SameRegs s t [Reg.XLT_WIN_CTL w.toNat] ∧ Replied t slot 0x0209 tag stOK [] ∧ t.mem = s.mem)))

/-- Migration (R100 to R102): the destination takes the source's attributes and is ZEROING; a pass that ends with more dirty pages than
FINAL_PAGES is followed by another, up to PASSES, and else the switch opens a fence; the switch moves every view entry
of the source to the destination and frees the source; at HOLD_LIMIT the views stay and the destination is FREE.
Where the spec is silent the model's choice stands: assumptions 49, 50. -/
def Obligations.MigrationMovesAnExtent : Prop :=
  (∀ (s : State) (slot : Nat) (tag : Word32) (a b : Word64), MayRun s slot 0x020A tag → Alone s → DeferRoom s → a.toNat < 2880 →
      b.toNat < 2880 → reservedExt a.toNat = false → reservedExt b.toNat = false → (extRec s a.toNat).coherent = false →
      (extRec s a.toNat).mirrored = false → (extRec s a.toNat).st = exREADY → freeExt s b.toNat = true →
      migrating s a.toNat = false → migrating s b.toNat = false → inWindow s a.toNat = false →
      (∀ v, v ∈ mappers s a.toNat → veSize (viewEnt s v.1 v.2) = false) →
    Completes (.extentMigrate slot tag a b) s (fun t =>
      extRec t b.toNat = { extRec s a.toNat with st := exZEROING, mapcount := 0 } ∧ SameExts s t [b.toNat]
      ∧ tget t.xlt.migrations a.toNat = some { dest := b.toNat, pass := 1, dirty := [], switching := none }
      ∧ Replied t slot 0x020A tag stDEFERRED [] ∧ SameRegs s t [] ∧ t.mem = s.mem ∧ t.xlt.views = s.xlt.views))
  ∧ (∀ (s : State) (a : Nat) (g : Migration), tget s.xlt.migrations a = some g → g.switching = none → inSafe s = false →
      FenceWait.migrationSwitch a ∉ s.xlt.fenceWait →
    (∀ f, g.dirty.length ≤ rf s Reg.XLT_MIG_CTL 27 12 → FreeFence s f → Completes (.migrationPassEnd a) s (fun t =>
      FenceOpened s t f [a] 2 ∧ tget t.xlt.migrations a = some { g with switching := some (now s) } ∧ SameRegs s t [] ∧ t.mem = s.mem))
    ∧ (rf s Reg.XLT_MIG_CTL 27 12 < g.dirty.length → g.pass < rf s Reg.XLT_MIG_CTL 11 8 → Completes (.migrationPassEnd a) s (fun t =>
      tget t.xlt.migrations a = some { g with pass := g.pass + 1, dirty := [] } ∧ SameExts s t [] ∧ SameRegs s t [] ∧ t.mem = s.mem))
    ∧ (rf s Reg.XLT_MIG_CTL 27 12 < g.dirty.length → rf s Reg.XLT_MIG_CTL 11 8 ≤ g.pass → Completes (.migrationPassEnd a) s (fun t =>
      tget t.xlt.migrations a = none ∧ extRec t g.dest = ExtRec.init g.dest ∧ SameExts s t [g.dest] ∧ t.xlt.views = s.xlt.views)))
  ∧ (∀ (s : State) (a f t0 : Nat) (g : Migration), tget s.xlt.migrations a = some g → g.switching = some t0 → switchFence s a = some f →
      (∃ o, tget s.xlt.fences f = some { extents := [a], cause := 2, opened := o }) → NoneWait s [a] → g.dest ≠ a → reservedExt g.dest = false → reservedExt a = false →
    (tileUses s [a] = false → inSafe s = false → now s ≤ t0 + rf s Reg.XLT_MIG_CTL 7 0 * 1000 →
      Completes (.migrationSwitchDone a) s (fun t =>
        (extRec t g.dest).st = exREADY ∧ (extRec t g.dest).mapcount = (extRec s a).mapcount ∧ extRec t a = ExtRec.init a
        ∧ tget t.xlt.migrations a = none ∧ tget t.xlt.fences f = none
        ∧ (Memory.wf s.mem = true → s.dram.marks = [] → s.dram.losses = [] → s.dram.undef = [] →
            ∀ x, x < 2 ^ 30 → memByte t.mem (g.dest * 2 ^ 30 + x) = memByte s.mem (a * 2 ^ 30 + x))))
    ∧ Completes (.migrationHoldLimit a) s (fun t =>
        t.xlt.views = s.xlt.views ∧ extRec t g.dest = ExtRec.init g.dest ∧ tget t.xlt.migrations a = none
        ∧ tget t.xlt.fences f = none ∧ t0 + rf s Reg.XLT_MIG_CTL 7 0 * 1000 ≤ now t))

/-- Tenants, floors and gates (R106, R109, R447, R487, R488, R495, R498): TENANT_SET puts the settings into the tenant's registers, and returns
CONFLICT for a change of MODE while it holds an extent, a context or a queue pair; TENANT_CLEAR removes a tenant that holds
nothing; CAPACITY_SET sets the floors and the retry time, FAULTQ_SET the depth; GATE_SET waits for the next cycle.
Where the spec is silent the model's choice stands: assumptions 57, 58. -/
def Obligations.TenantsFloorsAndGates : Prop :=
  (∀ (s : State) (slot : Nat) (tag : Word32) (u w c m mc mw ma : Word64), MayRun s slot 0x0301 tag → Alone s → u.toNat < 256 →
      1 ≤ w.toNat → w.toNat < 256 → c.toNat < 8 → m.toNat < 2 → mc.toNat ≤ 16384 → mw.toNat ≤ 32768 → 1 ≤ ma.toNat → ma.toNat ≤ 8192 →
    ((tenantExists s u.toNat = true → isolated s u.toNat = (m.toNat == 1)) ∨
        (heldExtents s u.toNat = 0 ∧ heldContexts s u.toNat = 0 ∧ heldQps s u.toNat = 0) →
      Completes (.tenantSet slot tag u w c m mc mw ma) s (fun t =>
        tenantExists t u.toNat = true ∧ tenantClass t u.toNat = c.toNat ∧ isolated t u.toNat = (m.toNat == 1)
        ∧ rf t (Reg.XLT_TN_CFG u.toNat) 7 0 = w.toNat ∧ rf t (Reg.XLT_TN_LIMITS u.toNat) 14 0 = mc.toNat
        ∧ rf t (Reg.XLT_TN_LIMITS u.toNat) 30 15 = mw.toNat ∧ rf t (Reg.XLT_TN_ADMITLIM u.toNat) 13 0 = ma.toNat
        ∧ SameRegs s t [Reg.XLT_TN_CFG u.toNat, Reg.XLT_TN_LIMITS u.toNat, Reg.XLT_TN_ADMITLIM u.toNat, Reg.ETH_TW u.toNat]
        ∧ Replied t slot 0x0301 tag stOK [] ∧ SamePool s t))
    ∧ (tenantExists s u.toNat = true → isolated s u.toNat ≠ (m.toNat == 1) → 0 < heldExtents s u.toNat →
      Completes (.tenantSet slot tag u w c m mc mw ma) s (fun t =>
        Replied t slot 0x0301 tag stCONFLICT [] ∧ SameRegs s t [] ∧ SamePool s t)))
  ∧ (∀ (s : State) (slot : Nat) (tag : Word32) (u : Word64), MayRun s slot 0x0302 tag → Alone s → u.toNat < 256 →
      tenantExists s u.toNat = true → heldExtents s u.toNat = 0 → heldViews s u.toNat = 0 → heldWindows s u.toNat = 0 →
      heldContexts s u.toNat = 0 → heldQps s u.toNat = 0 → heldLintels s u.toNat = 0 →
    Completes (.tenantClear slot tag u) s (fun t =>
      tenantExists t u.toNat = false ∧ Replied t slot 0x0302 tag stOK [] ∧ SamePool s t
      ∧ SameRegs s t [Reg.XLT_TN_CFG u.toNat, Reg.XLT_TN_LIMITS u.toNat, Reg.XLT_TN_ADMITLIM u.toNat, Reg.ETH_TW u.toNat]))
  ∧ (∀ (s : State) (slot : Nat) (tag : Word32) (u : Word64), MayRun s slot 0x0303 tag → u.toNat < 256 → tenantExists s u.toNat = true →
    Completes (.tenantQuery slot tag u) s (fun t =>
      Replied t slot 0x0303 tag stOK ([rf s (Reg.XLT_TN_CFG u.toNat) 7 0, tenantClass s u.toNat, b2n (isolated s u.toNat),
        rf s (Reg.XLT_TN_LIMITS u.toNat) 14 0, rf s (Reg.XLT_TN_LIMITS u.toNat) 30 15, rf s (Reg.XLT_TN_ADMITLIM u.toNat) 13 0,
        heldExtents s u.toNat, heldViews s u.toNat, heldWindows s u.toNat, heldContexts s u.toNat, heldQps s u.toNat,
        heldLintels s u.toNat].flatMap (leBytes 8)) ∧ SameRegs s t [] ∧ SamePool s t ∧ SameRest s t))
  ∧ (∀ (s : State) (slot : Nat) (tag : Word32) (l : List Word64) (r : Word64), MayRun s slot 0x0304 tag → Alone s → l.length = 8 →
      falling (l.map (·.toNat)) = true → (∀ w, w ∈ l → w.toNat ≤ 2832) → 1 ≤ r.toNat → r.toNat ≤ 1000 →
    Completes (.capacitySet slot tag l r) s (fun t =>
      (∀ j, j < 8 → rg t (Reg.XLT_FLOOR j) = (l.getD j 0).toNat) ∧ rg t Reg.XLT_ADMIT_RETRY = r.toNat
      ∧ SameRegs s t (Reg.XLT_ADMIT_RETRY :: (List.range 8).map Reg.XLT_FLOOR) ∧ Replied t slot 0x0304 tag stOK [] ∧ SamePool s t))
  ∧ (∀ (s : State) (slot : Nat) (tag : Word32) (u d : Word64), MayRun s slot 0x0312 tag → Alone s → u.toNat < 256 → 16 ≤ d.toNat →
      d.toNat ≤ 16384 → tenantExists s u.toNat = true →
    ((faultsOf s u.toNat).length ≤ d.toNat → Completes (.faultqSet slot tag u d) s (fun t =>
      rg t (Reg.XLT_FQ_CFG u.toNat) = d.toNat ∧ SameRegs s t [Reg.XLT_FQ_CFG u.toNat] ∧ Replied t slot 0x0312 tag stOK [] ∧ SamePool s t))
    ∧ (d.toNat < (faultsOf s u.toNat).length → Completes (.faultqSet slot tag u d) s (fun t =>
      Replied t slot 0x0312 tag stCONFLICT [] ∧ SameRegs s t [] ∧ SamePool s t)))
  ∧ (∀ (s : State) (slot : Nat) (tag : Word32) (c y : Word64) (l : List Word64), MayRun s slot 0x0305 tag → Alone s →
      onlyBits c 0xFF7F = true → 4 ≤ bits c.toNat 15 8 → 10000 ≤ y.toNat → y.toNat ≤ 100000000 → l.length ≤ 64 →
      (∀ w, w ∈ l → onlyBits w 0x3FFFFFFF = true) →
      ((l.filter (fun w => bit w.toNat 29)).map (fun w => bits w.toNat 19 0 * 8)).foldl (· + ·) 0 = y.toNat →
      (∀ w, w ∈ l → bit w.toNat 29 = true → 2000 * bits c.toNat 15 8 ≤ bits w.toNat 19 0 * 8) → isolatedTenants s = [] →
    Completes (.gateSet slot tag c y l) s (fun t =>
      t.sched = { s.sched with pendingGate := some (c.toNat, y.toNat, l.map (·.toNat)) } ∧ Replied t slot 0x0305 tag stOK []
      ∧ SameRegs s t [] ∧ t.xlt = s.xlt ∧ t.mem = s.mem))

/-- Fault records (R103, R108, R110, R112, R498): FAULT_READ returns the unreported records of a tenant and, for the owner, marks them; FAULT_RESOLVE
removes each record that it names and lists what named none; the first unrecorded context of a tenant is translated again
once a queue slot is free, or when it resumes if it is SUSPENDED. A gate entry ends when its time is up, and GUARD µs
before that the courses of the die preempt their contexts.
Where the spec is silent the model's choice stands: assumptions 55, 56. -/
def Obligations.FaultsAreReadAndResolved : Prop :=
  (∀ (s : State) (slot : Nat) (tag : Word32) (u : Word64), MayRun s slot 0x0310 tag → u.toNat < 256 → tenantExists s u.toNat = true →
    (s.mbx.owner ≠ some slot → Completes (.faultRead slot tag u) s (fun t =>
      Replied t slot 0x0310 tag stOK (leBytes 8 ((unreported s u.toNat).take 32).length
        ++ ((unreported s u.toNat).take 32).flatMap (fun e => e.2.toBytes)) ∧ SameRegs s t [] ∧ SamePool s t))
    ∧ (s.mbx.owner = some slot → Completes (.faultRead slot tag u) s (fun t =>
      (∀ e, e ∈ (unreported s u.toNat).take 32 → (∀ e', e' ∈ (unreported s u.toNat).take 32 → e'.1 = e.1 → e' = e) →
        tget (faultsOf t u.toNat) e.1 = some { e.2 with reported := true })
      ∧ (∀ v, v ≠ u.toNat → faultsOf t v = faultsOf s v) ∧ SameRegs s t [] ∧ t.xlt.ext = s.xlt.ext ∧ t.sched = s.sched
      ∧ ∃ b, Replied t slot 0x0310 tag stOK b)))
  ∧ (∀ (s : State) (slot : Nat) (tag : Word32) (w : Word64) (k : Nat) (r : FaultRec), MayRun s slot 0x0311 tag → Alone s →
      onlyBits w 0xFFFFFFFF000001FF = true → (∀ c, c ∈ s.sched.ctxs → c.2.park = none) →
    ((faultsOf s (bits w.toNat 7 0)).find? (fun e => e.2.seq == bits w.toNat 63 32) = some (k, r) →
      Completes (.faultResolve slot tag [w]) s (fun t =>
        tget (faultsOf t (bits w.toNat 7 0)) k = none
        ∧ (∀ j, j ≠ k → tget (faultsOf t (bits w.toNat 7 0)) j = tget (faultsOf s (bits w.toNat 7 0)) j)
        ∧ Replied t slot 0x0311 tag stOK (leBytes 8 0) ∧ SameRegs s t [] ∧ t.sched = s.sched ∧ t.mem = s.mem))
    ∧ ((faultsOf s (bits w.toNat 7 0)).find? (fun e => e.2.seq == bits w.toNat 63 32) = none →
      Completes (.faultResolve slot tag [w]) s (fun t =>
        Replied t slot 0x0311 tag stOK (leBytes 8 1 ++ leBytes 8 w.toNat) ∧ SameRegs s t [] ∧ SamePool s t)))
  ∧ (∀ (s : State) (u x : Nat) (rest : List Nat) (c : Ctx) (p : Park), tgetD s.xlt.unrecorded u [] = x :: rest →
      (faultsOf s u).length < rf s (Reg.XLT_FQ_CFG u) 14 0 → inSafe s = false → ctxAt s x = some c → c.park = some p → c.st = cxSUSPENDED →
    Completes (.unrecordedRetranslate u) s (fun t =>
      ctxAt t x = some { c with park := some { p with unrecorded := false, again := true } }
      ∧ x ∉ tgetD t.xlt.unrecorded u [] ∧ (∀ y, y ≠ x → ctxAt t y = ctxAt s y) ∧ SameRegs s t [] ∧ t.mem = s.mem))
  ∧ (∀ (s : State), rf s Reg.XLT_GATE_CTL 6 6 = 1 → now s < s.sched.gateEnd →
    Completes (.gateEntryBoundary .dies) s (fun t =>
      now t = s.sched.gateEnd ∧ t.sched.guard = 0 ∧ t.sched.ctxs = s.sched.ctxs ∧ t.mem = s.mem
      ∧ (s.sched.pendingGate = none → SameRegs s t [])))
  ∧ (∀ (s : State) (n : Nat), n < 6 → gated s n = true → bit s.sched.guard n = false →
    Completes (.guardStart n) s (fun t =>
      bit t.sched.guard n = true ∧ s.sched.gateEnd - rf s Reg.XLT_GATE_CTL 15 8 * 1000 ≤ now t
      ∧ (∀ x c r, ctxAt s x = some c → c.run = some r → runsOnDie r n = true → r.stop = 0 →
          ctxAt t x = some { c with run := some { r with stop := 1 } })
      ∧ SameRegs s t [] ∧ t.mem = s.mem ∧ t.xlt = s.xlt))

/-- Contexts come and go (R235, R236, R249, R250, R458): CONTEXT_CREATE makes a context with HEAD 0 that runs nothing, unless its tenant is at its
limit; CONTEXT_DESTROY makes it DRAINING and defers; at the end of the drain it is FREE; CONTEXT_RESTART of a STOPPED
context whose ring is drained answers its HEAD. Every other context stays as it is.
Where the spec is silent the model's choice stands: assumptions 85, 87. -/
def Obligations.ContextsComeAndGo : Prop :=
  (∀ (s : State) (slot : Nat) (tag : Word32) (x u r g : Word64), MayRun s slot 0x0320 tag → Alone s → x.toNat < 16384 → u.toNat < 256 →
      onlyBits r 0xFFFFFFFFF000 = true → onlyBits g 0x0F3F071F = true → 4 ≤ bits g.toNat 4 0 → bits g.toNat 4 0 ≤ 16 →
      tenantExists s u.toNat = true → ringPageOk s u.toNat r.toNat (bits g.toNat 4 0) = true →
      diesBad s u.toNat (bits g.toNat 21 16) = false → ctxAt s x.toNat = none →
    (heldContexts s u.toNat < rf s (Reg.XLT_TN_LIMITS u.toNat) 14 0 → freeWatchNo s ≠ none → bulkOfCtx s x.toNat = [] →
      Completes (.contextCreate slot tag x u r g) s (fun t =>
        (∃ c, ctxAt t x.toNat = some c ∧ c.tenant = u.toNat ∧ c.ring = r.toNat ∧ c.ringLog = bits g.toNat 4 0
          ∧ c.prio = bits g.toNat 10 8 ∧ c.gangMax = bits g.toNat 27 24 ∧ c.diemask = bits g.toNat 21 16 ∧ c.head = 0 ∧ c.run = none)
        ∧ SameCtxs s t [x.toNat] ∧ Replied t slot 0x0320 tag stOK []))
    ∧ (rf s (Reg.XLT_TN_LIMITS u.toNat) 14 0 ≤ heldContexts s u.toNat →
      Completes (.contextCreate slot tag x u r g) s (fun t =>
        Replied t slot 0x0320 tag stREFUSED []
        ∧ rg t (Reg.XLT_TN_REFCAP u.toNat) = min (rg s (Reg.XLT_TN_REFCAP u.toNat) + 1) 0xFFFFFFFF
        ∧ SameRegs s t [Reg.XLT_TN_REFCAP u.toNat] ∧ SamePool s t)))
  ∧ (∀ (s : State) (slot : Nat) (tag : Word32) (x : Word64) (c : Ctx), MayRun s slot 0x0321 tag → Alone s → DeferRoom s →
      x.toNat < 16384 → ctxAt s x.toNat = some c → c.st ≠ cxDRAINING →
      (ringRead (dequeue s slot tag) c (c.ring + 0x80) 8).2 ≠ .blocked →
    Completes (.contextDestroy slot tag x) s (fun t =>
      (∃ c', ctxAt t x.toNat = some c' ∧ c'.st = cxDRAINING ∧ c'.next = none ∧ c'.park = none ∧ c'.tailWatch = none)
      ∧ (∃ d, d ∈ t.mbx.deferred ∧ d.slot = slot ∧ d.tag = tag ∧ d.wait = .contextDestroy x.toNat)
      ∧ SameCtxs s t [x.toNat] ∧ Replied t slot 0x0321 tag stDEFERRED []))
  ∧ (∀ (s : State) (x : Nat) (c : Ctx), ctxAt s x = some c → c.st = cxDRAINING → c.run = none → bulkOfCtx s x = [] →
      c.drainTo ≤ c.head → (∀ d, d ∈ s.mbx.deferred → isCreate x d.wait = false) →
    Completes (.contextDrainDone x) s (fun t =>
      ctxAt t x = none ∧ SameCtxs s t [x] ∧ (∀ d, d ∈ t.mbx.deferred → d.wait ≠ .contextDestroy x) ∧ t.xlt = s.xlt ∧ t.dram = s.dram))
  ∧ (∀ (s u : State) (slot : Nat) (tag : Word32) (x : Word64) (c : Ctx) (b : List Byte) (n : Nat), MayRun s slot 0x0323 tag →
      Alone s → x.toNat < 16384 → ctxAt s x.toNat = some c → c.st = cxSTOPPED → c.run = none → c.limit = none → c.head = c.tail →
      bulkOfCtx s x.toNat = [] → ringRead (dequeue s slot tag) c (c.ring + 0x80) 8 = (u, .ok b n) → leNat b ≤ c.tail →
    Completes (.contextRestart slot tag x) s (fun t =>
      (∃ c', ctxAt t x.toNat = some c' ∧ c'.head = c.head ∧ c'.limit = none ∧ c'.run = none ∧ c'.ring = c.ring)
      ∧ SameCtxs s t [x.toNat] ∧ Replied t slot 0x0323 tag stOK (leBytes 8 c.head)))

/-- Contexts and courses under command (R249, R250, R253, R259, R447, R458): CONTEXT_SUSPEND suspends at once a context that runs nothing, and stops one that runs
at its next tile boundary; RESUME ends the suspension; SET replaces the selected fields; QUERY reports. COURSE_SET enables
an idle course or disables it at once, and drains one that runs; the end of the drain clears EN.
Where the spec is silent the model's choice stands: assumptions 87, 88. -/
def Obligations.ContextsAndCoursesAreSet : Prop :=
  (∀ (s : State) (slot : Nat) (tag : Word32) (x : Word64) (c : Ctx), MayRun s slot 0x0324 tag → Alone s → DeferRoom s →
      x.toNat < 16384 → ctxAt s x.toNat = some c → c.st < cxSUSPENDED → (∀ d, d ∈ s.mbx.deferred → d.wait ≠ .contextSuspend x.toNat) →
    (c.run = none → session s slot ≠ none → s.twin.replies = [] → Completes (.contextSuspend slot tag x) s (fun t =>
      (∃ c', ctxAt t x.toNat = some c' ∧ c'.st = cxSUSPENDED ∧ c'.head = c.head ∧ c'.tail = c.tail ∧ c'.run = none)
      ∧ SameCtxs s t [x.toNat] ∧ Replied t slot 0x0324 tag stOK [] ∧ t.mbx.deferred = s.mbx.deferred
      ∧ SameRegs s t [] ∧ t.mem = s.mem ∧ t.xlt = s.xlt))
    ∧ (∀ r, c.run = some r → r.members ≠ [] → r.stop = 0 → Completes (.contextSuspend slot tag x) s (fun t =>
      ctxAt t x.toNat = some { c with reserved := [], stealAt := none, stealDone := false, run := some { r with stop := 2 } }
      ∧ SameCtxs s t [x.toNat] ∧ Replied t slot 0x0324 tag stDEFERRED [] ∧ SameRegs s t [] ∧ t.mem = s.mem ∧ t.xlt = s.xlt)))
  ∧ (∀ (s : State) (slot : Nat) (tag : Word32) (x : Word64) (c : Ctx), MayRun s slot 0x0325 tag → Alone s → x.toNat < 16384 →
      ctxAt s x.toNat = some c → c.st = cxSUSPENDED → c.park = none →
    Completes (.contextResume slot tag x) s (fun t =>
      (∃ c', ctxAt t x.toNat = some c' ∧ c'.st ≠ cxSUSPENDED ∧ c'.head = c.head ∧ c'.ring = c.ring)
      ∧ SameCtxs s t [x.toNat] ∧ Replied t slot 0x0325 tag stOK []))
  ∧ (∀ (s : State) (slot : Nat) (tag : Word32) (x g m : Word64) (c : Ctx), MayRun s slot 0x0326 tag → Alone s → x.toNat < 16384 →
      ctxAt s x.toNat = some c → onlyBits g 0x0F3F071F = true → isolated s c.tenant = false → c.prio < 8 → c.diemask < 64 → c.gangMax < 16 →
    (m.toNat = 0x0F3F0700 → Completes (.contextSet slot tag x g m) s (fun t =>
      ctxAt t x.toNat = some { c with prio := bits g.toNat 10 8, diemask := bits g.toNat 21 16, gangMax := bits g.toNat 27 24 }
      ∧ SameCtxs s t [x.toNat] ∧ Replied t slot 0x0326 tag stOK [] ∧ SameRegs s t [] ∧ t.mem = s.mem ∧ t.xlt = s.xlt))
    ∧ (m.toNat = 0x0700 → Completes (.contextSet slot tag x g m) s (fun t =>
      ctxAt t x.toNat = some { c with prio := bits g.toNat 10 8 } ∧ SameCtxs s t [x.toNat] ∧ Replied t slot 0x0326 tag stOK [])))
  ∧ (∀ (s : State) (slot : Nat) (tag : Word32) (x : Word64) (c : Ctx), MayRun s slot 0x0322 tag → x.toNat < 16384 →
      ctxAt s x.toNat = some c →
    Completes (.contextQuery slot tag x) s (fun t =>
      Replied t slot 0x0322 tag stOK ([ctxCfgWord s x.toNat, ctxStatWord s x.toNat, c.head, c.tail].flatMap (leBytes 8))
      ∧ SameRegs s t [] ∧ SamePool s t ∧ SameRest s t))
  ∧ (∀ (s : State) (slot : Nat) (tag : Word32), MayRun s slot 0x0327 tag → Completes (.courseCaps slot tag) s (fun t =>
      Replied t slot 0x0327 tag stOK (capWords.flatMap (leBytes 4)) ∧ SameRegs s t [] ∧ SamePool s t ∧ SameRest s t))
  ∧ (∀ (s : State) (slot : Nat) (tag : Word32) (m e : Word64) (k : Nat), MayRun s slot 0x0328 tag → Alone s → DeferRoom s → k < 12 →
      m.toNat = 2 ^ k → onlyBits e 0xFFF = true → s.sched.draining = 0 → (∀ d, d ∈ s.mbx.deferred → ∀ a b c, d.wait ≠ .courseSet a b c) →
    (bit e.toNat k = true ∨ courseRuns s k = false → Completes (.courseSet slot tag m e) s (fun t =>
      rf t (Reg.CRS_CTL (k / 2) (k % 2)) 0 0 = b2n (bit e.toNat k) ∧ SameRegs s t [Reg.CRS_CTL (k / 2) (k % 2)]
      ∧ t.sched.draining = 0 ∧ Replied t slot 0x0328 tag stOK [] ∧ t.mem = s.mem ∧ t.xlt = s.xlt))
    ∧ (bit e.toNat k = false → courseRuns s k = true → Completes (.courseSet slot tag m e) s (fun t =>
      t.sched.draining = 2 ^ k ∧ (∀ x c r, ctxAt s x = some c → c.run = some r → k ∈ r.members → r.stop = 0 →
        ∃ c', ctxAt t x = some c' ∧ c'.run = some { r with stop := 1 })
      ∧ Replied t slot 0x0328 tag stDEFERRED [] ∧ SameRegs s t [] ∧ t.mem = s.mem ∧ t.xlt = s.xlt)))
  ∧ (∀ (s : State) (k slot : Nat) (tag : Word32), courseRuns s k = false → s.sched.draining = 2 ^ k → session s slot ≠ none →
      s.twin.replies = [] → s.mbx.deferred = [{ slot := slot, opcode := 0x0328, tag := tag, wait := .courseSet (2 ^ k) 0 0 }] →
    Completes (.courseDrainDone k) s (fun t =>
      rf t (Reg.CRS_CTL (k / 2) (k % 2)) 0 0 = 0 ∧ SameRegs s t [Reg.CRS_CTL (k / 2) (k % 2)] ∧ t.sched.draining = 0
      ∧ t.sched.ctxs = s.sched.ctxs ∧ Replied t slot 0x0328 tag stOK [] ∧ t.mem = s.mem ∧ t.xlt = s.xlt))

/-- Acceptance of a descriptor (R83 to R86, R89, R241, R244, R248): the scheduler reads the next slot of the ring. One with a descriptor error is
to complete FAULTED with cause 1; one that translates takes a shadow with its entries and becomes the descriptor that its context
runs. When RETRY_AFTER of a refused descriptor is reached, its slot is read again.
Where the spec is silent the model's choice stands: assumptions 92, 93. -/
def Obligations.DescriptorsAreAccepted : Prop :=
  (∀ (s u : State) (x : Nat) (c : Ctx) (b : List Byte) (n : Nat), Acceptable s x c → c.retryAt = none → c.busyRetry = false →
      ringRead s c (slotAddr c c.head) 256 = (u, .ok b n) →
    ((courseOf b).error c.gangMax (isolated u c.tenant) = true → Completes (.descriptorAccept x) s (fun t =>
      (∃ c' r, ctxAt t x = some c' ∧ c'.run = some r ∧ r.raw = b ∧ r.job.desc = c.head ∧ r.job.fail = some (sFAULTED, 0x01)
        ∧ c'.head = c.head ∧ c'.tail = c.tail)
      ∧ SameCtxs s t [x] ∧ t.xlt.shadows = s.xlt.shadows))
    ∧ (∀ (v : State) (d : DescXl), (courseOf b).error c.gangMax (isolated u c.tenant) = false → (courseOf b).isStream = true →
        unitsBad (courseOf b).units = false → xlDesc c.tenant (portCoord u 0) u (courseOf b).units = (v, d) → d.window = false →
        d.faults = [] → (courseOf b).overlaps d.entries ((courseOf b).shadowFields (placeFields 0 d.fields)) = false →
      Completes (.descriptorAccept x) s (fun t =>
        (∃ h, tget t.xlt.shadows s.sched.nextShadow = some h ∧ h.context = x ∧ h.tenant = c.tenant ∧ h.course = true
          ∧ h.entries = d.entries ∧ h.origin = slotAddr c c.head)
        ∧ (∃ c' r, ctxAt t x = some c' ∧ c'.run = some r ∧ r.raw = b ∧ r.job.shadow = s.sched.nextShadow ∧ r.job.desc = c.head
          ∧ r.job.fail = none ∧ c'.head = c.head)
        ∧ t.sched.nextShadow = s.sched.nextShadow + 1 ∧ SameCtxs s t [x])))
  ∧ (∀ (s u w : State) (x t0 : Nat) (c : Ctx) (b : List Byte) (n : Nat), Acceptable s x c → c.retryAt = some t0 → c.busyRetry = true →
      ringRead (reach s t0) c (slotAddr c c.head) 256 = (u, .ok b n) →
      headerPut (setCtx u x { c with busyRetry := false, retryAt := none }) x { c with busyRetry := false, retryAt := none } 0x08
        (leBytes 16 0) = (w, false) →
      (courseOf b).error c.gangMax (isolated w c.tenant) = true →
    Completes (.admitRetryExpire x) s (fun t =>
      t0 ≤ now t ∧ (∃ c' r, ctxAt t x = some c' ∧ c'.busyRetry = false ∧ c'.retryAt = none ∧ c'.run = some r ∧ r.raw = b
        ∧ r.job.fail = some (sFAULTED, 0x01) ∧ c'.head = c.head) ∧ SameCtxs s t [x]))

/-- The scheduler (R238, R251 to R256, R258): the context that is the choice takes the courses that it can have, at once, after STEAL_WAIT, or as
a gang after GANG_WAIT; NOT_BEFORE holds a descriptor back until it is reached; at QUANTUM a context that has a rival is
preempted, and when its tiles have ended its state is saved and its courses are free.
Where the spec is silent the model's choice stands: assumptions 89, 90. -/
def Obligations.TheSchedulerDispatchesAndPreempts : Prop :=
  (∀ (s u : State) (x : Nat) (c : Ctx) (r : Run), u = settle (startWait (flushPosts s x) x) x → Startable u x c r →
      startable u x c r = true → inSafe u = false →
    (∀ cs, pickCourses u x c r = some cs → isChoice u x c = true → Completes (.courseDispatch x) s (fun t =>
      OnCourses u t x r cs ∧ cs ≠ [] ∧ SameRegs u t [] ∧ t.mem = u.mem))
    ∧ (∀ cs, pickCourses u x c r = some cs → isChoice u x c = false → Completes (.courseDispatch x) s (fun t => t = u))
    ∧ (pickCourses u x c r = none → newReserve u x c r = [] → (courseOf r.raw).gang ≤ 1 → c.stealAt = none →
      Completes (.courseDispatch x) s (fun t =>
        ctxAt t x = some { c with stealAt := some (now u) } ∧ SameCtxs u t [x] ∧ SameRegs u t [] ∧ t.mem = u.mem)))
  ∧ (∀ (s u : State) (x t0 : Nat) (c0 c : Ctx) (r : Run) (cs : List Nat), ctxAt s x = some c0 → c0.stealAt = some t0 →
      u = settle (startWait (flushPosts (setCtx (reach s (t0 + rf s Reg.XLT_SCHED_CTL 27 20 * 1000)) x { c0 with stealDone := true }) x) x) x →
      Startable u x c r → startable u x c r = true → inSafe u = false → pickCourses u x c r = some cs → isChoice u x c = true →
    Completes (.stealWaitExpire x) s (fun t => OnCourses u t x r cs ∧ SameRegs u t [] ∧ t.mem = u.mem))
  ∧ (∀ (s : State) (x : Nat) (c : Ctx) (r : Run), Startable s x c r → c.reserved ≠ [] → c.st = cxREADY →
    Completes (.gangWaitExpire x) s (fun t =>
      c.gangAt + rf s Reg.XLT_SCHED_CTL 19 12 * 1000 ≤ now t
      ∧ OnCourses (reach s (c.gangAt + rf s Reg.XLT_SCHED_CTL 19 12 * 1000)) t x r c.reserved ∧ SameRegs s t [] ∧ t.mem = s.mem))
  ∧ (∀ (s : State) (x : Nat) (c : Ctx) (r : Run), ctxAt s x = some c → c.run = some r → (courseOf r.raw).isStream = true →
      r.job.nextTile = 0 →
    Completes (.notBeforeReached x) s (fun t =>
      (courseOf r.raw).notBefore ≤ now t ∧ (∃ c', ctxAt t x = some c' ∧ c'.run = some r) ∧ SameCtxs s t [x] ∧ SameRegs s t []
      ∧ t.mem = s.mem))
  ∧ (∀ (s : State) (x : Nat) (c : Ctx) (r : Run), ctxAt s x = some c → c.run = some r → r.members ≠ [] → r.stop = 0 →
    Completes (.quantumExpire x) s (fun t =>
      r.dispatched + rf s Reg.XLT_SCHED_CTL 11 0 * 1000 ≤ now t
      ∧ ctxAt t x = some { c with run := some { r with
          stop := if rival (reach s (r.dispatched + rf s Reg.XLT_SCHED_CTL 11 0 * 1000)) x c r then 1 else 0 } }
      ∧ SameCtxs s t [x] ∧ SameRegs s t [] ∧ t.mem = s.mem))
  ∧ (∀ (s : State) (x : Nat) (c : Ctx) (r : Run), ctxAt s x = some c → c.run = some r → r.stop = 1 → r.job.flight = [] →
      r.job.fail = none → r.members ≠ [] → r.job.nextTile < (courseOf r.raw).tiles → inSafe s = false → r.job.phase = 0 → r.waiting = false →
    Completes (.preemptSaveDone x) s (fun t =>
      (∃ c' r', ctxAt t x = some c' ∧ c'.next = none ∧ c'.run = some r' ∧ r'.members = [] ∧ r'.stop = 0 ∧ r'.raw = r.raw
        ∧ r'.job.nextTile = r.job.nextTile ∧ r'.job.recheck = true)
      ∧ t.mem = memWrite s.mem (resPpa (x % 6) 0 (x / 6 * 262144)) (saveBytes s x c r)
      ∧ SameCtxs s t [x] ∧ SameRegs s t [Reg.XLT_PREEMPT_LO, Reg.XLT_PREEMPT_LO + 4]))

/-- Descriptors run and end (R82 to R84, R92 to R95, R228, R245, R247, R345): TILE_START puts the next round of tiles in flight, or writes the next tile
of a FILL; TILE_END takes a tile whose writes are acknowledged out of flight and counts it; a bulk descriptor whose tiles
have ended adds to its signal word and is gone; a course descriptor is concluded once its record is written; a stopped context
drains its ring; BULK_DESC is accepted with a shadow, or told to retry; held entries that are current are released.
Where the spec is silent the model's choice stands: assumptions 86, 96, 98, 99, 168. -/
def Obligations.DescriptorsRunAndEnd : Prop :=
  (∀ (s : State) (x : Nat) (c : Ctx), ctxAt s x = some c → inSafe s = false → paused s c = false →
    (∀ r ts, c.run = some r → r.members ≠ [] → r.stop = 0 → r.job.fail = none → r.job.held = false → capOpen s = true → s.twin.st = 0 →
        r.job.flight = [] → (∀ n, n ∈ r.members → dieOpen s c.tenant (n / 2) = true) →
        ts = (List.range r.members.length).filter (fun m => decide (r.job.nextTile + m < (courseOf r.raw).tiles)) → ts ≠ [] →
        entriesFresh s r.job.shadow (ts.flatMap (fun m =>
          (courseOf r.raw).tileEntries (shadowAt s r.job.shadow) (r.job.nextTile + m))) = true →
      Completes (.tileStart x false) s (fun t =>
        ∃ c' r', ctxAt t x = some c' ∧ c'.run = some r' ∧ r'.raw = r.raw ∧ r'.members = r.members
          ∧ r'.job.nextTile = r.job.nextTile + ts.length ∧ r'.job.flight.map (fun e => e.num) = ts.map (fun m => r.job.nextTile + m)))
    ∧ (∀ b d h off len a, c.run = none → c.st ≠ cxSUSPENDED → s.sched.bulk = [b] → b.context = x → d = bulkOf b.raw → d.op = 0x11 →
        h = shadowAt s b.job.shadow → (off, len) = d.span b.job.nextTile → b.job.nextTile < d.tiles → b.job.flight = [] →
        b.job.fail = none → b.job.held = false → s.twin.st = 0 → (d.dstOpd h).segs h off len = [(a, len)] → d.dstKind < 2 → 0 < len →
        (∀ n, n < 6 → dieOpen s c.tenant n = true) → entriesFresh s b.job.shadow ((d.dstOpd h).entriesOf off len) = true →
        (∀ e, e ∈ h.entries → e.extent < 2880) → (∀ e, e ∈ s.sched.ctxs → e.2.run = none) →
        Clean s → PlainExtent s a → a % 2 ^ 30 + len ≤ 2 ^ 30 →
      Completes (.tileStart x true) s (fun t =>
        (∀ i, i < len → memByte t.mem (a + i) = (leBytes 8 d.pattern).getD ((off + i) % 8) 0#8)
        ∧ (∀ y, y < a ∨ a + len ≤ y → memByte t.mem y = memByte s.mem y)
        ∧ (∃ b' e, t.sched.bulk = [b'] ∧ b'.job.nextTile = b.job.nextTile + 1 ∧ b'.job.flight = [e] ∧ e.num = b.job.nextTile
          ∧ e.placed = true))))
  ∧ (∀ (s : State) (x : Nat) (c : Ctx) (e : Tile), s.sched.ctxs = [(x, c)] → inSafe s = false → e.out ≠ none → e.placed = true →
      e.left = 0 → e.got = e.want → e.mirrored = false → mirroring s = false →
    (∀ r, s.sched.bulk = [] → c.run = some r → r.job.flight = [e] → r.job.tiles = e.num → r.job.above = [] →
      Completes (.tileEnd x false e.num) s (fun t =>
        (∃ c' r', ctxAt t x = some c' ∧ c'.run = some r' ∧ r'.job.flight = [] ∧ r'.job.tiles = e.num + 1 ∧ r'.raw = r.raw)
        ∧ SameRegs s t [Reg.CRS_TILES_LO (r.course e.member / 2) (r.course e.member % 2),
            Reg.CRS_TILES_LO (r.course e.member / 2) (r.course e.member % 2) + 4] ∧ t.mem = s.mem))
    ∧ (∀ b, c.run = none → s.sched.bulk = [b] → b.context = x → b.job.flight = [e] → b.job.tiles = e.num → b.job.above = [] →
      Completes (.tileEnd x true e.num) s (fun t =>
        (∃ b', t.sched.bulk = [b'] ∧ b'.job.flight = [] ∧ b'.job.tiles = e.num + 1) ∧ SameRegs s t [] ∧ t.mem = s.mem)))
  ∧ (∀ (s : State) (x a v : Nat) (c : Ctx) (b : BulkJob) (h : Shadow) (e : ShEntry), ctxAt s x = some c → inSafe s = false →
      s.sched.posts = [] → s.sched.bulk = [b] → b.context = x → c.run = none → c.st < cxSUSPENDED → c.head < c.tail → paused s c = false →
      b.job.fail = none → b.job.flight = [] → b.job.acks = 0 → (bulkOf b.raw).tiles ≤ b.job.nextTile → s.twin.st = 0 →
      (bulkOf b.raw).signal % 8 = 0 → tget s.xlt.shadows b.job.shadow = some h → h.entries[h.sigIdx]? = some e →
      e.epoch = epochOf s e.extent → h.era = s.xlt.era → a = ppaOf e.extent ((bulkOf b.raw).signal % 2 ^ 30) →
      Clean s → PlainExtent s a → v = leNat (memRead s.mem a 8) → (bulkOf b.raw).signalAdd ≠ 0 → (bulkOf b.raw).signalAdd < 2 ^ 64 →
    Completes (.descriptorComplete x true) s (fun t =>
      t.mem = memWrite s.mem a (leBytes 8 ((v + (bulkOf b.raw).signalAdd) % 2 ^ 64)) ∧ t.sched.bulk = []
      ∧ tget t.xlt.shadows b.job.shadow = none ∧ (∀ n, n ≠ b.job.shadow → tget t.xlt.shadows n = tget s.xlt.shadows n)
      ∧ (∃ c', ctxAt t x = some c' ∧ c'.head = c.head ∧ c'.tail = c.tail)))
  ∧ (∀ (s u v : State) (x : Nat) (c c1 : Ctx) (r : Run), ctxAt s x = some c → inSafe s = false → s.sched.posts = [] → c.run = some r →
      c.next = none → c.park = none → s.sched.bulk = [] → r.job.finished (courseOf r.raw).steps = true → paused s c = false → c.st = cxRUNNING → r.job.phase = 0 →
      r.outcome.1 < 2 → r.stop = 0 → c.overrun = false → c.head + 1 < c.tail → c.waitWatch = none →
      writeRecord s c r.job.shadow r.job.desc (recordBytes r.outcome.1 r.outcome.2 r.job.tiles r.flushed r.oob) = (some (some 0), u) →
      c1 = { c with head := c.head + 1, run := some { r with job := { r.job with phase := 1, acks := 0 } } } →
      advance (setCtx u x c1) x c1 r.job.shadow (courseOf r.raw).signal (courseOf r.raw).signalAdd r.job.desc false = (v, .done) →
      ctxAt u x = some c → ctxAt v x = some c1 → v.sched.bulk = [] →
    Completes (.descriptorComplete x false) s (fun t =>
      (∃ c', ctxAt t x = some c' ∧ c'.head = c.head + 1 ∧ c'.run = none ∧ c'.st = cxREADY)
      ∧ tget t.xlt.shadows r.job.shadow = none ∧ t.mem = v.mem))
  ∧ (∀ (s u : State) (x : Nat) (c : Ctx), ctxAt s x = some c → cxSTOPPED ≤ c.st → inSafe s = false → s.sched.posts = [] →
      s.sched.bulk = [] → c.run = none → c.head < c.drainTo → drainSlot s x c = (true, u) →
    Completes (.stoppedDescriptorDrain x) s (fun t => t = u ∧ ∃ c', ctxAt t x = some c' ∧ c'.head = c.head + 1 ∧ c'.st = c.st))
  ∧ (∀ (s : State) (k x : Nat) (m : Msg) (c : Ctx), Fresh s 0x0B m → x = (bulkOf (slice m.data 0 64)).context → ctxAt s x = some c →
      c.st < cxSTOPPED → s.twin.st = 0 → c.park = none → c.refused = [] →
    (∀ w, admitBar s c.tenant = some w → Completes (.bulkDesc k m) s (fun t =>
      Answered t m (Resp.plain 0x55 sBUSY_RETRY 0 0 (retryAfter s)) ∧ ctxAt t x = some { c with refused := [slice m.data 0 64] }
      ∧ t.sched.bulk = s.sched.bulk ∧ t.mem = s.mem))
    ∧ (∀ u d, admitBar s c.tenant = none → (bulkOf (slice m.data 0 64)).error = false → unitsBad (bulkOf (slice m.data 0 64)).units = false →
        xlDesc c.tenant m.src.toNat (setCtx (takeMsg s k m) x { c with refused := [] }) (bulkOf (slice m.data 0 64)).units = (u, d) →
        d.window = false → d.faults = [] → s.twin.formed = false →
      Completes (.bulkDesc k m) s (fun t =>
        Answered t m (Resp.plain 0x55 sCOMPLETE 0 0 0)
        ∧ (∃ b, t.sched.bulk = s.sched.bulk ++ [b] ∧ b.context = x ∧ b.raw = slice m.data 0 64 ∧ b.job.shadow = s.sched.nextShadow
          ∧ b.job.fail = none)
        ∧ (∃ h, tget t.xlt.shadows s.sched.nextShadow = some h ∧ h.context = x ∧ h.entries = d.entries ∧ h.course = false))))
  ∧ (∀ (s : State) (x : Nat) (c : Ctx) (r : Run) (h : Shadow), s.sched.ctxs = [(x, c)] → s.sched.bulk = [] → c.run = some r →
      r.job.held = true → tget s.xlt.shadows r.job.shadow = some h → h.era = s.xlt.era → (∀ e, e ∈ h.entries → staleEntry s e = false) →
      h.entries.length = (entryNeeds (courseOf r.raw).units).length →
    Completes (.revalidationDone x) s (fun t =>
      (∃ c' r', ctxAt t x = some c' ∧ c'.run = some r' ∧ r'.job.held = false ∧ r'.raw = r.raw)
      ∧ tget t.xlt.shadows r.job.shadow = some { h with held := false } ∧ SameRegs s t [] ∧ t.mem = s.mem))

/-- Watches (R298 to R303, R489): WATCH_ARM of a time installs an entry, unless the tenant or the unit is full; WATCH_DISARM frees it; a watch of a
time fires when the time base reaches TARGET, but in pool-hold it stays armed; a notice makes an entry fire when the
value of its word has reached TARGET, and leaves it armed when it has not.
Where the spec is silent the model's choice stands: assumptions 100, 101, 168. -/
def Obligations.WatchesFireWhenTheyAreDue : Prop :=
  (∀ (s : State) (k u x : Nat) (m : Msg), Fresh s 0x0D m → m.xf = 9#4 → m.akind = 0 → m.addr = 0#52 → ctxTenant s m.context.toNat = some u →
    (armedBy s none < 32768 → armedBy s (some u) < rf s (Reg.XLT_TN_LIMITS u) 30 15 → freeWatchNo s = some x →
      Completes (.watchArm k m) s (fun t =>
        (∃ e, tget t.sig.watches x = some e ∧ e.time = true ∧ e.action = 1 ∧ e.tenant = u ∧ e.target = m.arg.toNat
          ∧ e.dest = leAt m.data 0 8 ∧ e.tag = leAt m.data 16 4 ∧ e.seq = leAt m.data 20 4
          ∧ e.coord = bits (leAt m.data 24 4) 16 0 ∧ e.byArm = true)
        ∧ (∀ y, y ≠ x → tget t.sig.watches y = tget s.sig.watches y)
        ∧ Answered t m (Resp.plain 0x4C sCOMPLETE 0 0 x) ∧ Recorded s t m (Resp.plain 0x4C sCOMPLETE 0 0 x) ∧ SameRegs s t []))
    ∧ (rf s (Reg.XLT_TN_LIMITS u) 30 15 ≤ armedBy s (some u) → Completes (.watchArm k m) s (fun t =>
        Answered t m (Resp.plain 0x4C sBUSY_RETRY 0 0 (retryAfter s)) ∧ t.sig = s.sig
        ∧ rg t (Reg.XLT_TN_ADMIT u) = min (rg s (Reg.XLT_TN_ADMIT u) + 1) 0xFFFFFFFF ∧ SameRegs s t [Reg.XLT_TN_ADMIT u] ∧ t.mem = s.mem)))
  ∧ (∀ (s : State) (k u x : Nat) (m : Msg), Fresh s 0x0E m → ctxTenant s m.context.toNat = some u → x = bits m.arg.toNat 15 0 →
    (∀ e, tget s.sig.watches x = some e → e.byArm = true → e.tenant = u → e.tag = bits m.arg.toNat 63 32 →
      Completes (.watchDisarm k m) s (fun t =>
        tget t.sig.watches x = none ∧ (∀ y, y ≠ x → tget t.sig.watches y = tget s.sig.watches y)
        ∧ Answered t m (Resp.plain 0x4C sCOMPLETE 0 0 x) ∧ SameRegs s t []))
    ∧ (tget s.sig.watches x = none → Completes (.watchDisarm k m) s (fun t =>
        Answered t m (Resp.plain 0x4C sCOMPLETE 0 (if s.sig.fired.contains (u, x, bits m.arg.toNat 63 32) then 1 else 2) x)
        ∧ SameRegs s t [] ∧ SamePool s t)))
  ∧ (∀ (s : State) (x : Nat) (e : WatchEnt), tget s.sig.watches x = some e → e.time = true → e.action = 1 →
    (inHold s = false → Completes (.timeWatchFire x) s (fun t =>
      e.target ≤ now t ∧ tget t.sig.watches x = none ∧ (∀ y, y ≠ x → tget t.sig.watches y = tget s.sig.watches y)
      ∧ (∃ o, tget t.fab.own (s.fab.nextReqid % 2 ^ 24) = some o ∧ o.use = .notify ∧ o.msg.opcode = 0x10
          ∧ o.msg.dst = BitVec.ofNat 17 e.coord ∧ o.msg.arg = BitVec.ofNat 64 e.dest ∧ leAt o.msg.data 8 4 = e.tag % 2 ^ 32)
      ∧ rg t Reg.SIG_FIRED = min (rg s Reg.SIG_FIRED + 1) 0xFFFFFFFF ∧ SameRegs s t [Reg.SIG_FIRED]))
    ∧ (inHold s = true → Completes (.timeWatchFire x) s (fun t =>
      e.target ≤ now t ∧ t.sig = s.sig ∧ SameRegs s t [] ∧ t.mem = s.mem ∧ t.fab = s.fab)))
  ∧ (∀ (s : State) (x line v : Nat) (e : WatchEnt), s.sig.notices = [{ line := line, value := some (e.ppa, v) }] →
      s.sig.watches = [(x, e)] → e.time = false → e.persist = false → e.action = 1 → e.ppa / 128 = line →
      (extRec s (extOf (line * 128))).coherent = false →
    (e.target ≤ v → Completes (.watchNotice line) s (fun t =>
      t.sig.watches = [] ∧ t.sig.notices = [] ∧ rg t Reg.SIG_FIRED = min (rg s Reg.SIG_FIRED + 1) 0xFFFFFFFF
      ∧ (∃ o, tget t.fab.own (s.fab.nextReqid % 2 ^ 24) = some o ∧ o.use = .notify ∧ o.msg.dst = BitVec.ofNat 17 e.coord
          ∧ leAt o.msg.data 0 8 = v % 2 ^ 64)
      ∧ SameRegs s t [Reg.SIG_FIRED, Reg.SIG_NOTICES_LO, Reg.SIG_NOTICES_LO + 4]))
    ∧ (v < e.target → Completes (.watchNotice line) s (fun t =>
      t.sig.watches = s.sig.watches ∧ t.sig.notices = [] ∧ t.fab = s.fab ∧ t.mem = s.mem
      ∧ SameRegs s t [Reg.SIG_NOTICES_LO, Reg.SIG_NOTICES_LO + 4])))
  ∧ (∀ (s : State) (slot : Nat) (tag : Word32) (u f n : Word64), MayRun s slot 0x0344 tag → u.toNat < 256 → f.toNat < 65536 → n.toNat < 64 →
      tenantExists s u.toNat = true →
    Completes (.watchQuery slot tag u f n) s (fun t =>
      (∀ es, es = (s.sig.watches.filter (fun e => e.2.tenant == u.toNat && decide (f.toNat ≤ e.1))).take n.toNat →
        Replied t slot 0x0344 tag stOK (leBytes 8 es.length ++ es.flatMap (fun e => e.2.toBytes true)))
      ∧ SameRegs s t [] ∧ SamePool s t ∧ SameRest s t))

/-- Lintels (R304 to R308, R313, R567): an arrival of the current generation is counted, and the last one releases it: the next generation
is the current one, with the arrivals that it already has; an early arrival of the next is kept; one from another sender,
too far ahead or stale is answered FAULTED. Create, destroy, query and break act on the object that they name.
Where the spec is silent the model's choice stands: assumptions 102, 103, 168. -/
def Obligations.LintelsReleaseAndBreak : Prop :=
  (∀ (s : State) (k b : Nat) (m : Msg) (l : Lintel), Fresh s 0x0F m → b = bits m.arg.toNat 11 0 → lintel s b = some l → bit l.mode 0 = false →
      bits m.arg.toNat 21 12 < l.participants → rankCoord s 0 l.job (bits m.arg.toNat 21 12) = some m.src.toNat →
    (bits m.arg.toNat 63 32 = l.cur → l.countCur + 1 < l.participants → Completes (.arrive k m) s (fun t =>
      lintel t b = some { l with countCur := l.countCur + 1 } ∧ (∀ y, y ≠ b → lintel t y = lintel s y)
      ∧ Answered t m (Resp.plain 0x4D sCOMPLETE 0 0 l.cur) ∧ SameRegs s t [] ∧ t.mem = s.mem))
    ∧ (bits m.arg.toNat 63 32 = l.cur → l.countCur + 1 = l.participants → l.countNext < l.participants → Completes (.arrive k m) s (fun t =>
      lintel t b = some { l with cur := (l.cur + 1) % 2 ^ 32, countCur := l.countNext, countNext := 0 }
      ∧ (∀ y, y ≠ b → lintel t y = lintel s y) ∧ Answered t m (Resp.plain 0x4D sCOMPLETE 0 0 ((l.cur + 1) % 2 ^ 32))))
    ∧ (l.cur < 2 ^ 32 → bits m.arg.toNat 63 32 = (l.cur + 1) % 2 ^ 32 → Completes (.arrive k m) s (fun t =>
      lintel t b = some { l with countNext := l.countNext + 1 } ∧ (∀ y, y ≠ b → lintel t y = lintel s y)
      ∧ Answered t m (Resp.plain 0x4D sCOMPLETE 0 1 l.cur) ∧ SameRegs s t [] ∧ t.mem = s.mem))
    ∧ (l.cur < 2 ^ 32 → bits m.arg.toNat 63 32 = (l.cur + 2 ^ 32 - 1) % 2 ^ 32 → Completes (.arrive k m) s (fun t =>
      Answered t m (Resp.plain 0x4D sFAULTED 0 3 l.cur) ∧ t.sig = s.sig
      ∧ rg t Reg.LNT_STALE = min (rg s Reg.LNT_STALE + 1) 0xFFFFFFFF ∧ SameRegs s t [Reg.LNT_STALE] ∧ t.mem = s.mem)))
  ∧ (∀ (s : State) (k : Nat) (m : Msg), Fresh s 0x0F m → lintel s (bits m.arg.toNat 11 0) = none → Completes (.arrive k m) s (fun t =>
      Answered t m (Resp.plain 0x4D sFAULTED 0 5 0) ∧ SameRegs s t [] ∧ SamePool s t))
  ∧ (∀ (s : State) (slot : Nat) (tag : Word32) (b c r a g : Word64), MayRun s slot 0x0340 tag → Alone s → b.toNat < 4096 →
      onlyBits c 0xFFFFFFF = true → 1 ≤ bits c.toNat 16 6 → bits c.toNat 16 6 ≤ 1024 → bits c.toNat 26 25 = 2 →
      onlyBits r 0xFFFFFFFFFFFF = true → r.toNat % 8 = 0 → g.toNat < 2 ^ 32 → tenantExists s (bits c.toNat 24 17) = true →
      bit (rg s (Reg.FPT_RJOB 0 (bits c.toNat 5 0))) 31 = true →
      bits c.toNat 16 6 ≤ bits (rg s (Reg.FPT_RJOB 0 (bits c.toNat 5 0))) 22 12 →
    (lintel s b.toNat = none → Completes (.lintelCreate slot tag b c r a g) s (fun t =>
      lintel t b.toNat = some { job := bits c.toNat 5 0, participants := bits c.toNat 16 6, tenant := bits c.toNat 24 17, mode := 2
                                twinned := bit c.toNat 27, relSignal := r.toNat, relAddr := a.toNat, tag := g.toNat, cur := 0
                                countCur := 0, countNext := 0, broken := 0 }
      ∧ (∀ y, y ≠ b.toNat → lintel t y = lintel s y) ∧ Replied t slot 0x0340 tag stOK [] ∧ SameRegs s t [] ∧ t.mem = s.mem))
    ∧ (lintel s b.toNat ≠ none → Completes (.lintelCreate slot tag b c r a g) s (fun t =>
      Replied t slot 0x0340 tag stCONFLICT [] ∧ SameRegs s t [] ∧ SamePool s t)))
  ∧ (∀ (s : State) (slot : Nat) (tag : Word32) (b : Word64) (l : Lintel), b.toNat < 4096 → lintel s b.toNat = some l → bit l.mode 0 = false →
    (MayRun s slot 0x0341 tag → Alone s → l.countCur = 0 → Completes (.lintelDestroy slot tag b) s (fun t =>
      lintel t b.toNat = none ∧ (∀ y, y ≠ b.toNat → lintel t y = lintel s y) ∧ Replied t slot 0x0341 tag stOK [] ∧ SameRegs s t []
      ∧ t.mem = s.mem))
    ∧ (MayRun s slot 0x0342 tag → Completes (.lintelQuery slot tag b) s (fun t =>
      Replied t slot 0x0342 tag stOK ([l.cfg, l.cur, l.count, l.broken, l.relSignal, l.relAddr, l.tag].flatMap (leBytes 8))
      ∧ SameRegs s t [] ∧ SamePool s t ∧ SameRest s t))
    ∧ (MayRun s slot 0x0343 tag → Alone s → l.countNext < l.participants → Completes (.lintelBreak slot tag b) s (fun t =>
      lintel t b.toNat = some { l with cur := (l.cur + 1) % 2 ^ 32, countCur := l.countNext, countNext := 0, broken := l.cur }
      ∧ (∀ y, y ≠ b.toNat → lintel t y = lintel s y) ∧ Replied t slot 0x0343 tag stOK [])))

/-- Pool memory (R123, R151, R159): in stacks that hold no error a read returns what memory holds and changes nothing, and a write of bytes
within one extent changes those bytes alone. -/
def Obligations.CleanStacksLoadAndStore : Prop :=
  ∀ (s : State) (a : Nat), Clean s →
    (∀ n, 0 < n → load s a n = (memRead s.mem a n, false, s))
    ∧ (∀ b : List Byte, PlainExtent s a → a % 2 ^ 30 + b.length ≤ 2 ^ 30 →
        (store s a b).1 = false ∧ (store s a b).2.mem = memWrite s.mem a b ∧ (store s a b).2.regs = s.regs
        ∧ (store s a b).2.dram = s.dram ∧ (store s a b).2.xlt = s.xlt
        ∧ (∀ x, x < a ∨ a + b.length ≤ x → memByte (store s a b).2.mem x = memByte s.mem x))

/-- Channel schedulers (R116, R118, R121, R123, R124, R126 to R133, R141, R153): a write is applied at its entry and queued, a read is queued with what
it finds; in a cycle the scheduler opens the row that the one queued read needs, or reads the row that is open; in TRACKING it
sends nothing; READ_DECODE returns the oldest read in flight; the timers and counters of the banks and of the queue act on the bank or
queue that they name.
Where the spec is silent the model's choice stands: assumptions 59, 60, 61, 175. -/
def Obligations.ChannelsQueueAndServe : Prop :=
  ∀ (s : State) (n c st : Nat) (k : Chan), chanRuns s n c = true → k = chan s n c → st = c / 32 →
    (∀ i a b, accFits n c i a b.length = true → Clean s → PlainExtent s a → queueRoom k.wq i = true → capOpen s = true → guardShut s n i = false → k.held = [] →
        (∀ w, w ∈ k.wq → w.granule ≠ a / 256) →
      Completes (.channelWriteEntry n c i a b) s (fun t =>
        t.mem = memWrite s.mem a b ∧ (∀ x, x < a ∨ a + b.length ≤ x → memByte t.mem x = memByte s.mem x)
        ∧ (∃ w, (chan t n c).wq = k.wq ++ [w] ∧ w.ppa = a ∧ w.data = b ∧ w.input = i ∧ w.entered = max (k.cycle + 1) (now s))
        ∧ (chan t n c).rq = k.rq ∧ SameRegs s t [] ∧ t.xlt = s.xlt))
    ∧ (∀ i a len, accFits n c i a len = true → Clean s → queueRoom k.rq i = true → capOpen s = true → guardShut s n i = false → k.held = [] →
        (∀ w, w ∈ k.wq → w.granule ≠ a / 256) →
      Completes (.channelReadEntry n c i a len) s (fun t =>
        (∃ r, (chan t n c).rq = k.rq ++ [r] ∧ r.ppa = a ∧ r.data = memRead s.mem a len ∧ r.poison = false ∧ r.input = i)
        ∧ (chan t n c).wq = k.wq ∧ SameRegs s t [] ∧ t.mem = s.mem))
    ∧ (∀ a, k.rq = [a] → k.wq = [] → k.held = [] → k.cmds = [] → k.again = none → k.copying = none → a.input ≠ 7 → a.write = false → k.st = 1 →
      (k.banks = [] → Completes (.channelSchedule n c) s (fun t =>
        (bankOf t n c (accBank a)).row = some (accRow k a) ∧ (chan t n c).rq = [a] ∧ (chan t n c).flight = k.flight
        ∧ SameRegs s t [] ∧ t.mem = s.mem))
      ∧ (∀ b, k.banks = [(accBank a, b)] → b.row = some (accRow k a) → b.due < 8 → Completes (.channelSchedule n c) s (fun t =>
        (chan t n c).rq = [] ∧ (∃ a', (chan t n c).flight = k.flight ++ [a'] ∧ a'.ppa = a.ppa ∧ a'.data = a.data) ∧ SameRegs s t []
        ∧ t.mem = s.mem)))
    ∧ (k.st = 2 → Completes (.channelSchedule n c) s (fun t =>
        (chan t n c).cmds = k.cmds ∧ (chan t n c).rq = k.rq ∧ (chan t n c).wq = k.wq ∧ SameRegs s t [] ∧ t.mem = s.mem))
    ∧ (∀ a rest, k.flight = a :: rest → Clean s → unchanged s a = true → bit (rg s (Reg.STK_INJ_CTL n st)) 15 = false → 0 < a.len →
      Completes (.readDecode n c) s (fun t =>
        (chan t n c).flight = rest ∧ (∃ a', (chan t n c).done = a' :: k.done ∧ a'.ppa = a.ppa ∧ a'.data = memRead s.mem a.ppa a.len
          ∧ a'.poison = false)
        ∧ SameRegs s t [Reg.STK_LATECNT n st a.input] ∧ t.mem = s.mem))
    ∧ (∀ b, b < 64 →
      Completes (.refreshDue n c b) s (fun t =>
        bankOf t n c b = { bankOf s n c b with due := (bankOf s n c b).due + 1 } ∧ (∀ b', b' ≠ b → bankOf t n c b' = bankOf s n c b')
        ∧ SameRegs s t [] ∧ t.mem = s.mem)
      ∧ (bit (rg s (Reg.STK_CTL n st)) 1 = true → rf s (Reg.STK_CTL n st) 9 2 ≤ (bankOf s n c b).acts →
        Completes (.rfmThreshold n c b) s (fun t =>
          bankOf t n c b = { bankOf s n c b with rfm := true, acts := (bankOf s n c b).acts - rf s (Reg.STK_CTL n st) 9 2 }
          ∧ (∀ b', b' ≠ b → bankOf t n c b' = bankOf s n c b') ∧ SameRegs s t [] ∧ t.mem = s.mem))
      ∧ (∀ r, (bankOf s n c b).row = some r → (bankOf s n c b).due < 8 → k.rq = [] → k.wq = [] → k.cmds = [] →
        Completes (.bankIdleExpire n c b) s (fun t =>
          (bankOf t n c b).row = none ∧ (∃ y, (bankOf t n c b).closed = some (r, y) ∧ (bankOf s n c b).last + (bankOf s n c b).idle ≤ y)
          ∧ (∀ b', b' ≠ b → bankOf t n c b' = bankOf s n c b') ∧ SameRegs s t [] ∧ t.mem = s.mem)))
    ∧ (∀ a g, k.rq = [a] → k.wq = [] → g = latTarget s n st a.input → 2 ≤ g →
      (k.cycle < a.entered + (g + 1) / 2 → Completes (.urgencyRise n c) s (fun t =>
        (chan t n c).cycle = a.entered + (g + 1) / 2 ∧ (chan t n c).rq = [{ a with urg := 1 }] ∧ SameRegs s t [] ∧ t.mem = s.mem))
      ∧ (a.entered + (g + 1) / 2 ≤ k.cycle → k.cycle < a.entered + g → Completes (.urgencyRise n c) s (fun t =>
        (chan t n c).cycle = a.entered + g ∧ (chan t n c).rq = [{ a with urg := 2 }] ∧ SameRegs s t [] ∧ t.mem = s.mem)))
    ∧ Completes (.commandAddressParityError n c) s (fun t =>
        chan t n c = { k with again := k.cmds.head? } ∧ (∀ d, d ≠ c → chan t n d = chan s n d) ∧ SameRegs s t [] ∧ t.mem = s.mem)

/-- Channels in training (R116, R132, R136, R138 to R141, R143, R145): hot mode follows the thresholds of STK_TEMP; a trigger puts a channel into TRACKING,
of which a pass returns it to service and the third failure sends it to RETRAINING; full training starts a rebuild or
fails the channel, and the rebuild ends in service; a spared row is copied and remapped; start-up training fails the
channels that it names.
Where the spec is silent the model's choice stands: assumptions 64, 65. -/
def Obligations.ChannelsTrainTrackAndSpare : Prop :=
  (∀ (s : State) (x v : Nat), x < 24 → Completes (.stackTempRead x v) s (fun t =>
      rf t (Reg.STK_TEMP (x / 4) (x % 4)) 7 0 = min v 255
      ∧ (rf s (Reg.STK_TEMP (x / 4) (x % 4)) 15 8 ≤ v → rf t (Reg.STK_CTL (x / 4) (x % 4)) 0 0 = 1)
      ∧ (v < rf s (Reg.STK_TEMP (x / 4) (x % 4)) 15 8 → v ≤ rf s (Reg.STK_TEMP (x / 4) (x % 4)) 23 16 →
          rf t (Reg.STK_CTL (x / 4) (x % 4)) 0 0 = 0)
      ∧ (v < rf s (Reg.STK_TEMP (x / 4) (x % 4)) 15 8 → rf s (Reg.STK_TEMP (x / 4) (x % 4)) 23 16 < v →
          rg t (Reg.STK_CTL (x / 4) (x % 4)) = rg s (Reg.STK_CTL (x / 4) (x % 4)))
      ∧ SameRegs s t [Reg.STK_TEMP (x / 4) (x % 4), Reg.STK_CTL (x / 4) (x % 4)] ∧ SamePool s t))
  ∧ (∀ (s : State) (n c : Nat) (k : Chan), chanRuns s n c = true → k = chan s n c →
    (k.st = 1 → stackTracks s n c = false → Completes (.trackingTrigger n c) s (fun t =>
        (chan t n c).st = 2 ∧ (chan t n c).fails = 0 ∧ (∀ d, d ≠ c → chan t n d = chan s n d) ∧ t.xlt = s.xlt))
    ∧ (k.st = 4 → Completes (.trackingTrigger n c) s (fun t =>
        (chan t n c).st = 4 ∧ (chan t n c).trackHeld = true ∧ (∀ d, d ≠ c → chan t n d = chan s n d) ∧ t.xlt = s.xlt))
    ∧ (k.st = 2 →
        Completes (.trackingDone n c true) s (fun t =>
          (chan t n c).st = 1 ∧ (chan t n c).tracks = min (k.tracks + 1) 65535 ∧ (chan t n c).trackedAt = now s
          ∧ (∀ d, d ≠ c → chan t n d = chan s n d) ∧ SameRegs s t [] ∧ t.mem = s.mem)
        ∧ (k.fails < 2 → Completes (.trackingDone n c false) s (fun t =>
          chan t n c = { k with fails := k.fails + 1 } ∧ SameRegs s t [] ∧ t.mem = s.mem))
        ∧ (k.fails = 2 → Completes (.trackingDone n c false) s (fun t =>
          (chan t n c).st = 3 ∧ (chan t n c).rq = [] ∧ (chan t n c).wq = [] ∧ (chan t n c).rebuild = k.rebuild ++ (k.rq ++ k.flight)
          ∧ SameRegs s t [] ∧ t.mem = s.mem)))
    ∧ (k.st = 3 →
        Completes (.fullTrainingDone n c true) s (fun t => (chan t n c).st = 4 ∧ SameRegs s t [] ∧ t.mem = s.mem)
        ∧ Completes (.fullTrainingDone n c false) s (fun t => (chan t n c).st = 5 ∧ t.xlt = s.xlt))
    ∧ (k.st = 4 → s.dram.sealErr = [] →
        (k.trackHeld = false → Completes (.rebuildDone n c) s (fun t =>
          (chan t n c).st = 1 ∧ (chan t n c).trackHeld = false ∧ SameRegs s t [] ∧ t.mem = s.mem))
        ∧ (k.trackHeld = true → stackTracks s n c = false → Completes (.rebuildDone n c) s (fun t =>
          (chan t n c).st = 2 ∧ (chan t n c).trackHeld = false ∧ SameRegs s t [] ∧ t.mem = s.mem)))
    ∧ (∀ b r, b < 64 → r < 32640 →
        ((bankOf s n c b).spares < 128 → Completes (.rowSpare n c b r) s (fun t =>
          chan t n c = { k with copying := some (b, r) } ∧ SameRegs s t [] ∧ t.mem = s.mem))
        ∧ (128 ≤ (bankOf s n c b).spares → Completes (.rowSpare n c b r) s (fun t => chan t n c = k ∧ t.xlt = s.xlt))
        ∧ (k.copying = some (b, r) → Clean s → Completes (.rowCopyDone n c b r) s (fun t =>
          (chan t n c).copying = none ∧ tget (chan t n c).remap (b * 32768 + r) = some (32640 + (bankOf s n c b).spares)
          ∧ (bankOf t n c b).spares = (bankOf s n c b).spares + 1 ∧ t.xlt = s.xlt))))
  ∧ (∀ (s : State), s.dram.trained = false → rf s Reg.PLN_BOOT 3 0 = 1 →
      Completes (.stackTrainingDone []) s (fun t => t.dram = { s.dram with trained := true } ∧ SameRegs s t [] ∧ t.mem = s.mem)
      ∧ (∀ x, x < 768 → Completes (.stackTrainingDone [x]) s (fun t =>
        t.dram.trained = true ∧ (chan t (x / 128) (x % 128)).st = 5 ∧ t.xlt = s.xlt)))
  ∧ (∀ (s : State) (n : Nat), n < 6 → (sealDie s n).selfRefresh = true → s.mbx.deferred.any (fun d => d.wait == .poolResume) = true →
      Completes (.selfRefreshExitDone n) s (fun t =>
        (sealDie t n).selfRefresh = false ∧ (∀ e, e ∈ (sealDie s n).unmasked → e ∈ t.dram.undef)
        ∧ (∀ j, j ≠ n → sealDie t j = sealDie s j) ∧ SameRegs s t [] ∧ t.mem = s.mem))

/-- Seals and the scrubber (R24, R25, R160, R162, R163, R165, R173 to R177): a delta makes its line dirty, or waits while its channel has CH_DIRTY_MAX
dirty lines; a page hold is granted when the page has no delta left; FLUSH_AGE writes a line back; a rebuild answers every read
that waits for the page; the scrubber visits page by page, and repairs a seal that disagrees with clean data; a transfer
whose 16 replays have failed, and a link that cannot train, are fatal.
Where the spec is silent the model's choice stands: assumptions 68, 71. -/
def Obligations.SealsScrubbingAndParity : Prop :=
  (∀ (s : State) (n : Nat) (x : Delta) (rest : List Delta), chanDown s n (sealChan x.page) = false → tget (sealDie s n).lines x.page = none →
    ((sealDie s n).deltas = x :: rest → dirtyOn (sealDie s n) (sealChan x.page) < rf s (Reg.SEA_CTL n) 22 16 →
        ((sealDie s n).lines.filter (fun e => sealSet e.1 == sealSet x.page)).length < 16 →
      Completes (.sealDelta n) s (fun t =>
        (sealDie t n).deltas = rest ∧ (∃ l, tget (sealDie t n).lines x.page = some l ∧ l.dirty = some (now s))
        ∧ (∀ p, p ≠ x.page → tget (sealDie t n).lines p = tget (sealDie s n).lines p) ∧ SameRegs s t [] ∧ t.mem = s.mem))
    ∧ ((sealDie s n).deltas = x :: rest → rf s (Reg.SEA_CTL n) 22 16 ≤ dirtyOn (sealDie s n) (sealChan x.page) →
      Completes (.sealDelta n) s (fun t =>
        (sealDie t n).deltas = rest ∧ (sealDie t n).waiting = (sealDie s n).waiting ++ [x] ∧ (chan t n x.channel).stalled = true
        ∧ (sealDie t n).lines = (sealDie s n).lines ∧ SameRegs s t [] ∧ t.mem = s.mem))
    ∧ ((sealDie s n).waiting = [x] → dirtyOn (sealDie s n) (sealChan x.page) < rf s (Reg.SEA_CTL n) 22 16 →
        ((sealDie s n).lines.filter (fun e => sealSet e.1 == sealSet x.page)).length < 16 →
      Completes (.sealDeltaResume n) s (fun t =>
        (sealDie t n).waiting = [] ∧ (∃ l, tget (sealDie t n).lines x.page = some l ∧ l.dirty = some (now s))
        ∧ (chan t n x.channel).stalled = false ∧ SameRegs s t [] ∧ t.mem = s.mem)))
  ∧ (∀ (s : State) (n p : Nat) (h : Hold), (sealDie s n).holds = [h] → h.page = p → h.granted = false → (sealDie s n).deltas = [] →
      (sealDie s n).waiting = [] →
    Completes (.pageHoldGrant n p) s (fun t => (sealDie t n).holds = [{ h with granted := true }] ∧ SameRegs s t [] ∧ t.mem = s.mem))
  ∧ (∀ (s : State) (n p since : Nat) (l : SealLine), tget (sealDie s n).lines p = some l → l.dirty = some since → Clean s →
    Completes (.sealLineAge n p) s (fun t =>
      since + rf s (Reg.SEA_CTL n) 15 0 * 1000 ≤ now t ∧ tget (sealDie t n).lines p = some { l with dirty := none }
      ∧ (∀ q, q ≠ p → tget (sealDie t n).lines q = tget (sealDie s n).lines q) ∧ SameRegs s t [] ∧ t.mem = s.mem))
  ∧ (∀ (s : State) (n p : Nat), heldFor s n p 0 = true → Clean s →
    Completes (.sealRebuildDone n p) s (fun t =>
      (∀ q a, q < 16 → a ∈ (chan t n (chanOfGranule p q)).rebuild → pageOf a.ppa ≠ p)
      ∧ (∀ h, h ∈ (sealDie t n).holds → h.page = p → h.granted = false) ∧ t.mem = s.mem))
  ∧ (∀ (s : State) (n p : Nat), n < 6 → rf s (Reg.PNT_CTL n) 0 0 = 1 → (sealDie s n).selfRefresh = false → s.dram.trained = true →
      (∀ h, h ∈ (sealDie s n).holds → h.who ≠ 1) → nextScrub s n (sealDie s n).pos = some p →
    Completes (.scrubVisit n) s (fun t =>
      (sealDie t n).pos = p ∧ (sealDie t n).holds = (sealDie s n).holds ++ [{ page := n * 480 * 2 ^ 18 + p, granted := false, who := 1 }]
      ∧ SameRegs s t [Reg.PNT_POS n] ∧ t.mem = s.mem))
  ∧ (∀ (s : State) (n page : Nat), page = n * 480 * 2 ^ 18 + (sealDie s n).pos → n < 6 → (sealDie s n).pos + 1 < 480 * 2 ^ 18 →
      heldFor s n page 1 = true → Clean s → s.dram.sealMarks = [] →
    (s.dram.sealErr = [] → Completes (.scrubPageChecked n) s (fun t =>
      (sealDie t n).pos = (sealDie s n).pos + 1 ∧ heldPage t n page = false ∧ t.mem = s.mem ∧ SameRegs s t [Reg.PNT_POS n]))
    ∧ (∀ i v, s.dram.sealErr = [(page * 128 + i, v)] → i < 128 → Completes (.scrubPageChecked n) s (fun t =>
      (sealDie t n).pos = (sealDie s n).pos + 1 ∧ t.dram.sealErr = []
      ∧ rg t (Reg.PNT_FOUND n) = min (rg s (Reg.PNT_FOUND n) + 1) 0xFFFFFFFF
      ∧ rg t (Reg.SEA_MISMATCH n) = min (rg s (Reg.SEA_MISMATCH n) + 1) 0xFFFFFFFF)))
  ∧ (∀ (s : State) (n hop cnt : Nat) (c : Instr), n < 6 → inSafe s = false →
      (hop = 0 ∧ c = .d2dParityError n) ∨ (hop = 1 ∧ c = .ondieParityError n) →
      cnt = tgetD (sealDie s n).replays hop 0 → now s ≤ tgetD (sealDie s n).replays (2 + hop) 0 + 1000 →
    (cnt < 16 → Completes c s (fun t =>
      tgetD (sealDie t n).replays hop 0 = cnt + 1 ∧ (sealDie t n).linkLost = (sealDie s n).linkLost ∧ inSafe t = false
      ∧ t.xlt = s.xlt ∧ t.sched = s.sched))
    ∧ (16 ≤ cnt → Completes c s (fun t => inSafe t = true ∧ t.bus.held = true ∧ (hop = 0 → (sealDie t n).linkLost = true))))
  ∧ (∀ (s : State) (n : Nat), n < 6 → inSafe s = false → Completes (.d2dTrainingLoss n) s (fun t =>
      inSafe t = true ∧ t.bus.held = true ∧ (sealDie t n).linkLost = true ∧ t.xlt = s.xlt ∧ t.sched = s.sched))

/-- Armed injection (R179, R180, R182, R183, R455): a write of STK_INJ_CTL whose mask has weight 1 or 2 sets its fields, keeps an armed
PAR, and clears DONE when MODE becomes 1 or 2; another mask changes nothing. PAR and ARM are set by a 1. INJECT puts its words
into the same registers.
Where the spec is silent the model's choice stands: assumption 69. -/
def Obligations.InjectionIsArmedByWrites : Prop :=
  (∀ (s : State) (n st : Nat) (v : Word32), n < 6 → st < 4 →
    ((popcount 8 (bits v.toNat 7 0) = 1 ∨ popcount 8 (bits v.toNat 7 0) = 2) →
      Completes (.stkInjCtlWrite n st v) s (fun t =>
        (∀ i, i < 30 → i ≠ 15 → (rg t (Reg.STK_INJ_CTL n st)).testBit i = v.toNat.testBit i)
        ∧ bit (rg t (Reg.STK_INJ_CTL n st)) 15 = (bit v.toNat 15 || bit (rg s (Reg.STK_INJ_CTL n st)) 15)
        ∧ bit (rg t (Reg.STK_INJ_CTL n st)) 31
            = (bit (rg s (Reg.STK_INJ_CTL n st)) 31 && !(bits v.toNat 14 13 == 1 || bits v.toNat 14 13 == 2))
        ∧ SameRegs s t [Reg.STK_INJ_CTL n st] ∧ SamePool s t ∧ SameRest s t)
      ∧ Completes (.stkInjPar n st v) s (fun t =>
        bit (rg t (Reg.STK_INJ_CTL n st)) 15 = true
        ∧ (∀ i, i < 30 → i ≠ 15 → (rg t (Reg.STK_INJ_CTL n st)).testBit i = v.toNat.testBit i)
        ∧ SameRegs s t [Reg.STK_INJ_CTL n st] ∧ SamePool s t ∧ SameRest s t))
    ∧ (popcount 8 (bits v.toNat 7 0) ≠ 1 → popcount 8 (bits v.toNat 7 0) ≠ 2 →
      Completes (.stkInjCtlWrite n st v) s (fun t => t = s)))
  ∧ (∀ (s : State) (n : Nat) (v : Word32), n < 6 →
    Completes (.seaInjArm n v) s (fun t =>
      bit (rg t (Reg.SEA_INJ_CTL n)) 15 = true ∧ rf t (Reg.SEA_INJ_CTL n) 14 0 = bits v.toNat 14 0
      ∧ SameRegs s t [Reg.SEA_INJ_CTL n] ∧ SamePool s t ∧ SameRest s t))
  ∧ (∀ (s : State) (slot : Nat) (tag : Word32) (n st w0 w1 : Word64), MayRun s slot 0x0802 tag → n.toNat < 6 →
    (st.toNat < 4 → onlyBits w0 0xBFFFFFFF = true → onlyBits w1 0xFFFFFF = true → popcount 8 (bits w0.toNat 7 0) = 1 →
      Completes (.inject slot tag n st w0 w1) s (fun t =>
        (∀ i, i < 30 → i ≠ 15 → (rg t (Reg.STK_INJ_CTL n.toNat st.toNat)).testBit i = w0.toNat.testBit i)
        ∧ rg t (Reg.STK_INJ_SLOT n.toNat st.toNat) = w1.toNat ∧ Replied t slot 0x0802 tag stOK []
        ∧ SameRegs s t [Reg.STK_INJ_CTL n.toNat st.toNat, Reg.STK_INJ_SLOT n.toNat st.toNat] ∧ SamePool s t))
    ∧ (st.toNat = 4 → onlyBits w0 0xFFFF = true → onlyBits w1 0x7FFFFFF = true →
      Completes (.inject slot tag n st w0 w1) s (fun t =>
        rf t (Reg.SEA_INJ_CTL n.toNat) 14 0 = bits w0.toNat 14 0 ∧ rg t (Reg.SEA_INJ_PAGE n.toNat) = w1.toNat
        ∧ Replied t slot 0x0802 tag stOK [] ∧ SameRegs s t [Reg.SEA_INJ_CTL n.toNat, Reg.SEA_INJ_PAGE n.toNat] ∧ SamePool s t)))

/-- Diagnostics on the pool (R168, R181, R455, R481): POISON_WRITE makes exactly the line of a READY extent read as poisoned; MEMTEST defers, and at its
end the scratch extent of the die holds the pattern on the selected channels, and the rest of the pool what it held;
RECOVERY_READ returns the lines and their masks, and a first read takes the die out of self-refresh.
Where the spec is silent the model's choice stands: assumption 70. -/
def Obligations.DiagnosticsTouchWhatTheyName : Prop :=
  (∀ (s : State) (slot : Nat) (tag : Word32) (a : Word64), MayRun s slot 0x0803 tag → Clean s → PlainExtent s a.toNat →
      extOf a.toNat < 2880 → reservedExt (extOf a.toNat) = false →
    ((extRec s (extOf a.toNat)).st = exREADY → Completes (.poisonWrite slot tag a) s (fun t =>
      (∀ l, linePoisoned t l = true ↔ l = a.toNat / 128)
      ∧ memRead t.mem (a.toNat / 128 * 128) 128 = (List.range 16).flatMap (fun _ => leBytes 8 poisonWord)
      ∧ (∀ x, x / 128 ≠ a.toNat / 128 → memByte t.mem x = memByte s.mem x)
      ∧ Replied t slot 0x0803 tag stOK [] ∧ SameRegs s t [] ∧ t.xlt = s.xlt ∧ t.sched = s.sched))
    ∧ ((extRec s (extOf a.toNat)).st ≠ exREADY → Completes (.poisonWrite slot tag a) s (fun t =>
      Replied t slot 0x0803 tag stINVALID [] ∧ SameRegs s t [] ∧ SamePool s t)))
  ∧ (∀ (s : State) (slot : Nat) (tag : Word32) (n c0 c1 p : Word64), MayRun s slot 0x0801 tag → DeferRoom s → n.toNat < 6 →
    Completes (.memtest slot tag n c0 c1 p) s (fun t =>
      t.mbx.deferred = s.mbx.deferred
        ++ [{ slot := slot, opcode := 0x0801, tag := tag, wait := .memtest n.toNat (c0.toNat + 2 ^ 64 * c1.toNat) p.toNat }]
      ∧ Replied t slot 0x0801 tag stDEFERRED [] ∧ SameRegs s t [] ∧ SamePool s t))
  ∧ (∀ (s : State) (slot : Nat) (tag : Word32) (n chans p : Nat) (mis : List Word64),
      s.mbx.deferred = [{ slot := slot, opcode := 0x0801, tag := tag, wait := .memtest n chans p }] → s.twin.replies = [] →
      session s slot ≠ none → n < 6 → Clean s → PlainExtent s (resPpa n 7 0) →
    Completes (.memtestDone mis) s (fun t =>
      (∀ x, extOf x = 480 * n + 7 → bit chans (chanOf x) = true → memByte t.mem x = BitVec.ofNat 8 (p / 256 ^ (x % 8)))
      ∧ (∀ x, extOf x ≠ 480 * n + 7 ∨ bit chans (chanOf x) = false → memByte t.mem x = memByte s.mem x)
      ∧ Replied t slot 0x0801 tag stOK (leBytes 8 mis.length ++ wordsBytes mis) ∧ SameRegs s t [] ∧ t.mbx.deferred = []
      ∧ t.xlt = s.xlt ∧ t.sched = s.sched))
  ∧ (∀ (s : State) (slot : Nat) (tag : Word32) (a n : Word64), MayRun s slot 0x0805 tag → inSafe s = true → Clean s →
      128 ≤ n.toNat → n.toNat ≤ 3968 → n.toNat % 128 = 0 → a.toNat % 128 = 0 → extOf a.toNat < 2880 →
      extOf (a.toNat + n.toNat - 1) = extOf a.toNat → (extRec s (extOf a.toNat)).st ≠ exFREE →
      (extRec s (extOf a.toNat)).st ≠ exZEROING → (sealDie s (dieOf a.toNat)).linkLost = false →
    ((sealDie s (dieOf a.toNat)).selfRefresh = false → Completes (.recoveryRead slot tag a n) s (fun t =>
      Replied t slot 0x0805 tag stOK (leBytes 8 0 ++ leBytes 8 0 ++ memRead s.mem a.toNat n.toNat) ∧ SameRegs s t [] ∧ SamePool s t))
    ∧ ((sealDie s (dieOf a.toNat)).selfRefresh = true → Completes (.recoveryRead slot tag a n) s (fun t =>
      (sealDie t (dieOf a.toNat)).selfRefresh = false ∧ (∃ b, b.length = 16 + n.toNat ∧ Replied t slot 0x0805 tag stOK b)
      ∧ SameRegs s t [] ∧ t.mem = s.mem ∧ t.xlt = s.xlt ∧ t.sched = s.sched)))

/-- Reads and writes by PPA (R41, R198, R217, R345, R348, R356): READ and RD_ONCE answer the bytes that memory holds and change none; WRITE writes
LENGTH bytes, WR_LINE a line, WRITE_MASK and WR_PART the bytes of their masks, and no other byte; a write is answered
COMPLETE with the number of bytes written, and its record is kept.
Where the spec is silent the model's choice stands: assumptions 53, 168. -/
def Obligations.ReadsAndWritesReachThePool : Prop :=
  ∀ (s : State) (k : Nat) (m : Msg),
    (∀ a len, a = m.addr.toNat → len = bits m.arg.toNat 8 0 → PpaReq s k m a len → (extRec s (extOf a)).coherent = false →
      (Fresh s 0x11 m → Completes (.read k m) s (fun t =>
        Answered t m { opcode := 0x54, status := sCOMPLETE, cause := 0, xf := 0, arg := 0, poison := false, line := none
                       data := memRead s.mem a len }
        ∧ SameRegs s t chargeRegs ∧ t.mem = s.mem ∧ t.xlt = s.xlt ∧ t.dirc = s.dirc ∧ t.sched = s.sched))
      ∧ (Fresh s 0x12 m → m.poison = false → Completes (.write k m) s (fun t =>
        t.mem = memWrite s.mem a (slice m.data 0 len) ∧ (∀ x, x < a ∨ a + len ≤ x → memByte t.mem x = memByte s.mem x)
        ∧ Answered t m (Resp.plain 0x46 sCOMPLETE 0 0 len) ∧ Recorded s t m (Resp.plain 0x46 sCOMPLETE 0 0 len)
        ∧ SameRegs s t chargeRegs ∧ t.xlt = s.xlt ∧ t.dirc = s.dirc ∧ t.sched = s.sched)))
    ∧ (∀ a, a = m.addr.toNat / 256 * 256 → PpaReq s k m a 256 → (extRec s (extOf a)).coherent = false → Fresh s 0x13 m → m.poison = false →
      Completes (.writeMask k m) s (fun t =>
        (∀ i, i < 256 → memByte t.mem (a + i)
          = if bit (leAt m.data (i / 8) 1) (i % 8) then (slice m.data 32 256).getD i 0#8 else memByte s.mem (a + i))
        ∧ (∀ x, x < a ∨ a + 256 ≤ x → memByte t.mem x = memByte s.mem x)
        ∧ (∃ n, Answered t m (Resp.plain 0x46 sCOMPLETE 0 0 n)) ∧ SameRegs s t chargeRegs ∧ t.xlt = s.xlt ∧ t.dirc = s.dirc))
    ∧ (∀ a, a = m.addr.toNat / 128 * 128 → PpaReq s k m a 128 → (extRec s (extOf a)).coherent = false →
      (Fresh s 0x05 m → Completes (.rdOnce k m) s (fun t =>
        Answered t m { opcode := 0x43, status := sCOMPLETE, cause := 0, xf := 0, arg := now s, poison := false, line := some a
                       data := memRead s.mem a 128 }
        ∧ SameRegs s t chargeRegs ∧ t.mem = s.mem ∧ t.xlt = s.xlt ∧ t.dirc = s.dirc ∧ t.sched = s.sched))
      ∧ (Fresh s 0x06 m → m.poison = false → bit m.arg.toNat 17 = false → Completes (.wrLine k m) s (fun t =>
        t.mem = memWrite s.mem a (slice m.data 0 128) ∧ (∀ x, x < a ∨ a + 128 ≤ x → memByte t.mem x = memByte s.mem x)
        ∧ Answered t m (Resp.plain 0x46 sCOMPLETE 0 0 128) ∧ Recorded s t m (Resp.plain 0x46 sCOMPLETE 0 0 128)
        ∧ SameRegs s t chargeRegs ∧ t.xlt = s.xlt ∧ t.dirc = s.dirc ∧ t.sched = s.sched))
      ∧ (Fresh s 0x07 m → m.poison = false → Completes (.wrPart k m) s (fun t =>
        (∀ i, i < 128 → memByte t.mem (a + i)
          = if bit (leAt m.data (128 + i / 8) 1) (i % 8) then (slice m.data 0 128).getD i 0#8 else memByte s.mem (a + i))
        ∧ (∀ x, x < a ∨ a + 128 ≤ x → memByte t.mem x = memByte s.mem x)
        ∧ (∃ n, Answered t m (Resp.plain 0x46 sCOMPLETE 0 0 n)) ∧ SameRegs s t chargeRegs ∧ t.xlt = s.xlt ∧ t.dirc = s.dirc)))

/-- Atomic operations at the home (R217, R218, R291, R294, R346): ATOMIC writes the result of its operation and answers the word before it; PUBLISH writes
only where the word is ARG, and else answers the word that it found; SIGNAL adds ARG and answers the sum. Each changes
its eight bytes and no other; an address that is not a multiple of 8 is answered FAULTED and changes nothing.
Where the spec is silent the model's choice stands: assumption 168. -/
def Obligations.AtomicsActAtTheHome : Prop :=
  ∀ (s : State) (k : Nat) (m : Msg) (a v : Nat), a = m.addr.toNat →
    (PpaReq s k m a 8 → (extRec s (extOf a)).coherent = false → a % 8 = 0 → v = leNat (memRead s.mem a 8) →
      (∀ r, atomicResult m.xf.toNat v (leAt m.data 0 8) (leAt m.data 8 8) = some r → Fresh s 0x08 m →
        Completes (.atomic k m) s (fun t =>
          t.mem = memWrite s.mem a (leBytes 8 r) ∧ (∀ x, x < a ∨ a + 8 ≤ x → memByte t.mem x = memByte s.mem x)
          ∧ Answered t m (Resp.plain 0x47 sCOMPLETE 0 0 v) ∧ Recorded s t m (Resp.plain 0x47 sCOMPLETE 0 0 v)
          ∧ SameRegs s t chargeRegs ∧ t.xlt = s.xlt ∧ t.dirc = s.dirc))
      ∧ (Fresh s 0x09 m → v = m.arg.toNat → Completes (.publish k m) s (fun t =>
          t.mem = memWrite s.mem a (leBytes 8 (leAt m.data 0 8)) ∧ Answered t m (Resp.plain 0x48 sCOMPLETE 0 0 (leAt m.data 0 8))
          ∧ (∀ x, x < a ∨ a + 8 ≤ x → memByte t.mem x = memByte s.mem x)
          ∧ SameRegs s t chargeRegs ∧ t.xlt = s.xlt ∧ t.dirc = s.dirc))
      ∧ (Fresh s 0x09 m → v ≠ m.arg.toNat → Completes (.publish k m) s (fun t =>
          t.mem = s.mem ∧ Answered t m (Resp.plain 0x48 sCOMPLETE 0 1 v)
          ∧ rg t Reg.DIR_PUBCONF = min (rg s Reg.DIR_PUBCONF + 1) 0xFFFFFFFF ∧ SameRegs s t (Reg.DIR_PUBCONF :: chargeRegs)
          ∧ t.xlt = s.xlt ∧ t.dirc = s.dirc))
      ∧ (Fresh s 0x0C m → m.arg ≠ 0#64 → Completes (.signal k m) s (fun t =>
          t.mem = memWrite s.mem a (leBytes 8 ((v + m.arg.toNat) % 2 ^ 64))
          ∧ Answered t m (Resp.plain 0x4B sCOMPLETE 0 0 ((v + m.arg.toNat) % 2 ^ 64))
          ∧ (∀ x, x < a ∨ a + 8 ≤ x → memByte t.mem x = memByte s.mem x)
          ∧ SameRegs s t chargeRegs ∧ t.xlt = s.xlt ∧ t.dirc = s.dirc)))
    ∧ (a % 8 ≠ 0 →
      (Fresh s 0x08 m → Completes (.atomic k m) s (fun t =>
        Answered t m (Resp.faulted 0x47 cALIGNMENT) ∧ SameRegs s t [] ∧ SamePool s t))
      ∧ (Fresh s 0x0C m → Completes (.signal k m) s (fun t =>
        Answered t m (Resp.faulted 0x4B cALIGNMENT) ∧ SameRegs s t [] ∧ SamePool s t)))

/-- Coherent requests (R193, R198, R213, R214): on a line without holder RD_SHARED grants S, or X where DIR_CTL says so, RD_OWN and OWN_FULL
grant X, and the entry names the requester; a further sharer is added; UPGRADE makes a sharer the owner; EVICT_CLEAN takes
the sender out of the entry. A request for a line that another endpoint owns recalls it and waits. On a line that is not
coherent they are answered FAULTED with cause 0x19.
Where the spec is silent the model's choice stands: assumptions 54, 73, 80, 168, 172. -/
def Obligations.CoherentRequestsGrantOrRecall : Prop :=
  ∀ (s : State) (k line ep : Nat) (m : Msg), line = m.addr.toNat / 128 → PpaReq s k m (line * 128) 128 →
    ((extRec s (extOf (line * 128))).coherent = true → DirIdle s → epOf s m.src.toNat = some ep → epState s ep = 1 →
      wantsWay s line 1 = false →
      (dirEnt s line = none →
        (Fresh s 0x01 m → Completes (.rdShared k m) s (fun t =>
          (∃ e, dirEnt t line = some e ∧ e.ptrs = [ep] ∧ e.st = if rf s Reg.DIR_CTL 8 8 = 1 then 3 else 1)
          ∧ (∀ l, l ≠ line → dirEnt t l = dirEnt s l) ∧ t.mem = s.mem ∧ SameRegs s t chargeRegs
          ∧ (∃ r, Answered t m r ∧ r.status = sCOMPLETE ∧ r.data = memRead s.mem (line * 128) 128
            ∧ r.opcode = if rf s Reg.DIR_CTL 8 8 = 1 then 0x42 else 0x41)))
        ∧ (Fresh s 0x02 m → Completes (.rdOwn k m) s (fun t =>
          (∃ e, dirEnt t line = some e ∧ e.ptrs = [ep] ∧ e.st = 3) ∧ (∀ l, l ≠ line → dirEnt t l = dirEnt s l) ∧ t.mem = s.mem
          ∧ SameRegs s t chargeRegs
          ∧ (∃ r, Answered t m r ∧ r.opcode = 0x42 ∧ r.status = sCOMPLETE ∧ r.data = memRead s.mem (line * 128) 128)))
        ∧ (Fresh s 0x04 m → Completes (.ownFull k m) s (fun t =>
          (∃ e, dirEnt t line = some e ∧ e.ptrs = [ep] ∧ e.st = 3) ∧ (∀ l, l ≠ line → dirEnt t l = dirEnt s l) ∧ t.mem = s.mem
          ∧ SameRegs s t chargeRegs ∧ (∃ r, Answered t m r ∧ r.opcode = 0x45 ∧ r.status = sCOMPLETE))))
      ∧ (∀ e, dirEnt s line = some e → e.st = 1 →
        (Fresh s 0x01 m → ep ∉ e.ptrs → e.ptrs.length < 4 → (∀ x, x ∈ e.ptrs → epState s x = 1) →
          Completes (.rdShared k m) s (fun t =>
            dirEnt t line = some { e with ptrs := e.ptrs ++ [ep] } ∧ (∀ l, l ≠ line → dirEnt t l = dirEnt s l)
            ∧ (∃ r, Answered t m r ∧ r.opcode = 0x41 ∧ r.data = memRead s.mem (line * 128) 128) ∧ t.mem = s.mem))
        ∧ (Fresh s 0x03 m → e.ptrs = [ep] → Completes (.upgrade k m) s (fun t =>
            dirEnt t line = some { e with st := 3, coarse := 0 } ∧ (∀ l, l ≠ line → dirEnt t l = dirEnt s l)
            ∧ (∃ r, Answered t m r ∧ r.opcode = 0x44 ∧ r.status = sCOMPLETE) ∧ t.mem = s.mem))
        ∧ (Fresh s 0x0A m → e.ptrs = [ep] → Completes (.evictClean k m) s (fun t =>
            dirEnt t line = none ∧ (∀ l, l ≠ line → dirEnt t l = dirEnt s l)
            ∧ Answered t m (Resp.plain 0x49 sCOMPLETE 0 0 0) ∧ t.mem = s.mem)))
      ∧ (∀ e y, dirEnt s line = some e → e.st = 3 → e.ptrs = [y] → y ≠ ep → epState s y = 1 → Fresh s 0x02 m →
        Completes (.rdOwn k m) s (fun t =>
          (∃ u r, t.dirc.txns = [u] ∧ u.active = true ∧ u.line = line ∧ u.recalls = [r] ∧ r.ep = y ∧ r.belief = 1)
          ∧ dirEnt t line = some e ∧ tget t.fab.inProgress (reqKey m) ≠ none ∧ t.mem = s.mem)))
    ∧ ((extRec s (extOf (line * 128))).coherent = false → Fresh s 0x01 m → Completes (.rdShared k m) s (fun t =>
        Answered t m (Resp.faulted 0x41 cNOT_COHERENT) ∧ SameRegs s t [] ∧ SamePool s t))

/-- The answers of hosts (R195, R197, R200, R205, R206, R208, R565): an RCL_ACK that a host no longer holds the line ends the recall; the data of RCL_DATA
and of an owner's WBACK is written to the line, and no one holds it any more; a write-back of a line that is not coherent is
turned away; PUSH_ACK records the consumer, or leaves the line uncached; a waiting transaction and a held request go on
in their turn.
Where the spec is silent the model's choice stands: assumptions 74, 77, 168. -/
def Obligations.HostsAnswerRecalls : Prop :=
  (∀ (s : State) (k x : Nat) (m : Msg) (t0 : Txn) (r : Recall) (e : DirEntry), s.fab.coord.isNone = false → inSafe s = false →
      s.dirc.txns = [t0] → t0.active = true → t0.who = .agent true → t0.served = false → t0.victim = none → t0.recalls = [r] →
      r.line = t0.line → r.ep = x → r.id = m.reqid.toNat → epCoord s x = m.src.toNat → epOf s m.src.toNat = some x → epState s x = 1 →
      dirEnt s t0.line = some e → e.ptrs = [x] → e.st ≠ 2 →
    (m.xf.toNat = 0 → Completes (.rclAck k m) s (fun t =>
      t.dirc.txns = [] ∧ dirEnt t t0.line = none ∧ (∀ l, l ≠ t0.line → dirEnt t l = dirEnt s l) ∧ t.mem = s.mem ∧ SameRegs s t []))
    ∧ (m.poison = false → Clean s → (extRec s (extOf (t0.line * 128))).mirrored = false →
        tget s.xlt.migrations (extOf (t0.line * 128)) = none → Completes (.rclData k m) s (fun t =>
      t.dirc.txns = [] ∧ dirEnt t t0.line = none ∧ t.mem = memWrite s.mem (t0.line * 128) (slice m.data 0 128)
      ∧ (∀ y, y / 128 ≠ t0.line → memByte t.mem y = memByte s.mem y) ∧ SameRegs s t [])))
  ∧ (∀ (s : State) (k line x : Nat) (m : Msg), s.fab.coord.isNone = false → inSafe s = false → line = m.addr.toNat / 128 →
      PpaReq s k m (line * 128) 128 → epOf s m.src.toNat = some x → epState s x = 1 → tget s.fab.inProgress (reqKey m) = none →
    (∀ e, (extRec s (extOf (line * 128))).coherent = true → dirEnt s line = some e → e.st = 3 → e.ptrs = [x] → DirIdle s →
        m.poison = false →
      Completes (.wback k m) s (fun t =>
        dirEnt t line = none ∧ t.mem = memWrite s.mem (line * 128) (slice m.data 0 128)
        ∧ (∀ y, y / 128 ≠ line → memByte t.mem y = memByte s.mem y)
        ∧ Answered t m (Resp.plain 0x4A sCOMPLETE 0 0 0) ∧ SameRegs s t []))
    ∧ ((extRec s (extOf (line * 128))).coherent = false → Completes (.wback k m) s (fun t =>
        Answered t m (Resp.faulted 0x4A cNOT_COHERENT)
        ∧ rg t Reg.DIR_LATE_DISCARD = min (rg s Reg.DIR_LATE_DISCARD + 1) 0xFFFFFFFF ∧ SameRegs s t [Reg.DIR_LATE_DISCARD]
        ∧ SamePool s t)))
  ∧ (∀ (s : State) (k x : Nat) (m : Msg) (t0 : Txn), s.fab.coord.isNone = false → inSafe s = false → s.dirc.txns = [t0] →
      t0.push = some x → t0.pushId = m.reqid.toNat → epCoord s x = m.src.toNat → epState s x = 1 → dirEnt s t0.line = none →
      wantsWay s t0.line 1 = false →
    Completes (.pushAck k m) s (fun t =>
      t.dirc.txns = [] ∧ (bit m.xf.toNat 0 = true → ∃ e, dirEnt t t0.line = some e ∧ e.st = 1 ∧ e.ptrs = [x])
      ∧ (bit m.xf.toNat 0 = false → dirEnt t t0.line = none) ∧ (∀ l, l ≠ t0.line → dirEnt t l = dirEnt s l)
      ∧ t.mem = s.mem ∧ SameRegs s t [])
    ∧ Completes (.pushAckTimeout t0.line) s (fun t =>
      t.dirc.txns = [] ∧ t0.pushAt + recallTo s ≤ now t ∧ t.dirc.entries = s.dirc.entries ∧ t.mem = s.mem ∧ SameRegs s t []))
  ∧ (∀ (s : State) (t0 : Txn), s.dirc.txns = [t0] → t0.active = false → t0.who = .agent true → dirEnt s t0.line = none →
    Completes (.transactionActivate t0.line) s (fun t =>
      t.dirc.txns = [] ∧ t.dirc.entries = s.dirc.entries ∧ t.mem = s.mem ∧ SameRegs s t []))
  ∧ (∀ (s : State) (line t0 : Nat) (w : Bool), s.dirc.txns = [] → s.dirc.heldReq = [(t0, .agent w, line)] →
    Completes (.reqInputResume (dirSlice line)) s (fun t =>
      t.dirc.heldReq = [] ∧ t.dirc.entries = s.dirc.entries
      ∧ rg t Reg.DIR_REQHOLD = min (rg s Reg.DIR_REQHOLD + (now s - t0) * 8 / 5) 0xFFFFFFFF ∧ SameRegs s t [Reg.DIR_REQHOLD]
      ∧ t.mem = s.mem))

/-- Endpoints (R209 to R212, R215, R220): a recall that is not answered in RECALL_TO makes its endpoint FAILED and poisons a line that it owned;
ENDPOINT_FAIL does so by command and defers until the sweep ends; ENDPOINT_READMIT makes it ACTIVE again, but not while
its sweep runs; ENDPOINT_RETIRE recalls the lines that it holds, and frees its index when it holds none.
Where the spec is silent the model's choice stands: assumptions 76, 78, 79. -/
def Obligations.EndpointsFailAndRetire : Prop :=
  (∀ (s : State) (x : Nat) (t0 : Txn) (r : Recall) (e : DirEntry), s.dirc.txns = [t0] → t0.active = true → t0.who = .agent true →
      t0.served = false → t0.victim = none → t0.recalls = [r] → r.line = t0.line → r.ep = x → r.belief = 1 → r.data = false →
      epOf s (epCoord s x) = some x → epState s x = 1 → dirEnt s t0.line = some e → e.ptrs = [x] → e.st = 3 → s.dirc.sweep = none →
      (∀ d, d ∈ s.mbx.deferred → d.wait ≠ .endpointRetire x) → Clean s → tget s.xlt.migrations (extOf (t0.line * 128)) = none →
      (extRec s (extOf (t0.line * 128))).mirrored = false →
    Completes (.recallTimeout t0.line (epCoord s x)) s (fun t =>
      r.sent + recallTo s ≤ now t ∧ epState t x = 2 ∧ dirEnt t t0.line = none ∧ linePoisoned t t0.line = true ∧ t.dirc.txns = []
      ∧ (∃ c l p, t.dirc.sweep = some (x, c, l, p))
      ∧ rg t Reg.DIR_RCLTO = min (rg s Reg.DIR_RCLTO + 1) 0xFFFFFFFF
      ∧ (∀ y, y / 128 ≠ t0.line → memByte t.mem y = memByte s.mem y)))
  ∧ (∀ (s : State) (x c l p slot : Nat) (tag : Word32), s.dirc.sweep = some (x, c, l, p) → s.dirc.entries = [] →
      s.mbx.deferred = [{ slot := slot, opcode := 0x0430, tag := tag, wait := .endpointFail x }] → session s slot ≠ none →
      s.twin.replies = [] →
    Completes (.endpointSweepEnd x) s (fun t =>
      t.dirc.sweep = s.dirc.sweepNext.head? ∧ s.dirc.sweepAt + 163840 ≤ now t ∧ Replied t slot 0x0430 tag stOK (leBytes 8 l ++ leBytes 8 p)
      ∧ t.mbx.deferred = [] ∧ t.dirc.eps = s.dirc.eps ∧ t.xlt = s.xlt))
  ∧ (∀ (s : State) (slot x : Nat) (tag : Word32) (c : Word64), c.toNat < 2 ^ 17 → epOf s c.toNat = some x →
    (epState s x = 1 → MayRun s slot 0x0430 tag → Alone s → DeferRoom s → DirIdle s → s.dirc.sweep = none →
        (∀ d, d ∈ s.mbx.deferred → d.wait ≠ .endpointRetire x) →
      Completes (.endpointFail slot tag c) s (fun t =>
        epState t x = 2 ∧ (∀ y, y ≠ x → epState t y = epState s y) ∧ t.dirc.sweep = some (x, 1, 0, 0)
        ∧ Replied t slot 0x0430 tag stDEFERRED [] ∧ SameRegs s t [] ∧ t.mem = s.mem))
    ∧ (epState s x = 2 → MayRun s slot 0x0431 tag → Alone s → s.dirc.sweepNext = [] →
      (s.dirc.sweep = none → Completes (.endpointReadmit slot tag c) s (fun t =>
        epState t x = 1 ∧ (∀ y, y ≠ x → epState t y = epState s y) ∧ Replied t slot 0x0431 tag stOK [] ∧ SameRegs s t [] ∧ t.mem = s.mem))
      ∧ (∀ w, s.dirc.sweep = some (x, w) → Completes (.endpointReadmit slot tag c) s (fun t =>
        Replied t slot 0x0431 tag stBUSY [] ∧ t.dirc = s.dirc ∧ t.mem = s.mem ∧ SameRegs s t [Reg.MBX_BUSY])))
    ∧ (epState s x = 1 → MayRun s slot 0x0432 tag → Alone s → DeferRoom s → DirIdle s →
      (heldBy s x = [] → Completes (.endpointRetire slot tag c) s (fun t =>
        x ∈ t.dirc.retiring ∧ t.dirc.txns = [] ∧ Replied t slot 0x0432 tag stDEFERRED [] ∧ t.dirc.entries = s.dirc.entries
        ∧ SameRegs s t [] ∧ t.mem = s.mem))
      ∧ (∀ l e, heldBy s x = [l] → dirEnt s l = some e → e.ptrs = [x] → e.st ≠ 2 → Completes (.endpointRetire slot tag c) s (fun t =>
        x ∈ t.dirc.retiring ∧ (∃ u r, t.dirc.txns = [u] ∧ u.line = l ∧ u.who = .retire x ∧ u.recalls = [r] ∧ r.ep = x)
        ∧ Replied t slot 0x0432 tag stDEFERRED [] ∧ t.mem = s.mem))))
  ∧ (∀ (s : State) (x slot : Nat) (tag : Word32), s.dirc.retiring.contains x = true → heldBy s x = [] → session s slot ≠ none →
      s.twin.replies = [] → s.mbx.deferred = [{ slot := slot, opcode := 0x0432, tag := tag, wait := .endpointRetire x }] →
    Completes (.endpointRetireDone x) s (fun t =>
      tget t.dirc.eps x = none ∧ (∀ y, y ≠ x → tget t.dirc.eps y = tget s.dirc.eps y) ∧ x ∉ t.dirc.retiring
      ∧ Replied t slot 0x0432 tag stOK [] ∧ t.mbx.deferred = [] ∧ t.mem = s.mem ∧ SameRegs s t []))

/-- Fabric commands (R70 to R76, R334, R335, R359, R361, R363, R448): COORD_SET succeeds once; PORT_SET sets a port, starts its drain or enables it;
PORT_RETRAIN starts a retrain or a width change of a port that is UP; the tables and the request settings hold what the
command gives; RANK_TABLE_SET leaves every port with the new table, and returns CONFLICT where another job's entries would be
overwritten; PORT_QUERY answers and changes nothing.
Where the spec is silent the model's choice stands: assumption 112. -/
def Obligations.FabricIsSetByCommand : Prop :=
  (∀ (s : State) (slot : Nat) (tag : Word32) (d v : Word64), MayRun s slot 0x0401 tag → Alone s → d.toNat ≤ 63 → v.toNat ≤ 63 →
    (s.fab.coord = none → Completes (.coordSet slot tag d v) s (fun t =>
      t.fab = { s.fab with coord := some (d.toNat, v.toNat) } ∧ Replied t slot 0x0401 tag stOK [] ∧ SameRegs s t [] ∧ SamePool s t))
    ∧ (s.fab.coord ≠ none → Completes (.coordSet slot tag d v) s (fun t =>
      t.fab = s.fab ∧ Replied t slot 0x0401 tag stCONFLICT [] ∧ SameRegs s t [] ∧ SamePool s t)))
  ∧ (∀ (s : State) (slot k : Nat) (tag : Word32) (p a c m : Word64), MayRun s slot 0x0402 tag → Alone s → DeferRoom s →
      portSetOk p a c m = true → k = p.toNat →
    (a = 0#64 → Completes (.portSet slot tag p a c m) s (fun t =>
      rg t (Reg.FPT_CTL k) = c.toNat ∧ rg t (Reg.FPT_TIMERS k) = m.toNat ∧ SameRegs s t [Reg.FPT_CTL k, Reg.FPT_TIMERS k]
      ∧ t.fab = s.fab ∧ Replied t slot 0x0402 tag stOK [] ∧ SamePool s t))
    ∧ (a = 1#64 → (port s k).draining = false → (port s k).st ≠ .disabled → Completes (.portSet slot tag p a c m) s (fun t =>
      port t k = { port s k with draining := true } ∧ (∀ j, j ≠ k → port t j = port s j) ∧ Replied t slot 0x0402 tag stDEFERRED []
      ∧ t.mbx.deferred = s.mbx.deferred ++ [{ slot := slot, opcode := 0x0402, tag := tag, wait := .portDisable k }]
      ∧ SameRegs s t [] ∧ SamePool s t))
    ∧ (a = 2#64 → (port s k).draining = false → (port s k).st = .disabled → Completes (.portSet slot tag p a c m) s (fun t =>
      port t k = { port s k with st := .down } ∧ (∀ j, j ≠ k → port t j = port s j) ∧ Replied t slot 0x0402 tag stOK []
      ∧ SameRegs s t [] ∧ SamePool s t)))
  ∧ (∀ (s : State) (k slot : Nat) (tag : Word32), (port s k).draining = true → session s slot ≠ none → s.twin.replies = [] →
      s.mbx.deferred = [{ slot := slot, opcode := 0x0402, tag := tag, wait := .portDisable k }] →
    Completes (.portDrainDone k) s (fun t =>
      (port t k).st = .disabled ∧ (port t k).draining = false ∧ (port t k).retry = [] ∧ (port t k).rx = (port s k).rx
      ∧ (∀ j, j ≠ k → port t j = port s j) ∧ t.mbx.deferred = [] ∧ Replied t slot 0x0402 tag stOK [] ∧ SameRegs s t [] ∧ SamePool s t))
  ∧ (∀ (s : State) (slot : Nat) (tag : Word32) (p : Word64), MayRun s slot 0x0403 tag → p.toNat ≤ 31 →
    Completes (.portQuery slot tag p) s (fun t =>
      Replied t slot 0x0403 tag stOK (leBytes 8 (fptStat s p.toNat) ++ leBytes 8 (fptLink s p.toNat) ++ slice (port s p.toNat).ident 4 32
        ++ (portCounters s p.toNat).flatMap (leBytes 8)) ∧ t.fab = s.fab ∧ SameRegs s t [] ∧ SamePool s t))
  ∧ (∀ (s : State) (slot : Nat) (tag : Word32) (p w : Word64), MayRun s slot 0x0405 tag → Alone s → DeferRoom s → p.toNat ≤ 31 →
    (w = 0#64 → (port s p.toNat).st = .up → Completes (.portRetrain slot tag p w) s (fun t =>
      (port t p.toNat).st = .retrain ∧ (port t p.toNat).oper = some { retrain := true, width := 4 }
      ∧ (port t p.toNat).operDue = now s + rf s (Reg.FPT_TIMERS p.toNat) 25 18 * 1000 ∧ (∀ j, j ≠ p.toNat → port t j = port s j)
      ∧ SameRegs s t [Reg.FPT_RETRAINS p.toNat] ∧ Replied t slot 0x0405 tag stDEFERRED [] ∧ SamePool s t))
    ∧ ((w, widthMin s p.toNat) ∈ [(16#64, 0), (16#64, 1), (16#64, 2), (16#64, 3), (12#64, 1), (12#64, 2), (12#64, 3), (8#64, 2), (8#64, 3), (4#64, 3)] →
        (port s p.toNat).st = .up → Completes (.portRetrain slot tag p w) s (fun t =>
      (port t p.toNat).st = .width ∧ (∃ o, (port t p.toNat).oper = some o ∧ o.retrain = false ∧ widthOf o.width = w.toNat)
      ∧ (∀ j, j ≠ p.toNat → port t j = port s j) ∧ SameRegs s t [Reg.FPT_WIDTHCHG p.toNat]
      ∧ Replied t slot 0x0405 tag stDEFERRED [] ∧ SamePool s t))
    ∧ (w ∈ [0#64, 16#64, 12#64, 8#64, 4#64] → (port s p.toNat).st ≠ .up → Completes (.portRetrain slot tag p w) s (fun t =>
      t.fab = s.fab ∧ Replied t slot 0x0405 tag stCONFLICT [] ∧ SameRegs s t [] ∧ SamePool s t)))
  ∧ (∀ (s : State) (slot : Nat) (tag : Word32) (l : List Word64), MayRun s slot 0x0404 tag → Alone s →
      (∀ w, w ∈ l → onlyBits w 0xFFFFFFFF0000007F = true) → (∀ w w', w ∈ l → w' ∈ l → bits w.toNat 6 0 = bits w'.toNat 6 0 → w = w') →
    Completes (.routeSet slot tag l) s (fun t =>
      (∀ w, w ∈ l → rg t (if bit w.toNat 0 then Reg.FPT_RTDEV (bits w.toNat 6 1) else Reg.FPT_RTDOM (bits w.toNat 6 1)) = bits w.toNat 63 32)
      ∧ SameRegs s t (l.map (fun w => if bit w.toNat 0 then Reg.FPT_RTDEV (bits w.toNat 6 1) else Reg.FPT_RTDOM (bits w.toNat 6 1)))
      ∧ t.fab = s.fab ∧ Replied t slot 0x0404 tag stOK [] ∧ SamePool s t))
  ∧ (∀ (s : State) (slot : Nat) (tag : Word32) (h q r w : Word64), MayRun s slot 0x0406 tag → Alone s → h.toNat ≤ 15 → 10 ≤ q.toNat →
      q.toNat ≤ 10000 → r.toNat ≤ 7 → 20 ≤ w.toNat → w.toNat ≤ 65535 →
    (r.toNat * q.toNat + 50 ≤ w.toNat → Completes (.fabricSet slot tag h q r w) s (fun t =>
      rf t Reg.FPT_GCTL 3 0 = h.toNat ∧ rf t Reg.FPT_REQ 13 0 = q.toNat ∧ rf t Reg.FPT_REQ 16 14 = r.toNat
      ∧ rf t Reg.FPT_REPLAY 15 0 = w.toNat ∧ SameRegs s t [Reg.FPT_GCTL, Reg.FPT_REQ, Reg.FPT_REPLAY] ∧ Replied t slot 0x0406 tag stOK []
      ∧ SamePool s t))
    ∧ (w.toNat < r.toNat * q.toNat + 50 → Completes (.fabricSet slot tag h q r w) s (fun t =>
      Replied t slot 0x0406 tag stINVALID [] ∧ SameRegs s t [] ∧ SamePool s t)))
  ∧ (∀ (s : State) (slot : Nat) (tag : Word32) (j b : Word64) (l : List Word64), MayRun s slot 0x0410 tag → Alone s → j.toNat ≤ 63 →
      l ≠ [] → l.length ≤ 1024 → b.toNat + l.length ≤ 4096 → (∀ w, w ∈ l → onlyBits w 0x1FFFF = true) →
    ((∀ i, i < 64 → i ≠ j.toNat → bit (rg s (Reg.FPT_RJOB 0 i)) 31 = false) → Completes (.rankTableSet slot tag j b l) s (fun t =>
      (∀ k x w, k < 32 → l[x]? = some w → rankCoord t k j.toNat x = some w.toNat)
      ∧ (∀ k x, k < 32 → l.length ≤ x → rankCoord t k j.toNat x = none)
      ∧ (∀ k i, k < 32 → i < 64 → i ≠ j.toNat → rg t (Reg.FPT_RJOB k i) = rg s (Reg.FPT_RJOB k i))
      ∧ Replied t slot 0x0410 tag stOK [] ∧ SamePool s t))
    ∧ ((∃ i, i < 64 ∧ i ≠ j.toNat ∧ bit (rg s (Reg.FPT_RJOB 0 i)) 31 = true
          ∧ rf s (Reg.FPT_RJOB 0 i) 24 24 = 1 - rf s (Reg.FPT_RJOB 0 j.toNat) 24 24 ∧ 0 < rf s (Reg.FPT_RJOB 0 i) 22 12
          ∧ b.toNat = rf s (Reg.FPT_RJOB 0 i) 11 0) →
        Completes (.rankTableSet slot tag j b l) s (fun t =>
          Replied t slot 0x0410 tag stCONFLICT [] ∧ SameRegs s t [] ∧ SamePool s t)))
  ∧ (∀ (s : State) (slot : Nat) (tag : Word32) (c e : Word64) (l : List Word64), MayRun s slot 0x0420 tag → Alone s →
      onlyBits c 0x00FF03FF = true → onlyBits e 0xFFFFFFFF = true → (∀ w, w ∈ l → onlyBits w 0x0FFFFFFF = true) →
      (∀ w w', w ∈ l → w' ∈ l → bits w.toNat 9 0 = bits w'.toNat 9 0 → w = w') →
    Completes (.legacySet slot tag c e l) s (fun t =>
      rg t Reg.XLT_LEGACY_CTL = c.toNat ∧ rg t Reg.XLT_LEGACY_PORTS = e.toNat
      ∧ (∀ w, w ∈ l → rg t (Reg.XLT_LEGNODE (bits w.toNat 9 0)) = bits w.toNat 26 10 + 2 ^ 31 * bits w.toNat 27 27)
      ∧ SameRegs s t ([Reg.XLT_LEGACY_CTL, Reg.XLT_LEGACY_PORTS] ++ l.map (fun w => Reg.XLT_LEGNODE (bits w.toNat 9 0)))
      ∧ Replied t slot 0x0420 tag stOK [] ∧ SamePool s t))

/-- Messages and answers (R297, R298, R345, R347 to R352, R354, R356): a message for another device leaves by its route with HOPS one less, or is
dropped and counted, and a request is then answered FAULTED; an unknown opcode is answered UNKNOWN_OP in REQ; a completion
record is removed when it expires; an answer ends the request of the module's own that it names; a request without an answer is
sent again until its retries are used, and then fails.
Where the spec is silent the model's choice stands: assumptions 107, 114, 168. -/
def Obligations.MessagesForwardAndAnswersArrive : Prop :=
  (∀ (s : State) (k : Nat) (m : Msg), s.fab.coord.isNone = false → isOwn s m.dst.toNat = false →
    (∀ j q, m.hops ≠ 0#4 → routePort s m = some j →
        q = { m with hops := m.hops - 1, lvl := m.lvl || rf s (Reg.FPT_CTL j) 4 4 == 1 } → Completes (.messageForward k m) s (fun t =>
      (port t j).txq = (port s j).txq ++ [(peerPool (port s j) q, q)] ∧ (∀ i, i ≠ j → (port t i).txq = (port s i).txq)
      ∧ (∀ c, (port s k).rx = [(c, m)] → (port t k).rx = [] ∧ tgetD (port t k).freed c 0 = tgetD (port s k).freed c 0 + msgSlots m)
      ∧ SameRegs s t [] ∧ SamePool s t))
    ∧ (∀ c, (m.hops = 0#4 ∧ c = cHOP_LIMIT) ∨ (m.hops ≠ 0#4 ∧ routePort s m = none ∧ c = cNO_ROUTE) →
      Completes (.messageForward k m) s (fun t =>
        rg t (Reg.FPT_HOPDROP k) = min (rg s (Reg.FPT_HOPDROP k) + 1) 0xFFFFFFFF ∧ SameRegs s t [Reg.FPT_HOPDROP k] ∧ SamePool s t
        ∧ (msgLane m = 0 → Answered t m (Resp.faulted (ackOpcode m.opcode.toNat) c))
        ∧ (msgLane m ≠ 0 → ∀ i, (port t i).txq = (port s i).txq))))
  ∧ (∀ (s : State) (k : Nat) (m : Msg), s.fab.coord.isNone = false → isOwn s m.dst.toNat = true → (definedOp m = false ∨ 18 < m.dslots.toNat) →
    Completes (.unknownOpMessage k m) s (fun t =>
      rg t (Reg.FPT_MALFORMED k) = min (rg s (Reg.FPT_MALFORMED k) + 1) 0xFFFFFFFF ∧ SameRegs s t [Reg.FPT_MALFORMED k] ∧ SamePool s t
      ∧ (msgLane m = 0 → Answered t m (Resp.faulted (ackOpcode m.opcode.toNat) cUNKNOWN_OP))
      ∧ (msgLane m ≠ 0 → ∀ i, (port t i).txq = (port s i).txq)))
  ∧ (∀ (s : State) (d v q key : Nat) (r : ComplRec), key = (d % 64 * 64 + v % 64) * 2 ^ 24 + q % 2 ^ 24 → tget s.fab.records key = some r →
    Completes (.completionRecordExpire d v q) s (fun t =>
      tget t.fab.records key = none ∧ (∀ y, y ≠ key → tget t.fab.records y = tget s.fab.records y) ∧ r.expires ≤ now t
      ∧ SameRegs s t [] ∧ SamePool s t))
  ∧ (∀ (s : State) (k id : Nat) (m : Msg) (o : OwnReq), s.fab.coord.isNone = false → inSafe s = false → id = m.reqid.toNat →
      tget s.fab.own id = some o →
    (o.use = .notify → m.dslots = 0#5 → Completes (.notifyAck k m) s (fun t =>
      tget t.fab.own id = none ∧ (∀ y, y ≠ id → tget t.fab.own y = tget s.fab.own y) ∧ SameRegs s t [] ∧ SamePool s t))
    ∧ (∀ sh tile, o.use = .write sh tile → m.dslots = 0#5 →
      (m.status.toNat ≠ sBUSY_RETRY → Completes (.wrAck k m) s (fun t =>
        tget t.fab.own id = none ∧ (∀ y, y ≠ id → tget t.fab.own y = tget s.fab.own y) ∧ SameRegs s t [] ∧ t.mem = s.mem ∧ t.xlt = s.xlt
        ∧ (∀ b l, s.sched.bulk = [b] → b.job.shadow = sh → b.job.flight = [l] → l.num = tile →
            ∃ b' l', t.sched.bulk = [b'] ∧ b'.job.flight = [l'] ∧ l'.left = l.left - 1
              ∧ l'.got = l.got + if m.status.toNat ≤ sPOISONED then bits m.arg.toNat 8 0 else 0)))
      ∧ (m.status.toNat = sBUSY_RETRY → Completes (.wrAck k m) s (fun t =>
        tget t.fab.own id = some { o with sent := m.arg.toNat - reqTo s } ∧ SameRegs s t [] ∧ SamePool s t)))
    ∧ (∀ sh key n, o.use = .read sh key → n = bits o.msg.arg.toNat 8 0 → m.status.toNat ≤ sPOISONED → m.dslots.toNat = (n + 15) / 16 →
      Completes (.readData k m) s (fun t =>
        tget t.fab.own id = none ∧ (∀ y, y ≠ id → tget t.fab.own y = tget s.fab.own y) ∧ SameRegs s t [] ∧ t.mem = s.mem ∧ t.xlt = s.xlt
        ∧ (∀ b, s.sched.bulk = [b] → b.job.shadow = sh →
            ∃ b', t.sched.bulk = [b']
              ∧ tget b'.job.landed key = some (m.poison || m.status.toNat == sPOISONED, slice m.data 0 n)))))
  ∧ (∀ (s : State) (id : Nat) (o : OwnReq), tget s.fab.own id = some o →
    (o.tries < rf s Reg.FPT_REQ 16 14 → Completes (.requestTimeout id) s (fun t =>
      (∃ o', tget t.fab.own id = some o' ∧ o'.tries = o.tries + 1 ∧ o'.sent = now t ∧ o'.use = o.use ∧ o'.msg.retry = true
        ∧ o'.msg.opcode = o.msg.opcode ∧ o'.msg.reqid = o.msg.reqid)
      ∧ (∀ y, y ≠ id → tget t.fab.own y = tget s.fab.own y) ∧ o.sent + reqTo s ≤ now t ∧ SameRegs s t [] ∧ SamePool s t))
    ∧ (rf s Reg.FPT_REQ 16 14 ≤ o.tries → o.use = .notify → Completes (.requestTimeout id) s (fun t =>
      tget t.fab.own id = none ∧ rg t Reg.SIG_NOTIFY_LOST = min (rg s Reg.SIG_NOTIFY_LOST + 1) 0xFFFFFFFF ∧ t.xlt = s.xlt
      ∧ t.sched = s.sched)))

/-- Flits are received (R322 to R325, R327, R330, R332, R335, R338, R339, R347): a port that does not listen ignores them; one with a bad CRC is counted, and
DATA is discarded until REPLAY_START; of a good one ACK and CRCNT are used; the next DATA flit in sequence is accepted and its messages are placed in
their pools; each CTRL flit has the effect that its subtype gives it.
Where the spec is silent the model's choice stands: assumption 108. -/
def Obligations.FlitsAreReceived : Prop :=
  (∀ (s : State) (k : Nat) (f : List Byte) (c : Instr),
      c ∈ [Instr.dataFlitReceive k f, .badCrcFlit k f, .idleFlitReceive k f, .fenceFlitReceive k f, .ts k f, .ident k f, .identReq k f,
        .creditInit k f, .replayStart k f, .retrainReq k f, .retrainAck k f, .widthReq k f, .widthAck k f, .rttProbe k f, .rttEcho k f,
        .timesync k f, .timesyncAnswer k f] →
    (listens s k = false → Gives c s s)
    ∧ (listens s k = true → crcGood f = false → Completes c s (fun t =>
      port t k = { port s k with discarding := true } ∧ SamePorts s t k
      ∧ rg t (Reg.FPT_CRCERR k) = min (rg s (Reg.FPT_CRCERR k) + 1) 0xFFFFFFFF ∧ SameRegs s t [Reg.FPT_CRCERR k] ∧ SamePool s t)))
  ∧ (∀ (s : State) (k n pool : Nat) (f : List Byte) (p : Port), listens s k = true → crcGood f = true → p = port s k →
      n = min ((bits (leAt f 0 8) 31 20 + 4096 - p.acked % 4096) % 4096) p.retry.length → pool = bits (leAt f 0 8) 35 32 →
      bits (leAt f 0 8) 3 0 = 0 →
    (pool ∈ poolTurn → Completes (.idleFlitReceive k f) s (fun t =>
      (port t k).retry = p.retry.drop n ∧ (n ≠ 0 → (port t k).acked = (p.acked + n) % 2 ^ 32)
      ∧ tgetD (port t k).peerFreed pool 0
          = tgetD p.peerFreed pool 0 + (bits (leAt f 0 8) 47 36 + 4096 - tgetD p.peerFreed pool 0 % 4096) % 4096
      ∧ (port t k).st = p.st ∧ (port t k).rxCount = p.rxCount ∧ SamePorts s t k ∧ SameRegs s t [] ∧ SamePool s t))
    ∧ (pool ∉ poolTurn → Completes (.idleFlitReceive k f) s (fun t =>
      (port t k).retry = p.retry.drop n ∧ (port t k).peerFreed = p.peerFreed
      ∧ rg t (Reg.FPT_MALFORMED k) = min (rg s (Reg.FPT_MALFORMED k) + 1) 0xFFFFFFFF ∧ SamePorts s t k
      ∧ SameRegs s t [Reg.FPT_MALFORMED k] ∧ SamePool s t))
    ∧ Gives (.badCrcFlit k f) s s)
  ∧ (∀ (s : State) (k : Nat) (f rest : List Byte) (m : Msg) (p : Port), listens s k = true → crcGood f = true →
      bits (leAt f 0 8) 35 32 ∈ poolTurn → p = port s k → p.st ≠ .training → p.st ≠ .fenced →
    (p.discarding = false → p.rxNext = p.rxCount → bit (leAt f 0 8) 4 = false →
        (List.range 15).foldl (eatSlot f (bits (leAt f 0 8) 19 5)) ([], []) = (rest, [m]) →
      Completes (.dataFlitReceive k f) s (fun t =>
        (port t k).rxCount = (p.rxCount + 1) % 2 ^ 32 ∧ (port t k).rxNext = (p.rxNext + 1) % 2 ^ 32 ∧ (port t k).rxPart = rest
        ∧ (s.fab.coord ≠ none → (port t k).rx = p.rx ++ [(poolCode m (isOwn s m.dst.toNat), m)] ∧ (port t k).freed = p.freed)
        ∧ (s.fab.coord = none → (port t k).rx = p.rx
          ∧ tgetD (port t k).freed (poolCode m false) 0 = tgetD p.freed (poolCode m false) 0 + msgSlots m)
        ∧ rg64 t (Reg.FPT_RXFLITS_LO k) = (rg64 s (Reg.FPT_RXFLITS_LO k) + 1) % 2 ^ 64 ∧ SamePorts s t k
        ∧ SameRegs s t [Reg.FPT_RXFLITS_LO k, Reg.FPT_RXFLITS_LO k + 4] ∧ SamePool s t))
    ∧ (p.discarding = false → p.rxNext ≠ p.rxCount → Completes (.dataFlitReceive k f) s (fun t =>
        (port t k).rxNext = (p.rxNext + 1) % 2 ^ 32 ∧ (port t k).rxCount = p.rxCount ∧ (port t k).rx = p.rx ∧ SamePorts s t k
        ∧ SameRegs s t [] ∧ SamePool s t))
    ∧ (p.discarding = true → Completes (.dataFlitReceive k f) s (fun t =>
        (port t k).rxNext = p.rxNext ∧ (port t k).rxCount = p.rxCount ∧ (port t k).rx = p.rx ∧ SamePorts s t k
        ∧ SameRegs s t [] ∧ SamePool s t)))
  ∧ (∀ (s : State) (k : Nat) (f : List Byte), listens s k = true → crcGood f = true → bits (leAt f 0 8) 35 32 ∈ poolTurn →
    Completes (.fenceFlitReceive k f) s (fun t =>
      (port t k).st = .fenced ∧ (port t k).ask = none ∧ (port t k).oper = none ∧ SamePorts s t k
      ∧ rg t (Reg.FPT_FENCERX k) = min (rg s (Reg.FPT_FENCERX k) + 1) 0xFFFFFFFF ∧ SamePool s t))
  ∧ (∀ (s : State) (k : Nat) (f pl : List Byte) (p : Port), p = port s k → pl = slice f 8 240 →
    (CtrlFlit s k f 0x01 → p.st = .training → Completes (.ts k f) s (fun t =>
      (port t k).width = min (narrower (lockWidth p 4) (widthField (leAt pl 1 1))) 3 ∧ (port t k).st = .training
      ∧ SentCtrl s t k 0x02 (identPayload s k) ∧ SamePorts s t k ∧ SameRegs s t [] ∧ SamePool s t))
    ∧ (CtrlFlit s k f 0x02 → Completes (.ident k f) s (fun t =>
      (port t k).ident = slice pl 0 36 ∧ (port t k).st = p.st
      ∧ (p.st = .training → SentCtrl s t k 0x0A (List.replicate 7 0#8 ++ leBytes 8 (localNow s (8 + k))))
      ∧ (p.st ≠ .training → t.out = s.out) ∧ SamePorts s t k ∧ SameRegs s t [] ∧ SamePool s t))
    ∧ (CtrlFlit s k f 0x03 → Completes (.identReq k f) s (fun t =>
      SentCtrl s t k 0x02 (identPayload s k) ∧ (port t k).st = p.st ∧ SamePorts s t k ∧ SameRegs s t [] ∧ SamePool s t))
    ∧ (CtrlFlit s k f 0x04 → Completes (.creditInit k f) s (fun t =>
      (∀ c, c ∈ poolTurn → tgetD (port t k).peerSize c 0 = leAt pl (16 + 2 * c) 2) ∧ (port t k).st = p.st ∧ t.out = s.out
      ∧ SamePorts s t k ∧ SameRegs s t [] ∧ SamePool s t))
    ∧ (CtrlFlit s k f 0x05 → Completes (.replayStart k f) s (fun t =>
      (port t k).discarding = false ∧ (port t k).rxNext = leAt pl 4 4 ∧ (port t k).rxCount = p.rxCount ∧ t.out = s.out
      ∧ SamePorts s t k ∧ SameRegs s t [] ∧ SamePool s t))
    ∧ (p.st = .up → p.ask = none → p.oper = none →
      (CtrlFlit s k f 0x06 → Completes (.retrainReq k f) s (fun t =>
        (port t k).st = .retrain ∧ (port t k).oper = some { retrain := true, width := widthField (leAt pl 1 1) }
        ∧ (port t k).operDue = now s + rf s (Reg.FPT_TIMERS k) 25 18 * 1000 ∧ SentCtrl s t k 0x07 [0xFF#8, 0#8] ∧ SamePorts s t k
        ∧ SameRegs s t [Reg.FPT_RETRAINS k] ∧ SamePool s t))
      ∧ (CtrlFlit s k f 0x08 → Completes (.widthReq k f) s (fun t =>
        (port t k).st = .width ∧ (port t k).oper = some { retrain := false, width := widthField (leAt pl 1 1) }
        ∧ (port t k).operDue = now s + rf s (Reg.FPT_TIMERS k) 25 18 * 1000
        ∧ SentCtrl s t k 0x09 ([0xFF#8] ++ leBytes 2 p.lock ++ [0#8]) ∧ SamePorts s t k
        ∧ SameRegs s t [Reg.FPT_WIDTHCHG k] ∧ SamePool s t)))
    ∧ (∀ a o c, p.ask = some a → p.oper = some o →
        (CtrlFlit s k f 0x07 ∧ leAt pl 2 1 = 0 ∧ c = Instr.retrainAck k f) ∨ (CtrlFlit s k f 0x09 ∧ leAt pl 4 1 = 0 ∧ c = .widthAck k f) →
      Completes c s (fun t =>
        (port t k).lead = true ∧ (port t k).oper = some o ∧ (port t k).st = (if o.retrain then .retrain else .width) ∧ t.out = s.out
        ∧ SamePorts s t k ∧ SameRegs s t [] ∧ SamePool s t))
    ∧ (∀ a o c b, p.ask = some a → p.oper = some o → b = 1 ∨ b = 2 →
        (CtrlFlit s k f 0x07 ∧ leAt pl 2 1 = b ∧ c = Instr.retrainAck k f) ∨ (CtrlFlit s k f 0x09 ∧ leAt pl 4 1 = b ∧ c = .widthAck k f) →
      Completes c s (fun t =>
        (port t k).lead = true ∧ (port t k).oper = some (mergeOps o { retrain := b == 1, width := widthField (leAt pl 1 1) })
        ∧ (port t k).st = (if o.retrain || b == 1 then .retrain else .width) ∧ t.out = s.out
        ∧ SamePorts s t k ∧ SameRegs s t [] ∧ SamePool s t))
    ∧ (CtrlFlit s k f 0x0A → Completes (.rttProbe k f) s (fun t =>
      SentCtrl s t k 0x0B (List.replicate 7 0#8 ++ slice pl 8 8 ++ leBytes 8 0) ∧ (port t k).st = p.st ∧ SamePorts s t k
      ∧ SameRegs s t [] ∧ SamePool s t))
    ∧ (CtrlFlit s k f 0x0B → Completes (.rttEcho k f) s (fun t =>
      (port t k).rttNs = localNow s (8 + k) - leAt pl 8 8 - leAt pl 16 8 ∧ (port t k).st = p.st
      ∧ (p.st = .training → SentCtrl s t k 0x04 execRttEcho.creditPayload) ∧ (p.st ≠ .training → t.out = s.out)
      ∧ SamePorts s t k ∧ SameRegs s t [] ∧ SamePool s t)))

/-- Links train and recover (R318, R326, R328 to R331, R333, R334, R336, R339, R340, R556): light starts training, unless the start-up has halted; it ends in UP, or fails and is tried again after
1 ms; unacknowledged flits are replayed when ACK_TO passes, and the 16th replay in a row starts a retrain; lock lost for LINKDOWN_T, or an
operation beyond RETRAIN_MAX, takes the link DOWN; an operation ends in UP at the width that its wavelengths allow; a port that is UP sends one flit at a time.
Where the spec is silent the model's choice stands: assumptions 109, 110, 111. -/
def Obligations.LinksTrainAndRecover : Prop :=
  (∀ (s : State) (k : Nat) (p : Port), p = port s k →
    (k < 32 → portMode s k ≠ 0 → rf s Reg.PLN_SAFE 0 0 = 0 → rf s Reg.PWR_STAT 3 3 = 1 → bootStage s ≠ 8 → p.st = .down ∨ p.st = .fenced →
      Completes (.portLightDetect k) s (fun t =>
        (port t k).st = .training ∧ (port t k).trainDue = some (now s + 500000) ∧ (port t k).retry = [] ∧ (port t k).rx = p.rx
        ∧ (port t k).lock = p.lock ∧ (∃ f, t.out = .flit k f :: s.out) ∧ SamePorts s t k ∧ SameRegs s t [] ∧ SamePool s t))
    ∧ (p.st = .training → (∀ d, d ∈ s.mbx.deferred → d.wait ≠ .portRetrain k) →
      (narrower (lockWidth p 4) p.width ≤ widthMin s k → Completes (.portTrainingDone k) s (fun t =>
        (port t k).st = .up ∧ (port t k).width = narrower (lockWidth p 4) p.width ∧ (port t k).txCount = 0 ∧ (port t k).rxCount = 0
        ∧ (port t k).acked = 0 ∧ (port t k).retry = [] ∧ (port t k).discarding = false ∧ (port t k).rx = p.rx ∧ (port t k).peerSize = p.peerSize
        ∧ SamePorts s t k ∧ SameRegs s t [] ∧ SamePool s t))
      ∧ (widthMin s k < narrower (lockWidth p 4) p.width → Completes (.portTrainingDone k) s (fun t =>
        port t k = { p with st := .down, trainDue := none, retrainAt := some (now s + 1000000) } ∧ SamePorts s t k ∧ SameRegs s t []
        ∧ SamePool s t)))
    ∧ (∀ d, p.st = .training → p.trainDue = some d → Completes (.portTrainingTimeout k) s (fun t =>
        d ≤ now t ∧ port t k = { p with st := .down, trainDue := none, retrainAt := some (now t + 1000000) } ∧ SamePorts s t k
        ∧ SameRegs s t [] ∧ SamePool s t))
    ∧ (∀ d, p.st = .down → p.retrainAt = some d → rf s Reg.PLN_SAFE 0 0 = 0 → Completes (.trainingRetryTimer k) s (fun t =>
        d ≤ now t ∧ (port t k).st = .training ∧ (port t k).retrainAt = none ∧ (port t k).trainDue = some (now t + 500000)
        ∧ (port t k).rx = p.rx ∧ (port t k).lock = p.lock ∧ (∃ f, t.out = .flit k f :: s.out) ∧ SamePorts s t k ∧ SameRegs s t [] ∧ SamePool s t))
    ∧ (∀ d, p.st = .up → p.ackDue = some d →
      (p.replays < 15 → Completes (.ackTimerExpire k) s (fun t =>
        d ≤ now t ∧ (port t k).st = .up ∧ (port t k).replays = p.replays + 1 ∧ (port t k).retry = p.retry
        ∧ t.out.length = s.out.length + 1 + p.retry.length
        ∧ rg t (Reg.FPT_REPLAYS k) = min (rg s (Reg.FPT_REPLAYS k) + 1) 0xFFFFFFFF ∧ SameRegs s t [Reg.FPT_REPLAYS k]
        ∧ SamePorts s t k ∧ SamePool s t))
      ∧ (p.replays = 15 → Completes (.ackTimerExpire k) s (fun t =>
        d ≤ now t ∧ (port t k).st = .retrain ∧ (port t k).replays = 0 ∧ (port t k).retry = p.retry
        ∧ SameRegs s t [Reg.FPT_REPLAYS k, Reg.FPT_RETRAINS k] ∧ SamePorts s t k ∧ SamePool s t)))
    ∧ (∀ d, p.lockLost = some d →
      (p.st = .training ∨ p.st = .up ∨ p.st = .width → Completes (.lockLossTimeout k) s (fun t =>
        d + rf s (Reg.FPT_TIMERS k) 17 8 * 1000 ≤ now t ∧ (port t k).st = .down ∧ (port t k).retry = [] ∧ (port t k).rx = p.rx
        ∧ rg t (Reg.FPT_LINKDOWNS k) = min (rg s (Reg.FPT_LINKDOWNS k) + 1) 0xFFFFFFFF ∧ SamePorts s t k ∧ SamePool s t))
      ∧ (p.st = .retrain → Gives (.lockLossTimeout k) s s))
    ∧ (p.st = .retrain ∨ p.st = .width → Completes (.retrainMaxExpire k) s (fun t =>
        p.operDue ≤ now t ∧ (port t k).st = .down ∧ (port t k).retry = [] ∧ (port t k).rx = p.rx
        ∧ rg t (Reg.FPT_LINKDOWNS k) = min (rg s (Reg.FPT_LINKDOWNS k) + 1) 0xFFFFFFFF ∧ SamePorts s t k ∧ SamePool s t))
    ∧ (∀ o c, p.oper = some o → (p.st = .retrain ∧ c = Instr.retrainDone k) ∨ (p.st = .width ∧ c = .widthChangeDone k) →
        (∀ d, d ∈ s.mbx.deferred → d.wait ≠ .portRetrain k) →
      (lockWidth p o.width ≤ widthMin s k → Completes c s (fun t =>
        (port t k).st = .up ∧ (port t k).width = lockWidth p o.width ∧ (port t k).ask = none ∧ (port t k).oper = none
        ∧ (port t k).discarding = true ∧ (port t k).retry = p.retry ∧ t.out.length = s.out.length + 1 + p.retry.length
        ∧ SamePorts s t k ∧ SameRegs s t [] ∧ SamePool s t))
      ∧ (widthMin s k < lockWidth p o.width → Completes c s (fun t =>
        (port t k).st = .down ∧ (port t k).retry = [] ∧ (port t k).rx = p.rx ∧ SamePorts s t k ∧ SamePool s t)))
    ∧ (∀ n u, p.st = .up →
      (4 ≤ u ∨ rf s (Reg.FPT_CTL k) 31 16 < n → Completes (.fecRetrainTrigger k n u) s (fun t =>
        (port t k).st = .retrain ∧ (port t k).operDue = now s + rf s (Reg.FPT_TIMERS k) 25 18 * 1000
        ∧ rg t (Reg.FPT_FECUNC k) = min (rg s (Reg.FPT_FECUNC k) + u) 0xFFFFFFFF
        ∧ rg64 t (Reg.FPT_FECCORR_LO k) = (rg64 s (Reg.FPT_FECCORR_LO k) + n) % 2 ^ 64 ∧ SamePorts s t k ∧ SamePool s t))
      ∧ (u < 4 → n ≤ rf s (Reg.FPT_CTL k) 31 16 → Completes (.fecRetrainTrigger k n u) s (fun t =>
        port t k = p ∧ t.out = s.out ∧ SamePorts s t k ∧ SamePool s t)))
    ∧ (∀ j l, j < 16 → l = setBit p.lock j false → p.st = .up →
      (l ≠ 0 → Completes (.wavelengthLockLoss k j) s (fun t =>
        (port t k).st = .width ∧ (port t k).lock = l
        ∧ (port t k).oper = some { retrain := false, width := min (widestCode (popcount 16 l)) 3 } ∧ SamePorts s t k
        ∧ SameRegs s t [Reg.FPT_WIDTHCHG k] ∧ SamePool s t))
      ∧ (l = 0 → p.lockLost = none → Completes (.wavelengthLockLoss k j) s (fun t =>
        port t k = { p with lock := 0, lockLost := some (now s) } ∧ SamePorts s t k ∧ SameRegs s t [] ∧ SamePool s t)))
    ∧ Completes (.symbolLockRegained k none) s (fun t =>
        port t k = { p with lock := 0xFFFF, lockLost := none } ∧ SamePorts s t k ∧ SameRegs s t [] ∧ SamePool s t)
    ∧ (∀ j l, j < 16 → l = setBit p.lock j true → p.st = .up → widestCode (popcount 16 l) < p.width →
      Completes (.symbolLockRegained k (some j)) s (fun t =>
        (port t k).st = .width ∧ (port t k).lock = l ∧ (port t k).lockLost = none ∧ SamePorts s t k ∧ SamePool s t))
    ∧ (p.st = .up → rf s Reg.PLN_SAFE 0 0 = 0 → s.fab.coord ≠ none → p.draining = false → p.txPart = [] →
      (p.txq = [] → Completes (.flitTransmit k) s (fun t =>
        t.out = .flit k (mkFlit p 0 0 0 []) :: s.out ∧ (port t k).retry = p.retry ∧ (port t k).txCount = p.txCount ∧ SamePorts s t k
        ∧ SameRegs s t [] ∧ SamePool s t))
      ∧ (∀ c m, p.txq = [(c, m)] → msgSlots m ≤ 15 → msgLane m ≤ 2 → p.retry.length < 2048 →
        (msgSlots m ≤ credits p c → Completes (.flitTransmit k) s (fun t =>
          (∃ f, t.out = .flit k f :: s.out ∧ (port t k).retry = p.retry ++ [f] ∧ bits (leAt f 0 8) 3 0 = 1
            ∧ slice f 8 (16 * msgSlots m) = msgBytes m)
          ∧ (port t k).txq = [] ∧ (port t k).txCount = (p.txCount + 1) % 2 ^ 32
          ∧ tgetD (port t k).used c 0 = tgetD p.used c 0 + msgSlots m ∧ (port t k).ackDue ≠ none
          ∧ rg64 t (Reg.FPT_TXFLITS_LO k) = (rg64 s (Reg.FPT_TXFLITS_LO k) + 1) % 2 ^ 64 ∧ SamePorts s t k
          ∧ SameRegs s t [Reg.FPT_TXFLITS_LO k, Reg.FPT_TXFLITS_LO k + 4] ∧ SamePool s t))
        ∧ (credits p c < msgSlots m → Completes (.flitTransmit k) s (fun t =>
          (port t k).txq = p.txq ∧ (port t k).retry = p.retry
          ∧ rg t (Reg.FPT_CRSTALL k (msgLane m)) = min (rg s (Reg.FPT_CRSTALL k (msgLane m)) + 1) 0xFFFFFFFF
          ∧ SameRegs s t [Reg.FPT_CRSTALL k (msgLane m)] ∧ SamePorts s t k ∧ SamePool s t)))
      ∧ (2048 ≤ p.retry.length → (∀ e, e ∈ p.txq → msgSlots e.2 ≤ credits p e.1) → Completes (.flitTransmit k) s (fun t =>
          t.out = .flit k (mkFlit p 0 0 0 []) :: s.out ∧ (port t k).txq = p.txq ∧ (port t k).retry = p.retry ∧ SamePorts s t k
          ∧ SameRegs s t [] ∧ SamePool s t))))
  ∧ (∀ (s : State) (b : Nat) (l : List Int), b < 4 → l.length = 16 → (∀ v, v ∈ l → -32768 ≤ v ∧ v < 32768) →
    ((∀ v, v ∈ l → 1300 ≤ v) → Completes (.laserMeasure b l) s (fun t =>
      (∀ j, j < 16 → laserPower t b j = l.getD j 0) ∧ SameRegs s t ((List.range 16).map (Reg.FPT_LASER b)) ∧ t.btr = s.btr ∧ SamePool s t))
    ∧ (∀ v, v ∈ l → v < 1300 → s.btr.recs = [] → Completes (.laserMeasure b l) s (fun t =>
      (∀ j, j < 16 → laserPower t b j = l.getD j 0)
      ∧ (∃ r, t.btr.recs = [(1, r)] ∧ r.cls = 0x10 ∧ r.unit = 0x0C ∧ r.inst = b) ∧ SamePool s t)))
  ∧ (∀ (s : State) (b j : Nat), b < 4 → j < 16 →
    (laserPower s b j < 1000 → Completes (.laserRemoveTimeout b j) s (fun t =>
      (∀ i p l, i < 8 → p = port s (8 * b + i) → l = setBit p.lock j false → p.st = .up →
        (widestCode (popcount 16 l) ≤ widthMin s (8 * b + i) →
          (port t (8 * b + i)).st = .width ∧ (port t (8 * b + i)).lock = l
          ∧ (port t (8 * b + i)).oper = some { retrain := false, width := widestCode (popcount 16 l) })
        ∧ (widthMin s (8 * b + i) < widestCode (popcount 16 l) → (port t (8 * b + i)).st = .down))
      ∧ (∀ i, i / 8 ≠ b → port t i = port s i) ∧ SamePool s t))
    ∧ (1000 ≤ laserPower s b j → Gives (.laserRemoveTimeout b j) s s))

/-- The common time base (R30, R364, R367 to R371, R373, R394, R395): a local copy is corrected to within 2 ns; requests are answered with t1, t2 and t3;
the offset of an answer from the source steers the rate, sets the time base at the first lock only, and is reported and not
applied when it exceeds 1 ms; a lost master is replaced by the next member that can be reached, and a lost source leaves
the nominal rate; TIME_STEP moves the time base forward only.
Where the spec is silent the model's choice stands: assumptions 115, 116, 117. -/
def Obligations.TheTimeBaseIsDisciplined : Prop :=
  (∀ (s : State) (c : Nat), Completes (.timeBaseCorrect c) s (fun t =>
      (∃ d, tget t.tb.skew c = some d ∧ -2 ≤ d ∧ d ≤ 2) ∧ (∀ x, x ≠ c → tget t.tb.skew x = tget s.tb.skew x) ∧ now t = now s
      ∧ SameRegs s t [] ∧ SamePool s t))
  ∧ (∀ (s : State) (k : Nat) (f pl : List Byte), CtrlFlit s k f 0x0C → pl = slice f 8 240 →
    (leAt pl 1 1 = 0 → Completes (.timesync k f) s (fun t =>
      SentCtrl s t k 0x0C ([1#8, BitVec.ofNat 8 (b2n s.tb.locked), 0#8] ++ leBytes 4 (rf s Reg.FPT_GRP_CTL 15 0) ++ slice pl 8 8
        ++ leBytes 8 (localNow s (8 + k)) ++ leBytes 8 (localNow s (8 + k)))
      ∧ SamePorts s t k ∧ t.tb = s.tb ∧ SameRegs s t [] ∧ SamePool s t))
    ∧ (∀ o : Int, leAt pl 1 1 = 1 → timePort s = some k → memberOf s (peerCoord (port s k)) = none →
        o = (((leAt pl 16 8 : Int) - leAt pl 8 8) - ((localNow s (8 + k) : Int) - leAt pl 24 8)) / 2 →
      (s.tb.everLocked = true → o.natAbs ≤ 1000000 → s.tb.timeFault = false → Completes (.timesyncAnswer k f) s (fun t =>
        now t = now s ∧ t.tb.inc = steerInc o ∧ t.tb.locked = true ∧ t.tb.holdover = false ∧ t.tb.missed = 0 ∧ t.tb.offset = o
        ∧ SameRegs s t [Reg.PWR_TB_OFFSET] ∧ SamePool s t))
      ∧ (s.tb.everLocked = true → 1000000 < o.natAbs → Completes (.timesyncAnswer k f) s (fun t =>
        now t = now s ∧ t.tb.inc = s.tb.inc ∧ t.tb.locked = false ∧ t.tb.timeFault = true ∧ t.tb.pendingOffset = o ∧ t.xlt = s.xlt))
      ∧ (s.tb.everLocked = false → s.tb.good = 2 → 0 ≤ (now s : Int) + o → (now s : Int) + o < 2 ^ 64 →
        Completes (.timesyncAnswer k f) s (fun t =>
          (now t : Int) = now s + o ∧ t.tb.everLocked = true ∧ t.tb.locked = true ∧ t.tb.inc = s.tb.inc ∧ t.xlt = s.xlt))
      ∧ (s.tb.everLocked = false → s.tb.good < 2 → Completes (.timesyncAnswer k f) s (fun t =>
        now t = now s ∧ t.tb.everLocked = false ∧ t.tb.good = s.tb.good + 1 ∧ t.tb.inc = s.tb.inc ∧ SameRegs s t [Reg.PWR_TB_OFFSET]
        ∧ SamePool s t))))
  ∧ (∀ (s : State) (k : Nat), exchangePorts s = [k] → inGroup s = false → timePort s = some k →
    Completes .timeExchangeTimer s (fun t =>
      SentCtrl s t k 0x0C ([0#8, 0#8, 0#8] ++ leBytes 4 (rf s Reg.FPT_GRP_CTL 15 0) ++ leBytes 8 (localNow s (8 + k)))
      ∧ t.tb = { s.tb with missed := s.tb.missed + 1 } ∧ SamePorts s t k ∧ SameRegs s t [] ∧ SamePool s t))
  ∧ (∀ (s : State) (old : Nat), old = rf s Reg.FPT_GRP_CTL 24 22 → isFollower s = true → 3 ≤ tgetD s.tb.memMissed old 0 →
    (∀ m, nextMaster s old = some m → Completes .masterLost s (fun t =>
      rf t Reg.FPT_GRP_CTL 24 22 = m ∧ rf t Reg.FPT_GRP_CTL 21 0 = rf s Reg.FPT_GRP_CTL 21 0 ∧ rf t (Reg.FPT_GRP_MEM old) 30 30 = 0
      ∧ t.tb.missed = 0 ∧ now t = now s ∧ t.xlt = s.xlt))
    ∧ (nextMaster s old = none → Completes .masterLost s (fun t =>
      rf t (Reg.FPT_GRP_MEM old) 30 30 = 0 ∧ SameRegs s t [Reg.FPT_GRP_MEM old] ∧ t.tb = s.tb ∧ SamePool s t)))
  ∧ (∀ (s : State) (x named : Nat), named = rf s Reg.FPT_GRP_CTL 21 19 → s.tb.namedSince = some x → inGroup s = true →
      named ≠ rf s Reg.FPT_GRP_CTL 24 22 → Completes .masterReturn s (fun t =>
        rf t Reg.FPT_GRP_CTL 24 22 = named ∧ rf t Reg.FPT_GRP_CTL 21 0 = rf s Reg.FPT_GRP_CTL 21 0 ∧ x + 1000000000 ≤ now t ∧ t.xlt = s.xlt))
  ∧ (∀ (s : State), 3 ≤ s.tb.missed → s.tb.holdover = false → Completes .timeHoldover s (fun t =>
      t.tb = { s.tb with holdover := true, locked := false, inc := nominalInc, good := 0 } ∧ t.xlt = s.xlt ∧ t.sched = s.sched))
  ∧ (∀ (s : State) (slot : Nat) (tag : Word32) (g m r : Word64) (l : List Word64), MayRun s slot 0x0501 tag → g.toNat ≤ 0xFFFF → m.toNat ≤ 7 →
      r.toNat ≤ 7 → l.length = 8 → (∀ w, w ∈ l → onlyBits w 0x8001FFFF = true) →
    ((∃ w, w ∈ l ∧ bit w.toNat 31 = true ∧ isOwn s (bits w.toNat 16 0) = true) → Completes (.groupSet slot tag g m r l) s (fun t =>
      (∀ i, i < 8 → rg t (Reg.FPT_GRP_MEM i) = (l.getD i 0).toNat) ∧ rf t Reg.FPT_GRP_CTL 15 0 = g.toNat
      ∧ rf t Reg.FPT_GRP_CTL 18 16 = m.toNat ∧ rf t Reg.FPT_GRP_CTL 21 19 = r.toNat ∧ rf t Reg.FPT_GRP_CTL 24 22 = r.toNat ∧ inGroup t = true
      ∧ Replied t slot 0x0501 tag stOK [] ∧ SameRegs s t (Reg.FPT_GRP_CTL :: (List.range 8).map Reg.FPT_GRP_MEM) ∧ SamePool s t))
    ∧ ((∀ w, w ∈ l → bit w.toNat 31 = true → isOwn s (bits w.toNat 16 0) = false) → Completes (.groupSet slot tag g m r l) s (fun t =>
      Replied t slot 0x0501 tag stINVALID [] ∧ SameRegs s t [] ∧ t.tb = s.tb ∧ SamePool s t)))
  ∧ (∀ (s : State) (slot : Nat) (tag : Word32),
    (MayRun s slot 0x0502 tag → Completes (.groupQuery slot tag) s (fun t =>
      Replied t slot 0x0502 tag stOK ([rg s Reg.FPT_GRP_CTL, tbStat s, rg s Reg.PWR_TB_OFFSET].flatMap (leBytes 8)) ∧ t.tb = s.tb
      ∧ SameRegs s t [] ∧ SamePool s t))
    ∧ (∀ a p : Word64, MayRun s slot 0x0503 tag → a.toNat ≤ 2 → p.toNat ≤ 31 → Completes (.timeSet slot tag a p) s (fun t =>
      rf t Reg.PWR_TB_CTL 1 0 = a.toNat ∧ rf t Reg.PWR_TB_CTL 6 2 = p.toNat ∧ SameRegs s t [Reg.PWR_TB_CTL] ∧ now t = now s
      ∧ Replied t slot 0x0503 tag stOK [] ∧ SamePool s t))
    ∧ (MayRun s slot 0x0504 tag →
      (0 ≤ s.tb.pendingOffset → Completes (.timeStep slot tag) s (fun t =>
        (now t : Int) = now s + s.tb.pendingOffset ∧ now s ≤ now t ∧ t.tb.timeFault = false ∧ t.tb.pendingOffset = 0
        ∧ Replied t slot 0x0504 tag stOK (leBytes 8 (now t)) ∧ t.xlt = s.xlt))
      ∧ (s.tb.pendingOffset < 0 → Completes (.timeStep slot tag) s (fun t =>
        t.tb = s.tb ∧ Replied t slot 0x0504 tag stCONFLICT [] ∧ SameRegs s t [] ∧ SamePool s t))))

/-- The mirror stream (R310, R312, R376, R379 to R383, R385): a receiving twin writes the bytes of MIRROR_WRITE, keeps the record that it carries, holds a
tile in its journal until its commit and every lower tile, adds MIRROR_ADD to the signal word, and applies the items of MIRROR_CFG; it answers each,
FAULTED where it cannot apply one; a beat tells the state of the peer; an acknowledgement lets the answer that waited for it leave.
Where the spec is silent the model's choice stands: assumptions 120, 125, 126, 168. -/
def Obligations.MirrorStreamIsApplied : Prop :=
  (∀ (s : State) (k a : Nat) (m : Msg) (bulk : Bool) (x d n : Nat), a = m.addr.toNat → fromPeer s m = true → bulk = bit m.xf.toNat 0 →
      x = m.context.toNat → d = bits m.arg.toNat 63 32 → n = bits m.arg.toNat 31 0 →
    (∀ c op, (c, op) ∈ [(Instr.mirrorWrite k m, 0x14), (.mirrorTile k m, 0x15), (.mirrorCommit k m, 0x16), (.mirrorAdd k m, 0x17),
        (.mirrorCfg k m, 0x18)] → Fresh s op m → receiving s = false →
      Completes c s (fun t => Answered t m (Resp.faulted 0x56 0) ∧ t.twin = s.twin ∧ t.mem = s.mem ∧ SameRegs s t [] ∧ SamePool s t))
    ∧ (mirrorTarget s m = true → Clean s → tget s.xlt.migrations (extOf a) = none → (extRec s (extOf a)).coherent = false →
      (Fresh s 0x14 m → m.poison = false → a % 128 = 0 → Completes (.mirrorWrite k m) s (fun t =>
        (∀ i, i < 128 → memByte t.mem (a + i)
          = if bit (leAt m.data (i / 8) 1) (i % 8) then (slice m.data 16 128).getD i 0#8 else memByte s.mem (a + i))
        ∧ (∀ y, y < a ∨ a + 128 ≤ y → memByte t.mem y = memByte s.mem y)
        ∧ Answered t m (Resp.plain 0x56 sCOMPLETE 0 0 0) ∧ SameRegs s t [] ∧ t.xlt = s.xlt ∧ t.twin = s.twin
        ∧ (∀ key, bulk = true → key = leAt m.data 144 2 % 4096 * 2 ^ 24 + leAt m.data 148 4 % 2 ^ 24 → key ≠ reqKey m →
            ∃ r, tget t.fab.records key = some r ∧ r.status = bits (leAt m.data 152 1) 3 0 ∧ r.xf = bits (leAt m.data 152 1) 7 4
              ∧ r.cause = leAt m.data 153 1 ∧ r.value = leAt m.data 160 8 ∧ r.expires = now s + replayWin s)))
      ∧ (Fresh s 0x14 m → m.poison = true → Completes (.mirrorWrite k m) s (fun t =>
        linePoisoned t (a / 128) = true ∧ Answered t m (Resp.plain 0x56 sCOMPLETE 0 0 0) ∧ SameRegs s t [] ∧ t.xlt = s.xlt))
      ∧ (Fresh s 0x15 m → Completes (.mirrorTile k m) s (fun t =>
        (∃ j l, journalOf t bulk x d n = some j ∧ j.committed = (journalAt s bulk x d n).committed
          ∧ j.writes = (journalAt s bulk x d n).writes ++ [(a / 256 * 256, m.poison, l)]
          ∧ (bit m.xf.toNat 1 = false → l = unmasked (slice m.data 0 256))
          ∧ (bit m.xf.toNat 1 = true → l = maskedBytes (slice m.data 0 32) (slice m.data 32 256)))
        ∧ t.mem = s.mem ∧ Answered t m (Resp.plain 0x56 sCOMPLETE 0 0 0) ∧ SameRegs s t [] ∧ t.xlt = s.xlt))
      ∧ (Fresh s 0x17 m → a % 8 = 0 → m.arg ≠ 0#64 → bulk = false → Completes (.mirrorAdd k m) s (fun t =>
        t.mem = memWrite s.mem a (leBytes 8 ((leNat (memRead s.mem a 8) + m.arg.toNat) % 2 ^ 64))
        ∧ (∀ y, y < a ∨ a + 8 ≤ y → memByte t.mem y = memByte s.mem y)
        ∧ Answered t m (Resp.plain 0x56 sCOMPLETE 0 0 0) ∧ SameRegs s t [] ∧ t.xlt = s.xlt ∧ t.twin = s.twin)))
    ∧ (∀ j b g, receiving s = true → Fresh s 0x16 m → s.twin.journal = [j] → j.bulk = bulk → j.context = x → j.desc = d → j.tile = n →
        j.writes = [(b, false, unmasked g)] → g.length = 256 → b % 256 = 0 → Clean s → tget s.xlt.migrations (extOf b) = none →
        (extRec s (extOf b)).coherent = false →
      (n ≤ movedOf s bulk x d → Completes (.mirrorCommit k m) s (fun t =>
        t.twin.journal = [] ∧ (∀ i, i < 256 → memByte t.mem (b + i) = g.getD i 0#8)
        ∧ (∀ y, y < b ∨ b + 256 ≤ y → memByte t.mem y = memByte s.mem y) ∧ Answered t m (Resp.plain 0x56 sCOMPLETE 0 0 0)
        ∧ SameRegs s t [] ∧ t.xlt = s.xlt))
      ∧ (movedOf s bulk x d < n → s.twin.st = twSTANDBY → Completes (.mirrorCommit k m) s (fun t =>
        t.twin.journal = [{ j with committed := true }] ∧ t.mem = s.mem ∧ Answered t m (Resp.plain 0x56 sCOMPLETE 0 0 0)
        ∧ SameRegs s t [] ∧ t.xlt = s.xlt)))
    ∧ (receiving s = true → Fresh s 0x18 m → s.twin.cfg = [] →
      (bit m.arg.toNat 23 = false → Completes (.mirrorCfg k m) s (fun t =>
        t.twin = { s.twin with cfg := [(m.xf.toNat, bits m.arg.toNat 15 0, bits m.arg.toNat 23 16, slice m.data 0 (16 * m.dslots.toNat))] }
        ∧ Answered t m (Resp.plain 0x56 sCOMPLETE 0 0 0) ∧ SameRegs s t [] ∧ t.mem = s.mem ∧ t.xlt = s.xlt))
      ∧ (∀ b u dep, b = slice m.data 0 (16 * m.dslots.toNat) → bits m.arg.toNat 23 16 = 128 → m.xf = 0#4 → bits (leAt b 0 8) 31 16 = 0x0312 →
          u = leAt b 16 8 → dep = leAt b 24 8 → dep < 2 ^ 32 → tenantExists s u = true → (faultsOf s u).length ≤ dep →
        Completes (.mirrorCfg k m) s (fun t =>
          rg t (Reg.XLT_FQ_CFG u) = dep ∧ Answered t m (Resp.plain 0x56 sCOMPLETE 0 0 0) ∧ SameRegs s t [Reg.XLT_FQ_CFG u] ∧ t.twin = s.twin
          ∧ t.mem = s.mem ∧ t.xlt = s.xlt))
      ∧ (bits m.arg.toNat 23 16 = 128 → m.xf = 1#4 → Completes (.mirrorCfg k m) s (fun t =>
        t.twin = { s.twin with bulkSeen := s.twin.bulkSeen
          ++ [(leAt (slice m.data 0 (16 * m.dslots.toNat)) 64 4, slice (slice m.data 0 (16 * m.dslots.toNat)) 0 64)] }
        ∧ Answered t m (Resp.plain 0x56 sCOMPLETE 0 0 0) ∧ SameRegs s t [] ∧ t.mem = s.mem ∧ t.xlt = s.xlt))
      ∧ (bits m.arg.toNat 23 16 = 128 → m.xf = 2#4 → Completes (.mirrorCfg k m) s (fun t =>
        (∀ e, e ∈ t.twin.bulkSeen → e.1 ≠ leAt (slice m.data 0 (16 * m.dslots.toNat)) 0 4 ∧ e ∈ s.twin.bulkSeen)
        ∧ Answered t m (Resp.plain 0x56 sCOMPLETE 0 0 0) ∧ SameRegs s t [] ∧ t.mem = s.mem ∧ t.xlt = s.xlt)))
    ∧ (Fresh s 0x19 m → s.twin.st = twACTIVE → bits m.arg.toNat 2 0 ≠ twSTANDBY → Completes (.mirrorBeat k m) s (fun t =>
        t.twin = { s.twin with lastHeard := now s, peerSt := bits m.arg.toNat 2 0, peerGen := d }
        ∧ Answered t m (Resp.plain 0x56 sCOMPLETE 0 0 0) ∧ SameRegs s t [] ∧ t.mem = s.mem ∧ t.xlt = s.xlt))
    ∧ (Fresh s 0x19 m → s.twin.st = twSOLO → bits m.arg.toNat 2 0 = twSYNCING → s.twin.peerSt ≠ twSYNCING →
      Completes (.mirrorBeat k m) s (fun t =>
        t.twin.toCopy = (if d = s.twin.gen then s.twin.dirty else mirroredPages s) ∧ t.twin.total = t.twin.toCopy.length
        ∧ t.twin.peerSt = twSYNCING ∧ t.twin.st = twSOLO ∧ Answered t m (Resp.plain 0x56 sCOMPLETE 0 0 0) ∧ SameRegs s t []
        ∧ t.mem = s.mem ∧ t.xlt = s.xlt)))
  ∧ (∀ (s : State) (k id : Nat) (m : Msg) (o : OwnReq), s.fab.coord.isNone = false → inSafe s = false → m.dslots = 0#5 →
      id = m.reqid.toNat → s.fab.own = [(id, o)] →
    (o.use = .plain → Completes (.mirrorAck k m) s (fun t =>
      t.fab.own = [] ∧ t.twin = { s.twin with lastHeard := now s } ∧ SameRegs s t [] ∧ t.mem = s.mem ∧ t.xlt = s.xlt))
    ∧ (∀ n q r, o.use = .mirror n → s.twin.owed = [(n, q, r)] → m.status = 0#4 → tget s.fab.inProgress (reqKey q) = none →
      Completes (.mirrorAck k m) s (fun t =>
        t.fab.own = [] ∧ t.twin.owed = [] ∧ Answered t q r ∧ t.twin.st = s.twin.st ∧ SameRegs s t [] ∧ t.mem = s.mem ∧ t.xlt = s.xlt))
    ∧ (∀ n, o.use = .mirror n → m.status ≠ 0#4 → Completes (.mirrorAck k m) s (fun t =>
        t.fab.own = s.fab.own ∧ t.twin = { s.twin with lastHeard := now s } ∧ SameRegs s t [] ∧ t.mem = s.mem ∧ t.xlt = s.xlt)))
  ∧ (∀ (s : State) (k : Nat), twinValid s = true → s.fab.coord.isNone = false → inSafe s = false → s.twin.handing = false → mirrorPorts s = [k] →
    Completes (.mirrorBeatTimer) s (fun t =>
      now t = (now s / 10000 + 1) * 10000
      ∧ (∃ c q, (port t k).txq = (port s k).txq ++ [(c, q)] ∧ q.opcode = 0x19#8 ∧ q.vc = 0#2 ∧ q.dst.toNat = twinPeer s
        ∧ q.arg.toNat = (s.twin.st + 2 ^ 32 * s.twin.gen) % 2 ^ 64)
      ∧ SamePorts s t k ∧ t.twin.st = s.twin.st ∧ SameRegs s t [] ∧ t.mem = s.mem ∧ t.xlt = s.xlt))

/-- The states of a twin (R376, R385 to R388, R391 to R394, R396): the pair forms when its ports are UP; a lost mirror isolates the active, which halts after
SOLO_WAIT unless the witness lets it go on; a standby that is promoted takes over in SOLO with the next generation; a twin that returns is copied
to, and stands by when the copy is done; the active hands over by command or after REVERT_HOLD.
Where the spec is silent the model's choice stands: assumptions 119, 120, 121, 122, 124. -/
def Obligations.TwinsSplitAndRejoin : Prop :=
  (∀ (s : State) (slot : Nat) (tag : Word32) (p q f l o h : Word64) (w : List Word64), MayRun s slot 0x0510 tag → DeferRoom s →
      onlyBits p 0x1FFFF = true → onlyBits q 0xFFFFFFFF = true → q ≠ 0#64 → onlyBits f 3 = true → w.length = 6 → 10 ≤ l.toNat → l.toNat ≤ 255 →
      50 ≤ o.toNat → o.toNat ≤ 1023 → 1 ≤ h.toNat → h.toNat ≤ 16383 →
    (s.twin.formed = false → Completes (.twinSet slot tag p q f w l o h) s (fun t =>
      rf t Reg.FPT_TWIN_CTL 16 0 = p.toNat ∧ rf t Reg.FPT_TWIN_CTL 18 17 = f.toNat ∧ rf t Reg.FPT_TWIN_CTL 31 31 = 1
      ∧ rg t Reg.FPT_TWIN_PORTS = q.toNat ∧ rf t Reg.FPT_TWIN_TIMERS 7 0 = l.toNat ∧ rf t Reg.FPT_TWIN_TIMERS 17 8 = o.toNat
      ∧ rf t Reg.FPT_TWIN_TIMERS 31 18 = h.toNat ∧ t.mbx.witness = w.flatMap (fun v => leBytes 8 v.toNat)
      ∧ t.mbx.deferred = s.mbx.deferred ++ [{ slot := slot, opcode := 0x0510, tag := tag, wait := .twinSet }]
      ∧ Replied t slot 0x0510 tag stDEFERRED [] ∧ SameRegs s t [Reg.FPT_TWIN_CTL, Reg.FPT_TWIN_PORTS, Reg.FPT_TWIN_TIMERS] ∧ SamePool s t))
    ∧ (s.twin.formed = true → Completes (.twinSet slot tag p q f w l o h) s (fun t =>
      Replied t slot 0x0510 tag stCONFLICT [] ∧ SameRegs s t [] ∧ SamePool s t)))
  ∧ (∀ (s : State) (slot : Nat) (tag : Word32) (w : Word64), MayRun s slot 0x0511 tag →
    Completes (.twinQuery slot tag w) s (fun t =>
      (∃ v l, Replied t slot 0x0511 tag stOK (([twinStat s, s.twin.gen, s.twin.toCopy.length, v, s.twin.removed.length, l.length] ++ l).flatMap (leBytes 8))
        ∧ (∀ e, e ∈ l → e ∈ s.twin.removed) ∧ l.length = min 500 (s.twin.removed.length - w.toNat)) ∧ SameRegs s t [] ∧ SamePool s t))
  ∧ (∀ (s : State), twinValid s = true → s.twin.formed = false → mirrorPorts s ≠ [] → (∀ k, k ∈ mirrorPorts s → portUp s k = true) →
      inSafe s = false → Completes .pairForm s (fun t =>
        t.twin.formed = true ∧ t.twin.lost = false ∧ t.twin.lastHeard = now s
        ∧ (rf s Reg.FPT_TWIN_CTL 17 17 = 1 → t.twin.st = twACTIVE ∧ t.twin.toCopy = mirroredPages s)
        ∧ (rf s Reg.FPT_TWIN_CTL 17 17 = 0 → t.twin.st = twSYNCING ∧ t.twin.toCopy = []) ∧ SameRegs s t [] ∧ t.mem = s.mem ∧ t.xlt = s.xlt))
  ∧ (∀ (s : State) (slot : Nat) (tag : Word32), s.twin.formed = true → session s slot ≠ none → s.twin.replies = [] →
      s.mbx.deferred = [{ slot := slot, opcode := 0x0510, tag := tag, wait := .twinSet }] →
    (s.twin.st = twACTIVE → Completes .initialCopyDone s (fun t =>
      t.twin.toCopy = [] ∧ t.twin.st = twACTIVE ∧ t.mbx.deferred = [] ∧ Replied t slot 0x0510 tag stOK [] ∧ SameRegs s t [] ∧ t.mem = s.mem
      ∧ t.xlt = s.xlt))
    ∧ (s.twin.st = twSYNCING → inSafe s = false → Completes .resyncDone s (fun t =>
      t.twin.st = twSTANDBY ∧ t.twin.standbyAt = now s ∧ t.mbx.deferred = [] ∧ Replied t slot 0x0510 tag stOK [] ∧ SameRegs s t []
      ∧ t.mem = s.mem ∧ t.xlt = s.xlt)))
  ∧ (∀ (s : State), s.twin.formed = true → inSafe s = false → s.twin.st = twSOLO → s.twin.peerSt = twSYNCING → Completes .resyncDone s (fun t =>
      t.twin.st = twACTIVE ∧ t.twin.dirty = [] ∧ t.twin.toCopy = [] ∧ t.twin.bytes = s.twin.bytes + s.twin.toCopy.length * 4096
      ∧ (∀ n i, n < 6 → i < 15728640 → memByte t.mem (resPpa n 4 i) = 0#8)
      ∧ (∀ a, (∀ n, n < 6 → a < resPpa n 4 0 ∨ resPpa n 4 0 + 15728640 ≤ a) → memByte t.mem a = memByte s.mem a) ∧ SameRegs s t []
      ∧ t.xlt = s.xlt))
  ∧ (∀ (s : State), s.twin.formed = true → s.twin.lost = false → inSafe s = false →
    (s.twin.st = twACTIVE → Completes .mirrorLoss s (fun t =>
      t.twin.st = twISOLATED ∧ t.twin.lost = true ∧ t.twin.isolatedAt = now t ∧ t.twin.gen = s.twin.gen
      ∧ (mirrorDown s = false → s.twin.lastHeard + rf s Reg.FPT_TWIN_TIMERS 7 0 * 1000 ≤ now t)
      ∧ (mirrorDown s = true → now t = now s) ∧ t.xlt = s.xlt ∧ t.sched = s.sched))
    ∧ (s.twin.st = twSTANDBY → Completes .mirrorLoss s (fun t =>
      t.twin.st = twSTANDBY ∧ t.twin.lost = true ∧ t.xlt = s.xlt ∧ t.sched = s.sched)))
  ∧ (∀ (s : State), s.twin.formed = true → s.twin.lost = true → inSafe s = false → mirrorDown s = false → s.fab.own = [] → s.twin.heldReqs = [] →
      s.eth.qps = [] → s.twin.st = twISOLATED → Completes .mirrorRestored s (fun t =>
        t.twin = { s.twin with st := twACTIVE, lost := false, lastHeard := now s } ∧ SameRegs s t [] ∧ t.mem = s.mem ∧ t.xlt = s.xlt))
  ∧ (∀ (s : State), s.twin.formed = true → inSafe s = false → mirrorDown s = false → s.twin.st = twHALTED → s.twin.peerSt = twSOLO →
      s.twin.replies = [] → s.sched.ctxs = [] → Completes .mirrorRestored s (fun t =>
        t.twin.st = twSYNCING ∧ t.twin.lost = false ∧ t.twin.journal = [] ∧ t.twin.dirty = [] ∧ SameRegs s t [] ∧ t.mem = s.mem ∧ t.xlt = s.xlt))
  ∧ (∀ (s : State), s.twin.st = twISOLATED → s.twin.heldReqs = [] → Completes .soloWaitExpire s (fun t =>
      t.twin = { s.twin with st := twHALTED, handing := false } ∧ s.twin.isolatedAt + rf s Reg.FPT_TWIN_TIMERS 17 8 * 1000 ≤ now t
      ∧ SameRegs s t [] ∧ t.mem = s.mem ∧ t.xlt = s.xlt))
  ∧ (∀ (s : State) (slot : Nat) (tag : Word32), s.twin.heldReqs = [] →
    (MayRun s slot 0x0513 tag → (s.twin.st ∈ [twACTIVE, twISOLATED, twSOLO, twSYNCING] → Completes (.twinDemote slot tag) s (fun t =>
        t.twin = { s.twin with st := twHALTED, handing := false } ∧ Replied t slot 0x0513 tag stOK [] ∧ SameRegs s t [] ∧ t.mem = s.mem))
      ∧ (s.twin.st ∉ [twACTIVE, twISOLATED, twSOLO, twSYNCING, twHALTED] → Completes (.twinDemote slot tag) s (fun t =>
        Replied t slot 0x0513 tag stINVALID [] ∧ SameRegs s t [] ∧ SamePool s t)))
    ∧ (MayRun s slot 0x0514 tag → (s.twin.st = twISOLATED → s.fab.own = [] → s.twin.replies = [] → s.eth.qps = [] →
        Completes (.twinSolo slot tag) s (fun t =>
          t.twin = { s.twin with st := twSOLO, gen := (s.twin.gen + 1) % 2 ^ 32, handing := false } ∧ Replied t slot 0x0514 tag stOK []
          ∧ SameRegs s t [] ∧ t.mem = s.mem))
      ∧ (s.twin.st ≠ twISOLATED → s.twin.st ≠ twSOLO → Completes (.twinSolo slot tag) s (fun t =>
        Replied t slot 0x0514 tag stINVALID [] ∧ SameRegs s t [] ∧ SamePool s t)))
    ∧ (MayRun s slot 0x0512 tag → DeferRoom s → (s.twin.st = twSTANDBY → s.twin.blocked = [] → Completes (.twinPromote slot tag) s (fun t =>
        t.twin = { s.twin with journal := [], removed := [] } ∧ Replied t slot 0x0512 tag stDEFERRED []
        ∧ t.mbx.deferred = s.mbx.deferred ++ [{ slot := slot, opcode := 0x0512, tag := tag, wait := .twinPromote }]
        ∧ SameRegs s t [] ∧ t.mem = s.mem))
      ∧ (s.twin.st ∉ [twSTANDBY, twHALTED, twSOLO] → Completes (.twinPromote slot tag) s (fun t =>
        Replied t slot 0x0512 tag stINVALID [] ∧ SameRegs s t [] ∧ SamePool s t)))
    ∧ (MayRun s slot 0x0515 tag → DeferRoom s → (s.twin.st = twACTIVE → s.twin.peerSt = twSTANDBY → s.sched.ctxs = [] → s.fab.own = [] →
          s.twin.replies = [] → s.mbx.deferred = [] → session s slot ≠ none → Completes (.twinTakeback slot tag) s (fun t =>
        t.twin = { s.twin with st := twSTANDBY, standbyAt := now s, handing := false } ∧ Replied t slot 0x0515 tag stOK []
        ∧ t.mbx.deferred = [] ∧ SameRegs s t [] ∧ t.mem = s.mem))
      ∧ (s.twin.st ≠ twACTIVE → Completes (.twinTakeback slot tag) s (fun t =>
        Replied t slot 0x0515 tag stINVALID [] ∧ SameRegs s t [] ∧ SamePool s t)))
    ∧ (MayRun s slot 0x0516 tag → s.twin.st = twACTIVE → s.fab.own = [] → s.twin.replies = [] → s.eth.qps = [] → s.mbx.deferred = [] →
      Completes (.twinClear slot tag) s (fun t =>
        t.twin.st = 0 ∧ t.twin.formed = false ∧ twinValid t = false ∧ rg t Reg.FPT_TWIN_CTL = 0 ∧ rg t Reg.FPT_TWIN_PORTS = 0
        ∧ t.mbx.witness = [] ∧ Replied t slot 0x0516 tag stOK [] ∧ SameRegs s t [Reg.FPT_TWIN_CTL, Reg.FPT_TWIN_PORTS] ∧ t.mem = s.mem)))
  ∧ (∀ (s : State) (slot : Nat) (tag : Word32), s.twin.st = twSTANDBY → s.twin.removed = [] → inSafe s = false → s.sched.ctxs = [] →
      s.twin.bulkSeen = [] → s.twin.replies = [] → session s slot ≠ none →
      s.mbx.deferred = [{ slot := slot, opcode := 0x0512, tag := tag, wait := .twinPromote }] → Completes .takeoverDone s (fun t =>
        t.twin.st = twSOLO ∧ t.twin.gen = (s.twin.gen + 1) % 2 ^ 32 ∧ t.twin.journal = [] ∧ t.mbx.deferred = []
        ∧ Replied t slot 0x0512 tag stOK [] ∧ t.xlt = s.xlt))
  ∧ (∀ (s : State), s.twin.formed = true → rf s Reg.FPT_TWIN_CTL 18 18 = 1 → inSafe s = false → s.twin.lost = false →
      s.twin.st = twACTIVE → s.twin.peerSt = twSTANDBY → rf s Reg.FPT_TWIN_CTL 17 17 = 0 → s.sched.ctxs = [] → s.fab.own = [] → s.mbx.deferred = [] →
    Completes .revertHoldExpire s (fun t =>
      t.twin.st = twSTANDBY ∧ t.twin.standbyAt = now t ∧ s.twin.standbyAt + rf s Reg.FPT_TWIN_TIMERS 31 18 * 1000000000 ≤ now t
      ∧ SameRegs s t [] ∧ t.mem = s.mem ∧ t.xlt = s.xlt))

/-- The Ethernet ports (R397 to R399, R408 to R410, R412, R414 to R420, R448): links come up and go down; a frame that is not accepted is counted and
discarded; ARP, neighbour solicitations and echoes for the port's own addresses are answered; priority flow control pauses RoCEv2 frames;
PTP messages give the offset of the time base; of the egress queues TIME goes first, then EVENT, then the queue whose head has
the smallest finish tag; settings of the gates wait for the next cycle.
Where the spec is silent the model's choice stands: assumptions 127, 128, 132. -/
def Obligations.EthernetPortsServe : Prop :=
  (∀ (s : State) (k : Nat), k < 8 → rf s (Reg.ETH_STAT k) 1 0 ≠ 3 →
    (rf s (Reg.ETH_CTL k) 0 0 = 1 → s.pwr.rails ≠ 0 → bootStage s ≠ 8 → Completes (.ethLinkUp k) s (fun t =>
      ethUp t k = true ∧ rf t (Reg.ETH_STAT k) 31 2 = rf s (Reg.ETH_STAT k) 31 2 ∧ SameRegs s t [Reg.ETH_STAT k] ∧ SamePool s t))
    ∧ Completes (.ethLinkDown k) s (fun t =>
      ethUp t k = false ∧ rf t (Reg.ETH_STAT k) 3 3 = 0 ∧ SameRegs s t [Reg.ETH_STAT k] ∧ SamePool s t))
  ∧ (∀ (s : State) (k n : Nat), k < 8 →
    Completes (.ethFrameDiscard k n .badFcs) s (fun t =>
      rg t (Reg.ETH_FCSERR k) = min (rg s (Reg.ETH_FCSERR k) + 1) 0xFFFFFFFF ∧ SameRegs s t [Reg.ETH_FCSERR k] ∧ SamePool s t)
    ∧ (∀ r, r ≠ EthDiscard.badFcs → Completes (.ethFrameDiscard k n r) s (fun t =>
      rg t (Reg.ETH_RXDROP k) = min (rg s (Reg.ETH_RXDROP k) + 1) 0xFFFFFFFF
      ∧ rg64 t (Reg.ETH_RXFRM_LO k) = (rg64 s (Reg.ETH_RXFRM_LO k) + 1) % 2 ^ 64
      ∧ rg64 t (Reg.ETH_RXBYTES_LO k) = (rg64 s (Reg.ETH_RXBYTES_LO k) + n) % 2 ^ 64
      ∧ SameRegs s t (Reg.ETH_RXDROP k :: rxRegs k) ∧ SamePool s t)))
  ∧ (∀ (s : State) (k mac ip d i n : Nat) (b : List Byte), k < 8 →
    (d ≠ 0 → d = (ethPort s k).ipv4 → Completes (.arp k mac ip d) s (fun t =>
      EthQueued s t k 2 (.arp mac ip) ∧ SameRegs s t (rxRegs k) ∧ SamePool s t))
    ∧ (d ≠ (ethPort s k).ipv4 → Completes (.arp k mac ip d) s (fun t => SameEgress s t ∧ SameRegs s t (rxRegs k) ∧ SamePool s t))
    ∧ (d ≠ 0 → d = (ethPort s k).ipv6 → Completes (.neighbourDiscovery k mac ip d) s (fun t =>
      EthQueued s t k 2 (.neighbour mac ip) ∧ SameRegs s t (rxRegs k) ∧ SamePool s t))
    ∧ (d ≠ (ethPort s k).ipv6 → inRecovery s = false → Completes (.neighbourDiscovery k mac ip d) s (fun t =>
      SameEgress s t ∧ SameRegs s t (rxRegs k) ∧ SamePool s t))
    ∧ (d ≠ 0 → d = (ethPort s k).ipv4 ∨ d = (ethPort s k).ipv6 → Completes (.icmpEcho k ip d i n b) s (fun t =>
      EthQueued s t k 2 (.echo ip i n b) ∧ SameRegs s t (rxRegs k) ∧ SamePool s t))
    ∧ (∀ x, rf s (Reg.ETH_CTL k) 4 4 = 1 → d = rf s (Reg.ETH_CTL k) 3 1 → Completes (.pfcFrame k d x) s (fun t =>
      rf t (Reg.ETH_STAT k) 3 3 = b2n x ∧ rf t (Reg.ETH_STAT k) 2 0 = rf s (Reg.ETH_STAT k) 2 0
      ∧ rg t (Reg.ETH_PFCRX k) = min (rg s (Reg.ETH_PFCRX k) + 1) 0xFFFFFFFF
      ∧ SameRegs s t (Reg.ETH_STAT k :: Reg.ETH_PFCRX k :: rxRegs k) ∧ SamePool s t))
    ∧ (∀ x, rf s (Reg.ETH_CTL k) 4 4 = 0 ∨ d ≠ rf s (Reg.ETH_CTL k) 3 1 → Completes (.pfcFrame k d x) s (fun t =>
      rg t (Reg.ETH_RXDROP k) = min (rg s (Reg.ETH_RXDROP k) + 1) 0xFFFFFFFF ∧ rg t (Reg.ETH_STAT k) = rg s (Reg.ETH_STAT k)
      ∧ SameRegs s t (Reg.ETH_RXDROP k :: Reg.ETH_PFCRX k :: rxRegs k) ∧ SamePool s t)))
  ∧ (∀ (s : State) (k net : Nat) (m : PtpMsg), k < 8 → net = k / 4 →
    (rf s Reg.ETH_PTP_CTL 0 0 = 0 ∨ k ≠ ptpPort s net ∨ m.domain ≠ rf s Reg.ETH_PTP_CTL 9 2 → Completes (.ptpMessage k m) s (fun t =>
      t.tb = s.tb ∧ SameEgress s t ∧ SameRegs s t (Reg.ETH_RXDROP k :: rxRegs k) ∧ SamePool s t))
    ∧ (rf s Reg.ETH_PTP_CTL 0 0 = 1 → k = ptpPort s net → m.domain = rf s Reg.ETH_PTP_CTL 9 2 →
      (m.kind = 4 → rf s Reg.ETH_PTP_CTL 1 1 = 0 → tget s.eth.best (1 - net) = none → Completes (.ptpMessage k m) s (fun t =>
        rf t Reg.ETH_PTP_STAT 1 0 = 2 ∧ rf t Reg.ETH_PTP_STAT 2 2 = net ∧ tget t.eth.best net = some m.quality ∧ t.tb = s.tb
        ∧ SameRegs s t (Reg.ETH_PTP_STAT :: rxRegs k) ∧ SamePool s t))
      ∧ (m.kind = 2 → rf s Reg.ETH_PTP_STAT 1 0 = 3 → Completes (.ptpMessage k m) s (fun t =>
        EthQueued s t k 0 (.ptp 3 m.origin m.arrival) ∧ t.tb = s.tb ∧ SameRegs s t (rxRegs k) ∧ SamePool s t))
      ∧ (rf s Reg.ETH_PTP_STAT 1 0 = 2 → rf s Reg.ETH_PTP_STAT 2 2 = net →
        (m.kind = 0 → m.twoStep = false → Completes (.ptpMessage k m) s (fun t =>
          t.eth.ptpT1 = m.origin ∧ t.eth.ptpT2 = m.arrival ∧ t.eth.ptpT3 = now s ∧ EthQueued s t k 0 (.ptp 2 (now s) 0)
          ∧ SameRegs s t (rxRegs k) ∧ SamePool s t))
        ∧ (m.kind = 0 → m.twoStep = true → Completes (.ptpMessage k m) s (fun t =>
          t.eth = { s.eth with ptpT2 := m.arrival } ∧ SameRegs s t (rxRegs k) ∧ SamePool s t))
        ∧ (m.kind = 1 → Completes (.ptpMessage k m) s (fun t =>
          t.eth.ptpT1 = m.origin ∧ t.eth.ptpT2 = s.eth.ptpT2 ∧ t.eth.ptpT3 = now s ∧ EthQueued s t k 0 (.ptp 2 (now s) 0)
          ∧ SameRegs s t (rxRegs k) ∧ SamePool s t))
        ∧ (∀ o : Int, m.kind = 3 → rf s Reg.PWR_TB_CTL 1 0 = 1 → isFollower s = false → s.tb.everLocked = true → s.tb.timeFault = false →
            o = (((s.eth.ptpT1 : Int) - s.eth.ptpT2) + ((m.origin : Int) - s.eth.ptpT3)) / 2 → o.natAbs ≤ 1000000 →
          Completes (.ptpMessage k m) s (fun t =>
            t.tb.inc = steerInc o ∧ now t = now s ∧ t.tb.locked = true ∧ t.tb.offset = o ∧ SameRegs s t (Reg.PWR_TB_OFFSET :: rxRegs k)
            ∧ SamePool s t)))))
  ∧ (∀ (s : State) (net q : Nat), rf s Reg.ETH_PTP_CTL 1 0 = 1 → rf s Reg.ETH_PTP_STAT 1 0 = 2 → net = rf s Reg.ETH_PTP_STAT 2 2 →
      tget s.eth.best (1 - net) = some q → Completes .announceTimeout s (fun t =>
        rf t Reg.ETH_PTP_STAT 1 0 = 2 ∧ rf t Reg.ETH_PTP_STAT 2 2 = 1 - net ∧ tget t.eth.best net = none ∧ t.tb = s.tb
        ∧ SameRegs s t [Reg.ETH_PTP_STAT] ∧ SamePool s t))
  ∧ (∀ (s : State) (slot : Nat) (tag : Word32) (c : Word64), MayRun s slot 0x0446 tag → Alone s → onlyBits c 0xFFFF = true →
      bits c.toNat 15 14 ≠ 3 → Completes (.ptpSet slot tag c) s (fun t =>
        rg t Reg.ETH_PTP_CTL = c.toNat ∧ rg t Reg.ETH_PTP_STAT = bits c.toNat 0 0 ∧ t.eth.best = []
        ∧ SameRegs s t [Reg.ETH_PTP_CTL, Reg.ETH_PTP_STAT] ∧ Replied t slot 0x0446 tag stOK [] ∧ SamePool s t))
  ∧ (∀ (s : State) (k : Nat) (f g : EthFrame), k < 8 → ethUp s k = true → frameQp f.kind = none → frameQp g.kind = none →
    (∀ rest, tgetD (ethPort s k).queues 0 [] = f :: rest → Completes (.egressFrameSend k) s (fun t =>
      t.out = .frame k f :: s.out ∧ tgetD (ethPort t k).queues 0 [] = rest
      ∧ rg64 t (Reg.ETH_TXFRM_LO k) = (rg64 s (Reg.ETH_TXFRM_LO k) + 1) % 2 ^ 64
      ∧ rg64 t (Reg.ETH_TXBYTES_LO k) = (rg64 s (Reg.ETH_TXBYTES_LO k) + f.len) % 2 ^ 64 ∧ SamePool s t))
    ∧ (∀ rest, tgetD (ethPort s k).queues 0 [] = [] → tgetD (ethPort s k).queues 1 [] = f :: rest → 8 * f.len ≤ eventTokens s k (ethPort s k) →
      Completes (.egressFrameSend k) s (fun t =>
        t.out = .frame k f :: s.out ∧ tgetD (ethPort t k).queues 1 [] = rest ∧ (ethPort t k).tokens = eventTokens s k (ethPort s k) - 8 * f.len
        ∧ (ethPort t k).tokensAt = now s ∧ SamePool s t))
    ∧ (∀ u a b, (ethPort s k).queues = [(2, [f]), (16 + u, [g])] → f.tag = some a → g.tag = some b →
      (a ≤ b ∨ mayCompete s k (16 + u) g = false → Completes (.egressFrameSend k) s (fun t =>
        t.out = .frame k f :: s.out ∧ (ethPort t k).queues = [(2, []), (16 + u, [g])] ∧ (ethPort t k).virt = a ∧ SamePool s t))
      ∧ (b < a → mayCompete s k (16 + u) g = true → Completes (.egressFrameSend k) s (fun t =>
        t.out = .frame k g :: s.out ∧ (ethPort t k).queues = [(2, [f]), (16 + u, [])] ∧ (ethPort t k).virt = b ∧ SamePool s t)))
    ∧ (∀ u b, (ethPort s k).queues = [(16 + u, [g])] → g.tag = some b → rf s (Reg.ETH_STAT k) 3 3 = 1 ∨ rf s Reg.PLN_SAFE 0 0 = 1 →
      Completes (.egressFrameSend k) s (fun t => t.out = s.out ∧ SameEgress s t ∧ SameRegs s t [] ∧ SamePool s t)))
  ∧ (∀ (s : State) (slot k : Nat) (tag : Word32) (p a c i4 g4 il ih n6 gl gh : Word64), MayRun s slot 0x0440 tag → Alone s → DeferRoom s →
      p.toNat ≤ 7 → k = p.toNat → onlyBits c 0x1FFFF = true → onlyBits i4 0x3FFFFFFFFF = true → bits i4.toNat 37 32 ≤ 32 →
      onlyBits g4 0xFFFFFFFF = true → n6.toNat ≤ 128 →
    (a = 0#64 → Completes (.ethPortSet slot tag p a c i4 g4 il ih n6 gl gh) s (fun t =>
      rf t (Reg.ETH_CTL k) 16 1 = bits c.toNat 16 1 ∧ rf t (Reg.ETH_CTL k) 0 0 = rf s (Reg.ETH_CTL k) 0 0
      ∧ (ethPort t k).ipv4 = bits i4.toNat 31 0 ∧ (ethPort t k).plen4 = bits i4.toNat 37 32 ∧ (ethPort t k).gw4 = g4.toNat
      ∧ (ethPort t k).ipv6 = il.toNat + 2 ^ 64 * ih.toNat ∧ (ethPort t k).plen6 = n6.toNat ∧ (ethPort t k).gw6 = gl.toNat + 2 ^ 64 * gh.toNat
      ∧ SameRegs s t [Reg.ETH_CTL k] ∧ Replied t slot 0x0440 tag stOK [] ∧ SamePool s t))
    ∧ (a = 1#64 → (ethPort s k).draining = false → rf s (Reg.ETH_STAT k) 1 0 ≠ 3 →
      Completes (.ethPortSet slot tag p a c i4 g4 il ih n6 gl gh) s (fun t =>
        (ethPort t k).draining = true ∧ Replied t slot 0x0440 tag stDEFERRED [] ∧ SameRegs s t [] ∧ SamePool s t
        ∧ t.mbx.deferred = s.mbx.deferred ++ [{ slot := slot, opcode := 0x0440, tag := tag, wait := .ethDisable k }]))
    ∧ (a = 2#64 → (ethPort s k).draining = false → rf s (Reg.ETH_STAT k) 1 0 = 3 →
      Completes (.ethPortSet slot tag p a c i4 g4 il ih n6 gl gh) s (fun t =>
        rf t (Reg.ETH_CTL k) 0 0 = 1 ∧ rf t (Reg.ETH_STAT k) 1 0 = 1 ∧ Replied t slot 0x0440 tag stOK []
        ∧ SameRegs s t [Reg.ETH_CTL k, Reg.ETH_STAT k] ∧ SamePool s t)))
  ∧ (∀ (s : State) (k slot : Nat) (tag : Word32), k < 8 → (ethPort s k).draining = true → session s slot ≠ none → s.twin.replies = [] →
      s.mbx.deferred = [{ slot := slot, opcode := 0x0440, tag := tag, wait := .ethDisable k }] → Completes (.ethPortDrainDone k) s (fun t =>
        (ethPort t k).draining = false ∧ rf t (Reg.ETH_CTL k) 0 0 = 0 ∧ rf t (Reg.ETH_STAT k) 1 0 = 3 ∧ t.mbx.deferred = []
        ∧ Replied t slot 0x0440 tag stOK [] ∧ SameRegs s t [Reg.ETH_CTL k, Reg.ETH_STAT k] ∧ SamePool s t))
  ∧ (∀ (s : State) (slot : Nat) (tag : Word32) (p e y : Word64) (l : List Word64),
    (MayRun s slot 0x0441 tag → p.toNat ≤ 7 → Completes (.ethPortQuery slot tag p) s (fun t =>
      Replied t slot 0x0441 tag stOK ((ethStat s p.toNat :: ethCounters s p.toNat).flatMap (leBytes 8)) ∧ SameRegs s t [] ∧ SamePool s t))
    ∧ (MayRun s slot 0x0445 tag → Alone s → p.toNat ≤ 7 → onlyBits e 0x1FFFFFF = true → bits e.toNat 7 0 ≠ 0 → bits e.toNat 15 8 ≠ 0 →
        10000 ≤ y.toNat → y.toNat ≤ 100000000 → l.length ≤ 64 → (∀ w, w ∈ l → onlyBits w 0x3FFFFFFF = true ∧ bit w.toNat 29 = true) →
        (l.map (fun w => bits w.toNat 19 0 * 8)).foldl (· + ·) 0 = y.toNat →
      Completes (.egressSet slot tag p e y l) s (fun t =>
        (ethPort t p.toNat).pendingEgr = some (e.toNat, y.toNat, l.map (·.toNat)) ∧ (ethPort t p.toNat).gate = (ethPort s p.toNat).gate
        ∧ Replied t slot 0x0445 tag stOK [] ∧ SameRegs s t [] ∧ SamePool s t)))

/-- RoCEv2 queue pairs (R399 to R407, R418, R458): a queue pair is created, drained and freed by command; a WRITE writes its payload, an atomic operation
writes its result and answers the word before it, and each is acknowledged; a READ is answered packet by packet; a PSN that is ahead is
answered with a NAK and changes no memory; an unsupported opcode or a wrong RKEY puts the pair into ERROR; a CNP halves the egress
rate limit, which rises again by 5 Gb/s.
Where the spec is silent the model's choice stands: assumptions 129, 131. -/
def Obligations.QueuePairsReadAndWrite : Prop :=
  (∀ (s : State) (k q : Nat) (p : QPair) (m : RocePkt) (a v n : Nat) (rs : List Nat), RoceReq s k q p m → n = m.payload.length →
      rs = rxRegs k ++ [Reg.XLT_TN_BYTES_LO p.tenant, Reg.XLT_TN_BYTES_LO p.tenant + 4] →
    (RoceTarget s p m pWR n a → m.opcode = 10 → m.len = n → n ≠ 0 → n ≤ p.mtu → bit p.access 1 = true →
      Completes (.rdmaWrite k m) s (fun t =>
        t.mem = memWrite s.mem a m.payload ∧ (∀ x, x < a ∨ a + n ≤ x → memByte t.mem x = memByte s.mem x)
        ∧ EthQueued s t k (16 + p.tenant) (.roceAck q m.psn 0)
        ∧ (∃ p', tget t.eth.qps q = some p' ∧ p'.epsn = (p.epsn + 1) % 2 ^ 24 ∧ p'.error = false ∧ p'.writing = none ∧ p'.waiting = [])
        ∧ SameRegs s t rs ∧ t.xlt.views = s.xlt.views ∧ t.xlt.faults = s.xlt.faults ∧ t.dirc = s.dirc))
    ∧ (RoceTarget s p m pWR n a → m.opcode = 6 → n = p.mtu → n < m.len → m.len ≤ 2 ^ 31 → m.va % 2 ^ 30 + m.len ≤ 2 ^ 30 → m.va + m.len ≤ 2 ^ 48 →
        n ≠ 0 → bit p.access 1 = true → Completes (.rdmaWrite k m) s (fun t =>
        t.mem = memWrite s.mem a m.payload ∧ SameEgress s t
        ∧ (∃ p', tget t.eth.qps q = some p' ∧ p'.epsn = (p.epsn + 1) % 2 ^ 24 ∧ p'.error = false ∧ p'.writing = some (m.va + n, m.len - n))
        ∧ SameRegs s t rs ∧ t.dirc = s.dirc))
    ∧ (RoceTarget s p m pRD m.len a → m.len ≠ 0 → m.len ≤ 2 ^ 31 → bit p.access 0 = true → Completes (.rdmaReadRequest k m) s (fun t =>
        (∃ p' r, tget t.eth.qps q = some p' ∧ p'.reads = [r] ∧ r.psn = m.psn ∧ r.va = m.va ∧ r.len = m.len ∧ r.sent = 0
          ∧ p'.epsn = (p.epsn + readPackets p m.len) % 2 ^ 24 ∧ p'.error = false)
        ∧ SameEgress s t ∧ t.mem = s.mem ∧ SameRegs s t (rxRegs k) ∧ t.dirc = s.dirc))
    ∧ (RoceTarget s p m pATOM 8 a → m.va % 8 = 0 → bit p.access 2 = true → v = leNat (memRead s.mem a 8) →
      Completes (.compareAndSwap k m) s (fun t =>
        t.mem = memWrite s.mem a (leBytes 8 (if v = m.compare.toNat then m.swapAdd.toNat else v))
        ∧ (∀ x, x < a ∨ a + 8 ≤ x → memByte t.mem x = memByte s.mem x)
        ∧ EthQueued s t k (16 + p.tenant) (.roceAtomic q m.psn (BitVec.ofNat 64 v))
        ∧ (∃ p', tget t.eth.qps q = some p' ∧ p'.epsn = (p.epsn + 1) % 2 ^ 24 ∧ p'.atomics.head? = some (m.psn, BitVec.ofNat 64 v))
        ∧ SameRegs s t rs ∧ t.dirc = s.dirc)
      ∧ Completes (.fetchAndAdd k m) s (fun t =>
        t.mem = memWrite s.mem a (leBytes 8 ((v + m.swapAdd.toNat) % 2 ^ 64))
        ∧ (∀ x, x < a ∨ a + 8 ≤ x → memByte t.mem x = memByte s.mem x)
        ∧ EthQueued s t k (16 + p.tenant) (.roceAtomic q m.psn (BitVec.ofNat 64 v))
        ∧ (∃ p', tget t.eth.qps q = some p' ∧ p'.epsn = (p.epsn + 1) % 2 ^ 24 ∧ p'.atomics.head? = some (m.psn, BitVec.ofNat 64 v))
        ∧ SameRegs s t rs ∧ t.dirc = s.dirc))
    ∧ (m.opcode ∉ [6, 7, 8, 10, 0x0C, 0x13, 0x14] → Completes (.invalidRocePacket k m) s (fun t =>
        (∃ p', tget t.eth.qps q = some p' ∧ p'.error = true ∧ p'.nakInvalid = p.nakInvalid + 1)
        ∧ EthQueued s t k (16 + p.tenant) (.roceAck q m.psn nakINVALID) ∧ t.mem = s.mem ∧ SameRegs s t (rxRegs k) ∧ t.xlt = s.xlt))
    ∧ (m.opcode = 10 → m.len = n → n ≠ 0 → n ≤ p.mtu → m.len ≤ 2 ^ 31 → m.rkey ≠ p.rkey → Completes (.invalidRocePacket k m) s (fun t =>
        (∃ p', tget t.eth.qps q = some p' ∧ p'.error = true ∧ p'.nakAccess = p.nakAccess + 1)
        ∧ EthQueued s t k (16 + p.tenant) (.roceAck q m.psn nakACCESS) ∧ t.mem = s.mem ∧ SameRegs s t (rxRegs k) ∧ t.xlt = s.xlt)))
  ∧ (∀ (s : State) (k q d : Nat) (p : QPair) (m : RocePkt), RoceReq s k q p { m with psn := p.epsn } → d = (m.psn + 2 ^ 24 - p.epsn) % 2 ^ 24 →
      0 < d → d < 2 ^ 23 →
    (p.nakked = false → Completes (.invalidRocePacket k m) s (fun t =>
        (∃ p', tget t.eth.qps q = some p' ∧ p'.nakked = true ∧ p'.seqErrors = p.seqErrors + 1 ∧ p'.epsn = p.epsn ∧ p'.error = false)
        ∧ EthQueued s t k (16 + p.tenant) (.roceAck q p.epsn nakSEQ) ∧ t.mem = s.mem ∧ SameRegs s t (rxRegs k) ∧ t.xlt = s.xlt))
    ∧ (p.nakked = true → Completes (.invalidRocePacket k m) s (fun t => SameEgress s t ∧ t.mem = s.mem ∧ SameRegs s t (rxRegs k) ∧ t.xlt = s.xlt)))
  ∧ (∀ (s : State) (q off n a e slot : Nat) (p : QPair) (r : RoceRead), tget s.eth.qps q = some p → p.error = false → p.draining = false →
      (ethPort s p.port).draining = false → p.waiting = [] → p.mirrorAcks = 0 → p.reads = [r] → 0 < p.mtu → off = r.sent * p.mtu →
      off < r.len → n = min p.mtu (r.len - off) → slot = (r.va + off) / 2 ^ 30 % 2 ^ 18 → r.units = [(slot, e, epochOf s e, s.xlt.era)] →
      a = ppaOf e ((r.va + off) % 2 ^ 30) → (r.va + off) % 2 ^ 30 + n ≤ 2 ^ 30 → Clean s → PlainExtent s a →
    Completes (.readResponseSend q) s (fun t =>
      EthQueued s t p.port (16 + p.tenant) (.roceRead q ((r.psn + r.sent) % 2 ^ 24)
        (if r.sent = 0 then (if r.len ≤ off + n then 3 else 0) else if r.len ≤ off + n then 2 else 1) (memRead s.mem a n))
      ∧ (∃ p', tget t.eth.qps q = some p' ∧ p'.reads = (if r.len ≤ off + n then [] else [{ r with sent := r.sent + 1 }]))
      ∧ t.mem = s.mem ∧ SameRegs s t [Reg.XLT_TN_BYTES_LO p.tenant, Reg.XLT_TN_BYTES_LO p.tenant + 4] ∧ t.xlt = s.xlt ∧ t.dirc = s.dirc))
  ∧ (∀ (s : State) (slot : Nat) (tag : Word32) (q u k c i0 i1 w x r : Word64), MayRun s slot 0x0442 tag → Alone s → DeferRoom s →
      q.toNat ≤ 4095 → u.toNat ≤ 255 → k.toNat ≤ 7 → onlyBits c 0xFFFFFFFFFFFF = true → onlyBits w 0x00FFFFFF00FFFFFF = true →
      onlyBits x 0x703 = true → bits x.toNat 1 0 ≠ 3 → onlyBits r 0xFFFFFFFF = true →
    (tenantExists s u.toNat = true → isolated s u.toNat = false → tget s.eth.qps q.toNat = none →
      Completes (.qpCreate slot tag q u k c i0 i1 w x r) s (fun t =>
        tget t.eth.qps q.toNat = some (newQp u.toNat k.toNat c.toNat (i0.toNat + 2 ^ 64 * i1.toNat) (bits w.toNat 23 0) (bits w.toNat 55 32)
          (1024 * 2 ^ bits x.toNat 1 0) (bits x.toNat 10 8) r.toNat)
        ∧ (∀ y, y ≠ q.toNat → tget t.eth.qps y = tget s.eth.qps y) ∧ Replied t slot 0x0442 tag stOK [] ∧ SameRegs s t [] ∧ SamePool s t))
    ∧ (tenantExists s u.toNat = false → Completes (.qpCreate slot tag q u k c i0 i1 w x r) s (fun t =>
        t.eth.qps = s.eth.qps ∧ Replied t slot 0x0442 tag stINVALID [] ∧ SameRegs s t [] ∧ SamePool s t)))
  ∧ (∀ (s : State) (slot : Nat) (tag : Word32) (q : Word64) (p : QPair), q.toNat ≤ 4095 → tget s.eth.qps q.toNat = some p →
    (MayRun s slot 0x0443 tag → Alone s → DeferRoom s → s.mbx.deferred = [] → Completes (.qpDestroy slot tag q) s (fun t =>
        tget t.eth.qps q.toNat = some { p with draining := true } ∧ (∀ y, y ≠ q.toNat → tget t.eth.qps y = tget s.eth.qps y)
        ∧ t.mbx.deferred = [{ slot := slot, opcode := 0x0443, tag := tag, wait := .qpDestroy q.toNat }]
        ∧ Replied t slot 0x0443 tag stDEFERRED [] ∧ SameRegs s t [] ∧ SamePool s t))
    ∧ (MayRun s slot 0x0444 tag → Completes (.qpQuery slot tag q) s (fun t =>
        Replied t slot 0x0444 tag stOK ([if p.error then 2 else 1, p.tenant, p.port, p.epsn, p.seqErrors, p.dupWrites, p.dupReads, p.dupAtomics,
          p.nakInvalid, p.nakAccess, p.nakOper, p.late].flatMap (leBytes 8)) ∧ t.eth.qps = s.eth.qps ∧ SameRegs s t [] ∧ SamePool s t)))
  ∧ (∀ (s : State) (q slot : Nat) (tag : Word32) (p : QPair), tget s.eth.qps q = some p →
    (p.draining = true → session s slot ≠ none → s.twin.replies = [] →
        s.mbx.deferred = [{ slot := slot, opcode := 0x0443, tag := tag, wait := .qpDestroy q }] → Completes (.qpDestroyDone q) s (fun t =>
      tget t.eth.qps q = none ∧ (∀ y, y ≠ q → tget t.eth.qps y = tget s.eth.qps y) ∧ t.mbx.deferred = []
      ∧ Replied t slot 0x0443 tag stOK [] ∧ SameRegs s t [] ∧ SamePool s t))
    ∧ (p.error = false → Completes (.cnp p.port q) s (fun t =>
      tget t.eth.qps q = some { p with rate := max 1000 (p.rate / 2), cnpSeenAt := now s }
      ∧ rg t (Reg.ETH_CNPRX p.port) = min (rg s (Reg.ETH_CNPRX p.port) + 1) 0xFFFFFFFF
      ∧ SameRegs s t (Reg.ETH_CNPRX p.port :: rxRegs p.port) ∧ SamePool s t))
    ∧ Completes (.cnpRateTimer q) s (fun t =>
      (∃ y, tget t.eth.qps q = some { p with rate := min 100000 (p.rate + 5000), cnpSeenAt := y } ∧ p.cnpSeenAt + 50000 ≤ y ∧ y = now t)
      ∧ (∀ y, y ≠ q → tget t.eth.qps y = tget s.eth.qps y) ∧ SameRegs s t [] ∧ SamePool s t))

/-- Power is sampled and capped (R517, R518, R520 to R522, R524, R527, R528, R534, R536, R545): a sample enters the mean of ten and the energy, and one above 2,800 W
lowers the cap to 32; a limiter lowers its cap by 4 every 100 µs above its threshold, and raises it by 1 every 1 ms below; the
plate load withdraws the peak at L_LIM; ride-through begins below 44 V and ends after 1 ms at 45 V, and PWR52 low for too long, a
rail out of limits, a thermal trip and a lost clock enter the fatal safe state.
Where the spec is silent the model's choice stands: assumptions 147, 148, 150, 152. -/
def Obligations.PowerIsSampledAndCapped : Prop :=
  (∀ (s : State) (mv ma w : Nat), w = mv * ma / 1000 → s.pwr.thermalCap = false →
    Completes (.powerSample mv ma) s (fun t =>
      s.pwr.sampledAt + 10000 ≤ now t ∧ t.pwr.sampledAt = now t ∧ t.pwr.samples = (w :: s.pwr.samples).take 10 ∧ t.pwr.current = ma
      ∧ rf t Reg.PWR_INPUT 15 0 = min (inputMw t.pwr / 1000) 65535 ∧ rf t Reg.PWR_INPUT 27 16 = min (mv / 100) 4095
      ∧ rg64 t Reg.PWR_ENERGY_LO = (rg64 s Reg.PWR_ENERGY_LO + (s.pwr.energy + w) / 100000) % 2 ^ 64 ∧ t.pwr.energy = (s.pwr.energy + w) % 100000
      ∧ t.pwr.capPower = (if 2800000 < w then min s.pwr.capPower 32 else s.pwr.capPower)
      ∧ t.pwr.capJunction = s.pwr.capJunction ∧ t.pwr.capStack = s.pwr.capStack
      ∧ (∀ a, a = min t.pwr.capPower (min t.pwr.capJunction t.pwr.capStack) → 1 ≤ a → a ≤ 64 → capA t = a)
      ∧ rf t Reg.PWR_STAT 2 2 = b2n (decide (44000 ≤ mv))
      ∧ rg t Reg.PWR_THROTTLE = (if capA s < 64 then min (rg s Reg.PWR_THROTTLE + 10) 0xFFFFFFFF else rg s Reg.PWR_THROTTLE)
      ∧ SameRegs s t [Reg.PWR_ENERGY_LO, Reg.PWR_ENERGY_LO + 4, Reg.PWR_INPUT, Reg.PWR_STAT, Reg.PWR_THROTTLE] ∧ SamePool s t))
  ∧ (∀ (s : State) (x c : Nat) (h : Nat × Nat), x < 64 → h = hottest (tset s.pwr.junction x c) → Completes (.junctionSensorRead x c) s (fun t =>
      t.pwr.junction = tset s.pwr.junction x c ∧ rf t Reg.PWR_THERM 23 16 = min h.1 255 ∧ rf t Reg.PWR_THERM 26 24 = sensorDie h.2
      ∧ rf t Reg.PWR_THERM 15 0 = rf s Reg.PWR_THERM 15 0 ∧ t.pwr.junctionHot = heat s.pwr.junctionHot h.1 (rf s Reg.PWR_THERM 7 0)
      ∧ (rf s Reg.PWR_THERM 7 0 ≤ h.1 → bit t.brd.statusTemp 0 = true) ∧ t.xlt = s.xlt ∧ t.sched = s.sched))
  ∧ (∀ (s : State), Completes .limiterTick s (fun t =>
      now t = max (now s) (s.pwr.tickAt + 100000) ∧ t.pwr.tickAt = now t
      ∧ t.pwr.junctionHot = heat s.pwr.junctionHot (hottest s.pwr.junction).1 (rf s Reg.PWR_THERM 7 0)
      ∧ t.pwr.stackHot = heat s.pwr.stackHot (hottest s.pwr.stackTemp).1 (rf s Reg.PWR_THERM 15 8)
      ∧ t.pwr.capJunction = (if t.pwr.junctionHot then max 1 (s.pwr.capJunction - 4)
          else if s.pwr.capJunction < 64 ∧ s.pwr.junctionAt + 1000000 ≤ now t then s.pwr.capJunction + 1 else s.pwr.capJunction)
      ∧ t.pwr.capStack = (if t.pwr.stackHot then max 1 (s.pwr.capStack - 4)
          else if s.pwr.capStack < 64 ∧ s.pwr.stackAt + 1000000 ≤ now t then s.pwr.capStack + 1 else s.pwr.capStack)
      ∧ (s.pwr.ramp = none → t.pwr.capPower = (if limitMw s < inputMw s.pwr then max 1 (s.pwr.capPower - 4)
          else if inputMw s.pwr + 50000 < limitMw s ∧ s.pwr.capPower < 64 ∧ s.pwr.powerAt + 1000000 ≤ now t then s.pwr.capPower + 1
          else s.pwr.capPower))
      ∧ t.xlt = s.xlt ∧ t.sched = s.sched))
  ∧ (∀ (s : State) (l : Nat), rf s Reg.PWR_STAT 3 3 = 1 → s.pwr.loadInit = true →
      l = ((s.pwr.load : Int) + ((1000 * (s.pwr.accW / max s.pwr.accN 1) : Nat) - (s.pwr.load : Int)) / ((10 * max (rf s Reg.PWR_MODEL_TAU 15 0) 1 : Nat) : Int)).toNat →
      Completes .plateModelUpdate s (fun t =>
        now t = max (now s) (s.pwr.loadAt + 1000000) ∧ t.pwr.load = l ∧ t.pwr.accW = 0 ∧ t.pwr.accN = 0
        ∧ rf t Reg.PWR_LOAD 15 0 = min (l / 100000) 65535
        ∧ (rf s Reg.PWR_MODEL_LIM 15 0 ≤ l / 100000 → t.pwr.armed = false
          ∧ (s.pwr.armed = true → rg t Reg.PWR_PEAKS = min (rg s Reg.PWR_PEAKS + 1) 0xFFFFFFFF))
        ∧ (l / 100000 < rf s Reg.PWR_MODEL_LIM 15 0 → t.pwr.armed = (s.pwr.armed || decide (l / 100000 ≤ rf s Reg.PWR_MODEL_LIM 31 16))
          ∧ rg t Reg.PWR_PEAKS = rg s Reg.PWR_PEAKS) ∧ t.xlt = s.xlt ∧ t.sched = s.sched))
  ∧ (∀ (s : State), inRide s = false → s.pwr.belowSince ≠ none → rf s Reg.PWR_STAT 3 3 = 1 → Completes .rideThroughEnter s (fun t =>
      inRide t = true ∧ rg t Reg.PWR_RIDES = min (rg s Reg.PWR_RIDES + 1) 0xFFFFFFFF ∧ bit t.brd.statusInput 0 = true
      ∧ t.pwr.capPower = min s.pwr.capPower (if rf s Reg.PWR_RIDE 17 12 = 0 then 64 else rf s Reg.PWR_RIDE 17 12)
      ∧ limitMw t = 1000 * rf s Reg.PWR_RIDE 11 0 ∧ t.xlt = s.xlt ∧ t.sched = s.sched))
  ∧ (∀ (s : State) (x : Nat), inRide s = true → s.pwr.aboveSince = some x → Completes .rideThroughExit s (fun t =>
      inRide t = false ∧ x + 1000000 ≤ now t ∧ t.pwr.pendingSet = none
      ∧ (∀ w, s.pwr.pendingSet = some w → rg t Reg.PWR_LIMIT = w % 2 ^ 32) ∧ (s.pwr.pendingSet = none → rg t Reg.PWR_LIMIT = rg s Reg.PWR_LIMIT)
      ∧ t.xlt = s.xlt ∧ t.sched = s.sched))
  ∧ (∀ (s : State), inSafe s = false → rf s Reg.PWR_STAT 3 3 = 1 →
    (∀ a b, s.pwr.belowSince = some a → s.pwr.below40 = b → Completes .busLowTimeout s (fun t =>
      inSafe t = true ∧ t.bus.held = true ∧ bit t.brd.statusInput 1 = true ∧ (b = none → a + 20000000 ≤ now t)
      ∧ (∀ y, b = some y → min (a + 20000000) (y + 50000) ≤ now t) ∧ t.xlt = s.xlt))
    ∧ Completes .vanaFault s (fun t => inSafe t = true ∧ t.bus.held = true ∧ rf t Reg.PWR_STAT 1 1 = 0 ∧ bit t.brd.statusInput 1 = true ∧ t.xlt = s.xlt)
    ∧ (∀ r, r < 11 → Completes (.railFault r) s (fun t =>
      inSafe t = true ∧ t.bus.held = true ∧ bit t.pwr.rails r = false ∧ rf t Reg.PWR_STAT 3 3 = 0 ∧ bit t.brd.statusInput 1 = true ∧ t.xlt = s.xlt)))
  ∧ (∀ (s : State), rf s Reg.PWR_STAT 3 3 = 0 → Completes .vanaFault s (fun t =>
      rf t Reg.PWR_STAT 1 1 = 0 ∧ rf t Reg.PWR_STAT 31 2 = rf s Reg.PWR_STAT 31 2 ∧ SameRegs s t [Reg.PWR_STAT] ∧ t.btr = s.btr ∧ SamePool s t))
  ∧ (∀ (s : State) (x p : Nat), inSafe s = false → s.pwr.rails ≠ 0 → x < 64 → p < 8 →
      Completes (.thermalTrip x) s (fun t => inSafe t = true ∧ t.bus.held = true ∧ bit t.brd.statusTemp 1 = true ∧ t.xlt = s.xlt)
      ∧ Completes (.clockLoss p) s (fun t => inSafe t = true ∧ t.bus.held = true ∧ bit (rg t Reg.PWR_CLK) p = false ∧ t.xlt = s.xlt))
  ∧ (∀ (s : State) (p : Nat), s.pwr.rails ≠ 0 → 1 ≤ p → p < 8 → Completes (.pllRelock p) s (fun t =>
      bit (rg t Reg.PWR_CLK) p = true ∧ t.mic.level.getLsbD 80 = true ∧ (∀ j, j ≠ 80 → t.mic.level.getLsbD j = s.mic.level.getLsbD j)
      ∧ SameRegs s t [Reg.PWR_CLK] ∧ SamePool s t))

/-- Pool-hold, standby and the resets (R456, R468, R469, R513, R516, R518, R527, R530, R531, R535, R549): pool-hold drains the ports, puts every stack into self-refresh,
and ends by command; STANDBY leaves only the Plinth; a wake on an enabled source starts the module again; power-on reset leaves every
register at its reset value, but keeps the flash and the fuses.
Where the spec is silent the model's choice stands: assumptions 154, 155, 156, 157. -/
def Obligations.PowerStatesChange : Prop :=
  (∀ (s : State) (slot : Nat) (tag : Word32),
    (MayRun s slot 0x0901 tag → Completes (.powerQuery slot tag) s (fun t =>
      Replied t slot 0x0901 tag stOK (([rg s Reg.PWR_INPUT, s.pwr.rails] ++ (List.range 64).map (fun i => tgetD s.pwr.junction i 0)
        ++ (List.range 24).map (fun i => tgetD s.pwr.stackTemp i 0) ++ [rg s Reg.PWR_STAT, rg s Reg.PWR_LIMIT, rg s Reg.PWR_LOAD]).flatMap (leBytes 8))
      ∧ SameRegs s t [] ∧ SamePool s t))
    ∧ (∀ l p : Word64, MayRun s slot 0x0902 tag → 600 ≤ l.toNat → l.toNat ≤ 2000 → p.toNat ≤ 1 →
      (inRide s = false → Completes (.powerSet slot tag l p) s (fun t =>
        rf t Reg.PWR_LIMIT 11 0 = l.toNat ∧ rf t Reg.PWR_LIMIT 12 12 = p.toNat ∧ Replied t slot 0x0902 tag stOK [] ∧ t.xlt = s.xlt))
      ∧ (inRide s = true → Completes (.powerSet slot tag l p) s (fun t =>
        (∃ w, t.pwr = { s.pwr with pendingSet := some w } ∧ bits w 11 0 = l.toNat ∧ bits w 12 12 = p.toNat) ∧ SameRegs s t []
        ∧ Replied t slot 0x0902 tag stOK [] ∧ SamePool s t)))
    ∧ (MayRun s slot 0x0903 tag → DeferRoom s →
      (holdable s = true → Completes (.poolHold slot tag) s (fun t =>
        inHold t = true ∧ (∀ q, q ∈ t.eth.qps → q.2.error = true)
        ∧ (∀ k, k < 32 → (port s k).st ≠ .disabled → (port t k).draining = true)
        ∧ (∀ k, k < 32 → bit t.pwr.heldPorts k = decide ((port s k).st ≠ .disabled)) ∧ Replied t slot 0x0903 tag stDEFERRED []
        ∧ SameRegs s t [Reg.PWR_STAT] ∧ SamePool s t))
      ∧ (holdable s = false → Completes (.poolHold slot tag) s (fun t =>
        Replied t slot 0x0903 tag stCONFLICT [] ∧ t.pwr = s.pwr ∧ SameRegs s t [] ∧ SamePool s t)))
    ∧ (MayRun s slot 0x0904 tag → DeferRoom s →
      (inHold s = true → waits s .poolHold = false → waits s .poolResume = false → Completes (.poolResume slot tag) s (fun t =>
        (∀ k, k < 32 → bit s.pwr.heldPorts k = true → (port s k).st = .disabled → (port t k).st = .down)
        ∧ t.pwr.resumeDue = now s + 500000 ∧ Replied t slot 0x0904 tag stDEFERRED [] ∧ SameRegs s t [] ∧ SamePool s t))
      ∧ (inHold s = false → Completes (.poolResume slot tag) s (fun t =>
        Replied t slot 0x0904 tag stCONFLICT [] ∧ t.pwr = s.pwr ∧ SameRegs s t [] ∧ SamePool s t))))
  ∧ (∀ (s : State) (slot : Nat) (tag : Word32), s.twin.replies = [] → session s slot ≠ none → inSafe s = false →
    (s.mbx.deferred = [{ slot := slot, opcode := 0x0903, tag := tag, wait := .poolHold }] →
        (∀ k, k < 32 → bit s.pwr.heldPorts k = true → (port s k).draining = false) → Completes .poolHoldDone s (fun t =>
      (∀ n, n < 6 → (sealDie t n).selfRefresh = true ∧ (sealDie t n).unmasked = unmaskedExtents s n) ∧ t.mbx.deferred = []
      ∧ Replied t slot 0x0903 tag stOK [] ∧ SameRegs s t [] ∧ t.mem = s.mem ∧ t.xlt = s.xlt))
    ∧ (s.mbx.deferred = [{ slot := slot, opcode := 0x0904, tag := tag, wait := .poolResume }] →
        (∀ n, n < 6 → (sealDie s n).selfRefresh = false) → s.sig.watches = [] → Completes .poolResumeDone s (fun t =>
      inHold t = false ∧ t.pwr.heldPorts = 0 ∧ t.mbx.deferred = [] ∧ Replied t slot 0x0904 tag stOK [] ∧ SameRegs s t [Reg.PWR_STAT]
      ∧ ((∃ k, k < 32 ∧ bit s.pwr.heldPorts k = true ∧ (port s k).st ≠ .up) → s.pwr.resumeDue ≤ now t) ∧ SamePool s t)))
  ∧ (∀ (s : State) (slot : Nat) (tag : Word32), MayRun s slot 0x0905 tag → DeferRoom s → s.twin.replies = [] → s.mbx.deferred = [] →
    ((∀ e, e < 2880 → (extRec s e).st ≤ exFREE) → Completes (.standby slot tag) s (fun t =>
      t.pwr.standby = true ∧ t.pwr.rails = 0 ∧ rf t Reg.PWR_STAT 3 3 = 0 ∧ t.mbx.sessions = [] ∧ t.mbx.owner = none ∧ t.mem = []
      ∧ (∀ a, isPlinth a = true → rg t a = rg s a) ∧ t.boot.flash = s.boot.flash ∧ t.boot.svn = s.boot.svn ∧ t.boot.bootId = s.boot.bootId))
    ∧ ((∃ e, e < 2880 ∧ exFREE < (extRec s e).st) → Completes (.standby slot tag) s (fun t =>
      Replied t slot 0x0905 tag stCONFLICT [] ∧ t.pwr = s.pwr ∧ SameRegs s t [] ∧ SamePool s t)))
  ∧ (∀ (s : State) (x : Nat), s.pwr.standby = true → (x = 0 ∨ x = 1 ∨ x = 3) →
    (bit (rg s Reg.PLN_WAKE_EN) x = true → rf s Reg.PWR_STAT 2 1 = 3 → Completes (.wake x) s (fun t =>
      t.pwr.standby = false ∧ t.pwr.rails = 0x7FF ∧ rf t Reg.PWR_STAT 3 0 = 15 ∧ bit (rg t Reg.PLN_WAKE_SRC) x = true ∧ t.mic.level.getLsbD 78 = true
      ∧ bootStage t = 1 ∧ rf t Reg.PLN_RESET 2 0 = 1))
    ∧ (bit (rg s Reg.PLN_WAKE_EN) x = false → Gives (.wake x) s s))
  ∧ (∀ (s : State), s.pwr.standby = true → bit (rg s Reg.PLN_WAKE_EN) 2 = true → rf s Reg.PWR_STAT 2 1 = 3 → Completes .plnTimerReached s (fun t =>
      rg64 s Reg.PLN_TIMER_LO ≤ now t ∧ t.pwr.standby = false ∧ t.pwr.rails = 0x7FF ∧ bit (rg t Reg.PLN_WAKE_SRC) 2 = true ∧ bootStage t = 1))
  ∧ (∀ (s : State), rf s Reg.PWR_STAT 3 3 = 0 → s.pwr.standby = false → s.pwr.vauxOn = true → inSafe s = false → s.pwr.thermalCap = false →
    Completes .powerUp s (fun t =>
      t.pwr.rails = 0x7FF ∧ t.pwr.railsAt = now s ∧ rf t Reg.PWR_STAT 3 0 = 15 ∧ bootStage t = 1 ∧ rf t Reg.PLN_RESET 2 0 = rf s Reg.PLN_RESET 2 0
      ∧ t.mem = s.mem ∧ t.xlt = s.xlt))
  ∧ (∀ (s : State) (a : Nat),
    Completes (.powerOnReset a) s (fun t =>
      t.regs = [] ∧ t.mem = [] ∧ t.xlt = State.reset.xlt ∧ t.sched = State.reset.sched ∧ t.dirc = State.reset.dirc ∧ t.fab = State.reset.fab
      ∧ t.mbx = State.reset.mbx ∧ t.sig = State.reset.sig ∧ t.twin = State.reset.twin ∧ t.pwr = State.reset.pwr ∧ t.tb = State.reset.tb
      ∧ t.boot.flash = s.boot.flash ∧ t.boot.copies = s.boot.copies ∧ t.boot.svn = s.boot.svn ∧ t.boot.revoked = s.boot.revoked
      ∧ t.brd.smbAddr = 0x58 + a % 8)
    ∧ Completes .vauxLoss s (fun t =>
      t.pwr = { State.reset.pwr with vauxOn := false } ∧ t.regs = [] ∧ t.mem = [] ∧ t.boot.flash = s.boot.flash ∧ t.boot.svn = s.boot.svn)
    ∧ Gives .jtagTrst s { s with brd := { s.brd with jtagIr := 0, jtagOut := 0, pinsDriven := none } })

/-- The boot ROM and the recovery load (R503, R504, R551, R553, R554, R556 to R560, R562): an image that fails a check sends the ROM to its networks with the code of
the first check that failed; one that passes is placed, and starts the firmware once its signature is verified, after it has burned the fuses
that it names; a valid offer starts a transfer in blocks of 1,432 B, which fails when it stalls, brings another size,
or brings a header that fails its checks.
Where the spec is silent the model's choice stands: assumptions 138, 141, 142, 143, 144, 145. -/
def Obligations.TheBootRomLoadsAnImage : Prop :=
  (∀ (s : State) (b : List Byte), bootStage s = 1 → s.dram.trained = true → s.boot.flash = .shipped →
    (∀ f, imageFault s b = some f → Completes (.imageReadDone b) s (fun t =>
      bootStage t = 6 ∧ rf t Reg.PLN_BOOT 7 4 = f ∧ rf t Reg.PLN_BOOT 15 8 = rf s Reg.PLN_BOOT 15 8 ∧ t.boot.recPort = [(0, 0), (1, 4)]
      ∧ t.boot.image = [] ∧ t.boot.svn = s.boot.svn ∧ t.boot.revoked = s.boot.revoked ∧ t.mem = s.mem ∧ t.xlt = s.xlt))
    ∧ (imageFault s b = none → Clean s → tget s.xlt.migrations 6 = none → (extRec s 6).mirrored = false → (extRec s 6).coherent = false →
      Completes (.imageReadDone b) s (fun t =>
        bootStage t = 3 ∧ t.boot.image = b.take (imgSize b) ∧ t.boot.fromRecovery = false
        ∧ (∀ i, i < imgRes b → memByte t.bus.sram i = (b.drop 4096).getD i 0#8)
        ∧ ((sealDie s 0).selfRefresh = false → ∀ i, 4096 + imgRes b + i < imgSize b →
            memByte t.mem (resPpa 0 6 (2 ^ 29) + i) = b.getD (4096 + imgRes b + i) 0#8) ∧ t.xlt = s.xlt)))
  ∧ (∀ (s : State) (k : Nat) (b : List Byte), bootStage s = 3 → b = s.boot.image →
    (signed b = false → Completes .imageVerifyDone s (fun t =>
      bootStage t = 6 ∧ rf t Reg.PLN_BOOT 7 4 = 5 ∧ t.boot.svn = s.boot.svn ∧ t.boot.revoked = s.boot.revoked ∧ t.boot.version = s.boot.version
      ∧ t.mem = s.mem ∧ t.xlt = s.xlt))
    ∧ (signed b = true → keySlot s b = some k → Completes .imageVerifyDone s (fun t =>
      bootStage t = 5 ∧ t.boot.version = imgVersion b ∧ t.boot.anchors = storedAnchors s.boot
      ∧ (bit (imgRevoke b) k = false → t.boot.revoked = s.boot.revoked ||| imgRevoke b ∧ t.boot.svn = max s.boot.svn (min (imgAdvance b) 64))
      ∧ (bit (imgRevoke b) k = true → t.boot.revoked = s.boot.revoked ∧ t.boot.svn = s.boot.svn)
      ∧ t.xlt.views = s.xlt.views ∧ (1 < rf s Reg.PLN_RESET 2 0 → t.mem = s.mem))))
  ∧ (∀ (s : State) (d : Nat), bootStage s = 1 → s.dram.trained = false → d % 64 ≠ 0 → Completes (.d2dStartFail d) s (fun t =>
      bootStage t = 8 ∧ rf t Reg.PLN_BOOT 7 4 = 6 ∧ rf t Reg.PLN_BOOT 21 16 = d % 64 ∧ SameRegs s t [Reg.PLN_BOOT] ∧ SamePool s t))
  ∧ (∀ (s : State), bootStage s = 6 → Completes .recoveryHelloTimer s (fun t =>
      s.boot.helloAt + 1000000000 ≤ now t ∧ t.boot.helloAt = now t ∧ SameRegs s t [] ∧ SamePool s t
      ∧ (∀ k l, k = recoveryPort s 0 → l = recoveryPort s 1 → k ≠ l → ethUp s k = true → ethUp s l = false →
          EthQueued s t k 2 (.hello (helloBytes s)))))
  ∧ (∀ (s : State) (n x : Nat), n < 2 → tget s.boot.recSince n = some x → bootStage s = 6 ∨ bootStage s = 7 → ethUp s (recoveryPort s n) = false →
      Completes (.recoveryPortTimeout n) s (fun t =>
        x + 2000000000 ≤ now t ∧ recoveryPort t n = 4 * n + (recoveryPort s n + 1) % 4 ∧ tget t.boot.recSince n = some (now t)
        ∧ (∀ m, m ≠ n → recoveryPort t m = recoveryPort s m) ∧ SameRegs s t [] ∧ SamePool s t))
  ∧ (∀ (s : State) (n v size srv : Nat) (id : Word64) (name : List Byte), bootStage s = 6 → n < 2 → ethUp s (recoveryPort s n) = true →
    (v = 1 → id = s.boot.bootId → 4096 ≤ size → size ≤ imageMax → 1 ≤ name.length → name.length ≤ 64 → (∀ c, c ∈ name → c.toNat < 128) →
      Completes (.recoveryOffer n v id size srv name) s (fun t =>
        bootStage t = 7 ∧ t.boot.offer = some (n, srv, size, name) ∧ t.boot.loaded = [] ∧ t.boot.block = 0 ∧ t.boot.lastData = now s
        ∧ EthQueued s t (recoveryPort s n) 2 (.tftp 1 0 name) ∧ SameRegs s t [Reg.PLN_BOOT] ∧ SamePool s t))
    ∧ (v ≠ 1 ∨ id ≠ s.boot.bootId → Gives (.recoveryOffer n v id size srv name) s s))
  ∧ (∀ (s : State) (n srv size k : Nat) (name d : List Byte), s.boot.offer = some (n, srv, size, name) → bootStage s = 7 → k = recoveryPort s n →
      ethUp s k = true →
    (∀ m, m = s.boot.block + 1 → d.length = 1432 → headFault s (s.boot.loaded ++ d) = none → Completes (.tftpData (m % 65536) d) s (fun t =>
      t.boot.loaded = s.boot.loaded ++ d ∧ t.boot.block = m ∧ t.boot.lastData = now s ∧ bootStage t = 7
      ∧ (m % 16 = 0 → EthQueued s t k 2 (.tftp 4 (m % 65536) name)) ∧ (m % 16 ≠ 0 → SameEgress s t) ∧ SameRegs s t [] ∧ SamePool s t))
    ∧ (∀ m, m ≠ (s.boot.block + 1) % 65536 → d.length ≤ 1432 → Completes (.tftpData m d) s (fun t =>
      t.boot = s.boot ∧ EthQueued s t k 2 (.tftp 4 (s.boot.block % 65536) name) ∧ SameRegs s t [] ∧ SamePool s t))
    ∧ (∀ m f, m = s.boot.block + 1 → d.length ≤ 1432 → headFault s (s.boot.loaded ++ d) = some f → Completes (.tftpData (m % 65536) d) s (fun t =>
      bootStage t = 6 ∧ rf t Reg.PLN_BOOT 7 4 = f ∧ rf t Reg.PLN_BOOT 15 8 = min (rf s Reg.PLN_BOOT 15 8 + 1) 255 ∧ t.boot.offer = none
      ∧ t.boot.loaded = [] ∧ SamePool s t))
    ∧ (∀ m, m = s.boot.block + 1 → d.length < 1432 → headFault s (s.boot.loaded ++ d) = none → s.boot.loaded.length + d.length ≠ size → Completes (.tftpData (m % 65536) d) s (fun t =>
      bootStage t = 6 ∧ rf t Reg.PLN_BOOT 7 4 = 7 ∧ rf t Reg.PLN_BOOT 15 8 = min (rf s Reg.PLN_BOOT 15 8 + 1) 255 ∧ t.boot.offer = none
      ∧ t.boot.loaded = [] ∧ SamePool s t)))
  ∧ (∀ (s : State), bootStage s = 7 → Completes .transferStall s (fun t =>
      s.boot.lastData + 5000000000 ≤ now t ∧ bootStage t = 6 ∧ rf t Reg.PLN_BOOT 7 4 = 7
      ∧ rf t Reg.PLN_BOOT 15 8 = min (rf s Reg.PLN_BOOT 15 8 + 1) 255 ∧ t.boot.offer = none ∧ SamePool s t))

/-- Firmware, anchors and attestation (R433, R452 to R454, R503, R506, R551): FW_STAGE stores its bytes; FW_VERIFY answers OK for an image that the boot ROM would
accept, and BAD_CREDENTIAL for any other; FW_COMMIT writes what was verified to the flash; FW_ACTIVATE restarts the cores; an anchor slot
holds the certificate given, and is not cleared while the owner's own chain leads to it; IDENTITY gives part number, stepping, firmware version,
SEC_MARK and BOOTID.
Where the spec is silent the model's choice stands: assumptions 138, 139, 140, 146. -/
def Obligations.FirmwareAndAnchorsChange : Prop :=
  (∀ (s : State) (slot : Nat) (tag : Word32) (o n : Word64) (d : List Byte),
    (MayRun s slot 0x0702 tag → o.toNat + d.length ≤ 67108864 →
      (fwBusy s = false → Clean s → PlainExtent s (resPpa 0 6 o.toNat) → Completes (.fwStage slot tag o d) s (fun t =>
        t.mem = memWrite s.mem (resPpa 0 6 o.toNat) d ∧ t.boot = { s.boot with verified := none } ∧ Replied t slot 0x0702 tag stOK []
        ∧ (∀ a, a < resPpa 0 6 o.toNat ∨ resPpa 0 6 o.toNat + d.length ≤ a → memByte t.mem a = memByte s.mem a)
        ∧ SameRegs s t [] ∧ t.xlt = s.xlt))
      ∧ (fwBusy s = true → Completes (.fwStage slot tag o d) s (fun t =>
        Replied t slot 0x0702 tag stBUSY [] ∧ t.boot = s.boot ∧ SameRegs s t [Reg.MBX_BUSY] ∧ SamePool s t)))
    ∧ (MayRun s slot 0x0703 tag → DeferRoom s → n.toNat ≤ imageMax → fwBusy s = false → Completes (.fwVerify slot tag n) s (fun t =>
        t.boot = { s.boot with verifying := some n.toNat, verified := none } ∧ Replied t slot 0x0703 tag stDEFERRED [] ∧ SameRegs s t [] ∧ SamePool s t))
    ∧ (MayRun s slot 0x0704 tag → DeferRoom s → fwBusy s = false →
      (∀ m, s.boot.verified = some m → Completes (.fwCommit slot tag) s (fun t =>
        t.boot = { s.boot with committing := some m, flash := .erased } ∧ Replied t slot 0x0704 tag stDEFERRED [] ∧ SameRegs s t [] ∧ SamePool s t))
      ∧ (s.boot.verified = none → Completes (.fwCommit slot tag) s (fun t =>
        t.boot = s.boot ∧ Replied t slot 0x0704 tag stCONFLICT [] ∧ SameRegs s t [] ∧ SamePool s t)))
    ∧ (MayRun s slot 0x0705 tag → s.twin.replies = [] → Completes (.fwActivate slot tag) s (fun t =>
        bootStage t = 1 ∧ rf t Reg.PLN_RESET 2 0 = 2 ∧ rf t Reg.PLN_BOOT 7 4 = 0 ∧ (∀ k, k < 8 → session t k = none) ∧ t.mbx.owner = none
        ∧ t.boot.flash = s.boot.flash ∧ t.xlt = s.xlt ∧ t.sched = s.sched)))
  ∧ (∀ (s : State) (slot n : Nat) (tag : Word32) (b : List Byte), s.twin.replies = [] → session s slot ≠ none → Clean s →
      b = memRead s.mem (resPpa 0 6 0) n →
    (s.boot.verifying = some n → s.mbx.deferred = [{ slot := slot, opcode := 0x0703, tag := tag, wait := .fwVerify }] →
      ((imageFault s b = none ∧ imgSize b = n ∧ signed b = true) → Completes .fwVerifyDone s (fun t =>
        t.boot = { s.boot with verifying := none, verified := some n } ∧ t.mbx.deferred = [] ∧ Replied t slot 0x0703 tag stOK []
        ∧ SameRegs s t [] ∧ t.mem = s.mem))
      ∧ ((imageFault s b ≠ none ∨ imgSize b ≠ n ∨ signed b = false) → Completes .fwVerifyDone s (fun t =>
        t.boot = { s.boot with verifying := none, verified := none } ∧ t.mbx.deferred = [] ∧ Replied t slot 0x0703 tag stBADCRED []
        ∧ SameRegs s t [] ∧ t.mem = s.mem)))
    ∧ (s.boot.committing = some n → s.mbx.deferred = [{ slot := slot, opcode := 0x0704, tag := tag, wait := .fwCommit }] →
      Completes .fwCommitDone s (fun t =>
        t.boot = { s.boot with committing := none, flash := .written b } ∧ t.mbx.deferred = [] ∧ Replied t slot 0x0704 tag stOK []
        ∧ SameRegs s t [] ∧ t.mem = s.mem)))
  ∧ (∀ (s : State) (slot : Nat) (tag : Word32) (k : Word64) (c : List Byte),
    (MayRun s slot 0x0707 tag → k.toNat ≤ 3 →
      (c ≠ [] → Completes (.anchorSet slot tag k c) s (fun t =>
        tget t.boot.anchors k.toNat = some c ∧ (∀ j, j ≠ k.toNat → tget t.boot.anchors j = tget s.boot.anchors j)
        ∧ storedAnchors t.boot = t.boot.anchors ∧ t.boot.svn = s.boot.svn ∧ Replied t slot 0x0707 tag stOK [] ∧ SameRegs s t [] ∧ SamePool s t))
      ∧ (∀ se, c = [] → session s slot = some se →
        ((∀ a, a ∈ se.assocs → a.anchor ≠ k.toNat) → Completes (.anchorSet slot tag k c) s (fun t =>
          tget t.boot.anchors k.toNat = none ∧ (∀ j, j ≠ k.toNat → tget t.boot.anchors j = tget s.boot.anchors j)
          ∧ Replied t slot 0x0707 tag stOK [] ∧ SameRegs s t [] ∧ SamePool s t))
        ∧ ((∃ a, a ∈ se.assocs ∧ a.anchor = k.toNat) → Completes (.anchorSet slot tag k c) s (fun t =>
          t.boot = s.boot ∧ Replied t slot 0x0707 tag stCONFLICT [] ∧ SameRegs s t [] ∧ SamePool s t))))
    ∧ (MayRun s slot 0x0701 tag → Completes (.identity slot tag) s (fun t =>
        (∃ b, Replied t slot 0x0701 tag stOK b ∧ b.take 24 = padTo 16 (ascii "LGN-HC2880") ++ padTo 8 (ascii "B1") ∧ leAt b 24 8 = s.boot.version % 2 ^ 64
          ∧ (∀ w, w < 12 → leAt b (32 + 4 * w) 4 = rg s (Reg.SEC_MARK w)) ∧ leAt b 80 8 = s.boot.bootId.toNat ∧ b.length = 88)
        ∧ t.boot = s.boot ∧ SameRegs s t [] ∧ SamePool s t))
    ∧ (MayRun s slot 0x0708 tag → Completes (.anchorQuery slot tag) s (fun t =>
        Replied t slot 0x0708 tag stOK (anchorDigests s) ∧ t.boot = s.boot ∧ SameRegs s t [] ∧ SamePool s t))
    ∧ (MayRun s slot 0x0706 tag →
      (∀ r, tget spdmCodes (leAt c 1 1) = some r → Completes (.spdm slot tag c) s (fun t =>
        (∃ b, Replied t slot 0x0706 tag stOK b ∧ leAt b 1 1 = r ∧ b.length ≤ 4096) ∧ t.boot = s.boot ∧ SameRegs s t [] ∧ SamePool s t))
      ∧ (tget spdmCodes (leAt c 1 1) = none → Completes (.spdm slot tag c) s (fun t =>
        (∃ b, Replied t slot 0x0706 tag stOK b ∧ leAt b 1 1 = 0x7F) ∧ t.boot = s.boot ∧ SameRegs s t [] ∧ SamePool s t))))

/-- The board's side (R430, R468, R544 to R549, R551): the PMBus commands return the registers named, in the Plinth's part alone while STAGE is
below READY or in standby; the status bits clear by writing 1; frames travel in fragments; the module that asserts SMB_ALERT_N answers with its
address; the JTAG instructions select their registers; ANCHOR_LOAD fills slot 0 while every slot is empty.
Where the spec is silent the model's choice stands: assumptions 30, 153, 160, 161, 162, 164. -/
def Obligations.TheBoardReadsAndWrites : Prop :=
  (∀ (s : State), s.pwr.vauxOn = true → s.pwr.standby = false ∨ bit (rg s Reg.PLN_WAKE_EN) 0 = false →
    Gives .statusWord s (smbReturn s (some (leBytes 2 (2 ^ 13 * b2n (s.brd.statusInput != 0) + 2 ^ 2 * b2n (s.brd.statusTemp != 0)))))
    ∧ Gives .mfrId s (smbReturn s (some (ascii "LGN"))) ∧ Gives .mfrModel s (smbReturn s (some (ascii "HC2880")))
    ∧ Gives .mfrRevision s (smbReturn s (some (ascii "B1"))) ∧ Gives .mfrBootStatus s (smbReturn s (some (leBytes 2 (rf s Reg.PLN_BOOT 15 0))))
    ∧ Gives (.mfrShelfState none) s (smbReturn s (some (leBytes 2 (rg s Reg.PWR_SHELF))))
    ∧ (bootStage s ≠ 5 ∨ s.pwr.standby = true →
      (∀ c, c ∈ [Instr.statusInput none, .statusTemperature none, .readVin, .readIin, .readTemperature1, .readTemperature2, .readPin, .mfrMboxRead] →
        Gives c s (smbReturn s none))
      ∧ (∀ v, Gives (.statusInput (some v)) s (smbReturn s none)) ∧ (∀ v, Gives (.statusTemperature (some v)) s (smbReturn s none))
      ∧ (∀ b, Gives (.mfrMboxWrite b) s (smbReturn s none))
      ∧ (∀ v, Completes (.mfrShelfState (some v)) s (fun t =>
        rg t Reg.PWR_SHELF = v % 2 ^ 16 ∧ t.brd.smbData = some [] ∧ SameRegs s t [Reg.PWR_SHELF] ∧ SamePool s t))))
  ∧ (∀ (s : State) (c : Instr) (own : Bool), s.pwr.vauxOn = true → s.pwr.standby = true → bit (rg s Reg.PLN_WAKE_EN) 0 = true →
      rf s Reg.PWR_STAT 2 1 = 3 →
      (own = true ∧ (c ∈ [Instr.statusWord, .mfrId, .mfrModel, .mfrRevision, .mfrBootStatus, .mfrShelfState none] ∨ ∃ v, c = .mfrShelfState (some v)))
      ∨ (own = false ∧ (c ∈ [Instr.statusInput none, .statusTemperature none, .readVin, .readIin, .readTemperature1, .readTemperature2, .readPin, .mfrMboxRead]
          ∨ (∃ v, c = .statusInput (some v)) ∨ (∃ v, c = .statusTemperature (some v)) ∨ ∃ b, c = .mfrMboxWrite b)) →
      Completes c s (fun t => t.pwr.standby = false ∧ t.pwr.rails = 0x7FF ∧ bit (rg t Reg.PLN_WAKE_SRC) 0 = true ∧ bootStage t = 1
        ∧ t.brd.smbData.isSome = own))
  ∧ (∀ (s : State), s.pwr.vauxOn = true → s.pwr.standby = false → bootStage s = 5 →
    Gives (.statusInput none) s (smbReturn s (some (leBytes 1 (2 ^ 5 * b2n (bit s.brd.statusInput 0) + 2 ^ 4 * b2n (bit s.brd.statusInput 1)))))
    ∧ Gives (.statusTemperature none) s (smbReturn s (some (leBytes 1 (2 ^ 6 * b2n (bit s.brd.statusTemp 0) + 2 ^ 7 * b2n (bit s.brd.statusTemp 1)))))
    ∧ (∀ v, Completes (.statusInput (some v)) s (fun t =>
        bit t.brd.statusInput 0 = (bit s.brd.statusInput 0 && !bit v 5 || inRide s) ∧ bit t.brd.statusInput 1 = (bit s.brd.statusInput 1 && !bit v 4)
        ∧ t.brd.statusTemp = s.brd.statusTemp ∧ t.brd.smbData = some [] ∧ SameRegs s t [] ∧ SamePool s t))
    ∧ (∀ v, Completes (.statusTemperature (some v)) s (fun t =>
        bit t.brd.statusTemp 0 = (bit s.brd.statusTemp 0 && !bit v 6 || decide (rf s Reg.PWR_THERM 7 0 ≤ rf s Reg.PWR_THERM 23 16))
        ∧ bit t.brd.statusTemp 1 = (bit s.brd.statusTemp 1 && !bit v 7)
        ∧ t.brd.statusInput = s.brd.statusInput ∧ t.brd.smbData = some [] ∧ SameRegs s t [] ∧ SamePool s t))
    ∧ Gives .readVin s (smbReturn s (some (linear11 (rf s Reg.PWR_INPUT 27 16) 10)))
    ∧ Gives .readIin s (smbReturn s (some (linear11 s.pwr.current 1000)))
    ∧ Gives .readTemperature1 s (smbReturn s (some (linear11 (rf s Reg.PWR_THERM 23 16) 1)))
    ∧ (∀ v, (∃ k, tget s.pwr.stackTemp k = some v) → (∀ e, e ∈ s.pwr.stackTemp → e.2 ≤ v) →
        Gives .readTemperature2 s (smbReturn s (some (linear11 v 1))))
    ∧ Gives .readPin s (smbReturn s (some (linear11 (rf s Reg.PWR_INPUT 15 0) 1)))
    ∧ (∀ v, s.pwr.thermalCap = false → Completes (.mfrShelfState (some v)) s (fun t =>
        rg t Reg.PWR_SHELF = v % 2 ^ 16 ∧ t.brd.smbData = some [] ∧ t.xlt = s.xlt ∧ t.sched = s.sched
        ∧ (v % 4 = 2 → rf s Reg.PWR_SHELF 1 0 ≠ 2 → t.mic.level.getLsbD 79 = true ∧ rg64 t Reg.ETH_EVT_SEQ_LO = (rg64 s Reg.ETH_EVT_SEQ_LO + 1) % 2 ^ 64)
        ∧ (v % 4 = rf s Reg.PWR_SHELF 1 0 → t.mic = s.mic ∧ t.mem = s.mem ∧ rg64 t Reg.ETH_EVT_SEQ_LO = rg64 s Reg.ETH_EVT_SEQ_LO)))
    ∧ (s.mbx.unread = [] → Completes .mfrMboxRead s (fun t => t.brd.smbData = some [0x7F#8] ∧ t.mbx = s.mbx ∧ SameRegs s t [] ∧ SamePool s t))
    ∧ (∀ f rest, s.mbx.unread = f :: rest → s.mbx.readIdx < 127 →
      (f.length ≤ 254 * (s.mbx.readIdx + 1) → Completes .mfrMboxRead s (fun t =>
        t.brd.smbData = some (BitVec.ofNat 8 (s.mbx.readIdx + 128) :: f.drop (254 * s.mbx.readIdx)) ∧ t.mbx.unread = rest ∧ t.mbx.readIdx = 0
        ∧ SameRegs s t [] ∧ SamePool s t))
      ∧ (254 * (s.mbx.readIdx + 1) < f.length → Completes .mfrMboxRead s (fun t =>
        t.brd.smbData = some (BitVec.ofNat 8 s.mbx.readIdx :: (f.drop (254 * s.mbx.readIdx)).take 254) ∧ t.mbx.unread = s.mbx.unread
        ∧ t.mbx.readIdx = s.mbx.readIdx + 1 ∧ SameRegs s t [] ∧ SamePool s t)))
    ∧ (∀ (c : Byte) (b : List Byte), b.length ≤ 254 →
      (c.toNat < 128 → c.toNat = s.mbx.nextFrag → Completes (.mfrMboxWrite (c :: b)) s (fun t =>
        t.mbx = { s.mbx with partialFrame := s.mbx.partialFrame ++ b, nextFrag := c.toNat + 1 } ∧ t.brd.smbData = some [] ∧ SameRegs s t [] ∧ SamePool s t))
      ∧ (c.toNat % 128 ≠ s.mbx.nextFrag → c.toNat % 128 ≠ 0 → s.mbx.nextFrag ≠ 0 → Completes (.mfrMboxWrite (c :: b)) s (fun t =>
        t.mbx.partialFrame = [] ∧ t.mbx.nextFrag = 0 ∧ rg t Reg.MBX_DUP = min (rg s Reg.MBX_DUP + 1) 0xFFFFFFFF ∧ t.mbx.sessions = s.mbx.sessions
        ∧ SameRegs s t [Reg.MBX_DUP] ∧ SamePool s t))
      ∧ (∀ f se, c.toNat = 128 + s.mbx.nextFrag → f = s.mbx.partialFrame ++ b → session s 8 = some se → LeaseRuns s →
        (∀ sh, NewFrame s 8 se f → GoodFrame sh f → s.mbx.unread.length + se.queue.length < 16 → Completes (.mfrMboxWrite (c :: b)) s (fun t =>
          (∃ u, session t 8 = some u ∧ u.queue = se.queue ++ [queuedFrame s 8 f] ∧ u.replies = se.replies) ∧ t.mbx.partialFrame = []
          ∧ t.mbx.nextFrag = 0 ∧ t.brd.smbData = some [] ∧ SameRegs s t [] ∧ SamePool s t))
        ∧ (16 ≤ s.mbx.unread.length + se.queue.length → Completes (.mfrMboxWrite (c :: b)) s (fun t =>
          session t 8 = some se ∧ t.brd.smbData = some (replyBytes 8 (frameOp f) (frameTag f) stBUSY true []) ∧ t.mbx.partialFrame = []
          ∧ SameRegs s t [Reg.MBX_BUSY] ∧ SamePool s t)))))
  ∧ (∀ (n d w : Nat), 0 < d → n ≤ 1023 * 2 ^ 15 * d → w = leNat (linear11 n d) →
      w % 2048 ≤ 1023
      ∧ (w / 2048 < 16 → w % 2048 * 2 ^ (w / 2048) * d ≤ n ∧ n < (w % 2048 + 1) * 2 ^ (w / 2048) * d)
      ∧ (16 ≤ w / 2048 → w % 2048 * d ≤ n * 2 ^ (32 - w / 2048) ∧ n * 2 ^ (32 - w / 2048) < (w % 2048 + 1) * d))
  ∧ (∀ (s : State),
    (s.pwr.vauxOn = true → s.brd.statusInput ≠ 0 ∨ s.brd.statusTemp ≠ 0 ∨ s.mbx.unread ≠ [] →
      Gives .alertResponse s (smbReturn s (some (leBytes 1 (2 * s.brd.smbAddr)))))
    ∧ (s.brd.statusInput = 0 → s.brd.statusTemp = 0 → s.mbx.unread = [] → Gives .alertResponse s (smbReturn s none)))
  ∧ (∀ (s : State),
    Gives .idcode s { s with brd := { s.brd with jtagIr := 0, jtagOut := 0x128809D3, pinsDriven := none } }
    ∧ Gives .bypass s { s with brd := { s.brd with jtagIr := 1, jtagOut := 0, pinsDriven := none } }
    ∧ (∀ p, Completes (.samplePreload p) s (fun t =>
        t.brd = { s.brd with jtagIr := 2, jtagOut := (Config.freeWord64 s.free).toNat, pinsDriven := none, boundary := p }
        ∧ SameRegs s t [] ∧ SamePool s t))
    ∧ Completes .extest s (fun t =>
        t.brd = { s.brd with jtagIr := 3, jtagOut := (Config.freeWord64 s.free).toNat, pinsDriven := some s.brd.boundary }
        ∧ SameRegs s t [] ∧ SamePool s t)
    ∧ (s.pwr.standby = false → ∀ off n, sizeOk n = true → off + n ≤ sramBytes →
      (∀ v : Word64, Completes (.regacc (sramBase + off) n (some v)) s (fun t =>
        (∀ x, sramByte t x = if off ≤ x ∧ x < off + n then BitVec.ofNat 8 (v.toNat / 256 ^ (x - off)) else sramByte s x)
        ∧ t.brd.jtagIr = 4 ∧ SameRegs s t [] ∧ SamePool s t))
      ∧ Completes (.regacc (sramBase + off) n none) s (fun t =>
        t.brd.jtagOut = leNat (sramRead s off n) ∧ t.bus.sram = s.bus.sram ∧ SameRegs s t [] ∧ SamePool s t))
    ∧ (∀ c : List Byte, c ≠ [] → c.length ≤ 4096 → s.boot.anchors = [] → storedAnchors s.boot = [] → Completes (.anchorLoad c) s (fun t =>
        t.boot.anchors = [(0, c)] ∧ storedAnchors t.boot = [(0, c)] ∧ t.boot.flash = s.boot.flash ∧ SameRegs s t [] ∧ SamePool s t))
    ∧ (∀ c : List Byte, s.boot.anchors ≠ [] → Completes (.anchorLoad c) s (fun t => t.boot = s.boot ∧ t.brd.jtagIr = 5 ∧ SameRegs s t [] ∧ SamePool s t)))
end

