-- ==== Sys2Proof/Laws/Memory.lean ====
section
/-!
SUPPORT. Sparse tables and pool memory: what a read gives after a write, and that every operation keeps the canonical form.
-/

namespace Sys2Proof.Machine

/-! ### Tables -/

@[simp] theorem tget_nil {α : Type} (a : Nat) : tget ([] : Tab α) a = none := rfl

theorem tget_tset {α : Type} (t : Tab α) (k : Nat) (v : α) (a : Nat) :
    tget (tset t k v) a = if a = k then some v else tget t a := by
  induction t with
  | nil => simp [tset, tget]
  | cons e t ih =>
    obtain ⟨k', v'⟩ := e
    by_cases h1 : k < k'
    · simp [tset, h1, tget]
    · by_cases h2 : k = k'
      · subst h2; simp only [tset, h1, if_false, if_true, tget]; split <;> rfl
      · simp only [tset, h1, h2, if_false, tget, ih]
        by_cases h3 : a = k
        · subst h3; simp [h2]
        · simp [h3]

@[simp] theorem tget_tset_self {α : Type} (t : Tab α) (k : Nat) (v : α) : tget (tset t k v) k = some v := by
  simp [tget_tset]

theorem tget_tset_ne {α : Type} (t : Tab α) (v : α) {k a : Nat} (h : a ≠ k) : tget (tset t k v) a = tget t a := by
  simp [tget_tset, h]

theorem tget_tdel {α : Type} (t : Tab α) (k a : Nat) : tget (tdel t k) a = if a = k then none else tget t a := by
  induction t with
  | nil => simp [tdel]
  | cons e t ih =>
    obtain ⟨k', v'⟩ := e
    by_cases h : k = k'
    · subst h; simp only [tdel, if_true, ih, tget]; split <;> simp_all
    · simp only [tdel, h, if_false, tget, ih]
      by_cases h3 : a = k
      · subst h3; simp [h]
      · simp [h3]

@[simp] theorem tget_tdel_self {α : Type} (t : Tab α) (k : Nat) : tget (tdel t k) k = none := by simp [tget_tdel]

theorem tgetD_tset {α : Type} (t : Tab α) (k : Nat) (v d : α) (a : Nat) :
    tgetD (tset t k v) a d = if a = k then v else tgetD t a d := by
  unfold tgetD; rw [tget_tset]; split <;> rfl

@[simp] theorem tgetD_tset_self {α : Type} (t : Tab α) (k : Nat) (v d : α) : tgetD (tset t k v) k d = v := by
  simp [tgetD_tset]

/-! ### The canonical form -/

theorem tsortedFrom_mono {α : Type} (t : Tab α) {a b : Nat} (h : a ≤ b) (hs : tsortedFrom t b = true) :
    tsortedFrom t a = true := by
  cases t with
  | nil => rfl
  | cons e t => simp_all [tsortedFrom]; omega

theorem tset_sorted {α : Type} (t : Tab α) (k : Nat) (v : α) (b : Nat) (hb : b ≤ k) (hs : tsortedFrom t b = true) :
    tsortedFrom (tset t k v) b = true := by
  induction t generalizing b with
  | nil => simpa [tset, tsortedFrom] using hb
  | cons e t ih =>
    obtain ⟨k', v'⟩ := e
    simp only [tsortedFrom, Bool.and_eq_true, decide_eq_true_eq] at hs
    unfold tset
    split
    · simp only [tsortedFrom, Bool.and_eq_true, decide_eq_true_eq]
      exact ⟨hb, by omega, hs.2⟩
    · split
      · next h => subst h; simp [tsortedFrom, hs.1, hs.2]
      · simp only [tsortedFrom, Bool.and_eq_true, decide_eq_true_eq]
        exact ⟨hs.1, ih _ (by omega) hs.2⟩

theorem tdel_sorted {α : Type} (t : Tab α) (k b : Nat) (hs : tsortedFrom t b = true) : tsortedFrom (tdel t k) b = true := by
  induction t generalizing b with
  | nil => rfl
  | cons e t ih =>
    obtain ⟨k', v'⟩ := e
    simp only [tsortedFrom, Bool.and_eq_true, decide_eq_true_eq] at hs
    unfold tdel
    split
    · exact ih _ (tsortedFrom_mono t (by omega) hs.2)
    · simp only [tsortedFrom, Bool.and_eq_true, decide_eq_true_eq]
      exact ⟨hs.1, ih _ hs.2⟩

theorem filter_sorted {α : Type} (t : Tab α) (p : Nat × α → Bool) (b : Nat) (hs : tsortedFrom t b = true) :
    tsortedFrom (t.filter p) b = true := by
  induction t generalizing b with
  | nil => rfl
  | cons e t ih =>
    simp only [tsortedFrom, Bool.and_eq_true, decide_eq_true_eq] at hs
    rw [List.filter_cons]
    split
    · simp only [tsortedFrom, Bool.and_eq_true, decide_eq_true_eq]
      exact ⟨hs.1, ih _ hs.2⟩
    · exact ih _ (tsortedFrom_mono t (by omega) hs.2)

theorem mem_tset {α : Type} {t : Tab α} {k : Nat} {v : α} {e : Nat × α} (h : e ∈ tset t k v) : e = (k, v) ∨ e ∈ t := by
  induction t with
  | nil => simpa [tset] using h
  | cons d t ih =>
    obtain ⟨k', v'⟩ := d
    unfold tset at h
    split at h
    · simpa using h
    · split at h
      · simp only [List.mem_cons] at h ⊢
        exact h.imp id Or.inr
      · simp only [List.mem_cons] at h ⊢
        rcases h with h | h
        · exact Or.inr (Or.inl h)
        · rcases ih h with h | h
          · exact Or.inl h
          · exact Or.inr (Or.inr h)

theorem mem_tdel {α : Type} {t : Tab α} {k : Nat} {e : Nat × α} (h : e ∈ tdel t k) : e ∈ t := by
  induction t with
  | nil => simp [tdel] at h
  | cons d t ih =>
    obtain ⟨k', v'⟩ := d
    unfold tdel at h
    split at h
    · exact List.mem_cons_of_mem _ (ih h)
    · simp only [List.mem_cons] at h ⊢
      exact h.imp id ih

/-! ### Pool memory -/

theorem Memory.wf_iff (m : Tab Byte) : Memory.wf m = true ↔ tsortedFrom m 0 = true ∧ ∀ e ∈ m, e.2 ≠ 0#8 := by
  simp [Memory.wf]

/-- Writing a byte keeps the canonical form. -/
theorem memSet_wf {m : Tab Byte} (a : Nat) (b : Byte) (h : Memory.wf m = true) : Memory.wf (memSet m a b) = true := by
  rw [Memory.wf_iff] at h ⊢
  unfold memSet
  split
  · exact ⟨tdel_sorted _ _ _ h.1, fun e he => h.2 e (mem_tdel he)⟩
  · next hb =>
    refine ⟨tset_sorted _ _ _ _ (Nat.zero_le _) h.1, fun e he => ?_⟩
    rcases mem_tset he with rfl | he
    · exact hb
    · exact h.2 e he

/-- Writing bytes keeps the canonical form. -/
theorem memWrite_wf {m : Tab Byte} (a : Nat) (l : List Byte) (h : Memory.wf m = true) : Memory.wf (memWrite m a l) = true := by
  induction l generalizing m a with
  | nil => exact h
  | cons b t ih => exact ih _ (memSet_wf _ _ h)

/-- A masked write keeps the canonical form. -/
theorem memWriteMasked_wf {m : Tab Byte} (a : Nat) (l : List (Bool × Byte)) (h : Memory.wf m = true) :
    Memory.wf (memWriteMasked m a l) = true := by
  induction l generalizing m a with
  | nil => exact h
  | cons e t ih =>
    obtain ⟨k, b⟩ := e
    cases k
    · exact ih _ h
    · exact ih _ (memSet_wf _ _ h)

/-- Zeroing a range keeps the canonical form. -/
theorem memZero_wf {m : Tab Byte} (a n : Nat) (h : Memory.wf m = true) : Memory.wf (memZero m a n) = true := by
  rw [Memory.wf_iff] at h ⊢
  exact ⟨filter_sorted _ _ _ h.1, fun e he => h.2 e (List.mem_filter.mp he).1⟩

/-- The reset state's memory has the canonical form. -/
theorem reset_wf : Memory.wf State.reset.mem = true := rfl

theorem memByte_memSet (m : Tab Byte) (a : Nat) (b : Byte) (x : Nat) :
    memByte (memSet m a b) x = if x = a then b else memByte m x := by
  unfold memByte memSet tgetD
  by_cases hb : b = 0#8
  · simp only [hb, if_true, tget_tdel]; split <;> rfl
  · simp only [hb, if_false, tget_tset]; split <;> rfl

/-- What a byte reads as after a write. -/
theorem memByte_memWrite (m : Tab Byte) (a : Nat) (l : List Byte) (x : Nat) :
    memByte (memWrite m a l) x = if a ≤ x ∧ x < a + l.length then l.getD (x - a) 0#8 else memByte m x := by
  induction l generalizing m a with
  | nil => simp only [memWrite, List.length_nil]; rw [if_neg (by omega)]
  | cons b t ih =>
    simp only [memWrite, ih, memByte_memSet, List.length_cons]
    by_cases h1 : x = a
    · subst h1; rw [if_neg (by omega), if_pos rfl, if_pos (by omega)]; simp
    · by_cases h2 : a + 1 ≤ x ∧ x < a + 1 + t.length
      · rw [if_pos h2, if_pos (by omega)]
        obtain ⟨d, rfl⟩ : ∃ d, x = a + 1 + d := ⟨x - (a + 1), by omega⟩
        have h3 : a + 1 + d - a = d + 1 := by omega
        have h4 : a + 1 + d - (a + 1) = d := by omega
        rw [h3, h4, List.getD_cons_succ]
      · rw [if_neg h2, if_neg h1, if_neg (by omega)]

/-- A write leaves every other byte alone. -/
theorem memByte_memWrite_out (m : Tab Byte) (a : Nat) (l : List Byte) {x : Nat} (h : x < a ∨ a + l.length ≤ x) :
    memByte (memWrite m a l) x = memByte m x := by
  rw [memByte_memWrite, if_neg (by omega)]

/-- A read after a write to the same place gives what was written. -/
theorem memRead_memWrite (m : Tab Byte) (a : Nat) (l : List Byte) : memRead (memWrite m a l) a l.length = l := by
  apply List.ext_getElem
  · simp [memRead]
  · intro i h1 h2
    simp [memRead, memByte_memWrite, h2]

theorem memByte_memZero (m : Tab Byte) (a n x : Nat) (h : a ≤ x ∧ x < a + n) : memByte (memZero m a n) x = 0#8 := by
  have : tget (memZero m a n) x = none := by
    unfold memZero
    induction m with
    | nil => rfl
    | cons e t ih =>
      obtain ⟨k, v⟩ := e
      rw [List.filter_cons]
      split
      · next hk =>
        simp only [tget]
        rw [if_neg (by simp at hk; omega)]
        exact ih
      · exact ih
  simp [memByte, tgetD, this]

/-! ### Registers -/

@[simp] theorem rg_rput_self (s : State) (a v : Nat) : rg (rput s a v) a = v % 2 ^ 32 := by
  simp [rg, rput]

theorem rg_rput (s : State) (a v b : Nat) : rg (rput s a v) b = if b = a then v % 2 ^ 32 else rg s b := by
  unfold rg rput
  rw [tgetD_tset]
  split <;> simp

theorem rg_rput_ne (s : State) (v : Nat) {a b : Nat} (h : b ≠ a) : rg (rput s a v) b = rg s b := by
  rw [rg_rput, if_neg h]

/-- A register is a word of 32 bits. -/
theorem rg_lt (s : State) (a : Nat) : rg s a < 2 ^ 32 := (tgetD s.regs a (regReset a)).isLt

theorem rg_congr {s t : State} (h : t.regs = s.regs) (a : Nat) : rg t a = rg s a := by unfold rg; rw [h]

end Sys2Proof.Machine
end

