-- ==== Sys2Proof/Laws/State.lean ====
section
/-!
SUPPORT. What each small update leaves alone: one lemma per update and field of State, so that no proof unfolds a record
update.
-/

namespace Sys2Proof.Machine

variable (s : State)

/-! ### rput -/

@[simp] theorem rput_tb (a v : Nat) : (rput s a v).tb = s.tb := rfl
@[simp] theorem rput_bus (a v : Nat) : (rput s a v).bus = s.bus := rfl
@[simp] theorem rput_mic (a v : Nat) : (rput s a v).mic = s.mic := rfl
@[simp] theorem rput_btr (a v : Nat) : (rput s a v).btr = s.btr := rfl
@[simp] theorem rput_mbx (a v : Nat) : (rput s a v).mbx = s.mbx := rfl
@[simp] theorem rput_fab (a v : Nat) : (rput s a v).fab = s.fab := rfl
@[simp] theorem rput_eth (a v : Nat) : (rput s a v).eth = s.eth := rfl
@[simp] theorem rput_pwr (a v : Nat) : (rput s a v).pwr = s.pwr := rfl
@[simp] theorem rput_boot (a v : Nat) : (rput s a v).boot = s.boot := rfl
@[simp] theorem rput_brd (a v : Nat) : (rput s a v).brd = s.brd := rfl
@[simp] theorem rput_xlt (a v : Nat) : (rput s a v).xlt = s.xlt := rfl
@[simp] theorem rput_dram (a v : Nat) : (rput s a v).dram = s.dram := rfl
@[simp] theorem rput_dirc (a v : Nat) : (rput s a v).dirc = s.dirc := rfl
@[simp] theorem rput_sig (a v : Nat) : (rput s a v).sig = s.sig := rfl
@[simp] theorem rput_sched (a v : Nat) : (rput s a v).sched = s.sched := rfl
@[simp] theorem rput_twin (a v : Nat) : (rput s a v).twin = s.twin := rfl
@[simp] theorem rput_mem (a v : Nat) : (rput s a v).mem = s.mem := rfl
@[simp] theorem rput_out (a v : Nat) : (rput s a v).out = s.out := rfl
@[simp] theorem rput_free (a v : Nat) : (rput s a v).free = s.free := rfl
@[simp] theorem rput_pending (a v : Nat) : (rput s a v).pending = s.pending := rfl

/-! ### rputF -/

@[simp] theorem rputF_tb (a hi lo v : Nat) : (rputF s a hi lo v).tb = s.tb := rfl
@[simp] theorem rputF_bus (a hi lo v : Nat) : (rputF s a hi lo v).bus = s.bus := rfl
@[simp] theorem rputF_mic (a hi lo v : Nat) : (rputF s a hi lo v).mic = s.mic := rfl
@[simp] theorem rputF_btr (a hi lo v : Nat) : (rputF s a hi lo v).btr = s.btr := rfl
@[simp] theorem rputF_mbx (a hi lo v : Nat) : (rputF s a hi lo v).mbx = s.mbx := rfl
@[simp] theorem rputF_fab (a hi lo v : Nat) : (rputF s a hi lo v).fab = s.fab := rfl
@[simp] theorem rputF_eth (a hi lo v : Nat) : (rputF s a hi lo v).eth = s.eth := rfl
@[simp] theorem rputF_pwr (a hi lo v : Nat) : (rputF s a hi lo v).pwr = s.pwr := rfl
@[simp] theorem rputF_boot (a hi lo v : Nat) : (rputF s a hi lo v).boot = s.boot := rfl
@[simp] theorem rputF_brd (a hi lo v : Nat) : (rputF s a hi lo v).brd = s.brd := rfl
@[simp] theorem rputF_xlt (a hi lo v : Nat) : (rputF s a hi lo v).xlt = s.xlt := rfl
@[simp] theorem rputF_dram (a hi lo v : Nat) : (rputF s a hi lo v).dram = s.dram := rfl
@[simp] theorem rputF_dirc (a hi lo v : Nat) : (rputF s a hi lo v).dirc = s.dirc := rfl
@[simp] theorem rputF_sig (a hi lo v : Nat) : (rputF s a hi lo v).sig = s.sig := rfl
@[simp] theorem rputF_sched (a hi lo v : Nat) : (rputF s a hi lo v).sched = s.sched := rfl
@[simp] theorem rputF_twin (a hi lo v : Nat) : (rputF s a hi lo v).twin = s.twin := rfl
@[simp] theorem rputF_mem (a hi lo v : Nat) : (rputF s a hi lo v).mem = s.mem := rfl
@[simp] theorem rputF_out (a hi lo v : Nat) : (rputF s a hi lo v).out = s.out := rfl
@[simp] theorem rputF_free (a hi lo v : Nat) : (rputF s a hi lo v).free = s.free := rfl
@[simp] theorem rputF_pending (a hi lo v : Nat) : (rputF s a hi lo v).pending = s.pending := rfl

/-! ### bump -/

@[simp] theorem bump_tb (a n : Nat) : (bump s a n).tb = s.tb := rfl
@[simp] theorem bump_bus (a n : Nat) : (bump s a n).bus = s.bus := rfl
@[simp] theorem bump_mic (a n : Nat) : (bump s a n).mic = s.mic := rfl
@[simp] theorem bump_btr (a n : Nat) : (bump s a n).btr = s.btr := rfl
@[simp] theorem bump_mbx (a n : Nat) : (bump s a n).mbx = s.mbx := rfl
@[simp] theorem bump_fab (a n : Nat) : (bump s a n).fab = s.fab := rfl
@[simp] theorem bump_eth (a n : Nat) : (bump s a n).eth = s.eth := rfl
@[simp] theorem bump_pwr (a n : Nat) : (bump s a n).pwr = s.pwr := rfl
@[simp] theorem bump_boot (a n : Nat) : (bump s a n).boot = s.boot := rfl
@[simp] theorem bump_brd (a n : Nat) : (bump s a n).brd = s.brd := rfl
@[simp] theorem bump_xlt (a n : Nat) : (bump s a n).xlt = s.xlt := rfl
@[simp] theorem bump_dram (a n : Nat) : (bump s a n).dram = s.dram := rfl
@[simp] theorem bump_dirc (a n : Nat) : (bump s a n).dirc = s.dirc := rfl
@[simp] theorem bump_sig (a n : Nat) : (bump s a n).sig = s.sig := rfl
@[simp] theorem bump_sched (a n : Nat) : (bump s a n).sched = s.sched := rfl
@[simp] theorem bump_twin (a n : Nat) : (bump s a n).twin = s.twin := rfl
@[simp] theorem bump_mem (a n : Nat) : (bump s a n).mem = s.mem := rfl
@[simp] theorem bump_out (a n : Nat) : (bump s a n).out = s.out := rfl
@[simp] theorem bump_free (a n : Nat) : (bump s a n).free = s.free := rfl
@[simp] theorem bump_pending (a n : Nat) : (bump s a n).pending = s.pending := rfl

/-! ### rput64 -/

@[simp] theorem rput64_tb (lo v : Nat) : (rput64 s lo v).tb = s.tb := rfl
@[simp] theorem rput64_bus (lo v : Nat) : (rput64 s lo v).bus = s.bus := rfl
@[simp] theorem rput64_mic (lo v : Nat) : (rput64 s lo v).mic = s.mic := rfl
@[simp] theorem rput64_btr (lo v : Nat) : (rput64 s lo v).btr = s.btr := rfl
@[simp] theorem rput64_mbx (lo v : Nat) : (rput64 s lo v).mbx = s.mbx := rfl
@[simp] theorem rput64_fab (lo v : Nat) : (rput64 s lo v).fab = s.fab := rfl
@[simp] theorem rput64_eth (lo v : Nat) : (rput64 s lo v).eth = s.eth := rfl
@[simp] theorem rput64_pwr (lo v : Nat) : (rput64 s lo v).pwr = s.pwr := rfl
@[simp] theorem rput64_boot (lo v : Nat) : (rput64 s lo v).boot = s.boot := rfl
@[simp] theorem rput64_brd (lo v : Nat) : (rput64 s lo v).brd = s.brd := rfl
@[simp] theorem rput64_xlt (lo v : Nat) : (rput64 s lo v).xlt = s.xlt := rfl
@[simp] theorem rput64_dram (lo v : Nat) : (rput64 s lo v).dram = s.dram := rfl
@[simp] theorem rput64_dirc (lo v : Nat) : (rput64 s lo v).dirc = s.dirc := rfl
@[simp] theorem rput64_sig (lo v : Nat) : (rput64 s lo v).sig = s.sig := rfl
@[simp] theorem rput64_sched (lo v : Nat) : (rput64 s lo v).sched = s.sched := rfl
@[simp] theorem rput64_twin (lo v : Nat) : (rput64 s lo v).twin = s.twin := rfl
@[simp] theorem rput64_mem (lo v : Nat) : (rput64 s lo v).mem = s.mem := rfl
@[simp] theorem rput64_out (lo v : Nat) : (rput64 s lo v).out = s.out := rfl
@[simp] theorem rput64_free (lo v : Nat) : (rput64 s lo v).free = s.free := rfl
@[simp] theorem rput64_pending (lo v : Nat) : (rput64 s lo v).pending = s.pending := rfl

/-! ### bump64 -/

@[simp] theorem bump64_tb (lo n : Nat) : (bump64 s lo n).tb = s.tb := rfl
@[simp] theorem bump64_bus (lo n : Nat) : (bump64 s lo n).bus = s.bus := rfl
@[simp] theorem bump64_mic (lo n : Nat) : (bump64 s lo n).mic = s.mic := rfl
@[simp] theorem bump64_btr (lo n : Nat) : (bump64 s lo n).btr = s.btr := rfl
@[simp] theorem bump64_mbx (lo n : Nat) : (bump64 s lo n).mbx = s.mbx := rfl
@[simp] theorem bump64_fab (lo n : Nat) : (bump64 s lo n).fab = s.fab := rfl
@[simp] theorem bump64_eth (lo n : Nat) : (bump64 s lo n).eth = s.eth := rfl
@[simp] theorem bump64_pwr (lo n : Nat) : (bump64 s lo n).pwr = s.pwr := rfl
@[simp] theorem bump64_boot (lo n : Nat) : (bump64 s lo n).boot = s.boot := rfl
@[simp] theorem bump64_brd (lo n : Nat) : (bump64 s lo n).brd = s.brd := rfl
@[simp] theorem bump64_xlt (lo n : Nat) : (bump64 s lo n).xlt = s.xlt := rfl
@[simp] theorem bump64_dram (lo n : Nat) : (bump64 s lo n).dram = s.dram := rfl
@[simp] theorem bump64_dirc (lo n : Nat) : (bump64 s lo n).dirc = s.dirc := rfl
@[simp] theorem bump64_sig (lo n : Nat) : (bump64 s lo n).sig = s.sig := rfl
@[simp] theorem bump64_sched (lo n : Nat) : (bump64 s lo n).sched = s.sched := rfl
@[simp] theorem bump64_twin (lo n : Nat) : (bump64 s lo n).twin = s.twin := rfl
@[simp] theorem bump64_mem (lo n : Nat) : (bump64 s lo n).mem = s.mem := rfl
@[simp] theorem bump64_out (lo n : Nat) : (bump64 s lo n).out = s.out := rfl
@[simp] theorem bump64_free (lo n : Nat) : (bump64 s lo n).free = s.free := rfl
@[simp] theorem bump64_pending (lo n : Nat) : (bump64 s lo n).pending = s.pending := rfl

/-! ### emit -/

@[simp] theorem emit_tb (o : Output) : (emit s o).tb = s.tb := rfl
@[simp] theorem emit_regs (o : Output) : (emit s o).regs = s.regs := rfl
@[simp] theorem emit_bus (o : Output) : (emit s o).bus = s.bus := rfl
@[simp] theorem emit_mic (o : Output) : (emit s o).mic = s.mic := rfl
@[simp] theorem emit_btr (o : Output) : (emit s o).btr = s.btr := rfl
@[simp] theorem emit_mbx (o : Output) : (emit s o).mbx = s.mbx := rfl
@[simp] theorem emit_fab (o : Output) : (emit s o).fab = s.fab := rfl
@[simp] theorem emit_eth (o : Output) : (emit s o).eth = s.eth := rfl
@[simp] theorem emit_pwr (o : Output) : (emit s o).pwr = s.pwr := rfl
@[simp] theorem emit_boot (o : Output) : (emit s o).boot = s.boot := rfl
@[simp] theorem emit_brd (o : Output) : (emit s o).brd = s.brd := rfl
@[simp] theorem emit_xlt (o : Output) : (emit s o).xlt = s.xlt := rfl
@[simp] theorem emit_dram (o : Output) : (emit s o).dram = s.dram := rfl
@[simp] theorem emit_dirc (o : Output) : (emit s o).dirc = s.dirc := rfl
@[simp] theorem emit_sig (o : Output) : (emit s o).sig = s.sig := rfl
@[simp] theorem emit_sched (o : Output) : (emit s o).sched = s.sched := rfl
@[simp] theorem emit_twin (o : Output) : (emit s o).twin = s.twin := rfl
@[simp] theorem emit_mem (o : Output) : (emit s o).mem = s.mem := rfl
@[simp] theorem emit_free (o : Output) : (emit s o).free = s.free := rfl
@[simp] theorem emit_pending (o : Output) : (emit s o).pending = s.pending := rfl

/-! ### poke -/

@[simp] theorem poke_tb (a : Nat) (l : List Byte) : (poke s a l).tb = s.tb := rfl
@[simp] theorem poke_regs (a : Nat) (l : List Byte) : (poke s a l).regs = s.regs := rfl
@[simp] theorem poke_bus (a : Nat) (l : List Byte) : (poke s a l).bus = s.bus := rfl
@[simp] theorem poke_mic (a : Nat) (l : List Byte) : (poke s a l).mic = s.mic := rfl
@[simp] theorem poke_btr (a : Nat) (l : List Byte) : (poke s a l).btr = s.btr := rfl
@[simp] theorem poke_mbx (a : Nat) (l : List Byte) : (poke s a l).mbx = s.mbx := rfl
@[simp] theorem poke_fab (a : Nat) (l : List Byte) : (poke s a l).fab = s.fab := rfl
@[simp] theorem poke_eth (a : Nat) (l : List Byte) : (poke s a l).eth = s.eth := rfl
@[simp] theorem poke_pwr (a : Nat) (l : List Byte) : (poke s a l).pwr = s.pwr := rfl
@[simp] theorem poke_boot (a : Nat) (l : List Byte) : (poke s a l).boot = s.boot := rfl
@[simp] theorem poke_brd (a : Nat) (l : List Byte) : (poke s a l).brd = s.brd := rfl
@[simp] theorem poke_xlt (a : Nat) (l : List Byte) : (poke s a l).xlt = s.xlt := rfl
@[simp] theorem poke_dram (a : Nat) (l : List Byte) : (poke s a l).dram = s.dram := rfl
@[simp] theorem poke_dirc (a : Nat) (l : List Byte) : (poke s a l).dirc = s.dirc := rfl
@[simp] theorem poke_sig (a : Nat) (l : List Byte) : (poke s a l).sig = s.sig := rfl
@[simp] theorem poke_sched (a : Nat) (l : List Byte) : (poke s a l).sched = s.sched := rfl
@[simp] theorem poke_twin (a : Nat) (l : List Byte) : (poke s a l).twin = s.twin := rfl
@[simp] theorem poke_out (a : Nat) (l : List Byte) : (poke s a l).out = s.out := rfl
@[simp] theorem poke_free (a : Nat) (l : List Byte) : (poke s a l).free = s.free := rfl
@[simp] theorem poke_pending (a : Nat) (l : List Byte) : (poke s a l).pending = s.pending := rfl

/-! ### micLevel -/

@[simp] theorem micLevel_tb (src : Nat) (high : Bool) : (micLevel s src high).tb = s.tb := rfl
@[simp] theorem micLevel_regs (src : Nat) (high : Bool) : (micLevel s src high).regs = s.regs := rfl
@[simp] theorem micLevel_bus (src : Nat) (high : Bool) : (micLevel s src high).bus = s.bus := rfl
@[simp] theorem micLevel_btr (src : Nat) (high : Bool) : (micLevel s src high).btr = s.btr := rfl
@[simp] theorem micLevel_mbx (src : Nat) (high : Bool) : (micLevel s src high).mbx = s.mbx := rfl
@[simp] theorem micLevel_fab (src : Nat) (high : Bool) : (micLevel s src high).fab = s.fab := rfl
@[simp] theorem micLevel_eth (src : Nat) (high : Bool) : (micLevel s src high).eth = s.eth := rfl
@[simp] theorem micLevel_pwr (src : Nat) (high : Bool) : (micLevel s src high).pwr = s.pwr := rfl
@[simp] theorem micLevel_boot (src : Nat) (high : Bool) : (micLevel s src high).boot = s.boot := rfl
@[simp] theorem micLevel_brd (src : Nat) (high : Bool) : (micLevel s src high).brd = s.brd := rfl
@[simp] theorem micLevel_xlt (src : Nat) (high : Bool) : (micLevel s src high).xlt = s.xlt := rfl
@[simp] theorem micLevel_dram (src : Nat) (high : Bool) : (micLevel s src high).dram = s.dram := rfl
@[simp] theorem micLevel_dirc (src : Nat) (high : Bool) : (micLevel s src high).dirc = s.dirc := rfl
@[simp] theorem micLevel_sig (src : Nat) (high : Bool) : (micLevel s src high).sig = s.sig := rfl
@[simp] theorem micLevel_sched (src : Nat) (high : Bool) : (micLevel s src high).sched = s.sched := rfl
@[simp] theorem micLevel_twin (src : Nat) (high : Bool) : (micLevel s src high).twin = s.twin := rfl
@[simp] theorem micLevel_mem (src : Nat) (high : Bool) : (micLevel s src high).mem = s.mem := rfl
@[simp] theorem micLevel_out (src : Nat) (high : Bool) : (micLevel s src high).out = s.out := rfl
@[simp] theorem micLevel_free (src : Nat) (high : Bool) : (micLevel s src high).free = s.free := rfl
@[simp] theorem micLevel_pending (src : Nat) (high : Bool) : (micLevel s src high).pending = s.pending := rfl

/-! ### setEthPort -/

@[simp] theorem setEthPort_tb (k : Nat) (p : EthPort) : (setEthPort s k p).tb = s.tb := rfl
@[simp] theorem setEthPort_regs (k : Nat) (p : EthPort) : (setEthPort s k p).regs = s.regs := rfl
@[simp] theorem setEthPort_bus (k : Nat) (p : EthPort) : (setEthPort s k p).bus = s.bus := rfl
@[simp] theorem setEthPort_mic (k : Nat) (p : EthPort) : (setEthPort s k p).mic = s.mic := rfl
@[simp] theorem setEthPort_btr (k : Nat) (p : EthPort) : (setEthPort s k p).btr = s.btr := rfl
@[simp] theorem setEthPort_mbx (k : Nat) (p : EthPort) : (setEthPort s k p).mbx = s.mbx := rfl
@[simp] theorem setEthPort_fab (k : Nat) (p : EthPort) : (setEthPort s k p).fab = s.fab := rfl
@[simp] theorem setEthPort_pwr (k : Nat) (p : EthPort) : (setEthPort s k p).pwr = s.pwr := rfl
@[simp] theorem setEthPort_boot (k : Nat) (p : EthPort) : (setEthPort s k p).boot = s.boot := rfl
@[simp] theorem setEthPort_brd (k : Nat) (p : EthPort) : (setEthPort s k p).brd = s.brd := rfl
@[simp] theorem setEthPort_xlt (k : Nat) (p : EthPort) : (setEthPort s k p).xlt = s.xlt := rfl
@[simp] theorem setEthPort_dram (k : Nat) (p : EthPort) : (setEthPort s k p).dram = s.dram := rfl
@[simp] theorem setEthPort_dirc (k : Nat) (p : EthPort) : (setEthPort s k p).dirc = s.dirc := rfl
@[simp] theorem setEthPort_sig (k : Nat) (p : EthPort) : (setEthPort s k p).sig = s.sig := rfl
@[simp] theorem setEthPort_sched (k : Nat) (p : EthPort) : (setEthPort s k p).sched = s.sched := rfl
@[simp] theorem setEthPort_twin (k : Nat) (p : EthPort) : (setEthPort s k p).twin = s.twin := rfl
@[simp] theorem setEthPort_mem (k : Nat) (p : EthPort) : (setEthPort s k p).mem = s.mem := rfl
@[simp] theorem setEthPort_out (k : Nat) (p : EthPort) : (setEthPort s k p).out = s.out := rfl
@[simp] theorem setEthPort_free (k : Nat) (p : EthPort) : (setEthPort s k p).free = s.free := rfl
@[simp] theorem setEthPort_pending (k : Nat) (p : EthPort) : (setEthPort s k p).pending = s.pending := rfl

/-! ### ethQueue -/

@[simp] theorem ethQueue_tb (k q : Nat) (x : EthKind) (len : Nat) : (ethQueue s k q x len).tb = s.tb := rfl
@[simp] theorem ethQueue_regs (k q : Nat) (x : EthKind) (len : Nat) : (ethQueue s k q x len).regs = s.regs := rfl
@[simp] theorem ethQueue_bus (k q : Nat) (x : EthKind) (len : Nat) : (ethQueue s k q x len).bus = s.bus := rfl
@[simp] theorem ethQueue_mic (k q : Nat) (x : EthKind) (len : Nat) : (ethQueue s k q x len).mic = s.mic := rfl
@[simp] theorem ethQueue_btr (k q : Nat) (x : EthKind) (len : Nat) : (ethQueue s k q x len).btr = s.btr := rfl
@[simp] theorem ethQueue_mbx (k q : Nat) (x : EthKind) (len : Nat) : (ethQueue s k q x len).mbx = s.mbx := rfl
@[simp] theorem ethQueue_fab (k q : Nat) (x : EthKind) (len : Nat) : (ethQueue s k q x len).fab = s.fab := rfl
@[simp] theorem ethQueue_pwr (k q : Nat) (x : EthKind) (len : Nat) : (ethQueue s k q x len).pwr = s.pwr := rfl
@[simp] theorem ethQueue_boot (k q : Nat) (x : EthKind) (len : Nat) : (ethQueue s k q x len).boot = s.boot := rfl
@[simp] theorem ethQueue_brd (k q : Nat) (x : EthKind) (len : Nat) : (ethQueue s k q x len).brd = s.brd := rfl
@[simp] theorem ethQueue_xlt (k q : Nat) (x : EthKind) (len : Nat) : (ethQueue s k q x len).xlt = s.xlt := rfl
@[simp] theorem ethQueue_dram (k q : Nat) (x : EthKind) (len : Nat) : (ethQueue s k q x len).dram = s.dram := rfl
@[simp] theorem ethQueue_dirc (k q : Nat) (x : EthKind) (len : Nat) : (ethQueue s k q x len).dirc = s.dirc := rfl
@[simp] theorem ethQueue_sig (k q : Nat) (x : EthKind) (len : Nat) : (ethQueue s k q x len).sig = s.sig := rfl
@[simp] theorem ethQueue_sched (k q : Nat) (x : EthKind) (len : Nat) : (ethQueue s k q x len).sched = s.sched := rfl
@[simp] theorem ethQueue_twin (k q : Nat) (x : EthKind) (len : Nat) : (ethQueue s k q x len).twin = s.twin := rfl
@[simp] theorem ethQueue_mem (k q : Nat) (x : EthKind) (len : Nat) : (ethQueue s k q x len).mem = s.mem := rfl
@[simp] theorem ethQueue_out (k q : Nat) (x : EthKind) (len : Nat) : (ethQueue s k q x len).out = s.out := rfl
@[simp] theorem ethQueue_free (k q : Nat) (x : EthKind) (len : Nat) : (ethQueue s k q x len).free = s.free := rfl
@[simp] theorem ethQueue_pending (k q : Nat) (x : EthKind) (len : Nat) : (ethQueue s k q x len).pending = s.pending := rfl

/-! ### withPending -/

@[simp] theorem withPending_tb (q : List Instr) : (s.withPending q).tb = s.tb := rfl
@[simp] theorem withPending_regs (q : List Instr) : (s.withPending q).regs = s.regs := rfl
@[simp] theorem withPending_bus (q : List Instr) : (s.withPending q).bus = s.bus := rfl
@[simp] theorem withPending_mic (q : List Instr) : (s.withPending q).mic = s.mic := rfl
@[simp] theorem withPending_btr (q : List Instr) : (s.withPending q).btr = s.btr := rfl
@[simp] theorem withPending_mbx (q : List Instr) : (s.withPending q).mbx = s.mbx := rfl
@[simp] theorem withPending_fab (q : List Instr) : (s.withPending q).fab = s.fab := rfl
@[simp] theorem withPending_eth (q : List Instr) : (s.withPending q).eth = s.eth := rfl
@[simp] theorem withPending_pwr (q : List Instr) : (s.withPending q).pwr = s.pwr := rfl
@[simp] theorem withPending_boot (q : List Instr) : (s.withPending q).boot = s.boot := rfl
@[simp] theorem withPending_brd (q : List Instr) : (s.withPending q).brd = s.brd := rfl
@[simp] theorem withPending_xlt (q : List Instr) : (s.withPending q).xlt = s.xlt := rfl
@[simp] theorem withPending_dram (q : List Instr) : (s.withPending q).dram = s.dram := rfl
@[simp] theorem withPending_dirc (q : List Instr) : (s.withPending q).dirc = s.dirc := rfl
@[simp] theorem withPending_sig (q : List Instr) : (s.withPending q).sig = s.sig := rfl
@[simp] theorem withPending_sched (q : List Instr) : (s.withPending q).sched = s.sched := rfl
@[simp] theorem withPending_twin (q : List Instr) : (s.withPending q).twin = s.twin := rfl
@[simp] theorem withPending_mem (q : List Instr) : (s.withPending q).mem = s.mem := rfl
@[simp] theorem withPending_out (q : List Instr) : (s.withPending q).out = s.out := rfl
@[simp] theorem withPending_free (q : List Instr) : (s.withPending q).free = s.free := rfl

/-! ### reach -/

@[simp] theorem reach_regs (t : Nat) : (reach s t).regs = s.regs := by unfold reach; split <;> rfl
@[simp] theorem reach_bus (t : Nat) : (reach s t).bus = s.bus := by unfold reach; split <;> rfl
@[simp] theorem reach_mic (t : Nat) : (reach s t).mic = s.mic := by unfold reach; split <;> rfl
@[simp] theorem reach_btr (t : Nat) : (reach s t).btr = s.btr := by unfold reach; split <;> rfl
@[simp] theorem reach_mbx (t : Nat) : (reach s t).mbx = s.mbx := by unfold reach; split <;> rfl
@[simp] theorem reach_fab (t : Nat) : (reach s t).fab = s.fab := by unfold reach; split <;> rfl
@[simp] theorem reach_eth (t : Nat) : (reach s t).eth = s.eth := by unfold reach; split <;> rfl
@[simp] theorem reach_pwr (t : Nat) : (reach s t).pwr = s.pwr := by unfold reach; split <;> rfl
@[simp] theorem reach_boot (t : Nat) : (reach s t).boot = s.boot := by unfold reach; split <;> rfl
@[simp] theorem reach_brd (t : Nat) : (reach s t).brd = s.brd := by unfold reach; split <;> rfl
@[simp] theorem reach_xlt (t : Nat) : (reach s t).xlt = s.xlt := by unfold reach; split <;> rfl
@[simp] theorem reach_dram (t : Nat) : (reach s t).dram = s.dram := by unfold reach; split <;> rfl
@[simp] theorem reach_dirc (t : Nat) : (reach s t).dirc = s.dirc := by unfold reach; split <;> rfl
@[simp] theorem reach_sig (t : Nat) : (reach s t).sig = s.sig := by unfold reach; split <;> rfl
@[simp] theorem reach_sched (t : Nat) : (reach s t).sched = s.sched := by unfold reach; split <;> rfl
@[simp] theorem reach_twin (t : Nat) : (reach s t).twin = s.twin := by unfold reach; split <;> rfl
@[simp] theorem reach_mem (t : Nat) : (reach s t).mem = s.mem := by unfold reach; split <;> rfl
@[simp] theorem reach_out (t : Nat) : (reach s t).out = s.out := by unfold reach; split <;> rfl
@[simp] theorem reach_free (t : Nat) : (reach s t).free = s.free := by unfold reach; split <;> rfl
@[simp] theorem reach_pending (t : Nat) : (reach s t).pending = s.pending := by unfold reach; split <;> rfl

/-! ### tick -/

@[simp] theorem tick_regs : (tick s).regs = s.regs := rfl
@[simp] theorem tick_bus : (tick s).bus = s.bus := rfl
@[simp] theorem tick_mic : (tick s).mic = s.mic := rfl
@[simp] theorem tick_btr : (tick s).btr = s.btr := rfl
@[simp] theorem tick_mbx : (tick s).mbx = s.mbx := rfl
@[simp] theorem tick_fab : (tick s).fab = s.fab := rfl
@[simp] theorem tick_eth : (tick s).eth = s.eth := rfl
@[simp] theorem tick_pwr : (tick s).pwr = s.pwr := rfl
@[simp] theorem tick_boot : (tick s).boot = s.boot := rfl
@[simp] theorem tick_brd : (tick s).brd = s.brd := rfl
@[simp] theorem tick_xlt : (tick s).xlt = s.xlt := rfl
@[simp] theorem tick_dram : (tick s).dram = s.dram := rfl
@[simp] theorem tick_dirc : (tick s).dirc = s.dirc := rfl
@[simp] theorem tick_sig : (tick s).sig = s.sig := rfl
@[simp] theorem tick_sched : (tick s).sched = s.sched := rfl
@[simp] theorem tick_twin : (tick s).twin = s.twin := rfl
@[simp] theorem tick_mem : (tick s).mem = s.mem := rfl
@[simp] theorem tick_out : (tick s).out = s.out := rfl
@[simp] theorem tick_free : (tick s).free = s.free := rfl
@[simp] theorem tick_pending : (tick s).pending = s.pending := rfl

/-! ### setSession -/

@[simp] theorem setSession_tb (k : Nat) (se : Session) : (setSession s k se).tb = s.tb := rfl
@[simp] theorem setSession_regs (k : Nat) (se : Session) : (setSession s k se).regs = s.regs := rfl
@[simp] theorem setSession_bus (k : Nat) (se : Session) : (setSession s k se).bus = s.bus := rfl
@[simp] theorem setSession_mic (k : Nat) (se : Session) : (setSession s k se).mic = s.mic := rfl
@[simp] theorem setSession_btr (k : Nat) (se : Session) : (setSession s k se).btr = s.btr := rfl
@[simp] theorem setSession_fab (k : Nat) (se : Session) : (setSession s k se).fab = s.fab := rfl
@[simp] theorem setSession_eth (k : Nat) (se : Session) : (setSession s k se).eth = s.eth := rfl
@[simp] theorem setSession_pwr (k : Nat) (se : Session) : (setSession s k se).pwr = s.pwr := rfl
@[simp] theorem setSession_boot (k : Nat) (se : Session) : (setSession s k se).boot = s.boot := rfl
@[simp] theorem setSession_brd (k : Nat) (se : Session) : (setSession s k se).brd = s.brd := rfl
@[simp] theorem setSession_xlt (k : Nat) (se : Session) : (setSession s k se).xlt = s.xlt := rfl
@[simp] theorem setSession_dram (k : Nat) (se : Session) : (setSession s k se).dram = s.dram := rfl
@[simp] theorem setSession_dirc (k : Nat) (se : Session) : (setSession s k se).dirc = s.dirc := rfl
@[simp] theorem setSession_sig (k : Nat) (se : Session) : (setSession s k se).sig = s.sig := rfl
@[simp] theorem setSession_sched (k : Nat) (se : Session) : (setSession s k se).sched = s.sched := rfl
@[simp] theorem setSession_twin (k : Nat) (se : Session) : (setSession s k se).twin = s.twin := rfl
@[simp] theorem setSession_mem (k : Nat) (se : Session) : (setSession s k se).mem = s.mem := rfl
@[simp] theorem setSession_out (k : Nat) (se : Session) : (setSession s k se).out = s.out := rfl
@[simp] theorem setSession_free (k : Nat) (se : Session) : (setSession s k se).free = s.free := rfl
@[simp] theorem setSession_pending (k : Nat) (se : Session) : (setSession s k se).pending = s.pending := rfl

/-! ### dequeue -/

@[simp] theorem dequeue_tb (slot : Nat) (tag : Word32) : (dequeue s slot tag).tb = s.tb := by unfold dequeue setSession; cases session s slot <;> rfl
@[simp] theorem dequeue_regs (slot : Nat) (tag : Word32) : (dequeue s slot tag).regs = s.regs := by unfold dequeue setSession; cases session s slot <;> rfl
@[simp] theorem dequeue_bus (slot : Nat) (tag : Word32) : (dequeue s slot tag).bus = s.bus := by unfold dequeue setSession; cases session s slot <;> rfl
@[simp] theorem dequeue_mic (slot : Nat) (tag : Word32) : (dequeue s slot tag).mic = s.mic := by unfold dequeue setSession; cases session s slot <;> rfl
@[simp] theorem dequeue_btr (slot : Nat) (tag : Word32) : (dequeue s slot tag).btr = s.btr := by unfold dequeue setSession; cases session s slot <;> rfl
@[simp] theorem dequeue_fab (slot : Nat) (tag : Word32) : (dequeue s slot tag).fab = s.fab := by unfold dequeue setSession; cases session s slot <;> rfl
@[simp] theorem dequeue_eth (slot : Nat) (tag : Word32) : (dequeue s slot tag).eth = s.eth := by unfold dequeue setSession; cases session s slot <;> rfl
@[simp] theorem dequeue_pwr (slot : Nat) (tag : Word32) : (dequeue s slot tag).pwr = s.pwr := by unfold dequeue setSession; cases session s slot <;> rfl
@[simp] theorem dequeue_boot (slot : Nat) (tag : Word32) : (dequeue s slot tag).boot = s.boot := by unfold dequeue setSession; cases session s slot <;> rfl
@[simp] theorem dequeue_brd (slot : Nat) (tag : Word32) : (dequeue s slot tag).brd = s.brd := by unfold dequeue setSession; cases session s slot <;> rfl
@[simp] theorem dequeue_xlt (slot : Nat) (tag : Word32) : (dequeue s slot tag).xlt = s.xlt := by unfold dequeue setSession; cases session s slot <;> rfl
@[simp] theorem dequeue_dram (slot : Nat) (tag : Word32) : (dequeue s slot tag).dram = s.dram := by unfold dequeue setSession; cases session s slot <;> rfl
@[simp] theorem dequeue_dirc (slot : Nat) (tag : Word32) : (dequeue s slot tag).dirc = s.dirc := by unfold dequeue setSession; cases session s slot <;> rfl
@[simp] theorem dequeue_sig (slot : Nat) (tag : Word32) : (dequeue s slot tag).sig = s.sig := by unfold dequeue setSession; cases session s slot <;> rfl
@[simp] theorem dequeue_sched (slot : Nat) (tag : Word32) : (dequeue s slot tag).sched = s.sched := by unfold dequeue setSession; cases session s slot <;> rfl
@[simp] theorem dequeue_twin (slot : Nat) (tag : Word32) : (dequeue s slot tag).twin = s.twin := by unfold dequeue setSession; cases session s slot <;> rfl
@[simp] theorem dequeue_mem (slot : Nat) (tag : Word32) : (dequeue s slot tag).mem = s.mem := by unfold dequeue setSession; cases session s slot <;> rfl
@[simp] theorem dequeue_out (slot : Nat) (tag : Word32) : (dequeue s slot tag).out = s.out := by unfold dequeue setSession; cases session s slot <;> rfl
@[simp] theorem dequeue_free (slot : Nat) (tag : Word32) : (dequeue s slot tag).free = s.free := by unfold dequeue setSession; cases session s slot <;> rfl
@[simp] theorem dequeue_pending (slot : Nat) (tag : Word32) : (dequeue s slot tag).pending = s.pending := by unfold dequeue setSession; cases session s slot <;> rfl

/-! ### setPwr -/

@[simp] theorem setPwr_tb (p : Power) : (setPwr s p).tb = s.tb := rfl
@[simp] theorem setPwr_regs (p : Power) : (setPwr s p).regs = s.regs := rfl
@[simp] theorem setPwr_bus (p : Power) : (setPwr s p).bus = s.bus := rfl
@[simp] theorem setPwr_mic (p : Power) : (setPwr s p).mic = s.mic := rfl
@[simp] theorem setPwr_btr (p : Power) : (setPwr s p).btr = s.btr := rfl
@[simp] theorem setPwr_mbx (p : Power) : (setPwr s p).mbx = s.mbx := rfl
@[simp] theorem setPwr_fab (p : Power) : (setPwr s p).fab = s.fab := rfl
@[simp] theorem setPwr_eth (p : Power) : (setPwr s p).eth = s.eth := rfl
@[simp] theorem setPwr_boot (p : Power) : (setPwr s p).boot = s.boot := rfl
@[simp] theorem setPwr_brd (p : Power) : (setPwr s p).brd = s.brd := rfl
@[simp] theorem setPwr_xlt (p : Power) : (setPwr s p).xlt = s.xlt := rfl
@[simp] theorem setPwr_dram (p : Power) : (setPwr s p).dram = s.dram := rfl
@[simp] theorem setPwr_dirc (p : Power) : (setPwr s p).dirc = s.dirc := rfl
@[simp] theorem setPwr_sig (p : Power) : (setPwr s p).sig = s.sig := rfl
@[simp] theorem setPwr_sched (p : Power) : (setPwr s p).sched = s.sched := rfl
@[simp] theorem setPwr_twin (p : Power) : (setPwr s p).twin = s.twin := rfl
@[simp] theorem setPwr_mem (p : Power) : (setPwr s p).mem = s.mem := rfl
@[simp] theorem setPwr_out (p : Power) : (setPwr s p).out = s.out := rfl
@[simp] theorem setPwr_free (p : Power) : (setPwr s p).free = s.free := rfl
@[simp] theorem setPwr_pending (p : Power) : (setPwr s p).pending = s.pending := rfl

/-! ### setBoot -/

@[simp] theorem setBoot_tb (b : Boot) : (setBoot s b).tb = s.tb := rfl
@[simp] theorem setBoot_regs (b : Boot) : (setBoot s b).regs = s.regs := rfl
@[simp] theorem setBoot_bus (b : Boot) : (setBoot s b).bus = s.bus := rfl
@[simp] theorem setBoot_mic (b : Boot) : (setBoot s b).mic = s.mic := rfl
@[simp] theorem setBoot_btr (b : Boot) : (setBoot s b).btr = s.btr := rfl
@[simp] theorem setBoot_mbx (b : Boot) : (setBoot s b).mbx = s.mbx := rfl
@[simp] theorem setBoot_fab (b : Boot) : (setBoot s b).fab = s.fab := rfl
@[simp] theorem setBoot_eth (b : Boot) : (setBoot s b).eth = s.eth := rfl
@[simp] theorem setBoot_pwr (b : Boot) : (setBoot s b).pwr = s.pwr := rfl
@[simp] theorem setBoot_brd (b : Boot) : (setBoot s b).brd = s.brd := rfl
@[simp] theorem setBoot_xlt (b : Boot) : (setBoot s b).xlt = s.xlt := rfl
@[simp] theorem setBoot_dram (b : Boot) : (setBoot s b).dram = s.dram := rfl
@[simp] theorem setBoot_dirc (b : Boot) : (setBoot s b).dirc = s.dirc := rfl
@[simp] theorem setBoot_sig (b : Boot) : (setBoot s b).sig = s.sig := rfl
@[simp] theorem setBoot_sched (b : Boot) : (setBoot s b).sched = s.sched := rfl
@[simp] theorem setBoot_twin (b : Boot) : (setBoot s b).twin = s.twin := rfl
@[simp] theorem setBoot_mem (b : Boot) : (setBoot s b).mem = s.mem := rfl
@[simp] theorem setBoot_out (b : Boot) : (setBoot s b).out = s.out := rfl
@[simp] theorem setBoot_free (b : Boot) : (setBoot s b).free = s.free := rfl
@[simp] theorem setBoot_pending (b : Boot) : (setBoot s b).pending = s.pending := rfl

/-! ### setChan -/

@[simp] theorem setChan_tb (n c : Nat) (k : Chan) : (setChan s n c k).tb = s.tb := rfl
@[simp] theorem setChan_regs (n c : Nat) (k : Chan) : (setChan s n c k).regs = s.regs := rfl
@[simp] theorem setChan_bus (n c : Nat) (k : Chan) : (setChan s n c k).bus = s.bus := rfl
@[simp] theorem setChan_mic (n c : Nat) (k : Chan) : (setChan s n c k).mic = s.mic := rfl
@[simp] theorem setChan_btr (n c : Nat) (k : Chan) : (setChan s n c k).btr = s.btr := rfl
@[simp] theorem setChan_mbx (n c : Nat) (k : Chan) : (setChan s n c k).mbx = s.mbx := rfl
@[simp] theorem setChan_fab (n c : Nat) (k : Chan) : (setChan s n c k).fab = s.fab := rfl
@[simp] theorem setChan_eth (n c : Nat) (k : Chan) : (setChan s n c k).eth = s.eth := rfl
@[simp] theorem setChan_pwr (n c : Nat) (k : Chan) : (setChan s n c k).pwr = s.pwr := rfl
@[simp] theorem setChan_boot (n c : Nat) (k : Chan) : (setChan s n c k).boot = s.boot := rfl
@[simp] theorem setChan_brd (n c : Nat) (k : Chan) : (setChan s n c k).brd = s.brd := rfl
@[simp] theorem setChan_xlt (n c : Nat) (k : Chan) : (setChan s n c k).xlt = s.xlt := rfl
@[simp] theorem setChan_dirc (n c : Nat) (k : Chan) : (setChan s n c k).dirc = s.dirc := rfl
@[simp] theorem setChan_sig (n c : Nat) (k : Chan) : (setChan s n c k).sig = s.sig := rfl
@[simp] theorem setChan_sched (n c : Nat) (k : Chan) : (setChan s n c k).sched = s.sched := rfl
@[simp] theorem setChan_twin (n c : Nat) (k : Chan) : (setChan s n c k).twin = s.twin := rfl
@[simp] theorem setChan_mem (n c : Nat) (k : Chan) : (setChan s n c k).mem = s.mem := rfl
@[simp] theorem setChan_out (n c : Nat) (k : Chan) : (setChan s n c k).out = s.out := rfl
@[simp] theorem setChan_free (n c : Nat) (k : Chan) : (setChan s n c k).free = s.free := rfl
@[simp] theorem setChan_pending (n c : Nat) (k : Chan) : (setChan s n c k).pending = s.pending := rfl

/-! ### setSealDie -/

@[simp] theorem setSealDie_tb (n : Nat) (d : SealDie) : (setSealDie s n d).tb = s.tb := rfl
@[simp] theorem setSealDie_regs (n : Nat) (d : SealDie) : (setSealDie s n d).regs = s.regs := rfl
@[simp] theorem setSealDie_bus (n : Nat) (d : SealDie) : (setSealDie s n d).bus = s.bus := rfl
@[simp] theorem setSealDie_mic (n : Nat) (d : SealDie) : (setSealDie s n d).mic = s.mic := rfl
@[simp] theorem setSealDie_btr (n : Nat) (d : SealDie) : (setSealDie s n d).btr = s.btr := rfl
@[simp] theorem setSealDie_mbx (n : Nat) (d : SealDie) : (setSealDie s n d).mbx = s.mbx := rfl
@[simp] theorem setSealDie_fab (n : Nat) (d : SealDie) : (setSealDie s n d).fab = s.fab := rfl
@[simp] theorem setSealDie_eth (n : Nat) (d : SealDie) : (setSealDie s n d).eth = s.eth := rfl
@[simp] theorem setSealDie_pwr (n : Nat) (d : SealDie) : (setSealDie s n d).pwr = s.pwr := rfl
@[simp] theorem setSealDie_boot (n : Nat) (d : SealDie) : (setSealDie s n d).boot = s.boot := rfl
@[simp] theorem setSealDie_brd (n : Nat) (d : SealDie) : (setSealDie s n d).brd = s.brd := rfl
@[simp] theorem setSealDie_xlt (n : Nat) (d : SealDie) : (setSealDie s n d).xlt = s.xlt := rfl
@[simp] theorem setSealDie_dirc (n : Nat) (d : SealDie) : (setSealDie s n d).dirc = s.dirc := rfl
@[simp] theorem setSealDie_sig (n : Nat) (d : SealDie) : (setSealDie s n d).sig = s.sig := rfl
@[simp] theorem setSealDie_sched (n : Nat) (d : SealDie) : (setSealDie s n d).sched = s.sched := rfl
@[simp] theorem setSealDie_twin (n : Nat) (d : SealDie) : (setSealDie s n d).twin = s.twin := rfl
@[simp] theorem setSealDie_mem (n : Nat) (d : SealDie) : (setSealDie s n d).mem = s.mem := rfl
@[simp] theorem setSealDie_out (n : Nat) (d : SealDie) : (setSealDie s n d).out = s.out := rfl
@[simp] theorem setSealDie_free (n : Nat) (d : SealDie) : (setSealDie s n d).free = s.free := rfl
@[simp] theorem setSealDie_pending (n : Nat) (d : SealDie) : (setSealDie s n d).pending = s.pending := rfl

/-! ### setExt -/

@[simp] theorem setExt_tb (e : Nat) (r : ExtRec) : (setExt s e r).tb = s.tb := rfl
@[simp] theorem setExt_regs (e : Nat) (r : ExtRec) : (setExt s e r).regs = s.regs := rfl
@[simp] theorem setExt_bus (e : Nat) (r : ExtRec) : (setExt s e r).bus = s.bus := rfl
@[simp] theorem setExt_mic (e : Nat) (r : ExtRec) : (setExt s e r).mic = s.mic := rfl
@[simp] theorem setExt_btr (e : Nat) (r : ExtRec) : (setExt s e r).btr = s.btr := rfl
@[simp] theorem setExt_mbx (e : Nat) (r : ExtRec) : (setExt s e r).mbx = s.mbx := rfl
@[simp] theorem setExt_fab (e : Nat) (r : ExtRec) : (setExt s e r).fab = s.fab := rfl
@[simp] theorem setExt_eth (e : Nat) (r : ExtRec) : (setExt s e r).eth = s.eth := rfl
@[simp] theorem setExt_pwr (e : Nat) (r : ExtRec) : (setExt s e r).pwr = s.pwr := rfl
@[simp] theorem setExt_boot (e : Nat) (r : ExtRec) : (setExt s e r).boot = s.boot := rfl
@[simp] theorem setExt_brd (e : Nat) (r : ExtRec) : (setExt s e r).brd = s.brd := rfl
@[simp] theorem setExt_dram (e : Nat) (r : ExtRec) : (setExt s e r).dram = s.dram := rfl
@[simp] theorem setExt_dirc (e : Nat) (r : ExtRec) : (setExt s e r).dirc = s.dirc := rfl
@[simp] theorem setExt_sig (e : Nat) (r : ExtRec) : (setExt s e r).sig = s.sig := rfl
@[simp] theorem setExt_sched (e : Nat) (r : ExtRec) : (setExt s e r).sched = s.sched := rfl
@[simp] theorem setExt_twin (e : Nat) (r : ExtRec) : (setExt s e r).twin = s.twin := rfl
@[simp] theorem setExt_mem (e : Nat) (r : ExtRec) : (setExt s e r).mem = s.mem := rfl
@[simp] theorem setExt_out (e : Nat) (r : ExtRec) : (setExt s e r).out = s.out := rfl
@[simp] theorem setExt_free (e : Nat) (r : ExtRec) : (setExt s e r).free = s.free := rfl
@[simp] theorem setExt_pending (e : Nat) (r : ExtRec) : (setExt s e r).pending = s.pending := rfl

/-! ### setCtx -/

@[simp] theorem setCtx_tb (x : Nat) (c : Ctx) : (setCtx s x c).tb = s.tb := rfl
@[simp] theorem setCtx_regs (x : Nat) (c : Ctx) : (setCtx s x c).regs = s.regs := rfl
@[simp] theorem setCtx_bus (x : Nat) (c : Ctx) : (setCtx s x c).bus = s.bus := rfl
@[simp] theorem setCtx_mic (x : Nat) (c : Ctx) : (setCtx s x c).mic = s.mic := rfl
@[simp] theorem setCtx_btr (x : Nat) (c : Ctx) : (setCtx s x c).btr = s.btr := rfl
@[simp] theorem setCtx_mbx (x : Nat) (c : Ctx) : (setCtx s x c).mbx = s.mbx := rfl
@[simp] theorem setCtx_fab (x : Nat) (c : Ctx) : (setCtx s x c).fab = s.fab := rfl
@[simp] theorem setCtx_eth (x : Nat) (c : Ctx) : (setCtx s x c).eth = s.eth := rfl
@[simp] theorem setCtx_pwr (x : Nat) (c : Ctx) : (setCtx s x c).pwr = s.pwr := rfl
@[simp] theorem setCtx_boot (x : Nat) (c : Ctx) : (setCtx s x c).boot = s.boot := rfl
@[simp] theorem setCtx_brd (x : Nat) (c : Ctx) : (setCtx s x c).brd = s.brd := rfl
@[simp] theorem setCtx_xlt (x : Nat) (c : Ctx) : (setCtx s x c).xlt = s.xlt := rfl
@[simp] theorem setCtx_dram (x : Nat) (c : Ctx) : (setCtx s x c).dram = s.dram := rfl
@[simp] theorem setCtx_dirc (x : Nat) (c : Ctx) : (setCtx s x c).dirc = s.dirc := rfl
@[simp] theorem setCtx_sig (x : Nat) (c : Ctx) : (setCtx s x c).sig = s.sig := rfl
@[simp] theorem setCtx_twin (x : Nat) (c : Ctx) : (setCtx s x c).twin = s.twin := rfl
@[simp] theorem setCtx_mem (x : Nat) (c : Ctx) : (setCtx s x c).mem = s.mem := rfl
@[simp] theorem setCtx_out (x : Nat) (c : Ctx) : (setCtx s x c).out = s.out := rfl
@[simp] theorem setCtx_free (x : Nat) (c : Ctx) : (setCtx s x c).free = s.free := rfl
@[simp] theorem setCtx_pending (x : Nat) (c : Ctx) : (setCtx s x c).pending = s.pending := rfl

/-! ### setQp -/

@[simp] theorem setQp_tb (q : Nat) (p : QPair) : (setQp s q p).tb = s.tb := rfl
@[simp] theorem setQp_regs (q : Nat) (p : QPair) : (setQp s q p).regs = s.regs := rfl
@[simp] theorem setQp_bus (q : Nat) (p : QPair) : (setQp s q p).bus = s.bus := rfl
@[simp] theorem setQp_mic (q : Nat) (p : QPair) : (setQp s q p).mic = s.mic := rfl
@[simp] theorem setQp_btr (q : Nat) (p : QPair) : (setQp s q p).btr = s.btr := rfl
@[simp] theorem setQp_mbx (q : Nat) (p : QPair) : (setQp s q p).mbx = s.mbx := rfl
@[simp] theorem setQp_fab (q : Nat) (p : QPair) : (setQp s q p).fab = s.fab := rfl
@[simp] theorem setQp_pwr (q : Nat) (p : QPair) : (setQp s q p).pwr = s.pwr := rfl
@[simp] theorem setQp_boot (q : Nat) (p : QPair) : (setQp s q p).boot = s.boot := rfl
@[simp] theorem setQp_brd (q : Nat) (p : QPair) : (setQp s q p).brd = s.brd := rfl
@[simp] theorem setQp_xlt (q : Nat) (p : QPair) : (setQp s q p).xlt = s.xlt := rfl
@[simp] theorem setQp_dram (q : Nat) (p : QPair) : (setQp s q p).dram = s.dram := rfl
@[simp] theorem setQp_dirc (q : Nat) (p : QPair) : (setQp s q p).dirc = s.dirc := rfl
@[simp] theorem setQp_sig (q : Nat) (p : QPair) : (setQp s q p).sig = s.sig := rfl
@[simp] theorem setQp_sched (q : Nat) (p : QPair) : (setQp s q p).sched = s.sched := rfl
@[simp] theorem setQp_twin (q : Nat) (p : QPair) : (setQp s q p).twin = s.twin := rfl
@[simp] theorem setQp_mem (q : Nat) (p : QPair) : (setQp s q p).mem = s.mem := rfl
@[simp] theorem setQp_out (q : Nat) (p : QPair) : (setQp s q p).out = s.out := rfl
@[simp] theorem setQp_free (q : Nat) (p : QPair) : (setQp s q p).free = s.free := rfl
@[simp] theorem setQp_pending (q : Nat) (p : QPair) : (setQp s q p).pending = s.pending := rfl

/-! ### giveData -/

@[simp] theorem giveData_tb (m v : Nat) : (giveData s m v).tb = s.tb := rfl
@[simp] theorem giveData_regs (m v : Nat) : (giveData s m v).regs = s.regs := rfl
@[simp] theorem giveData_mic (m v : Nat) : (giveData s m v).mic = s.mic := rfl
@[simp] theorem giveData_btr (m v : Nat) : (giveData s m v).btr = s.btr := rfl
@[simp] theorem giveData_mbx (m v : Nat) : (giveData s m v).mbx = s.mbx := rfl
@[simp] theorem giveData_fab (m v : Nat) : (giveData s m v).fab = s.fab := rfl
@[simp] theorem giveData_eth (m v : Nat) : (giveData s m v).eth = s.eth := rfl
@[simp] theorem giveData_pwr (m v : Nat) : (giveData s m v).pwr = s.pwr := rfl
@[simp] theorem giveData_boot (m v : Nat) : (giveData s m v).boot = s.boot := rfl
@[simp] theorem giveData_brd (m v : Nat) : (giveData s m v).brd = s.brd := rfl
@[simp] theorem giveData_xlt (m v : Nat) : (giveData s m v).xlt = s.xlt := rfl
@[simp] theorem giveData_dram (m v : Nat) : (giveData s m v).dram = s.dram := rfl
@[simp] theorem giveData_dirc (m v : Nat) : (giveData s m v).dirc = s.dirc := rfl
@[simp] theorem giveData_sig (m v : Nat) : (giveData s m v).sig = s.sig := rfl
@[simp] theorem giveData_sched (m v : Nat) : (giveData s m v).sched = s.sched := rfl
@[simp] theorem giveData_twin (m v : Nat) : (giveData s m v).twin = s.twin := rfl
@[simp] theorem giveData_mem (m v : Nat) : (giveData s m v).mem = s.mem := rfl
@[simp] theorem giveData_out (m v : Nat) : (giveData s m v).out = s.out := rfl
@[simp] theorem giveData_free (m v : Nat) : (giveData s m v).free = s.free := rfl
@[simp] theorem giveData_pending (m v : Nat) : (giveData s m v).pending = s.pending := rfl

/-! ### smbReturn -/

@[simp] theorem smbReturn_tb (d : Option (List Byte)) : (smbReturn s d).tb = s.tb := rfl
@[simp] theorem smbReturn_regs (d : Option (List Byte)) : (smbReturn s d).regs = s.regs := rfl
@[simp] theorem smbReturn_bus (d : Option (List Byte)) : (smbReturn s d).bus = s.bus := rfl
@[simp] theorem smbReturn_mic (d : Option (List Byte)) : (smbReturn s d).mic = s.mic := rfl
@[simp] theorem smbReturn_btr (d : Option (List Byte)) : (smbReturn s d).btr = s.btr := rfl
@[simp] theorem smbReturn_mbx (d : Option (List Byte)) : (smbReturn s d).mbx = s.mbx := rfl
@[simp] theorem smbReturn_fab (d : Option (List Byte)) : (smbReturn s d).fab = s.fab := rfl
@[simp] theorem smbReturn_eth (d : Option (List Byte)) : (smbReturn s d).eth = s.eth := rfl
@[simp] theorem smbReturn_pwr (d : Option (List Byte)) : (smbReturn s d).pwr = s.pwr := rfl
@[simp] theorem smbReturn_boot (d : Option (List Byte)) : (smbReturn s d).boot = s.boot := rfl
@[simp] theorem smbReturn_xlt (d : Option (List Byte)) : (smbReturn s d).xlt = s.xlt := rfl
@[simp] theorem smbReturn_dram (d : Option (List Byte)) : (smbReturn s d).dram = s.dram := rfl
@[simp] theorem smbReturn_dirc (d : Option (List Byte)) : (smbReturn s d).dirc = s.dirc := rfl
@[simp] theorem smbReturn_sig (d : Option (List Byte)) : (smbReturn s d).sig = s.sig := rfl
@[simp] theorem smbReturn_sched (d : Option (List Byte)) : (smbReturn s d).sched = s.sched := rfl
@[simp] theorem smbReturn_twin (d : Option (List Byte)) : (smbReturn s d).twin = s.twin := rfl
@[simp] theorem smbReturn_mem (d : Option (List Byte)) : (smbReturn s d).mem = s.mem := rfl
@[simp] theorem smbReturn_out (d : Option (List Byte)) : (smbReturn s d).out = s.out := rfl
@[simp] theorem smbReturn_free (d : Option (List Byte)) : (smbReturn s d).free = s.free := rfl
@[simp] theorem smbReturn_pending (d : Option (List Byte)) : (smbReturn s d).pending = s.pending := rfl

/-! ### jtag -/

@[simp] theorem jtag_tb (ir o : Nat) : (jtag s ir o).tb = s.tb := rfl
@[simp] theorem jtag_regs (ir o : Nat) : (jtag s ir o).regs = s.regs := rfl
@[simp] theorem jtag_bus (ir o : Nat) : (jtag s ir o).bus = s.bus := rfl
@[simp] theorem jtag_mic (ir o : Nat) : (jtag s ir o).mic = s.mic := rfl
@[simp] theorem jtag_btr (ir o : Nat) : (jtag s ir o).btr = s.btr := rfl
@[simp] theorem jtag_mbx (ir o : Nat) : (jtag s ir o).mbx = s.mbx := rfl
@[simp] theorem jtag_fab (ir o : Nat) : (jtag s ir o).fab = s.fab := rfl
@[simp] theorem jtag_eth (ir o : Nat) : (jtag s ir o).eth = s.eth := rfl
@[simp] theorem jtag_pwr (ir o : Nat) : (jtag s ir o).pwr = s.pwr := rfl
@[simp] theorem jtag_boot (ir o : Nat) : (jtag s ir o).boot = s.boot := rfl
@[simp] theorem jtag_xlt (ir o : Nat) : (jtag s ir o).xlt = s.xlt := rfl
@[simp] theorem jtag_dram (ir o : Nat) : (jtag s ir o).dram = s.dram := rfl
@[simp] theorem jtag_dirc (ir o : Nat) : (jtag s ir o).dirc = s.dirc := rfl
@[simp] theorem jtag_sig (ir o : Nat) : (jtag s ir o).sig = s.sig := rfl
@[simp] theorem jtag_sched (ir o : Nat) : (jtag s ir o).sched = s.sched := rfl
@[simp] theorem jtag_twin (ir o : Nat) : (jtag s ir o).twin = s.twin := rfl
@[simp] theorem jtag_mem (ir o : Nat) : (jtag s ir o).mem = s.mem := rfl
@[simp] theorem jtag_out (ir o : Nat) : (jtag s ir o).out = s.out := rfl
@[simp] theorem jtag_free (ir o : Nat) : (jtag s ir o).free = s.free := rfl
@[simp] theorem jtag_pending (ir o : Nat) : (jtag s ir o).pending = s.pending := rfl

end Sys2Proof.Machine
end

