-- ==== Sys2Proof/Laws/Frames.lean ====
section
/-!
SUPPORT. What the operations that every family shares leave alone: events, replies, counters and the running of a
management command. The provers cite these instead of unfolding the operations.
-/

namespace Sys2Proof.Machine

/-! ### Registers under the updates that do not touch them -/

variable (s : State)

@[simp] theorem rg_emit (o : Output) (a : Nat) : rg (emit s o) a = rg s a := rfl
@[simp] theorem rg_poke (x : Nat) (l : List Byte) (a : Nat) : rg (poke s x l) a = rg s a := rfl
@[simp] theorem rg_micLevel (src : Nat) (high : Bool) (a : Nat) : rg (micLevel s src high) a = rg s a := rfl
@[simp] theorem rg_setEthPort (k : Nat) (p : EthPort) (a : Nat) : rg (setEthPort s k p) a = rg s a := rfl
@[simp] theorem rg_ethQueue (k q : Nat) (x : EthKind) (len : Nat) (a : Nat) : rg (ethQueue s k q x len) a = rg s a := rfl
@[simp] theorem rg_withPending (q : List Instr) (a : Nat) : rg (s.withPending q) a = rg s a := rfl
@[simp] theorem rg_reach (t : Nat) (a : Nat) : rg (reach s t) a = rg s a := rg_congr (reach_regs s t) a
@[simp] theorem rg_tick (a : Nat) : rg (tick s) a = rg s a := rfl
@[simp] theorem rg_setSession (k : Nat) (se : Session) (a : Nat) : rg (setSession s k se) a = rg s a := rfl
@[simp] theorem rg_dequeue (slot : Nat) (tag : Word32) (a : Nat) : rg (dequeue s slot tag) a = rg s a := rg_congr (dequeue_regs s slot tag) a
@[simp] theorem rg_setPwr (p : Power) (a : Nat) : rg (setPwr s p) a = rg s a := rfl
@[simp] theorem rg_setBoot (b : Boot) (a : Nat) : rg (setBoot s b) a = rg s a := rfl
@[simp] theorem rg_setChan (n c : Nat) (k : Chan) (a : Nat) : rg (setChan s n c k) a = rg s a := rfl
@[simp] theorem rg_setSealDie (n : Nat) (d : SealDie) (a : Nat) : rg (setSealDie s n d) a = rg s a := rfl
@[simp] theorem rg_setExt (e : Nat) (r : ExtRec) (a : Nat) : rg (setExt s e r) a = rg s a := rfl
@[simp] theorem rg_setCtx (x : Nat) (c : Ctx) (a : Nat) : rg (setCtx s x c) a = rg s a := rfl
@[simp] theorem rg_setQp (q : Nat) (p : QPair) (a : Nat) : rg (setQp s q p) a = rg s a := rfl
@[simp] theorem rg_giveData (m v : Nat) (a : Nat) : rg (giveData s m v) a = rg s a := rfl
@[simp] theorem rg_smbReturn (d : Option (List Byte)) (a : Nat) : rg (smbReturn s d) a = rg s a := rfl
@[simp] theorem rg_jtag (ir o : Nat) (a : Nat) : rg (jtag s ir o) a = rg s a := rfl

theorem rf_congr {s t : State} (h : t.regs = s.regs) (a hi lo : Nat) : rf t a hi lo = rf s a hi lo := by
  unfold rf; rw [rg_congr h]

/-! ### A fold that keeps a projection -/

/-- A fold keeps what each of its steps keeps. -/
theorem foldl_keeps {α β : Type} {γ : Type} (p : β → γ) (f : β → α → β) (h : ∀ b a, p (f b a) = p b) (l : List α) (b : β) :
    p (l.foldl f b) = p b := by
  induction l generalizing b with
  | nil => rfl
  | cons a t ih => rw [List.foldl_cons, ih, h]

/-! ### Events -/

@[simp] theorem eventCopy_tb (d : Nat → List Byte) (slot net : Nat) (as : List AssocRec) :
    (eventCopy d s slot net as).tb = s.tb := by unfold eventCopy; split <;> simp
@[simp] theorem eventCopy_bus (d : Nat → List Byte) (slot net : Nat) (as : List AssocRec) :
    (eventCopy d s slot net as).bus = s.bus := by unfold eventCopy; split <;> simp
@[simp] theorem eventCopy_mic (d : Nat → List Byte) (slot net : Nat) (as : List AssocRec) :
    (eventCopy d s slot net as).mic = s.mic := by unfold eventCopy; split <;> simp
@[simp] theorem eventCopy_btr (d : Nat → List Byte) (slot net : Nat) (as : List AssocRec) :
    (eventCopy d s slot net as).btr = s.btr := by unfold eventCopy; split <;> simp
@[simp] theorem eventCopy_mbx (d : Nat → List Byte) (slot net : Nat) (as : List AssocRec) :
    (eventCopy d s slot net as).mbx = s.mbx := by unfold eventCopy; split <;> simp
@[simp] theorem eventCopy_fab (d : Nat → List Byte) (slot net : Nat) (as : List AssocRec) :
    (eventCopy d s slot net as).fab = s.fab := by unfold eventCopy; split <;> simp
@[simp] theorem eventCopy_pwr (d : Nat → List Byte) (slot net : Nat) (as : List AssocRec) :
    (eventCopy d s slot net as).pwr = s.pwr := by unfold eventCopy; split <;> simp
@[simp] theorem eventCopy_boot (d : Nat → List Byte) (slot net : Nat) (as : List AssocRec) :
    (eventCopy d s slot net as).boot = s.boot := by unfold eventCopy; split <;> simp
@[simp] theorem eventCopy_brd (d : Nat → List Byte) (slot net : Nat) (as : List AssocRec) :
    (eventCopy d s slot net as).brd = s.brd := by unfold eventCopy; split <;> simp
@[simp] theorem eventCopy_xlt (d : Nat → List Byte) (slot net : Nat) (as : List AssocRec) :
    (eventCopy d s slot net as).xlt = s.xlt := by unfold eventCopy; split <;> simp
@[simp] theorem eventCopy_dram (d : Nat → List Byte) (slot net : Nat) (as : List AssocRec) :
    (eventCopy d s slot net as).dram = s.dram := by unfold eventCopy; split <;> simp
@[simp] theorem eventCopy_dirc (d : Nat → List Byte) (slot net : Nat) (as : List AssocRec) :
    (eventCopy d s slot net as).dirc = s.dirc := by unfold eventCopy; split <;> simp
@[simp] theorem eventCopy_sig (d : Nat → List Byte) (slot net : Nat) (as : List AssocRec) :
    (eventCopy d s slot net as).sig = s.sig := by unfold eventCopy; split <;> simp
@[simp] theorem eventCopy_sched (d : Nat → List Byte) (slot net : Nat) (as : List AssocRec) :
    (eventCopy d s slot net as).sched = s.sched := by unfold eventCopy; split <;> simp
@[simp] theorem eventCopy_twin (d : Nat → List Byte) (slot net : Nat) (as : List AssocRec) :
    (eventCopy d s slot net as).twin = s.twin := by unfold eventCopy; split <;> simp
@[simp] theorem eventCopy_mem (d : Nat → List Byte) (slot net : Nat) (as : List AssocRec) :
    (eventCopy d s slot net as).mem = s.mem := by unfold eventCopy; split <;> simp
@[simp] theorem eventCopy_out (d : Nat → List Byte) (slot net : Nat) (as : List AssocRec) :
    (eventCopy d s slot net as).out = s.out := by unfold eventCopy; split <;> simp
@[simp] theorem eventCopy_free (d : Nat → List Byte) (slot net : Nat) (as : List AssocRec) :
    (eventCopy d s slot net as).free = s.free := by unfold eventCopy; split <;> simp
@[simp] theorem eventCopy_pending (d : Nat → List Byte) (slot net : Nat) (as : List AssocRec) :
    (eventCopy d s slot net as).pending = s.pending := by unfold eventCopy; split <;> simp

theorem rg_eventCopy (d : Nat → List Byte) (slot net : Nat) (as : List AssocRec) (a : Nat) (h : a ≠ Reg.ETH_EVT_LOST) :
    rg (eventCopy d s slot net as) a = rg s a := by
  unfold eventCopy
  split
  · simp
  · exact rg_rput_ne _ _ h

@[simp] theorem eventTo_tb (only : Option Nat) (code sev : Nat) (body : List Byte) :
    (eventTo only s code sev body).tb = s.tb := by
  unfold eventTo
  exact (foldl_keeps (fun t : State => t.tb) _ (fun b a => by dsimp only; split <;> simp) _ _).trans (by simp)
@[simp] theorem eventTo_bus (only : Option Nat) (code sev : Nat) (body : List Byte) :
    (eventTo only s code sev body).bus = s.bus := by
  unfold eventTo
  exact (foldl_keeps (fun t : State => t.bus) _ (fun b a => by dsimp only; split <;> simp) _ _).trans (by simp)
@[simp] theorem eventTo_mic (only : Option Nat) (code sev : Nat) (body : List Byte) :
    (eventTo only s code sev body).mic = s.mic := by
  unfold eventTo
  exact (foldl_keeps (fun t : State => t.mic) _ (fun b a => by dsimp only; split <;> simp) _ _).trans (by simp)
@[simp] theorem eventTo_btr (only : Option Nat) (code sev : Nat) (body : List Byte) :
    (eventTo only s code sev body).btr = s.btr := by
  unfold eventTo
  exact (foldl_keeps (fun t : State => t.btr) _ (fun b a => by dsimp only; split <;> simp) _ _).trans (by simp)
@[simp] theorem eventTo_mbx (only : Option Nat) (code sev : Nat) (body : List Byte) :
    (eventTo only s code sev body).mbx = s.mbx := by
  unfold eventTo
  exact (foldl_keeps (fun t : State => t.mbx) _ (fun b a => by dsimp only; split <;> simp) _ _).trans (by simp)
@[simp] theorem eventTo_fab (only : Option Nat) (code sev : Nat) (body : List Byte) :
    (eventTo only s code sev body).fab = s.fab := by
  unfold eventTo
  exact (foldl_keeps (fun t : State => t.fab) _ (fun b a => by dsimp only; split <;> simp) _ _).trans (by simp)
@[simp] theorem eventTo_pwr (only : Option Nat) (code sev : Nat) (body : List Byte) :
    (eventTo only s code sev body).pwr = s.pwr := by
  unfold eventTo
  exact (foldl_keeps (fun t : State => t.pwr) _ (fun b a => by dsimp only; split <;> simp) _ _).trans (by simp)
@[simp] theorem eventTo_brd (only : Option Nat) (code sev : Nat) (body : List Byte) :
    (eventTo only s code sev body).brd = s.brd := by
  unfold eventTo
  exact (foldl_keeps (fun t : State => t.brd) _ (fun b a => by dsimp only; split <;> simp) _ _).trans (by simp)
@[simp] theorem eventTo_xlt (only : Option Nat) (code sev : Nat) (body : List Byte) :
    (eventTo only s code sev body).xlt = s.xlt := by
  unfold eventTo
  exact (foldl_keeps (fun t : State => t.xlt) _ (fun b a => by dsimp only; split <;> simp) _ _).trans (by simp)
@[simp] theorem eventTo_dram (only : Option Nat) (code sev : Nat) (body : List Byte) :
    (eventTo only s code sev body).dram = s.dram := by
  unfold eventTo
  exact (foldl_keeps (fun t : State => t.dram) _ (fun b a => by dsimp only; split <;> simp) _ _).trans (by simp)
@[simp] theorem eventTo_dirc (only : Option Nat) (code sev : Nat) (body : List Byte) :
    (eventTo only s code sev body).dirc = s.dirc := by
  unfold eventTo
  exact (foldl_keeps (fun t : State => t.dirc) _ (fun b a => by dsimp only; split <;> simp) _ _).trans (by simp)
@[simp] theorem eventTo_sig (only : Option Nat) (code sev : Nat) (body : List Byte) :
    (eventTo only s code sev body).sig = s.sig := by
  unfold eventTo
  exact (foldl_keeps (fun t : State => t.sig) _ (fun b a => by dsimp only; split <;> simp) _ _).trans (by simp)
@[simp] theorem eventTo_sched (only : Option Nat) (code sev : Nat) (body : List Byte) :
    (eventTo only s code sev body).sched = s.sched := by
  unfold eventTo
  exact (foldl_keeps (fun t : State => t.sched) _ (fun b a => by dsimp only; split <;> simp) _ _).trans (by simp)
@[simp] theorem eventTo_twin (only : Option Nat) (code sev : Nat) (body : List Byte) :
    (eventTo only s code sev body).twin = s.twin := by
  unfold eventTo
  exact (foldl_keeps (fun t : State => t.twin) _ (fun b a => by dsimp only; split <;> simp) _ _).trans (by simp)
@[simp] theorem eventTo_out (only : Option Nat) (code sev : Nat) (body : List Byte) :
    (eventTo only s code sev body).out = s.out := by
  unfold eventTo
  exact (foldl_keeps (fun t : State => t.out) _ (fun b a => by dsimp only; split <;> simp) _ _).trans (by simp)
@[simp] theorem eventTo_free (only : Option Nat) (code sev : Nat) (body : List Byte) :
    (eventTo only s code sev body).free = s.free := by
  unfold eventTo
  exact (foldl_keeps (fun t : State => t.free) _ (fun b a => by dsimp only; split <;> simp) _ _).trans (by simp)
@[simp] theorem eventTo_pending (only : Option Nat) (code sev : Nat) (body : List Byte) :
    (eventTo only s code sev body).pending = s.pending := by
  unfold eventTo
  exact (foldl_keeps (fun t : State => t.pending) _ (fun b a => by dsimp only; split <;> simp) _ _).trans (by simp)

/-- An event changes three registers: the two words of ETH_EVT_SEQ and ETH_EVT_LOST. -/
theorem rg_eventTo (only : Option Nat) (code sev : Nat) (body : List Byte) (a : Nat) (h0 : a ≠ Reg.ETH_EVT_LOST)
    (h1 : a ≠ Reg.ETH_EVT_SEQ_LO) (h2 : a ≠ Reg.ETH_EVT_SEQ_HI) : rg (eventTo only s code sev body) a = rg s a := by
  unfold eventTo
  refine (foldl_keeps (fun t : State => rg t a) _ (fun b e => ?_) _ _).trans ?_
  · dsimp only
    split
    · rfl
    · rw [rg_eventCopy _ _ _ _ _ _ h0, rg_eventCopy _ _ _ _ _ _ h0]
  · simp only [rg_poke]
    have h : ∀ t : State, rg { t with boot := { t.boot with plnSeq := (rg64 s Reg.ETH_EVT_SEQ_LO + 1) % 2 ^ 64 } } a = rg t a :=
      fun t => rfl
    rw [h]
    unfold rput64
    rw [rg_rput_ne _ _ (by exact h2), rg_rput_ne _ _ h1]

theorem rg_event (code sev : Nat) (body : List Byte) (a : Nat) (h0 : a ≠ Reg.ETH_EVT_LOST)
    (h1 : a ≠ Reg.ETH_EVT_SEQ_LO) (h2 : a ≠ Reg.ETH_EVT_SEQ_HI) : rg (event s code sev body) a = rg s a :=
  rg_eventTo s none code sev body a h0 h1 h2

theorem rg_eventW (code sev : Nat) (ws : List Nat) (a : Nat) (h0 : a ≠ Reg.ETH_EVT_LOST)
    (h1 : a ≠ Reg.ETH_EVT_SEQ_LO) (h2 : a ≠ Reg.ETH_EVT_SEQ_HI) : rg (eventW s code sev ws) a = rg s a :=
  rg_eventTo s none code sev _ a h0 h1 h2

@[simp] theorem event_tb (code sev : Nat) (body : List Byte) : (event s code sev body).tb = s.tb := eventTo_tb s none code sev body
@[simp] theorem eventW_tb (code sev : Nat) (ws : List Nat) : (eventW s code sev ws).tb = s.tb := eventTo_tb s none code sev _
@[simp] theorem event_bus (code sev : Nat) (body : List Byte) : (event s code sev body).bus = s.bus := eventTo_bus s none code sev body
@[simp] theorem eventW_bus (code sev : Nat) (ws : List Nat) : (eventW s code sev ws).bus = s.bus := eventTo_bus s none code sev _
@[simp] theorem event_mic (code sev : Nat) (body : List Byte) : (event s code sev body).mic = s.mic := eventTo_mic s none code sev body
@[simp] theorem eventW_mic (code sev : Nat) (ws : List Nat) : (eventW s code sev ws).mic = s.mic := eventTo_mic s none code sev _
@[simp] theorem event_btr (code sev : Nat) (body : List Byte) : (event s code sev body).btr = s.btr := eventTo_btr s none code sev body
@[simp] theorem eventW_btr (code sev : Nat) (ws : List Nat) : (eventW s code sev ws).btr = s.btr := eventTo_btr s none code sev _
@[simp] theorem event_mbx (code sev : Nat) (body : List Byte) : (event s code sev body).mbx = s.mbx := eventTo_mbx s none code sev body
@[simp] theorem eventW_mbx (code sev : Nat) (ws : List Nat) : (eventW s code sev ws).mbx = s.mbx := eventTo_mbx s none code sev _
@[simp] theorem event_fab (code sev : Nat) (body : List Byte) : (event s code sev body).fab = s.fab := eventTo_fab s none code sev body
@[simp] theorem eventW_fab (code sev : Nat) (ws : List Nat) : (eventW s code sev ws).fab = s.fab := eventTo_fab s none code sev _
@[simp] theorem event_pwr (code sev : Nat) (body : List Byte) : (event s code sev body).pwr = s.pwr := eventTo_pwr s none code sev body
@[simp] theorem eventW_pwr (code sev : Nat) (ws : List Nat) : (eventW s code sev ws).pwr = s.pwr := eventTo_pwr s none code sev _
@[simp] theorem event_brd (code sev : Nat) (body : List Byte) : (event s code sev body).brd = s.brd := eventTo_brd s none code sev body
@[simp] theorem eventW_brd (code sev : Nat) (ws : List Nat) : (eventW s code sev ws).brd = s.brd := eventTo_brd s none code sev _
@[simp] theorem event_xlt (code sev : Nat) (body : List Byte) : (event s code sev body).xlt = s.xlt := eventTo_xlt s none code sev body
@[simp] theorem eventW_xlt (code sev : Nat) (ws : List Nat) : (eventW s code sev ws).xlt = s.xlt := eventTo_xlt s none code sev _
@[simp] theorem event_dram (code sev : Nat) (body : List Byte) : (event s code sev body).dram = s.dram := eventTo_dram s none code sev body
@[simp] theorem eventW_dram (code sev : Nat) (ws : List Nat) : (eventW s code sev ws).dram = s.dram := eventTo_dram s none code sev _
@[simp] theorem event_dirc (code sev : Nat) (body : List Byte) : (event s code sev body).dirc = s.dirc := eventTo_dirc s none code sev body
@[simp] theorem eventW_dirc (code sev : Nat) (ws : List Nat) : (eventW s code sev ws).dirc = s.dirc := eventTo_dirc s none code sev _
@[simp] theorem event_sig (code sev : Nat) (body : List Byte) : (event s code sev body).sig = s.sig := eventTo_sig s none code sev body
@[simp] theorem eventW_sig (code sev : Nat) (ws : List Nat) : (eventW s code sev ws).sig = s.sig := eventTo_sig s none code sev _
@[simp] theorem event_sched (code sev : Nat) (body : List Byte) : (event s code sev body).sched = s.sched := eventTo_sched s none code sev body
@[simp] theorem eventW_sched (code sev : Nat) (ws : List Nat) : (eventW s code sev ws).sched = s.sched := eventTo_sched s none code sev _
@[simp] theorem event_twin (code sev : Nat) (body : List Byte) : (event s code sev body).twin = s.twin := eventTo_twin s none code sev body
@[simp] theorem eventW_twin (code sev : Nat) (ws : List Nat) : (eventW s code sev ws).twin = s.twin := eventTo_twin s none code sev _
@[simp] theorem event_out (code sev : Nat) (body : List Byte) : (event s code sev body).out = s.out := eventTo_out s none code sev body
@[simp] theorem eventW_out (code sev : Nat) (ws : List Nat) : (eventW s code sev ws).out = s.out := eventTo_out s none code sev _
@[simp] theorem event_free (code sev : Nat) (body : List Byte) : (event s code sev body).free = s.free := eventTo_free s none code sev body
@[simp] theorem eventW_free (code sev : Nat) (ws : List Nat) : (eventW s code sev ws).free = s.free := eventTo_free s none code sev _
@[simp] theorem event_pending (code sev : Nat) (body : List Byte) : (event s code sev body).pending = s.pending := eventTo_pending s none code sev body
@[simp] theorem eventW_pending (code sev : Nat) (ws : List Nat) : (eventW s code sev ws).pending = s.pending := eventTo_pending s none code sev _

/-! ### Replies -/

@[simp] theorem sendFrame_tb (slot : Nat) (f : List Byte) : (sendFrame s slot f).tb = s.tb := by
  unfold sendFrame
  split
  · rfl
  · split
    · rfl
    · exact foldl_keeps (fun t : State => t.tb) _ (fun _ _ => by simp) _ _
@[simp] theorem sendFrame_regs (slot : Nat) (f : List Byte) : (sendFrame s slot f).regs = s.regs := by
  unfold sendFrame
  split
  · rfl
  · split
    · rfl
    · exact foldl_keeps (fun t : State => t.regs) _ (fun _ _ => by simp) _ _
@[simp] theorem sendFrame_bus (slot : Nat) (f : List Byte) : (sendFrame s slot f).bus = s.bus := by
  unfold sendFrame
  split
  · rfl
  · split
    · rfl
    · exact foldl_keeps (fun t : State => t.bus) _ (fun _ _ => by simp) _ _
@[simp] theorem sendFrame_mic (slot : Nat) (f : List Byte) : (sendFrame s slot f).mic = s.mic := by
  unfold sendFrame
  split
  · rfl
  · split
    · rfl
    · exact foldl_keeps (fun t : State => t.mic) _ (fun _ _ => by simp) _ _
@[simp] theorem sendFrame_btr (slot : Nat) (f : List Byte) : (sendFrame s slot f).btr = s.btr := by
  unfold sendFrame
  split
  · rfl
  · split
    · rfl
    · exact foldl_keeps (fun t : State => t.btr) _ (fun _ _ => by simp) _ _
@[simp] theorem sendFrame_fab (slot : Nat) (f : List Byte) : (sendFrame s slot f).fab = s.fab := by
  unfold sendFrame
  split
  · rfl
  · split
    · rfl
    · exact foldl_keeps (fun t : State => t.fab) _ (fun _ _ => by simp) _ _
@[simp] theorem sendFrame_pwr (slot : Nat) (f : List Byte) : (sendFrame s slot f).pwr = s.pwr := by
  unfold sendFrame
  split
  · rfl
  · split
    · rfl
    · exact foldl_keeps (fun t : State => t.pwr) _ (fun _ _ => by simp) _ _
@[simp] theorem sendFrame_boot (slot : Nat) (f : List Byte) : (sendFrame s slot f).boot = s.boot := by
  unfold sendFrame
  split
  · rfl
  · split
    · rfl
    · exact foldl_keeps (fun t : State => t.boot) _ (fun _ _ => by simp) _ _
@[simp] theorem sendFrame_brd (slot : Nat) (f : List Byte) : (sendFrame s slot f).brd = s.brd := by
  unfold sendFrame
  split
  · rfl
  · split
    · rfl
    · exact foldl_keeps (fun t : State => t.brd) _ (fun _ _ => by simp) _ _
@[simp] theorem sendFrame_xlt (slot : Nat) (f : List Byte) : (sendFrame s slot f).xlt = s.xlt := by
  unfold sendFrame
  split
  · rfl
  · split
    · rfl
    · exact foldl_keeps (fun t : State => t.xlt) _ (fun _ _ => by simp) _ _
@[simp] theorem sendFrame_dram (slot : Nat) (f : List Byte) : (sendFrame s slot f).dram = s.dram := by
  unfold sendFrame
  split
  · rfl
  · split
    · rfl
    · exact foldl_keeps (fun t : State => t.dram) _ (fun _ _ => by simp) _ _
@[simp] theorem sendFrame_dirc (slot : Nat) (f : List Byte) : (sendFrame s slot f).dirc = s.dirc := by
  unfold sendFrame
  split
  · rfl
  · split
    · rfl
    · exact foldl_keeps (fun t : State => t.dirc) _ (fun _ _ => by simp) _ _
@[simp] theorem sendFrame_sig (slot : Nat) (f : List Byte) : (sendFrame s slot f).sig = s.sig := by
  unfold sendFrame
  split
  · rfl
  · split
    · rfl
    · exact foldl_keeps (fun t : State => t.sig) _ (fun _ _ => by simp) _ _
@[simp] theorem sendFrame_sched (slot : Nat) (f : List Byte) : (sendFrame s slot f).sched = s.sched := by
  unfold sendFrame
  split
  · rfl
  · split
    · rfl
    · exact foldl_keeps (fun t : State => t.sched) _ (fun _ _ => by simp) _ _
@[simp] theorem sendFrame_twin (slot : Nat) (f : List Byte) : (sendFrame s slot f).twin = s.twin := by
  unfold sendFrame
  split
  · rfl
  · split
    · rfl
    · exact foldl_keeps (fun t : State => t.twin) _ (fun _ _ => by simp) _ _
@[simp] theorem sendFrame_mem (slot : Nat) (f : List Byte) : (sendFrame s slot f).mem = s.mem := by
  unfold sendFrame
  split
  · rfl
  · split
    · rfl
    · exact foldl_keeps (fun t : State => t.mem) _ (fun _ _ => by simp) _ _
@[simp] theorem sendFrame_out (slot : Nat) (f : List Byte) : (sendFrame s slot f).out = s.out := by
  unfold sendFrame
  split
  · rfl
  · split
    · rfl
    · exact foldl_keeps (fun t : State => t.out) _ (fun _ _ => by simp) _ _
@[simp] theorem sendFrame_free (slot : Nat) (f : List Byte) : (sendFrame s slot f).free = s.free := by
  unfold sendFrame
  split
  · rfl
  · split
    · rfl
    · exact foldl_keeps (fun t : State => t.free) _ (fun _ _ => by simp) _ _
@[simp] theorem sendFrame_pending (slot : Nat) (f : List Byte) : (sendFrame s slot f).pending = s.pending := by
  unfold sendFrame
  split
  · rfl
  · split
    · rfl
    · exact foldl_keeps (fun t : State => t.pending) _ (fun _ _ => by simp) _ _

@[simp] theorem rg_sendFrame (slot : Nat) (f : List Byte) (a : Nat) : rg (sendFrame s slot f) a = rg s a :=
  rg_congr (sendFrame_regs s slot f) a

theorem sendFrame_mbx (slot : Nat) (f : List Byte) :
    (sendFrame s slot f).mbx = if slot = 8 then { s.mbx with unread := s.mbx.unread ++ [f] } else s.mbx := by
  unfold sendFrame
  split
  · rfl
  · split
    · rfl
    · exact foldl_keeps (fun t : State => t.mbx) _ (fun _ _ => by simp) _ _

@[simp] theorem reply_tb (slot op : Nat) (tag : Word32) (st : Nat) (b : List Byte) :
    (reply s slot op tag st b).tb = s.tb := by
  unfold reply; dsimp only; repeat' split
  all_goals simp
@[simp] theorem reply_bus (slot op : Nat) (tag : Word32) (st : Nat) (b : List Byte) :
    (reply s slot op tag st b).bus = s.bus := by
  unfold reply; dsimp only; repeat' split
  all_goals simp
@[simp] theorem reply_mic (slot op : Nat) (tag : Word32) (st : Nat) (b : List Byte) :
    (reply s slot op tag st b).mic = s.mic := by
  unfold reply; dsimp only; repeat' split
  all_goals simp
@[simp] theorem reply_btr (slot op : Nat) (tag : Word32) (st : Nat) (b : List Byte) :
    (reply s slot op tag st b).btr = s.btr := by
  unfold reply; dsimp only; repeat' split
  all_goals simp
@[simp] theorem reply_fab (slot op : Nat) (tag : Word32) (st : Nat) (b : List Byte) :
    (reply s slot op tag st b).fab = s.fab := by
  unfold reply; dsimp only; repeat' split
  all_goals simp
@[simp] theorem reply_pwr (slot op : Nat) (tag : Word32) (st : Nat) (b : List Byte) :
    (reply s slot op tag st b).pwr = s.pwr := by
  unfold reply; dsimp only; repeat' split
  all_goals simp
@[simp] theorem reply_boot (slot op : Nat) (tag : Word32) (st : Nat) (b : List Byte) :
    (reply s slot op tag st b).boot = s.boot := by
  unfold reply; dsimp only; repeat' split
  all_goals simp
@[simp] theorem reply_brd (slot op : Nat) (tag : Word32) (st : Nat) (b : List Byte) :
    (reply s slot op tag st b).brd = s.brd := by
  unfold reply; dsimp only; repeat' split
  all_goals simp
@[simp] theorem reply_xlt (slot op : Nat) (tag : Word32) (st : Nat) (b : List Byte) :
    (reply s slot op tag st b).xlt = s.xlt := by
  unfold reply; dsimp only; repeat' split
  all_goals simp
@[simp] theorem reply_dram (slot op : Nat) (tag : Word32) (st : Nat) (b : List Byte) :
    (reply s slot op tag st b).dram = s.dram := by
  unfold reply; dsimp only; repeat' split
  all_goals simp
@[simp] theorem reply_dirc (slot op : Nat) (tag : Word32) (st : Nat) (b : List Byte) :
    (reply s slot op tag st b).dirc = s.dirc := by
  unfold reply; dsimp only; repeat' split
  all_goals simp
@[simp] theorem reply_sig (slot op : Nat) (tag : Word32) (st : Nat) (b : List Byte) :
    (reply s slot op tag st b).sig = s.sig := by
  unfold reply; dsimp only; repeat' split
  all_goals simp
@[simp] theorem reply_sched (slot op : Nat) (tag : Word32) (st : Nat) (b : List Byte) :
    (reply s slot op tag st b).sched = s.sched := by
  unfold reply; dsimp only; repeat' split
  all_goals simp
@[simp] theorem reply_twin (slot op : Nat) (tag : Word32) (st : Nat) (b : List Byte) :
    (reply s slot op tag st b).twin = s.twin := by
  unfold reply; dsimp only; repeat' split
  all_goals simp
@[simp] theorem reply_mem (slot op : Nat) (tag : Word32) (st : Nat) (b : List Byte) :
    (reply s slot op tag st b).mem = s.mem := by
  unfold reply; dsimp only; repeat' split
  all_goals simp
@[simp] theorem reply_out (slot op : Nat) (tag : Word32) (st : Nat) (b : List Byte) :
    (reply s slot op tag st b).out = s.out := by
  unfold reply; dsimp only; repeat' split
  all_goals simp
@[simp] theorem reply_free (slot op : Nat) (tag : Word32) (st : Nat) (b : List Byte) :
    (reply s slot op tag st b).free = s.free := by
  unfold reply; dsimp only; repeat' split
  all_goals simp
@[simp] theorem reply_pending (slot op : Nat) (tag : Word32) (st : Nat) (b : List Byte) :
    (reply s slot op tag st b).pending = s.pending := by
  unfold reply; dsimp only; repeat' split
  all_goals simp

theorem reply_regs_eq (slot op : Nat) (tag : Word32) (st : Nat) (b : List Byte) :
    (reply s slot op tag st b).regs =
      (if st = stNOT_OWNER then bump (if st = stBUSY then bump s Reg.MBX_BUSY 1 else s) Reg.MBX_NOTOWNER 1
        else (if st = stBUSY then bump s Reg.MBX_BUSY 1 else s)).regs := by
  unfold reply; dsimp only
  by_cases h : st = stBUSY
  · simp [h]
  · simp only [h, if_false]; split <;> simp

/-- A reply changes two registers: the counters of BUSY and of NOT_OWNER replies. -/
theorem rg_reply (slot op : Nat) (tag : Word32) (st : Nat) (b : List Byte) (a : Nat) (h0 : a ≠ Reg.MBX_BUSY)
    (h1 : a ≠ Reg.MBX_NOTOWNER) : rg (reply s slot op tag st b) a = rg s a := by
  have hb : ∀ t : State, rg (bump t Reg.MBX_BUSY 1) a = rg t a := fun t => rg_rput_ne _ _ h0
  have hn : ∀ t : State, rg (bump t Reg.MBX_NOTOWNER 1) a = rg t a := fun t => rg_rput_ne _ _ h1
  rw [rg_congr (reply_regs_eq s slot op tag st b)]
  repeat' split
  all_goals simp only [hb, hn]

/-- A final reply that is neither BUSY nor NOT_OWNER changes no register. -/
theorem reply_regs (slot op : Nat) (tag : Word32) (st : Nat) (b : List Byte) (h0 : st ≠ stBUSY) (h1 : st ≠ stNOT_OWNER) :
    (reply s slot op tag st b).regs = s.regs := by
  unfold reply; dsimp only; rw [if_neg h0, if_neg h1, if_neg h0]; split <;> simp

@[simp] theorem sendFrame_mbx_refusing (slot : Nat) (f : List Byte) : (sendFrame s slot f).mbx.refusing = s.mbx.refusing := by
  rw [sendFrame_mbx]; split <;> rfl
@[simp] theorem sendFrame_mbx_change (slot : Nat) (f : List Byte) : (sendFrame s slot f).mbx.change = s.mbx.change := by
  rw [sendFrame_mbx]; split <;> rfl
@[simp] theorem sendFrame_mbx_current (slot : Nat) (f : List Byte) : (sendFrame s slot f).mbx.current = s.mbx.current := by
  rw [sendFrame_mbx]; split <;> rfl
@[simp] theorem sendFrame_mbx_deferred (slot : Nat) (f : List Byte) : (sendFrame s slot f).mbx.deferred = s.mbx.deferred := by
  rw [sendFrame_mbx]; split <;> rfl
@[simp] theorem sendFrame_mbx_owner (slot : Nat) (f : List Byte) : (sendFrame s slot f).mbx.owner = s.mbx.owner := by
  rw [sendFrame_mbx]; split <;> rfl
@[simp] theorem sendFrame_mbx_epoch (slot : Nat) (f : List Byte) : (sendFrame s slot f).mbx.epoch = s.mbx.epoch := by
  rw [sendFrame_mbx]; split <;> rfl
@[simp] theorem sendFrame_mbx_expires (slot : Nat) (f : List Byte) : (sendFrame s slot f).mbx.expires = s.mbx.expires := by
  rw [sendFrame_mbx]; split <;> rfl
@[simp] theorem sendFrame_mbx_lastOwner (slot : Nat) (f : List Byte) : (sendFrame s slot f).mbx.lastOwner = s.mbx.lastOwner := by
  rw [sendFrame_mbx]; split <;> rfl
@[simp] theorem sendFrame_mbx_witness (slot : Nat) (f : List Byte) : (sendFrame s slot f).mbx.witness = s.mbx.witness := by
  rw [sendFrame_mbx]; split <;> rfl
@[simp] theorem sendFrame_mbx_readIdx (slot : Nat) (f : List Byte) : (sendFrame s slot f).mbx.readIdx = s.mbx.readIdx := by
  rw [sendFrame_mbx]; split <;> rfl
@[simp] theorem sendFrame_mbx_partialFrame (slot : Nat) (f : List Byte) : (sendFrame s slot f).mbx.partialFrame = s.mbx.partialFrame := by
  rw [sendFrame_mbx]; split <;> rfl
@[simp] theorem sendFrame_mbx_nextFrag (slot : Nat) (f : List Byte) : (sendFrame s slot f).mbx.nextFrag = s.mbx.nextFrag := by
  rw [sendFrame_mbx]; split <;> rfl
@[simp] theorem reply_mbx_refusing (slot op : Nat) (tag : Word32) (st : Nat) (b : List Byte) :
    (reply s slot op tag st b).mbx.refusing = s.mbx.refusing := by
  unfold reply; dsimp only; repeat' split
  all_goals simp
@[simp] theorem reply_mbx_change (slot op : Nat) (tag : Word32) (st : Nat) (b : List Byte) :
    (reply s slot op tag st b).mbx.change = s.mbx.change := by
  unfold reply; dsimp only; repeat' split
  all_goals simp
@[simp] theorem reply_mbx_current (slot op : Nat) (tag : Word32) (st : Nat) (b : List Byte) :
    (reply s slot op tag st b).mbx.current = s.mbx.current := by
  unfold reply; dsimp only; repeat' split
  all_goals simp
@[simp] theorem reply_mbx_deferred (slot op : Nat) (tag : Word32) (st : Nat) (b : List Byte) :
    (reply s slot op tag st b).mbx.deferred = s.mbx.deferred := by
  unfold reply; dsimp only; repeat' split
  all_goals simp
@[simp] theorem reply_mbx_owner (slot op : Nat) (tag : Word32) (st : Nat) (b : List Byte) :
    (reply s slot op tag st b).mbx.owner = s.mbx.owner := by
  unfold reply; dsimp only; repeat' split
  all_goals simp
@[simp] theorem reply_mbx_epoch (slot op : Nat) (tag : Word32) (st : Nat) (b : List Byte) :
    (reply s slot op tag st b).mbx.epoch = s.mbx.epoch := by
  unfold reply; dsimp only; repeat' split
  all_goals simp
@[simp] theorem reply_mbx_expires (slot op : Nat) (tag : Word32) (st : Nat) (b : List Byte) :
    (reply s slot op tag st b).mbx.expires = s.mbx.expires := by
  unfold reply; dsimp only; repeat' split
  all_goals simp
@[simp] theorem reply_mbx_lastOwner (slot op : Nat) (tag : Word32) (st : Nat) (b : List Byte) :
    (reply s slot op tag st b).mbx.lastOwner = s.mbx.lastOwner := by
  unfold reply; dsimp only; repeat' split
  all_goals simp
@[simp] theorem reply_mbx_witness (slot op : Nat) (tag : Word32) (st : Nat) (b : List Byte) :
    (reply s slot op tag st b).mbx.witness = s.mbx.witness := by
  unfold reply; dsimp only; repeat' split
  all_goals simp
@[simp] theorem reply_mbx_readIdx (slot op : Nat) (tag : Word32) (st : Nat) (b : List Byte) :
    (reply s slot op tag st b).mbx.readIdx = s.mbx.readIdx := by
  unfold reply; dsimp only; repeat' split
  all_goals simp
@[simp] theorem reply_mbx_partialFrame (slot op : Nat) (tag : Word32) (st : Nat) (b : List Byte) :
    (reply s slot op tag st b).mbx.partialFrame = s.mbx.partialFrame := by
  unfold reply; dsimp only; repeat' split
  all_goals simp
@[simp] theorem reply_mbx_nextFrag (slot op : Nat) (tag : Word32) (st : Nat) (b : List Byte) :
    (reply s slot op tag st b).mbx.nextFrag = s.mbx.nextFrag := by
  unfold reply; dsimp only; repeat' split
  all_goals simp

end Sys2Proof.Machine
end

