-- ==== Sys2Proof/Laws/Keeps.lean ====
section
/-!
SUPPORT. What every access to pool memory leaves alone, whatever it meets there: the relation Kept, and one lemma for
each operation by which the families read, write, translate, report and send. The provers cite these lemmas; nobody
unfolds the operations for a frame.
-/

namespace Sys2Proof.Machine

/-- What reads and writes of pool memory, translation, error reports and messages leave as it was: the time base, the bus,
the mailbox, power, the board, the scheduler, the queue of commands, extents, views, fences, shadows and what waits in
translation, the watch and lintel tables, the queue pairs, and the twin's state and debts. -/
structure Kept (s t : State) : Prop where
  tb : t.tb = s.tb
  bus : t.bus = s.bus
  mbx : t.mbx = s.mbx
  pwr : t.pwr = s.pwr
  brd : t.brd = s.brd
  sched : t.sched = s.sched
  pending : t.pending = s.pending
  ext : t.xlt.ext = s.xlt.ext
  views : t.xlt.views = s.xlt.views
  fences : t.xlt.fences = s.xlt.fences
  epochs : t.xlt.epochs = s.xlt.epochs
  era : t.xlt.era = s.xlt.era
  shadows : t.xlt.shadows = s.xlt.shadows
  fenceWait : t.xlt.fenceWait = s.xlt.fenceWait
  heldReqs : t.xlt.heldReqs = s.xlt.heldReqs
  filling : t.xlt.filling = s.xlt.filling
  unrecorded : t.xlt.unrecorded = s.xlt.unrecorded
  watches : t.sig.watches = s.sig.watches
  lintels : t.sig.lintels = s.sig.lintels
  qps : t.eth.qps = s.eth.qps
  twinSt : t.twin.st = s.twin.st
  twinReplies : t.twin.replies = s.twin.replies
  journal : t.twin.journal = s.twin.journal

theorem Kept.refl (s : State) : Kept s s :=
  ⟨rfl, rfl, rfl, rfl, rfl, rfl, rfl, rfl, rfl, rfl, rfl, rfl, rfl, rfl, rfl, rfl, rfl, rfl, rfl, rfl, rfl, rfl, rfl⟩

theorem Kept.trans {s t u : State} (a : Kept s t) (b : Kept t u) : Kept s u :=
  ⟨b.tb.trans a.tb, b.bus.trans a.bus, b.mbx.trans a.mbx, b.pwr.trans a.pwr, b.brd.trans a.brd, b.sched.trans a.sched,
   b.pending.trans a.pending, b.ext.trans a.ext, b.views.trans a.views, b.fences.trans a.fences, b.epochs.trans a.epochs,
   b.era.trans a.era, b.shadows.trans a.shadows, b.fenceWait.trans a.fenceWait, b.heldReqs.trans a.heldReqs,
   b.filling.trans a.filling, b.unrecorded.trans a.unrecorded, b.watches.trans a.watches, b.lintels.trans a.lintels,
   b.qps.trans a.qps, b.twinSt.trans a.twinSt, b.twinReplies.trans a.twinReplies, b.journal.trans a.journal⟩

/-- A fold of operations that keep, keeps. -/
theorem Kept.fold {α : Type} {f : State → α → State} (h : ∀ s a, Kept s (f s a)) (l : List α) (s : State) : Kept s (l.foldl f s) := by
  induction l generalizing s with
  | nil => exact Kept.refl s
  | cons a t ih => exact (h s a).trans (ih _)

/-- The same where the state is the second part of what is folded. -/
theorem Kept.fold_snd {α β : Type} {f : β × State → α → β × State} (h : ∀ p a, Kept p.2 (f p a).2) (l : List α) (p : β × State) :
    Kept p.2 (l.foldl f p).2 := by
  induction l generalizing p with
  | nil => exact Kept.refl _
  | cons a t ih => exact (h p a).trans (ih _)

theorem Kept.ite {s t u : State} {c : Prop} [Decidable c] (a : Kept s t) (b : Kept s u) : Kept s (if c then t else u) := by
  split
  · exact a
  · exact b

variable (s : State)

/-! ### Registers, counters, outputs, reports -/

theorem kept_rput (a v : Nat) : Kept s (rput s a v) := ⟨rfl, rfl, rfl, rfl, rfl, rfl, rfl, rfl, rfl, rfl, rfl, rfl, rfl, rfl, rfl, rfl, rfl, rfl, rfl, rfl, rfl, rfl, rfl⟩
theorem kept_bump (a n : Nat) : Kept s (bump s a n) := kept_rput s a _
theorem kept_rput64 (a v : Nat) : Kept s (rput64 s a v) := (kept_rput s a _).trans (kept_rput _ _ _)
theorem kept_bump64 (a n : Nat) : Kept s (bump64 s a n) := kept_rput64 s a _
theorem kept_poke (a : Nat) (l : List Byte) : Kept s (poke s a l) := ⟨rfl, rfl, rfl, rfl, rfl, rfl, rfl, rfl, rfl, rfl, rfl, rfl, rfl, rfl, rfl, rfl, rfl, rfl, rfl, rfl, rfl, rfl, rfl⟩
theorem kept_micLevel (x : Nat) (b : Bool) : Kept s (micLevel s x b) := ⟨rfl, rfl, rfl, rfl, rfl, rfl, rfl, rfl, rfl, rfl, rfl, rfl, rfl, rfl, rfl, rfl, rfl, rfl, rfl, rfl, rfl, rfl, rfl⟩
theorem kept_emit (o : Output) : Kept s (emit s o) := ⟨rfl, rfl, rfl, rfl, rfl, rfl, rfl, rfl, rfl, rfl, rfl, rfl, rfl, rfl, rfl, rfl, rfl, rfl, rfl, rfl, rfl, rfl, rfl⟩
theorem kept_ethQueue (k q : Nat) (x : EthKind) (n : Nat) : Kept s (ethQueue s k q x n) := ⟨rfl, rfl, rfl, rfl, rfl, rfl, rfl, rfl, rfl, rfl, rfl, rfl, rfl, rfl, rfl, rfl, rfl, rfl, rfl, rfl, rfl, rfl, rfl⟩
/-- The records of the Buttress are no part of what is kept. -/
theorem kept_btr (b : Btr) : Kept s { s with btr := b } := ⟨rfl, rfl, rfl, rfl, rfl, rfl, rfl, rfl, rfl, rfl, rfl, rfl, rfl, rfl, rfl, rfl, rfl, rfl, rfl, rfl, rfl, rfl, rfl⟩
/-- Nor are the stacks, the directory and the fabric. -/
theorem kept_dram (d : Dram) : Kept s { s with dram := d } := ⟨rfl, rfl, rfl, rfl, rfl, rfl, rfl, rfl, rfl, rfl, rfl, rfl, rfl, rfl, rfl, rfl, rfl, rfl, rfl, rfl, rfl, rfl, rfl⟩
theorem kept_dirc (d : Dir) : Kept s { s with dirc := d } := ⟨rfl, rfl, rfl, rfl, rfl, rfl, rfl, rfl, rfl, rfl, rfl, rfl, rfl, rfl, rfl, rfl, rfl, rfl, rfl, rfl, rfl, rfl, rfl⟩
theorem kept_fab (f : Fabric) : Kept s { s with fab := f } := ⟨rfl, rfl, rfl, rfl, rfl, rfl, rfl, rfl, rfl, rfl, rfl, rfl, rfl, rfl, rfl, rfl, rfl, rfl, rfl, rfl, rfl, rfl, rfl⟩

theorem kept_eventCopy (d : Nat → List Byte) (slot net : Nat) (as : List AssocRec) : Kept s (eventCopy d s slot net as) := by
  unfold eventCopy
  split
  · exact kept_ethQueue s _ _ _ _
  · exact kept_bump s _ _

theorem kept_eventTo (only : Option Nat) (code sev : Nat) (body : List Byte) : Kept s (eventTo only s code sev body) := by
  unfold eventTo
  extract_lets
  refine Kept.trans ?_ (Kept.fold (fun u e => ?_) _ _)
  · exact ⟨rfl, rfl, rfl, rfl, rfl, rfl, rfl, rfl, rfl, rfl, rfl, rfl, rfl, rfl, rfl, rfl, rfl, rfl, rfl, rfl, rfl, rfl, rfl⟩
  · exact Kept.ite (Kept.refl u) ((kept_eventCopy u _ _ _ _).trans (kept_eventCopy _ _ _ _ _))

theorem kept_event (code sev : Nat) (body : List Byte) : Kept s (event s code sev body) := kept_eventTo s none code sev body
theorem kept_eventW (code sev : Nat) (ws : List Nat) : Kept s (eventW s code sev ws) := kept_event s code sev _
theorem kept_btrLevels : Kept s (btrLevels s) := (kept_micLevel s _ _).trans (kept_micLevel _ _ _)

theorem kept_btrSecondary (k : Nat) (r : BtrRec) (c v : Nat) : Kept s (btrSecondary s k r c v) :=
  ((kept_btr s _).trans (kept_bump _ _ _)).trans (kept_btrLevels _)

theorem kept_btrOpen (k : Nat) (e : ErrIn) (c v : Nat) (i : Bool) : Kept s (btrOpen s k e c v i) :=
  Kept.ite (((kept_btr s _).trans (kept_btrLevels _)).trans (kept_event _ _ _ _)) ((kept_btr s _).trans (kept_btrLevels _))

theorem kept_btrRecord (e : ErrIn) (i : Bool) : Kept s (btrRecord s e i).1 := by
  unfold btrRecord
  dsimp only
  repeat' split
  all_goals first
    | exact kept_btrSecondary s _ _ _ _
    | exact kept_btrOpen s _ _ _ _ _
    | exact (kept_btr s _).trans (kept_bump _ _ _)
    | exact ((kept_bump s _ _).trans (kept_btr _ _)).trans (kept_btrLevels _)
    | exact (kept_bump s Reg.BTR_OVF 1).trans (kept_btrOpen (bump s Reg.BTR_OVF 1) 255 _ 0x3F _ false)
    | exact kept_btrOpen s 0 e e.cls 3 i

theorem kept_report (a b c d e : Nat) (f g : Option Nat) : Kept s (report s a b c d e f g) := kept_btrRecord s _ _

/-! ### Pool memory -/

theorem kept_setMark (k m : Nat) : Kept s (setMark s k m) := kept_dram s _
theorem kept_setSealErr (p t v : Nat) : Kept s (setSealErr s p t v) := kept_dram s _
theorem kept_setSealMark (p w m : Nat) : Kept s (setSealMark s p w m) := kept_dram s _
theorem kept_recomputeSeal (p : Nat) : Kept s (recomputeSeal s p) := kept_dram s _
theorem kept_setChan (n c : Nat) (k : Chan) : Kept s (setChan s n c k) := kept_dram s _
theorem kept_setSealDie (n : Nat) (d : SealDie) : Kept s (setSealDie s n d) := kept_dram s _

theorem kept_rawStore (a : Nat) (b : List Byte) : Kept s (rawStore s a b) := by
  unfold rawStore
  exact Kept.ite ((kept_poke s _ _).trans (kept_dram _ _)) (kept_poke s _ _)

theorem kept_poisonLine (l : Nat) : Kept s (poisonLine s l) :=
  (kept_rawStore s _ _).trans (Kept.fold (fun u _ => kept_setMark u _ _) _ _)

theorem kept_settleLine (l : Nat) : Kept s (settleLine s l) := by
  unfold settleLine
  extract_lets page ws was s1 ls d s2
  have h1 : Kept s s1 := Kept.ite (Kept.fold (fun u w => kept_setSealMark u _ _ _) _ _) (Kept.refl _)
  have h2 : Kept s s2 := h1.trans ((kept_dram s1 _).trans (kept_poisonLine _ _))
  exact Kept.ite (Kept.ite h2 (h2.trans ((kept_bump _ _ _).trans (kept_report _ _ _ _ _ _ _ _)))) (Kept.refl s)

theorem kept_noteWatch (a n : Nat) (v : Option (Nat × Nat)) : Kept s (noteWatch s a n v) :=
  ⟨rfl, rfl, rfl, rfl, rfl, rfl, rfl, rfl, rfl, rfl, rfl, rfl, rfl, rfl, rfl, rfl, rfl, rfl, rfl, rfl, rfl, rfl, rfl⟩

theorem kept_loseWords (p q : Nat) (ws : List Nat) (d : Option Nat) : Kept s (loseWords s p q ws d) := by
  unfold loseWords
  extract_lets base n lines s1 s2 s3
  have h1 : Kept s s1 := Kept.fold (fun u l => (kept_poisonLine u _).trans (kept_noteWatch _ _ _ _)) _ s
  have h2 : Kept s s2 := h1.trans (kept_bump _ _ _)
  have h3 : Kept s s3 := h2.trans (Kept.ite (Kept.fold (fun u w => kept_setSealMark u _ _ _) _ _) (kept_recomputeSeal _ _))
  exact h3.trans (kept_report _ _ _ _ _ _ _ _)

theorem kept_rebuildWords (p q : Nat) (ws : List Nat) : Kept s (rebuildWords s p q ws) := by
  unfold rebuildWords
  extract_lets base s1 s2 s3
  have h1 : Kept s s1 := Kept.fold (fun u w => (kept_rawStore u _ _).trans (kept_setMark _ _ _)) _ s
  have h2 : Kept s s2 := h1.trans (Kept.fold (fun u w => Kept.fold (fun v j => kept_setSealErr v _ _ _) _ u) _ _)
  have h3 : Kept s s3 := h2.trans (Kept.fold (fun u h => Kept.ite (kept_poisonLine u _) (Kept.refl u)) _ _)
  exact h3.trans (kept_bump _ _ _)

theorem kept_noteCe (g : Nat) (ws : List Nat) (y : Nat) : Kept s (noteCe s g ws y) := by
  unfold noteCe
  extract_lets a n c k th s1
  have h1 : Kept s s1 := (kept_bump _ _ _).trans (kept_setChan _ _ _ _)
  exact Kept.ite (h1.trans (kept_report _ _ _ _ _ _ _ _)) h1

theorem kept_decodeWords (g : Nat) (ws : List Nat) : Kept s (decodeWords s g ws) := by
  unfold decodeWords
  have fix : ∀ (u : State) (w : Nat), Kept u (match wordIs u (g * 256 / 8 + w) with
    | .dataBit j => setMark (rawStore u (g * 256 + 8 * w) (leBytes 8 (storedWord u (g * 256 / 8 + w) ^^^ 2 ^ j))) (g * 256 / 8 + w) 0
    | _ => setMark u (g * 256 / 8 + w) 0) := by
    intro u w
    split
    · exact (kept_rawStore u _ _).trans (kept_setMark _ _ _)
    · exact kept_setMark u _ _
  extract_lets base n st s1 kind fixable poisoned failed syn s2 s3 s4
  have h1 : Kept s s1 := (kept_settleLine s _).trans (kept_settleLine _ _)
  have h2 : Kept s1 s2 := Kept.ite (Kept.refl _) (kept_noteCe _ _ _ _)
  have h3 : Kept s2 s3 := Kept.fold (fun u w => fix u w) _ _
  have h4 : Kept s3 s4 := Kept.ite (Kept.refl _) (kept_bump _ _ _)
  refine Kept.ite h1 (h1.trans (h2.trans (h3.trans (h4.trans (Kept.ite (Kept.refl _) (kept_bump _ _ _))))))

theorem kept_rebuildGranule (p : Nat) (l : List Nat) (u : State × Option Nat) (j : Nat × List Nat) :
    Kept u.1 (rebuildGranule p l u j).1 := by
  unfold rebuildGranule
  extract_lets base good syn s1 r
  have h1 : Kept u.1 s1 := kept_rebuildWords _ _ _ _
  split
  · exact Kept.refl _
  · split
    · exact h1
    · exact h1.trans (kept_btrRecord _ _ _)

theorem kept_rebuildGranules (p : Nat) (l : List Nat) (js : List (Nat × List Nat)) (u : State × Option Nat) :
    Kept u.1 (js.foldl (rebuildGranule p l) u).1 := by
  induction js generalizing u with
  | nil => exact Kept.refl _
  | cons j t ih => exact (kept_rebuildGranule p l u j).trans (ih _)

theorem kept_rebuildPage (p q : Nat) (ws : List Nat) : Kept s (rebuildPage s p q ws) := by
  unfold rebuildPage
  extract_lets n s1 need jobs lost r
  have h1 : Kept s s1 := Kept.fold (fun u g => kept_decodeWords u _ _) _ s
  clear_value s1 jobs lost
  have h2 : Kept s r.1 := h1.trans (kept_rebuildGranules p lost jobs (s1, none))
  clear_value r
  split
  · exact h2
  · exact h2.trans (kept_loseWords _ _ _ _ _)

theorem kept_fetchGranule (g : Nat) (ws : List Nat) : Kept s (fetchGranule s g ws) := by
  unfold fetchGranule
  extract_lets base s1 down want
  have h1 : Kept s s1 := kept_decodeWords s _ _
  exact Kept.ite h1 (h1.trans (kept_rebuildPage _ _ _ _))

theorem kept_fetchRange (a n : Nat) : Kept s (fetchRange s a n) :=
  Kept.fold (fun u g => Kept.ite (kept_fetchGranule u g _) (Kept.refl u)) _ s

theorem kept_load (a n : Nat) : Kept s (load s a n).2.2 := kept_fetchRange s a n

theorem kept_injectWrite (g : Nat) (ws : List Nat) : Kept s (injectWrite s g ws) := by
  unfold injectWrite
  extract_lets
  refine Kept.ite (Kept.refl s) (Kept.ite (Kept.refl s) ?_)
  exact (Kept.fold (fun u w => kept_setMark u _ _) _ s).trans (kept_rput _ _ _)

theorem kept_writeSeal (p : Nat) : Kept s (writeSeal s p) := by
  unfold writeSeal
  exact (Kept.ite ((kept_setSealErr s _ _ _).trans (kept_rput _ _ _)) (Kept.refl s)).trans (kept_dram _ _)

theorem kept_noteMigration (a : Nat) : Kept s (noteMigration s a) := by
  unfold noteMigration
  split
  · exact Kept.refl s
  · exact Kept.ite (Kept.refl s) ⟨rfl, rfl, rfl, rfl, rfl, rfl, rfl, rfl, rfl, rfl, rfl, rfl, rfl, rfl, rfl, rfl, rfl, rfl, rfl, rfl, rfl, rfl, rfl⟩

theorem kept_noteDirty (a n : Nat) : Kept s (noteDirty s a n) := by
  unfold noteDirty
  refine Kept.ite (Kept.refl s) (Kept.fold (fun u p => Kept.ite (Kept.refl u) ?_) _ s)
  exact ⟨rfl, rfl, rfl, rfl, rfl, rfl, rfl, rfl, rfl, rfl, rfl, rfl, rfl, rfl, rfl, rfl, rfl, rfl, rfl, rfl, rfl, rfl, rfl⟩

theorem kept_storePiece (a : Nat) (b : List Byte) : Kept s (storePiece s a b).2 := by
  unfold storePiece
  extract_lets line g s1 lost ws s2 s3
  have h1 : Kept s s1 := kept_settleLine s _
  have h2 : Kept s s2 := h1.trans (kept_rawStore _ _ _)
  have h3 : Kept s s3 := h2.trans (Kept.fold (fun u w => kept_setMark u _ _) _ _)
  split
  · exact h1.trans (((kept_poisonLine _ _).trans (kept_bump _ _ _)).trans (kept_noteWatch _ _ _ _))
  · split
    · exact h1.trans (kept_report _ _ _ _ _ _ _ _)
    · exact ((h3.trans (kept_injectWrite _ _ _)).trans (kept_noteMigration _ _)).trans (kept_noteDirty _ _ _)

theorem kept_store (a : Nat) (b : List Byte) : Kept s (store s a b).2 := by
  unfold store
  split
  · exact Kept.refl s
  · refine Kept.trans ?_ (kept_noteWatch _ _ _ _)
    refine Kept.trans ?_ (Kept.fold (fun u p => kept_writeSeal u p) _ _)
    refine (kept_fetchRange s a b.length).trans ?_
    exact Kept.fold_snd (f := fun (p : Bool × State) (e : Nat × List Byte) =>
      (p.1 || (storePiece p.2 e.1 e.2).1, (storePiece p.2 e.1 e.2).2)) (fun p e => kept_storePiece p.2 _ _) _ (false, _)

theorem kept_storeMasked (a : Nat) (l : List (Bool × Byte)) : Kept s (storeMasked s a l).2 :=
  Kept.fold_snd (f := fun (p : Bool × State) (e : Nat × List Byte) => (p.1 || (store p.2 e.1 e.2).1, (store p.2 e.1 e.2).2))
    (fun p e => kept_store p.2 _ _) _ (false, s)

theorem kept_storePage (p : Nat) (b : List Byte) : Kept s (storePage s p b).2 := by
  unfold storePage
  extract_lets
  refine Kept.trans ?_ (kept_noteWatch _ _ _ _)
  refine Kept.trans ?_ (kept_writeSeal _ _)
  have h1 : Kept s (recomputeSeal ((List.range 512).foldl (fun s i => setMark s (p * 4096 / 8 + i) 0)
      ((List.range 32).foldl (fun s i => settleLine s (p * 4096 / 128 + i)) s)) p) :=
    ((Kept.fold (fun u i => kept_settleLine u _) _ s).trans (Kept.fold (fun u i => kept_setMark u _ _) _ _)).trans
      (kept_recomputeSeal _ _)
  have h2 : ∀ u : State, Kept u ((List.range 16).foldl (fun s q => injectWrite s (p * 16 + q) (List.range 32))
      (noteDirty (noteMigration (rawStore u (p * 4096) b) (p * 4096)) (p * 4096) 4096)) := fun u =>
    (((kept_rawStore u _ _).trans (kept_noteMigration _ _)).trans (kept_noteDirty _ _ _)).trans
      (Kept.fold (fun v q => kept_injectWrite v _ _) _ _)
  have h3 : ∀ (u : State) (l : List Nat), Kept u (l.foldl (fun s q =>
      bump (poisonLine (poisonLine s ((p * 4096 + q * 256) / 128)) ((p * 4096 + q * 256) / 128 + 1)) (Reg.SEA_LOST (dieOf (p * 4096))) 2) u) :=
    fun u l => Kept.fold (fun v q => ((kept_poisonLine v _).trans (kept_poisonLine _ _)).trans (kept_bump _ _ _)) _ u
  exact Kept.ite (h1.trans ((h2 _).trans (h3 _ _)))
    ((h1.trans ((h2 _).trans (h3 _ _))).trans (Kept.fold (fun u w => kept_setSealMark u _ _ _) _ _))

theorem kept_storeGathered (n a : Nat) (b : List Byte) : Kept s (storeGathered n s a b).2 := by
  induction n generalizing s a b with
  | zero => exact Kept.refl s
  | succ n ih =>
    unfold storeGathered
    split
    · exact Kept.refl s
    · refine Kept.trans ?_ (ih _ _ _)
      split
      · exact kept_storePage s _ _
      · exact kept_store s _ _

theorem kept_storePoison (l : Nat) : Kept s (storePoison s l) := by
  unfold storePoison
  refine Kept.trans ?_ (kept_noteWatch _ _ _ _)
  refine Kept.trans ?_ (kept_writeSeal _ _)
  exact (((kept_settleLine s _).trans (kept_poisonLine _ _)).trans (kept_noteMigration _ _)).trans (kept_noteDirty _ _ _)

theorem kept_loadWord (a : Nat) : Kept s (loadWord s a).2 := kept_load s a 8

theorem kept_storeWord (a v : Nat) : Kept s (storeWord s a v) := by
  unfold storeWord
  exact (((kept_fetchRange s _ _).trans (kept_storePiece _ _ _)).trans (kept_writeSeal _ _)).trans (kept_noteWatch _ _ _ _)

theorem kept_signalAdd (a n : Nat) : Kept s (signalAdd s a n).2 := by
  unfold signalAdd
  have h := kept_loadWord s a
  revert h
  rcases loadWord s a with ⟨_ | v, u⟩
  · exact fun h => h.trans (kept_bump _ _ _)
  · intro h
    dsimp only
    split
    · exact h
    · exact h.trans (kept_storeWord _ _ _)

theorem kept_chargeSegs (t : Nat) (l : List (Nat × Nat)) : Kept s (chargeSegs s t l) := by
  unfold chargeSegs
  exact Kept.ite (Kept.refl s) (kept_bump64 s _ _)

/-! ### Translation -/

theorem kept_viewCache (t v : Nat) : Kept s (viewCache s t v) := by
  unfold viewCache
  exact Kept.ite (Kept.refl s) ⟨rfl, rfl, rfl, rfl, rfl, rfl, rfl, rfl, rfl, rfl, rfl, rfl, rfl, rfl, rfl, rfl, rfl, rfl, rfl, rfl, rfl, rfl, rfl⟩

theorem kept_slotXl (t v need perm addr src : Nat) (w : Bool) : Kept s (slotXl s t v need perm addr src w).1 := by
  unfold slotXl
  extract_lets
  repeat' split
  all_goals exact kept_viewCache s _ _

theorem kept_windowXl (addr need src : Nat) : Kept s (windowXl s addr need src).1 := by
  unfold windowXl
  extract_lets
  repeat' split
  all_goals first | exact Kept.refl s | exact kept_slotXl s _ _ _ _ _ _ _

theorem kept_unitXl (kind t addr need src : Nat) : Kept s (unitXl s kind t addr need src).1 := by
  unfold unitXl
  split
  · exact kept_slotXl s _ _ _ _ _ _ _
  · exact kept_windowXl s _ _ _

theorem kept_setFault (t k : Nat) (r : FaultRec) : Kept s (setFault s t k r) :=
  ⟨rfl, rfl, rfl, rfl, rfl, rfl, rfl, rfl, rfl, rfl, rfl, rfl, rfl, rfl, rfl, rfl, rfl, rfl, rfl, rfl, rfl, rfl, rfl⟩

theorem kept_recordFault (f : Flt) (x : Option Nat) (src : Nat) (held : Nat → Bool) : Kept s (recordFault s f x src held).1 := by
  unfold recordFault
  split
  · exact (kept_bump s _ _).trans (kept_setFault _ _ _ _)
  · extract_lets
    split
    · exact Kept.ite (Kept.refl s) (kept_bump s _ _)
    · refine Kept.ite (Kept.trans ?_ (kept_eventW _ _ _ _)) ?_
      all_goals exact ⟨rfl, rfl, rfl, rfl, rfl, rfl, rfl, rfl, rfl, rfl, rfl, rfl, rfl, rfl, rfl, rfl, rfl, rfl, rfl, rfl, rfl, rfl, rfl⟩

theorem kept_unitsXl (kind t need src : Nat) (l : List (Nat × Nat)) : Kept s (unitsXl s kind t need src l).1 := by
  induction l generalizing s with
  | nil => exact Kept.refl s
  | cons e r ih =>
    obtain ⟨a, n⟩ := e
    have g : ∀ (u : State) (o : Option (Nat × Nat)), Kept u (match o, (unitsXl u kind t need src r).2 with
        | some (p, ten), some (l, _) => ((unitsXl u kind t need src r).1, some ((p, n) :: l, ten))
        | _, _ => ((unitsXl u kind t need src r).1, none)).1 := by
      intro u o
      split <;> exact ih u
    unfold unitsXl
    have h := kept_unitXl s kind t a need src
    revert h
    rcases unitXl s kind t a need src with ⟨u, _ | f | _⟩
    · exact fun h => h.trans (g u _)
    · exact fun h => (h.trans (kept_recordFault u f none src _)).trans (g _ none)
    · exact fun h => h.trans (g u none)

theorem kept_reqXl (k : Nat) (m : Msg) (addr len need : Nat) : Kept s (reqXl s k m addr len need).1 := by
  unfold reqXl
  extract_lets src fin
  have hf : ∀ p : State × Option (List (Nat × Nat) × Nat), Kept s p.1 → Kept s (fin p).1 := by
    intro p h
    show Kept s (match p.2 with
      | some (l, t) => (p.1, ReqXl.ok l t)
      | none => (p.1, ReqXl.fail cTRANSLATION)).1
    split <;> exact h
  repeat' split
  all_goals first
    | exact Kept.refl s
    | exact hf _ (kept_unitsXl s _ _ _ _ _)

theorem kept_wordXl (t addr need : Nat) : Kept s (wordXl s t addr need).1 := by
  unfold wordXl
  extract_lets
  have h := kept_slotXl s t ((addr / 2 ^ 30) % 2 ^ 18) need 15 addr ((addr / 2 ^ 30) % 2 ^ 18) false
  split
  · next e => rw [e] at h; exact h
  · next e => rw [e] at h; exact h

/-! ### Messages -/

theorem kept_queueAt (k : Nat) (m : Msg) : Kept s (queueAt s k m) := kept_fab s _

theorem kept_sendMsg (m : Msg) : Kept s (sendMsg s m) := by
  unfold sendMsg
  split
  · exact Kept.refl s
  · extract_lets
    split
    · exact Kept.refl s
    · exact kept_queueAt s _ _

theorem kept_ownRequest (m : Msg) (u : OwnUse) : Kept s (ownRequest s m u) := (kept_fab s _).trans (kept_sendMsg _ _)

theorem kept_ownRequestVia (k : Nat) (m : Msg) (u : OwnUse) : Kept s (ownRequestVia s k m u) :=
  Kept.ite (kept_fab s _) ((kept_fab s _).trans (kept_queueAt _ _ _))

theorem kept_answer (m : Msg) (r : Resp) : Kept s (answer s m r) := by
  unfold answer
  extract_lets l f s1 s2
  have h1 : Kept s s1 := kept_fab s _
  have h2 : Kept s s2 := h1.trans (Kept.ite (Kept.refl _) (kept_fab _ _))
  exact h2.trans (kept_sendMsg _ _)

theorem kept_takeMsg (k : Nat) (m : Msg) : Kept s (takeMsg s k m) := by
  unfold takeMsg
  extract_lets
  split
  · exact Kept.refl s
  · exact kept_fab s _

theorem kept_mirrorLine (l mask : Nat) (u : OwnUse) (r : Option (Msg × Resp)) : Kept s (mirrorLine s l mask u r) := by
  unfold mirrorLine
  refine Kept.trans ?_ (kept_ownRequestVia _ _ _ _)
  exact ⟨rfl, rfl, rfl, rfl, rfl, rfl, rfl, rfl, rfl, rfl, rfl, rfl, rfl, rfl, rfl, rfl, rfl, rfl, rfl, rfl, rfl, rfl, rfl⟩

/-! ### The directory -/

theorem kept_setEnt (l : Nat) (e : Option DirEntry) : Kept s (setEnt s l e) := kept_dirc s _
theorem kept_setTxns (l : List Txn) : Kept s (setTxns s l) := kept_dirc s _
theorem kept_sweepCount (x l p : Nat) : Kept s (sweepCount s x l p) := kept_dirc s _
theorem kept_holdReq (l : Nat) (w : TxnWho) : Kept s (holdReq s l w) := kept_dirc s _

theorem kept_poisonHeld (l : Nat) : Kept s (poisonHeld s l) :=
  ((kept_setEnt s _ _).trans (kept_storePoison _ _)).trans (kept_bump _ _ _)

theorem kept_purge (l : Nat) : Kept s (purge s l) := by
  unfold purge
  split
  · exact Kept.refl s
  · split
    · split
      · exact Kept.refl s
      · exact (kept_poisonHeld s _).trans (kept_sweepCount _ _ _ _)
    · refine Kept.ite (Kept.fold (fun u x => ?_) _ s) (Kept.refl s)
      split
      · exact Kept.refl u
      · exact (kept_setEnt u _ _).trans (kept_sweepCount _ _ _ _)

theorem kept_sendRecall (l e b : Nat) (sh : Bool) : Kept s (sendRecall s l e b sh) := (kept_fab s _).trans (kept_sendMsg _ _)

theorem kept_sendRecalls (l : Nat) (sh : Bool) (xs : List (Nat × Nat)) : Kept s (sendRecalls s l sh xs).1 := by
  induction xs generalizing s with
  | nil => exact Kept.refl s
  | cons x t ih => exact (kept_sendRecall s _ _ _ _).trans (ih _)

theorem kept_openTxn (l : Nat) (w : TxnWho) : Kept s (openTxn s l w).1 := by
  unfold openTxn
  extract_lets want t
  split
  · split
    · exact Kept.refl s
    · next v _ =>
      have h : Kept s (bump64 (purge s v) Reg.DIR_VICTIM_LO 1) := (kept_purge s _).trans (kept_bump64 _ _ _)
      have h1 := h.trans (kept_sendRecalls _ l (want == 1 || want == 3) (whoHolders (bump64 (purge s v) Reg.DIR_VICTIM_LO 1) l w))
      exact (h1.trans (kept_sendRecalls _ _ _ _)).trans (Kept.ite (kept_setEnt _ _ _) (Kept.refl _))
  · exact kept_sendRecalls s _ _ _

theorem kept_beginTxn (l : Nat) (w : TxnWho) : Kept s (beginTxn s l w) := by
  unfold beginTxn
  refine Kept.ite (Kept.refl s) (Kept.ite (kept_holdReq s _ _) (Kept.ite (kept_setTxns s _) ?_))
  have h := kept_openTxn s l w
  revert h
  rcases openTxn s l w with ⟨u, _ | t⟩
  · exact fun h => h.trans (kept_holdReq _ _ _)
  · exact fun h => h.trans (kept_setTxns _ _)

theorem kept_takeWay (b : Bool) (l : Nat) (w : TxnWho) : Kept s (takeWay b s l w) := by
  unfold takeWay
  split
  · exact Kept.refl s
  · split
    · exact Kept.refl s
    · exact Kept.ite (((kept_purge s _).trans (kept_bump64 _ _ _)).trans (kept_setEnt _ _ _)) (Kept.refl s)

theorem kept_agentLine (l : Nat) (w : Bool) : Kept s (agentLine s l w).2 := by
  unfold agentLine
  split
  · exact Kept.refl s
  · extract_lets
    split
    · exact (kept_purge s _).trans (Kept.ite (kept_setEnt _ _ _) (Kept.refl _))
    · exact (kept_purge s _).trans (kept_beginTxn _ _ _)

theorem kept_agentRange (a n : Nat) (w : Bool) : Kept s (agentRange s a n w).2 := by
  unfold agentRange
  split
  · exact Kept.refl s
  · split
    · exact Kept.refl s
    · exact Kept.fold_snd (f := fun (p : Bool × State) (l : Nat) => (p.1 && (agentLine p.2 l w).1, (agentLine p.2 l w).2))
        (fun p l => kept_agentLine p.2 l w) _ (true, s)

/-! ### Rings -/

theorem kept_ringXl (c : Ctx) (addr need : Nat) : Kept s (ringXl s c addr need).1 := by
  unfold ringXl
  extract_lets
  have h := kept_slotXl s c.tenant ((addr / 2 ^ 30) % 2 ^ 18) need 15 addr ((addr / 2 ^ 30) % 2 ^ 18) false
  split
  · next e => rw [e] at h; exact h
  · next e => rw [e] at h; exact h.trans (kept_recordFault _ _ _ _ _)
  · next e => rw [e] at h; exact h

theorem kept_ringRead (c : Ctx) (addr n : Nat) : Kept s (ringRead s c addr n).1 := by
  unfold ringRead
  have h := kept_ringXl s c addr pRD
  split
  · next e => rw [e] at h; exact h
  · next u a e =>
    rw [e] at h
    split
    · exact h
    · have g := kept_agentRange u a n false
      split
      · next e => rw [e] at g; exact h.trans g
      · next e => rw [e] at g; exact (h.trans g).trans (kept_load _ _ _)

theorem kept_storeMirrored (a : Nat) (b : List Byte) (u : OwnUse) : Kept s (storeMirrored s a b u).1 := by
  unfold storeMirrored
  extract_lets
  split
  · exact (kept_store s _ _).trans (Kept.fold (fun v e => kept_mirrorLine v _ _ _ _) _ _)
  · exact kept_store s _ _

theorem kept_ringWrite (c : Ctx) (addr : Nat) (b : List Byte) (use : OwnUse) : Kept s (ringWrite s c addr b use).1 := by
  unfold ringWrite
  have h := kept_ringXl s c addr pWR
  split
  · next e => rw [e] at h; exact h
  · next u a e =>
    rw [e] at h
    split
    · exact h
    · have g := kept_agentRange u a b.length true
      split
      · next e => rw [e] at g; exact h.trans g
      · next e => rw [e] at g; exact (h.trans g).trans (kept_storeMirrored _ _ _ _)

/-- A write of the ring header keeps the contexts and the bulk jobs; it may wait among the posts. -/
theorem headerPut_ctxs (x : Nat) (c : Ctx) (off : Nat) (b : List Byte) :
    (headerPut s x c off b).1.sched.ctxs = s.sched.ctxs ∧ (headerPut s x c off b).1.sched.bulk = s.sched.bulk
      ∧ (headerPut s x c off b).1.xlt.shadows = s.xlt.shadows ∧ (headerPut s x c off b).1.mbx = s.mbx
      ∧ (headerPut s x c off b).1.tb = s.tb ∧ (headerPut s x c off b).1.twin.replies = s.twin.replies := by
  unfold headerPut
  extract_lets wait
  have hw : ∀ u : State, (wait u).sched.ctxs = u.sched.ctxs ∧ (wait u).sched.bulk = u.sched.bulk ∧ (wait u).xlt.shadows = u.xlt.shadows
      ∧ (wait u).mbx = u.mbx ∧ (wait u).tb = u.tb ∧ (wait u).twin.replies = u.twin.replies := fun _ => ⟨rfl, rfl, rfl, rfl, rfl, rfl⟩
  have k := kept_ringWrite s c (c.ring + off) b .plain
  split
  · exact hw s
  · split
    · next e => rw [e] at k; exact ⟨by rw [k.sched], by rw [k.sched], k.shadows, k.mbx, k.tb, k.twinReplies⟩
    · next e =>
      rw [e] at k
      obtain ⟨a1, a2, a3, a4, a5, a6⟩ := hw _
      exact ⟨a1.trans (by rw [k.sched]), a2.trans (by rw [k.sched]), a3.trans k.shadows, a4.trans k.mbx, a5.trans k.tb, a6.trans k.twinReplies⟩
    · next e => rw [e] at k; exact ⟨by rw [k.sched], by rw [k.sched], k.shadows, k.mbx, k.tb, k.twinReplies⟩

end Sys2Proof.Machine
end

