-- ==== Sys2Proof/Laws/Run.lean ====
section
/-!
SUPPORT. The running of a management command, once for all of them: when it may run, its own effect decides what is
answered.
-/

namespace Sys2Proof.Machine

theorem session_dequeue_identity (s : State) (slot : Nat) (tag : Word32) (k : Nat) :
    (session (dequeue s slot tag) k).map (fun se => se.identity) = (session s k).map (fun se => se.identity) := by
  unfold dequeue
  cases h : session s slot with
  | none => rfl
  | some se =>
    show (tget (tset s.mbx.sessions slot _) k).map _ = _
    rw [tget_tset]
    split
    · next hk => subst hk; rw [h]; rfl
    · rfl

theorem isWitness_dequeue (s : State) (slot : Nat) (tag : Word32) (k : Nat) :
    isWitness (dequeue s slot tag) k = isWitness s k := by
  have h := session_dequeue_identity s slot tag k
  have ht : twinValid (dequeue s slot tag) = twinValid s := by
    unfold twinValid; rw [rf_congr (dequeue_regs s slot tag)]
  have hw : (dequeue s slot tag).mbx.witness = s.mbx.witness := by unfold dequeue setSession; cases session s slot <;> rfl
  unfold isWitness
  rw [ht, hw]
  cases h1 : session (dequeue s slot tag) k <;> cases h2 : session s k <;> simp_all

@[simp] theorem dequeue_mbx_owner (s : State) (slot : Nat) (tag : Word32) : (dequeue s slot tag).mbx.owner = s.mbx.owner := by
  unfold dequeue setSession; cases session s slot <;> rfl
@[simp] theorem dequeue_mbx_epoch (s : State) (slot : Nat) (tag : Word32) : (dequeue s slot tag).mbx.epoch = s.mbx.epoch := by
  unfold dequeue setSession; cases session s slot <;> rfl
@[simp] theorem dequeue_mbx_expires (s : State) (slot : Nat) (tag : Word32) :
    (dequeue s slot tag).mbx.expires = s.mbx.expires := by unfold dequeue setSession; cases session s slot <;> rfl
@[simp] theorem dequeue_mbx_deferred (s : State) (slot : Nat) (tag : Word32) :
    (dequeue s slot tag).mbx.deferred = s.mbx.deferred := by unfold dequeue setSession; cases session s slot <;> rfl
@[simp] theorem dequeue_mbx_lastOwner (s : State) (slot : Nat) (tag : Word32) :
    (dequeue s slot tag).mbx.lastOwner = s.mbx.lastOwner := by unfold dequeue setSession; cases session s slot <;> rfl

@[simp] theorem mayNot_dequeue (s : State) (slot : Nat) (tag : Word32) (k op : Nat) :
    mayNot (dequeue s slot tag) k op = mayNot s k op := by
  unfold mayNot inSafe inHold
  simp only [isWitness_dequeue, rf_congr (dequeue_regs s slot tag), dequeue_mbx_owner]

theorem lapseIfDue_none {s : State} (h : s.mbx.owner = none ∨ now s < s.mbx.expires) : lapseIfDue s = s := by
  unfold lapseIfDue
  rw [if_neg]
  rcases h with h | h
  · simp [h]
  · simp; intro _; omega

/-- A command that may run, and whose parameters are in range, answers as its own effect says. -/
theorem runCmd_eq {s : State} {slot op : Nat} {tag : Word32} (h : MayRun s slot op tag) (k : State → State × Rep) :
    runCmd slot op tag false s k =
      match k (dequeue s slot tag) with
      | (t, .done st b) => reply t slot op tag st b
      | (t, .defer b w) =>
        if 64 ≤ s.mbx.deferred.length then reply (dequeue s slot tag) slot op tag stBUSY []
        else runEnd t slot op tag stDEFERRED b (some w)
      | (t, .wait) => t
      | (t, .again) => { t with mbx := s.mbx } := by
  unfold runCmd runOn
  simp only [lapseIfDue_none h.lease, h.fresh, mayNot_dequeue, h.right, ite_self, dequeue_mbx_deferred]
  rcases k (dequeue s slot tag) with ⟨t, r⟩
  cases r <;> simp

/-- The same for a command of the groups that an active twin mirrors, on a module that is no active twin. -/
theorem runTwin_eq {s : State} {slot op : Nat} {tag : Word32} (h : MayRun s slot op tag) (ha : Alone s) (ws : List Word64)
    (k : State → State × Rep) :
    runTwin slot op tag ws false s k = runCmd slot op tag false s k := by
  have hn : ¬ (s.twin.st = 1 ∨ s.twin.st = 2) := fun x => x.elim ha.1 ha.2
  rw [runCmd_eq h]
  unfold runTwin runOn
  simp only [lapseIfDue_none h.lease, h.fresh, mayNot_dequeue, h.right, dequeue_mbx_deferred, dequeue_twin, if_neg hn]
  rcases k (dequeue s slot tag) with ⟨t, r⟩
  cases r <;> simp

/-- A parameter out of range: INVALID, and nothing is carried out (R432). -/
theorem runCmd_bad {s : State} {slot op : Nat} {tag : Word32} (h : s.mbx.owner = none ∨ now s < s.mbx.expires)
    (hf : s.twin.replies.any (fun r => r.slot == slot && r.tag == tag) = false) (k : State → State × Rep) :
    runCmd slot op tag true s k = reply (dequeue s slot tag) slot op tag stINVALID [] := by
  unfold runCmd runOn
  simp [lapseIfDue_none h, hf]

end Sys2Proof.Machine
end

