-- ==== Sys2Proof/Tests/Slice0.lean ====
section
/-!
SUPPORT. The model's own tests: an ill-formed command for each check of WellFormed, the spec's worked examples, and for each
statement a witness that its hypotheses can be met.
-/

open Sys2Proof Sys2Proof.Machine
namespace Sys2Proof.Tests
set_option Elab.async false

/-- No register of the voussoir dies that can be reset to other than 0 lies at the offset of an injection register. -/
theorem reset_injection (a : Nat) (h : 0x20000000 ≤ a) (hm : a % 0x100000 = 0x210 ∨ a % 0x100000 = 0x20) :
    a % 0x100000 = 0x210 ∧ bits (regReset a).toNat 14 13 = 0 ∨ a % 0x100000 = 0x20 ∧ (0x600000 ≤ a % 0x1000000 → bit (regReset a).toNat 15 = false) := by
  have hb : blockRows a = regRowsSTK ++ regRowsCRS ++ regRowsSEA ++ regRowsPNT := by
    have : 0x20 ≤ a / 0x1000000 := by omega
    simp [blockRows, this]
  have key : ∀ r, regRow a = some r → (r.base ≤ a ∧ inDims (a - r.base) r.dims = true) ∧ r ∈ regRowsSTK ++ regRowsCRS ++ regRowsSEA ++ regRowsPNT := by
    intro r hr
    have h1 := List.find?_some hr
    have h2 := List.mem_of_find?_eq_some hr
    rw [hb] at h2
    simp only [Bool.and_eq_true, decide_eq_true_eq] at h1
    exact ⟨h1, h2⟩
  unfold regReset
  cases hr : regRow a with
  | none => rcases hm with hm | hm <;> simp [hm, bits, bit]
  | some r =>
    obtain ⟨⟨h1, h2⟩, h3⟩ := key r hr
    simp only [regRowsSTK, regRowsCRS, regRowsSEA, regRowsPNT, List.cons_append, List.nil_append, List.mem_cons, List.not_mem_nil, or_false] at h3
    rcases hm with hm | hm
    · refine Or.inl ⟨hm, ?_⟩
      rcases h3 with h3 | h3 | h3 | h3 | h3 | h3 | h3 | h3 | h3 | h3 | h3 | h3 | h3 | h3 | h3 | h3 | h3 | h3 | h3 | h3 | h3 | h3 | h3 | h3 | h3 | h3 | h3 | h3 | h3 | h3 | h3 | h3 | h3 | h3 | h3 | h3 <;> subst h3 <;>
        first | decide | (simp [bits, bit]; done) | (exfalso; simp [inDims] at h1 h2; omega)
    · refine Or.inr ⟨hm, fun hx => ?_⟩
      rcases h3 with h3 | h3 | h3 | h3 | h3 | h3 | h3 | h3 | h3 | h3 | h3 | h3 | h3 | h3 | h3 | h3 | h3 | h3 | h3 | h3 | h3 | h3 | h3 | h3 | h3 | h3 | h3 | h3 | h3 | h3 | h3 | h3 | h3 | h3 | h3 | h3 <;> subst h3 <;>
        first | decide | (simp [bits, bit]; done) | (exfalso; simp [inDims] at h1 h2; omega)

/-- A register that no entry lists holds its reset value. -/
theorem rg_unlisted (s : State) (a : Nat) (h : ∀ e ∈ s.regs, e.1 < 0x20000000) (ha : 0x20000000 ≤ a) : rg s a = (regReset a).toNat := by
  have : tget s.regs a = none := by
    have go : ∀ l : Tab Word32, (∀ e ∈ l, e.1 < 0x20000000) → tget l a = none := by
      intro l hl
      induction l with
      | nil => rfl
      | cons e t ih =>
        obtain ⟨k, v⟩ := e
        have : k < 0x20000000 := hl (k, v) (by simp)
        have ne : a ≠ k := by omega
        simp only [tget, ne, if_false]
        exact ih (fun e he => hl e (by simp [he]))
    exact go s.regs h
  simp [rg, tgetD, this]

/-- The stacks of a state whose dies are as at reset hold no error. -/
theorem clean_of (s : State) (hd : s.dram = { Dram.reset with trained := s.dram.trained }) (hr : ∀ e ∈ s.regs, e.1 < 0x20000000) : Clean s where
  up := by intro n c; rw [chanDown, chan, hd]; cases s.dram.trained <;> rfl
  marks := by rw [hd]; rfl
  stale := by rw [hd]; rfl
  losses := by rw [hd]; rfl
  undef := by rw [hd]; rfl
  injStk := by
    intro n st
    rw [rf, rg_unlisted s _ hr (by simp only [Reg.STK_INJ_CTL]; omega)]
    have := reset_injection (Reg.STK_INJ_CTL n st) (by simp only [Reg.STK_INJ_CTL]; omega) (by simp only [Reg.STK_INJ_CTL]; omega)
    rcases this with h | h
    · exact h.2
    · have := h.1; simp only [Reg.STK_INJ_CTL] at this; omega
  injSea := by
    intro n
    rw [rg_unlisted s _ hr (by simp only [Reg.SEA_INJ_CTL]; omega)]
    have := reset_injection (Reg.SEA_INJ_CTL n) (by simp only [Reg.SEA_INJ_CTL]; omega) (by simp only [Reg.SEA_INJ_CTL]; omega)
    rcases this with h | h
    · have := h.1; simp only [Reg.SEA_INJ_CTL] at this; omega
    · exact h.2 (by simp only [Reg.SEA_INJ_CTL]; omega)

/-- The state after reset holds no error, and no extent of it is coherent, mirrored or copied. -/
theorem clean_reset : Clean State.reset := clean_of _ rfl (by decide)
theorem plain_reset (a : Nat) : PlainExtent State.reset a := ⟨rfl, rfl, rfl⟩

/-- A client's session in slot 0, which owns the module for a second. -/
def client : Session := { identity := [1#8], assocs := [], queue := [], replies := [] }
def owned : State :=
  { State.reset with mbx := { Mailbox.reset with sessions := [(0, client)], owner := some 0, expires := 1000000000 } }

/-- A command may run on a state where the lease runs, nothing is owed and nothing bars it. -/
theorem mayRun_of (s : State) (slot op : Nat) (tag : Word32) (h1 : s.mbx.owner = none ∨ now s < s.mbx.expires) (h2 : s.twin.replies = [])
    (h3 : (mayNot s slot op).isNone = true) : MayRun s slot op tag where
  lease := h1
  fresh := by rw [h2]; rfl
  right := by cases h : mayNot s slot op with
    | none => rfl
    | some x => rw [h] at h3; cases h3

/-- Every command of the catalogue but the witness's and the command of the safe state may run on that state. -/
theorem mayRun_owned (op : Nat) (tag : Word32) (h : (mayNot owned 0 op).isNone = true) : MayRun owned 0 op tag :=
  mayRun_of owned 0 op tag (Or.inr (by decide)) rfl h
theorem alone_owned : Alone owned := ⟨by decide, by decide⟩
theorem room_owned : DeferRoom owned := by show (0 : Nat) < 64; decide
/-- A message with no data slots. -/
def okMsg : Msg :=
  { opcode := 0, vc := 0, akind := 0, dslots := 0, poison := false, retry := false, adapt := false, hops := 0, status := 0, xf := 0
    cause := 0, lvl := false, context := 0, dst := 0, src := 0, reqid := 0, addr := 0, arg := 0, data := [] }

/-- Messages with too many data slots, and with fewer data bytes than slots. -/
def longMsg : Msg := { okMsg with dslots := 19, data := List.replicate 304 0#8 }
def shortMsg : Msg := { okMsg with dslots := 1 }

/-- A flit of 256 B. -/
def okFlit : List Byte := List.replicate 256 0#8

/-- A RoCEv2 packet, and one whose PSN is too large. -/
def okPkt : RocePkt :=
  { opcode := 0, qp := 0, psn := 0, ackReq := false, va := 0, rkey := 0, len := 0, swapAdd := 0, compare := 0, payload := []
    ce := false, icrcGood := true }
def badPkt : RocePkt := { okPkt with psn := 2 ^ 24 }

/-- A PTP message. -/
def okPtp : PtpMsg := { kind := 0, domain := 0, twoStep := false, origin := 0, arrival := 0, quality := 0 }

/-- A handshake on a port that the module does not have. -/
def badHello : DtlsHello := { port := 8, udp := 0, suite := false, group := false, scheme := false, chain := [] }

set_option maxRecDepth 8000 in
/-- Ill-formed commands, one for each check of each command. -/
theorem test_ill_formed_a :
    [Instr.registerWrite 6 0 4 0#32,
      .registerWrite 0 0 3 0#32, .setAddressWrite 6 0 0#32, .clrAddressWrite 6 0 0#32, .rcRead 6 0 0, .loReadLatch 6 0,
      .loWriteCommit 6 0 0#32, .hiWriteHold 6 0 0#32, .micClaimRead 4, .micCompleteWrite 4 0#32, .coalHoldEnd 512,
      .sourceLevelChange 512 false, .stkInjCtlWrite 6 0 0#32, .stkInjCtlWrite 0 4 0#32, .stkInjPar 6 0 0#32, .stkInjPar 0 4 0#32,
      .seaInjArm 6 0#32, .coreAccess 4 0 4 none, .coreAccess 0 0 3 none, .coreAtomic 4 0 4 .lr 0#64, .coreAtomic 0 0 3 .lr 0#64,
      .poolWindowAccess 4 0 4 none, .poolWindowAccess 0 (2 ^ 42) 4 none, .poolWindowAccess 0 0 3 none, .poolHold 9 0#32,
      .poolResume 9 0#32, .voussoirWindowAccess 4 0 0 4 none, .voussoirWindowAccess 0 6 0 4 none,
      .voussoirWindowAccess 0 0 0x1000000 4 none, .voussoirWindowAccess 0 0 0 3 none, .dtlsHandshake badHello,
      .associationIdle 9 0, .associationIdle 0 2, .refusingClose 2 [], .commandFrame 0 2 [], .commandAddressParityError 6 0,
      .commandAddressParityError 0 128, .ownClaim 9 0#32 0#64, .ownRenew 9 0#32 0#64, .ownRelease 9 0#32, .ownQuery 9 0#32,
      .ownTransfer 9 0#32 0#64 0#64, .ownFull 32 okMsg, .ownFull 0 longMsg, .ownFull 0 shortMsg, .sessionList 9 0#32,
      .sessionClose 9 0#32 0#64, .mgmtSet 9 0#32 0#64 0#64, .extentAlloc 9 0#32 0#64 0#64 0#64 0#64 [], .extentRelease 9 0#32 [],
      .extentSetAttr 9 0#32 [] 0#64 0#64, .extentQuery 9 0#32 [], .extentMigrate 9 0#32 0#64 0#64,
      .viewMap 9 0#32 0#64 0#64 0#64 0#64, .viewUnmap 9 0#32 0#64 0#64, .viewQuery 9 0#32 0#64 0#64 0#64,
      .windowSet 9 0#32 0#64 0#64 0#64 0#64, .windowClear 9 0#32 0#64, .tenantSet 9 0#32 0#64 0#64 0#64 0#64 0#64 0#64 0#64,
      .tenantClear 9 0#32 0#64].all (fun c => !c.wf) = true := by decide

set_option maxRecDepth 8000 in
/-- Ill-formed commands, one for each check of each command. -/
theorem test_ill_formed_b :
    [Instr.tenantQuery 9 0#32 0#64,
      .capacitySet 9 0#32 [] 0#64, .gateSet 9 0#32 0#64 0#64 [], .gateEntryBoundary (.ethPort 8), .faultRead 9 0#32 0#64,
      .faultResolve 9 0#32 [], .faultqSet 9 0#32 0#64 0#64, .contextCreate 9 0#32 0#64 0#64 0#64 0#64,
      .contextDestroy 9 0#32 0#64, .contextQuery 9 0#32 0#64, .contextRestart 9 0#32 0#64, .contextSuspend 9 0#32 0#64,
      .contextResume 9 0#32 0#64, .contextSet 9 0#32 0#64 0#64 0#64, .contextDrainDone 16384, .courseCaps 9 0#32,
      .courseSet 9 0#32 0#64 0#64, .courseDispatch 16384, .courseDrainDone 12, .lintelCreate 9 0#32 0#64 0#64 0#64 0#64 0#64,
      .lintelDestroy 9 0#32 0#64, .lintelQuery 9 0#32 0#64, .lintelBreak 9 0#32 0#64, .watchQuery 9 0#32 0#64 0#64 0#64,
      .watchNotice (2880 * 2 ^ 23), .watchArm 32 okMsg, .watchArm 0 longMsg, .watchArm 0 shortMsg, .watchDisarm 32 okMsg,
      .watchDisarm 0 longMsg, .watchDisarm 0 shortMsg, .coordSet 9 0#32 0#64 0#64, .portSet 9 0#32 0#64 0#64 0#64 0#64,
      .portQuery 9 0#32 0#64, .portRetrain 9 0#32 0#64 0#64, .portLightDetect 32, .portTrainingDone 32, .portTrainingTimeout 32,
      .portDrainDone 32, .routeSet 9 0#32 [], .fabricSet 9 0#32 0#64 0#64 0#64 0#64, .rankTableSet 9 0#32 0#64 0#64 [],
      .legacySet 9 0#32 0#64 0#64 [], .endpointFail 9 0#32 0#64, .endpointReadmit 9 0#32 0#64, .endpointRetire 9 0#32 0#64,
      .endpointSweepEnd 1024, .endpointRetireDone 1024, .ethPortSet 9 0#32 0#64 0#64 0#64 0#64 0#64 0#64 0#64 0#64 0#64 0#64,
      .ethPortQuery 9 0#32 0#64, .ethLinkUp 8, .ethFrameDiscard 8 0 .badFcs, .ethPortDrainDone 32, .ethLinkDown 8,
      .qpCreate 9 0#32 0#64 0#64 0#64 0#64 0#64 0#64 0#64 0#64 0#64, .qpDestroy 9 0#32 0#64, .qpQuery 9 0#32 0#64,
      .qpDestroyDone 4096, .egressSet 9 0#32 0#64 0#64 0#64 [], .egressFrameSend 8].all (fun c => !c.wf) = true := by decide

set_option maxRecDepth 8000 in
/-- Ill-formed commands, one for each check of each command. -/
theorem test_ill_formed_c :
    [Instr.ptpSet 9 0#32 0#64,
      .ptpMessage 8 okPtp, .groupSet 9 0#32 0#64 0#64 0#64 [], .groupQuery 9 0#32, .timeSet 9 0#32 0#64 0#64, .timeStep 9 0#32,
      .timeWatchFire 65536, .timeBaseCorrect 40, .twinSet 9 0#32 0#64 0#64 0#64 [] 0#64 0#64 0#64, .twinQuery 9 0#32 0#64,
      .twinPromote 9 0#32, .twinDemote 9 0#32, .twinSolo 9 0#32, .twinTakeback 9 0#32, .twinClear 9 0#32,
      .eventRead 9 0#32 0#64 0#64, .regRead 9 0#32 [], .regWrite 9 0#32 0#64 0#64, .telemetryRead 9 0#32 0#64 0#64,
      .identity 9 0#32, .fwStage 9 0#32 0#64 [], .fwVerify 9 0#32 4, .fwCommit 9 0#32, .fwActivate 9 0#32, .spdm 9 0#32 [],
      .anchorSet 9 0#32 0#64 [], .anchorQuery 9 0#32, .memtest 9 0#32 0#64 0#64 0#64 0#64, .inject 9 0#32 0#64 0#64 0#64 0#64,
      .poisonWrite 9 0#32 0#64, .recoveryRead 9 0#32 0#64 0#64, .recoveryPortTimeout 2, .recoveryOffer 2 0 0#64 4 0 [],
      .powerQuery 9 0#32, .powerSet 9 0#32 0#64 0#64, .powerOnReset 8, .standby 9 0#32, .zeroFillDone 2880, .fenceComplete 64,
      .fenceFlitReceive 32 okFlit, .fenceFlitReceive 0 [], .revalidationDone 16384, .migrationPassEnd 2880,
      .migrationSwitchDone 2880, .migrationHoldLimit 2880, .unrecordedRetranslate 256, .descriptorAccept 16384,
      .descriptorComplete 16384 false, .admitRetryExpire 16384, .stealWaitExpire 16384, .gangWaitExpire 16384,
      .notBeforeReached 16384, .tileStart 16384 false, .tileEnd 16384 false 0, .quantumExpire 16384, .preemptSaveDone 16384,
      .stoppedDescriptorDrain 16384, .channelWriteEntry 6 0 0 0 [0#8], .channelWriteEntry 0 128 0 0 [0#8],
      .channelWriteEntry 0 0 8 0 [0#8]].all (fun c => !c.wf) = true := by decide

set_option maxRecDepth 8000 in
/-- Ill-formed commands, one for each check of each command. -/
theorem test_ill_formed_d :
    [Instr.channelWriteEntry 0 0 0 (2 ^ 42) [0#8],
      .channelWriteEntry 0 0 0 0 [], .channelWriteEntry 0 0 0 0 (List.replicate 257 0#8), .channelReadEntry 6 0 0 0 1,
      .channelReadEntry 0 128 0 0 1, .channelReadEntry 0 0 8 0 1, .channelReadEntry 0 0 0 (2 ^ 42) 1,
      .channelReadEntry 0 0 0 0 0, .channelReadEntry 0 0 0 0 257, .channelSchedule 6 0, .channelSchedule 0 128, .readDecode 6 0,
      .readDecode 0 128, .read 32 okMsg, .read 0 longMsg, .read 0 shortMsg, .readData 32 okMsg, .readData 0 longMsg,
      .readData 0 shortMsg, .readResponseSend 4096, .refreshDue 6 0 0, .refreshDue 0 128 0, .refreshDue 0 0 64,
      .rfmThreshold 6 0 0, .rfmThreshold 0 128 0, .rfmThreshold 0 0 64, .bankIdleExpire 6 0 0, .bankIdleExpire 0 128 0,
      .bankIdleExpire 0 0 64, .urgencyRise 6 0, .urgencyRise 0 128, .stackTempRead 24 0, .trackingTrigger 6 0,
      .trackingTrigger 0 128, .trackingDone 6 0 false, .trackingDone 0 128 false, .fullTrainingDone 6 0 false,
      .fullTrainingDone 0 128 false, .rebuildDone 6 0, .rebuildDone 0 128, .rowSpare 6 0 0 0, .rowSpare 0 128 0 0,
      .rowSpare 0 0 64 0, .rowSpare 0 0 0 32768, .rowCopyDone 6 0 0 0, .rowCopyDone 0 128 0 0, .rowCopyDone 0 0 64 0,
      .rowCopyDone 0 0 0 32768, .selfRefreshExitDone 6, .sealDelta 6, .sealDeltaResume 6, .sealLineAge 6 0,
      .sealLineAge 0 (2880 * 2 ^ 18), .sealRebuildDone 6 0, .sealRebuildDone 0 (2880 * 2 ^ 18), .pageHoldGrant 6 0,
      .pageHoldGrant 0 (2880 * 2 ^ 18), .scrubVisit 6, .scrubPageChecked 6, .d2dParityError 6].all (fun c => !c.wf) = true := by decide

set_option maxRecDepth 8000 in
/-- Ill-formed commands, one for each check of each command. -/
theorem test_ill_formed_e :
    [Instr.d2dTrainingLoss 6,
      .d2dStartFail 64, .ondieParityError 6, .trainingRetryTimer 32, .dataFlitReceive 32 okFlit, .dataFlitReceive 0 [],
      .badCrcFlit 32 okFlit, .badCrcFlit 0 [], .idleFlitReceive 32 okFlit, .idleFlitReceive 0 [], .ts 32 okFlit, .ts 0 [],
      .ident 32 okFlit, .ident 0 [], .identReq 32 okFlit, .identReq 0 [], .creditInit 32 okFlit, .creditInit 0 [],
      .replayStart 32 okFlit, .replayStart 0 [], .retrainReq 32 okFlit, .retrainReq 0 [], .retrainAck 32 okFlit,
      .retrainAck 0 [], .retrainDone 32, .retrainMaxExpire 32, .widthReq 32 okFlit, .widthReq 0 [], .widthAck 32 okFlit,
      .widthAck 0 [], .widthChangeDone 32, .rttProbe 32 okFlit, .rttProbe 0 [], .rttEcho 32 okFlit, .rttEcho 0 [],
      .timesync 32 okFlit, .timesync 0 [], .timesyncAnswer 32 okFlit, .timesyncAnswer 0 [], .ackTimerExpire 32,
      .lockLossTimeout 32, .fecRetrainTrigger 32 0 0, .wavelengthLockLoss 32 0, .wavelengthLockLoss 0 16,
      .laserMeasure 4 (List.replicate 16 0), .laserMeasure 0 [], .laserRemoveTimeout 4 0, .laserRemoveTimeout 0 16,
      .flitTransmit 32, .rdShared 32 okMsg, .rdShared 0 longMsg, .rdShared 0 shortMsg, .rdOwn 32 okMsg, .rdOwn 0 longMsg,
      .rdOwn 0 shortMsg, .rdOnce 32 okMsg, .rdOnce 0 longMsg, .rdOnce 0 shortMsg, .upgrade 32 okMsg, .upgrade 0 longMsg].all (fun c => !c.wf) = true := by decide

set_option maxRecDepth 8000 in
/-- Ill-formed commands, one for each check of each command. -/
theorem test_ill_formed_f :
    [Instr.upgrade 0 shortMsg,
      .wrLine 32 okMsg, .wrLine 0 longMsg, .wrLine 0 shortMsg, .wrPart 32 okMsg, .wrPart 0 longMsg, .wrPart 0 shortMsg,
      .wrAck 32 okMsg, .wrAck 0 longMsg, .wrAck 0 shortMsg, .atomic 32 okMsg, .atomic 0 longMsg, .atomic 0 shortMsg,
      .publish 32 okMsg, .publish 0 longMsg, .publish 0 shortMsg, .evictClean 32 okMsg, .evictClean 0 longMsg,
      .evictClean 0 shortMsg, .rclAck 32 okMsg, .rclAck 0 longMsg, .rclAck 0 shortMsg, .rclData 32 okMsg, .rclData 0 longMsg,
      .rclData 0 shortMsg, .wback 32 okMsg, .wback 0 longMsg, .wback 0 shortMsg, .pushAck 32 okMsg, .pushAck 0 longMsg,
      .pushAck 0 shortMsg, .pushAckTimeout (2880 * 2 ^ 23), .transactionActivate (2880 * 2 ^ 23), .reqInputResume 16,
      .recallTimeout (2880 * 2 ^ 23) 0, .recallTimeout 0 (2 ^ 17), .bulkDesc 32 okMsg, .bulkDesc 0 longMsg, .bulkDesc 0 shortMsg,
      .write 32 okMsg, .write 0 longMsg, .write 0 shortMsg, .writeMask 32 okMsg, .writeMask 0 longMsg, .writeMask 0 shortMsg,
      .unknownOpMessage 32 okMsg, .unknownOpMessage 0 longMsg, .unknownOpMessage 0 shortMsg, .messageForward 32 okMsg,
      .messageForward 0 longMsg, .messageForward 0 shortMsg, .signal 32 okMsg, .signal 0 longMsg, .signal 0 shortMsg,
      .arrive 32 okMsg, .arrive 0 longMsg, .arrive 0 shortMsg, .notifyAck 32 okMsg, .notifyAck 0 longMsg, .notifyAck 0 shortMsg].all (fun c => !c.wf) = true := by decide

set_option maxRecDepth 8000 in
/-- Ill-formed commands, one for each check of each command. -/
theorem test_ill_formed_g :
    [Instr.requestTimeout (2 ^ 24),
      .completionRecordExpire 64 0 0, .completionRecordExpire 0 64 0, .completionRecordExpire 0 0 (2 ^ 24),
      .mirrorWrite 32 okMsg, .mirrorWrite 0 longMsg, .mirrorWrite 0 shortMsg, .mirrorTile 32 okMsg, .mirrorTile 0 longMsg,
      .mirrorTile 0 shortMsg, .mirrorCommit 32 okMsg, .mirrorCommit 0 longMsg, .mirrorCommit 0 shortMsg, .mirrorAdd 32 okMsg,
      .mirrorAdd 0 longMsg, .mirrorAdd 0 shortMsg, .mirrorCfg 32 okMsg, .mirrorCfg 0 longMsg, .mirrorCfg 0 shortMsg,
      .mirrorBeat 32 okMsg, .mirrorBeat 0 longMsg, .mirrorBeat 0 shortMsg, .mirrorAck 32 okMsg, .mirrorAck 0 longMsg,
      .mirrorAck 0 shortMsg, .arp 8 0 0 0, .neighbourDiscovery 8 0 0 0, .icmpEcho 8 0 0 0 0 [], .pfcFrame 8 0 false,
      .pfcFrame 0 8 false, .rdmaWrite 8 okPkt, .rdmaWrite 0 badPkt, .rdmaReadRequest 8 okPkt, .rdmaReadRequest 0 badPkt,
      .compareAndSwap 8 okPkt, .compareAndSwap 0 badPkt, .fetchAndAdd 8 okPkt, .fetchAndAdd 0 badPkt, .invalidRocePacket 8 okPkt,
      .invalidRocePacket 0 badPkt, .cnp 8 0, .cnp 0 4096, .cnpRateTimer 4096, .wake 4, .railFault 11, .junctionSensorRead 64 0,
      .thermalTrip 64, .clockLoss 8, .pllRelock 8, .tftpData 65536 [], .mfrMboxWrite (List.replicate 256 0#8), .regacc 0 3 none,
      .symbolLockRegained 32 none, .symbolLockRegained 0 (some 16), .guardStart 6].all (fun c => !c.wf) = true := by decide


/-! ### Witnesses: states and operands that meet the hypotheses of each statement -/

theorem wit_TheBlockStartsAndIdles : State.reset.pending = [] := rfl
theorem wit_EveryStepKeeps : State.Inv State.reset ∧ ∃ t, step State.reset = .next t := ⟨⟨rfl, rfl, rfl⟩, _, rfl⟩
theorem wit_MessagesRoundTrip : okMsg.data.length = 16 * okMsg.dslots.toNat
    ∧ ({ okMsg with dslots := 18, data := List.replicate 288 0#8 } : Msg).data.length = 16 * 18 := by decide +kernel
theorem wit_RegistersTakeWrites : (∃ r, regRow Reg.PLN_WAKE_EN = some r ∧ setClrOf Reg.PLN_WAKE_EN = none ∧ PlainRow r)
    ∧ (regRow 0x1001FFF0 = none ∧ setClrOf 0x1001FFF0 = none) :=
  ⟨⟨_, rfl, by decide +kernel, by unfold PlainRow NoEffectRow; decide⟩, by decide +kernel⟩
theorem wit_NoEventIsLost : ∃ r, regRow Reg.BTR_MERGED = some r ∧ setClrOf Reg.BTR_MERGED = none ∧ r.rc = true ∧ r.base ≠ Reg.MIC_CLAIM 0 :=
  ⟨_, rfl, by decide +kernel, rfl, by decide⟩

/-- A _HI value that master 0 has written is held. -/
def held : State := { State.reset with bus := { State.reset.bus with hiHold := [(halfKey 0 Reg.PLN_TIMER_LO, 5#32)] } }

theorem wit_HalvesStayTogether : ∃ r r', regRow Reg.PLN_TIMER_LO = some r ∧ regRow (Reg.PLN_TIMER_LO + 4) = some r' ∧ r.half = 1 ∧ r'.half = 2
    ∧ r.rc = false ∧ r'.rc = false ∧ setClrOf Reg.PLN_TIMER_LO = none ∧ setClrOf (Reg.PLN_TIMER_LO + 4) = none
    ∧ r.base ≠ Reg.MIC_CLAIM 0 ∧ r'.base ≠ Reg.MIC_CLAIM 0 ∧ r.rw = 0xFFFFFFFF ∧ r'.rw = 0xFFFFFFFF ∧ r.w1s = 0 ∧ r'.w1s = 0
    ∧ NoEffectRow r ∧ NoEffectRow r' ∧ tget held.bus.hiHold (halfKey 0 Reg.PLN_TIMER_LO) = some 5#32 :=
  ⟨_, _, rfl, rfl, rfl, rfl, rfl, rfl, by decide +kernel, by decide +kernel, by decide, by decide, rfl, rfl, rfl, rfl,
    by unfold NoEffectRow; decide, by unfold NoEffectRow; decide, rfl⟩

theorem wit_CoresReachSramPoolAndDies : (State.reset.bus.held = false ∧ sizeOk 8 = true ∧ sramBytes - 8 + 8 ≤ sramBytes)
    ∧ (inRange 0 romBytes 0x40000 1 = false ∧ inRange sramBase sramBytes 0x40000 1 = false ∧ inBlocks 0x40000 1 = false
      ∧ inDies 0x40000 1 = false ∧ inRange poolBase (2 ^ 42) 0x40000 1 = false)
    ∧ (2880 * 2 ^ 30 - 8 < 2880 * 2 ^ 30 ∧ (2880 * 2 ^ 30 - 8) % 8 = 0 ∧ Clean State.reset ∧ PlainExtent State.reset (2880 * 2 ^ 30 - 8)
      ∧ (sealDie State.reset (dieOf (2880 * 2 ^ 30 - 8))).selfRefresh = false)
    ∧ 2880 * 2 ^ 30 < 2 ^ 42 :=
  ⟨by decide, by decide, ⟨by decide, by decide, clean_reset, plain_reset _, by decide +kernel⟩, by decide⟩
theorem wit_VoussoirWindow : ∃ r, regRow (0x20000000 + 0x1000000 * 5 + 0x300008) = some r ∧ setClrOf (0x20000000 + 0x1000000 * 5 + 0x300008) = none
    ∧ (sealDie State.reset 5).linkLost = false ∧ r.rc = false ∧ r.half = 0 ∧ r.base ≠ Reg.MIC_CLAIM 0 :=
  ⟨_, rfl, by decide +kernel, rfl, rfl, rfl, by decide⟩

/-- A word of the SRAM that core 1 has reserved. -/
def reserved : State := { State.reset with bus := { State.reset.bus with reserved := [(1, 16)] } }

theorem wit_AtomicsActOnSramOnly : reserved.bus.held = false ∧ 16 + 8 ≤ sramBytes ∧ 16 % 8 = 0 ∧ tget reserved.bus.reserved 1 = some 16
    ∧ tget State.reset.bus.reserved 1 ≠ some 16 ∧ inRange sramBase sramBytes (sramBase - 4) 4 = false := by decide

/-- Sources 40 and 41 are pending for core 2 with PRIO 1 and 3. -/
def pendingTwo : State :=
  { State.reset with mic := { State.reset.mic with level := BitVec.ofNat 512 (3 * 2 ^ 40) }
                     regs := [(Reg.MIC_TGT 2 1, 0x300#32), (Reg.MIC_PRIO 40, 1#32), (Reg.MIC_PRIO 41, 3#32)] }

theorem wit_ClaimTakesTheBestSource : micDeliverable pendingTwo 2 41 = true
    ∧ (∀ y, y < 512 → micDeliverable pendingTwo 2 y = true → rf pendingTwo (Reg.MIC_PRIO y) 2 0 < rf pendingTwo (Reg.MIC_PRIO 41) 2 0
      ∨ (rf pendingTwo (Reg.MIC_PRIO y) 2 0 = rf pendingTwo (Reg.MIC_PRIO 41) 2 0 ∧ 41 ≤ y))
    ∧ (∀ x, x < 512 → micDeliverable State.reset 2 x = false) := by decide +kernel

theorem wit_CompletionCoalescingAndLevels :
    (let s : State := { pendingTwo with mic := { pendingTwo.mic with claim := [(41, 2)] }, regs := [(Reg.MIC_PRIO 41, 0x103#32)] }
     tget s.mic.claim (0x229#32).toNat = none ∧ tget s.mic.claim ((0x229#32).toNat % 512) = some 2 ∧ rf s (Reg.MIC_PRIO 41) 15 8 ≠ 0)
    ∧ (let s : State := { pendingTwo with mic := { pendingTwo.mic with hold := [(41, 0)] } }
       tget s.mic.hold 41 = some 0 ∧ now s ≤ 0 ∧ micPending s 41 = true ∧ bit (rg s (Reg.MIC_TGT 2 (41 / 32))) (41 % 32) = true
       ∧ tget s.mic.claim 41 = none ∧ rf s (Reg.MIC_THRESH 2) 2 0 < rf s (Reg.MIC_PRIO 41) 2 0)
    ∧ micReserved 191 = true ∧ micReserved 184 = false := by decide +kernel

/-- An error of severity 1, and a record of it. -/
def ecc : ErrIn := { cls := 0x01, unit := 1, inst := 2, location := 3, detail := 4, tenant := none, during := none }
def eccRec : BtrRec :=
  { seq := 1, cls := 0x01, severity := 1, secondary := false, injected := false, secClass := 0, unit := 1, inst := 2, count := 1, firstTime := 0
    lastTime := 0, location := 3, detail := 4, secCount := 0, tenant := none }
def recorded : State := { State.reset with btr := { State.reset.btr with recs := [(1, eccRec)] } }

theorem wit_ErrorsMergeOpenOrOverflow : btrSeverity ecc.cls = some 1 ∧ ecc.cls ≠ 0x16 ∧ ecc.during = none ∧ inSafe recorded = false
    ∧ btrMatch recorded ecc = some 1
    ∧ (btrMatch recorded { ecc with inst := 9 } = none ∧ tget recorded.btr.recs 2 = none ∧ ∀ j, j < 2 → 1 ≤ j → tget recorded.btr.recs j ≠ none)
    ∧ (let s : State := { recorded with btr := { recorded.btr with recs := (List.range' 1 254).map (fun k => (k, eccRec)) } }
       btrMatch s { ecc with inst := 9 } = none ∧ ∀ k, k < 255 → 1 ≤ k → tget s.btr.recs k ≠ none)
    ∧ tget recorded.btr.recs 1 = some eccRec := by decide +kernel

/-- Two fatal errors. -/
def fatalA : ErrIn := { cls := 0x02, unit := 1, inst := 2, location := 3, detail := 4, tenant := none, during := none }

theorem wit_FatalCausesFormOneRecord : ∃ c, btrSeverity c = some 3 ∧ (let a := { fatalA with cls := c }; let b := { a with inst := 3 }
    a.unit < 256 ∧ (a.unit < b.unit ∨ (a.unit = b.unit ∧ a.inst < b.inst)) ∧ inSafe State.reset = false ∧ tget State.reset.btr.recs 0 = none) :=
  ⟨0x20, by decide +kernel⟩

/-- The module in the fatal safe state, with its cores held. -/
def inSafety : State :=
  { State.reset with regs := [(Reg.PLN_SAFE, 1#32)], bus := { State.reset.bus with held := true } }

theorem wit_CoresRestartAndRecordsClose : (inSafe inSafety = true ∧ inSafety.bus.held = true)
    ∧ (let s : State := { State.reset with regs := [(Reg.BTR_CTL, 0x64010000#32)] }
       rf s Reg.BTR_CTL 16 16 = 1 ∧ s.bus.held = false ∧ inSafe s = false)
    ∧ tget recorded.btr.recs ((0x101#32).toNat % 256) = some eccRec ∧ tget recorded.btr.recs ((0x102#32).toNat % 256) = none
    ∧ (btrSeverity ((0x80020101#32).toNat % 256) = some 1 ∧ (0x80020101#32).toNat / 2 ^ 31 = 1 ∧ inSafe State.reset = false
      ∧ tget State.reset.btr.recs 1 = none ∧ (∀ j, j < 1 → 1 ≤ j → tget State.reset.btr.recs j ≠ none))
    ∧ (0x00020101#32).toNat / 2 ^ 31 = 0 ∧ btrSeverity ((0x800000FF#32).toNat % 256) = none := by decide +kernel

/-- A client, its certificate, and a module that is READY with port 0 up and one anchor. -/
def hello0 : DtlsHello :=
  { port := 0, udp := 0x25BC, suite := true, group := true, scheme := true, chain := [{ der := [1#8], notBefore := 0, notAfter := 0 }] }
def readyUp : State :=
  { State.reset with regs := [(Reg.PLN_BOOT, 5#32), (Reg.MBX_CTL, 0x1E25BC#32), (Reg.ETH_STAT 0, 2#32)]
                     boot := { Boot.reset with anchors := [(0, [2#8])] } }

theorem wit_AssociationsJoin (h : Config.chainLeadsTo [[1#8]] [2#8] = true) :
    Admitted readyUp hello0 ∧ session readyUp 0 = none
    ∧ (let s : State := { readyUp with mbx := { Mailbox.reset with sessions := [(0, { client with identity := clientIdentity hello0 })] } }
       Admitted s hello0
       ∧ s.mbx.sessions.find? (fun e => e.1 != 8 && e.2.identity == clientIdentity hello0) = some (0, { client with identity := clientIdentity hello0 })) := by
  have h5 : bootStage readyUp = 5 := by decide +kernel
  have hl : ethUp readyUp hello0.port = true := by decide +kernel
  have hu : hello0.udp = rf readyUp Reg.MBX_CTL 15 0 := by decide +kernel
  have a : ∀ m : Mailbox, Admitted { readyUp with mbx := m } hello0 := fun m =>
    { ready := h5, link := hl, udp := hu, suite := rfl
      chain := by simp only [chainAdmitted, hello0, readyUp, List.map, List.any, h]; rfl }
  exact ⟨a Mailbox.reset, rfl, a _, by simp⟩

/-- Eight sessions with an identity that no client has. -/
def fullHouse : State := { readyUp with mbx := { Mailbox.reset with sessions := (List.range 8).map (fun k => (k, { client with identity := [] })) } }

theorem wit_AssociationsTurnedAway (h : Config.chainLeadsTo [[1#8]] [2#8] = true) :
    Admitted fullHouse hello0 ∧ (∀ j, j < 8 → session fullHouse j ≠ none)
    ∧ fullHouse.mbx.sessions.find? (fun e => e.1 != 8 && e.2.identity == clientIdentity hello0) = none := by
  refine ⟨{ ready := by decide +kernel, link := by decide +kernel, udp := by decide +kernel, suite := rfl
            chain := by simp only [chainAdmitted, hello0, fullHouse, readyUp, List.map, List.any, h]; rfl }, by decide, ?_⟩
  have : (clientIdentity hello0).length = 48 := by simp [clientIdentity, hello0]
  have ne : (clientIdentity hello0).isEmpty = false := by cases e : clientIdentity hello0 with
    | nil => rw [e] at this; cases this
    | cons => rfl
  simp [fullHouse, client, List.find?, List.range, List.range.loop, ne]

theorem wit_AssociationsBad : bootStage readyUp = 5 ∧ ethUp readyUp hello0.port = true ∧ hello0.udp = rf readyUp Reg.MBX_CTL 15 0
    ∧ (hello0.suite && hello0.group && hello0.scheme) = true ∧ chainAdmitted readyUp { hello0 with chain := [] } = false
    ∧ (let a : AssocRec := { net := 1, port := 4, identity := [7#8], anchor := 0, seen := 0 }
       let s : State := { State.reset with mbx := { Mailbox.reset with refusing := [(a, 5)] } }
       s.mbx.refusing.find? (fun r => r.1.net == 1 && r.1.identity == [7#8]) = some (a, 5)) := by decide +kernel

/-- OWN_QUERY with TAG 9, as a frame. -/
def queryFrame : List Byte := leBytes 8 (1 + 2 ^ 16 * 0x0104 + 2 ^ 32 * 9) ++ leBytes 8 0

theorem wit_CommandFramesAreQueuedOnce : LeaseRuns owned ∧ session owned 0 = some client ∧ NewFrame owned 0 client queryFrame
    ∧ (∃ sh, GoodFrame sh queryFrame) ∧ NewFrame owned 0 client (leBytes 8 2 ++ leBytes 8 0) ∧ bits (leAt (leBytes 8 2 ++ leBytes 8 0) 0 8) 7 0 ≠ 1 :=
  ⟨Or.inr (by decide), rfl, ⟨by decide, rfl, rfl, rfl⟩, ⟨_, ⟨by decide +kernel, rfl, by decide +kernel, by decide +kernel, by decide +kernel, by decide +kernel⟩⟩,
    ⟨by decide, rfl, rfl, rfl⟩, by decide +kernel⟩

/-- A session with 16 queued commands, and one that has answered OWN_QUERY with TAG 9. -/
def busy : Session := { client with queue := List.replicate 16 { slot := 0, opcode := 0x0104, tag := 8#32, body := [], arrived := 0 } }
def answered : Session := { client with replies := [{ opcode := 0x0104, tag := 9#32, status := 0, final := true, body := [] }] }
def withSession (se : Session) : State := { owned with mbx := { owned.mbx with sessions := [(0, se)] } }

theorem wit_CommandFramesAgain : (16 ≤ busy.queue.length ∧ NewFrame (withSession busy) 0 busy queryFrame)
    ∧ answered.replies.find? (fun r => r.tag == frameTag queryFrame) = some { opcode := 0x0104, tag := 9#32, status := 0, final := true, body := [] }
    ∧ (let b := leBytes 8 (1 + 2 ^ 16 * 0x0104 + 2 ^ 32 * 8) ++ leBytes 8 0
       busy.replies.find? (fun r => r.tag == frameTag b) = none ∧ busy.queue.any (fun f => f.tag == frameTag b) = true) :=
  ⟨⟨by decide, ⟨by decide, rfl, by decide +kernel, rfl⟩⟩, by decide +kernel⟩

theorem wit_CommandHead : (let f : Frame := { slot := 0, opcode := 0x0103, tag := 1#32, body := [], arrived := 0 }
    let s : State := { owned with mbx := { owned.mbx with change := [f] } }
    s.mbx.current = none ∧ s.xlt.fenceWait = [] ∧ s.twin.replies = [] ∧ mayNot s f.slot f.opcode = none ∧ mayNot s 1 f.opcode = some (stNOT_OWNER, [])) := by
  decide +kernel

theorem wit_CommandsNeedTheirRight : (restricted (.standby 1 7#32) = some (1, 0x0905, 7#32) ∧ owned.mbx.owner ≠ some 1 ∧ inSafe owned = false
      ∧ owned.mbx.deferred = [] ∧ owned.twin.replies = [] ∧ owned.twin.handing = false)
    ∧ (restricted (.twinPromote 0 7#32) = some (0, 0x0512, 7#32) ∧ isWitness owned 0 = false
      ∧ (shapeOf 0x0512).map (fun h => h.who) = some .witness ∧ (shapeOf 0x0905).map (fun h => h.who) = some .owner) := by decide +kernel

theorem wit_OwnershipPasses : MayRun State.reset 3 0x0101 1#32 ∧ MayRun owned 0 0x0101 1#32 ∧ MayRun owned 0 0x0102 1#32 ∧ MayRun owned 0 0x0103 1#32
    ∧ MayRun owned 0 0x0105 1#32 ∧ arrivalOf owned 0 1#32 < owned.mbx.expires ∧ session owned 7 = none
    ∧ session { owned with mbx := { owned.mbx with sessions := [(0, client), (7, client)] } } 7 ≠ none :=
  ⟨mayRun_of _ _ _ _ (Or.inl rfl) rfl (by decide +kernel), mayRun_owned _ _ (by decide +kernel), mayRun_owned _ _ (by decide +kernel),
    mayRun_owned _ _ (by decide +kernel), mayRun_owned _ _ (by decide +kernel), by decide +kernel, rfl, by decide⟩

theorem wit_SessionCommandsAnswer : MayRun owned 0 0x0104 1#32 ∧ MayRun owned 0 0x0106 1#32 ∧ MayRun owned 0 0x0107 1#32 ∧ MayRun owned 0 0x0108 1#32
    ∧ owned.mbx.owner ≠ some 1 ∧ inSafe owned = false
    ∧ (let s : State := { owned with mbx := { owned.mbx with sessions := [(0, client), (7, client)] } }
       MayRun s 0 0x0107 1#32 ∧ session s 7 ≠ none) :=
  ⟨mayRun_owned _ _ (by decide +kernel), mayRun_owned _ _ (by decide +kernel), mayRun_owned _ _ (by decide +kernel), mayRun_owned _ _ (by decide +kernel),
    by decide, by decide +kernel, mayRun_of _ _ _ _ (Or.inr (by decide)) rfl (by decide +kernel), by decide⟩

theorem wit_SessionsAndLeasesEnd : (let a : AssocRec := { net := 0, port := 0, identity := [1#8], anchor := 0, seen := 0 }
    let se : Session := { client with assocs := [a, { a with net := 1 }] }
    se.assocs.find? (fun a => a.net == 0) = some a ∧ se.assocs.filter (fun b => b.net != 0) ≠ []
      ∧ ({ client with assocs := [a] } : Session).assocs.filter (fun b => b.net != 0) = [])
    ∧ owned.mbx.owner = some 0 ∧ renewWaits owned = false
    ∧ (let f : Frame := { slot := 0, opcode := 0x0102, tag := 1#32, body := [], arrived := 0 }
       renewWaits { owned with mbx := { owned.mbx with change := [f] } } = true) := by decide +kernel

theorem wit_RegistersAndCounters : (∃ r, regRow (BitVec.ofNat 64 Reg.BTR_MERGED).toNat = some r ∧ r.rc = true ∧ r.base ≠ Reg.MIC_CLAIM 0
      ∧ setClrOf (BitVec.ofNat 64 Reg.BTR_MERGED).toNat = none)
    ∧ MayRun owned 0 0x0602 1#32 ∧ MayRun owned 0 0x0804 1#32 ∧ MayRun owned 0 0x0603 1#32 ∧ MayRun owned 0 0x0601 1#32
    ∧ (∃ r, regRow Reg.PLN_WAKE_EN = some r ∧ r.named = false ∧ PlainRow r) ∧ (∃ r, regRow Reg.PWR_LIMIT = some r ∧ r.named = true)
    ∧ 0 < telemetryCount 2 ∧ 5 < telemetryCount 5 ∧ Clean owned ∧ owned.bus.held = false ∧ tsortedFrom owned.regs 0 = true
    ∧ (let s : State := { owned with mem := [(resPpa 0 5 (2 ^ 29 + 2048) + 8, 1#8)] }
       leAt (memRead s.mem (resPpa 0 5 (2 ^ 29 + 1 % 262144 * 2048)) 2048) 8 8 = 1) :=
  ⟨⟨_, rfl, rfl, by decide, by decide +kernel⟩, mayRun_owned _ _ (by decide +kernel), mayRun_owned _ _ (by decide +kernel), mayRun_owned _ _ (by decide +kernel),
    mayRun_owned _ _ (by decide +kernel), ⟨_, rfl, rfl, by unfold PlainRow NoEffectRow; decide⟩, ⟨_, rfl, rfl⟩, by decide, by decide,
    clean_of _ rfl (by decide), rfl, rfl, by decide +kernel⟩

/-- Tenant 3 of class 7 on the owned module; extents 16 and 17 are READY and its own. -/
def ready16 : ExtRec := { st := exREADY, holder := 3, prio := 0, coherent := false, mirrored := false, mapcount := 0 }
def pool : State :=
  { owned with regs := [(Reg.XLT_TN_CFG 3, 0x80000701#32)], xlt := { Xlt.reset with ext := [(16, ready16), (17, ready16)] } }

theorem mayRun_pool (op : Nat) (tag : Word32) (h : (mayNot pool 0 op).isNone = true) : MayRun pool 0 op tag :=
  mayRun_of pool 0 op tag (Or.inr (by decide)) rfl h
theorem alone_pool : Alone pool := ⟨by decide, by decide⟩
theorem room_pool : DeferRoom pool := by show (0 : Nat) < 64; decide
theorem free_fence (s : State) (h : s.xlt.fences = []) : FreeFence s 0 where
  room := by simp [fenceRoom, h]
  small := by decide
  free := by simp [h]
  lowest := by intro g hg; omega

theorem wit_ExtentsAllocated : MayRun pool 0 0x0201 1#32 ∧ Alone pool ∧ DeferRoom pool ∧ allocBad 3#64 0x700#64 2#64 1#64 [] = false
    ∧ tenantExists pool 3 = true ∧ atPrio 0x700 ≤ tenantClass pool 3 ∧ isolated pool 3 = false
    ∧ 2 + rg pool (Reg.XLT_FLOOR (atPrio 0x700)) ≤ eligible0 pool 0x700 1 []
    ∧ (allocBad 3#64 0#64 0#64 0#64 [18#64, 479#64] = false ∧ ∀ e, e ∈ allocPick pool 0 0 0 [18, 479] → migrating pool e = false ∧ freeExt pool e = true)
    ∧ (let s : State := { pool with regs := [(Reg.XLT_FLOOR 0, 3000#32), (Reg.XLT_TN_CFG 3, 0x80000701#32)] }
       eligible0 s 0 1 [] < 2 + rg s (Reg.XLT_FLOOR (atPrio 0))) :=
  ⟨mayRun_pool _ _ (by decide +kernel), alone_pool, room_pool, by decide +kernel⟩

theorem wit_ZeroFill : (let s : State := { pool with xlt := { pool.xlt with filling := [(0, [18, 19])] } }
    reservedExt 18 = false ∧ inSafe s = false ∧ tgetD s.xlt.filling (18 / 480) [] = 18 :: [19]) := by decide +kernel

theorem wit_ExtentsReleased : MayRun pool 0 0x0202 1#32 ∧ MayRun pool 0 0x0203 1#32 ∧ MayRun pool 0 0x0204 1#32
    ∧ ((extRec pool 16).st = exREADY ∧ (extRec pool 16).mapcount = 0 ∧ migrating pool 16 = false ∧ fenced pool 16 = false)
    ∧ attrBars pool 0x700 0x700 16 = none ∧ onlyBits 0x700#64 0x10703 = true
    ∧ fenced { pool with xlt := { pool.xlt with fences := [(0, { extents := [16], cause := 0, opened := 0 })] } } 16 = true
    ∧ [16, 2879, 7].find? (fun e => (releaseBars pool e).isSome) = some 7 :=
  ⟨mayRun_pool _ _ (by decide +kernel), mayRun_pool _ _ (by decide +kernel), mayRun_pool _ _ (by decide +kernel), by decide +kernel⟩

/-- Slot 5 of tenant 3 maps extent 16. -/
def mapped : State := { pool with xlt := { pool.xlt with views := [(3 * 2 ^ 18 + 5, BitVec.ofNat 64 (viewWord 16 3))] } }

theorem wit_ViewsMap : MayRun pool 0 0x0205 1#32 ∧ tenantExists pool 3 = true ∧ bit (3#64).toNat 4 = false
    ∧ (∀ x, x ∈ List.range' 16 1 → (extRec pool x).st = exREADY ∧ migrating pool x = false ∧ (∀ w, w ∈ mappers pool x → w.1 ≠ 3)
        ∧ (extRec pool x).coherent = (extRec pool 16).coherent ∧ (extRec pool x).mirrored = (extRec pool 16).mirrored ∧ isolated pool 3 = false)
    ∧ (∀ x, x ∈ List.range' (2 ^ 18 - 1) 1 → veValid (viewEnt pool 3 x) = false) :=
  ⟨mayRun_pool _ _ (by decide +kernel), by decide +kernel⟩

theorem wit_ViewsUnmap : MayRun mapped 0 0x0206 1#32 ∧ MayRun mapped 0 0x0207 1#32 ∧ FreeFence mapped 0 ∧ veValid (viewEnt mapped 3 5) = true
    ∧ (∀ x, x ∈ pageExtents (viewEnt mapped 3 5) → migrating mapped x = false)
    ∧ fenceRoom { mapped with xlt := { mapped.xlt with fences := (List.range 64).map (fun f => (f, { extents := [20], cause := 0, opened := 0 })) } } = false
    ∧ 261888 + 256 ≤ 262144 :=
  ⟨mayRun_of _ _ _ _ (Or.inr (by decide)) rfl (by decide +kernel), mayRun_of _ _ _ _ (Or.inr (by decide)) rfl (by decide +kernel),
    free_fence _ rfl, by decide +kernel⟩

theorem wit_FenceComplete : (let s : State := { pool with xlt := { pool.xlt with
      ext := [(16, { ready16 with st := exDRAINING })], fences := [(0, { extents := [16], cause := 0, opened := 0 })] } }
    tget s.xlt.fences 0 = some { extents := [16], cause := 0, opened := 0 } ∧ inSafe s = false ∧ tileUses s [16] = false
    ∧ NoneWait s [16] ∧ (extRec s 16).st = exDRAINING) :=
  ⟨rfl, by decide +kernel, by decide +kernel, ⟨rfl, rfl, (by intro q h; cases h), (by intro w h; cases h)⟩, rfl⟩

/-- Window 4095 of tenant 3 is valid and covers extent 16. -/
def windowed : State :=
  { pool with regs := [(Reg.XLT_TN_CFG 3, 0x80000701#32), (Reg.XLT_WIN_CTL 4095, 0x10301#32), (Reg.XLT_WIN_BASE_HI 4095, 4#32)] }

theorem wit_WindowsAreSet : MayRun pool 0 0x0208 1#32 ∧ windowBad 4095#64 0x10309#64 16#64 0#64 = false ∧ tenantExists pool (bits 0x10309 15 8) = true
    ∧ (∀ e, e ∈ newCover 0x10309 16 → e < 2880 ∧ reservedExt e = false ∧ (extRec pool e).st = exREADY ∧ migrating pool e = false)
    ∧ winCounted pool 4095 = [] ∧ bit (winCtl pool 4095) 0 = false ∧ isolated pool (bits 0x10309 15 8) = false :=
  ⟨mayRun_pool _ _ (by decide +kernel), by decide +kernel⟩
theorem wit_WindowsAreCleared : MayRun windowed 0 0x0209 1#32 ∧ MayRun windowed 0 0x0208 1#32 ∧ FreeFence windowed 0
    ∧ bit (winCtl windowed 4095) 0 = true ∧ winExtents windowed 4095 = [16] ∧ (winExtents windowed 4095).Nodup
    ∧ (∀ e, e ∈ winCounted windowed 4095 → migrating windowed e = false) :=
  ⟨mayRun_of _ _ _ _ (Or.inr (by decide)) rfl (by decide +kernel), mayRun_of _ _ _ _ (Or.inr (by decide)) rfl (by decide +kernel),
    free_fence _ rfl, by decide +kernel⟩

theorem wit_MigrationStarts : MayRun pool 0 0x020A 1#32 ∧ DeferRoom pool ∧ reservedExt 16 = false ∧ reservedExt 2879 = false
    ∧ (extRec pool 16).coherent = false ∧ (extRec pool 16).mirrored = false ∧ (extRec pool 16).st = exREADY ∧ freeExt pool 2879 = true
    ∧ migrating pool 16 = false ∧ migrating pool 2879 = false ∧ inWindow pool 16 = false ∧ mappers pool 16 = [] :=
  ⟨mayRun_pool _ _ (by decide +kernel), room_pool, by decide +kernel⟩

/-- Extent 16 migrates to 2879, with 5,000 dirty pages in pass 1. -/
def moving (g : Migration) (fs : Tab Fence) : State := { pool with xlt := { pool.xlt with migrations := [(16, g)], fences := fs } }
def firstPass : Migration := { dest := 2879, pass := 1, dirty := [], switching := none }

theorem wit_MigrationPass : tget (moving firstPass []).xlt.migrations 16 = some firstPass ∧ inSafe (moving firstPass []) = false
    ∧ FenceWait.migrationSwitch 16 ∉ (moving firstPass []).xlt.fenceWait ∧ firstPass.dirty.length ≤ rf (moving firstPass []) Reg.XLT_MIG_CTL 27 12
    ∧ FreeFence (moving firstPass []) 0
    ∧ rf pool Reg.XLT_MIG_CTL 27 12 < (List.range 5000).length ∧ 1 < rf pool Reg.XLT_MIG_CTL 11 8 ∧ rf pool Reg.XLT_MIG_CTL 11 8 ≤ 4 :=
  ⟨rfl, by decide +kernel, by decide, by decide +kernel, free_fence _ rfl, by decide +kernel⟩
theorem wit_MigrationSwitch : (let g := { firstPass with switching := some 0 }; let s := moving g [(0, { extents := [16], cause := 2, opened := 0 })]
    tget s.xlt.migrations 16 = some g ∧ switchFence s 16 = some 0 ∧ NoneWait s [16] ∧ g.dest ≠ 16 ∧ reservedExt g.dest = false
    ∧ tileUses s [16] = false ∧ inSafe s = false ∧ now s ≤ 0 + rf s Reg.XLT_MIG_CTL 7 0 * 1000) :=
  ⟨rfl, by decide, ⟨rfl, rfl, (by intro q h; cases h), (by intro w h; cases h)⟩, by decide +kernel⟩

theorem wit_TenantsFloorsAndGates : (MayRun pool 0 0x0301 1#32 ∧ MayRun pool 0 0x0302 1#32 ∧ MayRun pool 0 0x0303 1#32 ∧ MayRun pool 0 0x0304 1#32
      ∧ MayRun pool 0 0x0312 1#32 ∧ MayRun pool 0 0x0305 1#32)
    ∧ (tenantExists pool 255 = false ∧ isolated pool 3 = ((0#64).toNat == 1) ∧ isolated pool 3 ≠ ((1#64).toNat == 1) ∧ 0 < heldExtents pool 3)
    ∧ (let s : State := { pool with xlt := Xlt.reset }
       tenantExists s 3 = true ∧ heldExtents s 3 = 0 ∧ heldViews s 3 = 0 ∧ heldWindows s 3 = 0 ∧ heldContexts s 3 = 0 ∧ heldQps s 3 = 0 ∧ heldLintels s 3 = 0)
    ∧ falling [2832, 9, 9, 3, 2, 1, 0, 0] = true ∧ (faultsOf pool 3).length ≤ 16
    ∧ (onlyBits 0x441#64 0xFF7F = true ∧ 4 ≤ bits 0x441 15 8 ∧ onlyBits 0x203004E2#64 0x3FFFFFFF = true
      ∧ (([0x203004E2#64].filter (fun w => bit w.toNat 29)).map (fun w => bits w.toNat 19 0 * 8)).foldl (· + ·) 0 = 10000
      ∧ 2000 * bits 0x441 15 8 ≤ bits (0x203004E2#64).toNat 19 0 * 8 ∧ isolatedTenants pool = []) :=
  ⟨⟨mayRun_pool _ _ (by decide +kernel), mayRun_pool _ _ (by decide +kernel), mayRun_pool _ _ (by decide +kernel), mayRun_pool _ _ (by decide +kernel),
    mayRun_pool _ _ (by decide +kernel), mayRun_pool _ _ (by decide +kernel)⟩, by decide +kernel⟩

/-- A fault record of tenant 3, a context of tenant 3, and the same context parked. -/
def fault1 : FaultRec :=
  { seq := 1, tenant := 3, slot := 5, viawin := false, winnum := false, cause := 1, need := 1, have_ := 0, waiters := 1, hits := 1, first := 0
    last := 0, firstContext := 0, firstSource := 0, firstAddr := 0, reported := false }
def ctx0 : Ctx :=
  { tenant := 3, prio := 0, gangMax := 1, diemask := 0x3F, ringLog := 4, ring := 0, st := cxIDLE, cause := 0, head := 0, tail := 0, pend := false
    run := none, next := none, park := none, busyRetry := false, retryAt := none, reserved := [], gangAt := 0, stealAt := none, stealDone := false
    tailWatch := none, waitWatch := none, refused := [], limit := none, served := 0, overrun := false }
def parked : Ctx := { ctx0 with st := cxSUSPENDED, park := some { records := [], unrecorded := true, raw := [], bulk := none, again := false } }
def faulted : State :=
  { pool with xlt := { pool.xlt with faults := [(3, (List.range 17).map (fun k => (k, { fault1 with seq := k + 1 })))], unrecorded := [(4, [9])] }
              sched := { Sched.reset with ctxs := [(9, parked)] } }

theorem wit_FaultsAreRead : MayRun faulted 0 0x0310 1#32 ∧ faulted.mbx.owner = some 0 ∧ faulted.mbx.owner ≠ some 1 ∧ tenantExists faulted 3 = true
    ∧ ({ pool with xlt := faulted.xlt } : State).sched.ctxs = [] ∧ MayRun { pool with xlt := faulted.xlt } 0 0x0311 1#32
    ∧ onlyBits 0x1100000003#64 0xFFFFFFFF000001FF = true
    ∧ (faultsOf faulted (bits 0x1100000003 7 0)).find? (fun e => e.2.seq == bits 0x1100000003 63 32) = some (16, { fault1 with seq := 17 })
    ∧ (faultsOf faulted (bits 0x1200000003 7 0)).find? (fun e => e.2.seq == bits 0x1200000003 63 32) = none ∧ 16 < (faultsOf faulted 3).length :=
  ⟨mayRun_of _ _ _ _ (Or.inr (by decide)) rfl (by decide +kernel), rfl, by decide, by decide +kernel, rfl,
    mayRun_of _ _ _ _ (Or.inr (by decide)) rfl (by decide +kernel), by decide +kernel⟩
theorem wit_UnrecordedAndGates : (tgetD faulted.xlt.unrecorded 4 [] = 9 :: [] ∧ (faultsOf faulted 4).length < rf faulted (Reg.XLT_FQ_CFG 4) 14 0
      ∧ inSafe faulted = false ∧ ctxAt faulted 9 = some parked ∧ parked.st = cxSUSPENDED)
    ∧ (let s : State := { pool with regs := [(Reg.XLT_GATE_CTL, 0x441#32)], sched := { Sched.reset with gateEnd := 10000 } }
       rf s Reg.XLT_GATE_CTL 6 6 = 1 ∧ now s < s.sched.gateEnd ∧ gated s 0 = true ∧ bit s.sched.guard 0 = false) := by decide +kernel

/-- Slot 5 of tenant 3 maps extent 16 with every permission. -/
def full5 : State := { pool with xlt := { pool.xlt with views := [(3 * 2 ^ 18 + 5, BitVec.ofNat 64 (viewWord 16 15))] } }
/-- A ring in that extent, its context, and one with a descriptor to accept. -/
def ring5 : Nat := 5 * 2 ^ 30 + 0x100000
def ctxR : Ctx := { ctx0 with ring := ring5 }
def ctxA : Ctx := { ctxR with st := cxREADY, tail := 2 }
def withCtx (s : State) (c : Ctx) : State := { s with sched := { s.sched with ctxs := [(9, c)] } }
theorem mayRun_sim (s : State) (op : Nat) (tag : Word32) (h0 : s.mbx = owned.mbx) (h1 : s.tb = owned.tb) (h2 : s.twin.replies = [])
    (h : (mayNot s 0 op).isNone = true) : MayRun s 0 op tag :=
  mayRun_of s 0 op tag (Or.inr (by rw [h0, now, h1]; decide)) h2 h
theorem alone_sim (s : State) (h : s.twin = owned.twin) : Alone s := by
  have := alone_owned; exact ⟨by rw [h]; exact this.1, by rw [h]; exact this.2⟩

def createRun : State := { full5 with regs := [(Reg.XLT_TN_CFG 3, 0x80000701#32), (Reg.XLT_TN_LIMITS 3, 1#32)] }
def stoppedC : Ctx := { ctxR with st := cxSTOPPED }
def drainC : Ctx := { ctxR with st := cxDRAINING }

theorem wit_ContextCreate : MayRun full5 0 0x0320 1#32 ∧ Alone full5 ∧ onlyBits 0x140100000#64 0xFFFFFFFFF000 = true
    ∧ onlyBits 0x013F0004#64 0x0F3F071F = true ∧ tenantExists full5 3 = true ∧ ringPageOk full5 3 0x140100000 4 = true
    ∧ diesBad full5 3 0x3F = false ∧ ctxAt full5 9 = none
    ∧ (MayRun createRun 0 0x0320 1#32 ∧ Alone createRun ∧ tenantExists createRun 3 = true ∧ ringPageOk createRun 3 0x140100000 4 = true
      ∧ diesBad createRun 3 0x3F = false ∧ ctxAt createRun 9 = none ∧ heldContexts createRun 3 < rf createRun (Reg.XLT_TN_LIMITS 3) 14 0 ∧ freeWatchNo createRun ≠ none ∧ bulkOfCtx createRun 9 = [])
    ∧ rf full5 (Reg.XLT_TN_LIMITS 3) 14 0 ≤ heldContexts full5 3 :=
  ⟨mayRun_sim _ _ _ rfl rfl rfl (by decide +kernel), alone_sim _ rfl, by decide +kernel, by decide +kernel, by decide +kernel, by decide +kernel,
    by decide +kernel, by decide +kernel, ⟨mayRun_sim _ _ _ rfl rfl rfl (by decide +kernel), alone_sim _ rfl, by decide +kernel⟩, by decide +kernel⟩
theorem wit_ContextDestroy : MayRun (withCtx full5 ctxR) 0 0x0321 1#32 ∧ Alone (withCtx full5 ctxR) ∧ DeferRoom (withCtx full5 ctxR)
    ∧ ctxAt (withCtx full5 ctxR) 9 = some ctxR ∧ ctxR.st ≠ cxDRAINING
    ∧ (ringRead (dequeue (withCtx full5 ctxR) 0 1#32) ctxR (ctxR.ring + 0x80) 8).2 ≠ .blocked :=
  ⟨mayRun_sim _ _ _ rfl rfl rfl (by decide +kernel), alone_sim _ rfl, room_pool, by decide +kernel⟩
theorem wit_ContextDrainDone : ctxAt (withCtx full5 drainC) 9 = some drainC ∧ drainC.run = none ∧ bulkOfCtx (withCtx full5 drainC) 9 = []
    ∧ drainC.drainTo ≤ drainC.head ∧ (∀ d, d ∈ (withCtx full5 drainC).mbx.deferred → isCreate 9 d.wait = false) := by decide +kernel
theorem wit_ContextRestart : MayRun (withCtx full5 stoppedC) 0 0x0323 1#32 ∧ Alone (withCtx full5 stoppedC)
    ∧ ctxAt (withCtx full5 stoppedC) 9 = some stoppedC ∧ stoppedC.run = none ∧ stoppedC.limit = none ∧ stoppedC.head = stoppedC.tail
    ∧ bulkOfCtx (withCtx full5 stoppedC) 9 = []
    ∧ (ringRead (dequeue (withCtx full5 stoppedC) 0 1#32) stoppedC (stoppedC.ring + 0x80) 8).2 = .ok (List.replicate 8 0#8) 0
    ∧ leNat (List.replicate 8 0#8) ≤ stoppedC.tail :=
  ⟨mayRun_sim _ _ _ rfl rfl rfl (by decide +kernel), alone_sim _ rfl, by decide +kernel⟩

/-- A STREAM descriptor that copies 512 elements of FP32 within extent 16, with its signal word there too, on one course; a WAIT; and
a run of the copy from shadow 7. -/
def recordB (a kind role mode fmt : Nat) : List Byte := leBytes 8 (a + 2 ^ 52 * kind + 2 ^ 54 * role + 2 ^ 56 * mode + 2 ^ 59 * fmt) ++ leBytes 8 0
def copyB : List Byte :=
  leBytes 8 (0x20 + 2 ^ 8 * 2 + 2 ^ 12 * 1) ++ leBytes 8 512 ++ leBytes 8 0 ++ leBytes 8 (5 * 2 ^ 30 + 8) ++ leBytes 8 1 ++ leBytes 8 0 ++ leBytes 8 0
    ++ leBytes 8 0 ++ recordB (5 * 2 ^ 30 + 0x10000) 0 0 0 0 ++ recordB (5 * 2 ^ 30 + 0x20000) 0 1 0 0 ++ List.replicate 160 0#8
def jobR : Job :=
  { shadow := 7, desc := 0, nextTile := 0, flight := [], tiles := 0, above := [], landed := [], asked := [], lost := false, fail := none
    held := false, recheck := false, acks := 0, phase := 0 }
def runR : Run :=
  { raw := copyB, job := jobR, prog := some [], bcast := some [], accesses := 0, lateAcc := 0, flushed := 0, oob := 0, waiting := false
    members := [], dispatched := 0, stop := 0 }
def entR : ShEntry := { rd := true, wr := true, atom := true, coh := false, mir := false, viawin := false, extent := 16, srcUnit := 5, epoch := 0 }
def shadowR : Shadow :=
  { context := 9, tenant := 3, course := true, entries := [entR, entR, entR], sigIdx := 2, held := false, era := 0, accepted := 0, origin := 0
    operands := [(0, 1), (1, 1)] }
/-- The context runs the copy on course 0; the same with the copy waiting for a course. -/
def ctxOn : Ctx := { ctxA with st := cxRUNNING, run := some { runR with members := [0] } }
def ctxOff : Ctx := { ctxA with run := some runR }
def running : State := withCtx { full5 with xlt := { full5.xlt with shadows := [(7, shadowR)] } } ctxOn
def waiting : State := withCtx { full5 with xlt := { full5.xlt with shadows := [(7, shadowR)] } } ctxOff
def suspC : Ctx := { ctxR with st := cxSUSPENDED }

theorem wit_ContextSuspendResume :
    (MayRun (withCtx full5 ctxR) 0 0x0324 1#32 ∧ Alone (withCtx full5 ctxR) ∧ DeferRoom (withCtx full5 ctxR) ∧ ctxAt (withCtx full5 ctxR) 9 = some ctxR
      ∧ ctxR.st < cxSUSPENDED ∧ (∀ d, d ∈ (withCtx full5 ctxR).mbx.deferred → d.wait ≠ .contextSuspend 9)
      ∧ ctxR.run = none ∧ session (withCtx full5 ctxR) 0 ≠ none ∧ (withCtx full5 ctxR).twin.replies = [])
    ∧ (MayRun running 0 0x0324 1#32 ∧ Alone running ∧ ctxAt running 9 = some ctxOn ∧ ctxOn.st < cxSUSPENDED
      ∧ ctxOn.run = some { runR with members := [0] } ∧ runR.stop = 0)
    ∧ (MayRun (withCtx full5 suspC) 0 0x0325 1#32 ∧ Alone (withCtx full5 suspC) ∧ ctxAt (withCtx full5 suspC) 9 = some suspC ∧ suspC.park = none) :=
  ⟨⟨mayRun_sim _ _ _ rfl rfl rfl (by decide +kernel), alone_sim _ rfl, room_pool, by decide +kernel⟩,
    ⟨mayRun_sim _ _ _ rfl rfl rfl (by decide +kernel), alone_sim _ rfl, by decide +kernel⟩,
    ⟨mayRun_sim _ _ _ rfl rfl rfl (by decide +kernel), alone_sim _ rfl, by decide +kernel⟩⟩
theorem wit_ContextSetAndQuery : MayRun running 0 0x0326 1#32 ∧ Alone running ∧ MayRun running 0 0x0322 1#32 ∧ MayRun running 0 0x0327 1#32
    ∧ onlyBits 0x0C3F0700#64 0x0F3F071F = true ∧ isolated running ctxOn.tenant = false ∧ ctxOn.prio < 8 ∧ ctxOn.diemask < 64 ∧ ctxOn.gangMax < 16
    ∧ (0x0F3F0700#64).toNat = 0x0F3F0700 ∧ (0x0700#64).toNat = 0x0700 :=
  ⟨mayRun_sim _ _ _ rfl rfl rfl (by decide +kernel), alone_sim _ rfl, mayRun_sim _ _ _ rfl rfl rfl (by decide +kernel),
    mayRun_sim _ _ _ rfl rfl rfl (by decide +kernel), by decide +kernel⟩
def courseWait : State :=
  { withCtx full5 ctxR with sched := { (withCtx full5 ctxR).sched with draining := 2 ^ 11 }
                            mbx := { owned.mbx with deferred := [{ slot := 0, opcode := 0x0328, tag := 1#32, wait := .courseSet (2 ^ 11) 0 0 }] } }
theorem wit_CourseSet : MayRun running 0 0x0328 1#32 ∧ Alone running ∧ DeferRoom running ∧ (1#64).toNat = 2 ^ 0 ∧ (0x800#64).toNat = 2 ^ 11
    ∧ onlyBits 0x800#64 0xFFF = true ∧ running.sched.draining = 0 ∧ (∀ d, d ∈ running.mbx.deferred → ∀ a b c, d.wait ≠ .courseSet a b c)
    ∧ (bit (0x800#64).toNat 11 = true ∧ courseRuns running 11 = false) ∧ (bit (0x800#64).toNat 0 = false ∧ courseRuns running 0 = true)
    ∧ (courseRuns courseWait 11 = false ∧ session courseWait 0 ≠ none ∧ courseWait.twin.replies = []) :=
  ⟨mayRun_sim _ _ _ rfl rfl rfl (by decide +kernel), alone_sim _ rfl, room_pool, by decide, by decide, by decide +kernel, by decide,
    (by intro d h; cases h), by decide +kernel⟩

/-- The descriptor in the ring's first slot. -/
def inRing : State := { full5 with mem := memWrite [] (16 * 2 ^ 30 + 0x100100) copyB }
def acceptC : State := withCtx { inRing with regs := [(Reg.XLT_TN_CFG 3, 0x80000701#32), (Reg.XLT_TN_ADMITLIM 3, 64#32)] } ctxA
def errorC : State := { acceptC with mem := [] }
def ctxRetry : Ctx := { ctxA with retryAt := some 5000, busyRetry := true }
def retryC : State := { errorC with sched := { errorC.sched with ctxs := [(9, ctxRetry)] } }
theorem wit_DescriptorAccept : (Acceptable acceptC 9 ctxA ∧ ctxA.retryAt = none ∧ ctxA.busyRetry = false
      ∧ (ringRead acceptC ctxA (slotAddr ctxA 0) 256).2 = .ok copyB 0 ∧ (courseOf copyB).error ctxA.gangMax (isolated acceptC 3) = false
      ∧ (courseOf copyB).isStream = true ∧ unitsBad (courseOf copyB).units = false
      ∧ (let d := (xlDesc 3 (portCoord acceptC 0) acceptC (courseOf copyB).units).2
         d.window = false ∧ d.faults = [] ∧ (courseOf copyB).overlaps d.entries ((courseOf copyB).shadowFields (placeFields 0 d.fields)) = false))
    ∧ (Acceptable errorC 9 ctxA ∧ (ringRead errorC ctxA (slotAddr ctxA 0) 256).2 = .ok (List.replicate 256 0#8) 0
      ∧ (courseOf (List.replicate 256 0#8)).error ctxA.gangMax (isolated errorC 3) = true)
    ∧ (Acceptable retryC 9 ctxRetry ∧ (ringRead (reach retryC 5000) ctxRetry (slotAddr ctxRetry 0) 256).2 = .ok (List.replicate 256 0#8) 0
      ∧ (let u := (ringRead (reach retryC 5000) ctxRetry (slotAddr ctxRetry 0) 256).1
         (headerPut (setCtx u 9 { ctxRetry with busyRetry := false, retryAt := none }) 9 { ctxRetry with busyRetry := false, retryAt := none } 0x08
           (leBytes 16 0)).2 = false)) := by
  have a : ∀ s c, ctxAt s 9 = some c → c = ctxA ∨ c = ctxRetry → paused s c = false → admitBar s 3 = none → s.sched.posts = [] → Acceptable s 9 c := by
    intro s c h hc hp hb hq
    rcases hc with rfl | rfl <;> exact ⟨h, rfl, hp, rfl, rfl, rfl, rfl, by decide, hb, hq⟩
  exact ⟨⟨a _ _ (by decide +kernel) (Or.inl rfl) (by decide +kernel) (by decide +kernel) rfl, by decide +kernel⟩,
    ⟨a _ _ (by decide +kernel) (Or.inl rfl) (by decide +kernel) (by decide +kernel) rfl, by decide +kernel⟩,
    ⟨a _ _ (by decide +kernel) (Or.inr rfl) (by decide +kernel) (by decide +kernel) rfl, by decide +kernel⟩⟩

def stealC : Ctx := { ctxOff with stealAt := some 1000, stealDone := false }
def gangC : Ctx := { ctxOff with reserved := [0, 1], gangAt := 500 }
def stealing : State := { waiting with sched := { waiting.sched with ctxs := [(9, stealC)] } }
def ganged : State := { waiting with sched := { waiting.sched with ctxs := [(9, gangC)] } }
/-- The course of another context with a better priority. -/
def rivalC : Ctx := { ctxOff with prio := 7 }
def beaten : State := { waiting with sched := { waiting.sched with ctxs := [(9, ctxOff), (10, rivalC)] } }
/-- No course is enabled. -/
def noCourse : State := { waiting with regs := (List.range 6).flatMap (fun n => [(Reg.CRS_CTL n 0, 0#32), (Reg.CRS_CTL n 1, 0#32)]) }
def stopR : Run := { runR with members := [0], stop := 1 }
def stopping : State := { running with sched := { running.sched with ctxs := [(9, { ctxOn with run := some stopR })] } }

theorem wit_CourseDispatch :
    (waiting = settle (startWait (flushPosts waiting 9) 9) 9 ∧ Startable waiting 9 ctxOff runR ∧ startable waiting 9 ctxOff runR = true
      ∧ inSafe waiting = false ∧ pickCourses waiting 9 ctxOff runR = some [0] ∧ isChoice waiting 9 ctxOff = true)
    ∧ (beaten = settle (startWait (flushPosts beaten 9) 9) 9 ∧ Startable beaten 9 ctxOff runR ∧ startable beaten 9 ctxOff runR = true
      ∧ inSafe beaten = false ∧ pickCourses beaten 9 ctxOff runR = some [0] ∧ isChoice beaten 9 ctxOff = false)
    ∧ (noCourse = settle (startWait (flushPosts noCourse 9) 9) 9 ∧ Startable noCourse 9 ctxOff runR ∧ startable noCourse 9 ctxOff runR = true
      ∧ inSafe noCourse = false ∧ pickCourses noCourse 9 ctxOff runR = none ∧ newReserve noCourse 9 ctxOff runR = []
      ∧ (courseOf runR.raw).gang ≤ 1 ∧ ctxOff.stealAt = none) := by
  have a : ∀ s, ctxAt s 9 = some ctxOff → entriesFresh s 7 (List.range (shadowAt s 7).entries.length) = true → Startable s 9 ctxOff runR :=
    fun s h e => ⟨h, rfl, e, by decide +kernel, by decide +kernel⟩
  exact ⟨⟨by rfl, a _ (by decide +kernel) (by decide +kernel), by decide +kernel⟩,
    ⟨by rfl, a _ (by decide +kernel) (by decide +kernel), by decide +kernel⟩,
    ⟨by rfl, a _ (by decide +kernel) (by decide +kernel), by decide +kernel⟩⟩

theorem wit_StealAndGang :
    (let u := settle (startWait (flushPosts (setCtx (reach stealing (1000 + rf stealing Reg.XLT_SCHED_CTL 27 20 * 1000)) 9 { stealC with stealDone := true }) 9) 9) 9
     ctxAt stealing 9 = some stealC ∧ stealC.stealAt = some 1000 ∧ (∃ c, Startable u 9 c runR ∧ startable u 9 c runR = true ∧ inSafe u = false
        ∧ pickCourses u 9 c runR = some [0] ∧ isChoice u 9 c = true))
    ∧ (Startable ganged 9 gangC runR ∧ gangC.reserved ≠ [] ∧ gangC.st = cxREADY) :=
  ⟨⟨by decide +kernel, rfl, { stealC with stealDone := true }, ⟨by decide +kernel, rfl, by decide +kernel, by decide +kernel, by decide +kernel⟩, by decide +kernel⟩,
    ⟨by decide +kernel, rfl, by decide +kernel, by decide +kernel, by decide +kernel⟩, by decide +kernel⟩

theorem wit_QuantumAndPreempt : (ctxAt waiting 9 = some ctxOff ∧ ctxOff.run = some runR ∧ (courseOf runR.raw).isStream = true ∧ runR.job.nextTile = 0)
    ∧ (ctxAt running 9 = some ctxOn ∧ ctxOn.run = some { runR with members := [0] } ∧ ({ runR with members := [0] } : Run).stop = 0)
    ∧ (ctxAt stopping 9 = some { ctxOn with run := some stopR } ∧ stopR.stop = 1 ∧ stopR.job.flight = [] ∧ stopR.job.fail = none
      ∧ stopR.job.nextTile < (courseOf stopR.raw).tiles ∧ inSafe stopping = false ∧ stopR.job.phase = 0 ∧ stopR.waiting = false) := by decide +kernel

/-- A FILL of 64 bytes in extent 16, and its job with shadow 8. -/
def fillB : List Byte :=
  leBytes 8 (0x11 + 2 ^ 16 * 9) ++ leBytes 8 0 ++ leBytes 8 (5 * 2 ^ 30 + 0x40000) ++ leBytes 8 0 ++ leBytes 8 64 ++ leBytes 8 (5 * 2 ^ 30 + 16)
    ++ leBytes 8 1 ++ leBytes 8 0x0102030405060708
def fillJ : BulkJob := { context := 9, src := 0, raw := fillB, job := { jobR with shadow := 8 } }
def shadowF : Shadow := { shadowR with course := false, entries := [entR, entR], sigIdx := 1, operands := [(0, 0), (0, 1)] }
def filling : State :=
  { withCtx { full5 with xlt := { full5.xlt with shadows := [(8, shadowF)] } } ctxR with sched := { Sched.reset with ctxs := [(9, ctxR)], bulk := [fillJ] } }

theorem wit_TileStart :
    (ctxAt running 9 = some ctxOn ∧ inSafe running = false ∧ paused running ctxOn = false ∧ runR.job.fail = none ∧ runR.job.held = false
      ∧ capOpen running = true ∧ running.twin.st = 0 ∧ runR.job.flight = [] ∧ (∀ n, n ∈ [0] → dieOpen running 3 (n / 2) = true)
      ∧ (List.range 1).filter (fun m => decide (0 + m < (courseOf runR.raw).tiles)) = [0]
      ∧ entriesFresh running 7 ([0].flatMap (fun m => (courseOf runR.raw).tileEntries (shadowAt running 7) (0 + m))) = true)
    ∧ (ctxAt filling 9 = some ctxR ∧ inSafe filling = false ∧ paused filling ctxR = false ∧ ctxR.run = none ∧ ctxR.st ≠ cxSUSPENDED
      ∧ filling.sched.bulk = [fillJ] ∧ (bulkOf fillB).op = 0x11 ∧ (0, 64) = (bulkOf fillB).span 0 ∧ 0 < (bulkOf fillB).tiles
      ∧ ((bulkOf fillB).dstOpd (shadowAt filling 8)).segs (shadowAt filling 8) 0 64 = [(16 * 2 ^ 30 + 0x40000, 64)] ∧ (bulkOf fillB).dstKind < 2
      ∧ (∀ n, n < 6 → dieOpen filling 3 n = true)
      ∧ entriesFresh filling 8 (((bulkOf fillB).dstOpd (shadowAt filling 8)).entriesOf 0 64) = true
      ∧ (∀ e, e ∈ (shadowAt filling 8).entries → e.extent < 2880) ∧ (∀ e, e ∈ filling.sched.ctxs → e.2.run = none)) := by decide +kernel
theorem clean_pool (s : State) (hd : s.dram = Dram.reset) (hr : ∀ e ∈ s.regs, e.1 < 0x20000000) : Clean s := clean_of s (by rw [hd]) hr
theorem wit_TileStartStore : Clean filling ∧ PlainExtent filling (16 * 2 ^ 30 + 0x40000) :=
  ⟨clean_pool _ rfl (by decide), ⟨by decide +kernel, by decide +kernel, by decide +kernel⟩⟩

def tileR : Tile := { num := 0, member := 0, out := some [], poison := false, placed := true, mirrored := false, left := 0, want := 0, got := 0 }
def flown : State := { running with sched := { running.sched with ctxs := [(9, { ctxOn with run := some { runR with members := [0], job := { jobR with flight := [tileR], nextTile := 1 } } })] } }
def flownF : State := { filling with sched := { filling.sched with bulk := [{ fillJ with job := { fillJ.job with flight := [tileR], nextTile := 1 } }] } }
theorem wit_TileEnd : (inSafe flown = false ∧ tileR.out ≠ none ∧ tileR.placed = true ∧ tileR.left = 0 ∧ tileR.got = tileR.want ∧ tileR.mirrored = false
      ∧ mirroring flown = false ∧ flown.sched.bulk = [])
    ∧ (inSafe flownF = false ∧ mirroring flownF = false ∧ flownF.sched.ctxs = [(9, ctxR)]) := by decide +kernel

def endedF : State :=
  { filling with sched := { filling.sched with ctxs := [(9, { ctxR with tail := 1 })], bulk := [{ fillJ with job := { fillJ.job with nextTile := 1 } }] } }
def endedR : Run := { runR with members := [0], job := { jobR with nextTile := 1, tiles := 1 } }
def endedC : Ctx := { ctxOn with run := some endedR }
def ended : State := { running with sched := { running.sched with ctxs := [(9, endedC)] } }
def endedC1 : Ctx := { endedC with head := 1, run := some { endedR with job := { endedR.job with phase := 1, acks := 0 } } }
def ended1 : State := (writeRecord ended endedC 7 0 (recordBytes endedR.outcome.1 endedR.outcome.2 endedR.job.tiles 0 0)).2
theorem wit_DescriptorComplete :
    (inSafe endedF = false ∧ endedF.sched.posts = [] ∧ paused endedF { ctxR with tail := 1 } = false ∧ (bulkOf fillB).tiles ≤ 1 ∧ endedF.twin.st = 0
      ∧ (bulkOf fillB).signal % 8 = 0 ∧ tget endedF.xlt.shadows 8 = some shadowF ∧ shadowF.entries[shadowF.sigIdx]? = some entR
      ∧ entR.epoch = epochOf endedF entR.extent ∧ shadowF.era = endedF.xlt.era
      ∧ ppaOf entR.extent ((bulkOf fillB).signal % 2 ^ 30) = 16 * 2 ^ 30 + 16 ∧ (bulkOf fillB).signalAdd ≠ 0 ∧ (bulkOf fillB).signalAdd < 2 ^ 64)
    ∧ (ctxAt ended 9 = some endedC ∧ inSafe ended = false ∧ ended.sched.posts = [] ∧ endedC.next = none ∧ endedC.park = none ∧ ended.sched.bulk = []
      ∧ endedR.job.finished (courseOf endedR.raw).steps = true ∧ paused ended endedC = false ∧ endedC.st = cxRUNNING ∧ endedR.job.phase = 0
      ∧ endedR.outcome.1 < 2 ∧ endedR.stop = 0 ∧ endedC.overrun = false ∧ endedC.head + 1 < endedC.tail ∧ endedC.waitWatch = none)
    ∧ (writeRecord ended endedC 7 0 (recordBytes endedR.outcome.1 endedR.outcome.2 endedR.job.tiles 0 0)).1 = some (some 0)
    ∧ (let v := advance (setCtx ended1 9 endedC1) 9 endedC1 7 (courseOf copyB).signal (courseOf copyB).signalAdd 0 false
       v.2 = .done ∧ ctxAt ended1 9 = some endedC ∧ ctxAt v.1 9 = some endedC1 ∧ v.1.sched.bulk = []) := by decide +kernel
theorem wit_DescriptorCompleteStore : Clean endedF ∧ PlainExtent endedF (16 * 2 ^ 30 + 16) :=
  ⟨clean_pool _ rfl (by decide), ⟨by decide +kernel, by decide +kernel, by decide +kernel⟩⟩

/-- A message with a bulk descriptor, and a module that has its coordinate. -/
def msgF : Msg := { okMsg with opcode := 0x0B, dslots := 4, data := fillB }
def coordS (s : State) : State := { s with fab := { s.fab with coord := some (1, 0) } }
def bulkS : State := coordS (withCtx { full5 with regs := [(Reg.XLT_TN_CFG 3, 0x80000701#32), (Reg.XLT_TN_ADMITLIM 3, 64#32)] } ctxR)
def drainS : State := withCtx inRing { stoppedC with tail := 1, limit := some 1 }
def heldC : Ctx := { ctxOn with run := some { runR with members := [0], job := { jobR with held := true } } }
def heldS : State := { running with sched := { running.sched with ctxs := [(9, heldC)] } }
theorem fresh_of (s : State) (op : Nat) (m : Msg) (h : (s.fab.coord.isNone || inSafe s || m.retry || (tget s.fab.inProgress (reqKey m)).isSome
    || storeFull s || malformed { m with opcode := BitVec.ofNat 8 op }) = false) : Fresh s op m := by
  simp only [Bool.or_eq_false_iff] at h
  obtain ⟨⟨⟨⟨⟨h1, h2⟩, h3⟩, h4⟩, h5⟩, h6⟩ := h
  exact ⟨h1, h2, h3, by simpa using h4, h5, h6⟩
theorem wit_DrainBulkHeld :
    (ctxAt drainS 9 = some { stoppedC with tail := 1, limit := some 1 } ∧ cxSTOPPED ≤ stoppedC.st ∧ inSafe drainS = false ∧ drainS.sched.posts = []
      ∧ drainS.sched.bulk = [] ∧ (0 < ({ stoppedC with tail := 1, limit := some 1 } : Ctx).drainTo)
      ∧ (drainSlot drainS 9 { stoppedC with tail := 1, limit := some 1 }).1 = true)
    ∧ Fresh bulkS 0x0B msgF ∧ 9 = (bulkOf (slice msgF.data 0 64)).context ∧ ctxAt bulkS 9 = some ctxR ∧ ctxR.st < cxSTOPPED ∧ bulkS.twin.st = 0
    ∧ admitBar bulkS 3 = none ∧ (bulkOf (slice msgF.data 0 64)).error = false ∧ unitsBad (bulkOf (slice msgF.data 0 64)).units = false
    ∧ (let d := (xlDesc 3 0 (setCtx (takeMsg bulkS 0 msgF) 9 ctxR) (bulkOf (slice msgF.data 0 64)).units).2; d.window = false ∧ d.faults = [])
    ∧ (let s := { bulkS with regs := [(Reg.XLT_TN_CFG 3, 0x80000701#32)] }; Fresh s 0x0B msgF ∧ ctxAt s 9 = some ctxR ∧ admitBar s 3 = some 3)
    ∧ (heldS.sched.ctxs = [(9, heldC)] ∧ heldS.sched.bulk = [] ∧ tget heldS.xlt.shadows 7 = some shadowR ∧ shadowR.era = heldS.xlt.era
      ∧ (∀ e, e ∈ shadowR.entries → staleEntry heldS e = false) ∧ shadowR.entries.length = (entryNeeds (courseOf copyB).units).length) :=
  ⟨by decide +kernel, fresh_of _ _ _ (by decide +kernel), by decide +kernel, by decide +kernel, by decide, by decide, by decide +kernel, by decide +kernel,
    by decide +kernel, by decide +kernel, ⟨fresh_of _ _ _ (by decide +kernel), by decide +kernel, by decide +kernel⟩, by decide +kernel⟩

/-- WATCH_ARM of a time by context 9, and watch entry 4. -/
def armM : Msg := { okMsg with opcode := 0x0D, xf := 9#4, dslots := 2, context := 9, arg := 1000000#64, data := List.replicate 32 0#8 }
def disarmM : Msg := { okMsg with opcode := 0x0E, context := 9, arg := 4#64 }
def watch4 : WatchEnt :=
  { time := true, action := 1, persist := false, tenant := 3, context := 9, tag := 0, word := 0, target := 1000000, dest := 0, coord := 0, amount := 0
    seq := 0, extent := 0, epoch := 0, ppa := 0, order := 0, byArm := true }
def watchS (limit : Word32) (ws : Tab WatchEnt) : State :=
  let s := coordS (withCtx { full5 with regs := [(Reg.XLT_TN_CFG 3, 0x80000701#32), (Reg.XLT_TN_LIMITS 3, limit)] } ctxR)
  { s with sig := { s.sig with watches := ws } }
/-- A watch of a word at the front of extent 16, and the notice of it. -/
def wordW : WatchEnt := { watch4 with time := false, extent := 16, ppa := 16 * 2 ^ 30, target := 5 }
def noticeS (v : Nat) : State :=
  let s := watchS 0x1FFFF#32 [(4, wordW)]
  { s with sig := { s.sig with notices := [{ line := 2 ^ 27, value := some (16 * 2 ^ 30, v) }] } }

theorem wit_Watches :
    (let s := watchS 0x1FFFF#32 []; Fresh s 0x0D armM ∧ ctxTenant s armM.context.toNat = some 3 ∧ armedBy s none < 32768
      ∧ armedBy s (some 3) < rf s (Reg.XLT_TN_LIMITS 3) 30 15 ∧ freeWatchNo s = some 0)
    ∧ (let s := watchS 0x7FFF#32 []; Fresh s 0x0D armM ∧ ctxTenant s armM.context.toNat = some 3
      ∧ rf s (Reg.XLT_TN_LIMITS 3) 30 15 ≤ armedBy s (some 3))
    ∧ (let s := watchS 0x1FFFF#32 [(4, watch4)]; Fresh s 0x0E disarmM ∧ ctxTenant s disarmM.context.toNat = some 3 ∧ bits disarmM.arg.toNat 15 0 = 4
      ∧ tget s.sig.watches 4 = some watch4 ∧ watch4.tag = bits disarmM.arg.toNat 63 32 ∧ inHold s = false)
    ∧ (let s := watchS 0x1FFFF#32 []; Fresh s 0x0E disarmM ∧ tget s.sig.watches 4 = none)
    ∧ (let s := { watchS 0x1FFFF#32 [(4, watch4)] with regs := [(Reg.XLT_TN_CFG 3, 0x80000701#32), (Reg.PWR_STAT, 0x40#32)] }
       inHold s = true ∧ tget s.sig.watches 4 = some watch4 ∧ watch4.time = true ∧ watch4.action = 1)
    ∧ ((noticeS 5).sig.notices = [{ line := 2 ^ 27, value := some (wordW.ppa, 5) }] ∧ wordW.ppa / 128 = 2 ^ 27
      ∧ (extRec (noticeS 5) (extOf (2 ^ 27 * 128))).coherent = false ∧ wordW.target ≤ 5)
    ∧ ((noticeS 4).sig.notices = [{ line := 2 ^ 27, value := some (wordW.ppa, 4) }] ∧ (extRec (noticeS 4) (extOf (2 ^ 27 * 128))).coherent = false
      ∧ 4 < wordW.target) :=
  ⟨⟨fresh_of _ _ _ (by decide +kernel), by decide +kernel⟩, ⟨fresh_of _ _ _ (by decide +kernel), by decide +kernel⟩,
    ⟨fresh_of _ _ _ (by decide +kernel), by decide +kernel⟩, ⟨fresh_of _ _ _ (by decide +kernel), by decide +kernel⟩, by decide +kernel⟩
theorem wit_WatchQuery : MayRun pool 0 0x0344 1#32 ∧ tenantExists pool (3#64).toNat = true := ⟨mayRun_pool _ _ (by decide +kernel), by decide +kernel⟩
/-- A lintel of two participants of job 0, the ranks of the job, and an arrival of participant 0 at generation g. -/
def lin0 : Lintel :=
  { job := 0, participants := 2, tenant := 3, mode := 2, twinned := false, relSignal := 0, relAddr := 0, tag := 0, cur := 6, countCur := 0, countNext := 0
    broken := 0 }
def arriveM (g : Nat) : Msg := { okMsg with opcode := 0x0F, src := 7, arg := BitVec.ofNat 64 (g * 2 ^ 32 + 9) }
def linS (ls : Tab Lintel) : State :=
  let s := coordS { pool with regs := [(Reg.XLT_TN_CFG 3, 0x80000701#32), (Reg.FPT_RJOB 0 0, 0x80002000#32), (Reg.FPT_RANK 0 0 0, 0x80000007#32)] }
  { s with sig := { s.sig with lintels := ls } }
theorem wit_Arrive :
    (let s := linS [(9, lin0)]; lintel s 9 = some lin0 ∧ bit lin0.mode 0 = false ∧ bits (arriveM 6).arg.toNat 11 0 = 9
      ∧ bits (arriveM 6).arg.toNat 21 12 < lin0.participants ∧ rankCoord s 0 lin0.job (bits (arriveM 6).arg.toNat 21 12) = some (arriveM 6).src.toNat
      ∧ (Fresh s 0x0F (arriveM 6) ∧ bits (arriveM 6).arg.toNat 63 32 = lin0.cur ∧ lin0.countCur + 1 < lin0.participants)
      ∧ (Fresh s 0x0F (arriveM 7) ∧ lin0.cur < 2 ^ 32 ∧ bits (arriveM 7).arg.toNat 63 32 = (lin0.cur + 1) % 2 ^ 32)
      ∧ (Fresh s 0x0F (arriveM 5) ∧ bits (arriveM 5).arg.toNat 63 32 = (lin0.cur + 2 ^ 32 - 1) % 2 ^ 32))
    ∧ (let l := { lin0 with countCur := 1 }; let s := linS [(9, l)]; lintel s 9 = some l ∧ Fresh s 0x0F (arriveM 6)
      ∧ rankCoord s 0 l.job (bits (arriveM 6).arg.toNat 21 12) = some (arriveM 6).src.toNat ∧ l.countCur + 1 = l.participants ∧ l.countNext < l.participants)
    ∧ (let s := linS []; Fresh s 0x0F (arriveM 6) ∧ lintel s (bits (arriveM 6).arg.toNat 11 0) = none) :=
  ⟨⟨by decide +kernel, by decide +kernel, by decide +kernel, by decide +kernel, by decide +kernel, ⟨fresh_of _ _ _ (by decide +kernel), by decide +kernel⟩,
      ⟨fresh_of _ _ _ (by decide +kernel), by decide +kernel⟩, ⟨fresh_of _ _ _ (by decide +kernel), by decide +kernel⟩⟩,
    ⟨by decide +kernel, fresh_of _ _ _ (by decide +kernel), by decide +kernel⟩, ⟨fresh_of _ _ _ (by decide +kernel), by decide +kernel⟩⟩
theorem wit_LintelCommands (ls : Tab Lintel) (h : ls = [] ∨ ls = [(9, lin0)]) : MayRun (linS ls) 0 0x0340 1#32 ∧ MayRun (linS ls) 0 0x0341 1#32 ∧ MayRun (linS ls) 0 0x0342 1#32
    ∧ MayRun (linS ls) 0 0x0343 1#32 ∧ Alone (linS ls)
    ∧ onlyBits 0x4060080#64 0xFFFFFFF = true ∧ bits (0x4060080#64).toNat 16 6 = 2 ∧ bits (0x4060080#64).toNat 26 25 = 2
    ∧ onlyBits 0#64 0xFFFFFFFFFFFF = true ∧ tenantExists (linS ls) (bits (0x4060080#64).toNat 24 17) = true
    ∧ bit (rg (linS ls) (Reg.FPT_RJOB 0 (bits (0x4060080#64).toNat 5 0))) 31 = true
    ∧ bits (0x4060080#64).toNat 16 6 ≤ bits (rg (linS ls) (Reg.FPT_RJOB 0 (bits (0x4060080#64).toNat 5 0))) 22 12
    ∧ lintel (linS []) 9 = none ∧ lintel (linS [(9, lin0)]) 9 = some lin0 ∧ lin0.countCur = 0 ∧ lin0.countNext < lin0.participants := by
  rcases h with rfl | rfl <;>
  exact ⟨mayRun_sim _ _ _ rfl rfl rfl (by decide +kernel), mayRun_sim _ _ _ rfl rfl rfl (by decide +kernel),
    mayRun_sim _ _ _ rfl rfl rfl (by decide +kernel), mayRun_sim _ _ _ rfl rfl rfl (by decide +kernel), alone_sim _ rfl, by decide +kernel⟩

/-- Stacks whose channels all serve hold no error. -/
theorem clean_chans (s : State) (hc : ∀ e ∈ s.dram.chans, e.2.st ≠ 3 ∧ e.2.st ≠ 5) (hm : s.dram.marks = []) (hs : s.dram.stale = [])
    (hl : s.dram.losses = []) (hu : s.dram.undef = []) (hr : ∀ e ∈ s.regs, e.1 < 0x20000000) : Clean s := by
  have c0 := clean_of { State.reset with regs := s.regs } rfl hr
  refine ⟨?_, hm, hs, hl, hu, ?_, ?_⟩
  · intro n c
    have go : ∀ l : Tab Chan, (∀ e ∈ l, e.2.st ≠ 3 ∧ e.2.st ≠ 5) → ∀ d : Chan, (d.st ≠ 3 ∧ d.st ≠ 5) →
        ((tgetD l (n * 128 + c) d).st ≠ 3 ∧ (tgetD l (n * 128 + c) d).st ≠ 5) := by
      intro l
      induction l with
      | nil => intro _ d hd; simpa [tgetD, tget] using hd
      | cons e t ih =>
        obtain ⟨k, v⟩ := e
        intro h d hd
        have := h (k, v) (by simp)
        by_cases hk : n * 128 + c = k
        · simpa [tgetD, tget, hk] using this
        · have := ih (fun e he => h e (by simp [he])) d hd
          simpa [tgetD, tget, hk] using this
    have h := go s.dram.chans hc (if s.dram.trained then { Chan.init with st := 1 } else Chan.init) (by cases s.dram.trained <;> decide)
    simp only [chanDown, chan, Bool.or_eq_false_iff, beq_eq_false_iff_ne, ne_eq]
    exact h
  · intro n st; exact c0.injStk n st
  · intro n; exact c0.injSea n

/-- Channel 0 of die 0 in this state, with extent 16 READY. -/
def chanS (k : Chan) : State := { full5 with dram := { Dram.reset with trained := true, chans := [(0, k)] } }
def ch : Chan := { Chan.init with st := 1 }
def accR : Acc :=
  { write := false, input := 1, ppa := 16 * 2 ^ 30, len := 64, data := List.replicate 64 0#8, bad := List.replicate 8 0, poison := false, entered := 0, urg := 0, late := false
    issued := 0 }
theorem clean_chanS (k : Chan) (h : k.st ≠ 3 ∧ k.st ≠ 5) : Clean (chanS k) :=
  clean_chans _ (by intro e he; simp only [chanS, List.mem_singleton] at he; subst he; exact h) rfl rfl rfl rfl (by show ∀ e ∈ full5.regs, _; decide)
theorem plain_16 (s : State) (a : Nat) (he : (extRec s (extOf a)).coherent = false) (hm : (extRec s (extOf a)).mirrored = false)
    (hg : tget s.xlt.migrations (extOf a) = none) : PlainExtent s a := ⟨he, hm, hg⟩
theorem wit_ChannelQueues : chanRuns (chanS ch) 0 0 = true ∧ ch = chan (chanS ch) 0 0 ∧ accFits 0 0 1 (16 * 2 ^ 30) 64 = true ∧ Clean (chanS ch)
    ∧ PlainExtent (chanS ch) (16 * 2 ^ 30) ∧ queueRoom ch.wq 1 = true ∧ queueRoom ch.rq 1 = true ∧ capOpen (chanS ch) = true ∧ guardShut (chanS ch) 0 1 = false ∧ ch.held = []
    ∧ (∀ w, w ∈ ch.wq → w.granule ≠ 16 * 2 ^ 30 / 256)
    ∧ (let k := { ch with st := 2 }; chanRuns (chanS k) 0 0 = true ∧ k = chan (chanS k) 0 0 ∧ k.st = 2) :=
  ⟨by decide +kernel, by decide +kernel, by decide +kernel, clean_chanS _ (by decide), plain_16 _ _ (by decide +kernel) (by decide +kernel) (by decide +kernel),
    by decide +kernel⟩
def queued : Chan := { ch with rq := [accR] }
def bank0 : Bank := { row := some 1024, idle := 100, last := 0, closed := none, due := 0, acts := 80, rfm := false, hits := 0, spares := 0 }
def opened : Chan := { ch with rq := [accR], banks := [(0, bank0)] }
def inFlight : Chan := { ch with flight := [accR], banks := [(0, bank0)] }
theorem wit_ChannelServes : (chanRuns (chanS queued) 0 0 = true ∧ queued.wq = [] ∧ queued.cmds = [] ∧ queued.again = none ∧ queued.copying = none
      ∧ accR.input ≠ 7 ∧ queued.st = 1 ∧ queued.banks = [])
    ∧ (chanRuns (chanS opened) 0 0 = true ∧ opened.banks = [(accBank accR, bank0)] ∧ bank0.row = some (accRow opened accR) ∧ bank0.due < 8)
    ∧ (chanRuns (chanS inFlight) 0 0 = true ∧ unchanged (chanS inFlight) accR = true ∧ bit (rg (chanS inFlight) (Reg.STK_INJ_CTL 0 0)) 15 = false
      ∧ 0 < accR.len ∧ bit (rg (chanS inFlight) (Reg.STK_CTL 0 0)) 1 = true ∧ rf (chanS inFlight) (Reg.STK_CTL 0 0) 9 2 ≤ (bankOf (chanS inFlight) 0 0 0).acts
      ∧ (bankOf (chanS inFlight) 0 0 0).row = some 1024 ∧ (bankOf (chanS inFlight) 0 0 0).due < 8)
    ∧ (latTarget (chanS queued) 0 0 1 = 250 ∧ queued.cycle < accR.entered + (250 + 1) / 2)
    ∧ (let k := { queued with cycle := 200 }; chanRuns (chanS k) 0 0 = true ∧ accR.entered + (250 + 1) / 2 ≤ k.cycle ∧ k.cycle < accR.entered + 250) := by
  decide +kernel
theorem wit_ChannelServesClean : Clean (chanS inFlight) := clean_chanS _ (by decide)

/-- Channel 0 in TRACKING, in RETRAINING and in its rebuild. -/
def trackK (fails : Nat) : Chan := { ch with st := 2, fails := fails }
def rebuildK (held : Bool) : Chan := { ch with st := 4, trackHeld := held }
def fullSpares : Chan := { ch with banks := [(0, { bank0 with spares := 128 })] }
def copyK : Chan := { ch with copying := some (0, 5) }
theorem wit_ChannelsTrain : (chanRuns (chanS ch) 0 0 = true ∧ ch = chan (chanS ch) 0 0 ∧ ch.st = 1 ∧ stackTracks (chanS ch) 0 0 = false)
    ∧ (∀ f, f ∈ [0, 2] → chanRuns (chanS (trackK f)) 0 0 = true ∧ trackK f = chan (chanS (trackK f)) 0 0 ∧ (trackK f).st = 2 ∧ (trackK f).fails = f)
    ∧ (chanRuns (chanS { ch with st := 3 }) 0 0 = true)
    ∧ (∀ h, h ∈ [true, false] → chanRuns (chanS (rebuildK h)) 0 0 = true ∧ (rebuildK h).st = 4 ∧ (chanS (rebuildK h)).dram.sealErr = []
      ∧ (rebuildK h).trackHeld = h ∧ stackTracks (chanS (rebuildK h)) 0 0 = false)
    ∧ ((bankOf (chanS ch) 0 0 0).spares < 128 ∧ chanRuns (chanS fullSpares) 0 0 = true ∧ 128 ≤ (bankOf (chanS fullSpares) 0 0 0).spares
      ∧ chanRuns (chanS copyK) 0 0 = true ∧ copyK.copying = some (0, 5))
    ∧ (rf State.reset (Reg.STK_TEMP 0 0) 15 8 ≤ 120 ∧ 80 < rf State.reset (Reg.STK_TEMP 0 0) 15 8 ∧ 80 ≤ rf State.reset (Reg.STK_TEMP 0 0) 23 16
      ∧ 84 < rf State.reset (Reg.STK_TEMP 0 0) 15 8 ∧ rf State.reset (Reg.STK_TEMP 0 0) 23 16 < 84)
    ∧ (let s := { State.reset with regs := [(Reg.PLN_BOOT, 1#32)] }; s.dram.trained = false ∧ rf s Reg.PLN_BOOT 3 0 = 1)
    ∧ (let s := { owned with dram := { Dram.reset with trained := true, dies := [(0, { SealDie.init with selfRefresh := true })] }
                             mbx := { owned.mbx with deferred := [{ slot := 0, opcode := 0x0904, tag := 1#32, wait := .poolResume }] } }
       (sealDie s 0).selfRefresh = true ∧ s.mbx.deferred.any (fun d => d.wait == .poolResume) = true) := by decide +kernel
theorem wit_ChannelsTrainClean : Clean (chanS copyK) := clean_chanS _ (by decide)

/-- Die 0 in this state, with a page of extent 16; its deltas, lines and holds. -/
def dieS (d : SealDie) : State := { full5 with dram := { Dram.reset with trained := true, dies := [(0, d)] } }
def page0 : Nat := 16 * 2 ^ 18
def line0 : SealLine := { dirty := some 5, used := 0 }
def delta0 : Delta := { page := page0, channel := 3 }
def die0 : SealDie := { SealDie.init with deltas := [delta0] }
def die1 : SealDie := { SealDie.init with waiting := [delta0] }
/-- 64 dirty lines on the seal channel of page0. -/
def dirties : SealDie :=
  { die0 with lines := [9, 18, 27].flatMap (fun x => (List.range 31).map (fun i => (page0 + 8192 * (i + 1) + x, line0))) }
theorem clean_die (s : State) (d : SealDie) (h : s.dram = { Dram.reset with trained := true, dies := [(0, d)] }) (hr : ∀ e ∈ s.regs, e.1 < 0x20000000) : Clean s :=
  clean_chans s (by rw [h]; intro e he; cases he) (by rw [h]; rfl) (by rw [h]; rfl) (by rw [h]; rfl) (by rw [h]; rfl) hr
theorem wit_Seals : (chanDown (dieS die0) 0 (sealChan page0) = false ∧ tget (sealDie (dieS die0) 0).lines page0 = none
      ∧ dirtyOn (sealDie (dieS die0) 0) (sealChan page0) < rf (dieS die0) (Reg.SEA_CTL 0) 22 16
      ∧ ((sealDie (dieS die0) 0).lines.filter (fun e => sealSet e.1 == sealSet page0)).length < 16)
    ∧ (chanDown (dieS dirties) 0 (sealChan page0) = false ∧ tget (sealDie (dieS dirties) 0).lines page0 = none
      ∧ rf (dieS dirties) (Reg.SEA_CTL 0) 22 16 ≤ dirtyOn (sealDie (dieS dirties) 0) (sealChan page0))
    ∧ ((sealDie (dieS die1) 0).waiting = [delta0] ∧ dirtyOn (sealDie (dieS die1) 0) (sealChan page0) < rf (dieS die1) (Reg.SEA_CTL 0) 22 16)
    ∧ (let d := { SealDie.init with holds := [{ page := page0, granted := false, who := 2 }] }
       (sealDie (dieS d) 0).holds = [{ page := page0, granted := false, who := 2 }] ∧ (sealDie (dieS d) 0).deltas = [] ∧ (sealDie (dieS d) 0).waiting = [])
    ∧ (let d := { SealDie.init with lines := [(page0, line0)], holds := [{ page := page0, granted := true, who := 0 }] }
       tget (sealDie (dieS d) 0).lines page0 = some line0 ∧ heldFor (dieS d) 0 page0 0 = true) := by decide +kernel
theorem wit_SealsClean (d : SealDie) : Clean (dieS d) := clean_die _ d rfl (by show ∀ e ∈ full5.regs, _; decide)

def scrubD : SealDie := { SealDie.init with pos := 16 * 2 ^ 18 }
def scrubH : SealDie := { scrubD with holds := [{ page := page0, granted := true, who := 1 }] }
def seaErr : State := { dieS scrubH with dram := { (dieS scrubH).dram with sealErr := [(page0 * 128 + 127, 3)] } }
def replayed (cnt : Nat) : State := dieS { SealDie.init with replays := [(0, cnt), (1, cnt), (2, 0), (3, 0)] }
theorem wit_Scrub : (rf (dieS scrubD) (Reg.PNT_CTL 0) 0 0 = 1 ∧ (sealDie (dieS scrubD) 0).selfRefresh = false
      ∧ (∀ h, h ∈ (sealDie (dieS scrubD) 0).holds → h.who ≠ 1) ∧ nextScrub (dieS scrubD) 0 (sealDie (dieS scrubD) 0).pos = some (16 * 2 ^ 18))
    ∧ (page0 = 0 * 480 * 2 ^ 18 + (sealDie (dieS scrubH) 0).pos ∧ (sealDie (dieS scrubH) 0).pos + 1 < 480 * 2 ^ 18 ∧ heldFor (dieS scrubH) 0 page0 1 = true
      ∧ (dieS scrubH).dram.sealMarks = [] ∧ (dieS scrubH).dram.sealErr = [])
    ∧ ((sealDie seaErr 0).pos = 16 * 2 ^ 18 ∧ heldFor seaErr 0 page0 1 = true ∧ seaErr.dram.sealErr = [(page0 * 128 + 127, 3)])
    ∧ (∀ cnt, cnt ∈ [0, 15, 16] → inSafe (replayed cnt) = false ∧ (∀ hop, hop ∈ [0, 1] → cnt = tgetD (sealDie (replayed cnt) 0).replays hop 0
      ∧ now (replayed cnt) ≤ tgetD (sealDie (replayed cnt) 0).replays (2 + hop) 0 + 1000)) := by decide +kernel
theorem wit_ScrubClean : Clean seaErr :=
  clean_chans _ (by intro e he; cases he) rfl rfl rfl rfl (by show ∀ e ∈ full5.regs, _; decide)

theorem wit_Injection : MayRun pool 0 0x0802 1#32 ∧ popcount 8 (bits (0x40002080#32).toNat 7 0) = 1 ∧ popcount 8 (bits (0x81#32).toNat 7 0) = 2
    ∧ (popcount 8 (bits (0x7#32).toNat 7 0) ≠ 1 ∧ popcount 8 (bits (0x7#32).toNat 7 0) ≠ 2)
    ∧ (onlyBits 0x2001#64 0xBFFFFFFF = true ∧ onlyBits 0xFFFFFF#64 0xFFFFFF = true ∧ popcount 8 (bits (0x2001#64).toNat 7 0) = 1)
    ∧ (onlyBits 0xFFFF#64 0xFFFF = true ∧ onlyBits 0x7FFFFFF#64 0x7FFFFFF = true) := ⟨mayRun_pool _ _ (by decide +kernel), by decide +kernel⟩

/-- The module in the recovery mode of the safe state, with a session. -/
def recov (sr : Bool) : State :=
  { owned with regs := [(Reg.PLN_SAFE, 1#32)]
               xlt := { Xlt.reset with ext := [(16, ready16)] }
               dram := { Dram.reset with trained := true, dies := [(0, { SealDie.init with selfRefresh := sr })] } }
def tested : State :=
  { owned with mbx := { owned.mbx with deferred := [{ slot := 0, opcode := 0x0801, tag := 1#32, wait := .memtest 5 (2 ^ 127) 7 }] } }
theorem wit_PoisonAndMemtest : MayRun pool 0 0x0803 1#32 ∧ Clean pool ∧ PlainExtent pool (16 * 2 ^ 30 + 127) ∧ (extRec pool 16).st = exREADY
    ∧ PlainExtent pool (18 * 2 ^ 30) ∧ (extRec pool 18).st ≠ exREADY ∧ reservedExt 16 = false ∧ reservedExt 18 = false
    ∧ MayRun pool 0 0x0801 1#32 ∧ DeferRoom pool
    ∧ (tested.mbx.deferred = [{ slot := 0, opcode := 0x0801, tag := 1#32, wait := .memtest 5 (2 ^ 127) 7 }] ∧ tested.twin.replies = [] ∧ session tested 0 ≠ none)
    ∧ Clean tested ∧ PlainExtent tested (resPpa 5 7 0) :=
  ⟨mayRun_pool _ _ (by decide +kernel), clean_pool _ rfl (by decide), plain_16 _ _ (by decide +kernel) (by decide +kernel) (by decide +kernel), by decide +kernel,
    plain_16 _ _ (by decide +kernel) (by decide +kernel) (by decide +kernel), by decide +kernel, by decide +kernel, by decide +kernel,
    mayRun_pool _ _ (by decide +kernel), room_pool, ⟨rfl, rfl, by decide⟩, clean_pool _ rfl (by decide), plain_16 _ _ rfl rfl rfl⟩
theorem wit_RecoveryRead (sr : Bool) : MayRun (recov sr) 0 0x0805 1#32 ∧ inSafe (recov sr) = true ∧ Clean (recov sr) ∧ extOf (16 * 2 ^ 30) = 16
    ∧ extOf (16 * 2 ^ 30 + 3968 - 1) = 16 ∧ (extRec (recov sr) 16).st ≠ exFREE ∧ (extRec (recov sr) 16).st ≠ exZEROING
    ∧ (sealDie (recov sr) (dieOf (16 * 2 ^ 30))).linkLost = false ∧ (sealDie (recov sr) (dieOf (16 * 2 ^ 30))).selfRefresh = sr := by
  cases sr <;>
  exact ⟨mayRun_sim _ _ _ rfl rfl rfl (by decide +kernel), by decide +kernel,
    clean_die _ { SealDie.init with selfRefresh := _ } rfl (by decide), by decide +kernel⟩

/-- Port 0 is in MODE 2, the module has its coordinate, and memory holds 5 at the front of extent 16. -/
def reqS (coherent : Bool) : State :=
  let s := coordS pool
  { s with regs := [(Reg.XLT_TN_CFG 3, 0x80000701#32), (Reg.FPT_CTL 0, 2#32)]
           mem := [(16 * 2 ^ 30, 5#8)]
           xlt := { s.xlt with ext := [(16, { ready16 with coherent := coherent })] } }
def reqM (op dslots arg len : Nat) : Msg :=
  { okMsg with opcode := BitVec.ofNat 8 op, akind := 2, addr := BitVec.ofNat 52 (16 * 2 ^ 30), src := 7, dslots := BitVec.ofNat 5 dslots
               arg := BitVec.ofNat 64 arg, data := List.replicate len 3#8 }
theorem ppaReq_of (s : State) (k : Nat) (m : Msg) (a len : Nat) (h : m.akind = 2 ∧ portMode s k = 2 ∧ ppaOk a len = true ∧ a % 2 ^ 30 + len ≤ 2 ^ 30
    ∧ (extRec s (extOf a)).mirrored = false ∧ tget s.xlt.migrations (extOf a) = none) (hd : s.dram = Dram.reset) (hr : ∀ e ∈ s.regs, e.1 < 0x20000000) :
    PpaReq s k m a len := ⟨h.1, h.2.1, h.2.2.1, h.2.2.2.1, clean_pool s hd hr, h.2.2.2.2.1, h.2.2.2.2.2⟩

theorem wit_ReadsAndWrites : (let m := reqM 0x11 0 64 0; PpaReq (reqS false) 0 m m.addr.toNat (bits m.arg.toNat 8 0) ∧ Fresh (reqS false) 0x11 m)
    ∧ (let m := reqM 0x12 16 256 256; PpaReq (reqS false) 0 m m.addr.toNat (bits m.arg.toNat 8 0) ∧ Fresh (reqS false) 0x12 m ∧ m.poison = false)
    ∧ (let m := reqM 0x13 18 0 288; PpaReq (reqS false) 0 m (m.addr.toNat / 256 * 256) 256 ∧ Fresh (reqS false) 0x13 m)
    ∧ (let m := reqM 0x05 0 0 0; PpaReq (reqS false) 0 m (m.addr.toNat / 128 * 128) 128 ∧ Fresh (reqS false) 0x05 m)
    ∧ (let m := reqM 0x06 8 0 128; Fresh (reqS false) 0x06 m ∧ bit m.arg.toNat 17 = false)
    ∧ (let m := reqM 0x07 9 0 144; Fresh (reqS false) 0x07 m)
    ∧ (extRec (reqS false) (extOf (16 * 2 ^ 30))).coherent = false :=
  ⟨⟨ppaReq_of _ _ _ _ _ (by decide +kernel) rfl (by decide), fresh_of _ _ _ (by decide +kernel)⟩,
    ⟨ppaReq_of _ _ _ _ _ (by decide +kernel) rfl (by decide), fresh_of _ _ _ (by decide +kernel), rfl⟩,
    ⟨ppaReq_of _ _ _ _ _ (by decide +kernel) rfl (by decide), fresh_of _ _ _ (by decide +kernel)⟩,
    ⟨ppaReq_of _ _ _ _ _ (by decide +kernel) rfl (by decide), fresh_of _ _ _ (by decide +kernel)⟩,
    ⟨fresh_of _ _ _ (by decide +kernel), by decide +kernel⟩, fresh_of _ _ _ (by decide +kernel), by decide +kernel⟩
def oddM (op dslots len : Nat) : Msg := { reqM op dslots 1 len with addr := BitVec.ofNat 52 (16 * 2 ^ 30 + 4) }
theorem wit_Atomics : (let m := { reqM 0x08 1 0 16 with xf := 1#4 }; PpaReq (reqS false) 0 m m.addr.toNat 8 ∧ m.addr.toNat % 8 = 0
      ∧ (atomicResult m.xf.toNat 5 (leAt m.data 0 8) (leAt m.data 8 8)).isSome = true ∧ Fresh (reqS false) 0x08 m)
    ∧ leNat (memRead (reqS false).mem (16 * 2 ^ 30) 8) = 5
    ∧ (let m := reqM 0x09 1 5 16; Fresh (reqS false) 0x09 m ∧ 5 = m.arg.toNat) ∧ (let m := reqM 0x09 1 6 16; Fresh (reqS false) 0x09 m ∧ 5 ≠ m.arg.toNat)
    ∧ (let m := reqM 0x0C 0 5 0; Fresh (reqS false) 0x0C m ∧ m.arg ≠ 0#64)
    ∧ ((oddM 0x08 1 16).addr.toNat % 8 ≠ 0 ∧ Fresh (reqS false) 0x08 (oddM 0x08 1 16) ∧ Fresh (reqS false) 0x0C (oddM 0x0C 0 0)) :=
  ⟨⟨ppaReq_of _ _ _ _ _ (by decide +kernel) rfl (by decide), by decide +kernel, by decide +kernel, fresh_of _ _ _ (by decide +kernel)⟩, by decide +kernel,
    ⟨fresh_of _ _ _ (by decide +kernel), by decide⟩, ⟨fresh_of _ _ _ (by decide +kernel), by decide⟩, ⟨fresh_of _ _ _ (by decide +kernel), by decide⟩,
    by decide, fresh_of _ _ _ (by decide +kernel), fresh_of _ _ _ (by decide +kernel)⟩

/-- Endpoint 2 has coordinate 7 and endpoint 3 has coordinate 8; the line at the front of extent 16. -/
def hostLine : Nat := 16 * 2 ^ 23
def dirS (es : Tab DirEntry) : State := { reqS true with dirc := { (reqS true).dirc with eps := [(2, (7, 1)), (3, (8, 1))], entries := es } }
def entS (st : Nat) (ps : List Nat) : DirEntry := { st := st, ptrs := ps, coarse := 0, alloc := 0 }
theorem wit_Coherent : (let s := dirS []; PpaReq s 0 (reqM 1 0 0 0) (hostLine * 128) 128 ∧ hostLine = (reqM 1 0 0 0).addr.toNat / 128
      ∧ (extRec s (extOf (hostLine * 128))).coherent = true ∧ DirIdle s ∧ epOf s 7 = some 2 ∧ epState s 2 = 1 ∧ wantsWay s hostLine 1 = false
      ∧ dirEnt s hostLine = none ∧ Fresh s 1 (reqM 1 0 0 0) ∧ Fresh s 2 (reqM 2 0 0 0) ∧ Fresh s 4 (reqM 4 0 0 0))
    ∧ (let s := dirS [(hostLine, entS 1 [3])]; PpaReq s 0 (reqM 1 0 0 0) (hostLine * 128) 128 ∧ DirIdle s ∧ dirEnt s hostLine = some (entS 1 [3])
      ∧ Fresh s 1 (reqM 1 0 0 0) ∧ 2 ∉ (entS 1 [3]).ptrs ∧ (entS 1 [3]).ptrs.length < 4 ∧ (∀ x, x ∈ (entS 1 [3]).ptrs → epState s x = 1))
    ∧ (let s := dirS [(hostLine, entS 1 [2])]; PpaReq s 0 (reqM 3 0 0 0) (hostLine * 128) 128 ∧ DirIdle s ∧ dirEnt s hostLine = some (entS 1 [2])
      ∧ Fresh s 3 (reqM 3 0 0 0) ∧ Fresh s 0x0A (reqM 0x0A 0 0 0))
    ∧ (let s := dirS [(hostLine, entS 3 [3])]; PpaReq s 0 (reqM 2 0 0 0) (hostLine * 128) 128 ∧ DirIdle s ∧ dirEnt s hostLine = some (entS 3 [3])
      ∧ Fresh s 2 (reqM 2 0 0 0))
    ∧ (PpaReq (reqS false) 0 (reqM 1 0 0 0) (hostLine * 128) 128 ∧ (extRec (reqS false) (extOf (hostLine * 128))).coherent = false
      ∧ Fresh (reqS false) 1 (reqM 1 0 0 0)) :=
  ⟨⟨ppaReq_of _ _ _ _ _ (by decide +kernel) rfl (by decide), by decide +kernel, by decide +kernel, ⟨rfl, rfl⟩, by decide +kernel, by decide +kernel,
      by decide +kernel, by decide +kernel, fresh_of _ _ _ (by decide +kernel), fresh_of _ _ _ (by decide +kernel), fresh_of _ _ _ (by decide +kernel)⟩,
    ⟨ppaReq_of _ _ _ _ _ (by decide +kernel) rfl (by decide), ⟨rfl, rfl⟩, by decide +kernel, fresh_of _ _ _ (by decide +kernel), by decide +kernel⟩,
    ⟨ppaReq_of _ _ _ _ _ (by decide +kernel) rfl (by decide), ⟨rfl, rfl⟩, by decide +kernel, fresh_of _ _ _ (by decide +kernel), fresh_of _ _ _ (by decide +kernel)⟩,
    ⟨ppaReq_of _ _ _ _ _ (by decide +kernel) rfl (by decide), ⟨rfl, rfl⟩, by decide +kernel, fresh_of _ _ _ (by decide +kernel)⟩,
    ⟨ppaReq_of _ _ _ _ _ (by decide +kernel) rfl (by decide), by decide +kernel, fresh_of _ _ _ (by decide +kernel)⟩⟩

/-- A transaction of an agent of the module that recalls the line from endpoint 2, and one that pushed it there. -/
def recall0 : Recall := { ep := 2, line := hostLine, belief := 1, sent := 0, data := false, id := 0 }
def txn0 : Txn :=
  { line := hostLine, who := .agent true, active := true, recalls := [recall0], victim := none, served := false, poisoned := false, push := none, pushAt := 0
    pushId := 0 }
def txnS (t : Txn) (es : Tab DirEntry) : State := { dirS es with dirc := { (dirS es).dirc with txns := [t] } }
def recalling : State := txnS txn0 [(hostLine, entS 3 [2])]
def pushed : State := txnS { txn0 with recalls := [], push := some 2 } []
theorem wit_HostAnswers : (recalling.fab.coord.isNone = false ∧ inSafe recalling = false ∧ recalling.dirc.txns = [txn0] ∧ recall0.id = (reqM 0x60 0 0 0).reqid.toNat
      ∧ epCoord recalling 2 = (reqM 0x60 0 0 0).src.toNat ∧ epOf recalling 7 = some 2 ∧ epState recalling 2 = 1
      ∧ dirEnt recalling hostLine = some (entS 3 [2]) ∧ (entS 3 [2]).st ≠ 2 ∧ (reqM 0x60 0 0 0).xf.toNat = 0 ∧ (reqM 0x61 8 0 128).poison = false
      ∧ (extRec recalling (extOf (hostLine * 128))).mirrored = false ∧ tget recalling.xlt.migrations (extOf (hostLine * 128)) = none)
    ∧ (let s := dirS [(hostLine, entS 3 [2])]; s.fab.coord.isNone = false ∧ inSafe s = false ∧ dirEnt s hostLine = some (entS 3 [2]) ∧ s.dirc.txns = []
      ∧ s.dirc.heldReq = [] ∧ tget s.fab.inProgress (reqKey (reqM 0x0B 8 0 128)) = none)
    ∧ (pushed.dirc.txns = [{ txn0 with recalls := [], push := some 2 }] ∧ dirEnt pushed hostLine = none ∧ wantsWay pushed hostLine 1 = false
      ∧ epCoord pushed 2 = 7 ∧ epState pushed 2 = 1)
    ∧ (let s := txnS { txn0 with active := false, recalls := [] } []; dirEnt s hostLine = none)
    ∧ (let s := { dirS [] with dirc := { (dirS []).dirc with heldReq := [(0, .agent true, hostLine)] } }; s.dirc.txns = [] ∧ s.dirc.heldReq = [(0, .agent true, hostLine)]) := by
  decide +kernel
theorem wit_HostAnswersClean : Clean recalling ∧ PpaReq (dirS [(hostLine, entS 3 [2])]) 0 (reqM 0x0B 8 0 128) (hostLine * 128) 128 :=
  ⟨clean_pool _ rfl (by decide), ppaReq_of _ _ _ _ _ (by decide +kernel) rfl (by decide)⟩

def fails (w : Wait) : State :=
  let s := dirS []
  { s with dirc := { s.dirc with sweep := some (2, 0, 1, 1), retiring := [2] }
           mbx := { s.mbx with deferred := [{ slot := 0, opcode := (match w with | .endpointFail _ => 0x0430 | _ => 0x0432), tag := 1#32, wait := w }] } }
def failed2 : State := { dirS [] with dirc := { (dirS []).dirc with eps := [(2, (7, 2))] } }
theorem wit_Endpoints : (recall0.belief = 1 ∧ recall0.data = false ∧ epOf recalling (epCoord recalling 2) = some 2 ∧ recalling.dirc.sweep = none
      ∧ (∀ d, d ∈ recalling.mbx.deferred → d.wait ≠ .endpointRetire 2))
    ∧ ((fails (.endpointFail 2)).dirc.sweep = some (2, 0, 1, 1) ∧ (fails (.endpointFail 2)).dirc.entries = [] ∧ session (fails (.endpointFail 2)) 0 ≠ none)
    ∧ (epOf (dirS []) (7#64).toNat = some 2 ∧ epState (dirS []) 2 = 1 ∧ (dirS []).dirc.sweep = none ∧ heldBy (dirS []) 2 = [])
    ∧ (epOf failed2 (7#64).toNat = some 2 ∧ epState failed2 2 = 2 ∧ failed2.dirc.sweepNext = [] ∧ failed2.dirc.sweep = none)
    ∧ heldBy (dirS [(hostLine, entS 3 [2])]) 2 = [hostLine]
    ∧ ((fails (.endpointRetire 2)).dirc.retiring.contains 2 = true ∧ heldBy (fails (.endpointRetire 2)) 2 = [] ∧ (fails (.endpointRetire 2)).twin.replies = []) := by
  decide +kernel
theorem wit_EndpointCommands : MayRun (dirS []) 0 0x0430 1#32 ∧ Alone (dirS []) ∧ DeferRoom (dirS []) ∧ DirIdle (dirS []) ∧ MayRun failed2 0 0x0431 1#32
    ∧ Alone failed2 ∧ MayRun (dirS []) 0 0x0432 1#32 :=
  ⟨mayRun_sim _ _ _ rfl rfl rfl (by decide +kernel), alone_sim _ rfl, room_pool, ⟨rfl, rfl⟩, mayRun_sim _ _ _ rfl rfl rfl (by decide +kernel), alone_sim _ rfl,
    mayRun_sim _ _ _ rfl rfl rfl (by decide +kernel)⟩

/-- A module whose port 0 is this; another job's table in bank 0 of the ranks. -/
def portS (p : Port) : State := { owned with fab := { owned.fab with ports := [(0, p)] } }
def upP : Port := { Port.init with st := .up }
def drainP : Port := { upP with draining := true }
def portWait : State := { portS drainP with mbx := { owned.mbx with deferred := [{ slot := 0, opcode := 0x0402, tag := 1#32, wait := .portDisable 0 }] } }
def jobS : State := { owned with regs := [(Reg.FPT_RJOB 0 5, 0x81001200#32)] }
theorem mayRun_port (p : Port) (op : Nat) (tag : Word32) (h : (mayNot (portS p) 0 op).isNone = true) : MayRun (portS p) 0 op tag :=
  mayRun_sim _ _ _ rfl rfl rfl h

theorem wit_FabricCommands : MayRun owned 0 0x0401 1#32 ∧ Alone owned ∧ owned.fab.coord = none
    ∧ (MayRun (coordS owned) 0 0x0401 1#32 ∧ Alone (coordS owned) ∧ (coordS owned).fab.coord ≠ none)
    ∧ (MayRun (portS upP) 0 0x0402 1#32 ∧ portSetOk 0#64 0#64 0xFFFF001F#64 0x0143020F#64 = true ∧ portSetOk 31#64 1#64 0#64 0#64 = true
      ∧ (port (portS upP) 0).draining = false ∧ (port (portS upP) 0).st ≠ .disabled)
    ∧ (MayRun (portS { Port.init with st := .disabled }) 0 0x0402 1#32 ∧ (port (portS { Port.init with st := .disabled }) 0).st = .disabled)
    ∧ ((port portWait 0).draining = true ∧ session portWait 0 ≠ none ∧ portWait.twin.replies = [])
    ∧ MayRun owned 0 0x0403 1#32
    ∧ (MayRun (portS upP) 0 0x0405 1#32 ∧ DeferRoom (portS upP) ∧ (port (portS upP) 0).st = .up
      ∧ (16#64, widthMin (portS upP) 0) ∈ [(16#64, 0), (16#64, 1), (16#64, 2), (16#64, 3), (12#64, 1), (12#64, 2), (12#64, 3), (8#64, 2), (8#64, 3), (4#64, 3)]
      ∧ (port (portS upP) 31).st ≠ .up)
    ∧ (MayRun owned 0 0x0404 1#32 ∧ [0xFFFFFFFF0000007F#64, 5#64].all (fun w => onlyBits w 0xFFFFFFFF0000007F) = true
      ∧ bits (0xFFFFFFFF0000007F#64).toNat 6 0 ≠ bits (5#64).toNat 6 0)
    ∧ MayRun owned 0 0x0406 1#32 ∧ 7 * 50 + 50 ≤ 400 ∧ 399 < 7 * 50 + 50
    ∧ (MayRun owned 0 0x0410 1#32 ∧ (∀ i, i < 64 → i ≠ 0 → bit (rg owned (Reg.FPT_RJOB 0 i)) 31 = false))
    ∧ (MayRun jobS 0 0x0410 1#32 ∧ Alone jobS ∧ (∃ i, i < 64 ∧ i ≠ 0 ∧ bit (rg jobS (Reg.FPT_RJOB 0 i)) 31 = true
        ∧ rf jobS (Reg.FPT_RJOB 0 i) 24 24 = 1 - rf jobS (Reg.FPT_RJOB 0 0) 24 24 ∧ 0 < rf jobS (Reg.FPT_RJOB 0 i) 22 12
        ∧ 512 = rf jobS (Reg.FPT_RJOB 0 i) 11 0))
    ∧ (MayRun owned 0 0x0420 1#32 ∧ onlyBits 0x00FF03FF#64 0x00FF03FF = true ∧ onlyBits 0x0FFFFFFF#64 0x0FFFFFFF = true) :=
  ⟨mayRun_owned _ _ (by decide +kernel), alone_owned, rfl, ⟨mayRun_sim _ _ _ rfl rfl rfl (by decide +kernel), alone_sim _ rfl, by decide⟩,
    ⟨mayRun_port _ _ _ (by decide +kernel), by decide +kernel⟩, ⟨mayRun_port _ _ _ (by decide +kernel), by decide +kernel⟩, by decide +kernel,
    mayRun_owned _ _ (by decide +kernel), ⟨mayRun_port _ _ _ (by decide +kernel), room_owned, by decide +kernel⟩,
    ⟨mayRun_owned _ _ (by decide +kernel), by decide +kernel⟩, mayRun_owned _ _ (by decide +kernel), by decide, by decide,
    ⟨mayRun_owned _ _ (by decide +kernel), by decide +kernel⟩,
    ⟨mayRun_sim _ _ _ rfl rfl rfl (by decide +kernel), alone_sim _ rfl, 5, by decide +kernel⟩, mayRun_owned _ _ (by decide +kernel), by decide +kernel⟩

/-- Port 1 is UP and leads to device 9 of the module's own domain. -/
def routeS : State :=
  { coordS owned with regs := [(Reg.FPT_RTDEV 9, 2#32)], fab := { owned.fab with coord := some (1, 0), ports := [(1, upP)] } }
def farM (hops : BitVec 4) : Msg := { reqM 0x11 0 64 0 with dst := BitVec.ofNat 17 (mkCoord 1 9 0), hops := hops }
def ownM : Msg := { okMsg with opcode := 0xF0, dst := BitVec.ofNat 17 (mkCoord 1 0 0) }
def readB : Msg := { okMsg with arg := 64#64 }
def ownO (u : OwnUse) (tries : Nat) : OwnReq := { msg := readB, port := 0, sent := 0, tries := tries, use := u }
def ownS (o : OwnReq) : State := { coordS owned with fab := { (coordS owned).fab with own := [(0, o)], records := [(2 ^ 24 * 64 + 5, { status := 0, xf := 0, cause := 0, value := 0, hasValue := false, opcode := 0x46, expires := 100 })] } }
theorem wit_Messages : (routeS.fab.coord.isNone = false ∧ isOwn routeS (farM 3).dst.toNat = false ∧ (farM 3).hops ≠ 0#4 ∧ routePort routeS (farM 3) = some 1
      ∧ (farM 0).hops = 0#4 ∧ msgLane (farM 0) = 0
      ∧ (let m := { farM 3 with dst := BitVec.ofNat 17 (mkCoord 1 10 0) }; isOwn routeS m.dst.toNat = false ∧ routePort routeS m = none))
    ∧ (isOwn routeS ownM.dst.toNat = true ∧ definedOp ownM = false)
    ∧ ((1 % 64 * 64 + 0 % 64) * 2 ^ 24 + 5 % 2 ^ 24 = 2 ^ 24 * 64 + 5 ∧ (tget (ownS (ownO .notify 0)).fab.records (2 ^ 24 * 64 + 5)).isSome = true)
    ∧ (let s := ownS (ownO .notify 0); s.fab.coord.isNone = false ∧ inSafe s = false ∧ tget s.fab.own okMsg.reqid.toNat = some (ownO .notify 0)
      ∧ okMsg.dslots = 0#5 ∧ (ownO .notify 0).tries < rf s Reg.FPT_REQ 16 14)
    ∧ (let o := ownO (.write 8 0) 0; tget (ownS o).fab.own okMsg.reqid.toNat = some o ∧ okMsg.status.toNat ≠ sBUSY_RETRY
      ∧ ({ okMsg with status := BitVec.ofNat 4 sBUSY_RETRY } : Msg).status.toNat = sBUSY_RETRY)
    ∧ (let m := { okMsg with dslots := 4, data := List.replicate 64 0#8 }; m.dslots.toNat = (bits readB.arg.toNat 8 0 + 15) / 16 ∧ m.status.toNat ≤ sPOISONED)
    ∧ rf (ownS (ownO .notify 7)) Reg.FPT_REQ 16 14 ≤ (ownO .notify 7).tries := by decide +kernel

/-- An idle flit, one whose CRPOOL names no pool, a flit with one message, and a CTRL flit of each subtype. -/
def idleF : List Byte := mkFlit upP 0 0 0 []
def oddF : List Byte := let b := leBytes 8 (2 ^ 32 * 3) ++ List.replicate 240 0#8; b ++ leBytes 8 (crc64 b)
def dataF : List Byte := mkFlit upP 1 0 1 (msgBytes (farM 3))
def ctrlF (sub : Nat) (rest : List Byte) : List Byte := mkFlit upP 2 0 0 (BitVec.ofNat 8 sub :: rest)
theorem ctrlFlit_of (s : State) (k : Nat) (f : List Byte) (sub : Nat) (h : listens s k = true ∧ crcGood f = true ∧ bits (leAt f 0 8) 35 32 ∈ poolTurn
    ∧ leAt (slice f 8 240) 0 1 = sub) : CtrlFlit s k f sub := ⟨h.1, h.2.1, h.2.2.1, h.2.2.2⟩

theorem wit_Flits : (listens State.reset 0 = false ∧ listens (portS upP) 0 = true ∧ crcGood (List.replicate 256 1#8) = false)
    ∧ (crcGood idleF = true ∧ bits (leAt idleF 0 8) 3 0 = 0 ∧ bits (leAt idleF 0 8) 35 32 ∈ poolTurn)
    ∧ (crcGood oddF = true ∧ bits (leAt oddF 0 8) 3 0 = 0 ∧ bits (leAt oddF 0 8) 35 32 ∉ poolTurn)
    ∧ (crcGood dataF = true ∧ bits (leAt dataF 0 8) 35 32 ∈ poolTurn ∧ (port (portS upP) 0).discarding = false
      ∧ (port (portS upP) 0).rxNext = (port (portS upP) 0).rxCount ∧ bit (leAt dataF 0 8) 4 = false
      ∧ ((List.range 15).foldl (eatSlot dataF (bits (leAt dataF 0 8) 19 5)) ([], [])).2 = [farM 3])
    ∧ (let p := { upP with rxNext := 7 }; listens (portS p) 0 = true ∧ p.discarding = false ∧ p.rxNext ≠ p.rxCount)
    ∧ (let p := { upP with discarding := true }; listens (portS p) 0 = true) := by decide +kernel
theorem wit_Ctrl : (∀ sub, sub ∈ List.range 12 → listens (portS upP) 0 = true ∧ crcGood (ctrlF sub []) = true
      ∧ bits (leAt (ctrlF sub []) 0 8) 35 32 ∈ poolTurn ∧ leAt (slice (ctrlF sub []) 8 240) 0 1 = sub)
    ∧ listens (portS { Port.init with st := .training }) 0 = true ∧ upP.ask = none ∧ upP.oper = none
    ∧ (let o : LinkOp := { retrain := true, width := 0 }; let p := { Port.init with st := .retrain, ask := some (o, 0), oper := some o }
       listens (portS p) 0 = true ∧ leAt (slice (ctrlF 7 []) 8 240) 2 1 = 0 ∧ leAt (slice (ctrlF 9 []) 8 240) 4 1 = 0
       ∧ leAt (slice (ctrlF 7 [0#8, 2#8]) 8 240) 2 1 = 2 ∧ leAt (slice (ctrlF 9 [0#8, 0#8, 0#8, 1#8]) 8 240) 4 1 = 1) := by decide +kernel
theorem wit_CtrlFlit (sub : Nat) (h : sub ∈ List.range 12) : CtrlFlit (portS upP) 0 (ctrlF sub []) sub := ctrlFlit_of _ _ _ _ (wit_Ctrl.1 sub h)

/-- Port 0 in each state that an event of a link starts from. -/
def lit : State := { portS Port.init with regs := [(Reg.FPT_CTL 0, 2#32), (Reg.PWR_STAT, 8#32)] }
def trainP (lock : Nat) : Port := { Port.init with st := .training, lock := lock, trainDue := some 500000 }
def oldP : Port := { Port.init with st := .down, retrainAt := some 1000000 }
def ackP (n : Nat) : Port := { upP with ackDue := some 700, replays := n, retry := [idleF] }
def lostP (st : LinkState) : Port := { Port.init with st := st, lockLost := some 100 }
def opP (retrain : Bool) (lock : Nat) : Port :=
  { Port.init with st := if retrain then .retrain else .width, oper := some { retrain := retrain, width := 0 }, lock := lock }
theorem wit_LinkTraining : (portMode lit 0 ≠ 0 ∧ rf lit Reg.PLN_SAFE 0 0 = 0 ∧ rf lit Reg.PWR_STAT 3 3 = 1 ∧ bootStage lit ≠ 8 ∧ (port lit 0).st = .down)
    ∧ (narrower (lockWidth (trainP 0xFFFF) 4) (trainP 0xFFFF).width ≤ widthMin (portS (trainP 0xFFFF)) 0
      ∧ (∀ d, d ∈ (portS (trainP 0xFFFF)).mbx.deferred → d.wait ≠ .portRetrain 0))
    ∧ widthMin (portS (trainP 1)) 0 < narrower (lockWidth (trainP 1) 4) (trainP 1).width
    ∧ rf (portS oldP) Reg.PLN_SAFE 0 0 = 0 ∧ (ackP 14).replays < 15 ∧ (ackP 15).replays = 15 ∧ (lostP .width).st = .width ∧ (lostP .retrain).st = .retrain
    ∧ lockWidth (opP true 0xFFFF) 0 ≤ widthMin (portS (opP true 0xFFFF)) 0 ∧ widthMin (portS (opP false 1)) 0 < lockWidth (opP false 1) 0
    ∧ (rf (portS upP) (Reg.FPT_CTL 0) 31 16 < 65536) ∧ setBit upP.lock 15 false ≠ 0
    ∧ (let p := { upP with lock := 1 }; setBit p.lock 0 false = 0 ∧ p.lockLost = none)
    ∧ (let p := { upP with lock := 0x7FFF, width := 1 }; widestCode (popcount 16 (setBit p.lock 15 true)) < p.width) := by decide +kernel
def sendP (size : Nat) : Port := { upP with txq := [(0, farM 3)], peerSize := [(0, size)] }
theorem wit_LinkSending : (let s := coordS (portS upP); rf s Reg.PLN_SAFE 0 0 = 0 ∧ s.fab.coord ≠ none ∧ upP.draining = false ∧ upP.txPart = [] ∧ upP.txq = [])
    ∧ (msgSlots (farM 3) ≤ 15 ∧ msgLane (farM 3) ≤ 2 ∧ msgSlots (farM 3) ≤ credits (sendP 64) 0 ∧ credits (sendP 0) 0 < msgSlots (farM 3))
    ∧ (let p := { upP with retry := List.replicate 2048 [] }; 2048 ≤ p.retry.length)
    ∧ (List.replicate 16 (1300 : Int)).all (fun v => decide (1300 ≤ v ∧ v < 32768)) = true
    ∧ (State.reset.btr.recs = [] ∧ laserPower State.reset 0 15 < 1000)
    ∧ (let s := { State.reset with regs := [(Reg.FPT_LASER 3 15, 1000#32)] }; 1000 ≤ laserPower s 3 15) := by decide +kernel

/-- The source of the time base is port 0; an answer to its exchange with t2 as given. -/
def timeS (ever : Bool) (good : Nat) : State :=
  let s := portS upP
  { s with regs := [(Reg.PWR_TB_CTL, 2#32)], tb := { s.tb with everLocked := ever, good := good } }
def answerF (t2 : Nat) : List Byte := ctrlF 0x0C ([1#8, 1#8, 0#8, 0#8, 0#8, 0#8, 0#8] ++ leBytes 8 0 ++ leBytes 8 t2 ++ leBytes 8 0)
def groupW (n : Nat) (unreach : Bool) : State :=
  let s := portS upP
  { s with regs := [(Reg.FPT_GRP_CTL, BitVec.ofNat 32 (2 ^ 31 + 2 ^ 16 * 1 + 2 ^ 19 * 1))] ++ [(Reg.FPT_GRP_MEM 0, 0xC0000007#32), (Reg.FPT_GRP_MEM 1, BitVec.ofNat 32 (if unreach then 7 else 0x80000820))]
           tb := { s.tb with memMissed := [(0, n)], namedSince := some 5 } }
theorem wit_Time : (listens (timeS true 0) 0 = true ∧ crcGood (ctrlF 0x0C []) = true ∧ bits (leAt (ctrlF 0x0C []) 0 8) 35 32 ∈ poolTurn
      ∧ leAt (slice (ctrlF 0x0C []) 8 240) 0 1 = 0x0C ∧ leAt (slice (ctrlF 0x0C []) 8 240) 1 1 = 0)
    ∧ (crcGood (answerF 0) = true ∧ leAt (slice (answerF 0) 8 240) 1 1 = 1 ∧ timePort (timeS true 0) = some 0
      ∧ memberOf (timeS true 0) (peerCoord (port (timeS true 0) 0)) = none ∧ (timeS true 0).tb.timeFault = false ∧ localNow (timeS true 0) 8 = 0)
    ∧ (crcGood (answerF 4000000) = true ∧ leAt (slice (answerF 4000000) 8 240) 16 8 = 4000000)
    ∧ ((timeS false 2).tb.good = 2 ∧ (timeS false 1).tb.good < 2)
    ∧ exchangePorts (timeS true 0) = [0] ∧ inGroup (timeS true 0) = false := by decide +kernel
theorem wit_TimeGroup : (rf (groupW 3 false) Reg.FPT_GRP_CTL 24 22 = 0 ∧ isFollower (groupW 3 false) = true ∧ 3 ≤ tgetD (groupW 3 false).tb.memMissed 0 0
      ∧ nextMaster (groupW 3 false) 0 = some 1 ∧ nextMaster (groupW 3 true) 0 = none ∧ isFollower (groupW 3 true) = true)
    ∧ (rf (groupW 3 false) Reg.FPT_GRP_CTL 21 19 = 1 ∧ (groupW 3 false).tb.namedSince = some 5 ∧ inGroup (groupW 3 false) = true
      ∧ 1 ≠ rf (groupW 3 false) Reg.FPT_GRP_CTL 24 22)
    ∧ isOwn (coordS owned) (bits (0x80000800#64).toNat 16 0) = true ∧ onlyBits 0x80000800#64 0x8001FFFF = true ∧ bit (0x80000800#64).toNat 31 = true
    ∧ isOwn (coordS owned) (bits (0x80000040#64).toNat 16 0) = false := by decide +kernel
theorem wit_TimeCommands : MayRun (coordS owned) 0 0x0501 1#32 ∧ MayRun owned 0 0x0502 1#32 ∧ MayRun owned 0 0x0503 1#32 ∧ MayRun owned 0 0x0504 1#32
    ∧ (let s := { owned with tb := { owned.tb with pendingOffset := -5 } }; MayRun s 0 0x0504 1#32 ∧ s.tb.pendingOffset < 0)
    ∧ (let s := { owned with tb := { owned.tb with missed := 3 } }; 3 ≤ s.tb.missed ∧ s.tb.holdover = false) :=
  ⟨mayRun_sim _ _ _ rfl rfl rfl (by decide +kernel), mayRun_owned _ _ (by decide +kernel), mayRun_owned _ _ (by decide +kernel), mayRun_owned _ _ (by decide +kernel),
    ⟨mayRun_of _ _ _ _ (Or.inr (by decide)) rfl (by decide +kernel), by decide⟩, by decide⟩

/-- A receiving twin with a mirrored extent, whose peer has coordinate 7. -/
def mirS (st : Nat) (formed : Bool) (js : List Journal) : State :=
  let s := reqS false
  { s with regs := [(Reg.XLT_TN_CFG 3, 0x80000701#32), (Reg.FPT_CTL 0, 2#32), (Reg.FPT_TWIN_CTL, 0x80000007#32), (Reg.FPT_TWIN_PORTS, 1#32)]
           xlt := { s.xlt with ext := [(16, { ready16 with mirrored := true })] }
           fab := { s.fab with ports := [(0, upP)] }
           twin := { s.twin with st := st, formed := formed, journal := js } }
def mirM (op dslots arg len : Nat) : Msg := reqM op dslots arg len
def jour (n : Nat) : Journal := { bulk := false, context := 0, desc := 0, tile := n, committed := false, writes := [(16 * 2 ^ 30, false, unmasked (List.replicate 256 9#8))] }
theorem wit_MirrorApplied : fromPeer (mirS 4 true []) (mirM 0x14 11 0 176) = true
    ∧ ((fromPeer (mirS 0 false []) (mirM 0x17 1 5 16) = true) ∧ receiving (mirS 0 false []) = false ∧ Fresh (mirS 0 false []) 0x17 (mirM 0x17 1 5 16))
    ∧ (mirrorTarget (mirS 4 true []) (mirM 0x14 9 0 144) = true ∧ Fresh (mirS 4 true []) 0x14 (mirM 0x14 9 0 144)
      ∧ Fresh (mirS 4 true []) 0x14 { mirM 0x14 11 0 176 with xf := 1#4 } ∧ Fresh (mirS 4 true []) 0x14 { mirM 0x14 9 0 144 with poison := true }
      ∧ Fresh (mirS 4 true []) 0x15 (mirM 0x15 16 0 256) ∧ Fresh (mirS 4 true []) 0x15 { mirM 0x15 18 0 288 with xf := 2#4 }
      ∧ Fresh (mirS 4 true []) 0x17 (mirM 0x17 1 5 16))
    ∧ (receiving (mirS 4 true [jour 0]) = true ∧ Fresh (mirS 4 true [jour 0]) 0x16 (mirM 0x16 0 0 0) ∧ 0 ≤ movedOf (mirS 4 true [jour 0]) false 0 0)
    ∧ (Fresh (mirS 4 true [jour 2]) 0x16 (mirM 0x16 0 2 0) ∧ movedOf (mirS 4 true [jour 2]) false 0 0 < 2) := by
  refine ⟨by decide +kernel, ⟨by decide +kernel, by decide +kernel, fresh_of _ _ _ (by decide +kernel)⟩, ⟨by decide +kernel, fresh_of _ _ _ (by decide +kernel),
    fresh_of _ _ _ (by decide +kernel), fresh_of _ _ _ (by decide +kernel), fresh_of _ _ _ (by decide +kernel), fresh_of _ _ _ (by decide +kernel),
    fresh_of _ _ _ (by decide +kernel)⟩, ⟨by decide +kernel, fresh_of _ _ _ (by decide +kernel), by decide +kernel⟩, fresh_of _ _ _ (by decide +kernel), by decide +kernel⟩
theorem wit_MirrorClean (js : List Journal) : Clean (mirS 4 true js) := clean_pool _ rfl (by show ∀ e ∈ [_, _, _, _], _; decide)
/-- The frame of FAULTQ_SET of tenant 3 to 16 records, as one fragment. -/
def cfgB : List Byte := leBytes 8 (1 + 2 ^ 16 * 0x0312) ++ leBytes 8 16 ++ leBytes 8 3 ++ leBytes 8 16
theorem wit_MirrorCfg : (receiving (mirS 4 true []) = true ∧ (mirS 4 true []).twin.cfg = [])
    ∧ (let m := { mirM 0x18 2 (2 ^ 23) 0 with data := cfgB }; Fresh (mirS 4 true []) 0x18 m ∧ bits m.arg.toNat 23 16 = 128 ∧ m.xf = 0#4
      ∧ bits (leAt (slice m.data 0 (16 * m.dslots.toNat)) 0 8) 31 16 = 0x0312 ∧ leAt (slice m.data 0 (16 * m.dslots.toNat)) 24 8 = 16
      ∧ tenantExists (mirS 4 true []) 3 = true ∧ (faultsOf (mirS 4 true []) 3).length ≤ 16)
    ∧ (let m := mirM 0x18 2 0 32; Fresh (mirS 4 true []) 0x18 m ∧ bit m.arg.toNat 23 = false)
    ∧ (Fresh (mirS 1 true []) 0x19 (mirM 0x19 0 2 0) ∧ bits (mirM 0x19 0 2 0).arg.toNat 2 0 ≠ twSTANDBY)
    ∧ (Fresh (mirS 3 true []) 0x19 (mirM 0x19 0 5 0) ∧ bits (mirM 0x19 0 5 0).arg.toNat 2 0 = twSYNCING ∧ (mirS 3 true []).twin.peerSt ≠ twSYNCING)
    ∧ (twinValid (mirS 1 true []) = true ∧ (mirS 1 true []).twin.handing = false ∧ mirrorPorts (mirS 1 true []) = [0]) :=
  ⟨by decide +kernel, ⟨fresh_of _ _ _ (by decide +kernel), by decide +kernel⟩, ⟨fresh_of _ _ _ (by decide +kernel), by decide +kernel⟩,
    ⟨fresh_of _ _ _ (by decide +kernel), by decide +kernel⟩, ⟨fresh_of _ _ _ (by decide +kernel), by decide +kernel⟩, by decide +kernel⟩
def mirrorOwn (u : OwnUse) : State :=
  let s := mirS 1 true []
  { s with fab := { s.fab with own := [(0, ownO u 0)] }, twin := { s.twin with owed := [(4, readB, Resp.plain 0x46 0 0 0 64)] } }
theorem wit_MirrorAck : ((mirrorOwn (.mirror 4)).fab.coord.isNone = false ∧ inSafe (mirrorOwn (.mirror 4)) = false ∧ okMsg.dslots = 0#5 ∧ okMsg.status = 0#4
    ∧ (mirrorOwn (.mirror 4)).fab.own = [(okMsg.reqid.toNat, ownO (.mirror 4) 0)] ∧ tget (mirrorOwn (.mirror 4)).fab.inProgress (reqKey readB) = none) := by decide +kernel

theorem mayRun_mir (st op : Nat) (h : (mayNot (mirS st true []) 0 op).isNone = true) : MayRun (mirS st true []) 0 op 1#32 := mayRun_sim _ _ _ rfl rfl rfl h
/-- The client is also the twins' witness. -/
def witS (st : Nat) : State := let s := mirS st true []; { s with mbx := { s.mbx with witness := [1#8] } }
theorem mayRun_wit (st op : Nat) (h : (mayNot (witS st) 0 op).isNone = true) : MayRun (witS st) 0 op 1#32 := mayRun_of _ _ _ _ (Or.inr (by show (0 : Nat) < 1000000000; decide)) rfl h
theorem wit_TwinCommands : (MayRun owned 0 0x0510 1#32 ∧ DeferRoom owned ∧ owned.twin.formed = false ∧ onlyBits 0x1FFFF#64 0x1FFFF = true)
    ∧ (MayRun (mirS 1 true []) 0 0x0510 1#32 ∧ (mirS 1 true []).twin.formed = true) ∧ MayRun owned 0 0x0511 1#32
    ∧ (MayRun (witS 1) 0 0x0513 1#32 ∧ MayRun (witS 4) 0 0x0513 1#32 ∧ (4 ∉ [twACTIVE, twISOLATED, twSOLO, twHALTED]))
    ∧ (MayRun (witS 2) 0 0x0514 1#32 ∧ (witS 2).fab.own = [] ∧ (witS 2).eth.qps = [] ∧ MayRun (witS 1) 0 0x0514 1#32)
    ∧ (MayRun (witS 4) 0 0x0512 1#32 ∧ DeferRoom (witS 4) ∧ (witS 4).twin.blocked = [] ∧ MayRun (witS 1) 0 0x0512 1#32)
    ∧ (MayRun (mirS 1 true []) 0 0x0515 1#32 ∧ (mirS 1 true []).sched.ctxs = [] ∧ (mirS 1 true []).twin.replies = [] ∧ MayRun (mirS 4 true []) 0 0x0515 1#32)
    ∧ (MayRun (mirS 1 true []) 0 0x0516 1#32 ∧ (mirS 1 true []).mbx.deferred = []) :=
  ⟨⟨mayRun_owned _ _ (by decide +kernel), room_owned, rfl, by decide +kernel⟩, ⟨mayRun_mir _ _ (by decide +kernel), rfl⟩, mayRun_owned _ _ (by decide +kernel),
    ⟨mayRun_wit _ _ (by decide +kernel), mayRun_wit _ _ (by decide +kernel), by decide⟩, ⟨mayRun_wit _ _ (by decide +kernel), rfl, rfl, mayRun_wit _ _ (by decide +kernel)⟩,
    ⟨mayRun_wit _ _ (by decide +kernel), room_pool, rfl, mayRun_wit _ _ (by decide +kernel)⟩,
    ⟨mayRun_mir _ _ (by decide +kernel), rfl, rfl, mayRun_mir _ _ (by decide +kernel)⟩, mayRun_mir _ _ (by decide +kernel), rfl⟩
/-- A command of the twins that waits for its end. -/
def twinWait (st op : Nat) (w : Wait) : State :=
  let s := mirS st true []
  { s with mbx := { s.mbx with deferred := [{ slot := 0, opcode := op, tag := 1#32, wait := w }] } }
def withTwin (s : State) (t : Twin) : State := { s with twin := t }
def lost (st : Nat) : State := withTwin (mirS st true []) { (mirS st true []).twin with lost := true }
theorem wit_TwinEvents : (let s := mirS 0 false []; twinValid s = true ∧ s.twin.formed = false ∧ mirrorPorts s = [0] ∧ portUp s 0 = true ∧ inSafe s = false)
    ∧ (session (twinWait 1 0x0510 .twinSet) 0 ≠ none ∧ (twinWait 1 0x0510 .twinSet).twin.st = twACTIVE ∧ (twinWait 5 0x0510 .twinSet).twin.st = twSYNCING)
    ∧ (let s := withTwin (mirS 3 true []) { (mirS 3 true []).twin with peerSt := 5 }; s.twin.formed = true ∧ s.twin.st = twSOLO ∧ s.twin.peerSt = twSYNCING)
    ∧ ((mirS 1 true []).twin.lost = false ∧ inSafe (mirS 4 true []) = false)
    ∧ (mirrorDown (lost 2) = false ∧ (lost 2).fab.own = [] ∧ (lost 2).twin.heldReqs = [] ∧ (lost 2).eth.qps = [] ∧ (lost 2).twin.st = twISOLATED)
    ∧ (let s := withTwin (mirS 6 true []) { (mirS 6 true []).twin with peerSt := 3 }; mirrorDown s = false ∧ s.twin.st = twHALTED ∧ s.twin.peerSt = twSOLO
      ∧ s.twin.replies = [] ∧ s.sched.ctxs = [])
    ∧ (let s := twinWait 4 0x0512 .twinPromote; s.twin.st = twSTANDBY ∧ s.twin.removed = [] ∧ s.twin.bulkSeen = [] ∧ session s 0 ≠ none)
    ∧ (let s := withTwin { mirS 1 true [] with regs := [(Reg.FPT_TWIN_CTL, 0x80040007#32)] } { (mirS 1 true []).twin with peerSt := 4 }
       rf s Reg.FPT_TWIN_CTL 18 18 = 1 ∧ rf s Reg.FPT_TWIN_CTL 17 17 = 0 ∧ s.twin.lost = false ∧ s.twin.peerSt = twSTANDBY ∧ s.fab.own = [] ∧ s.mbx.deferred = []) := by
  decide +kernel

/-- Ethernet port 0 is up, with these queues; the addresses of the port. -/
def ethP (qs : Tab (List EthFrame)) : EthPort := { EthPort.init with ipv4 := 0x0A000001, ipv6 := 1, queues := qs }
def ethS (ctl stat : Word32) (qs : Tab (List EthFrame)) : State :=
  { owned with regs := [(Reg.ETH_CTL 0, ctl), (Reg.ETH_STAT 0, stat)], eth := { State.reset.eth with ports := [(0, ethP qs)] } }
def frameE (tag : Option Nat) : EthFrame := { kind := .arp 1 2, len := 64, tag := tag }
theorem wit_EthLinks : rf (ethS 7#32 1#32 []) (Reg.ETH_STAT 0) 1 0 ≠ 3 ∧ (let s := { ethS 7#32 1#32 [] with pwr := { owned.pwr with rails := 0x7FF } }; rf s (Reg.ETH_STAT 0) 1 0 ≠ 3 ∧ rf s (Reg.ETH_CTL 0) 0 0 = 1
      ∧ s.pwr.rails ≠ 0 ∧ bootStage s ≠ 8)
    ∧ (0x0A000001 = (ethPort (ethS 7#32 2#32 []) 0).ipv4 ∧ 1 = (ethPort (ethS 7#32 2#32 []) 0).ipv6 ∧ inRecovery (ethS 7#32 2#32 []) = false)
    ∧ (rf (ethS 0x17#32 2#32 []) (Reg.ETH_CTL 0) 4 4 = 1 ∧ 3 = rf (ethS 0x17#32 2#32 []) (Reg.ETH_CTL 0) 3 1 ∧ rf (ethS 7#32 2#32 []) (Reg.ETH_CTL 0) 4 4 = 0) := by
  decide +kernel
/-- PTP runs in domain 0 with port 4 x network 0; the state of the exchange is 2 or 3. -/
def ptpS (st : Word32) (ctl : Word32) : State :=
  { owned with regs := [(Reg.PWR_TB_CTL, 1#32), (Reg.ETH_PTP_CTL, ctl), (Reg.ETH_PTP_STAT, st)]
               tb := { owned.tb with everLocked := true }, eth := { State.reset.eth with best := [(1, 3)] } }
theorem wit_Ptp : rf owned Reg.ETH_PTP_CTL 0 0 = 0
    ∧ (rf (ptpS 2#32 1#32) Reg.ETH_PTP_CTL 0 0 = 1 ∧ ptpPort (ptpS 2#32 1#32) 0 / 4 = 0 ∧ okPtp.domain = rf (ptpS 2#32 1#32) Reg.ETH_PTP_CTL 9 2)
    ∧ (rf (ptpS 2#32 1#32) Reg.ETH_PTP_CTL 1 1 = 0 ∧ tget State.reset.eth.best (1 - 0) = none)
    ∧ rf (ptpS 3#32 1#32) Reg.ETH_PTP_STAT 1 0 = 3
    ∧ (rf (ptpS 2#32 1#32) Reg.ETH_PTP_STAT 1 0 = 2 ∧ rf (ptpS 2#32 1#32) Reg.ETH_PTP_STAT 2 2 = 0 ∧ okPtp.kind = 0 ∧ okPtp.twoStep = false)
    ∧ (rf (ptpS 2#32 1#32) Reg.PWR_TB_CTL 1 0 = 1 ∧ isFollower (ptpS 2#32 1#32) = false ∧ (ptpS 2#32 1#32).tb.timeFault = false)
    ∧ (rf (ptpS 2#32 3#32) Reg.ETH_PTP_CTL 1 0 = 1 ∨ rf (ptpS 2#32 1#32) Reg.ETH_PTP_CTL 1 0 = 1) ∧ tget (ptpS 2#32 1#32).eth.best (1 - 0) = some 3 := by decide +kernel
theorem wit_EthEgress : (ethUp (ethS 7#32 2#32 []) 0 = true ∧ frameQp (frameE none).kind = none)
    ∧ tgetD (ethPort (ethS 7#32 2#32 [(0, [frameE none])]) 0).queues 0 [] = [frameE none]
    ∧ (let s := ethS 7#32 2#32 [(1, [frameE none])]; tgetD (ethPort s 0).queues 0 [] = [] ∧ tgetD (ethPort s 0).queues 1 [] = [frameE none])
    ∧ (let s := ethS 7#32 2#32 [(2, [frameE (some 9)]), (16 + 3, [frameE (some 5)])]
       (ethPort s 0).queues = [(2, [frameE (some 9)]), (16 + 3, [frameE (some 5)])] ∧ 5 < 9 ∧ mayCompete s 0 (16 + 3) (frameE (some 5)) = true)
    ∧ (let s := ethS 7#32 10#32 [(16 + 3, [frameE (some 5)])]; ethUp s 0 = true ∧ rf s (Reg.ETH_STAT 0) 3 3 = 1) := by decide +kernel
theorem wit_EthTokens : (let s := { ethS 7#32 2#32 [] with eth := { State.reset.eth with ports := [(0, { ethP [(1, [frameE none])] with tokens := 512 })] } }
    8 * (frameE none).len ≤ eventTokens s 0 (ethPort s 0)) := by decide +kernel
def ethWait : State :=
  { owned with eth := { State.reset.eth with ports := [(0, { ethP [] with draining := true })] }
               mbx := { owned.mbx with deferred := [{ slot := 0, opcode := 0x0440, tag := 1#32, wait := .ethDisable 0 }] } }
theorem wit_EthCommands : MayRun owned 0 0x0446 1#32 ∧ Alone owned ∧ onlyBits 0x3FFF#64 0xFFFF = true ∧ bits (0x3FFF#64).toNat 15 14 ≠ 3
    ∧ (MayRun (ethS 7#32 2#32 []) 0 0x0440 1#32 ∧ Alone (ethS 7#32 2#32 []) ∧ DeferRoom (ethS 7#32 2#32 []) ∧ onlyBits 0x1FFFF#64 0x1FFFF = true
      ∧ onlyBits 0x2000000001#64 0x3FFFFFFFFF = true ∧ bits (0x2000000001#64).toNat 37 32 = 32 ∧ (ethPort (ethS 7#32 2#32 []) 0).draining = false
      ∧ rf (ethS 7#32 2#32 []) (Reg.ETH_STAT 0) 1 0 ≠ 3)
    ∧ (MayRun (ethS 6#32 3#32 []) 0 0x0440 1#32 ∧ rf (ethS 6#32 3#32 []) (Reg.ETH_STAT 0) 1 0 = 3)
    ∧ ((ethPort ethWait 0).draining = true ∧ session ethWait 0 ≠ none ∧ ethWait.twin.replies = [])
    ∧ MayRun owned 0 0x0441 1#32 ∧ MayRun owned 0 0x0445 1#32
    ∧ (onlyBits 0x1FFFFFF#64 0x1FFFFFF = true ∧ onlyBits 0x200004E2#64 0x3FFFFFFF = true ∧ bit (0x200004E2#64).toNat 29 = true
      ∧ ([0x200004E2#64].map (fun w => bits w.toNat 19 0 * 8)).foldl (· + ·) 0 = (10000#64).toNat) :=
  ⟨mayRun_owned _ _ (by decide +kernel), alone_owned, by decide +kernel, by decide +kernel,
    ⟨mayRun_sim _ _ _ rfl rfl rfl (by decide +kernel), alone_sim _ rfl, room_owned, by decide +kernel⟩, ⟨mayRun_sim _ _ _ rfl rfl rfl (by decide +kernel), by decide +kernel⟩,
    by decide +kernel, mayRun_owned _ _ (by decide +kernel), mayRun_owned _ _ (by decide +kernel), by decide +kernel⟩

/-- Queue pair 5 of tenant 3 at port 0, with this change; its packets. -/
def qp5 : QPair := newQp 3 0 1 2 9 100 1024 7 0x11
def qpS (p : QPair) : State :=
  { full5 with regs := [(Reg.XLT_TN_CFG 3, 0x80000701#32), (Reg.ETH_STAT 0, 2#32)], eth := { State.reset.eth with qps := [(5, p)] } }
def pkt (op len n : Nat) : RocePkt :=
  { okPkt with opcode := op, qp := 5, psn := 100, va := 5 * 2 ^ 30, rkey := 0x11#32, len := len, payload := List.replicate n 7#8 }
theorem up_qp : ethUp (qpS qp5) 0 = true := by decide +kernel
theorem flow_qp : rf (qpS qp5) (Reg.ETH_CTL 0) 4 4 = 0 := by decide +kernel
theorem roceReq_of (p : QPair) (m : RocePkt) (h : m.qp = 5 ∧ p.port = 0 ∧ m.icrcGood = true ∧ (p.error = false ∧ p.draining = false)
    ∧ (p.waiting = [] ∧ p.reads = [] ∧ p.writing = none ∧ p.mirrorAcks = 0) ∧ (m.psn = p.epsn ∧ p.epsn < 2 ^ 24) ∧ m.ce = false
    ∧ bufferFull (qpS p) 0 (roceIn (qpS p) 0 p.v6 m) = false) : RoceReq (qpS p) 0 5 p m :=
  ⟨rfl, h.1, up_qp, h.2.1, h.2.2.1, h.2.2.2.1, h.2.2.2.2.1, h.2.2.2.2.2.1, h.2.2.2.2.2.2.1, flow_qp, h.2.2.2.2.2.2.2⟩
theorem clean_qp (p : QPair) : Clean (qpS p) := clean_pool _ rfl (by show ∀ e ∈ [_, _], _; decide)
theorem roceTarget_of (m : RocePkt) (need len : Nat) (h : m.rkey = qp5.rkey ∧ veValid (viewEnt (qpS qp5) qp5.tenant (m.va / 2 ^ 30 % 2 ^ 18)) = true
    ∧ need &&& (vePerm (viewEnt (qpS qp5) qp5.tenant (m.va / 2 ^ 30 % 2 ^ 18)) &&& 15) = need
    ∧ 16 * 2 ^ 30 = ppaOf (entExtent (viewEnt (qpS qp5) qp5.tenant (m.va / 2 ^ 30 % 2 ^ 18)) (m.va / 2 ^ 30 % 2 ^ 18)) (m.va % 2 ^ 30)
    ∧ m.va % 2 ^ 30 + len ≤ 2 ^ 30 ∧ m.va + len ≤ 2 ^ 48) : RoceTarget (qpS qp5) qp5 m need len (16 * 2 ^ 30) :=
  ⟨h.1, h.2.1, h.2.2.1, h.2.2.2.1, h.2.2.2.2, clean_qp _, plain_16 _ _ (by decide +kernel) (by decide +kernel) (by decide +kernel)⟩
theorem wit_RoceWrites : RoceReq (qpS qp5) 0 5 qp5 (pkt 10 64 64) ∧ RoceTarget (qpS qp5) qp5 (pkt 10 64 64) pWR 64 (16 * 2 ^ 30) ∧ bit qp5.access 1 = true
    ∧ (RoceReq (qpS qp5) 0 5 qp5 (pkt 6 4096 1024) ∧ RoceTarget (qpS qp5) qp5 (pkt 6 4096 1024) pWR 1024 (16 * 2 ^ 30) ∧ qp5.mtu = 1024)
    ∧ (RoceReq (qpS qp5) 0 5 qp5 (pkt 0x0C 4096 0) ∧ RoceTarget (qpS qp5) qp5 (pkt 0x0C 4096 0) pRD 4096 (16 * 2 ^ 30) ∧ bit qp5.access 0 = true)
    ∧ (RoceReq (qpS qp5) 0 5 qp5 (pkt 0x14 0 0) ∧ RoceTarget (qpS qp5) qp5 (pkt 0x14 0 0) pATOM 8 (16 * 2 ^ 30) ∧ (pkt 0x14 0 0).va % 8 = 0 ∧ bit qp5.access 2 = true)
    ∧ (RoceReq (qpS qp5) 0 5 qp5 (pkt 4 0 0) ∧ (pkt 4 0 0).opcode ∉ [6, 7, 8, 10, 0x0C, 0x13, 0x14])
    ∧ (RoceReq (qpS qp5) 0 5 qp5 { pkt 10 64 64 with rkey := 0 } ∧ (0 : Word32) ≠ qp5.rkey)
    ∧ (RoceReq (qpS qp5) 0 5 qp5 { ({ pkt 10 64 64 with psn := 107 } : RocePkt) with psn := qp5.epsn } ∧ (107 + 2 ^ 24 - qp5.epsn) % 2 ^ 24 = 7)
    ∧ (let p := { qp5 with nakked := true }; RoceReq (qpS p) 0 5 p { ({ pkt 10 64 64 with psn := 107 } : RocePkt) with psn := p.epsn }) :=
  ⟨roceReq_of _ _ (by decide +kernel), roceTarget_of _ _ _ (by decide +kernel), by decide +kernel, ⟨roceReq_of _ _ (by decide +kernel), roceTarget_of _ _ _ (by decide +kernel), by decide +kernel⟩,
    ⟨roceReq_of _ _ (by decide +kernel), roceTarget_of _ _ _ (by decide +kernel), by decide +kernel⟩, ⟨roceReq_of _ _ (by decide +kernel), roceTarget_of _ _ _ (by decide +kernel), by decide +kernel⟩,
    ⟨roceReq_of _ _ (by decide +kernel), by decide +kernel⟩, ⟨roceReq_of _ _ (by decide +kernel), by decide +kernel⟩, ⟨roceReq_of _ _ (by decide +kernel), by decide +kernel⟩,
    roceReq_of _ _ (by decide +kernel)⟩
def readR : RoceRead := { psn := 100, va := 5 * 2 ^ 30, len := 4096, sent := 1, units := [(5, 16, 0, 0)] }
def readQ : QPair := { qp5 with reads := [readR] }
theorem wit_RoceReads : ((ethPort (qpS readQ) readQ.port).draining = false ∧ readQ.reads = [readR] ∧ 0 < readQ.mtu ∧ 1 * readQ.mtu < readR.len
    ∧ (readR.va + 1024) / 2 ^ 30 % 2 ^ 18 = 5 ∧ readR.units = [(5, 16, epochOf (qpS readQ) 16, (qpS readQ).xlt.era)]
    ∧ (readR.va + 1024) % 2 ^ 30 + 1024 ≤ 2 ^ 30) := by decide +kernel
theorem wit_RoceReadsClean : Clean (qpS readQ) ∧ PlainExtent (qpS readQ) (ppaOf 16 1024) :=
  ⟨clean_qp _, plain_16 _ _ (by decide +kernel) (by decide +kernel) (by decide +kernel)⟩
def qpWait : State :=
  let s := qpS { qp5 with draining := true }
  { s with mbx := { s.mbx with deferred := [{ slot := 0, opcode := 0x0443, tag := 1#32, wait := .qpDestroy 5 }] } }
theorem wit_RoceCommands : MayRun (qpS qp5) 0 0x0442 1#32 ∧ Alone (qpS qp5) ∧ DeferRoom (qpS qp5) ∧ onlyBits 0xFFFFFFFFFFFF#64 0xFFFFFFFFFFFF = true
    ∧ onlyBits 0x00FFFFFF00FFFFFF#64 0x00FFFFFF00FFFFFF = true ∧ onlyBits 0x702#64 0x703 = true ∧ bits (0x702#64).toNat 1 0 ≠ 3 ∧ onlyBits 0xFFFFFFFF#64 0xFFFFFFFF = true
    ∧ tenantExists (qpS qp5) (3#64).toNat = true ∧ isolated (qpS qp5) (3#64).toNat = false ∧ tget (qpS qp5).eth.qps (4095#64).toNat = none
    ∧ tenantExists (qpS qp5) (4#64).toNat = false
    ∧ (MayRun (qpS qp5) 0 0x0443 1#32 ∧ (qpS qp5).mbx.deferred = [] ∧ MayRun (qpS qp5) 0 0x0444 1#32 ∧ tget (qpS qp5).eth.qps (5#64).toNat = some qp5)
    ∧ (tget qpWait.eth.qps 5 = some { qp5 with draining := true } ∧ session qpWait 0 ≠ none ∧ qpWait.twin.replies = [] ∧ qp5.error = false) :=
  ⟨mayRun_sim _ _ _ rfl rfl rfl (by decide +kernel), alone_sim _ rfl, room_pool, by decide +kernel, by decide +kernel, by decide +kernel, by decide +kernel, by decide +kernel,
    by decide +kernel, by decide +kernel, by decide +kernel, by decide +kernel,
    ⟨mayRun_sim _ _ _ rfl rfl rfl (by decide +kernel), rfl, mayRun_sim _ _ _ rfl rfl rfl (by decide +kernel), rfl⟩, by decide +kernel⟩

/-- The converters run, or not; in ride-through; with a sample below 44 V. -/
def powS (stat : Word32) (p : Power) : State := { owned with regs := [(Reg.PWR_STAT, stat)], pwr := p }
def below : Power := { owned.pwr with belowSince := some 5, below40 := some 9, aboveSince := some 5, loadInit := true }
theorem wit_Power : owned.pwr.thermalCap = false ∧ (rf (powS 8#32 below) Reg.PWR_STAT 3 3 = 1 ∧ below.loadInit = true)
    ∧ (inRide (powS 8#32 below) = false ∧ below.belowSince ≠ none ∧ inSafe (powS 8#32 below) = false)
    ∧ (∃ st, inRide (powS st below) = true ∧ below.aboveSince = some 5) ∧ rf owned Reg.PWR_STAT 3 3 = 0 ∧ inSafe owned = false
    ∧ (let s := powS 8#32 { below with rails := 0x7FF }; inSafe s = false ∧ s.pwr.rails ≠ 0) := by
  refine ⟨by decide +kernel, by decide +kernel, by decide +kernel, ⟨0x30#32, by decide +kernel⟩, by decide +kernel⟩
def disabledAll : Tab Port := (List.range 32).map (fun k => (k, { Port.init with st := .disabled }))
def holdS (held : Nat) (w : Wait) (op : Nat) : State :=
  { powS 0x48#32 { owned.pwr with heldPorts := held } with
      mbx := { owned.mbx with deferred := [{ slot := 0, opcode := op, tag := 1#32, wait := w }] }
      fab := { owned.fab with ports := disabledAll } }
theorem wit_PowerCommands : MayRun owned 0 0x0901 1#32 ∧ MayRun owned 0 0x0902 1#32 ∧ inRide owned = false
    ∧ (MayRun (powS 0x30#32 below) 0 0x0902 1#32 ∧ inRide (powS 0x30#32 below) = true)
    ∧ (MayRun owned 0 0x0903 1#32 ∧ DeferRoom owned ∧ holdable owned = true) ∧ (MayRun running 0 0x0903 1#32 ∧ holdable running = false)
    ∧ (let s := powS 0x40#32 owned.pwr; MayRun s 0 0x0904 1#32 ∧ inHold s = true ∧ waits s .poolHold = false ∧ waits s .poolResume = false)
    ∧ (MayRun owned 0 0x0904 1#32 ∧ inHold owned = false)
    ∧ (let s := holdS 0xFFFFFFFF .poolHold 0x0903; (∀ k, k < 32 → bit s.pwr.heldPorts k = true → (port s k).draining = false) ∧ session s 0 ≠ none ∧ inSafe s = false)
    ∧ (let s := holdS 0xFFFFFFFF .poolResume 0x0904; (∀ n, n < 6 → (sealDie s n).selfRefresh = false) ∧ s.sig.watches = []
      ∧ (∃ k, k < 32 ∧ bit s.pwr.heldPorts k = true ∧ (port s k).st ≠ .up))
    ∧ (MayRun owned 0 0x0905 1#32 ∧ owned.mbx.deferred = [] ∧ (∀ e, e < 2880 → (extRec owned e).st ≤ exFREE))
    ∧ (MayRun pool 0 0x0905 1#32 ∧ (∃ e, e < 2880 ∧ exFREE < (extRec pool e).st)) :=
  ⟨mayRun_owned _ _ (by decide +kernel), mayRun_owned _ _ (by decide +kernel), by decide +kernel, ⟨mayRun_sim _ _ _ rfl rfl rfl (by decide +kernel), by decide +kernel⟩,
    ⟨mayRun_owned _ _ (by decide +kernel), room_owned, by decide +kernel⟩, ⟨mayRun_sim _ _ _ rfl rfl rfl (by decide +kernel), by decide +kernel⟩,
    ⟨mayRun_sim _ _ _ rfl rfl rfl (by decide +kernel), by decide +kernel⟩, ⟨mayRun_owned _ _ (by decide +kernel), by decide +kernel⟩, by decide +kernel,
    ⟨by decide +kernel, by decide, 31, by decide +kernel⟩, ⟨mayRun_owned _ _ (by decide +kernel), rfl, by
      intro e _
      show (ExtRec.init _).st ≤ _
      unfold ExtRec.init
      split <;> decide⟩, ⟨mayRun_pool _ _ (by decide +kernel), 16, by decide +kernel⟩⟩
/-- The module in standby, with its supplies good; PLN_WAKE_EN as at reset enables the SMBus, the pin and VANA. -/
def asleep (en : Word32) : State := { powS 6#32 { owned.pwr with standby := true } with regs := [(Reg.PLN_WAKE_EN, en), (Reg.PWR_STAT, 6#32)] }
theorem wit_Wakes : (asleep 0xF#32).pwr.standby = true ∧ bit (rg (asleep 0xF#32) Reg.PLN_WAKE_EN) 3 = true ∧ bit (rg (asleep 0xF#32) Reg.PLN_WAKE_EN) 2 = true
    ∧ rf (asleep 0xF#32) Reg.PWR_STAT 2 1 = 3 ∧ bit (rg (asleep 0#32) Reg.PLN_WAKE_EN) 0 = false
    ∧ (rf owned Reg.PWR_STAT 3 3 = 0 ∧ owned.pwr.standby = false ∧ owned.pwr.vauxOn = true ∧ inSafe owned = false ∧ owned.pwr.thermalCap = false) := by decide +kernel

/-- The boot ROM in this stage, with a state of the boot. -/
def romS (stage : Word32) (b : Boot) (trained : Bool) : State :=
  { owned with regs := [(Reg.PLN_BOOT, stage), (Reg.ETH_STAT 0, 2#32)], boot := b, dram := { Dram.reset with trained := trained } }
/-- An image of one page: its header alone. -/
def headB : List Byte :=
  ascii "HYONEFW1" ++ leBytes 4 1 ++ leBytes 4 0 ++ leBytes 8 4096 ++ leBytes 4 0 ++ leBytes 4 0 ++ leBytes 4 0 ++ leBytes 4 3 ++ leBytes 4 0 ++ leBytes 4 9
    ++ List.replicate 4048 0#8
theorem image_good (s : State) (hs : s.boot.svn = 0) (k : Nat) (hk : keySlot s headB = some k) : imageFault s headB = none := by
  have h : headerGood headB = true := by decide +kernel
  have l : (headB.length < imgSize headB) = False := by
    have : ¬ headB.length < imgSize headB := by decide +kernel
    simpa using this
  simp [imageFault, h, hk, hs, l]
theorem wit_ImageRead (k : Nat) (hk : keySlot (romS 1#32 owned.boot true) headB = some k) : bootStage (romS 1#32 owned.boot true) = 1
    ∧ (romS 1#32 owned.boot true).boot.flash = .shipped ∧ imageFault (romS 1#32 owned.boot true) [] = some 1
    ∧ imageFault (romS 1#32 owned.boot true) headB = none ∧ Clean (romS 1#32 owned.boot true)
    ∧ tget (romS 1#32 owned.boot true).xlt.migrations 6 = none ∧ (extRec (romS 1#32 owned.boot true) 6).mirrored = false
    ∧ (extRec (romS 1#32 owned.boot true) 6).coherent = false :=
  ⟨by decide +kernel, rfl, by decide +kernel, image_good _ rfl k hk, clean_chans _ (by intro e he; cases he) rfl rfl rfl rfl (by decide), rfl, by decide +kernel, by decide +kernel⟩
def placed : State := romS 3#32 { owned.boot with image := headB } true
theorem wit_ImageVerify (k : Nat) (_ : keySlot placed headB = some k) (_ : signed headB = true) : bootStage placed = 3 ∧ headB = placed.boot.image
    ∧ bit (imgRevoke headB) k = false := ⟨by decide +kernel, rfl, by
      have : imgRevoke headB = 0 := by decide +kernel
      simp [this, bit]⟩
def offered : Boot := { owned.boot with offer := some (0, 7, 5000, [0x61#8]), block := 15, loaded := [], recSince := [(0, 3)] }
theorem wit_Recovery : (bootStage (romS 1#32 owned.boot false) = 1 ∧ (romS 1#32 owned.boot false).dram.trained = false ∧ 33 % 64 ≠ 0)
    ∧ (bootStage (romS 6#32 owned.boot true) = 6 ∧ recoveryPort (romS 6#32 owned.boot true) 0 ≠ recoveryPort (romS 6#32 owned.boot true) 1
      ∧ ethUp (romS 6#32 owned.boot true) (recoveryPort (romS 6#32 owned.boot true) 0) = true
      ∧ ethUp (romS 6#32 owned.boot true) (recoveryPort (romS 6#32 owned.boot true) 1) = false)
    ∧ (let b := { owned.boot with recSince := [(1, 3)] }; tget (romS 7#32 b true).boot.recSince 1 = some 3 ∧ bootStage (romS 7#32 b true) = 7
      ∧ ethUp (romS 7#32 b true) (recoveryPort (romS 7#32 b true) 1) = false)
    ∧ (4096 ≤ 5000 ∧ 5000 ≤ imageMax ∧ (∀ c, c ∈ [(0x61#8 : Byte)] → c.toNat < 128))
    ∧ (bootStage (romS 7#32 offered true) = 7 ∧ (romS 7#32 offered true).boot.offer = some (0, 7, 5000, [0x61#8])
      ∧ ethUp (romS 7#32 offered true) (recoveryPort (romS 7#32 offered true) 0) = true ∧ ([] : List Byte).length + 100 ≠ 5000
      ∧ headFault (romS 7#32 offered true) ([] ++ List.replicate 100 0#8) = none ∧ headFault (romS 7#32 offered true) ([] ++ List.replicate 1432 0#8) = none)
    ∧ (let b := { offered with loaded := List.replicate 2864 0#8 }; bootStage (romS 7#32 b true) = 7
      ∧ headFault (romS 7#32 b true) (b.loaded ++ List.replicate 1432 0#8) = some 1) := by decide +kernel

def fwS (img : List Byte) (b : Boot) (op : Nat) (w : Wait) : State :=
  { owned with boot := b, mem := memWrite [] (resPpa 0 6 0) img, mbx := { owned.mbx with deferred := [{ slot := 0, opcode := op, tag := 1#32, wait := w }] } }
theorem wit_FwCommands : MayRun owned 0 0x0702 1#32 ∧ fwBusy owned = false ∧ Clean owned ∧ PlainExtent owned (resPpa 0 6 5)
    ∧ (let s : State := { owned with boot := { owned.boot with verifying := some 4096 } }; MayRun s 0 0x0702 1#32 ∧ fwBusy s = true)
    ∧ (MayRun owned 0 0x0703 1#32 ∧ DeferRoom owned ∧ 4096 ≤ imageMax) ∧ (MayRun owned 0 0x0704 1#32 ∧ owned.boot.verified = none)
    ∧ (let s : State := { owned with boot := { owned.boot with verified := some 4096 } }; MayRun s 0 0x0704 1#32 ∧ fwBusy s = false)
    ∧ (MayRun owned 0 0x0705 1#32 ∧ owned.twin.replies = []) :=
  ⟨mayRun_owned _ _ (by decide +kernel), by decide +kernel, clean_pool _ rfl (by decide), ⟨by decide +kernel, by decide +kernel, by decide +kernel⟩,
    ⟨mayRun_sim _ _ _ rfl rfl rfl (by decide +kernel), by decide +kernel⟩, ⟨mayRun_owned _ _ (by decide +kernel), room_owned, by decide⟩,
    ⟨mayRun_owned _ _ (by decide +kernel), rfl⟩, ⟨mayRun_sim _ _ _ rfl rfl rfl (by decide +kernel), by decide +kernel⟩, mayRun_owned _ _ (by decide +kernel), rfl⟩
def verifyS (img : List Byte) (n : Nat) : State := fwS img { owned.boot with verifying := some n } 0x0703 .fwVerify
theorem verifyS_mem (img : List Byte) (n : Nat) : (verifyS img n).mem = memWrite [] (resPpa 0 6 0) img := rfl
theorem wit_FwVerify (k : Nat) (hk : keySlot (verifyS headB 4096) headB = some k) (hs : signed headB = true) : Clean (verifyS headB 4096) ∧ session (verifyS headB 4096) 0 ≠ none
    ∧ memRead (verifyS headB 4096).mem (resPpa 0 6 0) 4096 = headB ∧ imageFault (verifyS headB 4096) headB = none ∧ imgSize headB = 4096 ∧ signed headB = true
    ∧ imageFault (verifyS headB 10) (memRead (verifyS headB 10).mem (resPpa 0 6 0) 10) ≠ none :=
  ⟨clean_pool _ rfl (by decide), by decide, (by
      have l : headB.length = 4096 := by decide +kernel
      have h := memRead_memWrite [] (resPpa 0 6 0) headB
      rw [l] at h
      rw [verifyS_mem]
      exact h), image_good _ rfl k hk, by decide +kernel, hs, by decide +kernel⟩
theorem wit_FwCommit : (let s := fwS headB { owned.boot with committing := some 4096 } 0x0704 .fwCommit; Clean s ∧ s.boot.committing = some 4096 ∧ session s 0 ≠ none) :=
  ⟨clean_pool _ rfl (by decide), rfl, by decide⟩
def anchored : State :=
  { owned with mbx := { owned.mbx with sessions := [(0, { client with assocs := [{ net := 0, port := 0, identity := [1#8], anchor := 2, seen := 0 }] })] } }
theorem wit_Anchors : MayRun anchored 0 0x0707 1#32 ∧ session anchored 0 = some { client with assocs := [{ net := 0, port := 0, identity := [1#8], anchor := 2, seen := 0 }] }
    ∧ MayRun owned 0 0x0701 1#32 ∧ MayRun owned 0 0x0708 1#32 ∧ MayRun owned 0 0x0706 1#32
    ∧ tget spdmCodes (leAt [0x12#8, 0x84#8] 1 1) = some 0x04 ∧ tget spdmCodes (leAt [0x12#8, 0xFF#8] 1 1) = none :=
  ⟨mayRun_of _ _ _ _ (Or.inr (by decide)) rfl (by decide +kernel), rfl, mayRun_owned _ _ (by decide +kernel), mayRun_owned _ _ (by decide +kernel),
    mayRun_owned _ _ (by decide +kernel), by decide +kernel⟩

/-- The module READY, with slot 8 in use and a reply of 300 bytes to be read. -/
def ready8 (m : Mailbox) : State := { owned with regs := [(Reg.PLN_BOOT, 5#32)], mbx := m }
def slot8M : Mailbox := { owned.mbx with sessions := (8, { client with identity := [] }) :: owned.mbx.sessions, partialFrame := [], nextFrag := 0 }
def longReply : Mailbox := { slot8M with unread := [List.replicate 300 1#8] }
theorem wit_Board : (owned.pwr.vauxOn = true ∧ owned.pwr.standby = false ∧ bootStage owned ≠ 5)
    ∧ (bit (rg (asleep 0xF#32) Reg.PLN_WAKE_EN) 0 = true ∧ (asleep 0xF#32).pwr.vauxOn = true)
    ∧ (bootStage (ready8 slot8M) = 5 ∧ (ready8 slot8M).pwr.thermalCap = false ∧ (ready8 slot8M).mbx.unread = [])
    ∧ ((ready8 longReply).mbx.readIdx < 127 ∧ 254 * ((ready8 longReply).mbx.readIdx + 1) < 300 ∧ 300 ≤ 254 * ((ready8 { longReply with readIdx := 1 }).mbx.readIdx + 1))
    ∧ (let s := { ready8 slot8M with pwr := { owned.pwr with stackTemp := [(3, 70), (9, 60)] } }; tget s.pwr.stackTemp 3 = some 70 ∧ (∀ e, e ∈ s.pwr.stackTemp → e.2 ≤ 70)) := by
  decide +kernel
theorem wit_BoardFragments : ((0x00#8 : Byte).toNat < 128 ∧ (0x00#8 : Byte).toNat = slot8M.nextFrag)
    ∧ ((0x05#8 : Byte).toNat % 128 ≠ ({ slot8M with nextFrag := 2 } : Mailbox).nextFrag)
    ∧ ((0x80#8 : Byte).toNat = 128 + slot8M.nextFrag ∧ session (ready8 slot8M) 8 = some { client with identity := [] } ∧ LeaseRuns (ready8 slot8M)
      ∧ NewFrame (ready8 slot8M) 8 { client with identity := [] } queryFrame ∧ (∃ sh, GoodFrame sh queryFrame)
      ∧ slot8M.unread.length + ({ client with identity := [] } : Session).queue.length < 16)
    ∧ (let m := { slot8M with unread := List.replicate 16 [] }; session (ready8 m) 8 = some { client with identity := [] } ∧ 16 ≤ m.unread.length) :=
  ⟨by decide, by decide, ⟨by decide, rfl, Or.inr (by decide), ⟨by decide, rfl, rfl, rfl⟩, wit_CommandFramesAreQueuedOnce.2.2.2.1, by decide⟩, rfl, by decide⟩
theorem wit_BoardRest : (State.reset.brd.statusInput = 0 ∧ State.reset.brd.statusTemp = 0 ∧ State.reset.mbx.unread = [])
    ∧ (ready8 longReply).mbx.unread ≠ [] ∧ sizeOk 8 = true ∧ (0 < 10 ∧ 520 ≤ 1023 * 2 ^ 15 * 10)
    ∧ (State.reset.boot.anchors = [] ∧ storedAnchors State.reset.boot = []) ∧ ({ State.reset.boot with anchors := [(1, [3#8])] } : Boot).anchors ≠ [] := by decide +kernel

/-- The worked example of chapter 2: PPA 0x134_8ABC_D940 is granule slot 8,983,929 of channel 38 of die 2. -/
theorem test_ppa_example : extOf 0x1348ABCD940 = 1234 ∧ dieOf 0x1348ABCD940 = 2 ∧ relExt 0x1348ABCD940 = 274 ∧ chanOf 0x1348ABCD940 = 38
    ∧ slotOf 0x1348ABCD940 = 8983929 := by decide
/-- The worked example of chapter 4: that slot's SID is 2, its BG and BA 1, its row 17,546. -/
theorem test_slot_example : slotBank 8983929 = (2 * 4 + 1) * 4 + 1 ∧ slotRow 8983929 = 17546 := by decide
/-- The worked example of chapter 5: the page's seal is slot 16,290,169 of channel 53. -/
theorem test_seal_example : sealChan (pageOf 0x1348ABCD940) = 53 ∧ sealSlot (pageOf 0x1348ABCD940) = 16290169 := by decide
/-- The worked example of chapter 8: the gradients 2^24, 1 and -2^24 sum to exactly 1.0 in both orders. -/
theorem test_gradients_example :
    let c := fun w => accOfNum (ofFp32 w)
    encodeNum fmtFP32 ((((c 0x4B800000).add (c 0x3F800000)).add (c 0xCB800000))).num none = 0x3F800000
    ∧ encodeNum fmtFP32 ((((c 0x4B800000).add (c 0xCB800000)).add (c 0x3F800000))).num none = 0x3F800000 := by decide +kernel
/-- The worked example of chapter 8: 3.203125, 0.01025390625 and the FP32 value nearest -0.0001 in one E4M3 block: scale 0x78, codes 0x7D, 0x3A, 0x87. -/
theorem test_block_example : packBlock 4 ([0x404D0000, 0x3C280000, 0xB8D1B717].map ofFp32) [none, none, none] = (0x78, [0x7D, 0x3A, 0x87])
    ∧ (unpackElem 4 0x7D 0x78).1 = 0x40500000 ∧ (unpackElem 4 0x3A 0x78).1 = 0x3C200000 := by decide +kernel
/-- A subnormal BF16 element is flushed and counted, and every NaN is 0x7FC00000 (R267, R268). -/
theorem test_unpack_flush : unpackElem 1 0x8001 0 = (0x80000000, true) ∧ unpackElem 0 0x7F800001 0 = (nan32, false) ∧ unpackElem 4 0x38 0xFF = (0x7FC00000, false) := by
  decide +kernel

/-- What a step answers with one command waiting. -/
def stepped (c : Instr) (s : State) (p : State → Bool) : Bool :=
  match step { s with pending := [c] } with
  | .next t => t.pending.isEmpty && p t
  | _ => false
/-- IDCODE (R549), MFR_ID and MFR_MODEL (R545) from reset. -/
theorem test_step_board : stepped .idcode State.reset (fun t => t.brd.jtagOut == 0x128809D3) = true
    ∧ stepped .mfrId owned (fun t => t.brd.smbData == some [0x4C#8, 0x47#8, 0x4E#8]) = true := by decide +kernel
/-- A register write reaches the register at its address (R484): MIC_THRESH of core 0 at 0x10008000. -/
theorem test_step_register : stepped (.registerWrite 4 0x10008000 4 3#32) owned (fun t => rg t (Reg.MIC_THRESH 0) == 3) = true := by decide +kernel
/-- The owner may release the module, and another session may not. -/
theorem test_step_release : stepped (.ownRelease 0 5#32) owned (fun t => t.mbx.owner == none) = true
    ∧ stepped (.ownRelease 1 5#32) owned (fun t => t.mbx.owner == some 0) = true := by decide +kernel
/-- No word spells a command of this block. -/
theorem test_no_words (n w : Nat) : decodeTableWord n w = none ∧ State.reset.withFetchWord n w = State.reset := ⟨rfl, rfl⟩

end Sys2Proof.Tests
end

section
/-!
PROOFS. Every step keeps the canonical forms (O3). The layer below says of every function of the model that returns a state
that it keeps `State.Inv`: `inv_f` is the lemma of `f`, in the order of the model. Only three fields matter: the pool memory,
the SRAM and the registers. Few functions write one of them (`rput`, `poke`, `sramWrite` and those of the seal and of zero
fill), and there the laws of the sorted tables do the work. Every other function changes other fields (`State.Inv.of_eq`)
or calls functions that keep the forms: its proof splits its branches and cites the lemmas of the functions it calls.
-/

namespace Sys2Proof.Machine
open Sys2Proof

-- Proof after proof: elaborated side by side, these many short proofs wait for each other, each on a stack of its own.
set_option Elab.async false

variable {s t : State}

/-! ### The three tables -/

/-- A state whose three tables are those of `s` stands in canonical form when `s` does. -/
theorem State.Inv.of_eq (h : s.Inv) (hm : t.mem = s.mem) (hs : t.bus.sram = s.bus.sram) (hr : t.regs = s.regs) : t.Inv :=
  ⟨hm ▸ h.mem, hs ▸ h.sram, hr ▸ h.regs⟩

/-- An update of other fields, as `{ s with … }` elaborates, changes nothing about `State.Inv`. -/
theorem inv_mk {tb mic btr mbx fab eth pwr boot brd xlt dram dirc sig sched twin out free pending} {b : Bus}
    (hb : b.sram = s.bus.sram) :
    State.Inv (State.mk tb s.regs b mic btr mbx fab eth pwr boot brd xlt dram dirc sig sched twin s.mem out free pending)
      = s.Inv :=
  propext ⟨fun h => h.of_eq rfl hb.symm rfl, fun h => h.of_eq rfl hb rfl⟩

theorem inv_rput (h : s.Inv) (a v : Nat) : (rput s a v).Inv :=
  ⟨h.mem, h.sram, tset_sorted _ _ _ _ (Nat.zero_le _) h.regs⟩

theorem inv_poke (h : s.Inv) (a : Nat) (l : List Byte) : (poke s a l).Inv :=
  ⟨memWrite_wf a l h.mem, h.sram, h.regs⟩

/-- The state after power-on reset: its tables are empty or listed in order. -/
theorem inv_reset : State.reset.Inv := ⟨rfl, rfl, rfl⟩

/-! ### Results, choices and folds -/

theorem State.Inv.ite {c : Prop} [Decidable c] (hs : s.Inv) (ht : t.Inv) : (if c then s else t).Inv := by
  split
  · exact hs
  · exact ht

theorem State.Inv.of_fst {α : Type} {p : State × α} {a : α} (h : p.1.Inv) (e : p = (t, a)) : t.Inv := by
  subst e
  exact h

theorem State.Inv.of_snd {α : Type} {p : α × State} {a : α} (h : p.2.Inv) (e : p = (a, t)) : t.Inv := by
  subst e
  exact h

theorem State.Inv.of_snd_snd {α β : Type} {p : α × β × State} {a : α} {b : β} (h : p.2.2.Inv) (e : p = (a, b, t)) :
    t.Inv := by
  subst e
  exact h

theorem inv_foldl {α : Type} {f : State → α → State} {l : List α} (hf : ∀ s a, s.Inv → (f s a).Inv) (h : s.Inv) :
    (l.foldl f s).Inv :=
  List.foldlRecOn l f h fun u hu a _ => hf u a hu

theorem inv_foldl_fst {α β : Type} {f : State × β → α → State × β} {l : List α} {p : State × β}
    (hf : ∀ p a, p.1.Inv → (f p a).1.Inv) (h : p.1.Inv) : (l.foldl f p).1.Inv :=
  List.foldlRecOn (motive := fun p => p.1.Inv) l f h fun p hp a _ => hf p a hp

theorem inv_foldl_snd {α β : Type} {f : β × State → α → β × State} {l : List α} {p : β × State}
    (hf : ∀ p a, p.2.Inv → (f p a).2.Inv) (h : p.2.Inv) : (l.foldl f p).2.Inv :=
  List.foldlRecOn (motive := fun p => p.2.Inv) l f h fun p hp a _ => hf p a hp

theorem inv_foldl_snd_snd {α β γ : Type} {f : β × γ × State → α → β × γ × State} {l : List α} {p : β × γ × State}
    (hf : ∀ p a, p.2.2.Inv → (f p a).2.2.Inv) (h : p.2.2.Inv) : (l.foldl f p).2.2.Inv :=
  List.foldlRecOn (motive := fun p => p.2.2.Inv) l f h fun p hp a _ => hf p a hp

/-! ### Registers as stored words -/

theorem inv_rputF (h : s.Inv) (a hi lo v : Nat) : (rputF s a hi lo v).Inv := by
  grind [rputF, inv_rput]

theorem inv_bump (h : s.Inv) (a n : Nat) : (bump s a n).Inv := by
  grind [bump, inv_rput]

theorem inv_rput64 (h : s.Inv) (lo v : Nat) : (rput64 s lo v).Inv := by
  grind [rput64, inv_rput]

theorem inv_bump64 (h : s.Inv) (lo n : Nat) : (bump64 s lo n).Inv := by
  grind [bump64, inv_rput64]

/-! ### The time base -/

theorem inv_reach (h : s.Inv) (t : Nat) : (reach s t).Inv := by
  grind [reach, = inv_mk]

theorem inv_tick (h : s.Inv) : (tick s).Inv := h.of_eq rfl rfl rfl

/-! ### Free values -/

theorem inv_free32 (h : s.Inv) : (free32 s).2.Inv := by
  grind [free32, = inv_mk]

theorem inv_free64 (h : s.Inv) : (free64 s).2.Inv := by
  grind [free64, = inv_mk]

theorem inv_freeBytes (h : s.Inv) (n : Nat) : (freeBytes s n).2.Inv := by
  grind [freeBytes, = inv_mk]

/-! ### Outputs and interrupt levels -/

theorem inv_emit (h : s.Inv) (o : Output) : (emit s o).Inv := h.of_eq rfl rfl rfl

theorem inv_micLevel (h : s.Inv) (src : Nat) (high : Bool) : (micLevel s src high).Inv := by
  grind [micLevel, = inv_mk]

/-! ### Ethernet frames and the mailbox -/

theorem inv_setEthPort (h : s.Inv) (k : Nat) (p : EthPort) : (setEthPort s k p).Inv := h.of_eq rfl rfl rfl

theorem inv_ethQueue (h : s.Inv) (k q : Nat) (kind : EthKind) (len : Nat) : (ethQueue s k q kind len).Inv := by
  grind [ethQueue, inv_setEthPort]

theorem inv_eventCopy (h : s.Inv) (dgram : Nat → List Byte) (slot net : Nat) (as : List AssocRec) :
    (eventCopy dgram s slot net as).Inv := by
  grind [eventCopy, inv_bump, inv_ethQueue]

theorem inv_eventTo (h : s.Inv) (only : Option Nat) (code sev : Nat) (body : List Byte) :
    (eventTo only s code sev body).Inv := by
  grind [eventTo, inv_eventCopy, inv_rput64, inv_poke, = inv_mk, inv_foldl]

theorem inv_event (h : s.Inv) (code sev : Nat) (body : List Byte) : (event s code sev body).Inv := by
  grind [event, inv_eventTo]

theorem inv_eventW (h : s.Inv) (code sev : Nat) (ws : List Nat) : (eventW s code sev ws).Inv := by
  grind [eventW, inv_event]

theorem inv_sendFrame (h : s.Inv) (slot : Nat) (f : List Byte) : (sendFrame s slot f).Inv := by
  grind [sendFrame, inv_ethQueue, = inv_mk, inv_foldl]

theorem inv_reply (h : s.Inv) (slot opcode : Nat) (tag : Word32) (status : Nat) (body : List Byte) :
    (reply s slot opcode tag status body).Inv := by
  grind [reply, inv_bump, inv_sendFrame, = inv_mk]

theorem inv_finalReply (h : s.Inv) (d : Deferred) (status : Nat) (body : List Byte) :
    (finalReply s d status body).Inv := by
  grind [finalReply, inv_event, inv_reply, = inv_mk]

theorem inv_finishAll (h : s.Inv) (p : Wait → Bool) (status : Nat) (body : List Byte) :
    (finishAll s p status body).Inv := by
  grind [finishAll, inv_finalReply, inv_foldl]

/-! ### The Buttress -/

theorem inv_btrLevels (h : s.Inv) : (btrLevels s).Inv := by
  grind [btrLevels, inv_micLevel]

theorem inv_btrOpen (h : s.Inv) (slot : Nat) (e : ErrIn) (cls sev : Nat) (inj : Bool) :
    (btrOpen s slot e cls sev inj).Inv := by
  grind [btrOpen, inv_btrLevels, inv_event, = inv_mk]

theorem inv_btrSecondary (h : s.Inv) (slot : Nat) (r : BtrRec) (cls sev : Nat) :
    (btrSecondary s slot r cls sev).Inv := by
  grind [btrSecondary, inv_bump, inv_btrLevels, = inv_mk]

theorem inv_btrRecord (h : s.Inv) (e : ErrIn) (inj : Bool) : (btrRecord s e inj).1.Inv := by
  grind [btrRecord, inv_bump, inv_btrSecondary, inv_btrLevels, inv_btrOpen, = inv_mk]

theorem inv_btrClose (h : s.Inv) (slot : Nat) : (btrClose s slot).Inv := by
  grind [btrClose, inv_btrLevels, inv_event, inv_poke, = inv_mk]

theorem inv_report (h : s.Inv) (cls unit inst location detail : Nat) (tenant during : Option Nat) :
    (report s cls unit inst location detail tenant during).Inv := by
  grind [report, inv_btrRecord]

/-! ### Ports -/

theorem inv_setPort (h : s.Inv) (k : Nat) (p : Port) : (setPort s k p).Inv := h.of_eq rfl rfl rfl

/-! ### Routing -/

theorem inv_queueAt (h : s.Inv) (k : Nat) (m : Msg) : (queueAt s k m).Inv := by
  grind [queueAt, inv_setPort]

theorem inv_sendMsg (h : s.Inv) (m : Msg) : (sendMsg s m).Inv := by
  grind [sendMsg, inv_queueAt]

/-! ### Completion records (R354 to R357) -/

theorem inv_keepRecord (h : s.Inv) (m : Msg) (r : Resp) : (keepRecord s m r).Inv := h.of_eq rfl rfl rfl

theorem inv_answer (h : s.Inv) (m : Msg) (r : Resp) : (answer s m r).Inv := by
  grind [answer, inv_sendMsg, inv_keepRecord, = inv_mk]

theorem inv_takeMsg (h : s.Inv) (k : Nat) (m : Msg) : (takeMsg s k m).Inv := by
  grind [takeMsg, inv_setPort]

theorem inv_ownRequest (h : s.Inv) (m : Msg) (use : OwnUse) : (ownRequest s m use).Inv := by
  grind [ownRequest, inv_sendMsg, = inv_mk]

/-! ### Channels and dies -/

theorem inv_setChan (h : s.Inv) (n c : Nat) (k : Chan) : (setChan s n c k).Inv := h.of_eq rfl rfl rfl

theorem inv_setSealDie (h : s.Inv) (n : Nat) (d : SealDie) : (setSealDie s n d).Inv := h.of_eq rfl rfl rfl

/-! ### The word code -/

theorem inv_setMark (h : s.Inv) (k m : Nat) : (setMark s k m).Inv := by
  grind [setMark, = inv_mk]

theorem inv_rawStore (h : s.Inv) (a : Nat) (b : List Byte) : (rawStore s a b).Inv := by
  grind [rawStore, inv_poke, = inv_mk]

/-! ### Poisoned lines -/

theorem inv_poisonLine (h : s.Inv) (line : Nat) : (poisonLine s line).Inv := by
  grind [poisonLine, inv_setMark, inv_rawStore, inv_foldl]

/-! ### The seal -/

theorem inv_setSealErr (h : s.Inv) (page t v : Nat) : (setSealErr s page t v).Inv := by
  grind [setSealErr, = inv_mk]

theorem inv_setSealMark (h : s.Inv) (page w m : Nat) : (setSealMark s page w m).Inv := by
  grind [setSealMark, = inv_mk]

theorem inv_recomputeSeal (h : s.Inv) (page : Nat) : (recomputeSeal s page).Inv := h.of_eq rfl rfl rfl

theorem inv_noteWatch (h : s.Inv) (a len : Nat) (value : Option (Nat × Nat)) :
    (noteWatch s a len value).Inv := h.of_eq rfl rfl rfl

theorem inv_settleLine (h : s.Inv) (line : Nat) : (settleLine s line).Inv := by
  grind [settleLine, inv_poisonLine, inv_bump, inv_report, inv_setSealMark, = inv_mk, inv_foldl]

theorem inv_loseWords (h : s.Inv) (page q : Nat) (ws : List Nat) (during : Option Nat) :
    (loseWords s page q ws during).Inv := by
  grind [loseWords, inv_poisonLine, inv_bump, inv_report, inv_recomputeSeal, inv_noteWatch, inv_setSealMark, inv_foldl]

theorem inv_rebuildWords (h : s.Inv) (page q : Nat) (ws : List Nat) : (rebuildWords s page q ws).Inv := by
  grind [rebuildWords, inv_poisonLine, inv_bump, inv_setSealErr, inv_setMark, inv_rawStore, inv_foldl]

theorem inv_noteCe (h : s.Inv) (g : Nat) (ws : List Nat) (syn : Nat) : (noteCe s g ws syn).Inv := by
  grind [noteCe, inv_bump, inv_report, inv_setChan]

theorem inv_decodeWords (h : s.Inv) (g : Nat) (ws : List Nat) : (decodeWords s g ws).Inv := by
  unfold decodeWords
  extract_lets base n st s1 kind fixable poisoned failed syn s2 s3 s4
  have h1 : s1.Inv := inv_settleLine (inv_settleLine h _) _
  have h2 : s2.Inv := h1.ite (inv_noteCe h1 _ _ _)
  have h3 : s3.Inv := by
    refine inv_foldl (fun u w hu => ?_) h2
    split
    · exact inv_setMark (inv_rawStore hu _ _) _ _
    · exact inv_setMark hu _ _
  have h4 : s4.Inv := h3.ite (inv_bump h3 _ _)
  exact h1.ite (h4.ite (inv_bump h4 _ _))

theorem inv_rebuildGranule {p : State × Option Nat} (h : p.1.Inv) (page : Nat) (lost : List Nat) (j : Nat × List Nat) :
    (rebuildGranule page lost p j).1.Inv := by
  grind [rebuildGranule, inv_rebuildWords, inv_btrRecord]

theorem inv_rebuildPage (h : s.Inv) (page q : Nat) (ws : List Nat) : (rebuildPage s page q ws).Inv := by
  grind [rebuildPage, inv_rebuildGranule, inv_decodeWords, inv_loseWords, inv_foldl, inv_foldl_fst]

theorem inv_fetchGranule (h : s.Inv) (g : Nat) (ws : List Nat) : (fetchGranule s g ws).Inv := by
  grind [fetchGranule, inv_decodeWords, inv_rebuildPage]

theorem inv_fetchRange (h : s.Inv) (a len : Nat) : (fetchRange s a len).Inv := by
  grind [fetchRange, inv_fetchGranule, inv_foldl]

theorem inv_load (h : s.Inv) (a len : Nat) : (load s a len).2.2.Inv := by
  grind [load, inv_fetchRange]

/-! ### Writes -/

theorem inv_injectWrite (h : s.Inv) (g : Nat) (ws : List Nat) : (injectWrite s g ws).Inv := by
  unfold injectWrite
  grind [inv_rput, inv_setMark, inv_foldl]

theorem inv_writeSeal (h : s.Inv) (page : Nat) : (writeSeal s page).Inv := by
  grind [writeSeal, inv_setSealErr, inv_rput, = inv_mk]

theorem inv_noteMigration (h : s.Inv) (a : Nat) : (noteMigration s a).Inv := by
  grind [noteMigration, = inv_mk]

theorem inv_noteDirty (h : s.Inv) (a len : Nat) : (noteDirty s a len).Inv := by
  grind [noteDirty, inv_poke, = inv_mk, inv_foldl]

theorem inv_storePiece (h : s.Inv) (a : Nat) (b : List Byte) : (storePiece s a b).2.Inv := by
  grind [storePiece, inv_poisonLine, inv_settleLine, inv_noteMigration, inv_injectWrite, inv_bump, inv_report,
    inv_noteWatch, inv_noteDirty, inv_setMark, inv_rawStore, inv_foldl]

theorem inv_store (h : s.Inv) (a : Nat) (b : List Byte) : (store s a b).2.Inv := by
  grind [store, inv_writeSeal, inv_storePiece, inv_noteWatch, inv_fetchRange, inv_foldl, inv_foldl_snd]

theorem inv_storeMasked (h : s.Inv) (a : Nat) (l : List (Bool × Byte)) : (storeMasked s a l).2.Inv := by
  grind [storeMasked, inv_store, inv_foldl_snd]

theorem inv_storePage (h : s.Inv) (page : Nat) (b : List Byte) : (storePage s page b).2.Inv := by
  unfold storePage
  extract_lets a n s1 s2 s3 downs sealDown dead s4 s5 s6 s7
  have h1 : s1.Inv := inv_foldl (fun _ _ hu => inv_settleLine hu _) h
  have h2 : s2.Inv := inv_foldl (fun _ _ hu => inv_setMark hu _ _) h1
  have h4 : s4.Inv := inv_noteDirty (inv_noteMigration (inv_rawStore (inv_recomputeSeal h2 _) _ _) _) _ _
  have h5 : s5.Inv := inv_foldl (fun _ _ hu => inv_injectWrite hu _ _) h4
  have h6 : s6.Inv := inv_foldl (fun _ _ hu => inv_bump (inv_poisonLine (inv_poisonLine hu _) _) _ _) h5
  have h7 : s7.Inv := h6.ite (inv_foldl (fun _ _ hu => inv_setSealMark hu _ _ _) h6)
  exact inv_noteWatch (inv_writeSeal h7 _) _ _ _

theorem inv_storeGathered (h : s.Inv) (n a : Nat) (b : List Byte) : (storeGathered n s a b).2.Inv := by
  induction n generalizing s a b with
  | zero => exact h
  | succ n ih => grind [storeGathered, inv_storePage, inv_store]

theorem inv_storePoison (h : s.Inv) (line : Nat) : (storePoison s line).Inv := by
  grind [storePoison, inv_poisonLine, inv_settleLine, inv_noteMigration, inv_writeSeal, inv_noteWatch, inv_noteDirty]

theorem inv_zeroExtent (h : s.Inv) (e : Nat) : (zeroExtent s e).Inv := ⟨memZero_wf _ _ h.mem, h.sram, h.regs⟩

theorem inv_ownRequestVia (h : s.Inv) (k : Nat) (m : Msg) (use : OwnUse) : (ownRequestVia s k m use).Inv := by
  grind [ownRequestVia, inv_queueAt, = inv_mk]

theorem inv_sendCfg (h : s.Inv) (kind : Nat) (b : List Byte) : (sendCfg s kind b).1.Inv := by
  grind [sendCfg, inv_ownRequestVia, = inv_mk, inv_foldl]

/-! ### Sessions and ownership -/

theorem inv_setSession (h : s.Inv) (k : Nat) (se : Session) : (setSession s k se).Inv := h.of_eq rfl rfl rfl

theorem inv_ownerChange (h : s.Inv) : (ownerChange s).Inv := by
  grind [ownerChange, inv_event]

theorem inv_sessionChange (h : s.Inv) (k : Nat) : (sessionChange s k).Inv := by
  grind [sessionChange, inv_eventW]

theorem inv_dequeue (h : s.Inv) (slot : Nat) (tag : Word32) : (dequeue s slot tag).Inv := by
  grind [dequeue, inv_setSession, = inv_mk]

theorem inv_refuseQueued (h : s.Inv) (slot : Nat) : (refuseQueued s slot).Inv := by
  grind [refuseQueued, inv_dequeue, inv_reply, inv_foldl]

theorem inv_lapse (h : s.Inv) : (lapse s).Inv := by
  grind [lapse, inv_refuseQueued, inv_ownerChange, = inv_mk]

theorem inv_lapseIfDue (h : s.Inv) : (lapseIfDue s).Inv := by
  grind [lapseIfDue, inv_lapse]

theorem inv_reofferFaults (h : s.Inv) : (reofferFaults s).Inv := by
  grind [reofferFaults, inv_eventW, = inv_mk, inv_foldl]

theorem inv_grantOwner (h : s.Inv) (slot expires : Nat) : (grantOwner s slot expires).Inv := by
  grind [grantOwner, inv_ownerChange, inv_reofferFaults, = inv_mk]

theorem inv_endSession (h : s.Inv) (k : Nat) : (endSession s k).Inv := by
  grind [endSession, inv_sessionChange, inv_lapse, = inv_mk]

theorem inv_endAllSessions (h : s.Inv) : (endAllSessions s).Inv := by
  grind [endAllSessions, inv_endSession, inv_foldl]

theorem inv_endAssoc (h : s.Inv) (k net : Nat) : (endAssoc s k net).Inv := by
  grind [endAssoc, inv_endSession, inv_setSession, inv_sessionChange]

/-! ### The right to run -/

theorem inv_runEnd (h : s.Inv) (slot op : Nat) (tag : Word32) (st : Nat) (b : List Byte) (w : Option Wait) :
    (runEnd s slot op tag st b w).Inv := by
  unfold runEnd
  split
  · exact inv_reply h ..
  · refine inv_reply ?_ ..
    exact h.of_eq rfl rfl rfl

theorem inv_oweReply (h : s.Inv) (slot op : Nat) (tag : Word32) (frame : List Byte) (st : Nat) (b : List Byte) (w :
    Option Wait) :
    (oweReply s slot op tag frame st b w).Inv := by
  grind [oweReply, inv_sendCfg, = inv_mk]

theorem inv_runOn_requeue (h : s.Inv) (q : Mailbox) (slot : Nat) : (runOn.requeue s q slot).Inv := by
  grind [runOn.requeue, inv_setSession, = inv_mk]

theorem inv_runOn (h : s.Inv) (frame : Option (List Byte)) (slot op : Nat) (tag : Word32) (bad : Bool) {k : State →
    State × Rep}
    (hk : ∀ u, u.Inv → (k u).1.Inv) : (runOn frame slot op tag bad s k).Inv := by
  have h0 := inv_lapseIfDue h
  have h1 := inv_dequeue h0 slot tag
  have h2 := hk _ h1
  unfold runOn
  grind [inv_reply, inv_oweReply, inv_runOn_requeue, inv_runEnd, = inv_mk]

theorem inv_runCmd (h : s.Inv) (slot op : Nat) (tag : Word32) (bad : Bool) {k : State → State × Rep}
    (hk : ∀ u, u.Inv → (k u).1.Inv) : (runCmd slot op tag bad s k).Inv :=
  inv_runOn h _ slot op tag bad hk

theorem inv_runTwin (h : s.Inv) (slot op : Nat) (tag : Word32) (words : List Word64) (bad : Bool) {k : State → State ×
    Rep}
    (hk : ∀ u, u.Inv → (k u).1.Inv) : (runTwin slot op tag words bad s k).Inv :=
  inv_runOn h _ slot op tag bad hk

/-! ### Frames -/

theorem inv_touchAssoc (h : s.Inv) (slot net : Nat) : (touchAssoc s slot net).Inv := by
  grind [touchAssoc, inv_setSession]

theorem inv_acceptFrame (h : s.Inv) (slot : Nat) (se : Session) (b : List Byte) : (acceptFrame s slot se b).Inv := by
  grind [acceptFrame, inv_setSession, inv_reply, = inv_mk]

theorem inv_submit (h : s.Inv) (slot : Nat) (b : List Byte) : (submit s slot b).Inv := by
  grind [submit, inv_bump, inv_acceptFrame, inv_sendFrame]

/-! ### Extents and views -/

theorem inv_setExt (h : s.Inv) (e : Nat) (r : ExtRec) : (setExt s e r).Inv := h.of_eq rfl rfl rfl

theorem inv_setView (h : s.Inv) (t slot w : Nat) : (setView s t slot w).Inv := by
  grind [setView, inv_poke, = inv_mk]

theorem inv_viewCache (h : s.Inv) (t slot : Nat) : (viewCache s t slot).Inv :=
  h.ite (h.of_eq rfl rfl rfl)

/-! ### Translation of one unit -/

theorem inv_slotXl (h : s.Inv) (t slot need perm addr srcUnit : Nat) (viawin : Bool) :
    (slotXl s t slot need perm addr srcUnit viawin).1.Inv := by
  grind [slotXl, inv_viewCache]

theorem inv_windowXl (h : s.Inv) (addr need src : Nat) : (windowXl s addr need src).1.Inv := by
  grind [windowXl, inv_slotXl]

theorem inv_unitXl (h : s.Inv) (kind tenant addr need src : Nat) : (unitXl s kind tenant addr need src).1.Inv := by
  grind [unitXl, inv_windowXl, inv_slotXl]

/-! ### Fault records -/

theorem inv_setFault (h : s.Inv) (t k : Nat) (r : FaultRec) : (setFault s t k r).Inv := by
  grind [setFault, inv_poke, = inv_mk]

theorem inv_delFault (h : s.Inv) (t k : Nat) : (delFault s t k).Inv := h.of_eq rfl rfl rfl

theorem inv_recordFault (h : s.Inv) (f : Flt) (ctx : Option Nat) (src : Nat) (held : Nat → Bool) :
    (recordFault s f ctx src held).1.Inv := by
  grind [recordFault, inv_eventW, inv_bump, inv_setFault, = inv_mk]

/-! ### Single requests -/

theorem inv_unitsXl (h : s.Inv) (kind tenant need src : Nat) (l : List (Nat × Nat)) :
    (unitsXl s kind tenant need src l).1.Inv := by
  induction l generalizing s with
  | nil => exact h
  | cons a t ih => grind [unitsXl, inv_unitXl, inv_recordFault]

theorem inv_reqXl (h : s.Inv) (k : Nat) (m : Msg) (addr len need : Nat) : (reqXl s k m addr len need).1.Inv := by
  grind [reqXl, inv_unitsXl]

/-! ### Revocation fences -/

theorem inv_advanceEpoch (h : s.Inv) (e : Nat) : (advanceEpoch s e).Inv := by
  grind [advanceEpoch, = inv_mk]

theorem inv_openFence (h : s.Inv) (es : List Nat) (cause : Nat) : (openFence s es cause).Inv := by
  grind [openFence, inv_advanceEpoch, = inv_mk, inv_foldl]

/-! ### Entries and endpoints -/

theorem inv_setEnt (h : s.Inv) (line : Nat) (e : Option DirEntry) : (setEnt s line e).Inv := h.of_eq rfl rfl rfl

theorem inv_setEp (h : s.Inv) (x coord st : Nat) : (setEp s x coord st).Inv := by
  grind [setEp, = inv_mk]

theorem inv_takeEp (h : s.Inv) (coord : Nat) : (takeEp s coord).1.Inv := by
  grind [takeEp, inv_setEp]

theorem inv_poisonHeld (h : s.Inv) (line : Nat) : (poisonHeld s line).Inv := by
  grind [poisonHeld, inv_bump, inv_setEnt, inv_storePoison]

theorem inv_sweepCount (h : s.Inv) (x lines ptrs : Nat) : (sweepCount s x lines ptrs).Inv := by
  grind [sweepCount, = inv_mk]

theorem inv_purge (h : s.Inv) (line : Nat) : (purge s line).Inv := by
  grind [purge, inv_poisonHeld, inv_setEnt, inv_sweepCount, inv_foldl]

/-! ### What a request wants of a line -/

theorem inv_sendRecall (h : s.Inv) (line ep belief : Nat) (share : Bool) : (sendRecall s line ep belief share).Inv := by
  grind [sendRecall, inv_sendMsg, = inv_mk]

theorem inv_sendRecalls (h : s.Inv) (line : Nat) (share : Bool) (l : List (Nat × Nat)) :
    (sendRecalls s line share l).1.Inv := by
  induction l generalizing s with
  | nil => exact h
  | cons x t ih => grind [sendRecalls, inv_sendRecall]

theorem inv_setTxns (h : s.Inv) (l : List Txn) : (setTxns s l).Inv := h.of_eq rfl rfl rfl

theorem inv_holdReq (h : s.Inv) (line : Nat) (who : TxnWho) : (holdReq s line who).Inv := h.of_eq rfl rfl rfl

theorem inv_openTxn (h : s.Inv) (line : Nat) (who : TxnWho) : (openTxn s line who).1.Inv := by
  grind [openTxn, inv_setEnt, inv_bump64, inv_sendRecalls, inv_purge]

theorem inv_takeWay (h : s.Inv) (entered : Bool) (line : Nat) (who : TxnWho) : (takeWay entered s line who).Inv := by
  grind [takeWay, inv_setEnt, inv_bump64, inv_purge]

theorem inv_beginTxn (h : s.Inv) (line : Nat) (who : TxnWho) : (beginTxn s line who).Inv := by
  grind [beginTxn, inv_holdReq, inv_setTxns, inv_openTxn]

theorem inv_activateNext (h : s.Inv) (l : Nat) : (activateNext s l).1.Inv := by
  grind [activateNext, inv_setTxns, inv_purge, inv_openTxn]

/-! ### Answers to recalls -/

theorem inv_holdWay (h : s.Inv) (line alloc : Nat) : (holdWay s line alloc).Inv := h.of_eq rfl rfl rfl

theorem inv_freeEmpty (h : s.Inv) (line : Nat) : (freeEmpty s line).Inv := by
  grind [freeEmpty, inv_setEnt]

theorem inv_recallAnswered (h : s.Inv) (r : Recall) (kept hold : Bool) : (recallAnswered s r kept hold).Inv := by
  grind [recallAnswered, inv_setEnt, inv_holdWay]

theorem inv_swapTxn (h : s.Inv) (t u : Txn) : (swapTxn s t u).Inv := by
  grind [swapTxn, inv_setTxns]

theorem inv_settleCoarse (h : s.Inv) (t : Txn) : (settleCoarse s t).Inv := by
  grind [settleCoarse, inv_setEnt, inv_holdWay]

theorem inv_agentLine (h : s.Inv) (line : Nat) (write : Bool) : (agentLine s line write).2.Inv := by
  grind [agentLine, inv_setEnt, inv_purge, inv_beginTxn]

theorem inv_agentRange (h : s.Inv) (a len : Nat) (write : Bool) : (agentRange s a len write).2.Inv := by
  grind [agentRange, inv_agentLine, inv_foldl_snd]

/-! ### Failed endpoints -/

theorem inv_recallTimedOut (h : s.Inv) (t : Txn) (r : Recall) : (recallTimedOut s t r).Inv := by
  grind [recallTimedOut, inv_bump, inv_poisonHeld, inv_sweepCount, inv_swapTxn, inv_recallAnswered]

theorem inv_failEndpoint (h : s.Inv) (x cause : Nat) : (failEndpoint s x cause).Inv := by
  grind [failEndpoint, inv_recallTimedOut, inv_setEp, = inv_mk, inv_foldl]

/-! ### Flits -/

theorem inv_emitFlit (h : s.Inv) (k ftype cont start : Nat) (payload : List Byte) :
    (emitFlit s k ftype cont start payload).Inv := by
  grind [emitFlit, inv_emit, inv_setPort]

theorem inv_emitCtrl (h : s.Inv) (k subtype : Nat) (rest : List Byte) : (emitCtrl s k subtype rest).Inv := by
  grind [emitCtrl, inv_emitFlit]

theorem inv_resend (h : s.Inv) (k : Nat) (f : List Byte) : (resend k s f).Inv := by
  grind [resend, inv_emitFlit]

/-! ### Operations: retrain and width change -/

theorem inv_startOp (h : s.Inv) (k : Nat) (op : LinkOp) (reason : Nat) : (startOp s k op reason).Inv := by
  grind [startOp, inv_emitCtrl, inv_bump, inv_setPort]

theorem inv_peerRequest (h : s.Inv) (k : Nat) (theirs : LinkOp) : (peerRequest s k theirs).Inv := by
  grind [peerRequest, inv_emitCtrl, inv_bump, inv_setPort]

theorem inv_peerAck (h : s.Inv) (k width own : Nat) : (peerAck s k width own).Inv := by
  grind [peerAck, inv_setPort]

theorem inv_replayFrom (h : s.Inv) (k : Nat) : (replayFrom s k).Inv := by
  grind [replayFrom, inv_emitCtrl, inv_resend, inv_foldl]

theorem inv_linkDown (h : s.Inv) (k : Nat) : (linkDown s k).Inv := by
  grind [linkDown, inv_bump, inv_report, inv_setPort]

theorem inv_operDone (h : s.Inv) (k : Nat) : (operDone s k).Inv := by
  grind [operDone, inv_linkDown, inv_replayFrom, inv_finishAll, inv_setPort]

/-! ### Receiving -/

theorem inv_useHeader (h : s.Inv) (k : Nat) (f : List Byte) : (useHeader s k f).Inv := by
  grind [useHeader, inv_bump, inv_setPort]

theorem inv_placeMsg (h : s.Inv) (k : Nat) (m : Msg) : (placeMsg k s m).Inv := by
  grind [placeMsg, inv_setPort]

theorem inv_acceptData (h : s.Inv) (k : Nat) (f : List Byte) : (acceptData s k f).Inv := by
  grind [acceptData, inv_bump64, inv_placeMsg, inv_setPort, inv_foldl]

theorem inv_badCrc (h : s.Inv) (k : Nat) : (badCrc s k).Inv := by
  grind [badCrc, inv_bump, inv_setPort]

theorem inv_execDataFlitReceive (h : s.Inv) {port_ : Nat} {flit : List Byte}
    (e : execDataFlitReceive port_ flit s = .next t) :
    t.Inv := by
  grind [execDataFlitReceive, inv_acceptData, inv_useHeader, inv_badCrc, inv_setPort]

theorem inv_execBadCrcFlit (h : s.Inv) {port_ : Nat} {flit : List Byte} (e : execBadCrcFlit port_ flit s = .next t) :
    t.Inv := by
  grind [execBadCrcFlit, inv_badCrc]

theorem inv_execIdleFlitReceive (h : s.Inv) {port_ : Nat} {flit : List Byte}
    (e : execIdleFlitReceive port_ flit s = .next t) :
    t.Inv := by
  grind [execIdleFlitReceive, inv_bump, inv_useHeader, inv_badCrc]

theorem inv_execFenceFlitReceive (h : s.Inv) {port_ : Nat} {flit : List Byte}
    (e : execFenceFlitReceive port_ flit s = .next t) :
    t.Inv := by
  grind [execFenceFlitReceive, inv_bump, inv_report, inv_useHeader, inv_badCrc, inv_setPort]

theorem inv_ctrlFlit (h : s.Inv) (k : Nat) (f : List Byte) (subtype : Nat) {g : State → List Byte → State}
    (hg : ∀ u l, u.Inv → (g u l).Inv) : (ctrlFlit k f subtype s g).Inv := by
  grind [ctrlFlit, inv_badCrc, inv_useHeader, inv_bump]

theorem inv_execTs (h : s.Inv) {port_ : Nat} {flit : List Byte} (e : execTs port_ flit s = .next t) : t.Inv := by
  grind [execTs, inv_emitCtrl, inv_ctrlFlit, inv_setPort]

theorem inv_execIdent (h : s.Inv) {port_ : Nat} {flit : List Byte} (e : execIdent port_ flit s = .next t) : t.Inv := by
  grind [execIdent, inv_emitCtrl, inv_ctrlFlit, inv_setPort]

theorem inv_execIdentReq (h : s.Inv) {port_ : Nat} {flit : List Byte} (e : execIdentReq port_ flit s = .next t) :
    t.Inv := by
  grind [execIdentReq, inv_emitCtrl, inv_ctrlFlit]

theorem inv_execCreditInit (h : s.Inv) {port_ : Nat} {flit : List Byte} (e : execCreditInit port_ flit s = .next t) :
    t.Inv := by
  grind [execCreditInit, inv_ctrlFlit, inv_setPort]

theorem inv_execReplayStart (h : s.Inv) {port_ : Nat} {flit : List Byte} (e : execReplayStart port_ flit s = .next t) :
    t.Inv := by
  grind [execReplayStart, inv_ctrlFlit, inv_setPort]

theorem inv_execRetrainReq (h : s.Inv) {port_ : Nat} {flit : List Byte} (e : execRetrainReq port_ flit s = .next t) :
    t.Inv := by
  grind [execRetrainReq, inv_ctrlFlit, inv_peerRequest]

theorem inv_execRetrainAck (h : s.Inv) {port_ : Nat} {flit : List Byte} (e : execRetrainAck port_ flit s = .next t) :
    t.Inv := by
  grind [execRetrainAck, inv_peerAck, inv_ctrlFlit]

theorem inv_execWidthReq (h : s.Inv) {port_ : Nat} {flit : List Byte} (e : execWidthReq port_ flit s = .next t) :
    t.Inv := by
  grind [execWidthReq, inv_ctrlFlit, inv_peerRequest]

theorem inv_execWidthAck (h : s.Inv) {port_ : Nat} {flit : List Byte} (e : execWidthAck port_ flit s = .next t) :
    t.Inv := by
  grind [execWidthAck, inv_peerAck, inv_ctrlFlit]

theorem inv_execRttProbe (h : s.Inv) {port_ : Nat} {flit : List Byte} (e : execRttProbe port_ flit s = .next t) :
    t.Inv := by
  grind [execRttProbe, inv_emitCtrl, inv_ctrlFlit]

theorem inv_execRttEcho (h : s.Inv) {port_ : Nat} {flit : List Byte} (e : execRttEcho port_ flit s = .next t) :
    t.Inv := by
  grind [execRttEcho, inv_emitCtrl, inv_ctrlFlit, inv_setPort]

/-! ### Light and training -/

theorem inv_startTraining (h : s.Inv) (k : Nat) : (startTraining s k).Inv := by
  grind [startTraining, inv_emitCtrl, inv_free32, inv_setPort]

theorem inv_execPortLightDetect (h : s.Inv) {port_ : Nat} (e : execPortLightDetect port_ s = .next t) : t.Inv := by
  grind [execPortLightDetect, inv_startTraining]

theorem inv_execPortTrainingDone (h : s.Inv) {port_ : Nat} (e : execPortTrainingDone port_ s = .next t) : t.Inv := by
  grind [execPortTrainingDone, inv_finishAll, inv_setPort]

theorem inv_execPortTrainingTimeout (h : s.Inv) {port_ : Nat} (e : execPortTrainingTimeout port_ s = .next t) :
    t.Inv := by
  grind [execPortTrainingTimeout, inv_reach, inv_setPort]

theorem inv_execTrainingRetryTimer (h : s.Inv) {port_ : Nat} (e : execTrainingRetryTimer port_ s = .next t) :
    t.Inv := by
  grind [execTrainingRetryTimer, inv_reach, inv_startTraining]

/-! ### Timers and triggers -/

theorem inv_execAckTimerExpire (h : s.Inv) {port_ : Nat} (e : execAckTimerExpire port_ s = .next t) : t.Inv := by
  grind [execAckTimerExpire, inv_bump, inv_reach, inv_replayFrom, inv_startOp, inv_setPort]

theorem inv_execLockLossTimeout (h : s.Inv) {port_ : Nat} (e : execLockLossTimeout port_ s = .next t) : t.Inv := by
  grind [execLockLossTimeout, inv_linkDown, inv_reach]

theorem inv_execRetrainDone (h : s.Inv) {port_ : Nat} (e : execRetrainDone port_ s = .next t) : t.Inv := by
  grind [execRetrainDone, inv_operDone]

theorem inv_execWidthChangeDone (h : s.Inv) {port_ : Nat} (e : execWidthChangeDone port_ s = .next t) : t.Inv := by
  grind [execWidthChangeDone, inv_operDone]

theorem inv_execRetrainMaxExpire (h : s.Inv) {port_ : Nat} (e : execRetrainMaxExpire port_ s = .next t) : t.Inv := by
  grind [execRetrainMaxExpire, inv_linkDown, inv_reach]

theorem inv_execFecRetrainTrigger (h : s.Inv) {port_ corrected uncorrectable : Nat}
    (e : execFecRetrainTrigger port_ corrected uncorrectable s = .next t) :
    t.Inv := by
  grind [execFecRetrainTrigger, inv_bump, inv_bump64, inv_startOp]

theorem inv_execWavelengthLockLoss (h : s.Inv) {port_ wavelength : Nat}
    (e : execWavelengthLockLoss port_ wavelength s = .next t) :
    t.Inv := by
  grind [execWavelengthLockLoss, inv_startOp, inv_setPort]

theorem inv_execSymbolLockRegained (h : s.Inv) {port_ : Nat} {wavelength : Option Nat}
    (e : execSymbolLockRegained port_ wavelength s = .next t) :
    t.Inv := by
  unfold execSymbolLockRegained at e
  repeat' split at e
  all_goals grind [inv_startOp, inv_setPort]

/-! ### Laser input -/

theorem inv_execLaserMeasure (h : s.Inv) {block : Nat} {powers : List Int}
    (e : execLaserMeasure block powers s = .next t) :
    t.Inv := by
  grind [execLaserMeasure, inv_report, inv_rput, inv_foldl]

theorem inv_removeWavelength (h : s.Inv) (j k : Nat) : (removeWavelength j s k).Inv := by
  grind [removeWavelength, inv_linkDown, inv_startOp, inv_setPort]

theorem inv_execLaserRemoveTimeout (h : s.Inv) {block wavelength : Nat}
    (e : execLaserRemoveTimeout block wavelength s = .next t) :
    t.Inv := by
  grind [execLaserRemoveTimeout, inv_removeWavelength, inv_foldl]

/-! ### Transmitting -/

theorem inv_execFlitTransmit (h : s.Inv) {port_ : Nat} (e : execFlitTransmit port_ s = .next t) : t.Inv := by
  grind [execFlitTransmit, inv_bump, inv_bump64, inv_emit, inv_emitFlit, inv_setPort, inv_foldl]

theorem inv_execCoordSet (h : s.Inv) {slot : Nat} {tag : Word32} {domain device : Word64}
    (e : execCoordSet slot tag domain device s = .next t) :
    t.Inv := by
  grind [execCoordSet, inv_runTwin, = inv_mk]

theorem inv_cancelWaits (h : s.Inv) (p : Wait → Bool) : (cancelWaits s p).Inv := by
  grind [cancelWaits, inv_finishAll]

theorem inv_startPortDrain (h : s.Inv) (k : Nat) : (startPortDrain s k).Inv := by
  grind [startPortDrain, inv_setPort]

theorem inv_execPortSet (h : s.Inv) {slot : Nat} {tag : Word32} {port_ action ctl timers : Word64}
    (e : execPortSet slot tag port_ action ctl timers s = .next t) :
    t.Inv := by
  grind [execPortSet, inv_rput, inv_runTwin, inv_cancelWaits, inv_startPortDrain, inv_setPort]

theorem inv_execPortDrainDone (h : s.Inv) {port_ : Nat} (e : execPortDrainDone port_ s = .next t) : t.Inv := by
  grind [execPortDrainDone, inv_finishAll, inv_setPort]

theorem inv_execPortQuery (h : s.Inv) {slot : Nat} {tag : Word32} {port_ : Word64}
    (e : execPortQuery slot tag port_ s = .next t) :
    t.Inv := by
  grind [execPortQuery, inv_runCmd]

theorem inv_execRouteSet (h : s.Inv) {slot : Nat} {tag : Word32} {list : List Word64}
    (e : execRouteSet slot tag list s = .next t) :
    t.Inv := by
  grind [execRouteSet, inv_rput, inv_runTwin, inv_foldl]

theorem inv_execFabricSet (h : s.Inv) {slot : Nat} {tag : Word32} {hopInit reqTo retries replayWin : Word64}
    (e : execFabricSet slot tag hopInit reqTo retries replayWin s = .next t) :
    t.Inv := by
  grind [execFabricSet, inv_runTwin, inv_rputF]

theorem inv_execPortRetrain (h : s.Inv) {slot : Nat} {tag : Word32} {port_ width : Word64}
    (e : execPortRetrain slot tag port_ width s = .next t) :
    t.Inv := by
  grind [execPortRetrain, inv_startOp, inv_runTwin]

theorem inv_doRankTable (h : s.Inv) (j base : Nat) (list : List Nat) : (doRankTable j base list s).1.Inv := by
  grind [doRankTable, inv_rput, inv_foldl]

theorem inv_execRankTableSet (h : s.Inv) {slot : Nat} {tag : Word32} {job base : Word64} {list : List Word64}
    (e : execRankTableSet slot tag job base list s = .next t) :
    t.Inv := by
  grind [execRankTableSet, inv_doRankTable, inv_runTwin]

theorem inv_execLegacySet (h : s.Inv) {slot : Nat} {tag : Word32} {ctl portEn : Word64} {list : List Word64}
    (e : execLegacySet slot tag ctl portEn list s = .next t) :
    t.Inv := by
  grind [execLegacySet, inv_rput, inv_runTwin, inv_foldl]

/-! ### Messages that are not served here -/

theorem inv_execMessageForward (h : s.Inv) {port_ : Nat} {msg : Msg} (e : execMessageForward port_ msg s = .next t) :
    t.Inv := by
  grind [execMessageForward, inv_bump, inv_sendMsg, inv_takeMsg, inv_queueAt]

theorem inv_execUnknownOpMessage (h : s.Inv) {port_ : Nat} {msg : Msg}
    (e : execUnknownOpMessage port_ msg s = .next t) :
    t.Inv := by
  grind [execUnknownOpMessage, inv_bump, inv_sendMsg, inv_takeMsg]

theorem inv_execCompletionRecordExpire (h : s.Inv) {domain device reqid : Nat}
    (e : execCompletionRecordExpire domain device reqid s = .next t) :
    t.Inv := by
  grind [execCompletionRecordExpire, inv_reach, = inv_mk]

/-! ### Signal words and atomic writes -/

theorem inv_storeWord (h : s.Inv) (a v : Nat) : (storeWord s a v).Inv := by
  grind [storeWord, inv_writeSeal, inv_storePiece, inv_noteWatch, inv_fetchRange]

theorem inv_loadWord (h : s.Inv) (a : Nat) : (loadWord s a).2.Inv := by
  grind [loadWord, inv_load]

theorem inv_signalAdd (h : s.Inv) (a amount : Nat) : (signalAdd s a amount).2.Inv := by
  grind [signalAdd, inv_bump, inv_loadWord, inv_storeWord]

/-! ### Segments -/

theorem inv_loadSegs (h : s.Inv) (l : List (Nat × Nat)) : (loadSegs s l).2.2.Inv := by
  induction l generalizing s with
  | nil => exact h
  | cons x t ih => grind [loadSegs, inv_load]

theorem inv_storeSegs (h : s.Inv) (l : List (Nat × Nat)) (b : List (Bool × Byte)) : (storeSegs s l b).2.Inv := by
  induction l generalizing s b with
  | nil => exact h
  | cons x t ih => grind [storeSegs, inv_storeMasked]

/-! ### The charge of the die links (R492) -/

theorem inv_chargeSegs (h : s.Inv) (tenant : Nat) (segs : List (Nat × Nat)) : (chargeSegs s tenant segs).Inv := by
  grind [chargeSegs, inv_bump64]

/-! ### Mirroring of a request's writes (R310, R380 to R386) -/

theorem inv_mirrorLine (h : s.Inv) (line mask : Nat) (use : OwnUse) (rec : Option (Msg × Resp)) :
    (mirrorLine s line mask use rec).Inv := by
  unfold mirrorLine
  repeat' split
  all_goals grind [inv_ownRequestVia, = inv_mk]

theorem inv_answerWrite (h : s.Inv) (m : Msg) (r : Resp) (segs : List (Nat × Nat)) (wrote : List (Bool × Byte)) :
    (answerWrite s m r segs wrote).Inv := by
  grind [answerWrite, inv_answer, inv_mirrorLine, = inv_mk, inv_foldl]

/-! ### Serving a request whose lines are clear -/

theorem inv_grant (h : s.Inv) (op line : Nat) (withLine : Bool) : (grant s op line withLine).2.Inv := by
  grind [grant, inv_load]

theorem inv_addHolder (h : s.Inv) (line ep : Nat) (excl : Bool) : (addHolder s line ep excl).Inv := by
  grind [addHolder, inv_setEnt, = inv_mk]

theorem inv_serveGrant (h : s.Inv) (m : Msg) (line : Nat) : (serveGrant s m line).Inv := by
  grind [serveGrant, inv_report, inv_setEnt, inv_answer, inv_fetchRange, inv_takeEp, inv_grant, inv_addHolder]

theorem inv_serveEvict (h : s.Inv) (m : Msg) (line : Nat) : (serveEvict s m line).Inv := by
  grind [serveEvict, inv_setEnt, inv_answer]

theorem inv_pushLine (h : s.Inv) (line coord : Nat) (who : TxnWho) : (pushLine s line coord who).Inv := by
  grind [pushLine, inv_sendMsg, inv_setTxns, = inv_mk]

theorem inv_serveWrite (h : s.Inv) (k : Nat) (m : Msg) (segs : List (Nat × Nat)) (tenant : Nat) :
    (serveWrite s k m segs tenant).Inv := by
  grind [serveWrite, inv_bump, inv_pushLine, inv_setEnt, inv_signalAdd, inv_loadWord, inv_answer, inv_storeWord,
    inv_answerWrite, inv_storePoison, inv_storeSegs, inv_foldl]

theorem inv_serveRead (h : s.Inv) (m : Msg) (segs : List (Nat × Nat)) : (serveRead s m segs).Inv := by
  grind [serveRead, inv_answer, inv_loadSegs]

theorem inv_serve (h : s.Inv) (k : Nat) (m : Msg) (segs : List (Nat × Nat)) (tenant : Nat) :
    (serve s k m segs tenant).Inv := by
  grind [serve, inv_serveGrant, inv_serveEvict, inv_chargeSegs, inv_serveWrite, inv_serveRead]

theorem inv_runReq (h : s.Inv) (entered : Bool) (k : Nat) (m : Msg) (segs : List (Nat × Nat)) (tenant : Nat) :
    (runReq entered s k m segs tenant).Inv := by
  grind [runReq, inv_takeWay, inv_answer, inv_serve, inv_purge, inv_beginTxn, = inv_mk, inv_foldl]

theorem inv_translateReq (h : s.Inv) (k : Nat) (m : Msg) : (translateReq s k m).Inv := by
  grind [translateReq, inv_reqXl, inv_bump, inv_answer, inv_queueAt, inv_runReq, = inv_mk]

theorem inv_arriveReq (h : s.Inv) (k op : Nat) (m : Msg) {f : State → Msg → State} (hf : ∀ u m, u.Inv → (f u m).Inv) :
    (arriveReq s k op m f).Inv := by
  have ht := inv_takeMsg h k m
  grind [arriveReq, inv_bump, inv_sendMsg, inv_answer, = inv_mk]

theorem inv_memReq (h : s.Inv) (port_ op : Nat) (msg : Msg) (e : memReq port_ op msg s = .next t) : t.Inv := by
  grind [memReq, inv_arriveReq, inv_translateReq]

theorem inv_execRead (h : s.Inv) {port_ : Nat} {msg : Msg} (e : execRead port_ msg s = .next t) : t.Inv := by
  grind [execRead, inv_memReq]

theorem inv_execWrite (h : s.Inv) {port_ : Nat} {msg : Msg} (e : execWrite port_ msg s = .next t) : t.Inv := by
  grind [execWrite, inv_memReq]

theorem inv_execWriteMask (h : s.Inv) {port_ : Nat} {msg : Msg} (e : execWriteMask port_ msg s = .next t) : t.Inv := by
  grind [execWriteMask, inv_memReq]

theorem inv_execRdShared (h : s.Inv) {port_ : Nat} {msg : Msg} (e : execRdShared port_ msg s = .next t) : t.Inv := by
  grind [execRdShared, inv_memReq]

theorem inv_execRdOwn (h : s.Inv) {port_ : Nat} {msg : Msg} (e : execRdOwn port_ msg s = .next t) : t.Inv := by
  grind [execRdOwn, inv_memReq]

theorem inv_execUpgrade (h : s.Inv) {port_ : Nat} {msg : Msg} (e : execUpgrade port_ msg s = .next t) : t.Inv := by
  grind [execUpgrade, inv_memReq]

theorem inv_execOwnFull (h : s.Inv) {port_ : Nat} {msg : Msg} (e : execOwnFull port_ msg s = .next t) : t.Inv := by
  grind [execOwnFull, inv_memReq]

theorem inv_execRdOnce (h : s.Inv) {port_ : Nat} {msg : Msg} (e : execRdOnce port_ msg s = .next t) : t.Inv := by
  grind [execRdOnce, inv_memReq]

theorem inv_execWrLine (h : s.Inv) {port_ : Nat} {msg : Msg} (e : execWrLine port_ msg s = .next t) : t.Inv := by
  grind [execWrLine, inv_memReq]

theorem inv_execWrPart (h : s.Inv) {port_ : Nat} {msg : Msg} (e : execWrPart port_ msg s = .next t) : t.Inv := by
  grind [execWrPart, inv_memReq]

theorem inv_execAtomic (h : s.Inv) {port_ : Nat} {msg : Msg} (e : execAtomic port_ msg s = .next t) : t.Inv := by
  grind [execAtomic, inv_memReq]

theorem inv_execPublish (h : s.Inv) {port_ : Nat} {msg : Msg} (e : execPublish port_ msg s = .next t) : t.Inv := by
  grind [execPublish, inv_memReq]

theorem inv_execEvictClean (h : s.Inv) {port_ : Nat} {msg : Msg} (e : execEvictClean port_ msg s = .next t) :
    t.Inv := by
  grind [execEvictClean, inv_memReq]

theorem inv_execSignal (h : s.Inv) {port_ : Nat} {msg : Msg} (e : execSignal port_ msg s = .next t) : t.Inv := by
  grind [execSignal, inv_memReq]

/-! ### The end of a transaction -/

theorem inv_acceptPush (h : s.Inv) (t : Txn) (ep : Nat) : (acceptPush s t ep).Inv := by
  grind [acceptPush, inv_setEnt, inv_bump64, inv_setTxns, inv_swapTxn, inv_sendRecalls, inv_purge, inv_addHolder]

theorem inv_completeTxn (h : s.Inv) (t : Txn) : (completeTxn s t).Inv := by
  grind [completeTxn, inv_settleCoarse, inv_answer, inv_setTxns, inv_swapTxn, inv_freeEmpty, inv_acceptPush, inv_runReq]

theorem inv_completeAll (h : s.Inv) : (completeAll s).Inv := by
  grind [completeAll, inv_completeTxn, inv_foldl]

theorem inv_arriveRsp (h : s.Inv) (k : Nat) (m : Msg) {f : State → State} (hf : ∀ u, u.Inv → (f u).Inv) :
    (arriveRsp s k m f).Inv := by
  grind [arriveRsp, inv_takeMsg]

theorem inv_writeBack (h : s.Inv) (line : Nat) (m : Msg) : (writeBack s line m).Inv := by
  grind [writeBack, inv_store, inv_storePoison]

theorem inv_recallDone (h : s.Inv) (t : Txn) (r : Recall) (kept : Bool) : (recallDone s t r kept).Inv := by
  grind [recallDone, inv_completeTxn, inv_swapTxn, inv_recallAnswered]

theorem inv_execRclAck (h : s.Inv) {port_ : Nat} {msg : Msg} (e : execRclAck port_ msg s = .next t) : t.Inv := by
  grind [execRclAck, inv_arriveRsp, inv_recallDone]

theorem inv_execRclData (h : s.Inv) {port_ : Nat} {msg : Msg} (e : execRclData port_ msg s = .next t) : t.Inv := by
  grind [execRclData, inv_bump, inv_arriveRsp, inv_writeBack, inv_recallDone]

theorem inv_refuseWback (h : s.Inv) (m : Msg) (cause : Nat) : (refuseWback s m cause).Inv := by
  grind [refuseWback, inv_bump, inv_answer]

theorem inv_ackWback (h : s.Inv) (line : Nat) (m : Msg) : (ackWback s line m).Inv := by
  grind [ackWback, inv_answerWrite]

theorem inv_execWback (h : s.Inv) {port_ : Nat} {msg : Msg} (e : execWback port_ msg s = .next t) : t.Inv := by
  grind [execWback, inv_bump, inv_setEnt, inv_refuseWback, inv_arriveRsp, inv_completeTxn, inv_swapTxn, inv_writeBack,
    inv_holdWay, inv_ackWback, inv_free32, = inv_mk]

theorem inv_execPushAck (h : s.Inv) {port_ : Nat} {msg : Msg} (e : execPushAck port_ msg s = .next t) : t.Inv := by
  grind [execPushAck, inv_arriveRsp, inv_setTxns, inv_acceptPush]

/-! ### Internal and timed steps -/

theorem inv_execTransactionActivate (h : s.Inv) {line : Nat} (e : execTransactionActivate line s = .next t) :
    t.Inv := by
  grind [execTransactionActivate, inv_activateNext, inv_completeTxn]

theorem inv_resumeHeld (h : s.Inv) (h : Nat × TxnWho × Nat) : (resumeHeld s h).Inv := by
  grind [resumeHeld, inv_runReq, inv_beginTxn]

theorem inv_execReqInputResume (h : s.Inv) {slice_ : Nat} (e : execReqInputResume slice_ s = .next t) : t.Inv := by
  grind [execReqInputResume, inv_bump, inv_acceptPush, inv_resumeHeld, = inv_mk, inv_foldl]

theorem inv_failAndGoOn (h : s.Inv) (x cause : Nat) : (failAndGoOn s x cause).Inv := by
  grind [failAndGoOn, inv_completeAll, inv_finishAll, inv_failEndpoint, = inv_mk]

theorem inv_execRecallTimeout (h : s.Inv) {line coord : Nat} (e : execRecallTimeout line coord s = .next t) :
    t.Inv := by
  grind [execRecallTimeout, inv_failAndGoOn, inv_reach]

theorem inv_execPushAckTimeout (h : s.Inv) {line : Nat} (e : execPushAckTimeout line s = .next t) : t.Inv := by
  grind [execPushAckTimeout, inv_reach, inv_setTxns]

theorem inv_execEndpointSweepEnd (h : s.Inv) {endpoint : Nat} (e : execEndpointSweepEnd endpoint s = .next t) :
    t.Inv := by
  grind [execEndpointSweepEnd, inv_eventW, inv_reach, inv_finishAll, inv_purge, = inv_mk, inv_foldl]

/-! ### Endpoint commands -/

theorem inv_execEndpointFail (h : s.Inv) {slot : Nat} {tag : Word32} {coord : Word64}
    (e : execEndpointFail slot tag coord s = .next t) :
    t.Inv := by
  grind [execEndpointFail, inv_failAndGoOn, inv_runTwin]

theorem inv_execEndpointReadmit (h : s.Inv) {slot : Nat} {tag : Word32} {coord : Word64}
    (e : execEndpointReadmit slot tag coord s = .next t) :
    t.Inv := by
  grind [execEndpointReadmit, inv_setEp, inv_runTwin]

theorem inv_execEndpointRetire (h : s.Inv) {slot : Nat} {tag : Word32} {coord : Word64}
    (e : execEndpointRetire slot tag coord s = .next t) :
    t.Inv := by
  grind [execEndpointRetire, inv_runTwin, inv_beginTxn, = inv_mk, inv_foldl]

theorem inv_execEndpointRetireDone (h : s.Inv) {endpoint : Nat} (e : execEndpointRetireDone endpoint s = .next t) :
    t.Inv := by
  grind [execEndpointRetireDone, inv_setEp, inv_finishAll, inv_beginTxn, = inv_mk, inv_foldl]

/-! ### Units and entries -/

theorem inv_xlUnits (h : s.Inv) (kind tenant need src : Nat) (l : List (Nat × Nat)) :
    (xlUnits kind tenant need src s l).1.Inv := by
  induction l generalizing s with
  | nil => exact h
  | cons x t ih => grind [xlUnits, inv_unitXl]

theorem inv_xlDesc (h : s.Inv) (tenant src : Nat) (l : List OpUnits) : (xlDesc tenant src s l).1.Inv := by
  induction l generalizing s with
  | nil => exact h
  | cons x t ih => grind [xlDesc, inv_xlUnits]

/-! ### Jobs -/

theorem inv_updJob (h : s.Inv) (sh : Nat) (f : Job → Job) : (updJob s sh f).Inv := by
  grind [updJob, = inv_mk]

/-! ### Operands -/

theorem inv_ensureRead (h : s.Inv) (sh : Nat) (o : Opd) (off len : Nat) : (ensureRead sh o s off len).2.Inv := by
  grind [ensureRead, inv_agentRange, inv_updJob, inv_ownRequest, inv_foldl_snd]

theorem inv_ensureReads (h : s.Inv) (sh : Nat) (l : List (Opd × Nat × Nat)) : (ensureReads sh s l).2.Inv := by
  induction l generalizing s with
  | nil => exact h
  | cons x t ih => grind [ensureReads, inv_ensureRead]

theorem inv_chargeRange (h : s.Inv) (sh tile : Nat) (segs : List (Nat × Nat)) : (chargeRange s sh tile segs).Inv := by
  grind [chargeRange, inv_chargeSegs]

theorem inv_fetch (h : s.Inv) (sh : Nat) (o : Opd) (off len : Nat) : (fetch sh o s off len).2.2.Inv := by
  grind [fetch, inv_chargeRange, inv_loadSegs]

/-! ### Sources of a tile -/

theorem inv_fetchAll (h : s.Inv) (sh : Nat) (o : Opd) (l : List (Nat × Nat)) : (fetchAll sh o s l).2.2.Inv := by
  induction l generalizing s with
  | nil => exact h
  | cons x t ih => grind [fetchAll, inv_fetch]

theorem inv_streamElems (h : s.Inv) (sh : Nat) (c : Course) (h : Shadow) (t j : Nat) :
    (streamElems sh c h t j s).2.2.Inv := by
  grind [streamElems, inv_fetchAll]

theorem inv_rowElems (h : s.Inv) (sh : Nat) (o : Opd) (r : OpRec) (l : List Nat) : (rowElems sh o r s l).2.2.Inv := by
  induction l generalizing s with
  | nil => exact h
  | cons x t ih => grind [rowElems, inv_fetchAll]

theorem inv_tileSources (h : s.Inv) (sh : Nat) (c : Course) (d : Shadow) (i : Nat) :
    (tileSources sh c d i s).2.Inv := by
  unfold tileSources
  extract_lets first gathers
  split
  next ok1 s1 e1 =>
  have h1 : s1.Inv := (inv_ensureReads h sh first).of_snd e1
  split
  · exact h1
  split
  next idx bad2 s2 e2 =>
  have h2 : s2.Inv := by
    refine State.Inv.of_snd_snd ?_ e2
    exact inv_foldl_snd_snd (fun p g hp => inv_fetchAll hp ..) h1
  extract_lets rows
  split
  next ok3 s3 e3 =>
  have h3 : s3.Inv := (inv_ensureReads h2 sh rows).of_snd e3
  split
  · exact h3
  · exact inv_foldl_snd_snd (fun p g hp => inv_streamElems hp ..) (inv_foldl_snd_snd (fun p g hp => inv_rowElems hp ..)
    h3)

/-! ### PLACE -/

theorem inv_mirrorTile (h : s.Inv) (bulk : Bool) (x sh desc tile g mask : Nat) (poison : Bool) :
    (mirrorTile s bulk x sh desc tile g mask poison).Inv := by
  grind [mirrorTile, inv_ownRequestVia, = inv_mk]

theorem inv_placeSeg (h : s.Inv) (a : Nat) (b : List Byte) (poison : Bool) (push : Option Nat) :
    (placeSeg s a b poison push).Inv := by
  unfold placeSeg
  repeat' split
  all_goals grind [inv_pushLine, inv_setEnt, inv_storeGathered, inv_store, inv_storePoison, inv_foldl]

theorem inv_placeRemote (h : s.Inv) (o : Opd) (sh tile : Nat) (p : Piece) (poison : Bool) :
    (placeRemote s o sh tile p poison).Inv := by
  grind [placeRemote, inv_updJob, inv_ownRequest, inv_foldl]

theorem inv_placePiece (h : s.Inv) (bulk : Bool) (x sh desc tile : Nat) (o : Opd) (push : Option Nat) (poison : Bool) (p
    : Piece) :
    (placePiece bulk x sh desc tile o push poison s p).Inv := by
  grind [placePiece, inv_mirrorTile, inv_chargeRange, inv_updJob, inv_placeSeg, inv_placeRemote, inv_foldl]

theorem inv_ensureWrites (h : s.Inv) (sh : Nat) (os : Piece → Opd) (ps : List Piece) :
    (ensureWrites sh os s ps).2.Inv := by
  grind [ensureWrites, inv_agentRange, inv_foldl_snd]

theorem inv_setOffset (h : s.Inv) (o : Int) : (setOffset s o).Inv := by
  grind [setOffset, inv_rput, = inv_mk]

theorem inv_useOffset (h : s.Inv) (o : Int) : (useOffset s o).Inv := by
  grind [useOffset, inv_eventW, inv_setOffset, = inv_mk]

/-! ### Groups -/

theorem inv_execTimeBaseCorrect (h : s.Inv) {copy : Nat} (e : execTimeBaseCorrect copy s = .next t) : t.Inv := by
  grind [execTimeBaseCorrect, = inv_mk]

theorem inv_execTimesync (h : s.Inv) {port_ : Nat} {flit : List Byte} (e : execTimesync port_ flit s = .next t) :
    t.Inv := by
  grind [execTimesync, inv_emitCtrl, inv_ctrlFlit]

theorem inv_execTimesyncAnswer (h : s.Inv) {port_ : Nat} {flit : List Byte}
    (e : execTimesyncAnswer port_ flit s = .next t) :
    t.Inv := by
  grind [execTimesyncAnswer, inv_useOffset, inv_ctrlFlit, inv_rputF, = inv_mk]

theorem inv_missMember (h : s.Inv) (m : Nat) : (missMember s m).Inv := by
  grind [missMember, inv_rputF, = inv_mk]

theorem inv_countExchange (h : s.Inv) : (countExchange s).Inv := by
  grind [countExchange, inv_missMember, = inv_mk, inv_foldl]

theorem inv_askTime (h : s.Inv) (k : Nat) : (askTime s k).Inv := by
  grind [askTime, inv_emitCtrl]

theorem inv_execTimeExchangeTimer (h : s.Inv) (e : execTimeExchangeTimer s = .next t) : t.Inv := by
  grind [execTimeExchangeTimer, inv_countExchange, inv_askTime, inv_foldl]

theorem inv_takeMaster (h : s.Inv) (m : Nat) : (takeMaster s m).Inv := by
  grind [takeMaster, inv_eventW, inv_rputF, = inv_mk]

theorem inv_execMasterLost (h : s.Inv) (e : execMasterLost s = .next t) : t.Inv := by
  grind [execMasterLost, inv_takeMaster, inv_rputF]

theorem inv_execMasterReturn (h : s.Inv) (e : execMasterReturn s = .next t) : t.Inv := by
  grind [execMasterReturn, inv_takeMaster, inv_reach]

theorem inv_execTimeHoldover (h : s.Inv) (e : execTimeHoldover s = .next t) : t.Inv := by
  grind [execTimeHoldover, inv_eventW, = inv_mk]

/-! ### Commands -/

theorem inv_execGroupSet (h : s.Inv) {slot : Nat} {tag : Word32} {group member master : Word64} {members : List Word64}
    (e : execGroupSet slot tag group member master members s = .next t) :
    t.Inv := by
  grind [execGroupSet, inv_runCmd, inv_rput, = inv_mk, inv_foldl]

theorem inv_execGroupQuery (h : s.Inv) {slot : Nat} {tag : Word32} (e : execGroupQuery slot tag s = .next t) :
    t.Inv := by
  grind [execGroupQuery, inv_runCmd]

theorem inv_execTimeSet (h : s.Inv) {slot : Nat} {tag : Word32} {src port_ : Word64}
    (e : execTimeSet slot tag src port_ s = .next t) :
    t.Inv := by
  grind [execTimeSet, inv_runCmd, inv_rput, = inv_mk]

theorem inv_execTimeStep (h : s.Inv) {slot : Nat} {tag : Word32} (e : execTimeStep slot tag s = .next t) : t.Inv := by
  grind [execTimeStep, inv_eventW, inv_runCmd, = inv_mk]

theorem inv_rxFrame (h : s.Inv) (k len : Nat) : (rxFrame s k len).Inv := by
  grind [rxFrame, inv_bump64]

theorem inv_rxDrop (h : s.Inv) (k : Nat) : (rxDrop s k).Inv := by
  grind [rxDrop, inv_bump]

theorem inv_execEthLinkUp (h : s.Inv) {port_ : Nat} (e : execEthLinkUp port_ s = .next t) : t.Inv := by
  grind [execEthLinkUp, inv_rputF, = inv_mk]

theorem inv_execEthLinkDown (h : s.Inv) {port_ : Nat} (e : execEthLinkDown port_ s = .next t) : t.Inv := by
  grind [execEthLinkDown, inv_rputF, = inv_mk]

theorem inv_execEthFrameDiscard (h : s.Inv) {port_ length : Nat} {reason : EthDiscard}
    (e : execEthFrameDiscard port_ length reason s = .next t) :
    t.Inv := by
  unfold execEthFrameDiscard at e
  repeat' split at e
  all_goals grind [inv_bump, inv_rxDrop, inv_rxFrame]

theorem inv_execArp (h : s.Inv) {port_ mac ip target : Nat} (e : execArp port_ mac ip target s = .next t) : t.Inv := by
  grind [execArp, inv_ethQueue, inv_rxFrame]

theorem inv_execNeighbourDiscovery (h : s.Inv) {port_ mac ip target : Nat}
    (e : execNeighbourDiscovery port_ mac ip target s = .next t) :
    t.Inv := by
  grind [execNeighbourDiscovery, inv_ethQueue, inv_rxFrame]

theorem inv_execIcmpEcho (h : s.Inv) {port_ ip target ident seq : Nat} {data : List Byte}
    (e : execIcmpEcho port_ ip target ident seq data s = .next t) :
    t.Inv := by
  grind [execIcmpEcho, inv_ethQueue, inv_rxFrame]

theorem inv_execPfcFrame (h : s.Inv) {port_ priority : Nat} {xoff : Bool}
    (e : execPfcFrame port_ priority xoff s = .next t) :
    t.Inv := by
  grind [execPfcFrame, inv_bump, inv_rxDrop, inv_rxFrame, inv_rputF]

theorem inv_roceFill (h : s.Inv) (k fill : Nat) : (roceFill s k fill).Inv := by
  grind [roceFill, inv_bump, inv_setEthPort, inv_ethQueue]

/-! ### PTP -/

theorem inv_ptpDecide (h : s.Inv) : (ptpDecide s).Inv := by
  grind [ptpDecide, inv_rputF]

theorem inv_usePtp (h : s.Inv) (o : Int) : (usePtp s o).Inv := by
  grind [usePtp, inv_useOffset]

theorem inv_execPtpMessage (h : s.Inv) {port_ : Nat} {msg : PtpMsg} (e : execPtpMessage port_ msg s = .next t) :
    t.Inv := by
  grind [execPtpMessage, inv_usePtp, inv_ptpDecide, inv_rxDrop, inv_ethQueue, inv_rxFrame, = inv_mk]

theorem inv_execAnnounceTimeout (h : s.Inv) (e : execAnnounceTimeout s = .next t) : t.Inv := by
  grind [execAnnounceTimeout, inv_ptpDecide, inv_rputF, = inv_mk]

theorem inv_execPtpSet (h : s.Inv) {slot : Nat} {tag : Word32} {ctl : Word64}
    (e : execPtpSet slot tag ctl s = .next t) :
    t.Inv := by
  grind [execPtpSet, inv_rput, inv_runTwin, = inv_mk]

/-! ### The egress scheduler -/

theorem inv_sendHead (h : s.Inv) (k q : Nat) (p : EthPort) : (sendHead s k q p).Inv := by
  grind [sendHead, inv_setEthPort, inv_bump64, inv_emit, = inv_mk]

theorem inv_execEgressFrameSend (h : s.Inv) {port_ : Nat} (e : execEgressFrameSend port_ s = .next t) : t.Inv := by
  grind [execEgressFrameSend, inv_setEthPort, inv_sendHead]

theorem inv_applyEgr (h : s.Inv) (k : Nat) : (applyEgr s k).Inv := by
  grind [applyEgr, inv_setEthPort, inv_rput, inv_foldl]

theorem inv_ethGateBoundary (h : s.Inv) (k : Nat) : (ethGateBoundary s k).Inv := by
  grind [ethGateBoundary, inv_reach, inv_applyEgr, inv_setEthPort]

/-! ### Commands -/

theorem inv_execEthPortSet (h : s.Inv) {slot : Nat} {tag : Word32} {port_ action ctl ip4 gw4 ip6lo ip6hi plen6 gw6lo
    gw6hi : Word64}
    (e : execEthPortSet slot tag port_ action ctl ip4 gw4 ip6lo ip6hi plen6 gw6lo gw6hi s = .next t) :
    t.Inv := by
  grind [execEthPortSet, inv_setEthPort, inv_runTwin, inv_cancelWaits, inv_rputF]

theorem inv_execEthPortDrainDone (h : s.Inv) {port_ : Nat} (e : execEthPortDrainDone port_ s = .next t) : t.Inv := by
  grind [execEthPortDrainDone, inv_setEthPort, inv_finishAll, inv_rputF]

theorem inv_execEthPortQuery (h : s.Inv) {slot : Nat} {tag : Word32} {port_ : Word64}
    (e : execEthPortQuery slot tag port_ s = .next t) :
    t.Inv := by
  grind [execEthPortQuery, inv_runCmd]

theorem inv_execEgressSet (h : s.Inv) {slot : Nat} {tag : Word32} {port_ egr cycle : Word64} {list : List Word64}
    (e : execEgressSet slot tag port_ egr cycle list s = .next t) :
    t.Inv := by
  grind [execEgressSet, inv_setEthPort, inv_runTwin]

theorem inv_setQp (h : s.Inv) (q : Nat) (p : QPair) : (setQp s q p).Inv := h.of_eq rfl rfl rfl

theorem inv_execQpCreate (h : s.Inv) {slot : Nat} {tag : Word32} {qp tenant port_ mac ip0 ip1 qpnPsn mtuAccess rkey :
    Word64}
    (e : execQpCreate slot tag qp tenant port_ mac ip0 ip1 qpnPsn mtuAccess rkey s = .next t) :
    t.Inv := by
  grind [execQpCreate, inv_bump, inv_runTwin, inv_setQp]

theorem inv_execQpDestroy (h : s.Inv) {slot : Nat} {tag : Word32} {qp : Word64}
    (e : execQpDestroy slot tag qp s = .next t) :
    t.Inv := by
  grind [execQpDestroy, inv_runTwin, inv_cancelWaits, inv_setQp]

theorem inv_execQpDestroyDone (h : s.Inv) {qp : Nat} (e : execQpDestroyDone qp s = .next t) : t.Inv := by
  unfold execQpDestroyDone at e
  repeat' split at e
  all_goals grind [inv_finishAll, inv_setQp, = inv_mk]

theorem inv_execQpQuery (h : s.Inv) {slot : Nat} {tag : Word32} {qp : Word64}
    (e : execQpQuery slot tag qp s = .next t) :
    t.Inv := by
  grind [execQpQuery, inv_runCmd]

theorem inv_execCnp (h : s.Inv) {port_ qp : Nat} (e : execCnp port_ qp s = .next t) : t.Inv := by
  grind [execCnp, inv_bump, inv_rxDrop, inv_rxFrame, inv_setQp]

theorem inv_execCnpRateTimer (h : s.Inv) {qp : Nat} (e : execCnpRateTimer qp s = .next t) : t.Inv := by
  grind [execCnpRateTimer, inv_reach, inv_setQp]

/-! ### Allocation -/

theorem inv_startFill (h : s.Inv) (e : Nat) (r : ExtRec) : (startFill s e r).Inv := by
  grind [startFill, inv_setExt, = inv_mk]

theorem inv_doAlloc (h : s.Inv) (holder attr count diemask : Nat) (list : List Nat) :
    (doAlloc holder attr count diemask list s).1.Inv := by
  grind [doAlloc, inv_bump, inv_startFill, inv_foldl]

theorem inv_execExtentAlloc (h : s.Inv) {slot : Nat} {tag : Word32} {holder attr count diemask : Word64} {list : List
    Word64}
    (e : execExtentAlloc slot tag holder attr count diemask list s = .next t) :
    t.Inv := by
  grind [execExtentAlloc, inv_doAlloc, inv_runTwin]

theorem inv_finishAllocs (h : s.Inv) : (finishAllocs s).Inv := by
  grind [finishAllocs, inv_finishAll]

theorem inv_leaveAlloc (h : s.Inv) (e : Nat) : (leaveAlloc s e).Inv := by
  grind [leaveAlloc, = inv_mk]

theorem inv_execZeroFillDone (h : s.Inv) {extent : Nat} (e : execZeroFillDone extent s = .next t) : t.Inv := by
  grind [execZeroFillDone, inv_noteDirty, inv_finishAllocs, inv_zeroExtent, inv_setExt, = inv_mk]

/-! ### Release and attributes -/

theorem inv_freeExtent (h : s.Inv) (e : Nat) : (freeExtent s e).Inv := by
  grind [freeExtent, inv_setExt]

theorem inv_releaseOne (h : s.Inv) (e : Nat) : (releaseOne s e).Inv := by
  grind [releaseOne, inv_finishAllocs, inv_freeExtent, inv_setExt, inv_leaveAlloc, = inv_mk]

theorem inv_doRelease (h : s.Inv) (list : List Nat) : (doRelease list s).1.Inv := by
  grind [doRelease, inv_releaseOne, inv_foldl]

theorem inv_execExtentRelease (h : s.Inv) {slot : Nat} {tag : Word32} {list : List Word64}
    (e : execExtentRelease slot tag list s = .next t) :
    t.Inv := by
  grind [execExtentRelease, inv_doRelease, inv_runTwin]

theorem inv_doSetAttr (h : s.Inv) (list : List Nat) (attr mask : Nat) : (doSetAttr list attr mask s).1.Inv := by
  grind [doSetAttr, inv_setExt, inv_foldl]

theorem inv_execExtentSetAttr (h : s.Inv) {slot : Nat} {tag : Word32} {list : List Word64} {attr mask : Word64}
    (e : execExtentSetAttr slot tag list attr mask s = .next t) :
    t.Inv := by
  grind [execExtentSetAttr, inv_runTwin, inv_doSetAttr]

theorem inv_execExtentQuery (h : s.Inv) {slot : Nat} {tag : Word32} {list : List Word64}
    (e : execExtentQuery slot tag list s = .next t) :
    t.Inv := by
  grind [execExtentQuery, inv_runCmd]

/-! ### Views -/

theorem inv_addMap (h : s.Inv) (e : Nat) (up : Bool) : (addMap s e up).Inv := by
  grind [addMap, inv_setExt]

theorem inv_doViewMap (h : s.Inv) (t vslot extent perm : Nat) : (doViewMap t vslot extent perm s).1.Inv := by
  grind [doViewMap, inv_setView, inv_addMap, inv_foldl]

theorem inv_execViewMap (h : s.Inv) {slot : Nat} {tag : Word32} {tenant vslot extent perm : Word64}
    (e : execViewMap slot tag tenant vslot extent perm s = .next t) :
    t.Inv := by
  grind [execViewMap, inv_doViewMap, inv_runTwin]

theorem inv_unmapNow (h : s.Inv) (t vslot : Nat) : (unmapNow t vslot s).Inv := by
  grind [unmapNow, inv_setView, inv_openFence, inv_addMap, inv_foldl]

theorem inv_waitFence (h : s.Inv) (w : FenceWait) : (waitFence s w).1.Inv := by
  grind [waitFence, = inv_mk]

theorem inv_doViewUnmap (h : s.Inv) (slot : Nat) (tag : Word32) (t vslot : Nat) :
    (doViewUnmap slot tag t vslot s).1.Inv := by
  grind [doViewUnmap, inv_waitFence, inv_unmapNow]

theorem inv_execViewUnmap (h : s.Inv) {slot : Nat} {tag : Word32} {tenant vslot : Word64}
    (e : execViewUnmap slot tag tenant vslot s = .next t) :
    t.Inv := by
  grind [execViewUnmap, inv_runTwin, inv_doViewUnmap]

theorem inv_execViewQuery (h : s.Inv) {slot : Nat} {tag : Word32} {tenant first count : Word64}
    (e : execViewQuery slot tag tenant first count s = .next t) :
    t.Inv := by
  grind [execViewQuery, inv_runCmd]

/-! ### Windows -/

theorem inv_winDrop (h : s.Inv) (w : Nat) : (winDrop s w).Inv := by
  grind [winDrop, inv_openFence, inv_addMap, inv_foldl]

theorem inv_windowNow (h : s.Inv) (w ctl base src : Nat) : (windowNow w ctl base src s).Inv := by
  grind [windowNow, inv_winDrop, inv_rput, inv_addMap, inv_rputF, inv_foldl]

theorem inv_doWindowSet (h : s.Inv) (slot : Nat) (tag : Word32) (w ctl base src : Nat) :
    (doWindowSet slot tag w ctl base src s).1.Inv := by
  grind [doWindowSet, inv_waitFence, inv_windowNow]

theorem inv_execWindowSet (h : s.Inv) {slot : Nat} {tag : Word32} {window ctl base src : Word64}
    (e : execWindowSet slot tag window ctl base src s = .next t) :
    t.Inv := by
  grind [execWindowSet, inv_doWindowSet, inv_runTwin]

theorem inv_windowClearNow (h : s.Inv) (w : Nat) : (windowClearNow w s).Inv := by
  grind [windowClearNow, inv_winDrop, inv_rputF]

theorem inv_doWindowClear (h : s.Inv) (slot : Nat) (tag : Word32) (w : Nat) : (doWindowClear slot tag w s).1.Inv := by
  grind [doWindowClear, inv_waitFence, inv_windowClearNow]

theorem inv_execWindowClear (h : s.Inv) {slot : Nat} {tag : Word32} {window : Word64}
    (e : execWindowClear slot tag window s = .next t) :
    t.Inv := by
  grind [execWindowClear, inv_runTwin, inv_doWindowClear]

/-! ### Migration -/

theorem inv_doMigrate (h : s.Inv) (src dst : Nat) : (doMigrate src dst s).1.Inv := by
  grind [doMigrate, inv_setExt, = inv_mk]

theorem inv_execExtentMigrate (h : s.Inv) {slot : Nat} {tag : Word32} {source dest : Word64}
    (e : execExtentMigrate slot tag source dest s = .next t) :
    t.Inv := by
  grind [execExtentMigrate, inv_doMigrate, inv_runTwin]

/-! ### Tenants -/

theorem inv_putTenant (h : s.Inv) (t weight cls mode maxC maxW maxA : Nat) (valid : Bool) :
    (putTenant s t weight cls mode maxC maxW maxA valid).Inv := by
  grind [putTenant, inv_rput]

theorem inv_doTenantSet (h : s.Inv) (t weight cls mode maxC maxW maxA : Nat) :
    (doTenantSet t weight cls mode maxC maxW maxA s).1.Inv := by
  grind [doTenantSet, inv_putTenant]

theorem inv_execTenantSet (h : s.Inv) {slot : Nat} {tag : Word32} {tenant weight cls mode maxContexts maxWatches
    maxAdmit : Word64}
    (e : execTenantSet slot tag tenant weight cls mode maxContexts maxWatches maxAdmit s = .next t) :
    t.Inv := by
  grind [execTenantSet, inv_runTwin, inv_doTenantSet]

theorem inv_doTenantClear (h : s.Inv) (t : Nat) : (doTenantClear t s).1.Inv := by
  grind [doTenantClear, inv_putTenant]

theorem inv_execTenantClear (h : s.Inv) {slot : Nat} {tag : Word32} {tenant : Word64}
    (e : execTenantClear slot tag tenant s = .next t) :
    t.Inv := by
  grind [execTenantClear, inv_doTenantClear, inv_runTwin]

theorem inv_execTenantQuery (h : s.Inv) {slot : Nat} {tag : Word32} {tenant : Word64}
    (e : execTenantQuery slot tag tenant s = .next t) :
    t.Inv := by
  grind [execTenantQuery, inv_runCmd]

/-! ### Floors and gates -/

theorem inv_doCapacitySet (h : s.Inv) (floors : List Nat) (retry : Nat) : (doCapacitySet floors retry s).1.Inv := by
  grind [doCapacitySet, inv_rput, inv_foldl]

theorem inv_execCapacitySet (h : s.Inv) {slot : Nat} {tag : Word32} {floors : List Word64} {retry : Word64}
    (e : execCapacitySet slot tag floors retry s = .next t) :
    t.Inv := by
  grind [execCapacitySet, inv_doCapacitySet, inv_runTwin]

theorem inv_doGateSet (h : s.Inv) (ctl cycle : Nat) (list : List Nat) : (doGateSet ctl cycle list s).1.Inv := by
  grind [doGateSet, = inv_mk]

theorem inv_execGateSet (h : s.Inv) {slot : Nat} {tag : Word32} {ctl cycle : Word64} {list : List Word64}
    (e : execGateSet slot tag ctl cycle list s = .next t) :
    t.Inv := by
  grind [execGateSet, inv_doGateSet, inv_runTwin]

/-! ### Fault queues -/

theorem inv_doFaultqSet (h : s.Inv) (t depth : Nat) : (doFaultqSet t depth s).1.Inv := by
  grind [doFaultqSet, inv_rput]

theorem inv_execFaultqSet (h : s.Inv) {slot : Nat} {tag : Word32} {tenant depth : Word64}
    (e : execFaultqSet slot tag tenant depth s = .next t) :
    t.Inv := by
  grind [execFaultqSet, inv_runTwin, inv_doFaultqSet]

theorem inv_execFaultRead (h : s.Inv) {slot : Nat} {tag : Word32} {tenant : Word64}
    (e : execFaultRead slot tag tenant s = .next t) :
    t.Inv := by
  grind [execFaultRead, inv_runCmd, inv_setFault, inv_foldl]

/-! ### Entries -/

theorem inv_putWatch (h : s.Inv) (x : Nat) (e : WatchEnt) : (putWatch s x e).Inv := by
  grind [putWatch, inv_poke, = inv_mk]

theorem inv_freeWatch (h : s.Inv) (x : Nat) (hasFired : Bool) : (freeWatch s x hasFired).Inv := by
  grind [freeWatch, inv_poke, = inv_mk]

theorem inv_installWatch (h : s.Inv) (e : WatchEnt) : (installWatch s e).1.Inv := by
  unfold installWatch
  split
  · exact h
  · exact (inv_putWatch h _ _).of_eq rfl rfl rfl

/-! ### Translation of a word -/

theorem inv_wordXl (h : s.Inv) (tenant addr need : Nat) : (wordXl s tenant addr need).1.Inv := by
  grind [wordXl, inv_slotXl]

/-! ### Firing -/

theorem inv_sendNotify (h : s.Inv) (coord addr value tag seq source status : Nat) :
    (sendNotify s coord addr value tag seq source status).Inv := by
  grind [sendNotify, inv_ownRequest]

theorem inv_addSignal (h : s.Inv) (tenant addr amount : Nat) : (addSignal s tenant addr amount).Inv := by
  grind [addSignal, inv_wordXl, inv_bump, inv_chargeSegs, inv_signalAdd]

theorem inv_addClear (h : s.Inv) (tenant addr : Nat) : (addClear s tenant addr).2.Inv := by
  grind [addClear, inv_wordXl, inv_agentLine]

theorem inv_fireEntry (h : s.Inv) (e : WatchEnt) (value : Nat) : (fireEntry s e value).Inv := by
  grind [fireEntry, inv_bump, inv_sendNotify, inv_addSignal]

theorem inv_failEntry (h : s.Inv) (e : WatchEnt) (status counter : Nat) : (failEntry s e status counter).Inv := by
  grind [failEntry, inv_bump, inv_sendNotify]

/-! ### Contexts -/

theorem inv_setCtx (h : s.Inv) (x : Nat) (c : Ctx) : (setCtx s x c).Inv := h.of_eq rfl rfl rfl

theorem inv_updCtx (h : s.Inv) (x : Nat) (f : Ctx → Ctx) : (updCtx s x f).Inv := by
  grind [updCtx, inv_setCtx]

theorem inv_updRun (h : s.Inv) (x : Nat) (f : Run → Run) : (updRun s x f).Inv := by
  grind [updRun, inv_updCtx]

/-! ### Ring accesses (R237) -/

theorem inv_ringXl (h : s.Inv) (c : Ctx) (addr need : Nat) : (ringXl s c addr need).1.Inv := by
  grind [ringXl, inv_slotXl, inv_recordFault]

theorem inv_ringRead (h : s.Inv) (c : Ctx) (addr len : Nat) : (ringRead s c addr len).1.Inv := by
  grind [ringRead, inv_agentRange, inv_ringXl, inv_load]

theorem inv_storeMirrored (h : s.Inv) (a : Nat) (b : List Byte) (use : OwnUse) : (storeMirrored s a b use).1.Inv := by
  grind [storeMirrored, inv_store, inv_mirrorLine, inv_foldl]

theorem inv_ringWrite (h : s.Inv) (c : Ctx) (addr : Nat) (b : List Byte) (use : OwnUse) :
    (ringWrite s c addr b use).1.Inv := by
  grind [ringWrite, inv_storeMirrored, inv_agentRange, inv_ringXl]

theorem inv_ringClear (h : s.Inv) (c : Ctx) (addr len : Nat) : (ringClear s c addr len).2.Inv := by
  grind [ringClear, inv_wordXl, inv_agentRange]

theorem inv_headerPut (h : s.Inv) (x : Nat) (c : Ctx) (off : Nat) (b : List Byte) : (headerPut s x c off b).1.Inv := by
  grind [headerPut, inv_ringWrite, = inv_mk]

theorem inv_flushPosts (h : s.Inv) (x : Nat) : (flushPosts s x).Inv := by
  grind [flushPosts, inv_headerPut, = inv_mk, inv_foldl]

/-! ### Shadows, parks and stops -/

theorem inv_freeShadow (h : s.Inv) (sh : Nat) : (freeShadow s sh).Inv := h.of_eq rfl rfl rfl

theorem inv_leaveRecord (h : s.Inv) (r : Nat × Nat) : (leaveRecord s r).Inv := by
  grind [leaveRecord, inv_setFault]

theorem inv_dropPark (h : s.Inv) (x : Nat) : (dropPark s x).Inv := by
  grind [dropPark, inv_updCtx, inv_leaveRecord, = inv_mk, inv_foldl]

theorem inv_freeRun (h : s.Inv) (r : Option Run) : (freeRun s r).Inv := by
  unfold freeRun
  repeat' split
  all_goals grind [inv_freeShadow]

theorem inv_dropNext (h : s.Inv) (x : Nat) : (dropNext s x).Inv := by
  grind [dropNext, inv_freeRun, inv_setCtx]

theorem inv_freeWatchOpt (h : s.Inv) (w : Option Nat) : (freeWatchOpt s w).Inv := by
  unfold freeWatchOpt
  repeat' split
  all_goals grind [inv_freeWatch]

theorem inv_stopBulk (h : s.Inv) (x : Nat) : (stopBulk s x).Inv := by
  grind [stopBulk, = inv_mk]

theorem inv_dropWork (h : s.Inv) (x : Nat) : (dropWork s x).Inv := by
  grind [dropWork, inv_dropNext, inv_dropPark, inv_stopBulk, inv_freeShadow, inv_setCtx]

theorem inv_enterStopped (h : s.Inv) (x cause : Nat) : (enterStopped s x cause).Inv := by
  grind [enterStopped, inv_dropWork, inv_freeWatchOpt, inv_headerPut, inv_setCtx]

theorem inv_stopCtx (h : s.Inv) (x cause : Nat) : (stopCtx s x cause).Inv := by
  grind [stopCtx, inv_dropNext, inv_freeWatchOpt, inv_dropPark, inv_enterStopped, inv_setCtx]

/-! ### Virtual time (R493) -/

theorem inv_chargeUse (h : s.Inv) (c : Ctx) : (chargeUse s c).Inv := h.of_eq rfl rfl rfl

theorem inv_wakeTenant (h : s.Inv) (t : Nat) : (wakeTenant s t).Inv := by
  grind [wakeTenant, = inv_mk]

/-! ### TAIL and the state of a context -/

theorem inv_takeTail (h : s.Inv) (x v : Nat) (counted : Bool) : (takeTail s x v counted).Inv := by
  grind [takeTail, inv_dropNext, inv_bump, inv_report, inv_enterStopped, inv_setCtx]

theorem inv_readTail (h : s.Inv) (x : Nat) (counted : Bool) : (readTail s x counted).Inv := by
  grind [readTail, inv_ringRead, inv_takeTail, inv_updCtx, inv_stopCtx]

theorem inv_settle (h : s.Inv) (x : Nat) : (settle s x).Inv := by
  grind [settle, inv_updCtx, inv_wakeTenant, inv_setCtx, inv_readTail]

/-! ### WAIT (R243) -/

theorem inv_startWait (h : s.Inv) (x : Nat) : (startWait s x).Inv := by
  unfold startWait
  repeat' split
  all_goals grind [inv_wordXl, inv_installWatch, inv_updCtx, inv_loadWord, inv_agentLine, inv_updRun]

/-! ### Acceptance -/

theorem inv_takeNumber (h : s.Inv) : (takeNumber s).1.Inv := by
  grind [takeNumber, = inv_mk]

theorem inv_putShadow (h : s.Inv) (sh : Nat) (d : Shadow) : (putShadow s sh d).Inv := h.of_eq rfl rfl rfl

theorem inv_parkOn (h : s.Inv) (x src : Nat) (fs : List Flt) (raw : List Byte) (bulk : Option Msg) :
    (parkOn s x src fs raw bulk).Inv := by
  grind [parkOn, inv_bump, inv_updCtx, inv_recordFault, = inv_mk, inv_foldl, inv_foldl_fst]

theorem inv_enqueueRun (h : s.Inv) (x : Nat) (r : Run) : (enqueueRun s x r).Inv := by
  grind [enqueueRun, inv_settle, inv_updCtx, inv_startWait]

theorem inv_admitCourse (h : s.Inv) (x : Nat) (c : Ctx) (d : Nat) (raw : List Byte) :
    (admitCourse s x c d raw).Inv := by
  grind [admitCourse, inv_enqueueRun, inv_settle, inv_putShadow, inv_parkOn, inv_takeNumber, inv_xlDesc]

theorem inv_postAdmit (h : s.Inv) (x : Nat) (c : Ctx) (cause retry : Nat) : (postAdmit s x c cause retry).Inv := by
  grind [postAdmit, inv_bump, inv_headerPut, inv_stopCtx, inv_setCtx]

theorem inv_clearAdmit (h : s.Inv) (x : Nat) (c : Ctx) : (clearAdmit s x c).Inv := by
  grind [clearAdmit, inv_headerPut, inv_stopCtx, inv_setCtx]

theorem inv_acceptNext (h : s.Inv) (x : Nat) : (acceptNext s x).Inv := by
  have h0 := inv_flushPosts h x
  unfold acceptNext
  extract_lets s0
  have h0 : s0.Inv := inv_flushPosts h x
  clear_value s0
  repeat' split
  all_goals grind (splits := 12) [inv_postAdmit, inv_bump, inv_ringRead, inv_clearAdmit, inv_admitCourse, inv_stopCtx]

theorem inv_execDescriptorAccept (h : s.Inv) {context : Nat} (e : execDescriptorAccept context s = .next t) :
    t.Inv := by
  grind [execDescriptorAccept, inv_acceptNext, inv_flushPosts]

/-! ### Completion -/

theorem inv_signalXl (h : s.Inv) (c : Ctx) (sh addr : Nat) : (signalXl s c sh addr).1.Inv := by
  grind [signalXl, inv_wordXl, inv_ringXl]

theorem inv_advance (h : s.Inv) (x : Nat) (c : Ctx) (sh addr amount desc : Nat) (bulk : Bool) :
    (advance s x c sh addr amount desc bulk).1.Inv := by
  unfold advance
  repeat' split
  all_goals grind [inv_signalXl, inv_chargeSegs, inv_signalAdd, inv_agentLine, inv_ownRequestVia, = inv_mk]

theorem inv_writeRecord (h : s.Inv) (c : Ctx) (sh d : Nat) (rec_ : List Byte) : (writeRecord s c sh d rec_).2.Inv := by
  grind [writeRecord, inv_ringWrite, inv_ringClear]

theorem inv_finishSuspend (h : s.Inv) (x : Nat) : (finishSuspend s x).Inv := by
  grind [finishSuspend, inv_finishAll]

theorem inv_conclude (h : s.Inv) (x : Nat) (r : Run) (poison : Bool) : (conclude s x r poison).Inv := by
  grind [conclude, inv_chargeUse, inv_dropNext, inv_settle, inv_updCtx, inv_freeWatchOpt, inv_enterStopped,
    inv_startWait, inv_finishSuspend, inv_freeShadow, inv_setCtx]

theorem inv_completeRun (h : s.Inv) (x : Nat) : (completeRun s x).Inv := by
  unfold completeRun
  repeat' split
  all_goals grind [inv_chargeUse, inv_updCtx, inv_freeWatchOpt, inv_advance, inv_conclude, inv_enterStopped,
    inv_writeRecord, inv_finishSuspend, inv_freeShadow, inv_setCtx]

/-! ### The ring of a stopped or draining context (R247, R250) -/

theorem inv_drainSlot (h : s.Inv) (x : Nat) (c : Ctx) : (drainSlot s x c).2.Inv := by
  grind [drainSlot, inv_ringRead, inv_wordXl, inv_updCtx, inv_advance, inv_agentLine, inv_writeRecord]

theorem inv_drainSlots (h : s.Inv) (n x : Nat) : (drainSlots n s x).2.Inv := by
  induction n generalizing s with
  | zero => exact h
  | succ n ih => grind [drainSlots, inv_drainSlot]

/-! ### Revalidation (R93 to R95) -/

theorem inv_againEntry (h : s.Inv) (tenant src need : Nat) (e : ShEntry) : (againEntry s tenant src need e).1.Inv := by
  grind [againEntry, inv_windowXl, inv_slotXl]

theorem inv_revalidate (h : s.Inv) (sh src : Nat) (us : List OpUnits) : (revalidate s sh src us).1.Inv := by
  grind [revalidate, inv_putShadow, inv_againEntry, inv_foldl_fst]

theorem inv_markHeld (h : s.Inv) (sh : Nat) (v : Bool) : (markHeld s sh v).Inv := by
  grind [markHeld, inv_putShadow, inv_updJob]

theorem inv_revalJob (h : s.Inv) (sh src : Nat) (us : List OpUnits) : (revalJob s sh src us).2.Inv := by
  grind [revalJob, inv_updJob, inv_revalidate, inv_markHeld]

/-! ### Dispatch (R225, R256, R287, R566) -/

theorem inv_loadProgram (h : s.Inv) (x : Nat) (r : Run) : (loadProgram s x r).2.Inv := by
  grind [loadProgram, inv_ensureRead, inv_fetch, inv_updJob, inv_updRun]

theorem inv_loadBroadcast (h : s.Inv) (x : Nat) (r : Run) : (loadBroadcast s x r).2.Inv := by
  unfold loadBroadcast
  extract_lets k sh rs
  split
  next s1 e => exact (inv_ensureReads h sh rs).of_snd e
  next s1 e =>
  have h1 : s1.Inv := (inv_ensureReads h sh rs).of_snd e
  split
  next bs bad s2 e2 =>
  have h2 : s2.Inv := by
    refine State.Inv.of_snd_snd ?_ e2
    exact inv_foldl_snd_snd (fun p e hp => inv_fetch hp ..) h1
  extract_lets s3
  have h3 : s3.Inv := inv_updJob h2 _ _
  split <;> grind [inv_updJob, inv_updRun]

theorem inv_startOn (h : s.Inv) (x : Nat) (cs : List Nat) : (startOn s x cs).Inv := by
  unfold startOn
  repeat' split
  all_goals grind [inv_loadProgram, inv_settle, inv_updCtx, inv_revalJob, inv_loadBroadcast, inv_markHeld, = inv_mk]

theorem inv_execCourseDispatch (h : s.Inv) {context : Nat} (e : execCourseDispatch context s = .next t) : t.Inv := by
  grind [execCourseDispatch, inv_settle, inv_flushPosts, inv_startWait, inv_startOn, inv_setCtx]

theorem inv_execStealWaitExpire (h : s.Inv) {context : Nat} (e : execStealWaitExpire context s = .next t) : t.Inv := by
  grind [execStealWaitExpire, inv_reach, inv_execCourseDispatch, inv_setCtx]

theorem inv_execGangWaitExpire (h : s.Inv) {context : Nat} (e : execGangWaitExpire context s = .next t) : t.Inv := by
  grind [execGangWaitExpire, inv_reach, inv_startOn]

theorem inv_execNotBeforeReached (h : s.Inv) {context : Nat} (e : execNotBeforeReached context s = .next t) :
    t.Inv := by
  grind [execNotBeforeReached, inv_settle, inv_reach]

/-! ### Tiles -/

theorem inv_computeTile (h : s.Inv) (x : Nat) (r : Run) (t : Tile) : (computeTile s x r t).Inv := by
  grind [computeTile, inv_bump, inv_tileSources, inv_updRun]

theorem inv_placeTile (h : s.Inv) (bulk : Bool) (x sh t : Nat) (os : Piece → Opd) (push : Piece → Option Nat) :
    (placeTile s bulk x sh t os push).Inv := by
  unfold placeTile
  repeat' split
  all_goals grind [inv_ensureWrites, inv_placePiece, inv_updJob, inv_foldl]

theorem inv_workTile (h : s.Inv) (x t : Nat) : (workTile s x t).Inv := by
  grind [workTile, inv_computeTile, inv_placeTile]

theorem inv_sendCommit (h : s.Inv) (bulk : Bool) (x sh desc t : Nat) : (sendCommit s bulk x sh desc t).Inv := by
  grind [sendCommit, inv_updJob, inv_ownRequestVia, = inv_mk]

theorem inv_endTile (h : s.Inv) (bulk : Bool) (x sh t : Nat) (mir : Bool) : (endTile s bulk x sh t mir).2.Inv := by
  grind [endTile, inv_sendCommit, inv_updJob]

theorem inv_startRound (h : s.Inv) (x : Nat) (c : Ctx) (r : Run) : (startRound s x c r).Inv := by
  grind [startRound, inv_updJob, inv_workTile, inv_updRun, inv_markHeld, inv_foldl]

/-! ### Bulk tiles (R82, R92) -/

theorem inv_computeBulk (h : s.Inv) (b : BulkJob) (t : Nat) : (computeBulk s b t).Inv := by
  grind [computeBulk, inv_ensureRead, inv_fetch, inv_updJob]

theorem inv_workBulk (h : s.Inv) (x t : Nat) : (workBulk s x t).Inv := by
  grind [workBulk, inv_computeBulk, inv_placeTile]

theorem inv_startBulk (h : s.Inv) (x : Nat) (c : Ctx) (b : BulkJob) : (startBulk s x c b).Inv := by
  exact .ite h (.ite (inv_markHeld h _ _) (inv_workBulk (inv_updJob h ..) _ _))

theorem inv_execTileStart (h : s.Inv) {context : Nat} {bulk : Bool} (e : execTileStart context bulk s = .next t) :
    t.Inv := by
  grind [execTileStart, inv_startRound, inv_startBulk]

theorem inv_execTileEnd (h : s.Inv) {context : Nat} {bulk : Bool} {tile : Nat}
    (e : execTileEnd context bulk tile s = .next t) :
    t.Inv := by
  grind [execTileEnd, inv_workBulk, inv_endTile, inv_bump64, inv_workTile]

/-! ### Preemption (R253 to R255) -/

theorem inv_execQuantumExpire (h : s.Inv) {context : Nat} (e : execQuantumExpire context s = .next t) : t.Inv := by
  grind [execQuantumExpire, inv_reach, inv_updRun]

theorem inv_execPreemptSaveDone (h : s.Inv) {context : Nat} (e : execPreemptSaveDone context s = .next t) : t.Inv := by
  grind [execPreemptSaveDone, inv_chargeUse, inv_dropNext, inv_settle, inv_updCtx, inv_bump64, inv_finishSuspend,
    inv_poke]

theorem inv_execRevalidationDone (h : s.Inv) {context : Nat} (e : execRevalidationDone context s = .next t) :
    t.Inv := by
  grind [execRevalidationDone, inv_revalJob, inv_foldl]

/-! ### Bulk descriptors (R84, R85, R349, R381) -/

theorem inv_enqueueBulk (h : s.Inv) (x src desc : Nat) (raw : List Byte) (n : Nat) (fail : Option (Nat × Nat)) :
    (enqueueBulk s x src desc raw n fail).Inv := by
  grind [enqueueBulk, inv_settle, = inv_mk]

theorem inv_admitBulk (h : s.Inv) (x : Nat) (c : Ctx) (m : Msg) : (admitBulk s x c m).1.Inv := by
  grind [admitBulk, inv_enqueueBulk, inv_settle, inv_putShadow, inv_parkOn, inv_takeNumber, inv_xlDesc, inv_sendCfg, =
    inv_mk]

theorem inv_bulkArrive (h : s.Inv) (m : Msg) : (bulkArrive s m).Inv := by
  grind [bulkArrive, inv_bump, inv_updCtx, inv_answer, inv_free32, inv_admitBulk, inv_setCtx]

theorem inv_execBulkDesc (h : s.Inv) {port_ : Nat} {msg : Msg} (e : execBulkDesc port_ msg s = .next t) : t.Inv := by
  grind [execBulkDesc, inv_bulkArrive, inv_arriveReq]

theorem inv_dropBulk (h : s.Inv) (sh : Nat) : (dropBulk s sh).Inv := by
  grind [dropBulk, inv_freeShadow, = inv_mk]

theorem inv_completeBulk (h : s.Inv) (x : Nat) : (completeBulk s x).Inv := by
  grind [completeBulk, inv_dropBulk, inv_settle, inv_advance, inv_startWait, inv_finishSuspend, inv_stopCtx,
    inv_sendCfg]

theorem inv_execDescriptorComplete (h : s.Inv) {context : Nat} {bulk : Bool}
    (e : execDescriptorComplete context bulk s = .next t) :
    t.Inv := by
  grind [execDescriptorComplete, inv_completeBulk, inv_completeRun, inv_flushPosts]

theorem inv_execStoppedDescriptorDrain (h : s.Inv) {context : Nat}
    (e : execStoppedDescriptorDrain context s = .next t) :
    t.Inv := by
  grind [execStoppedDescriptorDrain, inv_drainSlots, inv_completeBulk, inv_flushPosts]

/-! ### Wake-ups of contexts (R234, R235, R243, R295, R303) -/

theorem inv_wakeTail (h : s.Inv) (x v : Nat) : (wakeTail s x v).Inv := by
  grind [wakeTail, inv_takeTail, inv_settle, inv_setCtx]

theorem inv_wakeWait (h : s.Inv) (x : Nat) : (wakeWait s x).Inv := by
  grind [wakeWait, inv_updCtx]

theorem inv_failWait (h : s.Inv) (x status cause : Nat) : (failWait s x status cause).Inv := by
  grind [failWait, inv_updCtx]

theorem inv_failTail (h : s.Inv) (x : Nat) : (failTail s x).Inv := by
  grind [failTail, inv_updCtx, inv_stopCtx]

/-! ### Evaluation of entries -/

theorem inv_poisonEntry (h : s.Inv) (x : Nat) (e : WatchEnt) : (poisonEntry s x e).Inv := by
  grind [poisonEntry, inv_bump, inv_failWait, inv_freeWatch, inv_failEntry, inv_failTail]

theorem inv_evalEntry (h : s.Inv) (x : Nat) (e : WatchEnt) (v : Nat) : (evalEntry s x e v).Inv := by
  grind [evalEntry, inv_fireEntry, inv_bump, inv_wakeWait, inv_freeWatch, inv_wakeTail]

theorem inv_fireClear (h : s.Inv) (e : WatchEnt) : (fireClear s e).2.Inv := by
  grind [fireClear, inv_addClear]

theorem inv_noticeValue (h : s.Inv) (n : Notice) (e : WatchEnt) : (noticeValue s n e).2.Inv := by
  grind [noticeValue, inv_loadWord]

theorem inv_noticeClear (h : s.Inv) (n : Notice) (l : List (Nat × WatchEnt)) : (noticeClear s n l).2.Inv := by
  induction l generalizing s with
  | nil => exact h
  | cons x t ih => grind [noticeClear, inv_noticeValue, inv_fireClear]

theorem inv_evalAll (h : s.Inv) (n : Notice) (es : List (Nat × WatchEnt)) : (evalAll s n es).Inv := by
  grind [evalAll, inv_noticeValue, inv_poisonEntry, inv_evalEntry, inv_foldl]

theorem inv_execWatchNotice (h : s.Inv) {line : Nat} (e : execWatchNotice line s = .next t) : t.Inv := by
  unfold execWatchNotice at e
  repeat' split at e
  all_goals grind [inv_bump64, inv_evalAll, inv_agentLine, inv_noticeClear, = inv_mk]

theorem inv_fireTime (h : s.Inv) (watch : Nat) (e : WatchEnt) : (fireTime s watch e).Inv := by
  grind [fireTime, inv_fireClear, inv_fireEntry, inv_freeWatch]

theorem inv_execTimeWatchFire (h : s.Inv) {watch : Nat} (e : execTimeWatchFire watch s = .next t) : t.Inv := by
  grind [execTimeWatchFire, inv_reach, inv_fireTime]

theorem inv_revalWatch (h : s.Inv) (x : Nat) (e : WatchEnt) : (revalWatch s x e).Inv := by
  grind [revalWatch, inv_wordXl, inv_bump, inv_failWait, inv_freeWatch, inv_failEntry, inv_failTail, inv_putWatch, =
    inv_mk]

/-! ### WATCH_ARM and WATCH_DISARM -/

theorem inv_armNow (h : s.Inv) (m : Msg) : (armNow s m).Inv := by
  unfold armNow
  extract_lets bad word src done
  have hbad : ∀ {u : State} (c : Nat), u.Inv → (bad u c).Inv := fun _ hu => inv_answer hu _ _
  have hdone : ∀ {u : State} (x : Nat), u.Inv → (done u x).Inv := fun _ hu => inv_answer hu _ _
  clear_value bad done
  split
  · exact hbad _ h
  split
  · exact hbad _ h
  split
  · exact hbad _ h
  split
  · exact hbad _ h
  extract_lets one
  have hone : ∀ {u : State} (a n : Nat), u.Inv → (one u a n).1.Inv := by
    grind [inv_unitsXl]
  clear_value one
  generalize ew : (ite (armTime m = true) _ _ : State × _) = rw
  have h1 : rw.1.Inv := by grind
  clear ew
  obtain ⟨s1, w⟩ := rw
  dsimp only at h1 ⊢
  generalize ed : (ite (armAction m = 2) _ _ : State × _) = rd
  have h2 : rd.1.Inv := by grind
  clear ed
  obtain ⟨s2, d⟩ := rd
  dsimp only at h2 ⊢
  split
  · split
    · exact inv_answer (inv_bump h2 _ _) _ _
    generalize ei : installWatch s2 _ = r
    have h3 : r.1.Inv := ei ▸ inv_installWatch h2 _
    clear ei
    split
    · exact inv_answer (inv_bump h3 _ _) _ _
    · grind [inv_loadWord, inv_answer, inv_freeWatch, inv_evalEntry]
  · exact hbad _ h2

theorem inv_armClear (h : s.Inv) (m : Msg) : (armClear s m).2.Inv := by
  grind [armClear, inv_wordXl, inv_addClear, inv_agentLine]

theorem inv_execWatchArm (h : s.Inv) {port_ : Nat} {msg : Msg} (e : execWatchArm port_ msg s = .next t) : t.Inv := by
  grind [execWatchArm, inv_arriveReq, inv_armClear, inv_armNow]

theorem inv_disarmNow (h : s.Inv) (m : Msg) : (disarmNow s m).Inv := by
  grind [disarmNow, inv_freeWatch, inv_answer]

theorem inv_execWatchDisarm (h : s.Inv) {port_ : Nat} {msg : Msg} (e : execWatchDisarm port_ msg s = .next t) :
    t.Inv := by
  grind [execWatchDisarm, inv_arriveReq, inv_disarmNow]

theorem inv_execWatchQuery (h : s.Inv) {slot : Nat} {tag : Word32} {tenant first count : Word64}
    (e : execWatchQuery slot tag tenant first count s = .next t) :
    t.Inv := by
  grind [execWatchQuery, inv_runCmd]

/-! ### Lintel objects -/

theorem inv_putLintel (h : s.Inv) (b : Nat) (l : Lintel) : (putLintel s b l).Inv := h.of_eq rfl rfl rfl

theorem inv_copyLintel (h : s.Inv) (b : Nat) (l : Lintel) : (copyLintel s b l).Inv := by
  grind [copyLintel, inv_poke]

theorem inv_releaseOnce (h : s.Inv) (b : Nat) (l : Lintel) (broken : Bool) : (releaseOnce s b l broken).1.Inv := by
  grind [releaseOnce, inv_bump, inv_bump64, inv_sendNotify, inv_copyLintel, inv_putLintel, inv_addSignal, inv_foldl]

theorem inv_releaseAll (h : s.Inv) (n b : Nat) (l : Lintel) : (releaseAll n s b l).1.Inv := by
  induction n generalizing s l with
  | zero => exact h
  | succ n ih => grind [releaseAll, inv_releaseOnce]

theorem inv_lintelClear (h : s.Inv) (b : Nat) : (lintelClear s b).2.Inv := by
  grind [lintelClear, inv_addClear]

theorem inv_arriveNow (h : s.Inv) (m : Msg) : (arriveNow s m).Inv := by
  unfold arriveNow
  extract_lets b rank gen ack
  have hack {u : State} (hu : u.Inv) (st xf cur : Nat) : (ack u st xf cur).Inv := inv_answer hu _ _
  split
  · exact hack h _ _ _
  next l _ =>
  extract_lets d
  split
  · exact hack h _ _ _
  split
  · split
    next s1 l1 e => exact hack ((inv_releaseAll (inv_putLintel h b _) 3 b _).of_fst e) _ _ _
  split
  · exact hack (inv_putLintel h ..) _ _ _
  split
  · exact hack (inv_bump h _ _) _ _ _
  · exact hack (inv_bump h _ _) _ _ _

theorem inv_execArrive (h : s.Inv) {port_ : Nat} {msg : Msg} (e : execArrive port_ msg s = .next t) : t.Inv := by
  grind [execArrive, inv_lintelClear, inv_arriveNow, inv_arriveReq]

theorem inv_doLintelCreate (h : s.Inv) (b cfg relSignal relAddr tag : Nat) :
    (doLintelCreate b cfg relSignal relAddr tag s).1.Inv := by
  grind [doLintelCreate, inv_wordXl, inv_putLintel]

theorem inv_execLintelCreate (h : s.Inv) {slot : Nat} {tag : Word32} {object cfg relSignal relAddr relTag : Word64}
    (e : execLintelCreate slot tag object cfg relSignal relAddr relTag s = .next t) :
    t.Inv := by
  grind [execLintelCreate, inv_doLintelCreate, inv_runTwin]

theorem inv_breakLintel (h : s.Inv) (b : Nat) (l : Lintel) : (breakLintel s b l).1.Inv := by
  grind [breakLintel, inv_releaseAll, inv_releaseOnce]

theorem inv_doLintelDestroy (h : s.Inv) (b : Nat) : (doLintelDestroy b s).1.Inv := by
  grind [doLintelDestroy, inv_lintelClear, inv_breakLintel, = inv_mk]

theorem inv_execLintelDestroy (h : s.Inv) {slot : Nat} {tag : Word32} {object : Word64}
    (e : execLintelDestroy slot tag object s = .next t) :
    t.Inv := by
  grind [execLintelDestroy, inv_runTwin, inv_doLintelDestroy]

theorem inv_execLintelQuery (h : s.Inv) {slot : Nat} {tag : Word32} {object : Word64}
    (e : execLintelQuery slot tag object s = .next t) :
    t.Inv := by
  grind [execLintelQuery, inv_runCmd]

theorem inv_doLintelBreak (h : s.Inv) (b : Nat) : (doLintelBreak b s).1.Inv := by
  grind [doLintelBreak, inv_lintelClear, inv_breakLintel]

theorem inv_execLintelBreak (h : s.Inv) {slot : Nat} {tag : Word32} {object : Word64}
    (e : execLintelBreak slot tag object s = .next t) :
    t.Inv := by
  grind [execLintelBreak, inv_runTwin, inv_doLintelBreak]

/-! ### Parked descriptors -/

theorem inv_retryPark (h : s.Inv) (x : Nat) : (retryPark s x).Inv := by
  grind [retryPark, inv_acceptNext, inv_settle, inv_admitBulk, inv_setCtx]

theorem inv_execAdmitRetryExpire (h : s.Inv) {context : Nat} (e : execAdmitRetryExpire context s = .next t) :
    t.Inv := by
  grind [execAdmitRetryExpire, inv_acceptNext, inv_reach, inv_retryPark]

/-! ### CONTEXT_CREATE -/

theorem inv_armTail (h : s.Inv) (x : Nat) : (armTail s x).Inv := by
  grind [armTail, inv_wordXl, inv_installWatch, inv_setCtx]

theorem inv_createNow (h : s.Inv) (x t ring ccfg : Nat) : (createNow s x t ring ccfg).Inv := by
  grind [createNow, inv_settle, inv_armTail, inv_setCtx]

theorem inv_doCtxCreate (h : s.Inv) (x t ring ccfg : Nat) : (doCtxCreate x t ring ccfg s).1.Inv := by
  grind [doCtxCreate, inv_bump, inv_createNow]

theorem inv_execContextCreate (h : s.Inv) {slot : Nat} {tag : Word32} {context tenant ring ccfg : Word64}
    (e : execContextCreate slot tag context tenant ring ccfg s = .next t) :
    t.Inv := by
  grind [execContextCreate, inv_doCtxCreate, inv_runTwin]

/-! ### CONTEXT_DESTROY and its drain -/

theorem inv_destroyNow (h : s.Inv) (x : Nat) : (destroyNow s x).Inv := by
  grind [destroyNow, inv_dropWork, inv_freeWatchOpt, inv_finishSuspend, inv_setCtx]

theorem inv_doCtxDestroy (h : s.Inv) (x : Nat) : (doCtxDestroy x s).1.Inv := by
  grind [doCtxDestroy, inv_ringRead, inv_destroyNow, inv_takeTail, inv_finishAll]

theorem inv_execContextDestroy (h : s.Inv) {slot : Nat} {tag : Word32} {context : Word64}
    (e : execContextDestroy slot tag context s = .next t) :
    t.Inv := by
  grind [execContextDestroy, inv_doCtxDestroy, inv_runTwin]

theorem inv_execContextDrainDone (h : s.Inv) {context : Nat} (e : execContextDrainDone context s = .next t) :
    t.Inv := by
  grind [execContextDrainDone, inv_finishAll, inv_createNow, = inv_mk]

/-! ### CONTEXT_RESTART, SUSPEND, RESUME, SET, QUERY -/

theorem inv_doCtxRestart (h : s.Inv) (x : Nat) : (doCtxRestart x s).1.Inv := by
  unfold doCtxRestart
  repeat' split
  all_goals grind [inv_ringRead, inv_takeTail, inv_drainSlots, inv_settle, inv_updCtx, inv_completeBulk, inv_armTail,
    inv_headerPut, inv_setCtx, inv_foldl]

theorem inv_execContextRestart (h : s.Inv) {slot : Nat} {tag : Word32} {context : Word64}
    (e : execContextRestart slot tag context s = .next t) :
    t.Inv := by
  grind [execContextRestart, inv_doCtxRestart, inv_runTwin]

theorem inv_doCtxSuspend (h : s.Inv) (x : Nat) : (doCtxSuspend x s).1.Inv := by
  grind [doCtxSuspend, inv_setCtx]

theorem inv_execContextSuspend (h : s.Inv) {slot : Nat} {tag : Word32} {context : Word64}
    (e : execContextSuspend slot tag context s = .next t) :
    t.Inv := by
  grind [execContextSuspend, inv_runTwin, inv_doCtxSuspend, inv_finishSuspend]

theorem inv_doCtxResume (h : s.Inv) (x : Nat) : (doCtxResume x s).1.Inv := by
  grind [doCtxResume, inv_settle, inv_retryPark, inv_setCtx]

theorem inv_execContextResume (h : s.Inv) {slot : Nat} {tag : Word32} {context : Word64}
    (e : execContextResume slot tag context s = .next t) :
    t.Inv := by
  grind [execContextResume, inv_runTwin, inv_doCtxResume]

theorem inv_doCtxSet (h : s.Inv) (x ccfg mask : Nat) : (doCtxSet x ccfg mask s).1.Inv := by
  grind [doCtxSet, inv_setCtx]

theorem inv_execContextSet (h : s.Inv) {slot : Nat} {tag : Word32} {context ccfg mask : Word64}
    (e : execContextSet slot tag context ccfg mask s = .next t) :
    t.Inv := by
  grind [execContextSet, inv_doCtxSet, inv_runTwin]

theorem inv_execContextQuery (h : s.Inv) {slot : Nat} {tag : Word32} {context : Word64}
    (e : execContextQuery slot tag context s = .next t) :
    t.Inv := by
  grind [execContextQuery, inv_runCmd]

/-! ### Courses -/

theorem inv_execCourseCaps (h : s.Inv) {slot : Nat} {tag : Word32} (e : execCourseCaps slot tag s = .next t) :
    t.Inv := by
  grind [execCourseCaps, inv_runCmd]

theorem inv_putCourse (h : s.Inv) (k v : Nat) : (putCourse s k v).Inv := by
  grind [putCourse, inv_rputF]

theorem inv_disableCourse (h : s.Inv) (k : Nat) : (disableCourse s k).Inv := by
  grind [disableCourse, inv_putCourse, = inv_mk]

theorem inv_cancelEnable (h : s.Inv) (k : Nat) : (cancelEnable s k).Inv := by
  grind [cancelEnable, = inv_mk]

theorem inv_finishCourses (h : s.Inv) : (finishCourses s).Inv := by
  grind [finishCourses, inv_finalReply, inv_foldl]

theorem inv_doCourseSet (h : s.Inv) (mask enable : Nat) : (doCourseSet mask enable s).1.Inv := by
  unfold doCourseSet
  extract_lets off on late s1 s2 s3 sum wait
  have h1 : s1.Inv := inv_finishCourses (inv_foldl (fun _ _ hu => inv_cancelEnable hu _) h)
  have h2 : s2.Inv := inv_foldl (fun _ _ hu => inv_disableCourse hu _) h1
  have h3 : s3.Inv := inv_foldl (fun _ _ hu => inv_putCourse hu _ _) h2
  split
  · exact h3
  · exact h3

theorem inv_execCourseSet (h : s.Inv) {slot : Nat} {tag : Word32} {mask enable : Word64}
    (e : execCourseSet slot tag mask enable s = .next t) :
    t.Inv := by
  grind [execCourseSet, inv_runTwin, inv_doCourseSet]

theorem inv_execCourseDrainDone (h : s.Inv) {course : Nat} (e : execCourseDrainDone course s = .next t) : t.Inv := by
  grind [execCourseDrainDone, inv_finishCourses, inv_putCourse, = inv_mk]

/-! ### Frames -/

theorem inv_roceAnswer (h : s.Inv) (q : Nat) (f : EthKind) : (roceAnswer s q f).Inv := by
  grind [roceAnswer, inv_ethQueue, inv_setQp]

theorem inv_roceMirrored (h : s.Inv) (q : Nat) : (roceMirrored s q).Inv := by
  grind [roceMirrored, inv_roceAnswer, inv_setQp, inv_foldl]

/-! ### Refusals (R405) -/

theorem inv_roceNak (h : s.Inv) (q psn code : Nat) : (roceNak s q psn code).Inv := by
  grind [roceNak, inv_roceAnswer, inv_setQp]

/-! ### Translation (R402, R403) -/

theorem inv_roceFault (h : s.Inv) (q : Nat) (f : Flt) : (roceFault s q f).Inv := by
  unfold roceFault
  grind [inv_setFault, inv_recordFault]

theorem inv_roceXl (h : s.Inv) (q tenant need : Nat) (l : List (Nat × Nat)) : (roceXl s q tenant need l).1.Inv := by
  induction l generalizing s with
  | nil => exact h
  | cons x t ih => grind [roceXl, inv_slotXl, inv_roceFault]

theorem inv_roceBegin (h : s.Inv) (q tenant need va len : Nat) : (roceBegin s q tenant need va len).1.Inv := by
  grind [roceBegin, inv_roceXl]

theorem inv_roceUnit (h : s.Inv) (tenant need : Nat) (us : List (Nat × Nat × Nat × Nat)) (a : Nat) :
    (roceUnit s tenant need us a).1.Inv := by
  grind [roceUnit, inv_slotXl]

theorem inv_roceCheck (h : s.Inv) (tenant need : Nat) (us : List (Nat × Nat × Nat × Nat)) (l : List (Nat × Nat)) :
    (roceCheck s tenant need us l).1.Inv := by
  induction l generalizing s us with
  | nil => exact h
  | cons x t ih => grind [roceCheck, inv_roceUnit]

theorem inv_roceClear (h : s.Inv) (segs : List (Nat × Nat)) (write : Bool) : (roceClear s segs write).2.Inv := by
  grind [roceClear, inv_agentRange, inv_foldl_snd]

/-! ### The requests -/

theorem inv_roceStore (h : s.Inv) (q : Nat) (l : List (Nat × Nat)) (b : List Byte) : (roceStore q s l b).1.Inv := by
  induction l generalizing s b with
  | nil => exact h
  | cons x t ih => grind [roceStore, inv_storeMirrored]

theorem inv_writeAt (h : s.Inv) (q : Nat) (p : QPair) (m : RocePkt) : (writeAt s q p m).1.Inv := by
  grind [writeAt, inv_roceBegin]

theorem inv_roceWrite (h : s.Inv) (q : Nat) (p : QPair) (m : RocePkt) : (roceWrite s q p m).2.Inv := by
  unfold roceWrite
  repeat' split
  all_goals grind [inv_roceClear, inv_chargeSegs, inv_roceNak, inv_writeAt, inv_roceStore, inv_roceAnswer, inv_setQp,
    inv_roceCheck]

theorem inv_roceRead (h : s.Inv) (q : Nat) (p : QPair) (m : RocePkt) (dup : Bool) : (roceRead s q p m dup).2.Inv := by
  grind [roceRead, inv_roceBegin, inv_roceNak, inv_setQp]

theorem inv_roceAtomic (h : s.Inv) (q : Nat) (p : QPair) (m : RocePkt) : (roceAtomic s q p m).2.Inv := by
  unfold roceAtomic
  repeat' split
  all_goals grind [inv_roceClear, inv_roceBegin, inv_chargeSegs, inv_loadWord, inv_roceNak, inv_storeWord,
    inv_mirrorLine, inv_roceAnswer, inv_setQp]

theorem inv_roceDup (h : s.Inv) (q : Nat) (p : QPair) (m : RocePkt) : (roceDup s q p m).2.Inv := by
  grind [roceDup, inv_roceRead, inv_roceAnswer, inv_setQp]

theorem inv_rocePacket (h : s.Inv) (q : Nat) (p : QPair) (m : RocePkt) : (rocePacket s q p m).2.Inv := by
  unfold rocePacket
  extract_lets d
  split
  · split
    · exact h
    · exact inv_roceAnswer (inv_setQp h _ _) _ _
  split
  · exact inv_roceNak h _ _ _
  split
  · exact inv_roceDup h _ _ _
  split
  · exact inv_roceWrite h _ _ _
  split
  · exact inv_roceRead h _ _ _ _
  · exact inv_roceAtomic h _ _ _

theorem inv_roceLeave (h : s.Inv) (p : QPair) (m : RocePkt) : (roceLeave s p m).Inv := by
  grind [roceLeave, inv_roceFill]

/-- A recursion on fuel keeps the forms when its body does. `rocePump` is read through it: the equations that Lean
derives for `rocePump` recurse too deep for the kernel. -/
theorem inv_brecOn {F : (n : Nat) → Nat.below (motive := fun _ => State → Nat → State) n → State → Nat → State}
    (h0 : ∀ b s q, s.Inv → (F 0 b s q).Inv)
    (hs : ∀ n b, (∀ s q, s.Inv → (b.1 s q).Inv) → ∀ s q, s.Inv → (F (n + 1) b s q).Inv) (h : s.Inv) (n q : Nat) :
    (Nat.brecOn (motive := fun _ => State → Nat → State) n F s q).Inv := by
  induction n generalizing s q with
  | zero => exact h0 _ s q h
  | succ n ih => exact hs n _ (fun u x hu => ih hu x) s q h

theorem inv_rocePump (h : s.Inv) (n q : Nat) : (rocePump n s q).Inv := by
  delta rocePump
  refine inv_brecOn (F := rocePump._f) (fun _ u _ hu => hu) (fun n b ih u q hu => ?_) h n q
  dsimp only [rocePump._f]
  split
  · exact hu
  split
  · exact hu
  next p _ _ m rest _ =>
  have hq := inv_setQp hu q { p with waiting := rest }
  split
  · exact ih _ _ (inv_roceLeave hq _ _)
  split
  next e => exact ih _ _ (inv_roceLeave ((inv_rocePacket hq _ _ _).of_snd e) _ _)
  next e =>
  have h1 := (inv_rocePacket hq _ _ _).of_snd e
  split
  · exact h1
  · exact inv_setQp h1 _ _

theorem inv_roceRun (h : s.Inv) (q : Nat) : (roceRun s q).Inv := by
  grind [roceRun, inv_rocePump]

theorem inv_roceMark (h : s.Inv) (q : Nat) (p : QPair) (m : RocePkt) : (roceMark s q p m).Inv := by
  grind [roceMark, inv_bump, inv_ethQueue, inv_setQp]

theorem inv_roceArrive (h : s.Inv) (k : Nat) (m : RocePkt) : (roceArrive s k m).Inv := by
  grind [roceArrive, inv_roceFill, inv_rxDrop, inv_rxFrame, inv_roceRun, inv_setQp, inv_roceMark]

theorem inv_execRdmaWrite (h : s.Inv) {port_ : Nat} {pkt : RocePkt} (e : execRdmaWrite port_ pkt s = .next t) :
    t.Inv := by
  grind [execRdmaWrite, inv_roceArrive]

theorem inv_execRdmaReadRequest (h : s.Inv) {port_ : Nat} {pkt : RocePkt}
    (e : execRdmaReadRequest port_ pkt s = .next t) :
    t.Inv := by
  grind [execRdmaReadRequest, inv_roceArrive]

theorem inv_execCompareAndSwap (h : s.Inv) {port_ : Nat} {pkt : RocePkt}
    (e : execCompareAndSwap port_ pkt s = .next t) :
    t.Inv := by
  grind [execCompareAndSwap, inv_roceArrive]

theorem inv_execFetchAndAdd (h : s.Inv) {port_ : Nat} {pkt : RocePkt} (e : execFetchAndAdd port_ pkt s = .next t) :
    t.Inv := by
  grind [execFetchAndAdd, inv_roceArrive]

theorem inv_execInvalidRocePacket (h : s.Inv) {port_ : Nat} {pkt : RocePkt}
    (e : execInvalidRocePacket port_ pkt s = .next t) :
    t.Inv := by
  grind [execInvalidRocePacket, inv_roceArrive]

theorem inv_roceRespond (h : s.Inv) (q : Nat) (p : QPair) (r : RoceRead) (rest : List RoceRead) :
    (roceRespond s q p r rest).Inv := by
  grind [roceRespond, inv_roceClear, inv_chargeSegs, inv_roceNak, inv_loadSegs, inv_roceAnswer, inv_setQp,
    inv_roceCheck]

theorem inv_execReadResponseSend (h : s.Inv) {qp : Nat} (e : execReadResponseSend qp s = .next t) : t.Inv := by
  grind [execReadResponseSend, inv_roceRespond, inv_roceRun]

/-! ### Fences -/

theorem inv_lateReply (h : s.Inv) (slot op : Nat) (tag : Word32) (words : List Nat) (r : Rep) :
    (lateReply s slot op tag words r).Inv := by
  unfold lateReply
  repeat' split
  all_goals grind [inv_oweReply, inv_reply]

theorem inv_beginSwitch (h : s.Inv) (src : Nat) : (beginSwitch s src).Inv := by
  grind [beginSwitch, inv_waitFence, inv_openFence, = inv_mk]

theorem inv_resumeChange (h : s.Inv) (w : FenceWait) : (resumeChange s w).Inv := by
  unfold resumeChange
  repeat' split
  all_goals grind [inv_lateReply, inv_doWindowSet, inv_doWindowClear, inv_beginSwitch, inv_doViewUnmap]

theorem inv_resumeChanges (h : s.Inv) (n : Nat) : (resumeChanges n s).Inv := by
  induction n generalizing s with
  | zero => exact h
  | succ n ih => grind [resumeChanges, inv_resumeChange, = inv_mk]

theorem inv_finishReleases (h : s.Inv) : (finishReleases s).Inv := by
  grind [finishReleases, inv_finishAll]

theorem inv_completeFence (h : s.Inv) (f : Nat) : (completeFence s f).Inv := by
  grind [completeFence, inv_resumeChanges, inv_freeExtent, inv_finishReleases, inv_roceRun, inv_revalWatch, = inv_mk,
    inv_foldl]

theorem inv_execFenceComplete (h : s.Inv) {fence : Nat} (e : execFenceComplete fence s = .next t) : t.Inv := by
  grind [execFenceComplete, inv_completeFence]

/-! ### Migration -/

theorem inv_abortMigration (h : s.Inv) (src : Nat) (g : Migration) : (abortMigration s src g).Inv := by
  grind [abortMigration, inv_finishAll, inv_freeExtent, = inv_mk]

theorem inv_execMigrationPassEnd (h : s.Inv) {source : Nat} (e : execMigrationPassEnd source s = .next t) : t.Inv := by
  grind [execMigrationPassEnd, inv_abortMigration, inv_beginSwitch, = inv_mk]

theorem inv_releaseHeld (h : s.Inv) : (releaseHeld s).Inv := by
  grind [releaseHeld, inv_translateReq, = inv_mk, inv_foldl]

theorem inv_scrubExtent (h : s.Inv) (e : Nat) : (scrubExtent s e).Inv := by
  grind [scrubExtent, inv_settleLine, inv_fetchGranule, inv_foldl]

theorem inv_copyExtent (h : s.Inv) (src dst : Nat) : (copyExtent s src dst).Inv := by
  unfold copyExtent
  extract_lets s1 shift bytes mem s2 bad s3
  have h1 : s1.Inv := inv_zeroExtent (inv_scrubExtent h _) _
  have hm : Memory.wf mem = true :=
    List.foldlRecOn (motive := fun m => Memory.wf m = true) bytes _ h1.mem fun _ hm _ _ => memSet_wf _ _ hm
  have h3 : s3.Inv := inv_foldl (fun _ _ hu => inv_poisonLine hu _) ⟨hm, h1.sram, h1.regs⟩
  exact h3.ite (h3.of_eq rfl rfl rfl)

theorem inv_execMigrationSwitchDone (h : s.Inv) {source : Nat} (e : execMigrationSwitchDone source s = .next t) :
    t.Inv := by
  grind [execMigrationSwitchDone, inv_setView, inv_finishAll, inv_completeFence, inv_freeExtent, inv_copyExtent,
    inv_releaseHeld, inv_setExt, = inv_mk, inv_foldl]

theorem inv_execMigrationHoldLimit (h : s.Inv) {source : Nat} (e : execMigrationHoldLimit source s = .next t) :
    t.Inv := by
  grind [execMigrationHoldLimit, inv_reach, inv_abortMigration, inv_completeFence, inv_releaseHeld]

/-! ### Resolution of faults -/

theorem inv_failParked (h : s.Inv) (x : Nat) : (failParked s x).Inv := by
  grind [failParked, inv_enqueueRun, inv_enqueueBulk, inv_dropPark, inv_takeNumber]

theorem inv_resolveOne (h : s.Inv) (w : Nat) : (resolveOne s w).2.Inv := by
  grind [resolveOne, inv_updCtx, inv_failParked, inv_delFault, inv_foldl]

theorem inv_doFaultResolve (h : s.Inv) (list : List Nat) : (doFaultResolve list s).1.Inv := by
  grind [doFaultResolve, inv_resolveOne, inv_retryPark, inv_foldl, inv_foldl_fst]

theorem inv_execFaultResolve (h : s.Inv) {slot : Nat} {tag : Word32} {list : List Word64}
    (e : execFaultResolve slot tag list s = .next t) :
    t.Inv := by
  grind [execFaultResolve, inv_runTwin, inv_doFaultResolve]

theorem inv_leaveUnrecorded (h : s.Inv) (x : Nat) : (leaveUnrecorded s x).Inv := h.of_eq rfl rfl rfl

theorem inv_retryUnrecorded (h : s.Inv) (x : Nat) (c : Ctx) (p : Park) : (retryUnrecorded s x c p).Inv := by
  grind [retryUnrecorded, inv_acceptNext, inv_settle, inv_leaveUnrecorded, inv_admitBulk, inv_leaveRecord, inv_setCtx,
    inv_foldl]

theorem inv_execUnrecordedRetranslate (h : s.Inv) {tenant : Nat} (e : execUnrecordedRetranslate tenant s = .next t) :
    t.Inv := by
  grind [execUnrecordedRetranslate, inv_leaveUnrecorded, inv_retryUnrecorded]

/-! ### Gates of the dies (R498) -/

theorem inv_applyGate (h : s.Inv) : (applyGate s).Inv := by
  grind [applyGate, inv_rput, = inv_mk, inv_foldl]

theorem inv_execGateEntryBoundary (h : s.Inv) {gate : GateSite} (e : execGateEntryBoundary gate s = .next t) :
    t.Inv := by
  unfold execGateEntryBoundary at e
  repeat' split at e
  all_goals grind [inv_reach, inv_applyGate, inv_ethGateBoundary, = inv_mk]

theorem inv_execGuardStart (h : s.Inv) {die : Nat} (e : execGuardStart die s = .next t) : t.Inv := by
  grind [execGuardStart, inv_reach, = inv_mk]

theorem inv_dropOwn (h : s.Inv) (id : Nat) : (dropOwn s id).Inv := h.of_eq rfl rfl rfl

theorem inv_retryOwn (h : s.Inv) (id : Nat) (o : OwnReq) (m : Msg) : (retryOwn s id o m).Inv := h.of_eq rfl rfl rfl

theorem inv_badSlots (h : s.Inv) (k : Nat) (m : Msg) (n : Nat) {f : State → State} (hf : ∀ u, u.Inv → (f u).Inv) :
    (badSlots s k m n f).Inv := by
  grind [badSlots, inv_bump]

theorem inv_execNotifyAck (h : s.Inv) {port_ : Nat} {msg : Msg} (e : execNotifyAck port_ msg s = .next t) : t.Inv := by
  grind [execNotifyAck, inv_badSlots, inv_dropOwn, inv_arriveRsp]

theorem inv_writeAcked (h : s.Inv) (sh tile got : Nat) (poisoned : Bool) : (writeAcked s sh tile got poisoned).Inv := by
  grind [writeAcked, inv_updJob]

theorem inv_execWrAck (h : s.Inv) {port_ : Nat} {msg : Msg} (e : execWrAck port_ msg s = .next t) : t.Inv := by
  grind [execWrAck, inv_badSlots, inv_dropOwn, inv_writeAcked, inv_arriveRsp, inv_retryOwn]

theorem inv_readLost (h : s.Inv) (sh : Nat) : (readLost s sh).Inv := by
  grind [readLost, inv_updJob]

theorem inv_execReadData (h : s.Inv) {port_ : Nat} {msg : Msg} (e : execReadData port_ msg s = .next t) : t.Inv := by
  grind [execReadData, inv_badSlots, inv_dropOwn, inv_arriveRsp, inv_retryOwn, inv_updJob, inv_readLost]

theorem inv_resendOwn (h : s.Inv) (id : Nat) (o : OwnReq) : (resendOwn s id o).Inv := by
  grind [resendOwn, inv_queueAt, = inv_mk]

theorem inv_failOwn (h : s.Inv) (id : Nat) (o : OwnReq) : (failOwn s id o).Inv := by
  grind [failOwn, inv_bump, inv_report, inv_dropOwn, inv_writeAcked, inv_updJob, inv_readLost]

theorem inv_execRequestTimeout (h : s.Inv) {reqid : Nat} (e : execRequestTimeout reqid s = .next t) : t.Inv := by
  grind [execRequestTimeout, inv_resendOwn, inv_reach, inv_failOwn]

theorem inv_recoveryGreeting (h : s.Inv) (slot : Nat) : (recoveryGreeting s slot).Inv := by
  grind [recoveryGreeting, inv_eventTo, inv_foldl]

theorem inv_sendUnsent (h : s.Inv) (slot : Nat) (as : List AssocRec) : (sendUnsent s slot as).Inv := by
  grind [sendUnsent, inv_eventCopy, = inv_mk, inv_foldl]

theorem inv_joinAssoc (h : s.Inv) (port : Nat) (h : DtlsHello) (ident : List Byte) :
    (joinAssoc s port h ident).Inv := by
  grind [joinAssoc, inv_recoveryGreeting, inv_setSession, inv_sendUnsent, inv_sessionChange, = inv_mk]

theorem inv_execDtlsHandshake (h : s.Inv) {hello : DtlsHello} (e : execDtlsHandshake hello s = .next t) : t.Inv := by
  grind [execDtlsHandshake, inv_bump, inv_joinAssoc, inv_ethQueue]

theorem inv_execAssociationIdle (h : s.Inv) {slot net : Nat} (e : execAssociationIdle slot net s = .next t) :
    t.Inv := by
  grind [execAssociationIdle, inv_reach, inv_endAssoc]

theorem inv_execRefusingClose (h : s.Inv) {net : Nat} {identity : List Byte}
    (e : execRefusingClose net identity s = .next t) :
    t.Inv := by
  grind [execRefusingClose, inv_reach, = inv_mk]

theorem inv_execCommandFrame (h : s.Inv) {slot net : Nat} {bytes : List Byte}
    (e : execCommandFrame slot net bytes s = .next t) :
    t.Inv := by
  grind [execCommandFrame, inv_submit, inv_touchAssoc, inv_ethQueue, inv_lapseIfDue]

theorem inv_execCommandHead (h : s.Inv) (e : execCommandHead s = .next t) : t.Inv := by
  grind [execCommandHead, inv_dequeue, inv_reply, inv_lapseIfDue, = inv_mk]

theorem inv_execLeaseExpire (h : s.Inv) (e : execLeaseExpire s = .next t) : t.Inv := by
  grind [execLeaseExpire, inv_reach, inv_lapseIfDue]

theorem inv_execOwnClaim (h : s.Inv) {slot : Nat} {tag : Word32} {leaseMs : Word64}
    (e : execOwnClaim slot tag leaseMs s = .next t) :
    t.Inv := by
  grind [execOwnClaim, inv_grantOwner, inv_runCmd]

theorem inv_execOwnRenew (h : s.Inv) {slot : Nat} {tag : Word32} {leaseMs : Word64}
    (e : execOwnRenew slot tag leaseMs s = .next t) :
    t.Inv := by
  grind [execOwnRenew, inv_runCmd, = inv_mk]

theorem inv_execOwnRelease (h : s.Inv) {slot : Nat} {tag : Word32} (e : execOwnRelease slot tag s = .next t) :
    t.Inv := by
  grind [execOwnRelease, inv_runCmd, inv_lapse]

theorem inv_execOwnQuery (h : s.Inv) {slot : Nat} {tag : Word32} (e : execOwnQuery slot tag s = .next t) : t.Inv := by
  grind [execOwnQuery, inv_runCmd]

theorem inv_execOwnTransfer (h : s.Inv) {slot : Nat} {tag : Word32} {target leaseMs : Word64}
    (e : execOwnTransfer slot tag target leaseMs s = .next t) :
    t.Inv := by
  grind [execOwnTransfer, inv_grantOwner, inv_refuseQueued, inv_runCmd]

theorem inv_execSessionList (h : s.Inv) {slot : Nat} {tag : Word32} (e : execSessionList slot tag s = .next t) :
    t.Inv := by
  grind [execSessionList, inv_runCmd]

theorem inv_execSessionClose (h : s.Inv) {slot : Nat} {tag : Word32} {target : Word64}
    (e : execSessionClose slot tag target s = .next t) :
    t.Inv := by
  grind [execSessionClose, inv_runCmd, inv_endSession]

theorem inv_execMgmtSet (h : s.Inv) {slot : Nat} {tag : Word32} {udp idleS : Word64}
    (e : execMgmtSet slot tag udp idleS s = .next t) :
    t.Inv := by
  grind [execMgmtSet, inv_runCmd, inv_rputF]

/-! ### Self-refresh -/

theorem inv_quiesceDie (h : s.Inv) (n : Nat) : (quiesceDie s n).Inv := by
  grind [quiesceDie, = inv_mk]

theorem inv_enterSelfRefresh (h : s.Inv) (n : Nat) : (enterSelfRefresh s n).Inv := by
  grind [enterSelfRefresh, inv_quiesceDie, inv_setSealDie]

/-! ### Restarts of the Mason cores -/

theorem inv_setStage (h : s.Inv) (st : Nat) : (setStage s st).Inv := by
  grind [setStage, inv_rputF]

theorem inv_enterRom (h : s.Inv) (cause : Nat) : (enterRom s cause).Inv := by
  grind [enterRom, inv_rputF, = inv_mk]

theorem inv_masonRestart (h : s.Inv) (cause : Nat) : (masonRestart s cause).Inv := by
  grind [masonRestart, inv_endAllSessions, inv_enterRom, inv_lapse, = inv_mk]

/-! ### The fatal safe state -/

theorem inv_fatalPin (h : s.Inv) : (fatalPin s).Inv := by
  grind [fatalPin, inv_emit]

theorem inv_fencePort (h : s.Inv) (k : Nat) : (fencePort s k).Inv := by
  grind [fencePort, inv_emitFlit, inv_setPort, inv_foldl]

theorem inv_fatalEntry (h : s.Inv) (slot cls unit : Nat) : (fatalEntry s slot cls unit).Inv := by
  grind [fatalEntry, inv_fencePort, inv_fatalPin, inv_rput, inv_rput64, inv_enterSelfRefresh, = inv_mk, inv_foldl]

theorem inv_react (h : s.Inv) (e : ErrIn) (slot : Nat) : (react s e slot).Inv := by
  grind [react, inv_masonRestart, inv_fatalEntry]

theorem inv_btrError (h : s.Inv) (e : ErrIn) (inj : Bool) : (btrError s e inj).Inv := by
  grind [btrError, inv_react, inv_btrRecord]

theorem inv_fatal (h : s.Inv) (cls unit inst location : Nat) : (fatal s cls unit inst location).Inv := by
  grind [fatal, inv_btrError]

theorem inv_setBoot (h : s.Inv) (b : Boot) : (setBoot s b).Inv := h.of_eq rfl rfl rfl

/-! ### Firmware images (R503, R552, R553, R557) -/

theorem inv_recoveryWait (h : s.Inv) (fail : Nat) (attempt : Bool) : (recoveryWait s fail attempt).Inv := by
  unfold recoveryWait
  extract_lets a s1
  have h1 : s1.Inv := inv_rputF (inv_rputF (inv_rputF h ..) ..) ..
  refine inv_rputF ?_ ..
  exact ⟨h1.mem, rfl, h1.regs⟩

theorem inv_moveImage (h : s.Inv) (b : List Byte) : (moveImage s b).Inv := by
  have hw (l : List Byte) : Memory.wf (memWrite [] 0 l) = true := memWrite_wf _ _ rfl
  unfold moveImage
  extract_lets body away bus s1 s2 rest
  have h1 : s1.Inv := ⟨h.mem, hw _, h.regs⟩
  have h2 : s2.Inv := inv_rputF h1 ..
  split
  · exact h2
  split
  next pad s3 e => exact inv_store ((inv_freeBytes h2 _).of_snd e) ..

theorem inv_takeImage (h : s.Inv) (b : List Byte) (recovery : Bool) : (takeImage s b recovery).Inv := by
  grind [takeImage, inv_setBoot, inv_setStage, inv_moveImage, inv_recoveryWait]

theorem inv_execImageReadDone (h : s.Inv) {image : List Byte} (e : execImageReadDone image s = .next t) : t.Inv := by
  grind [execImageReadDone, inv_takeImage]

theorem inv_burnFuses (h : s.Inv) (b : List Byte) (k : Nat) : (burnFuses s b k).Inv := by
  grind [burnFuses, inv_setBoot]

theorem inv_putMeasurement (h : s.Inv) (m : Nat) (data : List Byte) : (putMeasurement s m data).Inv := by
  grind [putMeasurement, inv_rput, inv_foldl]

theorem inv_execImageVerifyDone (h : s.Inv) (e : execImageVerifyDone s = .next t) : t.Inv := by
  grind [execImageVerifyDone, inv_putMeasurement, inv_setBoot, inv_setStage, inv_rput, inv_zeroExtent, inv_recoveryWait,
    inv_burnFuses, = inv_mk, inv_foldl]

theorem inv_execD2dStartFail (h : s.Inv) {dies : Nat} (e : execD2dStartFail dies s = .next t) : t.Inv := by
  grind [execD2dStartFail, inv_setStage, inv_rputF]

/-! ### The recovery load (R558 to R560) -/

theorem inv_execRecoveryHelloTimer (h : s.Inv) (e : execRecoveryHelloTimer s = .next t) : t.Inv := by
  grind [execRecoveryHelloTimer, inv_setBoot, inv_reach, inv_ethQueue, inv_foldl]

theorem inv_execRecoveryPortTimeout (h : s.Inv) {net : Nat} (e : execRecoveryPortTimeout net s = .next t) : t.Inv := by
  unfold execRecoveryPortTimeout at e
  extract_lets k at e
  split at e
  · exact Host.Outcome.next.inj e ▸ h
  split at e
  · exact Host.Outcome.next.inj e ▸ h
  extract_lets u b at e
  have hu : u.Inv := inv_reach h _
  clear_value u b
  exact Host.Outcome.next.inj e ▸ inv_setBoot hu _

theorem inv_sendTftp (h : s.Inv) (kind block : Nat) : (sendTftp s kind block).Inv := by
  grind [sendTftp, inv_ethQueue]

theorem inv_execRecoveryOffer (h : s.Inv) {net version : Nat} {bootid : Word64} {size server : Nat} {name : List Byte}
    (e : execRecoveryOffer net version bootid size server name s = .next t) :
    t.Inv := by
  grind [execRecoveryOffer, inv_setBoot, inv_sendTftp, inv_setStage]

theorem inv_execTftpData (h : s.Inv) {block : Nat} {data : List Byte} (e : execTftpData block data s = .next t) :
    t.Inv := by
  grind [execTftpData, inv_setBoot, inv_sendTftp, inv_takeImage, inv_recoveryWait]

theorem inv_execTransferStall (h : s.Inv) (e : execTransferStall s = .next t) : t.Inv := by
  grind [execTransferStall, inv_reach, inv_recoveryWait]

/-! ### Firmware commands (R452 to R454) -/

theorem inv_stagedBytes (h : s.Inv) (n : Nat) : (stagedBytes s n).2.Inv := by
  grind [stagedBytes, inv_load]

theorem inv_execFwStage (h : s.Inv) {slot : Nat} {tag : Word32} {offset : Word64} {data : List Byte}
    (e : execFwStage slot tag offset data s = .next t) :
    t.Inv := by
  grind [execFwStage, inv_runCmd, inv_setBoot, inv_store]

theorem inv_execFwVerify (h : s.Inv) {slot : Nat} {tag : Word32} {size : Word64}
    (e : execFwVerify slot tag size s = .next t) :
    t.Inv := by
  grind [execFwVerify, inv_runCmd, inv_setBoot]

theorem inv_execFwVerifyDone (h : s.Inv) (e : execFwVerifyDone s = .next t) : t.Inv := by
  grind [execFwVerifyDone, inv_setBoot, inv_finishAll, inv_stagedBytes]

theorem inv_execFwCommit (h : s.Inv) {slot : Nat} {tag : Word32} (e : execFwCommit slot tag s = .next t) : t.Inv := by
  grind [execFwCommit, inv_runCmd, inv_setBoot]

theorem inv_execFwCommitDone (h : s.Inv) (e : execFwCommitDone s = .next t) : t.Inv := by
  grind [execFwCommitDone, inv_setBoot, inv_finishAll, inv_stagedBytes]

theorem inv_execFwActivate (h : s.Inv) {slot : Nat} {tag : Word32} (e : execFwActivate slot tag s = .next t) :
    t.Inv := by
  grind [execFwActivate, inv_runCmd, inv_masonRestart]

/-! ### Anchors, identity and attestation (R452, R502, R506, R551) -/

theorem inv_saveAnchors (h : s.Inv) (a : Tab (List Byte)) : (saveAnchors s a).Inv := by
  grind [saveAnchors, inv_setBoot]

theorem inv_execAnchorSet (h : s.Inv) {slot : Nat} {tag : Word32} {anchor : Word64} {cert : List Byte}
    (e : execAnchorSet slot tag anchor cert s = .next t) :
    t.Inv := by
  grind [execAnchorSet, inv_runCmd, inv_saveAnchors]

theorem inv_execAnchorQuery (h : s.Inv) {slot : Nat} {tag : Word32} (e : execAnchorQuery slot tag s = .next t) :
    t.Inv := by
  grind [execAnchorQuery, inv_runCmd]

theorem inv_execIdentity (h : s.Inv) {slot : Nat} {tag : Word32} (e : execIdentity slot tag s = .next t) : t.Inv := by
  grind [execIdentity, inv_runCmd]

theorem inv_execSpdm (h : s.Inv) {slot : Nat} {tag : Word32} {request : List Byte}
    (e : execSpdm slot tag request s = .next t) :
    t.Inv := by
  grind [execSpdm, inv_runCmd]

/-! ### The governor -/

theorem inv_setPwr (h : s.Inv) (p : Power) : (setPwr s p).Inv := h.of_eq rfl rfl rfl

theorem inv_powerEvent (h : s.Inv) (cause : Nat) : (powerEvent s cause).Inv := by
  grind [powerEvent, inv_eventW, inv_micLevel]

theorem inv_govern (h : s.Inv) : (govern s).Inv := by
  grind [govern, inv_setPwr, inv_rputF, inv_powerEvent]

theorem inv_execPowerSample (h : s.Inv) {milliVolts milliAmps : Nat}
    (e : execPowerSample milliVolts milliAmps s = .next t) :
    t.Inv := by
  unfold execPowerSample at e
  grind [inv_bump, inv_reach, inv_govern, inv_bump64, inv_rput, inv_setPwr, inv_rputF]

theorem inv_watchJunction (h : s.Inv) : (watchJunction s).Inv := by
  grind [watchJunction, inv_setPwr, inv_powerEvent, = inv_mk]

theorem inv_watchStacks (h : s.Inv) : (watchStacks s).Inv := by
  grind [watchStacks, inv_setPwr, inv_powerEvent]

theorem inv_execJunctionSensorRead (h : s.Inv) {sensor celsius : Nat}
    (e : execJunctionSensorRead sensor celsius s = .next t) :
    t.Inv := by
  grind [execJunctionSensorRead, inv_watchJunction, inv_govern, inv_setPwr, inv_rputF]

theorem inv_execLimiterTick (h : s.Inv) (e : execLimiterTick s = .next t) : t.Inv := by
  grind [execLimiterTick, inv_watchJunction, inv_watchStacks, inv_reach, inv_govern, inv_setPwr]

theorem inv_execPlateModelUpdate (h : s.Inv) (e : execPlateModelUpdate s = .next t) : t.Inv := by
  grind [execPlateModelUpdate, inv_bump, inv_reach, inv_govern, inv_setPwr, inv_rputF, inv_powerEvent]

/-! ### Ride-through (R524 to R527) -/

theorem inv_execRideThroughEnter (h : s.Inv) (e : execRideThroughEnter s = .next t) : t.Inv := by
  grind [execRideThroughEnter, inv_bump, inv_govern, inv_setPwr, inv_rputF, inv_powerEvent, = inv_mk]

theorem inv_execRideThroughExit (h : s.Inv) (e : execRideThroughExit s = .next t) : t.Inv := by
  unfold execRideThroughExit at e
  split at e
  · exact Host.Outcome.next.inj e ▸ h
  next d _ =>
  have hd := inv_reach h (d + 1000000)
  generalize reach s (d + 1000000) = u at hd e
  have hu := inv_rputF hd Reg.PWR_STAT 4 4 0
  grind [inv_setPwr, inv_rput, inv_govern, inv_powerEvent]

theorem inv_supplyFault (h : s.Inv) (inst location : Nat) : (supplyFault s inst location).Inv := by
  grind [supplyFault, inv_fatal, = inv_mk]

theorem inv_execBusLowTimeout (h : s.Inv) (e : execBusLowTimeout s = .next t) : t.Inv := by
  grind [execBusLowTimeout, inv_reach, inv_supplyFault]

theorem inv_setRails (h : s.Inv) (mask : Nat) : (setRails s mask).Inv := by
  grind [setRails, inv_emit, inv_setPwr, inv_rputF]

theorem inv_execVanaFault (h : s.Inv) (e : execVanaFault s = .next t) : t.Inv := by
  grind [execVanaFault, inv_rputF, inv_supplyFault]

theorem inv_execRailFault (h : s.Inv) {rail : Nat} (e : execRailFault rail s = .next t) : t.Inv := by
  grind [execRailFault, inv_setRails, inv_supplyFault]

theorem inv_execThermalTrip (h : s.Inv) {sensor : Nat} (e : execThermalTrip sensor s = .next t) : t.Inv := by
  grind [execThermalTrip, inv_fatal, = inv_mk]

theorem inv_execClockLoss (h : s.Inv) {pll : Nat} (e : execClockLoss pll s = .next t) : t.Inv := by
  grind [execClockLoss, inv_fatal, inv_rputF]

theorem inv_execPllRelock (h : s.Inv) {pll : Nat} (e : execPllRelock pll s = .next t) : t.Inv := by
  grind [execPllRelock, inv_micLevel, inv_rputF]

/-! ### Commands -/

theorem inv_execPowerQuery (h : s.Inv) {slot : Nat} {tag : Word32} (e : execPowerQuery slot tag s = .next t) :
    t.Inv := by
  grind [execPowerQuery, inv_runCmd]

theorem inv_execPowerSet (h : s.Inv) {slot : Nat} {tag : Word32} {limit peak : Word64}
    (e : execPowerSet slot tag limit peak s = .next t) :
    t.Inv := by
  grind [execPowerSet, inv_runCmd, inv_govern, inv_rput, inv_setPwr]

theorem inv_errorQps (h : s.Inv) : (errorQps s).Inv := h.of_eq rfl rfl rfl

theorem inv_execPoolHold (h : s.Inv) {slot : Nat} {tag : Word32} (e : execPoolHold slot tag s = .next t) : t.Inv := by
  grind [execPoolHold, inv_runCmd, inv_errorQps, inv_setPwr, inv_startPortDrain, inv_rputF, inv_foldl]

theorem inv_execPoolHoldDone (h : s.Inv) (e : execPoolHoldDone s = .next t) : t.Inv := by
  grind [execPoolHoldDone, inv_finishAll, inv_enterSelfRefresh, inv_foldl]

theorem inv_execPoolResume (h : s.Inv) {slot : Nat} {tag : Word32} (e : execPoolResume slot tag s = .next t) :
    t.Inv := by
  grind [execPoolResume, inv_runCmd, inv_setPwr, inv_setPort, inv_foldl]

theorem inv_execPoolResumeDone (h : s.Inv) (e : execPoolResumeDone s = .next t) : t.Inv := by
  grind [execPoolResumeDone, inv_reach, inv_fireTime, inv_finishAll, inv_setPwr, inv_rputF, inv_foldl]

/-! ### Standby and the resets (R468, R469, R530, R535) -/

theorem inv_plinthOnly (h : s.Inv) : (plinthOnly s).Inv :=
  inv_rput64 (inv_rputF ⟨rfl, rfl, filter_sorted _ _ _ h.regs⟩ ..) _ _

theorem inv_execStandby (h : s.Inv) {slot : Nat} {tag : Word32} (e : execStandby slot tag s = .next t) : t.Inv := by
  grind [execStandby, inv_runCmd, inv_endAllSessions, inv_finishAll, inv_plinthOnly, inv_setRails, inv_setPwr,
    inv_lapse]

theorem inv_rampUp (h : s.Inv) (cause : Nat) : (rampUp s cause).Inv := by
  grind [rampUp, inv_rput, inv_enterRom, inv_setRails, inv_setPwr, inv_rputF, inv_foldl]

theorem inv_execPowerUp (h : s.Inv) (e : execPowerUp s = .next t) : t.Inv := by
  grind [execPowerUp, inv_govern, inv_rampUp]

theorem inv_execPowerOnReset {smbAddr : Nat} (e : execPowerOnReset smbAddr s = .next t) : t.Inv := by
  unfold execPowerOnReset at e
  cases e
  refine inv_emit (inv_emit ?_ _) _
  exact inv_reset.of_eq rfl rfl rfl

theorem inv_execVauxLoss (e : execVauxLoss s = .next t) : t.Inv := by
  cases e
  exact inv_reset.of_eq rfl rfl rfl

theorem inv_execJtagTrst (h : s.Inv) (e : execJtagTrst s = .next t) : t.Inv := by
  grind [execJtagTrst, = inv_mk]

theorem inv_wake (h : s.Inv) (source : Nat) : (wake s source).Inv := by
  grind [wake, inv_govern, inv_rampUp, inv_plinthOnly, inv_micLevel, inv_rputF]

theorem inv_execWake (h : s.Inv) {source : Nat} (e : execWake source s = .next t) : t.Inv := by
  grind [execWake, inv_wake]

theorem inv_execPlnTimerReached (h : s.Inv) (e : execPlnTimerReached s = .next t) : t.Inv := by
  grind [execPlnTimerReached, inv_reach, inv_wake]

/-! ### Queues -/

theorem inv_askHold (h : s.Inv) (n page who : Nat) : (askHold s n page who).Inv := by
  grind [askHold, inv_setSealDie]

theorem inv_enterWrite (h : s.Inv) (n c : Nat) (a : Acc) : (enterWrite s n c a).Inv := by
  grind [enterWrite, inv_setChan, inv_store]

theorem inv_enterRead (h : s.Inv) (n c : Nat) (a : Acc) : (enterRead s n c a).Inv := by
  grind [enterRead, inv_settleLine, inv_setChan, inv_askHold]

theorem inv_enterChan (h : s.Inv) (n c : Nat) (a : Acc) : (enterChan s n c a).Inv := by
  grind [enterChan, inv_enterRead, inv_enterWrite, inv_setChan]

theorem inv_releaseChan (h : s.Inv) (n c : Nat) : (releaseChan s n c).Inv := by
  grind [releaseChan, inv_enterChan, inv_setChan, inv_foldl]

theorem inv_execChannelWriteEntry (h : s.Inv) {die channel input ppa : Nat} {data : List Byte}
    (e : execChannelWriteEntry die channel input ppa data s = .next t) :
    t.Inv := by
  grind [execChannelWriteEntry, inv_enterChan]

theorem inv_execChannelReadEntry (h : s.Inv) {die channel input ppa length : Nat}
    (e : execChannelReadEntry die channel input ppa length s = .next t) :
    t.Inv := by
  grind [execChannelReadEntry, inv_enterChan]

/-! ### Choosing the next command -/

theorem inv_countLate (h : s.Inv) (n c t : Nat) (a : Acc) : (countLate s n c t a).1.Inv := by
  grind [countLate, inv_bump]

theorem inv_sendCmd (h : s.Inv) (n c : Nat) (q : DramCmd) (a : Option Acc) : (sendCmd s n c q a).Inv := by
  unfold sendCmd
  repeat' split
  all_goals grind [inv_countLate, inv_setChan, inv_setSealDie]

theorem inv_execChannelSchedule (h : s.Inv) {die channel : Nat} (e : execChannelSchedule die channel s = .next t) :
    t.Inv := by
  grind [execChannelSchedule, inv_sendCmd, inv_setChan, inv_releaseChan]

theorem inv_decodeRead (h : s.Inv) (n c : Nat) (a : Acc) : (decodeRead s n c a).1.Inv := by
  grind [decodeRead, inv_bump, inv_noteCe, inv_load]

theorem inv_execReadDecode (h : s.Inv) {die channel : Nat} (e : execReadDecode die channel s = .next t) : t.Inv := by
  grind [execReadDecode, inv_report, inv_countLate, inv_setChan, inv_rput, inv_decodeRead, inv_askHold]

/-! ### Refresh and idle timers -/

theorem inv_execRefreshDue (h : s.Inv) {die channel bank : Nat} (e : execRefreshDue die channel bank s = .next t) :
    t.Inv := by
  grind [execRefreshDue, inv_setChan]

theorem inv_execRfmThreshold (h : s.Inv) {die channel bank : Nat} (e : execRfmThreshold die channel bank s = .next t) :
    t.Inv := by
  grind [execRfmThreshold, inv_setChan]

theorem inv_execBankIdleExpire (h : s.Inv) {die channel bank : Nat}
    (e : execBankIdleExpire die channel bank s = .next t) :
    t.Inv := by
  grind [execBankIdleExpire, inv_sendCmd, inv_setChan]

theorem inv_execUrgencyRise (h : s.Inv) {die channel : Nat} (e : execUrgencyRise die channel s = .next t) : t.Inv := by
  grind [execUrgencyRise, inv_setChan]

/-! ### Temperature, tracking and training -/

theorem inv_execStackTempRead (h : s.Inv) {stack celsius : Nat} (e : execStackTempRead stack celsius s = .next t) :
    t.Inv := by
  grind [execStackTempRead, inv_rputF, = inv_mk]

theorem inv_startTracking (h : s.Inv) (n c : Nat) : (startTracking s n c).Inv := by
  grind [startTracking, inv_setChan]

theorem inv_execTrackingTrigger (h : s.Inv) {die channel : Nat} (e : execTrackingTrigger die channel s = .next t) :
    t.Inv := by
  grind [execTrackingTrigger, inv_reach, inv_startTracking, inv_setChan]

theorem inv_loseChannel (h : s.Inv) (n c st : Nat) : (loseChannel s n c st).Inv := by
  grind [loseChannel, inv_setChan, inv_askHold, inv_setSealDie, inv_foldl]

theorem inv_execTrackingDone (h : s.Inv) {die channel : Nat} {pass : Bool}
    (e : execTrackingDone die channel pass s = .next t) :
    t.Inv := by
  grind [execTrackingDone, inv_loseChannel, inv_setChan]

theorem inv_failChannel (h : s.Inv) (n c : Nat) : (failChannel s n c).Inv := by
  grind [failChannel, inv_loseChannel, inv_report]

theorem inv_execFullTrainingDone (h : s.Inv) {die channel : Nat} {pass : Bool}
    (e : execFullTrainingDone die channel pass s = .next t) :
    t.Inv := by
  grind [execFullTrainingDone, inv_setChan, inv_failChannel, = inv_mk]

theorem inv_execRebuildDone (h : s.Inv) {die channel : Nat} (e : execRebuildDone die channel s = .next t) : t.Inv := by
  grind [execRebuildDone, inv_startTracking, inv_setChan, inv_rebuildWords, = inv_mk, inv_foldl]

theorem inv_execStackTrainingDone (h : s.Inv) {failed : List Nat} (e : execStackTrainingDone failed s = .next t) :
    t.Inv := by
  grind [execStackTrainingDone, inv_failChannel, = inv_mk, inv_foldl]

theorem inv_exitSelfRefresh (h : s.Inv) (die : Nat) : (exitSelfRefresh s die).Inv := by
  grind [exitSelfRefresh, inv_setChan, inv_setSealDie, = inv_mk, inv_foldl]

theorem inv_execSelfRefreshExitDone (h : s.Inv) {die : Nat} (e : execSelfRefreshExitDone die s = .next t) : t.Inv := by
  grind [execSelfRefreshExitDone, inv_exitSelfRefresh]

/-! ### Row sparing and command parity -/

theorem inv_execRowSpare (h : s.Inv) {die channel bank row : Nat} (e : execRowSpare die channel bank row s = .next t) :
    t.Inv := by
  grind [execRowSpare, inv_report, inv_setChan]

theorem inv_execRowCopyDone (h : s.Inv) {die channel bank row : Nat}
    (e : execRowCopyDone die channel bank row s = .next t) :
    t.Inv := by
  grind [execRowCopyDone, inv_report, inv_setChan, inv_fetchGranule, inv_foldl]

theorem inv_execCommandAddressParityError (h : s.Inv) {die channel : Nat}
    (e : execCommandAddressParityError die channel s = .next t) :
    t.Inv := by
  grind [execCommandAddressParityError, inv_setChan]

/-! ### The seal cache -/

theorem inv_injectSeal (h : s.Inv) (page : Nat) : (injectSeal s page).Inv := by
  grind [injectSeal, inv_rput, inv_setSealMark, inv_foldl]

theorem inv_writeBackSeal (h : s.Inv) (n page : Nat) : (writeBackSeal s n page).Inv := by
  grind [writeBackSeal, inv_injectSeal, inv_setSealDie]

theorem inv_applyDelta (h : s.Inv) (n : Nat) (x : Delta) (e : applyDelta s n x = some t) : t.Inv := by
  unfold applyDelta at e
  grind [inv_setSealDie, inv_writeBackSeal]

theorem inv_execSealDelta (h : s.Inv) {die : Nat} (e : execSealDelta die s = .next t) : t.Inv := by
  grind [execSealDelta, inv_applyDelta, inv_setChan, inv_setSealDie]

theorem inv_execSealDeltaResume (h : s.Inv) {die : Nat} (e : execSealDeltaResume die s = .next t) : t.Inv := by
  grind [execSealDeltaResume, inv_applyDelta, inv_setChan, inv_setSealDie]

theorem inv_execPageHoldGrant (h : s.Inv) {die page : Nat} (e : execPageHoldGrant die page s = .next t) : t.Inv := by
  grind [execPageHoldGrant, inv_setSealDie]

theorem inv_releaseHold (h : s.Inv) (n page : Nat) : (releaseHold s n page).Inv := by
  grind [releaseHold, inv_setSealDie]

theorem inv_execSealLineAge (h : s.Inv) {die page : Nat} (e : execSealLineAge die page s = .next t) : t.Inv := by
  grind [execSealLineAge, inv_reach, inv_writeBackSeal]

theorem inv_execSealRebuildDone (h : s.Inv) {die page : Nat} (e : execSealRebuildDone die page s = .next t) :
    t.Inv := by
  grind [execSealRebuildDone, inv_countLate, inv_setChan, inv_decodeRead, inv_releaseHold, inv_foldl]

/-! ### The scrubber -/

theorem inv_setScrub (h : s.Inv) (n pos : Nat) : (setScrub s n pos).Inv := by
  grind [setScrub, inv_rput, inv_setSealDie]

theorem inv_endPass (h : s.Inv) (n : Nat) : (endPass s n).Inv := by
  grind [endPass, inv_bump, inv_rput64]

theorem inv_execScrubVisit (h : s.Inv) {die : Nat} (e : execScrubVisit die s = .next t) : t.Inv := by
  grind [execScrubVisit, inv_setScrub, inv_endPass, inv_askHold]

theorem inv_execScrubPageChecked (h : s.Inv) {die : Nat} (e : execScrubPageChecked die s = .next t) : t.Inv := by
  grind [execScrubPageChecked, inv_setScrub, inv_bump, inv_report, inv_recomputeSeal, inv_endPass, inv_fetchRange,
    inv_releaseHold]

/-! ### Parity on the data path -/

theorem inv_parityError (h : s.Inv) (n hop cls unit inst loc : Nat) : (parityError s n hop cls unit inst loc).Inv := by
  grind [parityError, inv_btrError, inv_btrRecord, inv_setSealDie]

theorem inv_execD2dParityError (h : s.Inv) {die : Nat} (e : execD2dParityError die s = .next t) : t.Inv := by
  grind [execD2dParityError, inv_parityError]

theorem inv_execD2dTrainingLoss (h : s.Inv) {die : Nat} (e : execD2dTrainingLoss die s = .next t) : t.Inv := by
  grind [execD2dTrainingLoss, inv_fatal, inv_setSealDie]

theorem inv_execOndieParityError (h : s.Inv) {die : Nat} (e : execOndieParityError die s = .next t) : t.Inv := by
  grind [execOndieParityError, inv_parityError]

/-! ### Injection -/

theorem inv_writeInjCtl (h : s.Inv) (n st v : Nat) : (writeInjCtl s n st v).Inv := by
  grind [writeInjCtl, inv_rput]

theorem inv_writeSeaInj (h : s.Inv) (n v : Nat) : (writeSeaInj s n v).Inv := by
  grind [writeSeaInj, inv_rput]

theorem inv_execStkInjCtlWrite (h : s.Inv) {die stack : Nat} {value : Word32}
    (e : execStkInjCtlWrite die stack value s = .next t) :
    t.Inv := by
  grind [execStkInjCtlWrite, inv_writeInjCtl]

theorem inv_execStkInjPar (h : s.Inv) {die stack : Nat} {value : Word32}
    (e : execStkInjPar die stack value s = .next t) :
    t.Inv := by
  grind [execStkInjPar, inv_writeInjCtl]

theorem inv_execSeaInjArm (h : s.Inv) {die : Nat} {value : Word32} (e : execSeaInjArm die value s = .next t) :
    t.Inv := by
  grind [execSeaInjArm, inv_writeSeaInj]

/-! ### Diagnostic commands -/

theorem inv_execInject (h : s.Inv) {slot : Nat} {tag : Word32} {die stack word0 word1 : Word64}
    (e : execInject slot tag die stack word0 word1 s = .next t) :
    t.Inv := by
  grind [execInject, inv_runCmd, inv_rput, inv_writeInjCtl, inv_writeSeaInj]

theorem inv_execPoisonWrite (h : s.Inv) {slot : Nat} {tag : Word32} {ppa : Word64}
    (e : execPoisonWrite slot tag ppa s = .next t) :
    t.Inv := by
  grind [execPoisonWrite, inv_runCmd, inv_agentLine, inv_storePoison]

theorem inv_execMemtest (h : s.Inv) {slot : Nat} {tag : Word32} {die channels0 channels1 pattern : Word64}
    (e : execMemtest slot tag die channels0 channels1 pattern s = .next t) :
    t.Inv := by
  grind [execMemtest, inv_runCmd]

theorem inv_patternFill (h : s.Inv) (base chans pattern n : Nat) : (patternFill base chans pattern n s).Inv := by
  induction n generalizing s with
  | zero => exact h
  | succ n ih => grind [patternFill, inv_store]

theorem inv_execMemtestDone (h : s.Inv) {mismatches : List Word64} (e : execMemtestDone mismatches s = .next t) :
    t.Inv := by
  grind [execMemtestDone, inv_patternFill, inv_finalReply]

theorem inv_execButtressError (h : s.Inv) {err : ErrIn} (e : execButtressError err s = .next t) : t.Inv := by
  grind [execButtressError, inv_btrError, = inv_mk]

theorem inv_execFatalSafeStateEntry (h : s.Inv) {causes : List ErrIn} (e : execFatalSafeStateEntry causes s = .next t) :
    t.Inv := by
  grind [execFatalSafeStateEntry, inv_btrError, inv_foldl]

theorem inv_execSafeStateCoreRelease (h : s.Inv) (e : execSafeStateCoreRelease s = .next t) : t.Inv := by
  grind [execSafeStateCoreRelease, inv_reach, inv_enterRom]

theorem inv_execWatchdogExpire (h : s.Inv) (e : execWatchdogExpire s = .next t) : t.Inv := by
  grind [execWatchdogExpire, inv_btrError, inv_reach, = inv_mk]

theorem inv_execBtrCloseWrite (h : s.Inv) {value : Word32} (e : execBtrCloseWrite value s = .next t) : t.Inv := by
  grind [execBtrCloseWrite, inv_btrClose]

theorem inv_execBtrWdogWrite (h : s.Inv) {_value : Word32} (e : execBtrWdogWrite _value s = .next t) : t.Inv := by
  grind [execBtrWdogWrite, = inv_mk]

theorem inv_btrInject (h : s.Inv) (v : Nat) : (btrInject s v).Inv := by
  grind [btrInject, inv_btrError, inv_free64, inv_rput]

theorem inv_execBtrInjGo (h : s.Inv) {value : Word32} (e : execBtrInjGo value s = .next t) : t.Inv := by
  grind [execBtrInjGo, inv_btrInject]

theorem inv_execRecoveryRead (h : s.Inv) {slot : Nat} {tag : Word32} {ppa length : Word64}
    (e : execRecoveryRead slot tag ppa length s = .next t) :
    t.Inv := by
  grind [execRecoveryRead, inv_runCmd, inv_exitSelfRefresh, inv_load]

/-! ### The states (R385) -/

theorem inv_setTwin (h : s.Inv) (st : Nat) : (setTwin s st).Inv := h.of_eq rfl rfl rfl

theorem inv_mirrorAck (h : s.Inv) (m : Msg) (ok : Bool) : (mirrorAck s m ok).Inv := by
  grind [mirrorAck, inv_answer]

theorem inv_twinReq (h : s.Inv) (k op : Nat) (m : Msg) (ok : State → Msg → Bool) {f : State → Msg → State}
    (hf : ∀ u m, u.Inv → (f u m).Inv) : (twinReq s k op m ok f).Inv := by
  grind [twinReq, inv_arriveReq, inv_mirrorAck]

theorem inv_twinLost (h : s.Inv) : (twinLost s).Inv := by
  grind [twinLost, inv_eventW]

theorem inv_twinActive (h : s.Inv) : (twinActive s).Inv := by
  grind [twinActive, inv_eventW]

/-! ### Acknowledgements at the sender -/

theorem inv_sendOwed (h : s.Inv) (r : CfgReply) : (sendOwed s r).Inv := by
  grind [sendOwed, inv_dequeue, inv_reply, inv_finalReply, = inv_mk]

theorem inv_mirrorDone (h : s.Inv) (id : Nat) (u : OwnUse) : (mirrorDone s id u).Inv := by
  unfold mirrorDone
  repeat' split
  all_goals grind [inv_dropOwn, inv_roceMirrored, inv_sendOwed, inv_answer, inv_updJob, = inv_mk, inv_foldl]

theorem inv_settleMirror (h : s.Inv) : (settleMirror s).Inv := by
  grind [settleMirror, inv_noteDirty, inv_sendOwed, inv_mirrorDone, inv_translateReq, inv_roceRun, = inv_mk, inv_foldl]

theorem inv_enterSolo (h : s.Inv) : (enterSolo s).Inv := by
  grind [enterSolo, inv_settleMirror, = inv_mk]

theorem inv_enterHalted (h : s.Inv) : (enterHalted s).Inv := by
  grind [enterHalted, inv_translateReq, = inv_mk, inv_foldl]

theorem inv_heard (h : s.Inv) : (heard s).Inv := h.of_eq rfl rfl rfl

theorem inv_execMirrorAck (h : s.Inv) {port_ : Nat} {msg : Msg} (e : execMirrorAck port_ msg s = .next t) : t.Inv := by
  grind [execMirrorAck, inv_badSlots, inv_dropOwn, inv_heard, inv_arriveRsp, inv_mirrorDone, inv_enterSolo]

/-! ### The mirror stream at its receiver -/

theorem inv_mirrorRecord (h : s.Inv) (m : Msg) : (mirrorRecord s m).Inv := h.of_eq rfl rfl rfl

theorem inv_execMirrorWrite (h : s.Inv) {port_ : Nat} {msg : Msg} (e : execMirrorWrite port_ msg s = .next t) :
    t.Inv := by
  grind [execMirrorWrite, inv_storeMasked, inv_mirrorAck, inv_twinReq, inv_storePoison, inv_mirrorRecord]

theorem inv_putJournal (h : s.Inv) (j : Journal) : (putJournal s j).Inv := h.of_eq rfl rfl rfl

theorem inv_moveTile (h : s.Inv) (j : Journal) : (moveTile s j).Inv := by
  grind [moveTile, inv_storeMasked, inv_storePoison, = inv_mk, inv_foldl]

theorem inv_setMoved (h : s.Inv) (bulk : Bool) (x d t : Nat) : (setMoved s bulk x d t).Inv := h.of_eq rfl rfl rfl

theorem inv_moveTiles (h : s.Inv) (n : Nat) (bulk : Bool) (x d : Nat) : (moveTiles n s bulk x d).Inv := by
  induction n generalizing s with
  | zero => exact h
  | succ n ih => grind [moveTiles, inv_setMoved, inv_moveTile]

theorem inv_execMirrorTile (h : s.Inv) {port_ : Nat} {msg : Msg} (e : execMirrorTile port_ msg s = .next t) :
    t.Inv := by
  grind [execMirrorTile, inv_mirrorAck, inv_putJournal, inv_twinReq]

theorem inv_execMirrorCommit (h : s.Inv) {port_ : Nat} {msg : Msg} (e : execMirrorCommit port_ msg s = .next t) :
    t.Inv := by
  grind [execMirrorCommit, inv_moveTiles, inv_mirrorAck, inv_putJournal, inv_twinReq]

theorem inv_bulkOver (h : s.Inv) (d : Nat) : (bulkOver s d).Inv := h.of_eq rfl rfl rfl

theorem inv_execMirrorAdd (h : s.Inv) {port_ : Nat} {msg : Msg} (e : execMirrorAdd port_ msg s = .next t) : t.Inv := by
  grind [execMirrorAdd, inv_signalAdd, inv_mirrorAck, inv_bulkOver, inv_twinReq]

/-! ### Commands of the active on the standby (R377, R379) -/

theorem inv_repOk {r : State × Rep} (h : r.1.Inv) : (repOk r).2.Inv := by
  grind [repOk]

theorem inv_cfgAlloc (h : s.Inv) (b : List Byte) : (cfgAlloc b s).2.Inv := by
  grind [cfgAlloc, inv_doAlloc, inv_repOk, = inv_mk]

theorem inv_cfgRelease (h : s.Inv) (b : List Byte) : (cfgRelease b s).2.Inv := by
  grind [cfgRelease, inv_doRelease, inv_repOk, = inv_mk]

theorem inv_cfgAttrOne (h : s.Inv) (attr mask e : Nat) : (cfgAttrOne attr mask s e).Inv := by
  grind [cfgAttrOne, inv_freeExtent, inv_setExt, = inv_mk]

theorem inv_cfgDestroy (h : s.Inv) (x : Nat) : (cfgDestroy s x).Inv := by
  grind [cfgDestroy, inv_destroyNow, inv_freeShadow, = inv_mk]

theorem inv_cfgState (h : s.Inv) (x st : Nat) : (cfgState s x st).Inv := by
  grind [cfgState, inv_updCtx]

theorem inv_cfgExtents (h : s.Inv) (op : Nat) (b : List Byte) : (cfgExtents op b s).2.Inv := by
  grind [cfgExtents, inv_doWindowSet, inv_repOk, inv_windowClearNow, inv_cfgAttrOne, inv_unmapNow, inv_doViewMap,
    inv_cfgAlloc, inv_cfgRelease, inv_foldl]

theorem inv_cfgOthers (h : s.Inv) (op : Nat) (b : List Byte) : (cfgOthers op b s).2.Inv := by
  unfold cfgOthers
  extract_lets w v
  clear_value w v
  grind (splits := 24) [inv_repOk, inv_doTenantSet, inv_doTenantClear, inv_doFaultqSet, inv_doCtxCreate, inv_cfgDestroy,
    inv_cfgState, inv_doCtxSet, inv_doLintelCreate, inv_doLintelDestroy, inv_doLintelBreak, inv_doRankTable]

theorem inv_cfgApply (h : s.Inv) (kind : Nat) (b : List Byte) : (cfgApply kind b s).2.Inv := by
  grind [cfgApply, inv_cfgOthers, inv_cfgExtents, inv_bulkOver, = inv_mk]

theorem inv_execMirrorCfg (h : s.Inv) {port_ : Nat} {msg : Msg} (e : execMirrorCfg port_ msg s = .next t) : t.Inv := by
  grind [execMirrorCfg, inv_cfgApply, inv_mirrorAck, inv_twinReq, = inv_mk]

/-! ### Takeover (R388, R393) -/

theorem inv_resumeContext (h : s.Inv) (x : Nat) : (resumeContext s x).Inv := by
  grind [resumeContext, inv_ringRead, inv_dropNext, inv_settle, inv_dropPark, inv_enterStopped, inv_freeShadow,
    inv_setCtx, = inv_mk]

theorem inv_resumeBulk (h : s.Inv) (d : Nat) (raw : List Byte) : (resumeBulk s d raw).Inv := by
  grind [resumeBulk, inv_updJob, inv_admitBulk]

theorem inv_takeOver (h : s.Inv) (st : Nat) : (takeOver s st).Inv := by
  grind [takeOver, inv_resumeContext, inv_resumeBulk, inv_twinActive, = inv_mk, inv_foldl]

theorem inv_beginTakeover (h : s.Inv) : (beginTakeover s).Inv := by
  grind [beginTakeover, inv_unmapNow, = inv_mk, inv_foldl]

theorem inv_doPromote (h : s.Inv) : (doPromote s).1.Inv := by
  grind [doPromote, inv_beginTakeover, inv_enterSolo]

theorem inv_finishPromote (h : s.Inv) : (finishPromote s).Inv := by
  grind [finishPromote, inv_finishAll]

theorem inv_execTwinPromote (h : s.Inv) {slot : Nat} {tag : Word32} (e : execTwinPromote slot tag s = .next t) :
    t.Inv := by
  grind [execTwinPromote, inv_runCmd, inv_finishPromote, inv_doPromote]

theorem inv_execTakeoverDone (h : s.Inv) (e : execTakeoverDone s = .next t) : t.Inv := by
  grind [execTakeoverDone, inv_takeOver, inv_finishPromote, = inv_mk]

theorem inv_leaveActive (h : s.Inv) (x : Nat) : (leaveActive s x).Inv := by
  grind [leaveActive, inv_dropBulk, inv_dropNext, inv_setMoved, inv_dropPark, inv_freeShadow, inv_setCtx, = inv_mk,
    inv_foldl]

theorem inv_beginHandover (h : s.Inv) : (beginHandover s).Inv := by
  grind [beginHandover, inv_updRun, = inv_mk, inv_foldl]

theorem inv_handOver (h : s.Inv) : (handOver s).Inv := by
  grind [handOver, inv_finishAll, inv_leaveActive, = inv_mk, inv_foldl]

/-! ### Beats and the mirror (R380, R385) -/

theorem inv_execMirrorBeatTimer (h : s.Inv) (e : execMirrorBeatTimer s = .next t) : t.Inv := by
  grind [execMirrorBeatTimer, inv_reach, inv_handOver, inv_ownRequestVia, = inv_mk, inv_foldl]

theorem inv_peerState (h : s.Inv) (st gen : Nat) : (peerState s st gen).Inv := by
  grind [peerState, inv_takeOver, = inv_mk]

theorem inv_execMirrorBeat (h : s.Inv) {port_ : Nat} {msg : Msg} (e : execMirrorBeat port_ msg s = .next t) :
    t.Inv := by
  grind [execMirrorBeat, inv_peerState, inv_heard, inv_mirrorAck, inv_twinReq]

theorem inv_execMirrorLoss (h : s.Inv) (e : execMirrorLoss s = .next t) : t.Inv := by
  grind [execMirrorLoss, inv_reach, inv_settleMirror, inv_twinLost, inv_enterHalted, = inv_mk]

theorem inv_execMirrorRestored (h : s.Inv) (e : execMirrorRestored s = .next t) : t.Inv := by
  grind [execMirrorRestored, inv_resendOwn, inv_sendOwed, inv_heard, inv_translateReq, inv_roceRun, inv_leaveActive, =
    inv_mk, inv_foldl]

theorem inv_execSoloWaitExpire (h : s.Inv) (e : execSoloWaitExpire s = .next t) : t.Inv := by
  grind [execSoloWaitExpire, inv_reach, inv_enterHalted]

/-! ### Forming and resynchronisation (R376, R392) -/

theorem inv_execPairForm (h : s.Inv) (e : execPairForm s = .next t) : t.Inv := by
  grind [execPairForm, inv_heard, = inv_mk]

theorem inv_copyDone (h : s.Inv) : (copyDone s).Inv := h.of_eq rfl rfl rfl

theorem inv_execInitialCopyDone (h : s.Inv) (e : execInitialCopyDone s = .next t) : t.Inv := by
  grind [execInitialCopyDone, inv_finishAll, inv_copyDone]

theorem inv_clearDirty (h : s.Inv) : (clearDirty s).Inv :=
  ⟨List.foldlRecOn (motive := fun m => Memory.wf m = true) _ _ h.mem fun _ hm _ _ => memZero_wf _ _ hm, h.sram, h.regs⟩

theorem inv_execResyncDone (h : s.Inv) (e : execResyncDone s = .next t) : t.Inv := by
  grind [execResyncDone, inv_clearDirty, inv_setTwin, inv_finishAll, inv_copyDone, = inv_mk]

theorem inv_execRevertHoldExpire (h : s.Inv) (e : execRevertHoldExpire s = .next t) : t.Inv := by
  grind [execRevertHoldExpire, inv_beginHandover, inv_reach, inv_handOver]

/-! ### The commands (R394, R449) -/

theorem inv_doTwinSet (h : s.Inv) (peer ports flags loss solo hold : Nat) (witness : List Byte) :
    (doTwinSet peer ports flags loss solo hold witness s).1.Inv := by
  grind [doTwinSet, inv_rput, = inv_mk]

theorem inv_execTwinSet (h : s.Inv) {slot : Nat} {tag : Word32} {peer ports flags : Word64} {witness : List Word64}
    {lossT soloWait revertHold : Word64}
    (e : execTwinSet slot tag peer ports flags witness lossT soloWait revertHold s = .next t) :
    t.Inv := by
  grind [execTwinSet, inv_doTwinSet, inv_runCmd]

theorem inv_execTwinQuery (h : s.Inv) {slot : Nat} {tag : Word32} {start : Word64}
    (e : execTwinQuery slot tag start s = .next t) :
    t.Inv := by
  grind [execTwinQuery, inv_runCmd, inv_free64]

theorem inv_execTwinDemote (h : s.Inv) {slot : Nat} {tag : Word32} (e : execTwinDemote slot tag s = .next t) :
    t.Inv := by
  grind [execTwinDemote, inv_runCmd, inv_enterHalted]

theorem inv_execTwinSolo (h : s.Inv) {slot : Nat} {tag : Word32} (e : execTwinSolo slot tag s = .next t) : t.Inv := by
  grind [execTwinSolo, inv_runCmd, inv_enterSolo]

theorem inv_execTwinTakeback (h : s.Inv) {slot : Nat} {tag : Word32} (e : execTwinTakeback slot tag s = .next t) :
    t.Inv := by
  grind [execTwinTakeback, inv_beginHandover, inv_runCmd, inv_handOver]

theorem inv_doTwinClear (h : s.Inv) : (doTwinClear s).1.Inv := by
  grind [doTwinClear, inv_resumeContext, inv_rput, inv_settleMirror, inv_resumeBulk, inv_finishAll, = inv_mk, inv_foldl]

theorem inv_execTwinClear (h : s.Inv) {slot : Nat} {tag : Word32} (e : execTwinClear slot tag s = .next t) : t.Inv := by
  grind [execTwinClear, inv_runCmd, inv_doTwinClear]

/-! ### The interrupt controller's own reads and writes (R465, R466) -/

theorem inv_micClaim (h : s.Inv) (c : Nat) : (micClaim s c).2.Inv := by
  unfold micClaim
  split
  · exact h.of_eq rfl rfl rfl
  · exact inv_bump h _ _

theorem inv_micComplete (h : s.Inv) (c v : Nat) : (micComplete s c v).Inv := by
  grind [micComplete, inv_bump, = inv_mk]

/-! ### SET and CLR addresses (R12) -/

theorem inv_writeSetClr (h : s.Inv) (a : Nat) (set : Bool) (m : Nat) : (writeSetClr s a set m).Inv := by
  grind [writeSetClr, inv_btrLevels, inv_rput, inv_micLevel, = inv_mk]

/-! ### Access by a bus master -/

theorem inv_putReg (h : s.Inv) (r : RegRow) (a v : Nat) : (putReg s r a v).Inv := by
  grind [putReg, inv_rput]

theorem inv_commitHalves (h : s.Inv) (m : Nat) (r : RegRow) (a v : Nat) : (commitHalves s m r a v).Inv := by
  grind [commitHalves, inv_putReg, = inv_mk]

theorem inv_writeRow (h : s.Inv) (m : Nat) (r : RegRow) (a v : Nat) : (writeRow s m r a v).Inv := by
  unfold writeRow
  extract_lets x
  repeat' split
  · exact inv_writeInjCtl h ..
  · exact inv_writeSeaInj h ..
  · exact inv_btrInject h _
  · exact inv_btrClose h _
  · exact h.of_eq rfl rfl rfl
  · exact inv_micComplete h ..
  · exact h
  · exact h
  · exact h.of_eq rfl rfl rfl
  · exact inv_commitHalves h ..
  · exact inv_putReg h ..

theorem inv_writeReg (h : s.Inv) (m a v : Nat) : (writeReg s m a v).Inv := by
  grind [writeReg, inv_writeSetClr, inv_writeRow]

theorem inv_readReg (h : s.Inv) (m a : Nat) : (readReg s m a).2.Inv := by
  grind [readReg, inv_rput, inv_micClaim, inv_free32, = inv_mk]

theorem inv_giveData (h : s.Inv) (m v : Nat) : (giveData s m v).Inv := h.of_eq rfl rfl rfl

theorem inv_readTo (h : s.Inv) (m a : Nat) : (readTo s m a).Inv := by
  grind [readTo, inv_giveData, inv_readReg]

/-! ### The commands -/

theorem inv_execRegisterWrite (h : s.Inv) {master addr size : Nat} {value : Word32}
    (e : execRegisterWrite master addr size value s = .next t) :
    t.Inv := by
  grind [execRegisterWrite, inv_writeReg]

theorem inv_execSetAddressWrite (h : s.Inv) {_master addr : Nat} {value : Word32}
    (e : execSetAddressWrite _master addr value s = .next t) :
    t.Inv := by
  grind [execSetAddressWrite, inv_writeSetClr]

theorem inv_execClrAddressWrite (h : s.Inv) {_master addr : Nat} {value : Word32}
    (e : execClrAddressWrite _master addr value s = .next t) :
    t.Inv := by
  grind [execClrAddressWrite, inv_writeSetClr]

theorem inv_clearInput (h : s.Inv) (v hw : Nat) : (clearInput s v hw).Inv := h.of_eq rfl rfl rfl

theorem inv_clearTemperature (h : s.Inv) (v hw : Nat) : (clearTemperature s v hw).Inv := h.of_eq rfl rfl rfl

theorem inv_execW1cWrite (h : s.Inv) {target : W1cTarget} {value hw : Word32} (e : execW1cWrite target value hw s =
    .next t) :
    t.Inv := by
  cases target <;> grind [execW1cWrite, inv_clearInput, inv_clearTemperature]

theorem inv_execRcRead (h : s.Inv) {master addr incr : Nat} (e : execRcRead master addr incr s = .next t) : t.Inv := by
  grind [execRcRead, inv_bump, inv_readTo]

theorem inv_execLoReadLatch (h : s.Inv) {master addr : Nat} (e : execLoReadLatch master addr s = .next t) : t.Inv := by
  grind [execLoReadLatch, inv_readTo]

theorem inv_execHiWriteHold (h : s.Inv) {master addr : Nat} {value : Word32}
    (e : execHiWriteHold master addr value s = .next t) :
    t.Inv := by
  grind [execHiWriteHold, inv_writeRow]

theorem inv_execLoWriteCommit (h : s.Inv) {master addr : Nat} {value : Word32}
    (e : execLoWriteCommit master addr value s = .next t) :
    t.Inv := by
  grind [execLoWriteCommit, inv_writeRow]

theorem inv_execMicClaimRead (h : s.Inv) {core : Nat} (e : execMicClaimRead core s = .next t) : t.Inv := by
  grind [execMicClaimRead, inv_giveData, inv_micClaim]

theorem inv_execMicCompleteWrite (h : s.Inv) {core : Nat} {value : Word32}
    (e : execMicCompleteWrite core value s = .next t) :
    t.Inv := by
  grind [execMicCompleteWrite, inv_micComplete]

theorem inv_execCoalHoldEnd (h : s.Inv) {source : Nat} (e : execCoalHoldEnd source s = .next t) : t.Inv := by
  grind [execCoalHoldEnd, inv_reach, = inv_mk]

theorem inv_execSourceLevelChange (h : s.Inv) {source : Nat} {high : Bool}
    (e : execSourceLevelChange source high s = .next t) :
    t.Inv := by
  grind [execSourceLevelChange, inv_micLevel]

theorem inv_accumulate (h : s.Inv) (a v : Nat) : (accumulate s a v).Inv := by
  grind [accumulate, inv_rput, = inv_mk]

theorem inv_execCounterAccumulate (h : s.Inv) (e : execCounterAccumulate s = .next t) : t.Inv := by
  grind [execCounterAccumulate, inv_accumulate, inv_foldl]

theorem inv_eventsFrom (h : s.Inv) (n seq room : Nat) : (eventsFrom n seq room s).2.Inv := by
  induction n generalizing s seq room with
  | zero => exact h
  | succ n ih =>
    have h1 := inv_load h (resPpa 0 5 (2 ^ 29 + (seq % 262144) * 2048)) 2048
    unfold eventsFrom
    generalize load s (resPpa 0 5 (2 ^ 29 + (seq % 262144) * 2048)) 2048 = r at h1 ⊢
    dsimp only
    split
    · exact h1
    · exact ih h1 _ _

theorem inv_execEventRead (h : s.Inv) {slot : Nat} {tag : Word32} {seq count : Word64}
    (e : execEventRead slot tag seq count s = .next t) :
    t.Inv := by
  grind [execEventRead, inv_runCmd, inv_exitSelfRefresh, inv_eventsFrom]

theorem inv_regReadOne (h : s.Inv) (a : Nat) : (regReadOne s a).2.Inv := by
  grind [regReadOne, inv_readReg]

theorem inv_execRegRead (h : s.Inv) {slot : Nat} {tag : Word32} {list : List Word64}
    (e : execRegRead slot tag list s = .next t) :
    t.Inv := by
  grind [execRegRead, inv_runCmd, inv_regReadOne, inv_foldl_snd]

theorem inv_execRegWrite (h : s.Inv) {slot : Nat} {tag : Word32} {addr value : Word64}
    (e : execRegWrite slot tag addr value s = .next t) :
    t.Inv := by
  grind [execRegWrite, inv_writeReg, inv_runCmd]

theorem inv_execTelemetryRead (h : s.Inv) {slot : Nat} {tag : Word32} {block index : Word64}
    (e : execTelemetryRead slot tag block index s = .next t) :
    t.Inv := by
  grind [execTelemetryRead, inv_runCmd]

theorem inv_accessFault (h : s.Inv) (m : Nat) : (accessFault s m).Inv := h.of_eq rfl rfl rfl

theorem inv_sramWrite (h : s.Inv) (m off : Nat) (b : List Byte) : (sramWrite s m off b).Inv :=
  ⟨h.mem, memWrite_wf _ _ h.sram, h.regs⟩

theorem inv_regAccess (h : s.Inv) (m a n : Nat) (st : Option Nat) : (regAccess s m a n st).Inv := by
  unfold regAccess
  repeat' split
  all_goals grind [inv_writeReg, inv_giveData, inv_free64, inv_readTo]

theorem inv_dieAccess (h : s.Inv) (m a n : Nat) (st : Option Nat) : (dieAccess s m a n st).Inv := by
  grind [dieAccess, inv_regAccess]

theorem inv_poolAccess (h : s.Inv) (m ppa n : Nat) (st : Option Nat) : (poolAccess s m ppa n st).Inv := by
  grind [poolAccess, inv_storeMirrored, inv_accessFault, inv_giveData, inv_agentLine, inv_load]

theorem inv_busAccess (h : s.Inv) (m a n : Nat) (st : Option Nat) : (busAccess s m a n st).Inv := by
  unfold busAccess
  repeat' split
  all_goals grind [inv_sramWrite, inv_accessFault, inv_regAccess, inv_giveData, inv_dieAccess, inv_poolAccess]

theorem inv_execCoreAccess (h : s.Inv) {core addr size : Nat} {st : Option Word64}
    (e : execCoreAccess core addr size st s = .next t) :
    t.Inv := by
  grind [execCoreAccess, inv_busAccess]

theorem inv_execPoolWindowAccess (h : s.Inv) {core ppa size : Nat} {st : Option Word64}
    (e : execPoolWindowAccess core ppa size st s = .next t) :
    t.Inv := by
  grind [execPoolWindowAccess, inv_poolAccess]

theorem inv_execVoussoirWindowAccess (h : s.Inv) {core die off size : Nat} {st : Option Word32}
    (e : execVoussoirWindowAccess core die off size st s = .next t) :
    t.Inv := by
  grind [execVoussoirWindowAccess, inv_dieAccess]

theorem inv_sramAtomic (h : s.Inv) (c off n : Nat) (op : Amo) (y : Nat) : (sramAtomic s c off n op y).2.Inv := by
  unfold sramAtomic
  repeat' split
  all_goals grind [inv_sramWrite, = inv_mk]

theorem inv_execCoreAtomic (h : s.Inv) {core addr size : Nat} {op : Amo} {value : Word64}
    (e : execCoreAtomic core addr size op value s = .next t) :
    t.Inv := by
  grind [execCoreAtomic, inv_accessFault, inv_giveData, inv_sramAtomic]

/-! ### The SMBus (R544, R548) -/

theorem inv_smbReturn (h : s.Inv) (d : Option (List Byte)) : (smbReturn s d).Inv := h.of_eq rfl rfl rfl

theorem inv_smbus (h : s.Inv) (byPlinth : Bool) {f : State → State} (hf : ∀ u, u.Inv → (f u).Inv) :
    (smbus byPlinth s f).Inv := by
  grind [smbus, inv_smbReturn, inv_wake]

theorem inv_smbRead (h : s.Inv) (byPlinth : Bool) (f : State → List Byte) : (smbRead byPlinth s f).Inv :=
  inv_smbus h byPlinth fun _ hu => inv_smbReturn hu _

/-! ### PMBus (R545, R546) -/

theorem inv_execStatusWord (h : s.Inv) (e : execStatusWord s = .next t) : t.Inv := by
  grind [execStatusWord, inv_smbRead]

theorem inv_execStatusInput (h : s.Inv) {clear : Option Nat} (e : execStatusInput clear s = .next t) : t.Inv := by
  unfold execStatusInput at e
  repeat' split at e
  all_goals grind [inv_smbus, inv_smbRead, inv_smbReturn, inv_clearInput]

theorem inv_execStatusTemperature (h : s.Inv) {clear : Option Nat} (e : execStatusTemperature clear s = .next t) :
    t.Inv := by
  unfold execStatusTemperature at e
  repeat' split at e
  all_goals grind [inv_smbus, inv_clearTemperature, inv_smbRead, inv_smbReturn]

theorem inv_execReadVin (h : s.Inv) (e : execReadVin s = .next t) : t.Inv := by
  grind [execReadVin, inv_smbRead]

theorem inv_execReadIin (h : s.Inv) (e : execReadIin s = .next t) : t.Inv := by
  grind [execReadIin, inv_smbRead]

theorem inv_execReadTemperature1 (h : s.Inv) (e : execReadTemperature1 s = .next t) : t.Inv := by
  grind [execReadTemperature1, inv_smbRead]

theorem inv_execReadTemperature2 (h : s.Inv) (e : execReadTemperature2 s = .next t) : t.Inv := by
  grind [execReadTemperature2, inv_smbRead]

theorem inv_execReadPin (h : s.Inv) (e : execReadPin s = .next t) : t.Inv := by
  grind [execReadPin, inv_smbRead]

theorem inv_execMfrId (h : s.Inv) (e : execMfrId s = .next t) : t.Inv := by
  grind [execMfrId, inv_smbRead]

theorem inv_execMfrModel (h : s.Inv) (e : execMfrModel s = .next t) : t.Inv := by
  grind [execMfrModel, inv_smbRead]

theorem inv_execMfrRevision (h : s.Inv) (e : execMfrRevision s = .next t) : t.Inv := by
  grind [execMfrRevision, inv_smbRead]

theorem inv_setShelf (h : s.Inv) (v : Nat) : (setShelf s v).Inv := by
  grind [setShelf, inv_govern, inv_rput, inv_powerEvent]

theorem inv_execMfrShelfState (h : s.Inv) {write : Option Nat} (e : execMfrShelfState write s = .next t) : t.Inv := by
  unfold execMfrShelfState at e
  repeat' split at e
  all_goals grind [inv_smbus, inv_smbRead, inv_smbReturn, inv_setShelf]

theorem inv_execMfrBootStatus (h : s.Inv) (e : execMfrBootStatus s = .next t) : t.Inv := by
  grind [execMfrBootStatus, inv_smbRead]

/-! ### The mailbox over SMBus (R430, R547) -/

theorem inv_openSlot8 (h : s.Inv) : (openSlot8 s).Inv := by
  grind [openSlot8, inv_setSession, = inv_mk]

theorem inv_submitSlot8 (h : s.Inv) (f : List Byte) : (submitSlot8 s f).Inv := by
  grind [submitSlot8, inv_bump, inv_submit, inv_smbReturn, inv_openSlot8]

theorem inv_takeFragment (h : s.Inv) (ctl : Nat) (b : List Byte) : (takeFragment s ctl b).Inv := by
  grind [takeFragment, inv_submitSlot8, inv_bump, = inv_mk]

theorem inv_execMfrMboxWrite (h : s.Inv) {bytes : List Byte} (e : execMfrMboxWrite bytes s = .next t) : t.Inv := by
  grind [execMfrMboxWrite, inv_smbus, inv_takeFragment, inv_smbReturn]

theorem inv_nextFragment (h : s.Inv) : (nextFragment s).Inv := by
  grind [nextFragment, inv_smbReturn, = inv_mk]

theorem inv_execMfrMboxRead (h : s.Inv) (e : execMfrMboxRead s = .next t) : t.Inv := by
  grind [execMfrMboxRead, inv_smbus, inv_nextFragment, = inv_mk]

theorem inv_execAlertResponse (h : s.Inv) (e : execAlertResponse s = .next t) : t.Inv := by
  grind [execAlertResponse, inv_smbReturn]

/-! ### JTAG (R549) -/

theorem inv_jtag (h : s.Inv) (ir out : Nat) : (jtag s ir out).Inv := h.of_eq rfl rfl rfl

theorem inv_execIdcode (h : s.Inv) (e : execIdcode s = .next t) : t.Inv := by
  grind [execIdcode, inv_jtag]

theorem inv_execBypass (h : s.Inv) (e : execBypass s = .next t) : t.Inv := by
  grind [execBypass, inv_jtag]

theorem inv_execSamplePreload (h : s.Inv) {preload : Nat} (e : execSamplePreload preload s = .next t) : t.Inv := by
  grind [execSamplePreload, inv_free64, inv_jtag, = inv_mk]

theorem inv_execExtest (h : s.Inv) (e : execExtest s = .next t) : t.Inv := by
  grind [execExtest, inv_free64, inv_jtag, = inv_mk]

theorem inv_execRegacc (h : s.Inv) {addr size : Nat} {st : Option Word64} (e : execRegacc addr size st s = .next t) :
    t.Inv := by
  grind [execRegacc, inv_busAccess, inv_jtag]

theorem inv_execAnchorLoad (h : s.Inv) {cert : List Byte} (e : execAnchorLoad cert s = .next t) : t.Inv := by
  grind [execAnchorLoad, inv_jtag, inv_saveAnchors]

/-! ### Every command and every step -/

theorem inv_exec (h : s.Inv) (i : Instr) (e : exec i s = .next t) : t.Inv := by
  cases i with
  | registerWrite => exact inv_execRegisterWrite h e
  | setAddressWrite master => exact inv_execSetAddressWrite (_master := master) h e
  | clrAddressWrite master => exact inv_execClrAddressWrite (_master := master) h e
  | w1cWrite => exact inv_execW1cWrite h e
  | rcRead => exact inv_execRcRead h e
  | loReadLatch => exact inv_execLoReadLatch h e
  | hiWriteHold => exact inv_execHiWriteHold h e
  | loWriteCommit => exact inv_execLoWriteCommit h e
  | micClaimRead core => exact inv_execMicClaimRead (core := core) h e
  | micCompleteWrite => exact inv_execMicCompleteWrite h e
  | coalHoldEnd => exact inv_execCoalHoldEnd h e
  | sourceLevelChange => exact inv_execSourceLevelChange h e
  | btrCloseWrite => exact inv_execBtrCloseWrite h e
  | btrWdogWrite value => exact inv_execBtrWdogWrite (_value := value) h e
  | btrInjGo => exact inv_execBtrInjGo h e
  | stkInjCtlWrite => exact inv_execStkInjCtlWrite h e
  | stkInjPar => exact inv_execStkInjPar h e
  | seaInjArm => exact inv_execSeaInjArm h e
  | coreAccess => exact inv_execCoreAccess h e
  | coreAtomic => exact inv_execCoreAtomic h e
  | poolWindowAccess => exact inv_execPoolWindowAccess h e
  | voussoirWindowAccess => exact inv_execVoussoirWindowAccess h e
  | counterAccumulate => exact inv_execCounterAccumulate h e
  | dtlsHandshake => exact inv_execDtlsHandshake h e
  | associationIdle => exact inv_execAssociationIdle h e
  | refusingClose => exact inv_execRefusingClose h e
  | commandFrame => exact inv_execCommandFrame h e
  | commandHead => exact inv_execCommandHead h e
  | leaseExpire => exact inv_execLeaseExpire h e
  | ownClaim => exact inv_execOwnClaim h e
  | ownRenew => exact inv_execOwnRenew h e
  | ownRelease => exact inv_execOwnRelease h e
  | ownQuery => exact inv_execOwnQuery h e
  | ownTransfer => exact inv_execOwnTransfer h e
  | sessionList => exact inv_execSessionList h e
  | sessionClose => exact inv_execSessionClose h e
  | mgmtSet => exact inv_execMgmtSet h e
  | extentAlloc => exact inv_execExtentAlloc h e
  | extentRelease => exact inv_execExtentRelease h e
  | extentSetAttr => exact inv_execExtentSetAttr h e
  | extentQuery => exact inv_execExtentQuery h e
  | viewMap => exact inv_execViewMap h e
  | viewUnmap => exact inv_execViewUnmap h e
  | viewQuery => exact inv_execViewQuery h e
  | windowSet => exact inv_execWindowSet h e
  | windowClear => exact inv_execWindowClear h e
  | extentMigrate => exact inv_execExtentMigrate h e
  | tenantSet => exact inv_execTenantSet h e
  | tenantClear => exact inv_execTenantClear h e
  | tenantQuery => exact inv_execTenantQuery h e
  | capacitySet => exact inv_execCapacitySet h e
  | gateSet => exact inv_execGateSet h e
  | faultRead => exact inv_execFaultRead h e
  | faultResolve => exact inv_execFaultResolve h e
  | faultqSet => exact inv_execFaultqSet h e
  | contextCreate => exact inv_execContextCreate h e
  | contextDestroy => exact inv_execContextDestroy h e
  | contextQuery => exact inv_execContextQuery h e
  | contextRestart => exact inv_execContextRestart h e
  | contextSuspend => exact inv_execContextSuspend h e
  | contextResume => exact inv_execContextResume h e
  | contextSet => exact inv_execContextSet h e
  | courseCaps => exact inv_execCourseCaps h e
  | courseSet => exact inv_execCourseSet h e
  | lintelCreate => exact inv_execLintelCreate h e
  | lintelDestroy => exact inv_execLintelDestroy h e
  | lintelQuery => exact inv_execLintelQuery h e
  | lintelBreak => exact inv_execLintelBreak h e
  | watchQuery => exact inv_execWatchQuery h e
  | coordSet => exact inv_execCoordSet h e
  | portSet => exact inv_execPortSet h e
  | portQuery => exact inv_execPortQuery h e
  | routeSet => exact inv_execRouteSet h e
  | portRetrain => exact inv_execPortRetrain h e
  | fabricSet => exact inv_execFabricSet h e
  | rankTableSet => exact inv_execRankTableSet h e
  | legacySet => exact inv_execLegacySet h e
  | endpointFail => exact inv_execEndpointFail h e
  | endpointReadmit => exact inv_execEndpointReadmit h e
  | endpointRetire => exact inv_execEndpointRetire h e
  | ethPortSet => exact inv_execEthPortSet h e
  | ethPortQuery => exact inv_execEthPortQuery h e
  | qpCreate => exact inv_execQpCreate h e
  | qpDestroy => exact inv_execQpDestroy h e
  | qpQuery => exact inv_execQpQuery h e
  | egressSet => exact inv_execEgressSet h e
  | ptpSet => exact inv_execPtpSet h e
  | groupSet => exact inv_execGroupSet h e
  | groupQuery => exact inv_execGroupQuery h e
  | timeSet => exact inv_execTimeSet h e
  | timeStep => exact inv_execTimeStep h e
  | twinSet => exact inv_execTwinSet h e
  | twinQuery => exact inv_execTwinQuery h e
  | twinPromote => exact inv_execTwinPromote h e
  | twinDemote => exact inv_execTwinDemote h e
  | twinSolo => exact inv_execTwinSolo h e
  | twinTakeback => exact inv_execTwinTakeback h e
  | twinClear => exact inv_execTwinClear h e
  | eventRead => exact inv_execEventRead h e
  | regRead => exact inv_execRegRead h e
  | telemetryRead => exact inv_execTelemetryRead h e
  | identity => exact inv_execIdentity h e
  | fwStage => exact inv_execFwStage h e
  | fwVerify => exact inv_execFwVerify h e
  | fwCommit => exact inv_execFwCommit h e
  | fwActivate => exact inv_execFwActivate h e
  | spdm => exact inv_execSpdm h e
  | anchorSet => exact inv_execAnchorSet h e
  | anchorQuery => exact inv_execAnchorQuery h e
  | memtest => exact inv_execMemtest h e
  | inject => exact inv_execInject h e
  | poisonWrite => exact inv_execPoisonWrite h e
  | regWrite => exact inv_execRegWrite h e
  | recoveryRead => exact inv_execRecoveryRead h e
  | powerQuery => exact inv_execPowerQuery h e
  | powerSet => exact inv_execPowerSet h e
  | poolHold => exact inv_execPoolHold h e
  | poolResume => exact inv_execPoolResume h e
  | standby => exact inv_execStandby h e
  | zeroFillDone => exact inv_execZeroFillDone h e
  | fenceComplete => exact inv_execFenceComplete h e
  | revalidationDone => exact inv_execRevalidationDone h e
  | migrationPassEnd => exact inv_execMigrationPassEnd h e
  | migrationSwitchDone => exact inv_execMigrationSwitchDone h e
  | migrationHoldLimit => exact inv_execMigrationHoldLimit h e
  | unrecordedRetranslate => exact inv_execUnrecordedRetranslate h e
  | descriptorAccept => exact inv_execDescriptorAccept h e
  | admitRetryExpire => exact inv_execAdmitRetryExpire h e
  | watchNotice => exact inv_execWatchNotice h e
  | timeWatchFire => exact inv_execTimeWatchFire h e
  | courseDispatch => exact inv_execCourseDispatch h e
  | stealWaitExpire => exact inv_execStealWaitExpire h e
  | gangWaitExpire => exact inv_execGangWaitExpire h e
  | notBeforeReached => exact inv_execNotBeforeReached h e
  | tileStart => exact inv_execTileStart h e
  | tileEnd => exact inv_execTileEnd h e
  | descriptorComplete => exact inv_execDescriptorComplete h e
  | quantumExpire => exact inv_execQuantumExpire h e
  | preemptSaveDone => exact inv_execPreemptSaveDone h e
  | stoppedDescriptorDrain => exact inv_execStoppedDescriptorDrain h e
  | channelWriteEntry => exact inv_execChannelWriteEntry h e
  | channelReadEntry => exact inv_execChannelReadEntry h e
  | channelSchedule => exact inv_execChannelSchedule h e
  | readDecode => exact inv_execReadDecode h e
  | refreshDue => exact inv_execRefreshDue h e
  | rfmThreshold => exact inv_execRfmThreshold h e
  | bankIdleExpire => exact inv_execBankIdleExpire h e
  | urgencyRise => exact inv_execUrgencyRise h e
  | stackTempRead => exact inv_execStackTempRead h e
  | trackingTrigger => exact inv_execTrackingTrigger h e
  | trackingDone => exact inv_execTrackingDone h e
  | fullTrainingDone => exact inv_execFullTrainingDone h e
  | rebuildDone => exact inv_execRebuildDone h e
  | rowSpare => exact inv_execRowSpare h e
  | rowCopyDone => exact inv_execRowCopyDone h e
  | stackTrainingDone => exact inv_execStackTrainingDone h e
  | selfRefreshExitDone => exact inv_execSelfRefreshExitDone h e
  | sealDelta => exact inv_execSealDelta h e
  | sealDeltaResume => exact inv_execSealDeltaResume h e
  | pageHoldGrant => exact inv_execPageHoldGrant h e
  | sealLineAge => exact inv_execSealLineAge h e
  | sealRebuildDone => exact inv_execSealRebuildDone h e
  | scrubVisit => exact inv_execScrubVisit h e
  | scrubPageChecked => exact inv_execScrubPageChecked h e
  | d2dParityError => exact inv_execD2dParityError h e
  | d2dTrainingLoss => exact inv_execD2dTrainingLoss h e
  | ondieParityError => exact inv_execOndieParityError h e
  | timeBaseCorrect => exact inv_execTimeBaseCorrect h e
  | portLightDetect => exact inv_execPortLightDetect h e
  | portTrainingDone => exact inv_execPortTrainingDone h e
  | portTrainingTimeout => exact inv_execPortTrainingTimeout h e
  | trainingRetryTimer => exact inv_execTrainingRetryTimer h e
  | dataFlitReceive => exact inv_execDataFlitReceive h e
  | badCrcFlit => exact inv_execBadCrcFlit h e
  | idleFlitReceive => exact inv_execIdleFlitReceive h e
  | fenceFlitReceive => exact inv_execFenceFlitReceive h e
  | ts => exact inv_execTs h e
  | ident => exact inv_execIdent h e
  | identReq => exact inv_execIdentReq h e
  | creditInit => exact inv_execCreditInit h e
  | replayStart => exact inv_execReplayStart h e
  | retrainReq => exact inv_execRetrainReq h e
  | retrainAck => exact inv_execRetrainAck h e
  | widthReq => exact inv_execWidthReq h e
  | widthAck => exact inv_execWidthAck h e
  | rttProbe => exact inv_execRttProbe h e
  | rttEcho => exact inv_execRttEcho h e
  | timesync => exact inv_execTimesync h e
  | timesyncAnswer => exact inv_execTimesyncAnswer h e
  | ackTimerExpire => exact inv_execAckTimerExpire h e
  | lockLossTimeout => exact inv_execLockLossTimeout h e
  | retrainDone => exact inv_execRetrainDone h e
  | retrainMaxExpire => exact inv_execRetrainMaxExpire h e
  | widthChangeDone => exact inv_execWidthChangeDone h e
  | fecRetrainTrigger => exact inv_execFecRetrainTrigger h e
  | wavelengthLockLoss => exact inv_execWavelengthLockLoss h e
  | laserMeasure => exact inv_execLaserMeasure h e
  | laserRemoveTimeout => exact inv_execLaserRemoveTimeout h e
  | flitTransmit => exact inv_execFlitTransmit h e
  | rdShared => exact inv_execRdShared h e
  | rdOwn => exact inv_execRdOwn h e
  | upgrade => exact inv_execUpgrade h e
  | ownFull => exact inv_execOwnFull h e
  | rdOnce => exact inv_execRdOnce h e
  | wrLine => exact inv_execWrLine h e
  | wrPart => exact inv_execWrPart h e
  | atomic => exact inv_execAtomic h e
  | publish => exact inv_execPublish h e
  | evictClean => exact inv_execEvictClean h e
  | rclAck => exact inv_execRclAck h e
  | rclData => exact inv_execRclData h e
  | wback => exact inv_execWback h e
  | pushAck => exact inv_execPushAck h e
  | transactionActivate => exact inv_execTransactionActivate h e
  | reqInputResume => exact inv_execReqInputResume h e
  | recallTimeout => exact inv_execRecallTimeout h e
  | pushAckTimeout => exact inv_execPushAckTimeout h e
  | endpointSweepEnd => exact inv_execEndpointSweepEnd h e
  | bulkDesc => exact inv_execBulkDesc h e
  | read => exact inv_execRead h e
  | write => exact inv_execWrite h e
  | writeMask => exact inv_execWriteMask h e
  | unknownOpMessage => exact inv_execUnknownOpMessage h e
  | messageForward => exact inv_execMessageForward h e
  | wrAck => exact inv_execWrAck h e
  | readData => exact inv_execReadData h e
  | signal => exact inv_execSignal h e
  | watchArm => exact inv_execWatchArm h e
  | watchDisarm => exact inv_execWatchDisarm h e
  | arrive => exact inv_execArrive h e
  | notifyAck => exact inv_execNotifyAck h e
  | requestTimeout => exact inv_execRequestTimeout h e
  | completionRecordExpire => exact inv_execCompletionRecordExpire h e
  | mirrorWrite => exact inv_execMirrorWrite h e
  | mirrorTile => exact inv_execMirrorTile h e
  | mirrorCommit => exact inv_execMirrorCommit h e
  | mirrorAdd => exact inv_execMirrorAdd h e
  | mirrorCfg => exact inv_execMirrorCfg h e
  | mirrorBeat => exact inv_execMirrorBeat h e
  | mirrorAck => exact inv_execMirrorAck h e
  | mirrorBeatTimer => exact inv_execMirrorBeatTimer h e
  | mirrorLoss => exact inv_execMirrorLoss h e
  | mirrorRestored => exact inv_execMirrorRestored h e
  | soloWaitExpire => exact inv_execSoloWaitExpire h e
  | pairForm => exact inv_execPairForm h e
  | takeoverDone => exact inv_execTakeoverDone h e
  | resyncDone => exact inv_execResyncDone h e
  | revertHoldExpire => exact inv_execRevertHoldExpire h e
  | timeExchangeTimer => exact inv_execTimeExchangeTimer h e
  | masterLost => exact inv_execMasterLost h e
  | masterReturn => exact inv_execMasterReturn h e
  | timeHoldover => exact inv_execTimeHoldover h e
  | ethLinkUp => exact inv_execEthLinkUp h e
  | ethFrameDiscard => exact inv_execEthFrameDiscard h e
  | arp => exact inv_execArp h e
  | neighbourDiscovery => exact inv_execNeighbourDiscovery h e
  | icmpEcho => exact inv_execIcmpEcho h e
  | pfcFrame => exact inv_execPfcFrame h e
  | rdmaWrite => exact inv_execRdmaWrite h e
  | rdmaReadRequest => exact inv_execRdmaReadRequest h e
  | readResponseSend => exact inv_execReadResponseSend h e
  | compareAndSwap => exact inv_execCompareAndSwap h e
  | fetchAndAdd => exact inv_execFetchAndAdd h e
  | invalidRocePacket => exact inv_execInvalidRocePacket h e
  | cnp => exact inv_execCnp h e
  | cnpRateTimer => exact inv_execCnpRateTimer h e
  | ptpMessage => exact inv_execPtpMessage h e
  | announceTimeout => exact inv_execAnnounceTimeout h e
  | egressFrameSend => exact inv_execEgressFrameSend h e
  | gateEntryBoundary => exact inv_execGateEntryBoundary h e
  | buttressError => exact inv_execButtressError h e
  | watchdogExpire => exact inv_execWatchdogExpire h e
  | fatalSafeStateEntry => exact inv_execFatalSafeStateEntry h e
  | safeStateCoreRelease => exact inv_execSafeStateCoreRelease h e
  | wake => exact inv_execWake h e
  | plnTimerReached => exact inv_execPlnTimerReached h e
  | powerUp => exact inv_execPowerUp h e
  | powerOnReset => exact inv_execPowerOnReset e
  | jtagTrst => exact inv_execJtagTrst h e
  | powerSample => exact inv_execPowerSample h e
  | limiterTick => exact inv_execLimiterTick h e
  | plateModelUpdate => exact inv_execPlateModelUpdate h e
  | rideThroughEnter => exact inv_execRideThroughEnter h e
  | rideThroughExit => exact inv_execRideThroughExit h e
  | busLowTimeout => exact inv_execBusLowTimeout h e
  | vanaFault => exact inv_execVanaFault h e
  | vauxLoss => exact inv_execVauxLoss e
  | railFault => exact inv_execRailFault h e
  | junctionSensorRead => exact inv_execJunctionSensorRead h e
  | thermalTrip => exact inv_execThermalTrip h e
  | clockLoss => exact inv_execClockLoss h e
  | pllRelock => exact inv_execPllRelock h e
  | contextDrainDone => exact inv_execContextDrainDone h e
  | courseDrainDone => exact inv_execCourseDrainDone h e
  | portDrainDone => exact inv_execPortDrainDone h e
  | ethPortDrainDone => exact inv_execEthPortDrainDone h e
  | qpDestroyDone => exact inv_execQpDestroyDone h e
  | endpointRetireDone => exact inv_execEndpointRetireDone h e
  | initialCopyDone => exact inv_execInitialCopyDone h e
  | fwVerifyDone => exact inv_execFwVerifyDone h e
  | fwCommitDone => exact inv_execFwCommitDone h e
  | memtestDone => exact inv_execMemtestDone h e
  | poolHoldDone => exact inv_execPoolHoldDone h e
  | poolResumeDone => exact inv_execPoolResumeDone h e
  | imageReadDone => exact inv_execImageReadDone h e
  | imageVerifyDone => exact inv_execImageVerifyDone h e
  | d2dStartFail => exact inv_execD2dStartFail h e
  | recoveryHelloTimer => exact inv_execRecoveryHelloTimer h e
  | recoveryPortTimeout => exact inv_execRecoveryPortTimeout h e
  | recoveryOffer => exact inv_execRecoveryOffer h e
  | tftpData => exact inv_execTftpData h e
  | transferStall => exact inv_execTransferStall h e
  | statusWord => exact inv_execStatusWord h e
  | statusInput => exact inv_execStatusInput h e
  | statusTemperature => exact inv_execStatusTemperature h e
  | readVin => exact inv_execReadVin h e
  | readIin => exact inv_execReadIin h e
  | readTemperature1 => exact inv_execReadTemperature1 h e
  | readTemperature2 => exact inv_execReadTemperature2 h e
  | readPin => exact inv_execReadPin h e
  | mfrId => exact inv_execMfrId h e
  | mfrModel => exact inv_execMfrModel h e
  | mfrRevision => exact inv_execMfrRevision h e
  | mfrShelfState => exact inv_execMfrShelfState h e
  | mfrBootStatus => exact inv_execMfrBootStatus h e
  | mfrMboxWrite => exact inv_execMfrMboxWrite h e
  | mfrMboxRead => exact inv_execMfrMboxRead h e
  | alertResponse => exact inv_execAlertResponse h e
  | idcode => exact inv_execIdcode h e
  | bypass => exact inv_execBypass h e
  | samplePreload => exact inv_execSamplePreload h e
  | extest => exact inv_execExtest h e
  | regacc => exact inv_execRegacc h e
  | anchorLoad => exact inv_execAnchorLoad h e
  | symbolLockRegained => exact inv_execSymbolLockRegained h e
  | ethLinkDown => exact inv_execEthLinkDown h e
  | guardStart => exact inv_execGuardStart h e
  | commandAddressParityError => exact inv_execCommandAddressParityError h e

/-- On an empty queue a step is one cycle of the time base. -/
theorem step_of_pending_nil (h : s.pending = []) : step s = .next (tick s) := by
  rw [step, h]

/-- Otherwise a step is its first command, on the state that holds the rest. -/
theorem step_of_pending_cons {c : Instr} {rest : List Instr} (h : s.pending = c :: rest) :
    step s = exec c (s.withPending rest) := by
  rw [step, h]

theorem inv_withPending (h : s.Inv) (q : List Instr) : (s.withPending q).Inv := h.of_eq rfl rfl rfl

theorem inv_step (h : s.Inv) (e : step s = .next t) : t.Inv := by
  cases hp : s.pending with
  | nil =>
    rw [step_of_pending_nil hp] at e
    exact Host.Outcome.next.inj e ▸ inv_tick h
  | cons c rest =>
    rw [step_of_pending_cons hp] at e
    exact inv_exec (inv_withPending h rest) c e

/-- Settles O3: every function that returns a state keeps the three sorted tables, hence every command and every step does. -/
theorem everyStepKeepsTheCanonicalForms : Obligations.EveryStepKeepsTheCanonicalForms := by
  unfold Obligations.EveryStepKeepsTheCanonicalForms
  exact fun _ _ h e => inv_step h e

end Sys2Proof.Machine
end

section
/-! PROOFS. The state after reset and the idle step (O2). -/

namespace Sys2Proof.Machine
open Sys2Proof

/-- The reset values of the registers that O2 names (R17), read by evaluation. -/
theorem rg_reset_named :
    rf State.reset Reg.FPT_GCTL 3 0 = 15 ∧ rf State.reset Reg.FPT_REQ 13 0 = 50 ∧ rg State.reset Reg.FPT_REPLAY = 150
      ∧ rg State.reset Reg.MBX_OWNER = 15 ∧ rg State.reset (Reg.ETH_CTL 7) = 7 ∧ rg State.reset (Reg.STK_WDRAIN 5 3) = 0x1830
      ∧ rg State.reset Reg.PLN_WAKE_EN = 0xB ∧ rg State.reset Reg.XLT_ADMIT_RETRY = 5
      ∧ rg State.reset (Reg.CRS_CTL 0 1) = 1 := by
  decide +kernel

/-- No extent is listed after reset, so each reads as R48 leaves it. -/
theorem extRec_reset (e : Nat) : extRec State.reset e = ExtRec.init e := rfl

theorem extRec_init_st (e : Nat) : (ExtRec.init e).st = if e % 480 < 8 then 0 else exFREE := by
  unfold ExtRec.init
  split <;> rfl

/-- No view entry is listed after reset. -/
theorem viewEnt_reset (u v : Nat) : viewEnt State.reset u v = 0 := rfl

/-- Settles O2: after reset nothing is listed, so every value is a default; the idle step is `tick`. -/
theorem theBlockStartsAndIdles : Obligations.TheBlockStartsAndIdles := by
  unfold Obligations.TheBlockStartsAndIdles
  refine ⟨rg_reset_named, fun e _ => ?_, fun u v => ?_, ⟨rfl, fun _ => rfl, rfl, inv_reset⟩, fun s h => ?_⟩
  · rw [extRec_reset, extRec_init_st]
  · exact (congrArg veValid (viewEnt_reset u v)).trans (Nat.zero_testBit 0)
  · exact ⟨tick s, step_of_pending_nil h, rfl, rfl, rfl⟩

end Sys2Proof.Machine
end

section
/-! PROOFS. Reads and writes of registers by a bus master (O5, O6, O7). -/

namespace Sys2Proof.Machine
open Sys2Proof

/-! ### Bits of words -/

/-- Taking away the bits that two numbers share clears them. -/
theorem testBit_sub_and (w m i : Nat) : (w - (w &&& m)).testBit i = (w.testBit i && !m.testBit i) := by
  have hle : w &&& m ≤ w := Nat.and_le_left
  have hmod : (w &&& m) % 2 = w % 2 &&& m % 2 := by
    simpa only [Nat.pow_one] using Nat.and_mod_two_pow (a := w) (b := m) (n := 1)
  induction i generalizing w m with
  | zero =>
    simp only [Nat.testBit_zero]
    rcases Nat.mod_two_eq_zero_or_one w with hw | hw <;> rcases Nat.mod_two_eq_zero_or_one m with hm | hm <;>
      simp only [hw, hm, Nat.and_zero, Nat.zero_and, Nat.and_self] at hmod ⊢ <;> grind
  | succ i ih =>
    have hdiv : (w &&& m) / 2 = w / 2 &&& m / 2 := Nat.and_div_two
    have hlow : (w &&& m) % 2 ≤ w % 2 := hmod ▸ Nat.and_le_left
    have hhalf : (w - (w &&& m)) / 2 = w / 2 - (w / 2 &&& m / 2) := by omega
    rw [Nat.testBit_add_one, hhalf, ih _ _ Nat.and_le_left, ← Nat.testBit_add_one, ← Nat.testBit_add_one]
    simpa only [Nat.pow_one] using Nat.and_mod_two_pow (a := w / 2) (b := m / 2) (n := 1)

theorem testBit_maskBits (set : Bool) (w m i : Nat) :
    (maskBits set w m).testBit i = if set then w.testBit i || m.testBit i else w.testBit i && !m.testBit i := by
  cases set
  · exact testBit_sub_and w m i
  · exact Nat.testBit_or w m i

theorem maskBits_lt {set : Bool} {w m : Nat} (hw : w < 2 ^ 32) (hm : m < 2 ^ 32) : maskBits set w m < 2 ^ 32 := by
  cases set
  · exact Nat.lt_of_le_of_lt (Nat.sub_le _ _) hw
  · exact Nat.or_lt_two_pow hw hm

/-- A sum of distinct powers of two, as the model builds a word from flags, has the bits that it names and no others. -/
theorem testBit_foldl_range_two_pow (p : Nat → Bool) (n i : Nat) :
    ((List.range n).foldl (fun w i => if p i then w + 2 ^ i else w) 0).testBit i = (decide (i < n) && p i) := by
  suffices h : ∀ n, (List.range n).foldl (fun w i => if p i then w + 2 ^ i else w) 0 < 2 ^ n
      ∧ ∀ i, ((List.range n).foldl (fun w i => if p i then w + 2 ^ i else w) 0).testBit i = (decide (i < n) && p i) from
    (h n).2 i
  intro n
  induction n with
  | zero => simp
  | succ n ih =>
    obtain ⟨hlt, hbit⟩ := ih
    rw [List.range_succ, List.foldl_append]
    simp only [List.foldl_cons, List.foldl_nil]
    generalize (List.range n).foldl (fun w i => if p i then w + 2 ^ i else w) 0 = w at hlt hbit
    have hpow : 2 ^ (n + 1) = 2 ^ n + 2 ^ n := by omega
    split
    next hp =>
      refine ⟨by omega, fun i => ?_⟩
      rw [← Nat.or_two_pow_eq_add_of_lt hlt, Nat.testBit_or, hbit, Nat.testBit_two_pow]
      grind
    next hp =>
      refine ⟨by omega, fun i => ?_⟩
      rw [hbit]
      grind

theorem testBit_realBits (k m i : Nat) :
    (realBits k m).testBit i = (decide (i < 32) && (m.testBit i && !micReserved (32 * k + i))) :=
  testBit_foldl_range_two_pow (fun i => bit m i && !micReserved (32 * k + i)) 32 i

/-- Bit i of a vector lies in word i / 32. -/
theorem getLsbD_maskWord {n : Nat} (set : Bool) (v : BitVec n) (k m : Nat) {i : Nat} (hi : i < n) (hm : m < 2 ^ 32) :
    (maskWord n set v k m).getLsbD i =
      if set then v.getLsbD i || (i / 32 == k && m.testBit (i % 32))
      else v.getLsbD i && !(i / 32 == k && m.testBit (i % 32)) := by
  have hword : (BitVec.ofNat n (m * 2 ^ (32 * k))).getLsbD i = (i / 32 == k && m.testBit (i % 32)) := by
    rw [BitVec.getLsbD_ofNat, Nat.testBit_mul_two_pow]
    by_cases hk : i / 32 = k
    · have h1 : i - 32 * k = i % 32 := by omega
      have h2 : 32 * k ≤ i := by omega
      simp [hi, hk, h1, h2]
    · by_cases hle : 32 * k ≤ i
      · have hbig : 2 ^ 32 ≤ 2 ^ (i - 32 * k) := Nat.pow_le_pow_right (by omega) (by omega)
        simp [hk, Nat.testBit_lt_two_pow (Nat.lt_of_lt_of_le hm hbig)]
      · simp [hk, hle]
  cases set
  · simp only [maskWord, Bool.false_eq_true, if_false, BitVec.getLsbD_and, BitVec.getLsbD_not, hi, decide_true,
      Bool.true_and, hword]
  · simp only [maskWord, if_true, BitVec.getLsbD_or, hword]

/-! ### What stays as it was -/

section
variable {s t u : State}

theorem SameRegs.of_regs (h : t.regs = s.regs) (l : List Nat) : SameRegs s t l := fun a _ => rg_congr h a

theorem SameRegs.trans {l : List Nat} (h : SameRegs s t l) (h' : SameRegs t u l) : SameRegs s u l :=
  fun a ha => (h' a ha).trans (h a ha)

theorem sameRegs_rput (s : State) (v : Nat) {a : Nat} {l : List Nat} (ha : a ∈ l) : SameRegs s (rput s a v) l :=
  fun _ hb => rg_rput_ne s v fun h => hb (h ▸ ha)

theorem samePool_rput (s : State) (a v : Nat) : SamePool s (rput s a v) := ⟨rfl, rfl, rfl, rfl, rfl, rfl, rfl⟩

theorem sameRest_rput (s : State) (a v : Nat) : SameRest s (rput s a v) := ⟨rfl, rfl, rfl, rfl, rfl, rfl, rfl⟩

theorem samePool_refl (s : State) : SamePool s s := ⟨rfl, rfl, rfl, rfl, rfl, rfl, rfl⟩

theorem sameRest_refl (s : State) : SameRest s s := ⟨rfl, rfl, rfl, rfl, rfl, rfl, rfl⟩

end

/-! ### Rows of the map -/

theorem blockRows_subset (a : Nat) : blockRows a ⊆ regRows := by
  intro r
  simp only [blockRows, regRows, apply_ite (r ∈ ·), List.mem_append]
  split_ifs <;> tauto

theorem mem_regRows_of_regRow {a : Nat} {r : RegRow} (h : regRow a = some r) : r ∈ regRows :=
  blockRows_subset a (List.mem_of_find?_eq_some h)

/-- No RC register shows state held elsewhere. -/
theorem regView_of_rc {r : RegRow} (hr : r ∈ regRows) (hrc : r.rc = true) (s : State) (i : List Nat) :
    regView s r.base i = none := by
  have h : (regRows.filter (fun r => r.rc)).map (fun r => regView s r.base i)
      = (regRows.filter (fun r => r.rc)).map (fun _ => none) := rfl
  exact List.map_inj_left.1 h r (List.mem_filter.2 ⟨hr, hrc⟩)

/-- No RC register has WO fields. -/
theorem wo_of_rc {r : RegRow} (hr : r ∈ regRows) (hrc : r.rc = true) : r.wo = 0 := by
  have h : regRows.all (fun r => !r.rc || r.wo == 0) = true := by decide +kernel
  simpa [hrc] using List.all_eq_true.1 h r hr

theorem rowValue_of_rc {r : RegRow} {a : Nat} (h : regRow a = some r) (hrc : r.rc = true) (s : State) :
    rowValue s r a = rg s a := by
  have hr := mem_regRows_of_regRow h
  rw [rowValue, if_neg (not_not.2 (wo_of_rc hr hrc)), regView_of_rc hr hrc]
  exact Nat.mod_eq_of_lt (rg_lt s a)

theorem rowValue_lt (s : State) (r : RegRow) (a : Nat) : rowValue s r a < 2 ^ 32 := by
  unfold rowValue
  split
  · exact Nat.two_pow_pos 32
  · exact Nat.mod_lt _ (Nat.two_pow_pos 32)

/-! ### Writes -/

theorem testBit_mergeWrite {r : RegRow} (hr : r.w1s = 0) (old v i : Nat) :
    (mergeWrite r old v).testBit i = if r.rw.testBit i then v.testBit i else old.testBit i := by
  simp only [mergeWrite, hr, Nat.and_zero, Nat.or_zero, Nat.testBit_or, Nat.testBit_xor, Nat.testBit_and]
  cases r.rw.testBit i <;> simp

theorem mergeWrite_lt (r : RegRow) {old v : Nat} (ho : old < 2 ^ 32) (hv : v < 2 ^ 32) : mergeWrite r old v < 2 ^ 32 :=
  Nat.or_lt_two_pow
    (Nat.or_lt_two_pow (Nat.xor_lt_two_pow ho (Nat.lt_of_le_of_lt Nat.and_le_left ho))
      (Nat.lt_of_le_of_lt Nat.and_le_left hv))
    (Nat.lt_of_le_of_lt Nat.and_le_left hv)

/-- Where every bit is RW, a write sets the register. -/
theorem mergeWrite_of_all_rw {r : RegRow} (hrw : r.rw = 0xFFFFFFFF) (hr : r.w1s = 0) {old v : Nat} (ho : old < 2 ^ 32)
    (hv : v < 2 ^ 32) : mergeWrite r old v = v := by
  refine Nat.eq_of_testBit_eq fun i => ?_
  have hones : (0xFFFFFFFF : Nat).testBit i = decide (i < 32) := Nat.testBit_two_pow_sub_one 32 i
  rw [testBit_mergeWrite hr, hrw, hones]
  by_cases hi : i < 32
  · simp [hi]
  · have hbig : 2 ^ 32 ≤ 2 ^ i := Nat.pow_le_pow_right (by omega) (by omega)
    simp [hi, Nat.testBit_lt_two_pow (Nat.lt_of_lt_of_le ho hbig), Nat.testBit_lt_two_pow (Nat.lt_of_lt_of_le hv hbig)]

theorem rg_putReg_self (s : State) (r : RegRow) (a : Nat) {v : Nat} (hv : v < 2 ^ 32) :
    rg (putReg s r a v) a = mergeWrite r (rg s a) v := by
  rw [putReg, rg_rput_self, Nat.mod_eq_of_lt (mergeWrite_lt r (rg_lt s a) hv)]

theorem writeReg_of_row {a : Nat} {r : RegRow} (hs : setClrOf a = none) (hr : regRow a = some r) (s : State) (m v : Nat) :
    writeReg s m a v = writeRow s m r a v := by
  simp only [writeReg, hs, hr]

theorem writeReg_unassigned {a : Nat} (hs : setClrOf a = none) (hr : regRow a = none) (s : State) (m v : Nat) :
    writeReg s m a v = s := by
  simp only [writeReg, hs, hr]

/-- A row without an effect of its own: nothing is written where nothing is RW, _HI is held, _LO commits, and any other
register is set. -/
theorem writeRow_of_noEffect {r : RegRow} (hr : NoEffectRow r) (s : State) (m a v : Nat) :
    writeRow s m r a v =
      if r.rw = 0 then s
      else if r.half = 2 then
        { s with bus := { s.bus with hiHold := tset s.bus.hiHold (halfKey m (a - 4)) (BitVec.ofNat 32 v) } }
      else if r.half = 1 then commitHalves s m r a v
      else putReg s r a v := by
  obtain ⟨h1, h2, h3, h4, h5, h6, h7⟩ := hr
  simp only [writeRow, h1, h2, h3, h4, h5, h6, h7, if_false]

/-- A plain register with RW bits is set; one without stays. -/
theorem writeRow_of_plain {r : RegRow} (hr : PlainRow r) (s : State) (m a v : Nat) :
    writeRow s m r a v = if r.rw = 0 then s else putReg s r a v := by
  obtain ⟨hn, -, hh⟩ := hr
  rw [writeRow_of_noEffect hn]
  split
  next => rfl
  next hrw => simp only [hh.resolve_right hrw, OfNat.zero_ne_ofNat, zero_ne_one, if_false]

theorem commitHalves_of_held {s : State} {m a : Nat} {h : Word32} {r' : RegRow} (hh : tget s.bus.hiHold (halfKey m a) = some h)
    (hr' : regRow (a + 4) = some r') (r : RegRow) (v : Nat) :
    ∃ b : Bus, commitHalves s m r a v = putReg { putReg s r' (a + 4) h.toNat with bus := b } r a v
      ∧ tget b.hiHold (halfKey m a) = none := by
  simp only [commitHalves, hh, hr']
  exact ⟨_, rfl, tget_tdel_self _ _⟩

/-! ### SET and CLR addresses (R12) -/

/-- The SET and CLR addresses of MIC_TGTc_k. -/
theorem setClrOf_micTgt {c k : Nat} (hc : c < 4) (hk : k < 16) :
    setClrOf (Reg.MIC_TGT c k + 4) = some (Reg.MIC_TGT c k, true)
      ∧ setClrOf (Reg.MIC_TGT c k + 8) = some (Reg.MIC_TGT c k, false) := by
  have h : ∀ c < 4, ∀ k < 16, setClrOf (Reg.MIC_TGT c k + 4) = some (Reg.MIC_TGT c k, true)
      ∧ setClrOf (Reg.MIC_TGT c k + 8) = some (Reg.MIC_TGT c k, false) := by decide +kernel
  exact h c hc k hk

/-- The SET and CLR addresses of MIC_PENDk. -/
theorem setClrOf_micPend {k : Nat} (hk : k < 16) :
    setClrOf (Reg.MIC_PEND k + 4) = some (Reg.MIC_PEND k, true)
      ∧ setClrOf (Reg.MIC_PEND k + 8) = some (Reg.MIC_PEND k, false) := by
  have h : ∀ k < 16, setClrOf (Reg.MIC_PEND k + 4) = some (Reg.MIC_PEND k, true)
      ∧ setClrOf (Reg.MIC_PEND k + 8) = some (Reg.MIC_PEND k, false) := by decide +kernel
  exact h k hk

theorem writeSetClr_micTgt {c k : Nat} (hc : c < 4) (hk : k < 16) (s : State) (set : Bool) (m : Nat) :
    writeSetClr s (Reg.MIC_TGT c k) set m = rput s (Reg.MIC_TGT c k) (maskBits set (rg s (Reg.MIC_TGT c k)) m) := by
  have h1 : Reg.MIC_TGT c k ≠ Reg.PLN_WAKE_SRC := by simp only [Reg.MIC_TGT, Reg.PLN_WAKE_SRC]; omega
  have h2 : ¬ Reg.MIC_TGT c k < Reg.MIC_TGT 0 0 := by simp only [Reg.MIC_TGT]; omega
  have h3 : Reg.MIC_TGT c k < Reg.BTR_CTL := by simp only [Reg.MIC_TGT, Reg.BTR_CTL]; omega
  rw [writeSetClr, if_neg h1, if_neg h2, if_pos h3]

theorem writeSetClr_micPend {k : Nat} (hk : k < 16) (s : State) (set : Bool) (m : Nat) :
    writeSetClr s (Reg.MIC_PEND k) set m =
      { s with mic := { s.mic with latch := maskWord 512 set s.mic.latch k (if set then realBits k m else m) } } := by
  have h1 : Reg.MIC_PEND k ≠ Reg.PLN_WAKE_SRC := by simp only [Reg.MIC_PEND, Reg.PLN_WAKE_SRC]; omega
  have h2 : Reg.MIC_PEND k < Reg.MIC_TGT 0 0 := by simp only [Reg.MIC_PEND, Reg.MIC_TGT]; omega
  have h3 : (Reg.MIC_PEND k - Reg.MIC_PEND 0) / 16 = k := by simp only [Reg.MIC_PEND]; omega
  rw [writeSetClr, if_neg h1, if_pos h2, h3]

theorem realBits_lt (k m : Nat) : realBits k m < 2 ^ 32 :=
  Nat.lt_pow_two_of_testBit _ fun i hi => by simp [testBit_realBits, Nat.not_lt.2 hi]

/-- What a write to the SET or CLR address of MIC_TGT leaves (R12). -/
theorem writeSetClr_micTgt_spec {c k : Nat} (hc : c < 4) (hk : k < 16) (s : State) (set : Bool) {m : Nat} (hm : m < 2 ^ 32) :
    rg (writeSetClr s (Reg.MIC_TGT c k) set m) (Reg.MIC_TGT c k) = maskBits set (rg s (Reg.MIC_TGT c k)) m
      ∧ SameRegs s (writeSetClr s (Reg.MIC_TGT c k) set m) [Reg.MIC_TGT c k]
      ∧ SamePool s (writeSetClr s (Reg.MIC_TGT c k) set m) ∧ SameRest s (writeSetClr s (Reg.MIC_TGT c k) set m) := by
  rw [writeSetClr_micTgt hc hk, rg_rput_self, Nat.mod_eq_of_lt (maskBits_lt (rg_lt _ _) hm)]
  exact ⟨rfl, sameRegs_rput s _ (List.mem_singleton_self _), samePool_rput s _ _, sameRest_rput s _ _⟩

/-- What a write to the SET or CLR address of MIC_PEND leaves: it acts on the software latch (R463), and a reserved source
is not set (R460). -/
theorem writeSetClr_micPend_spec {k : Nat} (hk : k < 16) (s : State) (set : Bool) {m : Nat} (hm : m < 2 ^ 32) :
    (∀ i < 512, (writeSetClr s (Reg.MIC_PEND k) set m).mic.latch.getLsbD i =
        if set then s.mic.latch.getLsbD i || (i / 32 == k && m.testBit (i % 32) && !micReserved i)
        else s.mic.latch.getLsbD i && !(i / 32 == k && m.testBit (i % 32)))
      ∧ (writeSetClr s (Reg.MIC_PEND k) set m).mic.level = s.mic.level
      ∧ SameRegs s (writeSetClr s (Reg.MIC_PEND k) set m) [] ∧ SamePool s (writeSetClr s (Reg.MIC_PEND k) set m) := by
  rw [writeSetClr_micPend hk]
  refine ⟨fun i hi => ?_, rfl, SameRegs.of_regs rfl _, ⟨rfl, rfl, rfl, rfl, rfl, rfl, rfl⟩⟩
  cases set
  case false => exact getLsbD_maskWord false s.mic.latch k m hi hm
  case true =>
    have hsrc : i / 32 = k → 32 * k + i % 32 = i := by omega
    have hlt : i % 32 < 32 := Nat.mod_lt _ (by omega)
    simp only [↓reduceIte, getLsbD_maskWord true s.mic.latch k _ hi (realBits_lt k m), testBit_realBits, hlt, decide_true,
      Bool.true_and]
    by_cases hik : i / 32 = k
    · rw [hsrc hik, Bool.and_assoc]
    · rw [beq_false_of_ne hik, Bool.false_and, Bool.false_and, Bool.false_and]

/-- Settles O5: each write is one write of the register or of its mask. -/
theorem registersTakeWrites : Obligations.RegistersTakeWrites := by
  unfold Obligations.RegistersTakeWrites
  refine ⟨fun s m a r v hr hs hp => ?_, fun s m a size v hsize => ?_, fun s m a v hr hs => ?_, fun s m c k v hc hk => ?_,
    fun s m k v hk => ?_⟩
  case refine_1 =>
    refine ⟨writeReg s m a v.toNat, rfl, ?_⟩
    rw [writeReg_of_row hs hr, writeRow_of_plain hp]
    split
    next hrw =>
      exact ⟨fun i _ => by simp [hrw], SameRegs.of_regs rfl _, samePool_refl s, sameRest_refl s, rfl, rfl, rfl⟩
    next =>
      obtain ⟨-, hw1s, -⟩ := hp
      refine ⟨fun i _ => ?_, sameRegs_rput s _ (List.mem_singleton_self a), samePool_rput s _ _, sameRest_rput s _ _, rfl,
        rfl, rfl⟩
      rw [rg_putReg_self s r a v.isLt, testBit_mergeWrite hw1s]
  case refine_2 => exact ⟨s, if_neg hsize, rfl⟩
  case refine_3 => exact ⟨writeReg s m a v.toNat, rfl, writeReg_unassigned hs hr s m _⟩
  case refine_4 =>
    obtain ⟨hset, hclr⟩ := setClrOf_micTgt hc hk
    constructor
    · exact ⟨writeSetClr s (Reg.MIC_TGT c k) true v.toNat, by simp only [exec, execSetAddressWrite, hset],
        writeSetClr_micTgt_spec hc hk s true v.isLt⟩
    · obtain ⟨hval, hsame⟩ := writeSetClr_micTgt_spec hc hk s false v.isLt
      exact ⟨writeSetClr s (Reg.MIC_TGT c k) false v.toNat, by simp only [exec, execClrAddressWrite, hclr],
        fun i => by rw [hval]; exact testBit_maskBits false _ _ i, hsame⟩
  case refine_5 =>
    obtain ⟨hset, hclr⟩ := setClrOf_micPend hk
    constructor
    · exact ⟨writeSetClr s (Reg.MIC_PEND k) true v.toNat, by simp only [exec, execSetAddressWrite, hset],
        writeSetClr_micPend_spec hk s true v.isLt⟩
    · exact ⟨writeSetClr s (Reg.MIC_PEND k) false v.toNat, by simp only [exec, execClrAddressWrite, hclr],
        writeSetClr_micPend_spec hk s false v.isLt⟩

/-! ### Reads -/

theorem rg_bump_self (s : State) (a n : Nat) : rg (bump s a n) a = min (rg s a + n) 0xFFFFFFFF := by
  rw [bump, rg_rput_self, Nat.mod_eq_of_lt (by omega)]

theorem sameRegs_bump (s : State) (n : Nat) {a : Nat} {l : List Nat} (ha : a ∈ l) : SameRegs s (bump s a n) l :=
  sameRegs_rput s _ ha

@[simp] theorem tget_giveData (s : State) (m v : Nat) : tget (giveData s m v).bus.readData m = some (BitVec.ofNat 64 v) :=
  tget_tset_self _ _ _

/-- A read of an RC register clears it (R14). -/
theorem readReg_of_rc {a : Nat} {r : RegRow} (hs : setClrOf a = none) (hr : regRow a = some r) (hrc : r.rc = true)
    (hb : r.base ≠ Reg.MIC_CLAIM 0) (s : State) (m : Nat) : readReg s m a = (rg s a, rput s a 0) := by
  simp only [readReg, hs, hr, hb, hrc, if_false, if_true, rowValue_of_rc hr hrc]

/-- A read of _LO latches the value of _HI (R10). -/
theorem readReg_of_lo {a : Nat} {r r' : RegRow} (hs : setClrOf a = none) (hr : regRow a = some r)
    (hr' : regRow (a + 4) = some r') (hrc : r.rc = false) (hb : r.base ≠ Reg.MIC_CLAIM 0) (hh : r.half = 1) (s : State)
    (m : Nat) :
    readReg s m a = (rowValue s r a, { s with bus := { s.bus with
      loLatch := tset s.bus.loLatch (halfKey m a) (BitVec.ofNat 32 (rowValue s r' (a + 4))) } }) := by
  simp only [readReg, hs, hr, hr', hb, hrc, hh, if_false, if_true, Bool.false_eq_true]

/-- A read of _HI returns what this master's read of _LO latched (R10). -/
theorem readReg_of_hi {a m : Nat} {r : RegRow} {s : State} {w : Word32} (hs : setClrOf (a + 4) = none)
    (hr : regRow (a + 4) = some r) (hrc : r.rc = false) (hb : r.base ≠ Reg.MIC_CLAIM 0) (hh : r.half = 2)
    (hw : tget s.bus.loLatch (halfKey m a) = some w) : (readReg s m (a + 4)).1 = w.toNat := by
  have h21 : ¬ (2 = 1) := by decide
  simp only [readReg, hs, hr, hb, hrc, hh, h21, Nat.add_sub_cancel, hw, if_false, if_true, Bool.false_eq_true]

/-! ### The PMBus status bits (R545) -/

theorem testBit_zero_flagBits (v w f : Nat) : (flagBits v w f).testBit 0 = v.testBit w := by
  unfold flagBits b2n bit
  cases v.testBit w <;> cases v.testBit f <;> rfl

theorem testBit_one_flagBits (v w f : Nat) : (flagBits v w f).testBit 1 = v.testBit f := by
  unfold flagBits b2n bit
  cases v.testBit w <;> cases v.testBit f <;> rfl

theorem testBit_zero_b2n (b : Bool) : (b2n b).testBit 0 = b := by
  cases b <;> rfl

theorem testBit_one_b2n (b : Bool) : (b2n b).testBit 1 = false := by
  cases b <;> rfl

/-- Bits 0 and 1 of STATUS_INPUT after a clearing write: the two flags, and the warning again in ride-through. -/
theorem testBit_clearInput (s : State) (v h : Nat) :
    (clearInput s v h).brd.statusInput.testBit 0
        = ((s.brd.statusInput.testBit 0 && !v.testBit 5) || h.testBit 5 || inRide s)
      ∧ (clearInput s v h).brd.statusInput.testBit 1 = ((s.brd.statusInput.testBit 1 && !v.testBit 4) || h.testBit 4) := by
  simp only [clearInput, Nat.testBit_or, testBit_maskBits, Bool.false_eq_true, if_false, testBit_zero_flagBits,
    testBit_one_flagBits, testBit_zero_b2n, testBit_one_b2n, Bool.or_false, and_self]

/-- Settles O6: the read clears the counter before the increment counts, and a status bit is set after it is cleared. -/
theorem noEventIsLost : Obligations.NoEventIsLost := by
  unfold Obligations.NoEventIsLost
  constructor
  case left =>
    intro s m a incr r hr hs hrc hb
    have hread : readTo s m a = giveData (rput s a 0) m (rg s a) := by rw [readTo, readReg_of_rc hs hr hrc hb]
    have hcounts : (r.rc && r.base != Reg.MIC_CLAIM 0) = true := by simp [hrc, hb]
    have hzero : rg (giveData (rput s a 0) m (rg s a)) a = 0 := by
      rw [rg_congr (giveData_regs _ m _) a, rg_rput_self, Nat.zero_mod]
    have hregs : SameRegs s (giveData (rput s a 0) m (rg s a)) [a] :=
      (sameRegs_rput s 0 (List.mem_singleton_self a)).trans (SameRegs.of_regs rfl _)
    have hexec : exec (.rcRead m a incr) s = .next (if incr != 0 then bump (giveData (rput s a 0) m (rg s a)) a incr
        else giveData (rput s a 0) m (rg s a)) := by
      simp only [exec, execRcRead, hread, hr, hcounts, Bool.true_and]
    refine ⟨_, hexec, ?_⟩
    by_cases hi : incr = 0
    · subst hi
      exact ⟨tget_giveData _ m _, hzero, hregs, ⟨rfl, rfl, rfl, rfl, rfl, rfl, rfl⟩, ⟨rfl, rfl, rfl, rfl, rfl, rfl, rfl⟩,
        rfl, rfl⟩
    · rw [if_pos (bne_iff_ne.2 hi)]
      refine ⟨tget_giveData _ m _, ?_, hregs.trans (sameRegs_bump _ incr (List.mem_singleton_self a)),
        ⟨rfl, rfl, rfl, rfl, rfl, rfl, rfl⟩, ⟨rfl, rfl, rfl, rfl, rfl, rfl, rfl⟩, rfl, rfl⟩
      rw [rg_bump_self, hzero, Nat.zero_add]
  case right =>
    intro s v h
    obtain ⟨hwarn, hfault⟩ := testBit_clearInput s v.toNat h.toNat
    exact ⟨clearInput s v.toNat h.toNat, rfl, hwarn, hfault, rfl, SameRegs.of_regs rfl _, ⟨rfl, rfl, rfl, rfl, rfl, rfl, rfl⟩⟩

/-- Settles O7: a read of _LO keeps the value of _HI for its master, and a write of _LO writes both halves. -/
theorem halvesStayTogether : Obligations.HalvesStayTogether := by
  unfold Obligations.HalvesStayTogether
  refine ⟨fun s m a r r' hr hr' hh hh' hrc hrc' hs hs' hb hb' => ?_, fun s m a v r' hr' hh' hrw hn => ?_,
    fun s m a h v r r' hr hr' hh hrw hrw' hw1s hw1s' hn hheld => ?_⟩
  case refine_1 =>
    refine ⟨readTo s m a, rfl, ?_⟩
    rw [readTo, readReg_of_lo hs hr hr' hrc hb hh]
    refine ⟨tget_giveData _ m _, fun u hu => ?_, SameRegs.of_regs rfl _, ⟨rfl, rfl, rfl, rfl, rfl, rfl, rfl⟩,
      ⟨rfl, rfl, rfl, rfl, rfl, rfl, rfl⟩⟩
    have hlatch : tget u.bus.loLatch (halfKey m a) = some (BitVec.ofNat 32 (rowValue s r' (a + 4))) := by
      rw [hu]
      exact tget_tset_self _ _ _
    rw [readReg_of_hi hs' hr' hrc' hb' hh' hlatch, BitVec.toNat_ofNat, Nat.mod_eq_of_lt (rowValue_lt s r' (a + 4))]
  case refine_2 =>
    have hexec : exec (.hiWriteHold m (a + 4) v) s = .next { s with bus := { s.bus with
        hiHold := tset s.bus.hiHold (halfKey m a) v } } := by
      simp only [exec, execHiWriteHold, hr', hh', if_true, writeRow_of_noEffect hn, hrw, if_false, Nat.add_sub_cancel,
        BitVec.ofNat_toNat, BitVec.setWidth_eq]
    exact ⟨_, hexec, tget_tset_self _ _ _, SameRegs.of_regs rfl _, ⟨rfl, rfl, rfl, rfl, rfl, rfl, rfl⟩,
      ⟨rfl, rfl, rfl, rfl, rfl, rfl, rfl⟩⟩
  case refine_3 =>
    obtain ⟨b, hcommit, hdel⟩ := commitHalves_of_held hheld hr' r v.toNat
    have hrw0 : r.rw ≠ 0 := by rw [hrw]; decide
    have hexec : exec (.loWriteCommit m a v) s = .next (commitHalves s m r a v.toNat) := by
      have h12 : ¬ (1 = 2) := by decide
      simp only [exec, execLoWriteCommit, hr, hh, if_true, writeRow_of_noEffect hn, hrw0, h12, if_false]
    refine ⟨_, hexec, ?_⟩
    rw [hcommit]
    generalize hu : ({ putReg s r' (a + 4) h.toNat with bus := b } : State) = u
    have hregs : u.regs = (putReg s r' (a + 4) h.toNat).regs := by rw [← hu]
    have hhi : rg u (a + 4) = h.toNat := by
      rw [rg_congr hregs, rg_putReg_self s r' (a + 4) h.isLt, mergeWrite_of_all_rw hrw' hw1s' (rg_lt _ _) h.isLt]
    have hsame : SameRegs s u [a, a + 4] :=
      (sameRegs_rput s _ (by simp)).trans (SameRegs.of_regs hregs _)
    refine ⟨?_, ?_, ?_, hsame.trans (sameRegs_rput u _ (by simp)), ?_, ?_⟩
    · rw [rg_putReg_self u r a v.isLt, mergeWrite_of_all_rw hrw hw1s (rg_lt _ _) v.isLt]
    · rw [putReg, rg_rput_ne u _ (by omega), hhi]
    · rw [← hu]
      exact hdel
    · rw [← hu]
      exact ⟨rfl, rfl, rfl, rfl, rfl, rfl, rfl⟩
    · rw [← hu]
      exact ⟨rfl, rfl, rfl, rfl, rfl, rfl, rfl⟩

end Sys2Proof.Machine
end

section
/-! PROOFS. Reads and writes of sound pool memory, and the accesses of a core (O8). -/

namespace Sys2Proof.Machine
open Sys2Proof

/-! ### Reads of sound pool memory -/

/-- Nothing that a read of the pool could find needs work: every channel serves, no word is marked, and no loss waits. -/
structure Sound (s : State) : Prop where
  up : ∀ n c, chanDown s n c = false
  marks : s.dram.marks = []
  losses : s.dram.losses = []

theorem Clean.sound {s : State} (h : Clean s) : Sound s := ⟨h.up, h.marks, h.losses⟩

theorem Sound.of_dram {s t : State} (h : Sound s) (hd : t.dram = s.dram) : Sound t := by
  have hc : ∀ n c, chanDown t n c = chanDown s n c := fun n c => by unfold chanDown chan; rw [hd]
  exact ⟨fun n c => (hc n c).trans (h.up n c), by rw [hd, h.marks], by rw [hd, h.losses]⟩

theorem Clean.of_dram_regs {s t : State} (h : Clean s) (hd : t.dram = s.dram) (hr : t.regs = s.regs) : Clean t := by
  obtain ⟨hup, hmarks, hlosses⟩ := h.sound.of_dram hd
  exact ⟨hup, hmarks, by rw [hd, h.stale], hlosses, by rw [hd, h.undef], fun n st => by rw [rf_congr hr, h.injStk],
    fun n => by rw [rg_congr hr, h.injSea]⟩

section
variable {s : State}

theorem granuleDirty_of_sound (h : Sound s) (g : Nat) : granuleDirty s g = false := by
  simp [granuleDirty, h.up, h.marks, h.losses]

/-- A read of sound memory changes nothing. -/
theorem fetchRange_of_sound (h : Sound s) (a n : Nat) : fetchRange s a n = s :=
  List.foldl_fixed' (fun g => by rw [granuleDirty_of_sound h g]; rfl) _

theorem wordIs_of_sound (h : Sound s) (k : Nat) : wordIs s k = .clean := by
  simp [wordIs, markOf, h.marks, tgetD]

theorem linePoisoned_of_sound (h : Sound s) (line : Nat) : linePoisoned s line = false := by
  simp [linePoisoned, wordIs_of_sound h]

theorem load_of_sound (h : Sound s) (a n : Nat) : load s a n = (stored s a n, false, s) := by
  simp [load, fetchRange_of_sound h, linePoisoned_of_sound h]

/-- Where self-refresh has left nothing undefined, the stored bytes are those of memory. -/
theorem stored_of_undef (h : s.dram.undef = []) (a n : Nat) : stored s a n = memRead s.mem a n := by
  simp [stored, storedByte, h, memRead]

theorem settleLine_of_sound (h : Sound s) (line : Nat) : settleLine s line = s := by
  simp [settleLine, h.losses]

/-! ### Writes to clean pool memory -/

theorem setMark_zero_of_marks (h : s.dram.marks = []) (k : Nat) : setMark s k 0 = s := by
  simp only [setMark, if_true, h, tdel]
  rw [← h]

theorem injectWrite_of_clean (h : Clean s) (g : Nat) (ws : List Nat) : injectWrite s g ws = s := by
  have hmode : bits (rg s (Reg.STK_INJ_CTL (dieOf (g * 256)) (stackOf (g * 256)))) 14 13 = 0 := h.injStk _ _
  simp only [injectWrite, hmode, true_or, if_true]

theorem writeSeal_of_clean (h : Clean s) (page : Nat) : writeSeal s page = s := by
  simp only [writeSeal, h.injSea, Bool.false_and, Bool.false_eq_true, if_false, h.stale, List.filter_nil]
  rw [← h.stale]

theorem rawStore_of_undef (h : s.dram.undef = []) (a : Nat) (b : List Byte) : rawStore s a b = poke s a b := by
  simp [rawStore, h]

theorem noteMigration_of_none {a : Nat} (h : tget s.xlt.migrations (extOf a) = none) : noteMigration s a = s := by
  simp [noteMigration, h]

theorem noteDirty_of_unmirrored {a : Nat} (h : (extRec s (extOf a)).mirrored = false) (n : Nat) : noteDirty s a n = s := by
  have hm : ((tget s.xlt.ext (extOf a)).map (fun r => r.mirrored)).getD false = false := by
    unfold extRec tgetD at h
    cases hr : tget s.xlt.ext (extOf a) with
    | none => rfl
    | some r => rw [hr] at h; exact h
  simp [noteDirty, hm]

theorem PlainExtent.of_xlt {t : State} {a : Nat} (h : PlainExtent s a) (hx : t.xlt = s.xlt) : PlainExtent t a := by
  obtain ⟨hc, hm, hg⟩ := h
  exact ⟨by unfold extRec at *; rw [hx]; exact hc, by unfold extRec at *; rw [hx]; exact hm, by rw [hx]; exact hg⟩

/-- A write within one line of a plain extent puts its bytes. -/
theorem storePiece_of_clean {a : Nat} (h : Clean s) (hp : PlainExtent s a) (b : List Byte) :
    storePiece s a b = (false, poke s a b) := by
  have hc : Clean (poke s a b) := h.of_dram_regs rfl rfl
  have hq : PlainExtent (poke s a b) a := hp.of_xlt rfl
  have hfold : ∀ l : List Nat, l.foldl (fun s w => setMark s (a / 256 * 32 + w) 0) (poke s a b) = poke s a b :=
    List.foldl_fixed' fun w => setMark_zero_of_marks hc.marks _
  simp only [storePiece, settleLine_of_sound h.sound, h.up, linePoisoned_of_sound h.sound, Bool.false_and,
    Bool.false_eq_true, if_false, rawStore_of_undef h.undef, hfold, injectWrite_of_clean hc, noteMigration_of_none hq.still,
    noteDirty_of_unmirrored hq.mirrored]

theorem linePieces_one {a : Nat} {b : List Byte} (hb : b ≠ []) (hl : a % 128 + b.length ≤ 128) (n : Nat) :
    linePieces (n + 2) a b = [(a, b)] := by
  have htake : b.take (128 - a % 128) = b := List.take_of_length_le (by omega)
  have hdrop : b.drop (128 - a % 128) = [] := List.drop_of_length_le (by omega)
  simp [linePieces, hb, htake, hdrop]

/-- A write within one line of a plain extent puts its bytes, and the watch filter sees it. -/
theorem store_of_clean {a : Nat} {b : List Byte} (h : Clean s) (hp : PlainExtent s a) (hb : b ≠ [])
    (hl : a % 128 + b.length ≤ 128) : store s a b = (false, noteWatch (poke s a b) a b.length none) := by
  have hc : Clean (poke s a b) := h.of_dram_regs rfl rfl
  have hfold : ∀ l : List Nat, l.foldl writeSeal (poke s a b) = poke s a b :=
    List.foldl_fixed' fun p => writeSeal_of_clean hc p
  simp only [store, List.isEmpty_iff, hb, if_false, fetchRange_of_sound h.sound, linePieces_one hb hl, List.foldl_cons,
    List.foldl_nil, storePiece_of_clean h hp, hfold, Bool.or_false]

theorem storeMirrored_of_clean {a : Nat} {b : List Byte} (h : Clean s) (hp : PlainExtent s a) (hb : b ≠ [])
    (hl : a % 128 + b.length ≤ 128) (use : OwnUse) :
    storeMirrored s a b use = (noteWatch (poke s a b) a b.length none, 0) := by
  have hm : mirroredAt (noteWatch (poke s a b) a b.length none) a = false := hp.mirrored
  simp only [storeMirrored, store_of_clean h hp hb hl, hm, Bool.and_false, Bool.false_eq_true, if_false]

/-! ### The pool as a core reaches it -/

theorem extOf_line (a : Nat) : extOf (a / 128 * 128) = extOf a := by
  unfold extOf
  omega

/-- An agent of the module has every line of an extent that is not coherent (R207). -/
theorem agentLine_of_plain {a : Nat} (h : PlainExtent s a) (write : Bool) : agentLine s (a / 128) write = (true, s) := by
  simp [agentLine, coherentLine, extOf_line, h.coherent]

theorem heldExt_of_plain {a : Nat} (h : PlainExtent s a) (write : Bool) : heldExt s (extOf a) write = false := by
  simp [heldExt, h.still, h.mirrored]

end

theorem length_leBytes (n v : Nat) : (leBytes n v).length = n := by
  induction n generalizing v with
  | zero => rfl
  | succ n ih => rw [leBytes, List.length_cons, ih]

/-- Byte i of a number. -/
theorem getD_leBytes {n i : Nat} (h : i < n) (v : Nat) : (leBytes n v).getD i 0#8 = BitVec.ofNat 8 (v / 256 ^ i) := by
  induction n generalizing v i with
  | zero => omega
  | succ n ih =>
    cases i with
    | zero => simp [leBytes]
    | succ i =>
      rw [leBytes, List.getD_cons_succ, ih (by omega), Nat.div_div_eq_div_mul, Nat.pow_succ']

theorem le_eight_of_sizeOk {n : Nat} (h : sizeOk n = true) : 0 < n ∧ n ≤ 8 ∧ 128 % n = 0 := by
  simp only [sizeOk, Bool.or_eq_true, beq_iff_eq] at h
  rcases h with ((rfl | rfl) | rfl) | rfl <;> decide

/-- A naturally aligned access lies in one line. -/
theorem aligned_in_line {a n : Nat} (h : sizeOk n = true) (ha : a % n = 0) : a % 128 + n ≤ 128 := by
  simp only [sizeOk, Bool.or_eq_true, beq_iff_eq] at h
  rcases h with ((rfl | rfl) | rfl) | rfl <;> omega

theorem canAccess_of_core {s : State} {c : Nat} (hc : c < 4) (hs : s.bus.held = false) : canAccess s c = true := by
  simp [canAccess, hc, hs]

section
variable {s : State} {c ppa n : Nat}

/-- A load of a core through the pool window (R424). -/
theorem poolAccess_load (hn : sizeOk n = true) (ha : ppa % n = 0) (hx : ppa < 2880 * 2 ^ 30) (h : Clean s)
    (hp : PlainExtent s ppa) (hr : (sealDie s (dieOf ppa)).selfRefresh = false) :
    poolAccess s c ppa n none = giveData s c (leNat (memRead s.mem ppa n)) := by
  have he : ¬ 2879 < extOf ppa := by unfold extOf; omega
  simp [poolAccess, hn, ha, he, hr, heldExt_of_plain hp, agentLine_of_plain hp, load_of_sound h.sound, stored_of_undef h.undef]

/-- A store of a core through the pool window (R424). -/
theorem poolAccess_store (hn : sizeOk n = true) (ha : ppa % n = 0) (hx : ppa < 2880 * 2 ^ 30) (h : Clean s)
    (hp : PlainExtent s ppa) (hr : (sealDie s (dieOf ppa)).selfRefresh = false) (v : Nat) :
    poolAccess s c ppa n (some v) = noteWatch (poke s ppa (leBytes n v)) ppa n none := by
  have he : ¬ 2879 < extOf ppa := by unfold extOf; omega
  have hlen : (leBytes n v).length = n := length_leBytes n v
  have hb : leBytes n v ≠ [] := by
    intro h0
    rw [h0] at hlen
    have := (le_eight_of_sizeOk hn).1
    simp at hlen
    omega
  have hst := storeMirrored_of_clean h hp hb (by rw [hlen]; exact aligned_in_line hn ha) .plain
  simp [poolAccess, hn, ha, he, hr, heldExt_of_plain hp, agentLine_of_plain hp, hst, hlen]

/-- An access to an extent that the pool does not have faults (R424). -/
theorem poolAccess_outside (hn : sizeOk n = true) (ha : ppa % n = 0) (hx : 2880 * 2 ^ 30 ≤ ppa) (v : Option Nat) :
    poolAccess s c ppa n v = accessFault s c := by
  have he : 2879 < extOf ppa := by unfold extOf; omega
  simp [poolAccess, hn, ha, he]

theorem execPoolWindowAccess_eq (hc : c < 4) (hs : s.bus.held = false) (hx : ppa < 2 ^ 42) (v : Option Word64) :
    exec (.poolWindowAccess c ppa n v) s = .next (poolAccess s c ppa n (v.map (·.toNat))) := by
  have h : ¬ (4 ≤ c ∨ canAccess s c = false ∨ 2 ^ 42 ≤ ppa) := by
    rw [canAccess_of_core hc hs]
    simp only [Bool.true_eq_false, false_or]
    omega
  exact if_neg h

theorem execCoreAccess_eq (hc : c < 4) (v : Option Word64) (a : Nat) :
    exec (.coreAccess c a n v) s = .next (busAccess s c a n (v.map (·.toNat))) :=
  if_neg (by omega)

/-- The SRAM's addresses are no part of the boot ROM (R423). -/
theorem inRange_sram (hn : sizeOk n = true) {off : Nat} (ho : off + n ≤ sramBytes) :
    inRange 0 romBytes (sramBase + off) n = false ∧ inRange sramBase sramBytes (sramBase + off) n = true := by
  have hpos := (le_eight_of_sizeOk hn).1
  constructor
  · have hout : romBytes < sramBase + off + n := by unfold sramBase romBytes; omega
    simpa [inRange] using hout
  · simp only [inRange, Bool.and_eq_true, decide_eq_true_eq]
    omega

theorem busAccess_sram_store (hc : c < 4) (hs : s.bus.held = false) (hn : sizeOk n = true) {off : Nat}
    (ho : off + n ≤ sramBytes) (v : Nat) : busAccess s c (sramBase + off) n (some v) = sramWrite s c off (leBytes n v) := by
  obtain ⟨hrom, hsram⟩ := inRange_sram hn ho
  simp [busAccess, canAccess_of_core hc hs, hn, hrom, hsram]

theorem busAccess_sram_load (hc : c < 4) (hs : s.bus.held = false) (hn : sizeOk n = true) {off : Nat}
    (ho : off + n ≤ sramBytes) : busAccess s c (sramBase + off) n none = giveData s c (leNat (sramRead s off n)) := by
  obtain ⟨hrom, hsram⟩ := inRange_sram hn ho
  simp [busAccess, canAccess_of_core hc hs, hn, hrom, hsram]

/-- A store puts its bytes in the SRAM and nowhere else. -/
theorem sramByte_sramWrite (s : State) (c off n v x : Nat) :
    sramByte (sramWrite s c off (leBytes n v)) x
      = if off ≤ x ∧ x < off + n then BitVec.ofNat 8 (v / 256 ^ (x - off)) else sramByte s x := by
  have h : sramByte (sramWrite s c off (leBytes n v)) x = memByte (memWrite s.bus.sram off (leBytes n v)) x := rfl
  rw [h, memByte_memWrite, length_leBytes]
  split
  next hx => exact getD_leBytes (by omega) v
  next => rfl

theorem busAccess_unmapped (hc : c < 4) (hs : s.bus.held = false) (hn : sizeOk n = true) {a : Nat}
    (h1 : inRange 0 romBytes a n = false) (h2 : inRange sramBase sramBytes a n = false) (h3 : inBlocks a n = false)
    (h4 : inDies a n = false) (h5 : inRange poolBase (2 ^ 42) a n = false) (st : Option Nat) :
    busAccess s c a n st = accessFault s c := by
  simp only [busAccess, canAccess_of_core hc hs, hn, h1, h2, h3, h4, h5, Bool.not_true, Bool.or_self, Bool.false_eq_true,
    if_false]

/-- A fault is counted, and nothing is read or written. -/
theorem accessFault_spec (s : State) (c : Nat) :
    tgetD (accessFault s c).bus.coreFault c 0 = tgetD s.bus.coreFault c 0 + 1 ∧ (accessFault s c).bus.sram = s.bus.sram
      ∧ (accessFault s c).bus.readData = s.bus.readData ∧ SameRegs s (accessFault s c) [] ∧ SamePool s (accessFault s c)
      ∧ SameRest s (accessFault s c) :=
  ⟨tgetD_tset_self _ _ _ _, rfl, rfl, SameRegs.of_regs rfl _, ⟨rfl, rfl, rfl, rfl, rfl, rfl, rfl⟩,
    ⟨rfl, rfl, rfl, rfl, rfl, rfl, rfl⟩⟩

/-- What a master receives is all that changes. -/
theorem giveData_frame (s : State) (c v : Nat) :
    SameRegs s (giveData s c v) [] ∧ SamePool s (giveData s c v) ∧ SameRest s (giveData s c v) :=
  ⟨SameRegs.of_regs rfl _, ⟨rfl, rfl, rfl, rfl, rfl, rfl, rfl⟩, ⟨rfl, rfl, rfl, rfl, rfl, rfl, rfl⟩⟩

/-! ### The registers of the dies -/

/-- A read of a register without an effect of its own. -/
theorem readReg_of_plain {a : Nat} {r : RegRow} (hs : setClrOf a = none) (hr : regRow a = some r) (hrc : r.rc = false)
    (hb : r.base ≠ Reg.MIC_CLAIM 0) (hh : r.half = 0) (s : State) (m : Nat) : readReg s m a = (rowValue s r a, s) := by
  simp [readReg, hs, hr, hb, hrc, hh]

/-- A read through the window of a voussoir die whose link holds (R27). -/
theorem execVoussoirWindowAccess_load {die off : Nat} {r : RegRow} (hc : c < 4) (hs : s.bus.held = false) (hd : die < 6)
    (ho : off < 0x1000000) (hal : off % 4 = 0) (hl : (sealDie s die).linkLost = false)
    (hr : regRow (0x20000000 + 0x1000000 * die + off) = some r) (hset : setClrOf (0x20000000 + 0x1000000 * die + off) = none)
    (hrc : r.rc = false) (hh : r.half = 0) (hb : r.base ≠ Reg.MIC_CLAIM 0) :
    exec (.voussoirWindowAccess c die off 4 none) s
      = .next (giveData s c (rowValue s r (0x20000000 + 0x1000000 * die + off))) := by
  have hok : ¬ (4 ≤ c ∨ canAccess s c = false ∨ 6 ≤ die ∨ 0x1000000 ≤ off ∨ 4 < 4 ∨ sizeOk 4 = false) := by
    have h4 : sizeOk 4 = true := rfl
    simp only [canAccess_of_core hc hs, h4, Bool.true_eq_false, Nat.lt_irrefl, or_false, false_or]
    omega
  have hdie : (0x20000000 + 0x1000000 * die + off) / 0x1000000 - 0x20 = die := by omega
  have hword : (0x20000000 + 0x1000000 * die + off) % 4 = 0 := by omega
  have hbase : (0x20000000 + 0x1000000 * die + off) / 4 * 4 = 0x20000000 + 0x1000000 * die + off := by omega
  have hacc : dieAccess s c (0x20000000 + 0x1000000 * die + off) 4 none
      = giveData s c (rowValue s r (0x20000000 + 0x1000000 * die + off)) := by
    simp [dieAccess, hdie, hl, regAccess, hword, hbase, readTo, readReg_of_plain hset hr hrc hb hh]
  exact (if_neg hok).trans (congrArg _ hacc)

end

/-- Settles O8: an access is one case of the bus's map, and a clean plain extent of the pool is read and written as it
stands. -/
theorem coresReachSramPoolAndDies : Obligations.CoresReachSramPoolAndDies := by
  unfold Obligations.CoresReachSramPoolAndDies
  refine ⟨fun s c hc hs => ⟨fun off n v hn ho => ⟨?_, ?_⟩, fun a n v hn h1 h2 h3 h4 h5 => ?_⟩,
    fun s c hc hs => ⟨fun ppa n hn ha hx hcl hp hr => ⟨?_, fun v => ?_⟩, fun ppa n v hn ha hx hy => ?_,
      fun die off r hd ho hal hl hr hset hrc hh hb => ?_⟩⟩
  case refine_1 =>
    refine ⟨_, (execCoreAccess_eq hc _ _).trans (congrArg _ (busAccess_sram_store hc hs hn ho _)), ?_⟩
    exact ⟨fun x => sramByte_sramWrite s c off n v.toNat x, SameRegs.of_regs rfl _, ⟨rfl, rfl, rfl, rfl, rfl, rfl, rfl⟩,
      ⟨rfl, rfl, rfl, rfl, rfl, rfl, rfl⟩⟩
  case refine_2 =>
    exact ⟨_, (execCoreAccess_eq hc _ _).trans (congrArg _ (busAccess_sram_load hc hs hn ho)), tget_giveData _ _ _, rfl,
      giveData_frame _ _ _⟩
  case refine_3 =>
    exact ⟨_, (execCoreAccess_eq hc _ _).trans (congrArg _ (busAccess_unmapped hc hs hn h1 h2 h3 h4 h5 _)),
      accessFault_spec s c⟩
  case refine_4 =>
    exact ⟨_, (execPoolWindowAccess_eq hc hs (by omega) _).trans (congrArg _ (poolAccess_load hn ha hx hcl hp hr)),
      tget_giveData _ _ _, giveData_frame _ _ _⟩
  case refine_5 =>
    refine ⟨_, (execPoolWindowAccess_eq hc hs (by omega) _).trans (congrArg _ (poolAccess_store hn ha hx hcl hp hr _)), rfl,
      fun x hx => memByte_memWrite_out _ _ _ ?_, SameRegs.of_regs rfl _, rfl, rfl, rfl⟩
    rw [length_leBytes]
    exact hx
  case refine_6 =>
    obtain ⟨hf, -, hd, hsame⟩ := accessFault_spec s c
    exact ⟨_, (execPoolWindowAccess_eq hc hs hy _).trans (congrArg _ (poolAccess_outside hn ha hx _)), hf, hd, hsame⟩
  case refine_7 =>
    exact ⟨_, execVoussoirWindowAccess_load hc hs hd ho hal hl hr hset hrc hh hb, tget_giveData _ _ _, giveData_frame _ _ _⟩

end Sys2Proof.Machine
end

section
/-! PROOFS. What an error record leaves alone, and the entry into the fatal safe state (R470 to R479). -/

namespace Sys2Proof.Machine
open Sys2Proof

/-! ### Error records -/

/-- The registers that an error record can change: the counters of the Buttress and those of events. -/
def errorRegs : List Nat :=
  [Reg.BTR_MERGED, Reg.BTR_SECONDARY, Reg.BTR_OVF, Reg.ETH_EVT_LOST, Reg.ETH_EVT_SEQ_LO, Reg.ETH_EVT_SEQ_HI]

/-- What an error record leaves as it was, beside what `Kept` names: the stacks, the translation, and every register but its
own. -/
structure RecordKept (s t : State) : Prop where
  dram : t.dram = s.dram
  xlt : t.xlt = s.xlt
  regs : SameRegs s t errorRegs

section
variable {s t u : State}

theorem RecordKept.trans (h : RecordKept s t) (h' : RecordKept t u) : RecordKept s u :=
  ⟨h'.dram.trans h.dram, h'.xlt.trans h.xlt, h.regs.trans h'.regs⟩

theorem recordKept_btr (s : State) (b : Btr) : RecordKept s { s with btr := b } := ⟨rfl, rfl, SameRegs.of_regs rfl _⟩

theorem recordKept_bump (s : State) (n : Nat) {a : Nat} (h : a ∈ errorRegs) : RecordKept s (bump s a n) :=
  ⟨rfl, rfl, sameRegs_bump s n h⟩

theorem recordKept_btrLevels (s : State) : RecordKept s (btrLevels s) := ⟨rfl, rfl, SameRegs.of_regs rfl _⟩

theorem sameRegs_eventTo (s : State) (only : Option Nat) (code sev : Nat) (body : List Byte) :
    SameRegs s (eventTo only s code sev body) [Reg.ETH_EVT_LOST, Reg.ETH_EVT_SEQ_LO, Reg.ETH_EVT_SEQ_HI] := by
  intro a ha
  simp only [List.mem_cons, List.not_mem_nil, or_false, not_or] at ha
  obtain ⟨h0, h1, h2⟩ := ha
  exact rg_eventTo s only code sev body a h0 h1 h2

theorem SameRegs.mono {l l' : List Nat} (h : SameRegs s t l) (hl : l ⊆ l') : SameRegs s t l' := fun a ha => h a fun hm => ha (hl hm)

theorem recordKept_event (s : State) (code sev : Nat) (body : List Byte) : RecordKept s (event s code sev body) :=
  ⟨eventTo_dram s none code sev body, eventTo_xlt s none code sev body,
    (sameRegs_eventTo s none code sev body).mono (by simp [errorRegs])⟩

theorem recordKept_btrSecondary (s : State) (k : Nat) (r : BtrRec) (c v : Nat) : RecordKept s (btrSecondary s k r c v) :=
  ((recordKept_btr s _).trans (recordKept_bump _ _ (by simp [errorRegs]))).trans (recordKept_btrLevels _)

theorem recordKept_btrOpen (s : State) (k : Nat) (e : ErrIn) (c v : Nat) (inj : Bool) : RecordKept s (btrOpen s k e c v inj) := by
  unfold btrOpen
  extract_lets r b b' s1 s2
  have h : RecordKept s s2 := (recordKept_btr s _).trans (recordKept_btrLevels s1)
  split
  · exact h.trans (recordKept_event _ _ _ _)
  · exact h

theorem recordKept_btrRecord (s : State) (e : ErrIn) (inj : Bool) : RecordKept s (btrRecord s e inj).1 := by
  have hovf : RecordKept s (bump s Reg.BTR_OVF 1) := recordKept_bump _ _ (by simp [errorRegs])
  unfold btrRecord
  dsimp only
  split
  · exact recordKept_btrSecondary _ _ _ _ _
  · split
    · split
      · exact recordKept_btrSecondary _ _ _ _ _
      · exact recordKept_btrOpen s 0 e e.cls 3 inj
    · split
      · exact (recordKept_btr s _).trans (recordKept_bump _ _ (by simp [errorRegs]))
      · split
        · exact recordKept_btrOpen s _ e e.cls _ inj
        · split
          · exact hovf.trans ((recordKept_btr _ _).trans (recordKept_btrLevels _))
          · exact hovf.trans (recordKept_btrOpen (bump s Reg.BTR_OVF 1) 255 _ 0x3F _ false)

theorem btrOpen_mem (s : State) (k : Nat) (e : ErrIn) (c : Nat) {v : Nat} (hv : v ≠ 2) (inj : Bool) :
    (btrOpen s k e c v inj).mem = s.mem := by
  simp [btrOpen, hv, btrLevels]

/-- An error below severity 2 raises no event, so its record writes no log. -/
theorem btrRecord_mem (s : State) {e : ErrIn} (he : btrSeverity e.cls = some 1) (inj : Bool) :
    (btrRecord s e inj).1.mem = s.mem := by
  have hopen : ∀ (u : State) (k : Nat) (e : ErrIn) (c : Nat) (i : Bool), (btrOpen u k e c 1 i).mem = u.mem :=
    fun u k e c i => btrOpen_mem u k e c (by decide) i
  unfold btrRecord
  rw [he, Option.getD_some]
  dsimp only
  rw [if_neg (by decide : ¬ (1 = 3))]
  split
  · rfl
  · split
    · rfl
    · split
      · exact hopen _ _ _ _ _
      · split
        · rfl
        · exact (hopen _ _ _ _ _).trans rfl

theorem recordKept_report (s : State) (a b c d e : Nat) (f g : Option Nat) : RecordKept s (report s a b c d e f g) :=
  recordKept_btrRecord s _ _

/-! ### Dies and channels -/

theorem sealDie_congr (h : t.dram = s.dram) (n : Nat) : sealDie t n = sealDie s n := by unfold sealDie; rw [h]

theorem sealDie_setSealDie (s : State) (n : Nat) (d : SealDie) (m : Nat) :
    sealDie (setSealDie s n d) m = if m = n then d else sealDie s m :=
  tgetD_tset s.dram.dies n d SealDie.init m

@[simp] theorem sealDie_setSealDie_self (s : State) (n : Nat) (d : SealDie) : sealDie (setSealDie s n d) n = d := by
  rw [sealDie_setSealDie, if_pos rfl]

/-- Of two writes of one entry the later stands. -/
theorem tset_tset_self {α : Type} (t : Tab α) (k : Nat) (v w : α) : tset (tset t k v) k w = tset t k w := by
  induction t with
  | nil => simp [tset]
  | cons e t ih =>
    obtain ⟨k', v'⟩ := e
    by_cases h1 : k < k'
    · simp [tset, h1]
    · by_cases h2 : k = k'
      · simp [tset, h2]
      · simp [tset, h1, h2, ih]

theorem setSealDie_setSealDie (s : State) (n : Nat) (d d' : SealDie) :
    setSealDie (setSealDie s n d) n d' = setSealDie s n d' := by
  unfold setSealDie
  simp only [tset_tset_self]

theorem sealDie_setChan (s : State) (n c : Nat) (k : Chan) (m : Nat) : sealDie (setChan s n c k) m = sealDie s m := rfl

/-- A channel after another, or the same, was replaced. -/
theorem chan_setChan (s : State) (n c : Nat) (k : Chan) (m d : Nat) :
    chan (setChan s n c k) m d = if m * 128 + d = n * 128 + c then k else chan s m d :=
  tgetD_tset s.dram.chans _ k _ _

@[simp] theorem chan_setChan_self (s : State) (n c : Nat) (k : Chan) : chan (setChan s n c k) n c = k := by
  rw [chan_setChan, if_pos rfl]

theorem inSafe_congr (h : rg t Reg.PLN_SAFE = rg s Reg.PLN_SAFE) : inSafe t = inSafe s := by unfold inSafe rf; rw [h]

theorem RecordKept.inSafe (h : RecordKept s t) : inSafe t = inSafe s :=
  inSafe_congr (h.regs _ (by decide))

/-! ### The fatal safe state -/

/-- What lies outside the ports: the registers, the bus, the translation, the scheduler and the stacks. -/
def outsidePorts (s : State) : Tab Word32 × Bus × Xlt × Sched × Dram := (s.regs, s.bus, s.xlt, s.sched, s.dram)

theorem outsidePorts_setPort (s : State) (k : Nat) (p : Port) : outsidePorts (setPort s k p) = outsidePorts s := rfl

theorem outsidePorts_emitFlit (s : State) (k x y z : Nat) (l : List Byte) :
    outsidePorts (emitFlit s k x y z l) = outsidePorts s := rfl

theorem outsidePorts_fencePort (s : State) (k : Nat) : outsidePorts (fencePort s k) = outsidePorts s := by
  unfold fencePort
  extract_lets p s1 p1
  have h : outsidePorts s1 = outsidePorts s := by
    unfold s1
    split
    · exact foldl_keeps outsidePorts _ (fun u _ => outsidePorts_emitFlit u k 3 0 0 []) _ s
    · rfl
  exact (outsidePorts_setPort s1 k _).trans h

theorem enterSelfRefresh_linkLost (s : State) (n m : Nat) :
    (sealDie (enterSelfRefresh s n) m).linkLost = (sealDie s m).linkLost := by
  unfold enterSelfRefresh
  rw [sealDie_setSealDie]
  split
  next h => rw [h]
  next => rfl

/-- The entry into the fatal safe state holds the cores, and leaves the descriptors, the translation and what is known of the
links as they stood (R479). -/
theorem fatalEntry_spec (h : inSafe s = false) (slot cls unit : Nat) :
    inSafe (fatalEntry s slot cls unit) = true ∧ (fatalEntry s slot cls unit).bus.held = true
      ∧ (fatalEntry s slot cls unit).xlt = s.xlt ∧ (fatalEntry s slot cls unit).sched = s.sched
      ∧ ∀ n, (sealDie (fatalEntry s slot cls unit) n).linkLost = (sealDie s n).linkLost := by
  unfold fatalEntry
  rw [h, if_neg Bool.false_ne_true]
  extract_lets s1 s2 m m' bus s3 s4 q eth s5 fab s6
  have hreg : rg s2 Reg.PLN_SAFE = (1 + 2 * slot + 2 ^ 16 * cls + 2 ^ 24 * unit) % 2 ^ 32 := by
    have h0 : Reg.PLN_SAFE ≠ Reg.PLN_SAFE_TIME_LO := by simp [Reg.PLN_SAFE, Reg.PLN_SAFE_TIME_LO]
    have h4 : Reg.PLN_SAFE ≠ Reg.PLN_SAFE_TIME_LO + 4 := by simp [Reg.PLN_SAFE, Reg.PLN_SAFE_TIME_LO]
    unfold s2 fatalPin rput64
    rw [rg_emit, rg_rput_ne _ _ h4, rg_rput_ne _ _ h0]
    exact rg_rput_self s _ _
  have hports : outsidePorts s4 = outsidePorts s3 := foldl_keeps outsidePorts fencePort outsidePorts_fencePort _ s3
  clear_value s4
  have hdies := foldl_keeps (fun t : State => (t.regs, t.bus, t.xlt, t.sched)) enterSelfRefresh (fun _ _ => rfl)
    (List.range 6) s6
  have hlinks := fun n => foldl_keeps (fun t : State => (sealDie t n).linkLost) enterSelfRefresh
    (fun u k => enterSelfRefresh_linkLost u k n) (List.range 6) s6
  generalize (List.range 6).foldl enterSelfRefresh s6 = t at hdies hlinks
  simp only [outsidePorts, Prod.mk.injEq] at hports hdies
  obtain ⟨hregs, hbus, hxlt, hsched, hdram⟩ := hports
  obtain ⟨hregs', hbus', hxlt', hsched'⟩ := hdies
  refine ⟨?_, ?_, hxlt'.trans hxlt, hsched'.trans hsched, fun n => ?_⟩
  · have hkeep : rg t Reg.PLN_SAFE = rg s2 Reg.PLN_SAFE := (rg_congr (hregs'.trans hregs) _)
    unfold inSafe rf
    rw [hkeep, hreg]
    simp only [bits, beq_iff_eq]
    omega
  · rw [hbus']
    exact congrArg Bus.held hbus
  · exact (hlinks n).trans (congrArg SealDie.linkLost (sealDie_congr hdram n))

/-- An error of severity 3 outside the safe state: its record, and the entry into the safe state. -/
theorem btrError_fatal (h : inSafe s = false) {e : ErrIn} (he : btrSeverity e.cls = some 3) (inj : Bool) :
    inSafe (btrError s e inj) = true ∧ (btrError s e inj).bus.held = true ∧ (btrError s e inj).xlt = s.xlt
      ∧ (btrError s e inj).sched = s.sched ∧ ∀ n, (sealDie (btrError s e inj) n).linkLost = (sealDie s n).linkLost := by
  have hrec := recordKept_btrRecord s e inj
  have heq : btrError s e inj = fatalEntry (btrRecord s e inj).1 (btrRecord s e inj).2 e.cls e.unit := if_pos he
  obtain ⟨hsafe, hheld, hxlt, hsched, hlinks⟩ := fatalEntry_spec (hrec.inSafe.trans h) (btrRecord s e inj).2 e.cls e.unit
  rw [heq]
  exact ⟨hsafe, hheld, hxlt.trans hrec.xlt, hsched.trans (kept_btrRecord s e inj).sched,
    fun n => (hlinks n).trans (congrArg SealDie.linkLost (sealDie_congr hrec.dram n))⟩

end

end Sys2Proof.Machine
end

section
/-! PROOFS. Seals, the scrubber and parity on the data path (O39). -/

namespace Sys2Proof.Machine
open Sys2Proof

section
variable {s t u : State}

/-! ### The seal cache (R159 to R163) -/

/-- The seal cache with the line of a page made dirty. -/
def SealDie.withDirty (d : SealDie) (page since : Nat) : SealDie :=
  { d with lines := tset d.lines page { dirty := some since, used := d.use + 1 }, use := d.use + 1 }

theorem withDirty_line (d : SealDie) (page since : Nat) :
    ∃ l, tget (d.withDirty page since).lines page = some l ∧ l.dirty = some since :=
  ⟨_, tget_tset_self _ _ _, rfl⟩

/-- A delta of a page without a line takes a free way of its set, while its channel may have one more dirty line (R162). -/
theorem applyDelta_allocates {n : Nat} {x : Delta} {d : SealDie} (hup : chanDown s n (sealChan x.page) = false)
    (hnew : tget d.lines x.page = none) (hroom : dirtyOn d (sealChan x.page) < rf s (Reg.SEA_CTL n) 22 16)
    (hset : (d.lines.filter (fun e => sealSet e.1 == sealSet x.page)).length < 16) :
    applyDelta (setSealDie s n d) n x = some (setSealDie s n (d.withDirty x.page (now s))) := by
  have hup' : chanDown (setSealDie s n d) n (sealChan x.page) = false := hup
  have hroom' : ¬ rf (setSealDie s n d) (Reg.SEA_CTL n) 22 16 ≤ dirtyOn d (sealChan x.page) := Nat.not_le.2 hroom
  have htwice := setSealDie_setSealDie s n d (d.withDirty x.page (now s))
  simp only [applyDelta, sealDie_setSealDie_self, hup', Bool.false_eq_true, if_false, hnew, hroom', hset, if_true]
  exact congrArg some htwice

/-- A delta of a page without a line waits while its channel has CH_DIRTY_MAX dirty lines (R163). -/
theorem applyDelta_waits {n : Nat} {x : Delta} {d : SealDie} (hup : chanDown s n (sealChan x.page) = false)
    (hnew : tget d.lines x.page = none) (hfull : rf s (Reg.SEA_CTL n) 22 16 ≤ dirtyOn d (sealChan x.page)) :
    applyDelta (setSealDie s n d) n x = none := by
  have hup' : chanDown (setSealDie s n d) n (sealChan x.page) = false := hup
  have hfull' : rf (setSealDie s n d) (Reg.SEA_CTL n) 22 16 ≤ dirtyOn d (sealChan x.page) := hfull
  simp only [applyDelta, sealDie_setSealDie_self, hup', Bool.false_eq_true, if_false, hnew, hfull', if_true]

section
variable {n : Nat} {x : Delta} (hup : chanDown s n (sealChan x.page) = false) (hnew : tget (sealDie s n).lines x.page = none)
include hup hnew

theorem execSealDelta_allocates {rest : List Delta} (hd : (sealDie s n).deltas = x :: rest)
    (hroom : dirtyOn (sealDie s n) (sealChan x.page) < rf s (Reg.SEA_CTL n) 22 16)
    (hset : ((sealDie s n).lines.filter (fun e => sealSet e.1 == sealSet x.page)).length < 16) :
    exec (.sealDelta n) s
      = .next (setSealDie s n (({ sealDie s n with deltas := rest } : SealDie).withDirty x.page (now s))) := by
  have happly := applyDelta_allocates (d := { sealDie s n with deltas := rest }) hup hnew hroom hset
  simp only [exec, execSealDelta, hd, happly]

theorem execSealDelta_waits {rest : List Delta} (hd : (sealDie s n).deltas = x :: rest)
    (hfull : rf s (Reg.SEA_CTL n) 22 16 ≤ dirtyOn (sealDie s n) (sealChan x.page)) :
    exec (.sealDelta n) s
      = .next (setChan (setSealDie s n { sealDie s n with deltas := rest, waiting := (sealDie s n).waiting ++ [x] }) n x.channel
          { chan s n x.channel with stalled := true }) := by
  have happly := applyDelta_waits (d := { sealDie s n with deltas := rest }) hup hnew hfull
  simp only [exec, execSealDelta, hd, happly, sealDie_setSealDie_self, setSealDie_setSealDie]
  rfl

theorem execSealDeltaResume_allocates (hw : (sealDie s n).waiting = [x])
    (hroom : dirtyOn (sealDie s n) (sealChan x.page) < rf s (Reg.SEA_CTL n) 22 16)
    (hset : ((sealDie s n).lines.filter (fun e => sealSet e.1 == sealSet x.page)).length < 16) :
    exec (.sealDeltaResume n) s
      = .next (setChan (setSealDie s n (({ sealDie s n with waiting := [] } : SealDie).withDirty x.page (now s))) n x.channel
          { chan s n x.channel with stalled := false }) := by
  have happly := applyDelta_allocates (d := { sealDie s n with waiting := [] }) hup hnew hroom hset
  simp only [exec, execSealDeltaResume, hw, happly, List.any_nil, Bool.false_eq_true, if_false]
  rfl

end

/-- An armed injection is what a write of a seal granule looks for first (R179). -/
theorem injectSeal_of_disarmed {page : Nat}
    (h : rf s (Reg.STK_INJ_CTL (page / 2 ^ 18 / 480) (sealChan page / 32)) 14 13 = 0) : injectSeal s page = s := by
  have hmode : bits (rg s (Reg.STK_INJ_CTL (page / 2 ^ 18 / 480) (sealChan page / 32))) 14 13 = 0 := h
  simp only [injectSeal, hmode, zero_ne_one, if_false, Nat.reduceBEq, Bool.false_and, Bool.not_false, Bool.true_or, if_true]

/-- A line that is written back is clean, and nothing else changes. -/
theorem writeBackSeal_of_disarmed {n page : Nat} {l : SealLine}
    (h : rf s (Reg.STK_INJ_CTL (page / 2 ^ 18 / 480) (sealChan page / 32)) 14 13 = 0)
    (hl : tget (sealDie s n).lines page = some l) :
    writeBackSeal s n page
      = setSealDie s n { sealDie s n with lines := tset (sealDie s n).lines page { l with dirty := none } } := by
  have hinj := fun d : SealDie => injectSeal_of_disarmed (s := setSealDie s n d) (page := page) h
  simp only [writeBackSeal, hl, hinj, ite_self]

theorem le_now_reach (s : State) (d : Nat) : d ≤ now (reach s d) := by
  unfold reach now
  split
  · exact Nat.le_refl d
  · omega

/-- A line is written back FLUSH_AGE after it was first dirtied (R162). -/
theorem execSealLineAge_writes {n p since : Nat} {l : SealLine} (hl : tget (sealDie s n).lines p = some l)
    (hdirty : l.dirty = some since) (hc : Clean s) :
    exec (.sealLineAge n p) s
      = .next (setSealDie (reach s (since + rf s (Reg.SEA_CTL n) 15 0 * 1000)) n
          { sealDie s n with lines := tset (sealDie s n).lines p { l with dirty := none } }) := by
  have hdie := fun d => sealDie_congr (reach_dram s d) n
  have hinj := fun d => (rf_congr (reach_regs s d) (Reg.STK_INJ_CTL (p / 2 ^ 18 / 480) (sealChan p / 32)) 14 13).trans (hc.injStk _ _)
  simp only [exec, execSealLineAge, hl, hdirty]
  rw [writeBackSeal_of_disarmed (hinj _) (by rw [hdie]; exact hl), hdie]

/-! ### Holds (R160) -/

theorem heldPage_releaseHold (s : State) (n page : Nat) : heldPage (releaseHold s n page) n page = false := by
  rw [heldPage, releaseHold, sealDie_setSealDie_self, List.any_eq_false]
  intro h hm
  simpa only [Bool.not_eq_true', Bool.not_eq_true] using (List.mem_filter.1 hm).2

/-- After the release, what is left on the page is not granted. -/
theorem releaseHold_left {n page : Nat} {h : Hold} (hm : h ∈ (sealDie (releaseHold s n page) n).holds) (hp : h.page = page) :
    h.granted = false := by
  rw [releaseHold, sealDie_setSealDie_self] at hm
  have hkeep := (List.mem_filter.1 hm).2
  rw [beq_iff_eq.2 hp, Bool.true_and] at hkeep
  simpa only [Bool.not_eq_true'] using hkeep

/-! ### The answers to reads that waited for a rebuild (R165, R167) -/

/-- What the answers to waiting reads leave as it was: memory, its marks and losses, the dies, the state of every channel; and
no channel has more reads waiting. -/
structure AnswersKeep (s t : State) : Prop where
  mem : t.mem = s.mem
  marks : t.dram.marks = s.dram.marks
  losses : t.dram.losses = s.dram.losses
  dies : t.dram.dies = s.dram.dies
  down : ∀ n c, chanDown t n c = chanDown s n c
  waiting : ∀ n c a, a ∈ (chan t n c).rebuild → a ∈ (chan s n c).rebuild

theorem AnswersKeep.trans (h : AnswersKeep s t) (h' : AnswersKeep t u) : AnswersKeep s u :=
  ⟨h'.mem.trans h.mem, h'.marks.trans h.marks, h'.losses.trans h.losses, h'.dies.trans h.dies,
    fun n c => (h'.down n c).trans (h.down n c), fun n c a ha => h.waiting n c a (h'.waiting n c a ha)⟩

theorem answersKeep_of_dram (hm : t.mem = s.mem) (hd : t.dram = s.dram) : AnswersKeep s t := by
  have hc : ∀ n c, chan t n c = chan s n c := fun n c => by unfold chan; rw [hd]
  exact ⟨hm, by rw [hd], by rw [hd], by rw [hd], fun n c => by unfold chanDown; rw [hc], fun n c a => by rw [hc]; exact id⟩

theorem answersKeep_setChan (s : State) {n c : Nat} {k : Chan} (hst : k.st = (chan s n c).st)
    (hre : ∀ a, a ∈ k.rebuild → a ∈ (chan s n c).rebuild) : AnswersKeep s (setChan s n c k) := by
  have hsame : ∀ {m d}, m * 128 + d = n * 128 + c → chan s m d = chan s n c := fun h => by unfold chan; rw [h]
  refine ⟨rfl, rfl, rfl, rfl, fun m d => ?_, fun m d a => ?_⟩
  · unfold chanDown
    rw [chan_setChan]
    split
    next h => rw [hst, hsame h]
    next => rfl
  · rw [chan_setChan]
    split
    next h => rw [hsame h]; exact hre a
    next => exact id

theorem Sound.answersKeep (h : Sound s) (hk : AnswersKeep s t) : Sound t :=
  ⟨fun n c => (hk.down n c).trans (h.up n c), hk.marks.trans h.marks, hk.losses.trans h.losses⟩

theorem answersKeep_report (s : State) {cls : Nat} (hc : btrSeverity cls = some 1) (a b c d : Nat) (e f : Option Nat) :
    AnswersKeep s (report s cls a b c d e f) :=
  answersKeep_of_dram (btrRecord_mem s hc false) (recordKept_report s _ _ _ _ _ _ _).dram

theorem countCe_keeps (k : Chan) (t n : Nat) : (countCe k t n).st = k.st ∧ (countCe k t n).rebuild = k.rebuild := by
  unfold countCe
  split <;> exact ⟨rfl, rfl⟩

theorem answersKeep_noteCe (s : State) (g : Nat) (ws : List Nat) (syn : Nat) : AnswersKeep s (noteCe s g ws syn) := by
  unfold noteCe
  extract_lets a n c k th s1
  clear_value a n c th
  obtain ⟨hst, hre⟩ := countCe_keeps (chan s n c) (now s) ws.length
  have hbump : AnswersKeep s (bump s (Reg.STK_ECC_CE n (c / 32)) ws.length) := answersKeep_of_dram rfl rfl
  have hset : AnswersKeep (bump s (Reg.STK_ECC_CE n (c / 32)) ws.length) s1 :=
    answersKeep_setChan _ hst fun a ha => by rw [hre] at ha; exact ha
  have h1 : AnswersKeep s s1 := hbump.trans hset
  clear_value s1 k
  split
  · exact h1.trans (answersKeep_report s1 rfl _ _ _ _ _ _)
  · exact h1

theorem answersKeep_decodeRead (h : Sound s) (n c : Nat) (a : Acc) : AnswersKeep s (decodeRead s n c a).1 := by
  unfold decodeRead
  split
  · rw [load_of_sound h]
    exact answersKeep_of_dram rfl rfl
  · extract_lets fix due s1
    have h1 : AnswersKeep s s1 := by
      unfold s1
      split
      · exact answersKeep_of_dram rfl rfl
      · exact answersKeep_noteCe _ _ _ _
    refine h1.trans ?_
    dsimp only
    split <;> exact answersKeep_of_dram rfl rfl

theorem answersKeep_countLate (s : State) (n c t : Nat) (a : Acc) : AnswersKeep s (countLate s n c t a).1 := by
  unfold countLate
  dsimp only
  split <;> exact answersKeep_of_dram rfl rfl

/-- The answer to one read that waited. -/
def answerRead (s : State) (n c : Nat) (a : Acc) : State :=
  let (s, a) := decodeRead s n c a
  let k := chan s n c
  let (s, late) := countLate s n c k.cycle a
  setChan s n c { chan s n c with done := { a with late := late } :: k.done }

theorem answersKeep_answerRead (h : Sound s) (n c : Nat) (a : Acc) : AnswersKeep s (answerRead s n c a) :=
  ((answersKeep_decodeRead h n c a).trans (answersKeep_countLate _ _ _ _ _)).trans
    (answersKeep_setChan _ rfl fun _ => id)

theorem answersKeep_answerReads (n c : Nat) (l : List Acc) (h : Sound s) :
    AnswersKeep s (l.foldl (fun s a => answerRead s n c a) s) := by
  induction l generalizing s with
  | nil => exact answersKeep_of_dram rfl rfl
  | cons a l ih =>
    have h1 := answersKeep_answerRead h n c a
    exact h1.trans (ih (h.answersKeep h1))

/-- The answers to the reads of one granule of a page that waited. -/
def answerGranule (n page : Nat) (s : State) (q : Nat) : State :=
  let c := chanOfGranule page q
  let k := chan s n c
  let mine := k.rebuild.filter (fun a => pageOf a.ppa == page)
  mine.foldl (fun s a => answerRead s n c a) (setChan s n c { k with rebuild := k.rebuild.filter (fun a => pageOf a.ppa != page) })

/-- A rebuild answers the granules of the page in turn and releases the hold. -/
theorem execSealRebuildDone_of_held {n p : Nat} (h : heldFor s n p 0 = true) :
    exec (.sealRebuildDone n p) s = .next (releaseHold ((List.range 16).foldl (answerGranule n p) s) n p) := by
  simp only [exec, execSealRebuildDone, h, Bool.not_true, Bool.false_eq_true, if_false]
  rfl

/-- After a granule's answers no read of the page waits on its channel. -/
theorem answerGranule_spec (h : Sound s) (n p q : Nat) :
    AnswersKeep s (answerGranule n p s q)
      ∧ ∀ a, a ∈ (chan (answerGranule n p s q) n (chanOfGranule p q)).rebuild → pageOf a.ppa ≠ p := by
  unfold answerGranule
  extract_lets c k mine
  generalize hs1 : setChan s n c { k with rebuild := k.rebuild.filter (fun a => pageOf a.ppa != p) } = s1
  have h1 : AnswersKeep s s1 := hs1 ▸ answersKeep_setChan s rfl fun a ha => List.mem_of_mem_filter ha
  have h2 := answersKeep_answerReads n c mine (h.answersKeep h1)
  refine ⟨h1.trans h2, fun a ha => ?_⟩
  have hmem := h2.waiting n c a ha
  rw [← hs1, chan_setChan_self] at hmem
  simpa using (List.mem_filter.1 hmem).2

theorem answerGranules_spec (n p : Nat) (l : List Nat) (h : Sound s) :
    AnswersKeep s (l.foldl (answerGranule n p) s)
      ∧ ∀ q ∈ l, ∀ a, a ∈ (chan (l.foldl (answerGranule n p) s) n (chanOfGranule p q)).rebuild → pageOf a.ppa ≠ p := by
  induction l generalizing s with
  | nil => exact ⟨answersKeep_of_dram rfl rfl, fun q hq => absurd hq List.not_mem_nil⟩
  | cons q l ih =>
    obtain ⟨h1, hq⟩ := answerGranule_spec h n p q
    obtain ⟨h2, hl⟩ := ih (h.answersKeep h1)
    refine ⟨h1.trans h2, fun r hr a ha => ?_⟩
    rcases List.mem_cons.1 hr with rfl | hr
    · exact hq a (h2.waiting _ _ a ha)
    · exact hl r hr a ha

/-! ### The scrubber (R175 to R178) -/

theorem execScrubVisit_asks {n p : Nat} (hn : n < 6) (hon : rf s (Reg.PNT_CTL n) 0 0 = 1)
    (hr : (sealDie s n).selfRefresh = false) (ht : s.dram.trained = true) (hh : ∀ h, h ∈ (sealDie s n).holds → h.who ≠ 1)
    (hp : nextScrub s n (sealDie s n).pos = some p) :
    exec (.scrubVisit n) s = .next (askHold (setScrub s n p) n (n * 480 * 2 ^ 18 + p) 1) := by
  have hany : (sealDie s n).holds.any (fun h => h.who == 1) = false := by
    rw [List.any_eq_false]
    intro h hm
    simpa using hh h hm
  have hgo : ¬ (6 ≤ n ∨ rf s (Reg.PNT_CTL n) 0 0 = 0 ∨ (sealDie s n).selfRefresh = true ∨ s.dram.trained = false
      ∨ (sealDie s n).holds.any (fun h => h.who == 1) = true) := by
    rw [hon, hr, ht, hany]
    simp only [Bool.false_eq_true, Bool.true_eq_false, or_false]
    omega
  simp only [exec, execScrubVisit, hgo, if_false, hp]

theorem sealDie_setScrub (s : State) (n p : Nat) : sealDie (setScrub s n p) n = { sealDie s n with pos := p } :=
  sealDie_setSealDie_self s n _

theorem sealDie_askHold {n page who : Nat} (h : ∀ h, h ∈ (sealDie s n).holds → h.who ≠ who) :
    sealDie (askHold s n page who) n
      = { sealDie s n with holds := (sealDie s n).holds ++ [{ page := page, granted := false, who := who }] } := by
  have hany : (sealDie s n).holds.any (fun h => h.page == page && h.who == who) = false := by
    rw [List.any_eq_false]
    intro x hx
    simp [h x hx]
  simp [askHold, hany]

theorem askHold_frame (s : State) (n page who : Nat) :
    (askHold s n page who).regs = s.regs ∧ (askHold s n page who).mem = s.mem := by
  unfold askHold
  dsimp only
  split <;> exact ⟨rfl, rfl⟩

/-- The marks of sound memory leave a page's finding to its seal (R177). -/
theorem pageFinding_of_sound (h : Sound s) (hm : s.dram.sealMarks = []) (page : Nat) :
    pageFinding s page = s.dram.sealErr.any (fun e => e.1 / 128 == page) := by
  have hwords : (List.range 512).any (fun i => markOf s (page * 512 + i) != 0) = false :=
    List.any_eq_false.2 fun i _ => by simp [markOf, h.marks, tgetD]
  have hlines : (List.range 16).any (fun q => s.dram.losses.any (fun l => l.covers (page * 32 + 2 * q))) = false :=
    List.any_eq_false.2 fun q _ => by simp [h.losses]
  rw [pageFinding, hwords, hlines, hm, List.any_nil, Bool.false_or, Bool.or_false, Bool.or_false]

/-- The check of a page with a right seal moves the scrubber on. -/
theorem execScrubPageChecked_right {n page : Nat} (hpage : page = n * 480 * 2 ^ 18 + (sealDie s n).pos)
    (hpos : (sealDie s n).pos + 1 < 480 * 2 ^ 18) (hheld : heldFor s n page 1 = true) (h : Sound s)
    (hm : s.dram.sealMarks = []) (he : s.dram.sealErr = []) :
    exec (.scrubPageChecked n) s = .next (setScrub (releaseHold s n page) n ((sealDie s n).pos + 1)) := by
  have hfind : pageFinding s page = false := by rw [pageFinding_of_sound h hm, he]; rfl
  simp only [exec, execScrubPageChecked, ← hpage, hheld, hfind, fetchRange_of_sound h, he, hm, List.any_nil, Bool.and_false,
    Bool.not_true, Bool.false_eq_true, if_false, hpos, if_true]

/-- The seal of a page that disagrees with clean data is made right, counted and reported. -/
def repairSeal (s : State) (n page : Nat) : State :=
  report (bump (recomputeSeal (bump s (Reg.PNT_FOUND n) 1) page) (Reg.SEA_MISMATCH n) 1) 0x04 0x13 n (memLocation (page * 4096)) 0
    none none

theorem execScrubPageChecked_wrong {n page : Nat} (hpage : page = n * 480 * 2 ^ 18 + (sealDie s n).pos)
    (hpos : (sealDie s n).pos + 1 < 480 * 2 ^ 18) (hheld : heldFor s n page 1 = true) (h : Sound s)
    (hm : s.dram.sealMarks = []) {i v : Nat} (he : s.dram.sealErr = [(page * 128 + i, v)]) (hi : i < 128) :
    exec (.scrubPageChecked n) s
      = .next (setScrub (releaseHold (repairSeal s n page) n page) n ((sealDie s n).pos + 1)) := by
  have hwrong : s.dram.sealErr.any (fun e => e.1 / 128 == page) = true := by
    rw [he]
    simp
    omega
  have hfind : pageFinding s page = true := (pageFinding_of_sound h hm page).trans hwrong
  have hb : Sound (bump s (Reg.PNT_FOUND n) 1) := h.of_dram rfl
  have hclean : (List.range 512).all (fun i => markOf (bump s (Reg.PNT_FOUND n) 1) (page * 512 + i) == 0) = true := by
    simp [markOf, h.marks, tgetD]
  have havail : (List.range 16).all (fun q => !chanDown (bump s (Reg.PNT_FOUND n) 1) n (chanOfGranule page q)) = true := by
    simp [hb.up]
  simp only [exec, execScrubPageChecked, ← hpage, hheld, hfind, fetchRange_of_sound hb, bump_dram, hwrong, hclean, havail,
    Bool.and_self, Bool.not_true, Bool.false_eq_true, if_false, hpos, if_true, repairSeal]

theorem repairSeal_spec {n page : Nat} (hn : n < 6) {i v : Nat} (he : s.dram.sealErr = [(page * 128 + i, v)]) (hi : i < 128) :
    (repairSeal s n page).dram.sealErr = [] ∧ rg (repairSeal s n page) (Reg.PNT_FOUND n) = min (rg s (Reg.PNT_FOUND n) + 1) 0xFFFFFFFF
      ∧ rg (repairSeal s n page) (Reg.SEA_MISMATCH n) = min (rg s (Reg.SEA_MISMATCH n) + 1) 0xFFFFFFFF := by
  have hrec : RecordKept (bump (recomputeSeal (bump s (Reg.PNT_FOUND n) 1) page) (Reg.SEA_MISMATCH n) 1) (repairSeal s n page) :=
    recordKept_report _ _ _ _ _ _ _ _
  have hf : Reg.PNT_FOUND n ∉ errorRegs := by
    simp [errorRegs, Reg.PNT_FOUND, Reg.BTR_MERGED, Reg.BTR_SECONDARY, Reg.BTR_OVF, Reg.ETH_EVT_LOST, Reg.ETH_EVT_SEQ_LO,
      Reg.ETH_EVT_SEQ_HI]
    omega
  have hx : Reg.SEA_MISMATCH n ∉ errorRegs := by
    simp [errorRegs, Reg.SEA_MISMATCH, Reg.BTR_MERGED, Reg.BTR_SECONDARY, Reg.BTR_OVF, Reg.ETH_EVT_LOST, Reg.ETH_EVT_SEQ_LO,
      Reg.ETH_EVT_SEQ_HI]
    omega
  have hne : Reg.PNT_FOUND n ≠ Reg.SEA_MISMATCH n := by unfold Reg.PNT_FOUND Reg.SEA_MISMATCH; omega
  have hpage : (page * 128 + i) / 128 = page := by omega
  refine ⟨?_, ?_, ?_⟩
  · rw [hrec.dram]
    simp [recomputeSeal, he, hpage]
  · rw [hrec.regs _ hf, bump, rg_rput_ne _ _ hne]
    exact rg_bump_self s _ 1
  · rw [hrec.regs _ hx, rg_bump_self]
    exact congrArg (fun v => min (v + 1) 0xFFFFFFFF) (rg_rput_ne s _ hne.symm)

/-! ### Parity (R24, R25, R173, R174) -/

/-- The error that reports a replay (R173). -/
def replayErr (unit inst loc : Nat) : ErrIn :=
  { cls := 0x07, unit := unit, inst := inst, location := loc, detail := 0, tenant := none, during := none }

/-- The replays of a hop are counted, with the time of the last. -/
def countReplay (s : State) (n hop cnt : Nat) : State :=
  setSealDie s n { sealDie s n with replays := tset (tset (sealDie s n).replays hop cnt) (2 + hop) (now s) }

/-- The die-to-die link of a die has failed. -/
def loseLink (s : State) (n : Nat) : State := setSealDie s n { sealDie s n with linkLost := true }

theorem loseLink_linkLost (s : State) (n : Nat) : (sealDie (loseLink s n) n).linkLost = true := by
  rw [loseLink, sealDie_setSealDie_self]

section
variable {n hop cls unit inst loc : Nat} (hnow : now s ≤ tgetD (sealDie s n).replays (2 + hop) 0 + 1000)
include hnow

theorem parityError_of_few (hc : tgetD (sealDie s n).replays hop 0 < 16) :
    parityError s n hop cls unit inst loc
      = (btrRecord (countReplay s n hop (tgetD (sealDie s n).replays hop 0 + 1)) (replayErr unit inst loc) false).1 := by
  have hlt : ¬ 17 ≤ tgetD (sealDie s n).replays hop 0 + 1 := by omega
  simp only [parityError, hnow, if_true, hlt, if_false]
  rfl

theorem parityError_of_many (hc : 16 ≤ tgetD (sealDie s n).replays hop 0) :
    ∃ r slot, RecordKept (countReplay s n hop 0) r ∧ parityError s n hop cls unit inst loc
      = btrError (if hop = 0 then loseLink r n else r) { replayErr unit inst loc with cls := cls, during := some slot } false := by
  have hge : 17 ≤ tgetD (sealDie s n).replays hop 0 + 1 := by omega
  refine ⟨_, (btrRecord (countReplay s n hop 0) (replayErr unit inst loc) false).2,
    recordKept_btrRecord _ (replayErr unit inst loc) false, ?_⟩
  simp only [parityError, hnow, if_true, hge]
  rfl

/-- A replay before the sixteenth has failed is counted and reported; the link holds. -/
theorem parityError_counts (hc : tgetD (sealDie s n).replays hop 0 < 16) :
    tgetD (sealDie (parityError s n hop cls unit inst loc) n).replays hop 0 = tgetD (sealDie s n).replays hop 0 + 1
      ∧ (sealDie (parityError s n hop cls unit inst loc) n).linkLost = (sealDie s n).linkLost
      ∧ inSafe (parityError s n hop cls unit inst loc) = inSafe s ∧ (parityError s n hop cls unit inst loc).xlt = s.xlt
      ∧ (parityError s n hop cls unit inst loc).sched = s.sched := by
  rw [parityError_of_few hnow hc]
  have hrec := recordKept_btrRecord (countReplay s n hop (tgetD (sealDie s n).replays hop 0 + 1)) (replayErr unit inst loc) false
  have hdie := (sealDie_congr hrec.dram n).trans (sealDie_setSealDie_self s n _)
  have hne : hop ≠ 2 + hop := by omega
  refine ⟨?_, by rw [hdie], hrec.inSafe.trans rfl, hrec.xlt, (kept_btrRecord _ _ _).sched⟩
  rw [hdie, tgetD_tset, if_neg hne, tgetD_tset_self]

/-- A replay after sixteen have failed is fatal, and fails the link where the hop is one (R25, R174). -/
theorem parityError_fatal (hs : inSafe s = false) (hcls : btrSeverity cls = some 3)
    (hc : 16 ≤ tgetD (sealDie s n).replays hop 0) :
    inSafe (parityError s n hop cls unit inst loc) = true ∧ (parityError s n hop cls unit inst loc).bus.held = true
      ∧ (hop = 0 → (sealDie (parityError s n hop cls unit inst loc) n).linkLost = true) := by
  obtain ⟨r, slot, hrec, heq⟩ := parityError_of_many (cls := cls) (unit := unit) (inst := inst) (loc := loc) hnow hc
  have hr : inSafe (if hop = 0 then loseLink r n else r) = false := by
    have hsame : inSafe (loseLink r n) = inSafe r := rfl
    rw [apply_ite inSafe, hsame, ite_self, hrec.inSafe]
    exact hs
  obtain ⟨hsafe, hheld, -, -, hlinks⟩ :=
    btrError_fatal hr (e := { replayErr unit inst loc with cls := cls, during := some slot }) hcls false
  rw [heq]
  refine ⟨hsafe, hheld, fun h0 => ?_⟩
  rw [hlinks, if_pos h0]
  exact loseLink_linkLost r n

end

end

/-- Settles O39: each event is one equation of the model, and on clean memory a check and a rebuild read the pool as it stands. -/
theorem sealsScrubbingAndParity : Obligations.SealsScrubbingAndParity := by
  unfold Obligations.SealsScrubbingAndParity
  refine ⟨fun s n x rest hup hnew => ⟨fun hd hroom hset => ?_, fun hd hfull => ?_, fun hw hroom hset => ?_⟩,
    fun s n p h hh hp hg hd hw => ?_, fun s n p since l hl hdirty hc => ?_, fun s n p hh hc => ?_,
    fun s n p hn hon hr ht hh hp => ?_, fun s n page hpage hn hpos hheld hc hm => ⟨fun he => ?_, fun i v he hi => ?_⟩,
    fun s n hop cnt c hn hs hcmd hcnt hnow => ?_, fun s n hn hs => ?_⟩
  case refine_1 =>
    refine ⟨_, execSealDelta_allocates hup hnew hd hroom hset, ?_⟩
    beta_reduce
    rw [sealDie_setSealDie_self]
    exact ⟨rfl, withDirty_line _ _ _, fun p hp => tget_tset_ne _ _ hp, SameRegs.of_regs rfl _, rfl⟩
  case refine_2 =>
    refine ⟨_, execSealDelta_waits hup hnew hd hfull, ?_⟩
    beta_reduce
    rw [sealDie_setChan, sealDie_setSealDie_self, chan_setChan_self]
    exact ⟨rfl, rfl, rfl, rfl, SameRegs.of_regs rfl _, rfl⟩
  case refine_3 =>
    refine ⟨_, execSealDeltaResume_allocates hup hnew hw hroom hset, ?_⟩
    beta_reduce
    rw [sealDie_setChan, sealDie_setSealDie_self, chan_setChan_self]
    exact ⟨rfl, withDirty_line _ _ _, rfl, SameRegs.of_regs rfl _, rfl⟩
  case refine_4 =>
    have hexec : exec (.pageHoldGrant n p) s
        = .next (setSealDie s n { sealDie s n with holds := [{ h with granted := true }] }) := by
      simp [exec, execPageHoldGrant, heldPage, hh, hp, hg, hd, hw]
    refine ⟨_, hexec, ?_, SameRegs.of_regs rfl _, rfl⟩
    rw [sealDie_setSealDie_self]
  case refine_5 =>
    refine ⟨_, execSealLineAge_writes hl hdirty hc, le_now_reach s _, ?_⟩
    rw [sealDie_setSealDie_self]
    exact ⟨tget_tset_self _ _ _, fun q hq => tget_tset_ne _ _ hq, SameRegs.of_regs (reach_regs s _) _, reach_mem s _⟩
  case refine_6 =>
    have hexec := execSealRebuildDone_of_held hh
    obtain ⟨hkeep, hgone⟩ := answerGranules_spec n p (List.range 16) hc.sound
    generalize (List.range 16).foldl (answerGranule n p) s = t at hexec hkeep hgone
    exact ⟨_, hexec, fun q a hq ha => hgone q (List.mem_range.2 hq) a ha, fun h hm hp => releaseHold_left hm hp, hkeep.mem⟩
  case refine_7 =>
    have hdie := sealDie_setScrub s n p
    obtain ⟨hregs, hmem⟩ := askHold_frame (setScrub s n p) n (n * 480 * 2 ^ 18 + p) 1
    refine ⟨_, execScrubVisit_asks hn hon hr ht hh hp, ?_⟩
    beta_reduce
    rw [sealDie_askHold (by rw [hdie]; exact hh), hdie]
    exact ⟨rfl, rfl, (sameRegs_rput _ _ (List.mem_singleton_self _)).trans (SameRegs.of_regs hregs _), hmem⟩
  case refine_8 =>
    refine ⟨_, execScrubPageChecked_right hpage hpos hheld hc.sound hm he, ?_, ?_, rfl, ?_⟩
    · rw [sealDie_setScrub]
    · rw [heldPage, sealDie_setScrub]
      exact heldPage_releaseHold s n page
    · exact sameRegs_rput (setSealDie (releaseHold s n page) n _) _ (List.mem_singleton_self _)
  case refine_9 =>
    obtain ⟨herr, hfound, hmis⟩ := repairSeal_spec hn he hi
    have hf : Reg.PNT_FOUND n ≠ Reg.PNT_POS n := by unfold Reg.PNT_FOUND Reg.PNT_POS; omega
    have hx : Reg.SEA_MISMATCH n ≠ Reg.PNT_POS n := by unfold Reg.SEA_MISMATCH Reg.PNT_POS; omega
    refine ⟨_, execScrubPageChecked_wrong hpage hpos hheld hc.sound hm he hi, ?_, herr, ?_, ?_⟩
    · rw [sealDie_setScrub]
    · exact (rg_rput_ne _ _ hf).trans hfound
    · exact (rg_rput_ne _ _ hx).trans hmis
  case refine_10 =>
    subst hcnt
    have hparity : ∃ cls unit inst, btrSeverity cls = some 3
        ∧ exec c s = .next (parityError s n hop cls unit inst (dieWindow n)) := by
      rcases hcmd with ⟨rfl, rfl⟩ | ⟨rfl, rfl⟩
      · exact ⟨0x21, 0x0B, n, rfl, if_pos ⟨hn, hs⟩⟩
      · exact ⟨0x20, 0x10, 4 * n, rfl, if_pos ⟨hn, hs⟩⟩
    obtain ⟨cls, unit, inst, hcls, hexec⟩ := hparity
    refine ⟨fun hc => ⟨_, hexec, ?_⟩, fun hc => ⟨_, hexec, parityError_fatal hnow hs hcls hc⟩⟩
    rw [← hs]
    exact parityError_counts hnow hc
  case refine_11 =>
    have hexec : exec (.d2dTrainingLoss n) s = .next (fatal (loseLink s n) 0x21 0x0B n (dieWindow n)) := if_pos ⟨hn, hs⟩
    obtain ⟨hsafe, hheld, hxlt, hsched, hlinks⟩ := btrError_fatal (s := loseLink s n) hs (e :=
      { cls := 0x21, unit := 0x0B, inst := n, location := dieWindow n, detail := 0, tenant := none, during := none }) rfl false
    exact ⟨_, hexec, hsafe, hheld, (hlinks n).trans (loseLink_linkLost s n), hxlt, hsched⟩

end Sys2Proof.Machine
end

section
/-! PROOFS. The common time base (O51). -/

namespace Sys2Proof.Machine
open Sys2Proof

/-! ### Fields of registers -/

theorem testBit_bits (w hi lo i : Nat) : (bits w hi lo).testBit i = (decide (i < hi + 1 - lo) && w.testBit (i + lo)) := by
  rw [bits, Nat.testBit_mod_two_pow, Nat.testBit_div_two_pow]

/-- A word is what lies above a field, the field, and what lies below it. -/
theorem setBits_eq (w hi lo v : Nat) :
    setBits w hi lo v
      = 2 ^ lo * (2 ^ (hi + 1 - lo) * (w / 2 ^ lo / 2 ^ (hi + 1 - lo)) + v % 2 ^ (hi + 1 - lo)) + w % 2 ^ lo := by
  have hlow := Nat.div_add_mod w (2 ^ lo)
  have hmid := Nat.div_add_mod (w / 2 ^ lo) (2 ^ (hi + 1 - lo))
  unfold setBits bits
  generalize 2 ^ (hi + 1 - lo) = k at *
  generalize 2 ^ lo = l at *
  generalize w / l / k = y at *
  generalize w / l % k = b at *
  generalize w % l = r at *
  generalize v % k = x
  have hw : w = l * (k * y) + r + b * l := by rw [← hlow, ← hmid]; ring
  rw [hw, Nat.add_sub_cancel]
  ring

theorem testBit_setBits (w hi lo v i : Nat) :
    (setBits w hi lo v).testBit i = if lo ≤ i ∧ i ≤ hi then v.testBit (i - lo) else w.testBit i := by
  rw [setBits_eq, Nat.testBit_two_pow_mul_add _ (Nat.mod_lt _ (Nat.two_pow_pos lo)),
    Nat.testBit_two_pow_mul_add _ (Nat.mod_lt _ (Nat.two_pow_pos _)), Nat.testBit_mod_two_pow, Nat.testBit_mod_two_pow,
    Nat.testBit_div_two_pow, Nat.testBit_div_two_pow]
  by_cases hlo : i < lo
  · have hno : ¬ (lo ≤ i ∧ i ≤ hi) := by omega
    simp [hlo, hno]
  · by_cases hhi : i - lo < hi + 1 - lo
    · have hyes : lo ≤ i ∧ i ≤ hi := by omega
      simp [hlo, hhi, hyes]
    · have hno : ¬ (lo ≤ i ∧ i ≤ hi) := by omega
      have hidx : i - lo - (hi + 1 - lo) + (hi + 1 - lo) + lo = i := by omega
      simp [hlo, hhi, hno, hidx]

theorem testBit_rg_rputF (s : State) (a hi lo v i : Nat) :
    (rg (rputF s a hi lo v) a).testBit i
      = (decide (i < 32) && if lo ≤ i ∧ i ≤ hi then v.testBit (i - lo) else (rg s a).testBit i) := by
  rw [rputF, rg_rput_self, Nat.testBit_mod_two_pow, testBit_setBits]

/-- A field reads as it was written. -/
theorem rf_rputF_self (s : State) (a : Nat) {hi lo : Nat} (hhi : hi < 32) (v : Nat) :
    rf (rputF s a hi lo v) a hi lo = v % 2 ^ (hi + 1 - lo) := by
  refine Nat.eq_of_testBit_eq fun i => ?_
  rw [rf, testBit_bits, testBit_rg_rputF, Nat.testBit_mod_two_pow]
  by_cases hi' : i < hi + 1 - lo
  · have hin : lo ≤ i + lo ∧ i + lo ≤ hi := by omega
    have h32 : i + lo < 32 := by omega
    simp [hi', hin, h32]
  · simp [hi']

/-- A field reads as it did before a write of one that lies above. -/
theorem rf_rputF_below (s : State) (a v : Nat) {hi lo hi' lo' : Nat} (h : hi' < lo) (h32 : hi' < 32) :
    rf (rputF s a hi lo v) a hi' lo' = rf s a hi' lo' := by
  refine Nat.eq_of_testBit_eq fun i => ?_
  rw [rf, rf, testBit_bits, testBit_bits, testBit_rg_rputF]
  by_cases hi : i < hi' + 1 - lo'
  · have hout : ¬ (lo ≤ i + lo' ∧ i + lo' ≤ hi') := by omega
    have hlt : ¬ lo ≤ i + lo' := by omega
    have hw : i + lo' < 32 := by omega
    simp [hi, hlt, hw]
  · simp [hi]

theorem rf_rputF_ne (s : State) {a b : Nat} (hi lo v hi' lo' : Nat) (h : b ≠ a) :
    rf (rputF s a hi lo v) b hi' lo' = rf s b hi' lo' := by
  rw [rf, rf, rputF, rg_rput_ne _ _ h]

section
variable {s t u : State}

theorem SamePool.trans (h : SamePool s t) (h' : SamePool t u) : SamePool s u :=
  ⟨h'.mem.trans h.mem, h'.xlt.trans h.xlt, h'.dram.trans h.dram, h'.dirc.trans h.dirc, h'.sig.trans h.sig,
    h'.sched.trans h.sched, h'.twin.trans h.twin⟩

theorem now_eventW (s : State) (code sev : Nat) (ws : List Nat) : now (eventW s code sev ws) = now s :=
  congrArg TimeBase.ns (eventW_tb s code sev ws)

/-- An event changes no register of the group or of the time base. -/
theorem rf_eventW (s : State) (code sev : Nat) (ws : List Nat) {a : Nat}
    (ha : a ∉ [Reg.ETH_EVT_LOST, Reg.ETH_EVT_SEQ_LO, Reg.ETH_EVT_SEQ_HI]) (hi lo : Nat) :
    rf (eventW s code sev ws) a hi lo = rf s a hi lo :=
  congrArg (bits · hi lo) (sameRegs_eventTo s none code sev _ a ha)

theorem grpCtl_not_event : Reg.FPT_GRP_CTL ∉ [Reg.ETH_EVT_LOST, Reg.ETH_EVT_SEQ_LO, Reg.ETH_EVT_SEQ_HI] := by decide

theorem grpMem_not_event {m : Nat} (hm : m < 8) :
    Reg.FPT_GRP_MEM m ∉ [Reg.ETH_EVT_LOST, Reg.ETH_EVT_SEQ_LO, Reg.ETH_EVT_SEQ_HI] := by
  simp [Reg.FPT_GRP_MEM, Reg.ETH_EVT_LOST, Reg.ETH_EVT_SEQ_LO, Reg.ETH_EVT_SEQ_HI]
  omega

theorem grpCtl_ne_grpMem (m : Nat) : Reg.FPT_GRP_CTL ≠ Reg.FPT_GRP_MEM m := by
  unfold Reg.FPT_GRP_CTL Reg.FPT_GRP_MEM
  omega

theorem grpMem_injective {m n : Nat} (h : Reg.FPT_GRP_MEM m = Reg.FPT_GRP_MEM n) : m = n := by
  unfold Reg.FPT_GRP_MEM at h
  omega

/-! ### Exchanges (R370, R371) -/

/-- What the choice of a path reads of a port, and what the header of a flit shows, as before. -/
structure SamePath (p q : Port) : Prop where
  st : p.st = q.st
  ident : p.ident = q.ident
  rttNs : p.rttNs = q.rttNs
  rxCount : p.rxCount = q.rxCount
  freed : p.freed = q.freed

theorem port_setPort (s : State) (k : Nat) (p : Port) (j : Nat) : port (setPort s k p) j = if j = k then p else port s j :=
  tgetD_tset s.fab.ports k p Port.init j

theorem samePath_setPort {k : Nat} {p : Port} (h : SamePath p (port s k)) (j : Nat) :
    SamePath (port (setPort s k p) j) (port s j) := by
  rw [port_setPort]
  split
  next hj => exact hj ▸ h
  next => exact ⟨rfl, rfl, rfl, rfl, rfl⟩

/-- A header with good credits changes acknowledgements and credits of its port only (R322, R330, R339). -/
theorem useHeader_setPort (s : State) (k : Nat) (f : List Byte) (h : bits (leAt f 0 8) 35 32 ∈ poolTurn) :
    ∃ p, useHeader s k f = setPort s k p ∧ SamePath p (port s k) := by
  unfold useHeader
  extract_lets w p n rest p' pool
  have hp : SamePath p' (port s k) := by
    unfold p'
    split
    · exact ⟨rfl, rfl, rfl, rfl, rfl⟩
    · exact ⟨rfl, rfl, rfl, rfl, rfl⟩
  rw [if_pos h]
  exact ⟨_, rfl, ⟨hp.st, hp.ident, hp.rttNs, hp.rxCount, hp.freed⟩⟩

/-- A CTRL flit that the port takes in runs its subtype's work. -/
theorem ctrlFlit_of_taken {k sub : Nat} {f : List Byte} (h : CtrlFlit s k f sub) (g : State → List Byte → State) :
    ∃ p, SamePath p (port s k) ∧ ctrlFlit k f sub s g = g (setPort s k p) (slice f 8 240) := by
  obtain ⟨hhears, hcrc, hpool, hsub⟩ := h
  obtain ⟨p, heq, hp⟩ := useHeader_setPort s k f hpool
  refine ⟨p, hp, ?_⟩
  simp only [ctrlFlit, hhears, hcrc, Bool.not_true, Bool.false_eq_true, if_false, hsub, if_true, heq]

theorem memberOf_congr (h : t.regs = s.regs) (c : Nat) : memberOf t c = memberOf s c := by
  unfold memberOf
  simp only [rg_congr h]

/-- The path to the source depends on registers and on what `SamePath` keeps of each port. -/
theorem timePort_congr (h : t.regs = s.regs) (hp : ∀ j, SamePath (port t j) (port s j)) : timePort t = timePort s := by
  have hmem : ∀ m, memberPorts t m = memberPorts s m := fun m =>
    List.filter_congr fun j _ => by simp only [portUp, (hp j).st, peerCoord, (hp j).ident, memberOf_congr h]
  have hnear : ∀ l, nearest t l = nearest s l := by
    intro l
    induction l with
    | nil => rfl
    | cons k l ih => simp only [nearest, ih, (hp _).rttNs]
  unfold timePort isFollower inGroup
  simp only [rf_congr h, hmem, hnear]

theorem execTimesync_request {k : Nat} {f : List Byte} (h : CtrlFlit s k f 0x0C) (hreq : leAt (slice f 8 240) 1 1 = 0) :
    ∃ p, SamePath p (port s k) ∧ exec (.timesync k f) s = .next (emitCtrl (setPort s k p) k 0x0C
      ([1#8, BitVec.ofNat 8 (b2n s.tb.locked), 0#8] ++ leBytes 4 (rf s Reg.FPT_GRP_CTL 15 0) ++ slice (slice f 8 240) 8 8
        ++ leBytes 8 (localNow s (8 + k)) ++ leBytes 8 (localNow s (8 + k)))) := by
  obtain ⟨p, hp, heq⟩ := ctrlFlit_of_taken h fun s pl =>
    if leAt pl 1 1 = 0 then
      emitCtrl s k 0x0C ([1, BitVec.ofNat 8 (b2n s.tb.locked), 0] ++ leBytes 4 (rf s Reg.FPT_GRP_CTL 15 0) ++ slice pl 8 8
        ++ leBytes 8 (localNow s (8 + k)) ++ leBytes 8 (localNow s (8 + k)))
    else s
  rw [if_pos hreq] at heq
  exact ⟨p, hp, congrArg _ heq⟩

/-- A flit that a port sends after its header was used. -/
theorem emitCtrl_spec {k : Nat} {p : Port} (hp : SamePath p (port s k)) (sub : Nat) (rest : List Byte) :
    SentCtrl s (emitCtrl (setPort s k p) k sub rest) k sub rest ∧ SamePorts s (emitCtrl (setPort s k p) k sub rest) k
      ∧ (emitCtrl (setPort s k p) k sub rest).tb = s.tb ∧ SameRegs s (emitCtrl (setPort s k p) k sub rest) []
      ∧ SamePool s (emitCtrl (setPort s k p) k sub rest) := by
  have hpath := samePath_setPort hp k
  refine ⟨⟨port (setPort s k p) k, rfl, hpath.rxCount, hpath.freed⟩, fun j hj => ?_, rfl, SameRegs.of_regs rfl _,
    ⟨rfl, rfl, rfl, rfl, rfl, rfl, rfl⟩⟩
  exact (port_setPort (setPort s k p) k _ j).trans ((if_neg hj).trans ((port_setPort s k p j).trans (if_neg hj)))

/-- An answer over the source's path, which no group member gives, is used (R371). -/
theorem execTimesyncAnswer_used {k : Nat} {f pl : List Byte} {o : Int} (h : CtrlFlit s k f 0x0C) (hpl : pl = slice f 8 240)
    (hans : leAt pl 1 1 = 1) (hport : timePort s = some k) (hmem : memberOf s (peerCoord (port s k)) = none)
    (ho : o = (((leAt pl 16 8 : Int) - leAt pl 8 8) - ((localNow s (8 + k) : Int) - leAt pl 24 8)) / 2) :
    ∃ p, exec (.timesyncAnswer k f) s = .next (useOffset (setPort s k p) o) := by
  subst hpl
  obtain ⟨p, hp, hctrl⟩ := useHeader_setPort s k f h.pool |>.imp fun p hp => And.intro hp.2 hp.1
  have hpath := samePath_setPort hp
  have hport' : timePort (setPort s k p) = some k := (timePort_congr (s := s) (t := setPort s k p) rfl hpath).trans hport
  have hmem' : memberOf (setPort s k p) (peerCoord (port (setPort s k p) k)) = none := by
    rw [memberOf_congr (s := s) (t := setPort s k p) rfl, peerCoord, (hpath k).ident]
    exact hmem
  have hlocal : localNow (setPort s k p) (8 + k) = localNow s (8 + k) := rfl
  obtain ⟨hhears, hcrc, -, hsub⟩ := h
  refine ⟨p, ?_⟩
  simp only [exec, execTimesyncAnswer, ctrlFlit, hhears, hcrc, Bool.not_true, Bool.false_eq_true, if_false, hsub, if_true, hctrl,
    hans, hmem', hport', hlocal, ho]

/-- An offset is stored, and its exchange counted, before it is used. -/
def noteOffset (s : State) (o : Int) : State :=
  let s := setOffset s o
  { s with tb := { s.tb with missed := 0, good := s.tb.good + 1, holdover := false } }

theorem sameRegs_noteOffset (s : State) (o : Int) : SameRegs s (noteOffset s o) [Reg.PWR_TB_OFFSET] :=
  (sameRegs_rput { s with tb := { s.tb with offset := o } } _ (List.mem_singleton_self _)).trans (SameRegs.of_regs rfl _)

/-- Before the first lock an exchange that is not the third is counted only. -/
theorem useOffset_counts {o : Int} (hn : s.tb.everLocked = false) (hg : s.tb.good < 2) : useOffset s o = noteOffset s o := by
  have hlock : (noteOffset s o).tb.everLocked = false := hn
  have hgood : (noteOffset s o).tb.good < firstLockExchanges := by
    have hsucc : (noteOffset s o).tb.good = s.tb.good + 1 := rfl
    unfold firstLockExchanges
    omega
  unfold useOffset
  extract_lets s1 tb u
  exact (if_pos (by rw [show u.tb.everLocked = false from hlock]; rfl)).trans (if_pos hgood)

/-- The third exchange takes the source's time. -/
theorem useOffset_locks {o : Int} (hn : s.tb.everLocked = false) (hg : s.tb.good = 2) :
    useOffset s o = eventW { noteOffset s o with tb := { (noteOffset s o).tb with
      ns := ((now s : Int) + o).toNat % 2 ^ 64, locked := true, everLocked := true, pendingOffset := 0 } } 0x0021 0
      [now s, ((now s : Int) + o).toNat % 2 ^ 64] := by
  have hgood : ¬ (noteOffset s o).tb.good < firstLockExchanges := by
    have hsucc : (noteOffset s o).tb.good = s.tb.good + 1 := rfl
    unfold firstLockExchanges
    omega
  unfold useOffset
  extract_lets s1 tb u
  exact (if_pos (by rw [show u.tb.everLocked = false from hn]; rfl)).trans (if_neg hgood)

/-- An offset that is not applied is kept for TIME_STEP. -/
def keepOffset (s : State) (o : Int) : State :=
  { noteOffset s o with tb := { (noteOffset s o).tb with locked := false, timeFault := true, pendingOffset := o } }

/-- Afterwards an offset above 1 ms is reported and not applied. -/
theorem useOffset_reports {o : Int} (he : s.tb.everLocked = true) (ho : 1000000 < o.natAbs) :
    useOffset s o = if s.tb.timeFault then keepOffset s o else eventW (keepOffset s o) 0x0022 2 [toField 64 o] := by
  unfold useOffset
  extract_lets s1 tb u
  exact (if_neg (by rw [show u.tb.everLocked = true from he]; decide)).trans (if_pos ho)

/-- Any other is corrected by rate. -/
theorem useOffset_steers {o : Int} (he : s.tb.everLocked = true) (ho : o.natAbs ≤ 1000000) (hf : s.tb.timeFault = false) :
    useOffset s o = { noteOffset s o with tb := { (noteOffset s o).tb with locked := true, inc := steerInc o, pendingOffset := o } } := by
  unfold useOffset
  extract_lets s1 tb u
  refine (if_neg (by rw [show u.tb.everLocked = true from he]; decide)).trans ((if_neg (Nat.not_lt.2 ho)).trans (if_neg ?_))
  rw [show u.tb.timeFault = false from hf]
  decide

/-- On one path, outside a group, the timer sends one request and counts the exchange (R370, R373). -/
theorem execTimeExchangeTimer_one {k : Nat} (hk : exchangePorts s = [k]) (hg : inGroup s = false) (ht : timePort s = some k) :
    exec .timeExchangeTimer s = .next (askTime { s with tb := { s.tb with missed := s.tb.missed + 1 } } k) := by
  have hfollow : isFollower s = false := by rw [isFollower, hg, Bool.false_and]
  have hsrc : rf s Reg.PWR_TB_CTL 1 0 = 2 := by
    by_contra hne
    rw [timePort, hfollow, if_neg Bool.false_ne_true, if_neg hne] at ht
    cases ht
  have hothers : otherMembers s = [] := by rw [otherMembers, hg, if_neg Bool.false_ne_true]
  have hcount : countExchange s = { s with tb := { s.tb with missed := s.tb.missed + 1 } } := by
    rw [countExchange, hothers, hsrc, hfollow]
    rfl
  simp only [exec, execTimeExchangeTimer, hk, hcount, List.foldl_cons, List.foldl_nil]

/-! ### Masters (R367, R368) -/

theorem nextMaster_lt {old m : Nat} (h : nextMaster s old = some m) : m < 8 := by
  obtain ⟨i, -, rfl⟩ := List.mem_map.1 (List.mem_of_find?_eq_some h)
  exact Nat.mod_lt _ (by decide)

/-- Whether the lost master itself can be reached is not asked. -/
theorem nextMaster_rputF (s : State) (old hi lo v : Nat) :
    nextMaster (rputF s (Reg.FPT_GRP_MEM old) hi lo v) old = nextMaster s old := by
  unfold nextMaster
  refine List.find?_congr fun m _ => ?_
  by_cases hm : m = old
  · simp [hm]
  · have hreg : rg (rputF s (Reg.FPT_GRP_MEM old) hi lo v) (Reg.FPT_GRP_MEM m) = rg s (Reg.FPT_GRP_MEM m) :=
      rg_rput_ne s _ fun h => hm (grpMem_injective h)
    rw [hreg, rf_rputF_ne s hi lo v 18 16 (grpCtl_ne_grpMem old)]

theorem takeMaster_tb (s : State) (m : Nat) : (takeMaster s m).tb = { s.tb with missed := 0 } := by
  unfold takeMaster
  extract_lets old s1 tb s2
  exact eventW_tb s2 _ _ _

theorem now_takeMaster (s : State) (m : Nat) : now (takeMaster s m) = now s := by
  unfold now
  rw [takeMaster_tb]

theorem takeMaster_spec (s : State) {m : Nat} (hm : m < 8) :
    rf (takeMaster s m) Reg.FPT_GRP_CTL 24 22 = m ∧ rf (takeMaster s m) Reg.FPT_GRP_CTL 21 0 = rf s Reg.FPT_GRP_CTL 21 0
      ∧ (∀ j, j < 8 → ∀ hi lo, rf (takeMaster s m) (Reg.FPT_GRP_MEM j) hi lo = rf s (Reg.FPT_GRP_MEM j) hi lo)
      ∧ (takeMaster s m).xlt = s.xlt := by
  unfold takeMaster
  extract_lets old s1 tb s2
  have hregs : s2.regs = s1.regs := rfl
  refine ⟨?_, ?_, fun j hj hi lo => ?_, eventW_xlt s2 _ _ _⟩
  · rw [rf_eventW _ _ _ _ grpCtl_not_event, rf_congr hregs]
    exact (rf_rputF_self s _ (by decide) m).trans (Nat.mod_eq_of_lt hm)
  · rw [rf_eventW _ _ _ _ grpCtl_not_event, rf_congr hregs]
    exact rf_rputF_below s _ m (by decide) (by decide)
  · rw [rf_eventW _ _ _ _ (grpMem_not_event hj), rf_congr hregs]
    exact rf_rputF_ne s 24 22 m hi lo (grpCtl_ne_grpMem j).symm

section
variable {old : Nat} (hold : old = rf s Reg.FPT_GRP_CTL 24 22) (hf : isFollower s = true)
  (hmiss : 3 ≤ tgetD s.tb.memMissed old 0)
include hold hf hmiss

theorem execMasterLost_takes {m : Nat} (hm : nextMaster s old = some m) :
    exec .masterLost s = .next (takeMaster (rputF s (Reg.FPT_GRP_MEM old) 30 30 0) m) := by
  subst hold
  simp only [exec, execMasterLost, hf, hmiss, decide_true, Bool.and_self, if_true, nextMaster_rputF, hm]

theorem execMasterLost_none (hm : nextMaster s old = none) :
    exec .masterLost s = .next (rputF s (Reg.FPT_GRP_MEM old) 30 30 0) := by
  subst hold
  simp only [exec, execMasterLost, hf, hmiss, decide_true, Bool.and_self, if_true, nextMaster_rputF, hm]

end

/-! ### Commands (R394 to R396, R449) -/

theorem samePool_dequeue (s : State) (slot : Nat) (tag : Word32) : SamePool s (dequeue s slot tag) :=
  ⟨dequeue_mem s slot tag, dequeue_xlt s slot tag, dequeue_dram s slot tag, dequeue_dirc s slot tag, dequeue_sig s slot tag,
    dequeue_sched s slot tag, dequeue_twin s slot tag⟩

theorem samePool_reply (s : State) (slot op : Nat) (tag : Word32) (st : Nat) (b : List Byte) :
    SamePool s (reply s slot op tag st b) :=
  ⟨reply_mem s slot op tag st b, reply_xlt s slot op tag st b, reply_dram s slot op tag st b, reply_dirc s slot op tag st b,
    reply_sig s slot op tag st b, reply_sched s slot op tag st b, reply_twin s slot op tag st b⟩

/-- The members of a group are written in order (R396). -/
def putMembers (s : State) (l : List Word64) (k : Nat) : State :=
  (l.zipIdx k).foldl (fun s e => rput s (Reg.FPT_GRP_MEM e.2) e.1.toNat) s

theorem putMembers_cons (s : State) (w : Word64) (l : List Word64) (k : Nat) :
    putMembers s (w :: l) k = putMembers (rput s (Reg.FPT_GRP_MEM k) w.toNat) l (k + 1) := rfl

theorem rg_putMembers (s : State) (l : List Word64) (k a : Nat) (ha : ∀ i, i < l.length → a ≠ Reg.FPT_GRP_MEM (k + i)) :
    rg (putMembers s l k) a = rg s a := by
  induction l generalizing s k with
  | nil => rfl
  | cons w l ih =>
    rw [putMembers_cons, ih, rg_rput_ne]
    · exact ha 0 (by simp)
    · intro i hi
      have h := ha (i + 1) (by simpa using hi)
      rwa [← Nat.add_assoc, Nat.add_right_comm] at h

theorem rg_putMembers_at (s : State) (l : List Word64) (k : Nat) {i : Nat} (hi : i < l.length) :
    rg (putMembers s l k) (Reg.FPT_GRP_MEM (k + i)) = (l.getD i 0).toNat % 2 ^ 32 := by
  induction l generalizing s k i with
  | nil => exact absurd hi (Nat.not_lt_zero i)
  | cons w l ih =>
    rw [putMembers_cons]
    cases i with
    | zero =>
      rw [rg_putMembers _ _ _ _ fun j _ h => by have := grpMem_injective h; omega]
      exact rg_rput_self s _ _
    | succ i =>
      have h := ih (rput s (Reg.FPT_GRP_MEM k) w.toNat) (k + 1) (i := i) (by simpa using hi)
      rw [Nat.add_right_comm, Nat.add_assoc] at h
      simpa using h

theorem putMembers_frame (s : State) (l : List Word64) (k : Nat) :
    SamePool s (putMembers s l k) ∧ (putMembers s l k).tb = s.tb := by
  induction l generalizing s k with
  | nil => exact ⟨samePool_refl s, rfl⟩
  | cons w l ih =>
    obtain ⟨hpool, htb⟩ := ih (rput s (Reg.FPT_GRP_MEM k) w.toNat) (k + 1)
    exact ⟨(samePool_rput s _ _).trans hpool, htb⟩

theorem toNat_lt_of_onlyBits {w : Word64} {m : Nat} (hm : m < 2 ^ 32) (h : onlyBits w m = true) : w.toNat < 2 ^ 32 := by
  have hand : w &&& ~~~(BitVec.ofNat 64 m) = 0#64 := by simpa [onlyBits] using h
  refine Nat.lt_pow_two_of_testBit _ fun i hi => ?_
  have hmi : (BitVec.ofNat 64 m).getLsbD i = false := by
    rw [BitVec.getLsbD_ofNat, Nat.testBit_lt_two_pow (Nat.lt_of_lt_of_le hm (Nat.pow_le_pow_right (by decide) hi)), Bool.and_false]
  have hbit : (w &&& ~~~(BitVec.ofNat 64 m)).getLsbD i = false := by rw [hand]; exact BitVec.getLsbD_zero
  rw [BitVec.testBit_toNat]
  by_cases h64 : i < 64
  · simpa only [BitVec.getLsbD_and, BitVec.getLsbD_not, h64, hmi, decide_true, Bool.not_false, Bool.and_true] using hbit
  · exact BitVec.getLsbD_of_ge w i (Nat.not_lt.1 h64)

/-- What a command leaves when its effect keeps the pool and it answers neither BUSY nor NOT_OWNER. -/
theorem reply_frame {slot op : Nat} {tag : Word32} {st : Nat} (h0 : st ≠ stBUSY) (h1 : st ≠ stNOT_OWNER) (b : List Byte)
    {l : List Nat} (hr : SameRegs (dequeue s slot tag) t l) (hp : SamePool (dequeue s slot tag) t) :
    SameRegs s (reply t slot op tag st b) l ∧ SamePool s (reply t slot op tag st b) :=
  ⟨((SameRegs.of_regs (dequeue_regs s slot tag) l).trans hr).trans (SameRegs.of_regs (reply_regs t slot op tag st b h0 h1) l),
    ((samePool_dequeue s slot tag).trans hp).trans (samePool_reply t slot op tag st b)⟩

theorem rg_reply_ok (t : State) (slot op : Nat) (tag : Word32) (b : List Byte) (a : Nat) :
    rg (reply t slot op tag stOK b) a = rg t a :=
  rg_congr (reply_regs t slot op tag stOK b (by decide) (by decide)) a

theorem rf_reply_ok (t : State) (slot op : Nat) (tag : Word32) (b : List Byte) (a hi lo : Nat) :
    rf (reply t slot op tag stOK b) a hi lo = rf t a hi lo :=
  congrArg (bits · hi lo) (rg_reply_ok t slot op tag b a)

section
variable {slot : Nat} {tag : Word32}

/-- The effect of GROUP_SET: the members, the numbers of group, member and master, and the counts start over. -/
def setGroup (s : State) (g m r : Word64) (l : List Word64) : State :=
  let s := rput (putMembers s l 0) Reg.FPT_GRP_CTL
    (g.toNat + 2 ^ 16 * m.toNat + 2 ^ 19 * r.toNat + 2 ^ 22 * r.toNat + 2 ^ 31)
  { s with tb := { s.tb with memMissed := [], namedSince := none, missed := 0 } }

theorem execGroupSet_eq {g m r : Word64} {l : List Word64} (h : MayRun s slot 0x0501 tag) (hg : g.toNat ≤ 0xFFFF)
    (hm : m.toNat ≤ 7) (hr : r.toNat ≤ 7) (hl : l.length = 8) (hw : ∀ w, w ∈ l → onlyBits w 0x8001FFFF = true) :
    exec (.groupSet slot tag g m r l) s = .next (
      if l.any (fun w => bit w.toNat 31 && isOwn s (bits w.toNat 16 0)) then
        reply (setGroup (dequeue s slot tag) g m r l) slot 0x0501 tag stOK []
      else reply (dequeue s slot tag) slot 0x0501 tag stINVALID []) := by
  have hall : l.all (fun w => onlyBits w 0x8001FFFF) = true := List.all_eq_true.2 hw
  have hbad : (!atMost g 0xFFFF || !atMost m 7 || !atMost r 7 || l.length != 8 || !l.all (fun w => onlyBits w 0x8001FFFF)) = false := by
    simp [atMost, hg, hm, hr, hl, hall]
  have hown : ∀ c, isOwn (dequeue s slot tag) c = isOwn s c := fun c => by unfold isOwn; rw [dequeue_fab]
  simp only [exec, execGroupSet, hbad, runCmd_eq h, hown]
  cases l.any (fun w => bit w.toNat 31 && isOwn s (bits w.toNat 16 0)) <;> rfl

/-- The fields of FPT_GRP_CTL as GROUP_SET writes them. -/
theorem groupWord_fields {g m r : Nat} (hg : g ≤ 0xFFFF) (hm : m ≤ 7) (hr : r ≤ 7) :
    bits (g + 2 ^ 16 * m + 2 ^ 19 * r + 2 ^ 22 * r + 2 ^ 31) 15 0 = g
      ∧ bits (g + 2 ^ 16 * m + 2 ^ 19 * r + 2 ^ 22 * r + 2 ^ 31) 18 16 = m
      ∧ bits (g + 2 ^ 16 * m + 2 ^ 19 * r + 2 ^ 22 * r + 2 ^ 31) 21 19 = r
      ∧ bits (g + 2 ^ 16 * m + 2 ^ 19 * r + 2 ^ 22 * r + 2 ^ 31) 24 22 = r
      ∧ bits (g + 2 ^ 16 * m + 2 ^ 19 * r + 2 ^ 22 * r + 2 ^ 31) 31 31 = 1 := by
  simp only [bits, Nat.reduceAdd, Nat.reduceSub, Nat.reducePow]
  have h19 : (g + 65536 * m + 524288 * r + 4194304 * r + 2147483648) / 524288 = r + 8 * r + 4096 := by omega
  have h22 : (g + 65536 * m + 524288 * r + 4194304 * r + 2147483648) / 4194304 = r + 512 := by omega
  have h31 : (g + 65536 * m + 524288 * r + 4194304 * r + 2147483648) / 2147483648 = 1 := by omega
  rw [h19, h22, h31]
  omega

theorem setGroup_spec (s : State) {g m r : Word64} {l : List Word64} (hg : g.toNat ≤ 0xFFFF) (hm : m.toNat ≤ 7)
    (hr : r.toNat ≤ 7) (hl : l.length = 8) (hw : ∀ w, w ∈ l → onlyBits w 0x8001FFFF = true) :
    (∀ i, i < 8 → rg (setGroup s g m r l) (Reg.FPT_GRP_MEM i) = (l.getD i 0).toNat)
      ∧ rg (setGroup s g m r l) Reg.FPT_GRP_CTL = g.toNat + 2 ^ 16 * m.toNat + 2 ^ 19 * r.toNat + 2 ^ 22 * r.toNat + 2 ^ 31
      ∧ SameRegs s (setGroup s g m r l) (Reg.FPT_GRP_CTL :: (List.range 8).map Reg.FPT_GRP_MEM)
      ∧ SamePool s (setGroup s g m r l) := by
  unfold setGroup
  extract_lets s1 tb
  refine ⟨fun i hi => ?_, ?_, fun a ha => ?_, ?_⟩
  · have hlt : (l.getD i 0).toNat < 2 ^ 32 := by
      rw [List.getD_eq_getElem l 0 (by omega)]
      exact toNat_lt_of_onlyBits (by decide) (hw _ (List.getElem_mem _))
    have hat := rg_putMembers_at s l 0 (i := i) (by omega)
    rw [Nat.zero_add, Nat.mod_eq_of_lt hlt] at hat
    exact (rg_rput_ne _ _ (grpCtl_ne_grpMem i).symm).trans hat
  · exact (rg_rput_self (putMembers s l 0) _ _).trans (Nat.mod_eq_of_lt (by omega))
  · simp only [List.mem_cons, List.mem_map, List.mem_range, not_or, not_exists, not_and] at ha
    obtain ⟨hctl, hmem⟩ := ha
    exact (rg_rput_ne _ _ hctl).trans (rg_putMembers s l 0 a fun i hi => by
      rw [Nat.zero_add]
      exact fun h => hmem i (by omega) h.symm)
  · obtain ⟨hpool, -⟩ := putMembers_frame s l 0
    exact hpool.trans ⟨rfl, rfl, rfl, rfl, rfl, rfl, rfl⟩

theorem execGroupQuery_eq (h : MayRun s slot 0x0502 tag) :
    exec (.groupQuery slot tag) s = .next (reply (dequeue s slot tag) slot 0x0502 tag stOK
      ([rg s Reg.FPT_GRP_CTL, tbStat s, rg s Reg.PWR_TB_OFFSET].flatMap (leBytes 8))) := by
  have hstat : tbStat (dequeue s slot tag) = tbStat s := by unfold tbStat; rw [dequeue_tb]
  simp only [exec, execGroupQuery, runCmd_eq h, hstat, rg_dequeue, Rep.words]

/-- The effect of TIME_SET: the source and its port, and the exchanges start over. -/
def setSource (s : State) (a p : Nat) : State :=
  let s := rput s Reg.PWR_TB_CTL (a + 4 * p)
  { s with tb := { s.tb with missed := 0, good := 0 } }

theorem execTimeSet_eq {a p : Word64} (h : MayRun s slot 0x0503 tag) (ha : a.toNat ≤ 2) (hp : p.toNat ≤ 31) :
    exec (.timeSet slot tag a p) s
      = .next (reply (setSource (dequeue s slot tag) a.toNat p.toNat) slot 0x0503 tag stOK []) := by
  have hbad : (!atMost a 2 || !atMost p 31) = false := by simp [atMost, ha, hp]
  simp only [exec, execTimeSet, hbad, runCmd_eq h, Rep.ok]
  rfl

/-- The effect of TIME_STEP forward: the time base takes the source's time, and an event tells it. -/
def stepTime (s : State) : State :=
  let after := now s + s.tb.pendingOffset.toNat
  eventW { s with tb := { s.tb with ns := after, timeFault := false, pendingOffset := 0 } } 0x0021 0 [now s, after]

theorem stepTime_tb (s : State) :
    (stepTime s).tb = { s.tb with ns := s.tb.ns + s.tb.pendingOffset.toNat, timeFault := false, pendingOffset := 0 } :=
  eventW_tb _ _ _ _

theorem stepTime_xlt (s : State) : (stepTime s).xlt = s.xlt := eventW_xlt _ _ _ _

theorem execTimeStep_forward (h : MayRun s slot 0x0504 tag) (ho : 0 ≤ s.tb.pendingOffset) :
    exec (.timeStep slot tag) s = .next (reply (stepTime (dequeue s slot tag)) slot 0x0504 tag stOK
      (leBytes 8 (now s + s.tb.pendingOffset.toNat))) := by
  have hback : ¬ s.tb.pendingOffset < 0 := Int.not_lt.2 ho
  have hnow : now (dequeue s slot tag) = now s := congrArg TimeBase.ns (dequeue_tb s slot tag)
  simp only [exec, execTimeStep, runCmd_eq h, dequeue_tb, hback, if_false, Rep.words, hnow, List.flatMap_cons, List.flatMap_nil,
    List.append_nil, stepTime]

theorem execTimeStep_back (h : MayRun s slot 0x0504 tag) (ho : s.tb.pendingOffset < 0) :
    exec (.timeStep slot tag) s = .next (reply (dequeue s slot tag) slot 0x0504 tag stCONFLICT []) := by
  simp only [exec, execTimeStep, runCmd_eq h, dequeue_tb, ho, if_true]

end

end

/-- Settles O51: each event is one equation of the model, and what it leaves is read from the registers and the time base. -/
theorem theTimeBaseIsDisciplined : Obligations.TheTimeBaseIsDisciplined := by
  unfold Obligations.TheTimeBaseIsDisciplined
  refine ⟨fun s c => ?_, fun s k f pl hflit hpl => ⟨fun hreq => ?_, fun o hans hport hmem ho => ?_⟩,
    fun s k hk hg ht => ?_, fun s old hold hf hmiss => ⟨fun m hm => ?_, fun hm => ?_⟩,
    fun s x named hnamed hsince hg hne => ?_, fun s hmiss hhold => ?_,
    fun s slot tag g m r l h hg hm hr hl hw => ⟨fun hown => ?_, fun hown => ?_⟩,
    fun s slot tag => ⟨fun h => ?_, fun a p h ha hp => ?_, fun h => ⟨fun ho => ?_, fun ho => ?_⟩⟩⟩
  case refine_1 =>
    refine ⟨_, rfl, ⟨_, tget_tset_self _ _ _, ?_, ?_⟩, fun x hx => tget_tset_ne _ _ hx, rfl, SameRegs.of_regs rfl _,
      ⟨rfl, rfl, rfl, rfl, rfl, rfl, rfl⟩⟩ <;> omega
  case refine_2 =>
    subst hpl
    obtain ⟨p, hp, hexec⟩ := execTimesync_request hflit hreq
    exact ⟨_, hexec, emitCtrl_spec hp _ _⟩
  case refine_3 =>
    obtain ⟨p, hexec⟩ := execTimesyncAnswer_used hflit hpl hans hport hmem ho
    generalize hu : setPort s k p = u at hexec
    have htb : u.tb = s.tb := by rw [← hu]; rfl
    have hregs : SameRegs s (noteOffset u o) [Reg.PWR_TB_OFFSET] := by
      rw [← hu]
      exact sameRegs_noteOffset (setPort s k p) o
    have hpool : SamePool s (noteOffset u o) := by
      rw [← hu]
      exact ⟨rfl, rfl, rfl, rfl, rfl, rfl, rfl⟩
    have hnow : now u = now s := congrArg TimeBase.ns htb
    have hinc : u.tb.inc = s.tb.inc := congrArg TimeBase.inc htb
    refine ⟨fun he hsmall hfault => ?_, fun he hbig => ?_, fun hn hgood hlo hhi => ?_, fun hn hgood => ?_⟩
    · have huse := useOffset_steers (s := u) (by rw [htb]; exact he) hsmall (by rw [htb]; exact hfault)
      exact ⟨_, hexec.trans (congrArg _ huse), hnow, rfl, rfl, rfl, rfl, rfl, hregs.trans (SameRegs.of_regs rfl _),
        hpool.trans ⟨rfl, rfl, rfl, rfl, rfl, rfl, rfl⟩⟩
    · have huse := useOffset_reports (s := u) (by rw [htb]; exact he) hbig
      refine ⟨_, hexec.trans (congrArg _ huse), ?_⟩
      have hkept : now (keepOffset u o) = now s ∧ (keepOffset u o).tb.inc = s.tb.inc ∧ (keepOffset u o).tb.locked = false
          ∧ (keepOffset u o).tb.timeFault = true ∧ (keepOffset u o).tb.pendingOffset = o ∧ (keepOffset u o).xlt = s.xlt :=
        ⟨hnow, hinc, rfl, rfl, rfl, hpool.xlt⟩
      split
      · exact hkept
      · beta_reduce
        rw [now_eventW, eventW_tb, eventW_xlt]
        exact hkept
    · have huse := useOffset_locks (s := u) (o := o) (by rw [htb]; exact hn) (by rw [htb]; exact hgood)
      refine ⟨_, hexec.trans (congrArg _ huse), ?_⟩
      beta_reduce
      rw [now_eventW, eventW_tb, eventW_xlt]
      refine ⟨?_, rfl, rfl, hinc, hpool.xlt⟩
      rw [hnow]
      show ((((now s : Int) + o).toNat % 2 ^ 64 : Nat) : Int) = now s + o
      omega
    · have huse := useOffset_counts (s := u) (o := o) (by rw [htb]; exact hn) (by rw [htb]; exact hgood)
      exact ⟨_, hexec.trans (congrArg _ huse), hnow, by rw [← hn, ← htb]; rfl, by rw [← htb]; rfl, by rw [← htb]; rfl, hregs, hpool⟩
  case refine_4 =>
    refine ⟨_, execTimeExchangeTimer_one hk hg ht, ⟨port s k, rfl, rfl, rfl⟩, rfl, fun j hj => ?_, SameRegs.of_regs rfl _,
      ⟨rfl, rfl, rfl, rfl, rfl, rfl, rfl⟩⟩
    exact (port_setPort { s with tb := { s.tb with missed := s.tb.missed + 1 } } k _ j).trans (if_neg hj)
  case refine_5 =>
    have hold8 : old < 8 := by
      rw [hold]
      exact Nat.mod_lt _ (by decide)
    obtain ⟨hmaster, hrest, hmem, hxlt⟩ := takeMaster_spec (rputF s (Reg.FPT_GRP_MEM old) 30 30 0) (nextMaster_lt hm)
    refine ⟨_, execMasterLost_takes hold hf hmiss hm, hmaster, ?_, ?_, ?_, ?_, hxlt⟩
    · rw [hrest, rf_rputF_ne _ _ _ _ _ _ (grpCtl_ne_grpMem old)]
    · rw [hmem old hold8, rf_rputF_self _ _ (by decide)]
      rfl
    · rw [takeMaster_tb]
    · exact now_takeMaster _ _
  case refine_6 =>
    exact ⟨_, execMasterLost_none hold hf hmiss hm, rf_rputF_self s _ (by decide) 0, sameRegs_rput s _ (List.mem_singleton_self _), rfl,
      samePool_rput s _ _⟩
  case refine_7 =>
    have hlt : named < 8 := by
      rw [hnamed]
      exact Nat.mod_lt _ (by decide)
    have hexec : exec .masterReturn s = .next (takeMaster (reach s (x + 1000000000)) named) := by
      have hcond : (inGroup s && named != rf s Reg.FPT_GRP_CTL 24 22) = true := by simp [hg, hne]
      simp only [exec, execMasterReturn, hsince, ← hnamed, hcond, if_true]
    obtain ⟨hmaster, hrest, -, hxlt⟩ := takeMaster_spec (reach s (x + 1000000000)) hlt
    refine ⟨_, hexec, hmaster, hrest.trans (rf_congr (reach_regs s _) _ _ _), ?_, hxlt.trans (reach_xlt s _)⟩
    rw [now_takeMaster]
    exact le_now_reach s _
  case refine_8 =>
    have hlost : (sourceLost s && !s.tb.holdover) = true := by simp [sourceLost, hmiss, hhold]
    refine ⟨_, if_pos hlost, ?_⟩
    beta_reduce
    rw [eventW_tb, eventW_xlt, eventW_sched]
    exact ⟨rfl, rfl, rfl⟩
  case refine_9 =>
    have hany : l.any (fun w => bit w.toNat 31 && isOwn s (bits w.toNat 16 0)) = true := by
      obtain ⟨w, hmem, hbit, hw⟩ := hown
      exact List.any_eq_true.2 ⟨w, hmem, by rw [hbit, hw]; rfl⟩
    have hexec := execGroupSet_eq h hg hm hr hl hw
    rw [hany, if_pos rfl] at hexec
    obtain ⟨hmem, hctl, hregs, hpool⟩ := setGroup_spec (dequeue s slot tag) hg hm hr hl hw
    have hfield : ∀ hi lo, rf (reply (setGroup (dequeue s slot tag) g m r l) slot 0x0501 tag stOK []) Reg.FPT_GRP_CTL hi lo
        = bits (g.toNat + 2 ^ 16 * m.toNat + 2 ^ 19 * r.toNat + 2 ^ 22 * r.toNat + 2 ^ 31) hi lo :=
      fun hi lo => congrArg (bits · hi lo) ((rg_reply_ok _ _ _ _ _ _).trans hctl)
    obtain ⟨hgroup, hmember, hnamed, hmaster, hin⟩ := groupWord_fields hg hm hr
    exact ⟨_, hexec, fun i hi => (rg_reply_ok _ _ _ _ _ _).trans (hmem i hi), (hfield _ _).trans hgroup,
      (hfield _ _).trans hmember, (hfield _ _).trans hnamed, (hfield _ _).trans hmaster,
      beq_iff_eq.2 ((hfield _ _).trans hin), ⟨_, rfl⟩, reply_frame (by decide) (by decide) _ hregs hpool⟩
  case refine_10 =>
    have hany : l.any (fun w => bit w.toNat 31 && isOwn s (bits w.toNat 16 0)) = false := by
      refine List.any_eq_false.2 fun w hmem => ?_
      cases hbit : bit w.toNat 31 with
      | false => simp
      | true => simp [hown w hmem hbit]
    have hexec := execGroupSet_eq h hg hm hr hl hw
    rw [hany, if_neg Bool.false_ne_true] at hexec
    obtain ⟨hregs, hpool⟩ := reply_frame (s := s) (op := 0x0501) (tag := tag) (slot := slot) (st := stINVALID) (by decide) (by decide) []
      (SameRegs.of_regs rfl []) (samePool_refl _)
    exact ⟨_, hexec, ⟨_, rfl⟩, hregs, (reply_tb _ _ _ _ _ _).trans (dequeue_tb _ _ _), hpool⟩
  case refine_11 =>
    exact ⟨_, execGroupQuery_eq h, ⟨_, rfl⟩, (reply_tb _ _ _ _ _ _).trans (dequeue_tb _ _ _),
      reply_frame (by decide) (by decide) _ (SameRegs.of_regs rfl []) (samePool_refl _)⟩
  case refine_12 =>
    have hctl : rg (setSource (dequeue s slot tag) a.toNat p.toNat) Reg.PWR_TB_CTL = a.toNat + 4 * p.toNat :=
      (rg_rput_self (dequeue s slot tag) _ _).trans (Nat.mod_eq_of_lt (by omega))
    have hfield : ∀ hi lo, rf (reply (setSource (dequeue s slot tag) a.toNat p.toNat) slot 0x0503 tag stOK []) Reg.PWR_TB_CTL hi lo
        = bits (a.toNat + 4 * p.toNat) hi lo := fun hi lo => congrArg (bits · hi lo) ((rg_reply_ok _ _ _ _ _ _).trans hctl)
    obtain ⟨hregs, hpool⟩ := reply_frame (s := s) (t := setSource (dequeue s slot tag) a.toNat p.toNat) (op := 0x0503) (tag := tag)
      (slot := slot) (st := stOK) (by decide) (by decide) [] ((sameRegs_rput _ _ (List.mem_singleton_self _)).trans (SameRegs.of_regs rfl _))
      ⟨rfl, rfl, rfl, rfl, rfl, rfl, rfl⟩
    refine ⟨_, execTimeSet_eq h ha hp, ?_, ?_, hregs, ?_, ⟨_, rfl⟩, hpool⟩
    · rw [hfield, bits]; omega
    · rw [hfield, bits]; omega
    · have htb : (reply (setSource (dequeue s slot tag) a.toNat p.toNat) slot 0x0503 tag stOK []).tb.ns = (dequeue s slot tag).tb.ns := by
        rw [reply_tb]
        rfl
      exact htb.trans (congrArg TimeBase.ns (dequeue_tb s slot tag))
  case refine_13 =>
    have hsum : ((now s + s.tb.pendingOffset.toNat : Nat) : Int) = now s + s.tb.pendingOffset := by omega
    generalize ht : reply (stepTime (dequeue s slot tag)) slot 0x0504 tag stOK (leBytes 8 (now s + s.tb.pendingOffset.toNat)) = t
    have htb : t.tb = { s.tb with ns := now s + s.tb.pendingOffset.toNat, timeFault := false, pendingOffset := 0 } := by
      rw [← ht, reply_tb, stepTime_tb, dequeue_tb]
      rfl
    have hnow : now t = now s + s.tb.pendingOffset.toNat := congrArg TimeBase.ns htb
    refine ⟨t, (execTimeStep_forward h ho).trans (congrArg _ ht), ?_, ?_, ?_, ?_, ⟨stepTime (dequeue s slot tag), ?_⟩, ?_⟩
    · rw [hnow, hsum]
    · rw [hnow]
      exact Nat.le_add_right _ _
    · rw [htb]
    · rw [htb]
    · rw [hnow, ht]
    · rw [← ht, reply_xlt, stepTime_xlt, dequeue_xlt]
  case refine_14 =>
    obtain ⟨hregs, hpool⟩ := reply_frame (s := s) (op := 0x0504) (tag := tag) (slot := slot) (st := stCONFLICT) (by decide) (by decide) []
      (SameRegs.of_regs rfl []) (samePool_refl _)
    exact ⟨_, execTimeStep_back h ho, (reply_tb _ _ _ _ _ _).trans (dequeue_tb _ _ _), ⟨_, rfl⟩, hregs, hpool⟩

end Sys2Proof.Machine
end

section
/-! PROOFS. The running of a command, once for every outcome of its effect; extent records under updates one by one; what a
final reply and the marking of dirty pages leave alone. -/

namespace Sys2Proof.Machine
open Sys2Proof

/-! ### The running of a command -/

/-- The effect of a command sees a state that differs from the present one in its mailbox only. -/
theorem dequeue_eq_mbx (s : State) (slot : Nat) (tag : Word32) :
    ∃ m, dequeue s slot tag = { s with mbx := m } ∧ m.deferred = s.mbx.deferred := by
  unfold dequeue setSession
  cases session s slot <;> exact ⟨_, rfl, rfl⟩

section
variable {c : Instr} {s : State} {slot op : Nat} {tag : Word32} {ws : List Word64} {bad : Bool} {k : State → State × Rep}
  {P : State → Prop}

/-- A command of the twins' groups whose effect answers at once. -/
theorem completes_done (hc : exec c s = .next (runTwin slot op tag ws bad s k)) (hbad : bad = false)
    (h : MayRun s slot op tag) (ha : Alone s)
    (hk : ∀ m, ∃ u st b, k { s with mbx := m } = (u, .done st b) ∧ P (reply u slot op tag st b)) : Completes c s P := by
  obtain ⟨m, hm, -⟩ := dequeue_eq_mbx s slot tag
  obtain ⟨u, st, b, hu, hP⟩ := hk m
  refine ⟨_, ?_, hP⟩
  rw [hc, hbad, runTwin_eq h ha, runCmd_eq h, hm, hu]

/-- A command of the twins' groups whose effect is deferred. -/
theorem completes_defer (hc : exec c s = .next (runTwin slot op tag ws bad s k)) (hbad : bad = false)
    (h : MayRun s slot op tag) (ha : Alone s) (hr : DeferRoom s)
    (hk : ∀ m, m.deferred = s.mbx.deferred → ∃ u b w, k { s with mbx := m } = (u, .defer b w)
      ∧ ∀ m', m'.deferred = u.mbx.deferred ++ [{ slot := slot, opcode := op, tag := tag, wait := w }] →
        P (reply { u with mbx := m' } slot op tag stDEFERRED b)) : Completes c s P := by
  obtain ⟨m, hm, hd⟩ := dequeue_eq_mbx s slot tag
  obtain ⟨u, b, w, hu, hP⟩ := hk m hd
  refine ⟨_, ?_, hP { u.mbx with deferred := u.mbx.deferred ++ [{ slot := slot, opcode := op, tag := tag, wait := w }] } rfl⟩
  rw [hc, hbad, runTwin_eq h ha, runCmd_eq h, hm, hu]
  exact congrArg _ (if_neg (Nat.not_le.2 hr))

/-- A command of the twins' groups whose effect waits for a fence (R99). -/
theorem completes_wait (hc : exec c s = .next (runTwin slot op tag ws bad s k)) (hbad : bad = false)
    (h : MayRun s slot op tag) (ha : Alone s)
    (hk : ∀ m, ∃ u, k { s with mbx := m } = (u, .wait) ∧ P u) : Completes c s P := by
  obtain ⟨m, hm, -⟩ := dequeue_eq_mbx s slot tag
  obtain ⟨u, hu, hP⟩ := hk m
  refine ⟨_, ?_, hP⟩
  rw [hc, hbad, runTwin_eq h ha, runCmd_eq h, hm, hu]

/-- A command of the twins' groups with a parameter out of range (R432). -/
theorem completes_bad (hc : exec c s = .next (runTwin slot op tag ws bad s k)) (hbad : bad = true)
    (h : MayRun s slot op tag) (hk : ∀ m, P (reply { s with mbx := m } slot op tag stINVALID [])) : Completes c s P := by
  obtain ⟨m, hm, -⟩ := dequeue_eq_mbx s slot tag
  refine ⟨_, ?_, hk m⟩
  rw [hc, hbad, ← hm]
  unfold runTwin runOn
  simp [lapseIfDue_none h.lease, h.fresh]

/-- A command that concerns this module alone, and answers at once. -/
theorem completes_query (hc : exec c s = .next (runCmd slot op tag bad s k)) (hbad : bad = false)
    (h : MayRun s slot op tag)
    (hk : ∀ m, ∃ u st b, k { s with mbx := m } = (u, .done st b) ∧ P (reply u slot op tag st b)) : Completes c s P := by
  obtain ⟨m, hm, -⟩ := dequeue_eq_mbx s slot tag
  obtain ⟨u, st, b, hu, hP⟩ := hk m
  refine ⟨_, ?_, hP⟩
  rw [hc, hbad, runCmd_eq h, hm, hu]

end

/-! ### What a reply leaves -/

section
variable {s u : State} {slot op : Nat} {tag : Word32} {st : Nat} {b : List Byte}

theorem SameRegs.reply {l : List Nat} (h : SameRegs s u l) (h0 : st ≠ stBUSY := by decide) (h1 : st ≠ stNOT_OWNER := by decide) :
    SameRegs s (reply u slot op tag st b) l :=
  h.trans (SameRegs.of_regs (reply_regs u slot op tag st b h0 h1) l)

theorem rg_reply_answered (a : Nat) (h0 : st ≠ stBUSY := by decide) (h1 : st ≠ stNOT_OWNER := by decide) :
    rg (reply u slot op tag st b) a = rg u a :=
  rg_congr (reply_regs u slot op tag st b h0 h1) a

theorem SamePool.reply (h : SamePool s u) : SamePool s (reply u slot op tag st b) := h.trans (samePool_reply u slot op tag st b)

theorem SameRest.reply (h : SameRest s u) : SameRest s (reply u slot op tag st b) := by
  obtain ⟨htb, hmic, hbtr, hfab, hpwr, hboot, hbrd⟩ := h
  exact ⟨(reply_tb ..).trans htb, (reply_mic ..).trans hmic, (reply_btr ..).trans hbtr, (reply_fab ..).trans hfab,
    (reply_pwr ..).trans hpwr, (reply_boot ..).trans hboot, (reply_brd ..).trans hbrd⟩

theorem samePool_mbx (s : State) (m : Mailbox) : SamePool s { s with mbx := m } := ⟨rfl, rfl, rfl, rfl, rfl, rfl, rfl⟩

theorem sameRest_mbx (s : State) (m : Mailbox) : SameRest s { s with mbx := m } := ⟨rfl, rfl, rfl, rfl, rfl, rfl, rfl⟩

theorem sameRegs_mbx (s : State) (m : Mailbox) (l : List Nat) : SameRegs s { s with mbx := m } l := SameRegs.of_regs rfl l

end

/-! ### Extent records -/

theorem extRec_congr {s t : State} (h : t.xlt.ext = s.xlt.ext) (e : Nat) : extRec t e = extRec s e := by
  unfold extRec
  rw [h]

theorem extRec_setExt (s : State) (e : Nat) (r : ExtRec) (x : Nat) : extRec (setExt s e r) x = if x = e then r else extRec s x :=
  tgetD_tset s.xlt.ext e r (ExtRec.init x) x

@[simp] theorem extRec_reply (s : State) (slot op : Nat) (tag : Word32) (st : Nat) (b : List Byte) (e : Nat) :
    extRec (reply s slot op tag st b) e = extRec s e :=
  extRec_congr (congrArg Xlt.ext (reply_xlt s slot op tag st b)) e

theorem SameExts.reply {s u : State} {l : List Nat} {slot op : Nat} {tag : Word32} {st : Nat} {b : List Byte} (h : SameExts s u l) :
    SameExts s (reply u slot op tag st b) l :=
  fun e he => (extRec_reply u slot op tag st b e).trans (h e he)

/-- After a reset record an extent is RESERVED or FREE (R45, R48). -/
theorem init_st_le_one (e : Nat) : (ExtRec.init e).st ≤ 1 := by
  unfold ExtRec.init
  split <;> decide

/-! ### One thing rewritten at a time -/

section
variable {α : Type} {read : State → Nat → α} {step : State → Nat → State} {g : Nat → α → α}
  (hstep : ∀ s e x, read (step s e) x = if x = e then g e (read s e) else read s x)
include hstep

/-- Steps that each rewrite one thing leave the others alone. -/
theorem foldl_read_of_not_mem {l : List Nat} (s : State) {x : Nat} (hx : x ∉ l) : read (l.foldl step s) x = read s x := by
  induction l generalizing s with
  | nil => rfl
  | cons e l ih =>
    rw [List.mem_cons, not_or] at hx
    obtain ⟨hne, hmem⟩ := hx
    rw [List.foldl_cons, ih _ hmem, hstep, if_neg hne]

theorem foldl_read_of_nodup {l : List Nat} (hl : l.Nodup) (s : State) {x : Nat} (hx : x ∈ l) :
    read (l.foldl step s) x = g x (read s x) := by
  induction l generalizing s with
  | nil => exact absurd hx List.not_mem_nil
  | cons e l ih =>
    obtain ⟨hne, hnd⟩ := List.nodup_cons.1 hl
    rw [List.foldl_cons]
    rcases List.mem_cons.1 hx with rfl | hmem
    · rw [foldl_read_of_not_mem hstep _ hne, hstep, if_pos rfl]
    · have hxe : x ≠ e := fun h => hne (h ▸ hmem)
      rw [ih hnd _ hmem, hstep, if_neg hxe]

/-- A rewriting that comes to the same when it is done again may meet a thing more than once. -/
theorem foldl_read_of_idem (hg : ∀ e r, g e (g e r) = g e r) {l : List Nat} (s : State) {x : Nat} (hx : x ∈ l) :
    read (l.foldl step s) x = g x (read s x) := by
  induction l generalizing s with
  | nil => exact absurd hx List.not_mem_nil
  | cons e l ih =>
    rw [List.foldl_cons]
    by_cases hmem : x ∈ l
    · rw [ih _ hmem, hstep]
      split
      next h => rw [h, hg]
      next => rfl
    · obtain rfl : x = e := (List.mem_cons.1 hx).resolve_right hmem
      rw [foldl_read_of_not_mem hstep _ hmem, hstep, if_pos rfl]

end

end Sys2Proof.Machine
end

section
/-! PROOFS. Allocation of extents and the end of a zero fill (O22). -/

namespace Sys2Proof.Machine
open Sys2Proof

/-! ### The reserved extents -/

/-- What is written within a reserved extent leaves the other extents alone (R45). -/
theorem memByte_memWrite_reserved (m : Tab Byte) {n j off x : Nat} {l : List Byte} (hj : j < 8) (ho : off + l.length ≤ 2 ^ 30)
    (hx : reservedExt (extOf x) = false) : memByte (memWrite m (resPpa n j off) l) x = memByte m x := by
  refine memByte_memWrite_out _ _ _ ?_
  have hx' : ¬ x / 2 ^ 30 % 480 < 8 := of_decide_eq_false hx
  unfold resPpa ppaOf
  omega

/-- Marking pages dirty writes the map in reserved extent 4 and the unit's own list (R45, R391). -/
theorem noteDirty_spec (s : State) (a n : Nat) :
    ∃ mem tw, noteDirty s a n = { s with mem := mem, twin := tw }
      ∧ ∀ x, reservedExt (extOf x) = false → memByte mem x = memByte s.mem x := by
  unfold noteDirty
  split
  · exact ⟨_, _, rfl, fun _ _ => rfl⟩
  · refine List.foldlRecOn (motive := fun t : State => ∃ mem tw, t = { s with mem := mem, twin := tw }
      ∧ ∀ x, reservedExt (extOf x) = false → memByte mem x = memByte s.mem x) _ _ ⟨_, _, rfl, fun _ _ => rfl⟩ ?_
    rintro _ ⟨mem, tw, rfl, hmem⟩ p -
    dsimp only
    split
    · exact ⟨_, _, rfl, hmem⟩
    · refine ⟨_, _, rfl, fun x hx => (memByte_memWrite_reserved _ (by decide) ?_ hx).trans (hmem x hx)⟩
      rw [length_leBytes]
      unfold pageIdx
      omega

/-- An event that fits its log slot is written within reserved extent 5 (R45, R411). -/
theorem memByte_event (s : State) (code sev : Nat) {body : List Byte} (hb : body.length ≤ 2016) {x : Nat}
    (hx : reservedExt (extOf x) = false) : memByte (event s code sev body).mem x = memByte s.mem x := by
  unfold event eventTo
  refine (foldl_keeps (fun t : State => memByte t.mem x) _ (fun t e => ?_) _ _).trans ?_
  · have hcopy : ∀ (d : Nat → List Byte) (u : State) (slot net : Nat) (as : List AssocRec),
        memByte (eventCopy d u slot net as).mem x = memByte u.mem x := fun d u slot net as => by rw [eventCopy_mem]
    dsimp only
    split
    · rfl
    · rw [hcopy, hcopy]
  · refine memByte_memWrite_reserved _ (by decide) ?_ hx
    simp only [padTo, eventBytes, List.length_append, length_leBytes, List.length_replicate]
    omega

/-! ### Final replies -/

section
variable (s : State)

@[simp] theorem finalReply_xlt (d : Deferred) (st : Nat) (b : List Byte) : (finalReply s d st b).xlt = s.xlt := by
  unfold finalReply
  dsimp only
  repeat' split
  all_goals simp

theorem memByte_finalReply (d : Deferred) (st : Nat) (b : List Byte) {x : Nat} (hx : reservedExt (extOf x) = false) :
    memByte (finalReply s d st b).mem x = memByte s.mem x := by
  unfold finalReply
  dsimp only
  repeat' split
  · rfl
  · rw [reply_mem]
  · refine memByte_event _ _ _ ?_ hx
    simp only [List.length_append, length_leBytes, List.length_take]
    omega

@[simp] theorem finishAll_xlt (p : Wait → Bool) (st : Nat) (b : List Byte) : (finishAll s p st b).xlt = s.xlt :=
  foldl_keeps (fun t : State => t.xlt) _ (fun t d => finalReply_xlt t d st b) _ _

theorem memByte_finishAll (p : Wait → Bool) (st : Nat) (b : List Byte) {x : Nat} (hx : reservedExt (extOf x) = false) :
    memByte (finishAll s p st b).mem x = memByte s.mem x :=
  foldl_keeps (fun t : State => memByte t.mem x) _ (fun t d => memByte_finalReply t d st b hx) _ _

end

/-! ### Allocation (R51, R490, R495, R499, R563) -/

/-- The record that an allocation gives its extents. -/
def allocRec (holder attr : Nat) : ExtRec :=
  { st := exZEROING, holder := holder, prio := atPrio attr, coherent := atCoh attr, mirrored := atMir attr, mapcount := 0 }

/-- The extents whose number the floor counts. -/
def allocNeed (s : State) (attr count diemask : Nat) (l : List Nat) : Nat :=
  if l = [] then count else (allocPick s attr count diemask l).length

section
variable {s : State} {h a n d : Nat} {l : List Nat} (ht : tenantExists s h = true) (hp : atPrio a ≤ tenantClass s h)
  (hiso : isolated s h = true → atCoh a = false ∧ (l = [] → ∀ k, k < 6 → bit d k = true → offGates s (480 * k) = false)
    ∧ (l ≠ [] → ∀ e, e ∈ allocPick s a n d l → offGates s e = false))
  (hfree : l ≠ [] → ∀ e, e ∈ allocPick s a n d l → migrating s e = false ∧ freeExt s e = true)
include ht hp hiso hfree

/-- What nothing else bars, the floor decides. -/
theorem doAlloc_of_allowed :
    doAlloc h a n d l s
      = if eligible0 s a d l < allocNeed s a n d l + rg s (Reg.XLT_FLOOR (atPrio a)) then
          (bump s (Reg.XLT_TN_REFCAP h) 1,
            .done stREFUSED (leBytes 8 (eligible0 s a d l) ++ leBytes 8 (rg s (Reg.XLT_FLOOR (atPrio a)))))
        else ((allocPick s a n d l).foldl (fun s e => startFill s e (allocRec h a)) s,
          .defer (leBytes 8 (allocPick s a n d l).length ++ (allocPick s a n d l).flatMap (leBytes 8)) (.alloc (allocPick s a n d l))) := by
  have hholder : (!tenantExists s h || decide (tenantClass s h < atPrio a)) = false := by simpa [ht] using hp
  have hgates : (isolated s h && (atCoh a || (if l.isEmpty then (maskList 6 d).any (fun k => offGates s (480 * k))
      else (allocPick s a n d l).any (offGates s)))) = false := by
    cases hi : isolated s h with
    | false => rfl
    | true =>
      obtain ⟨hcoh, hmask, hlist⟩ := hiso hi
      rw [hcoh, Bool.true_and, Bool.false_or]
      by_cases hl : l = []
      · simpa [hl, maskList] using hmask hl
      · simpa [hl] using hlist hl
  have hmig : (!l.isEmpty && (allocPick s a n d l).any (migrating s)) = false := by
    by_cases hl : l = []
    · simp [hl]
    · simpa [hl] using fun e he => (hfree hl e he).1
  have hall : (!l.isEmpty && !(allocPick s a n d l).all (freeExt s)) = false := by
    by_cases hl : l = []
    · simp [hl]
    · simpa [hl] using fun e he => (hfree hl e he).2
  simp only [doAlloc, hholder, hgates, hmig, hall, Bool.false_eq_true, if_false]
  simp only [List.isEmpty_iff, allocNeed]
  rfl

theorem doAlloc_takes (hfloor : allocNeed s a n d l + rg s (Reg.XLT_FLOOR (atPrio a)) ≤ eligible0 s a d l) :
    doAlloc h a n d l s = ((allocPick s a n d l).foldl (fun s e => startFill s e (allocRec h a)) s,
      .defer (leBytes 8 (allocPick s a n d l).length ++ (allocPick s a n d l).flatMap (leBytes 8)) (.alloc (allocPick s a n d l))) :=
  (doAlloc_of_allowed ht hp hiso hfree).trans (if_neg (Nat.not_lt.2 hfloor))

theorem doAlloc_refuses (hfloor : eligible0 s a d l < allocNeed s a n d l + rg s (Reg.XLT_FLOOR (atPrio a))) :
    doAlloc h a n d l s = (bump s (Reg.XLT_TN_REFCAP h) 1,
      .done stREFUSED (leBytes 8 (eligible0 s a d l) ++ leBytes 8 (rg s (Reg.XLT_FLOOR (atPrio a))))) :=
  (doAlloc_of_allowed ht hp hiso hfree).trans (if_pos hfloor)

end

theorem extRec_startFill (s : State) (e : Nat) (r : ExtRec) (x : Nat) :
    extRec (startFill s e r) x = if x = e then { r with st := exZEROING, mapcount := 0 } else extRec s x :=
  extRec_setExt s e _ x

/-- Starting fills changes the translation unit only. -/
theorem foldl_startFill_frame (s : State) (l : List Nat) (r : ExtRec) :
    (l.foldl (fun s e => startFill s e r) s).regs = s.regs ∧ (l.foldl (fun s e => startFill s e r) s).mem = s.mem
      ∧ (l.foldl (fun s e => startFill s e r) s).dram = s.dram ∧ (l.foldl (fun s e => startFill s e r) s).sched = s.sched :=
  ⟨foldl_keeps State.regs (fun s e => startFill s e r) (fun _ _ => rfl) l s,
    foldl_keeps State.mem (fun s e => startFill s e r) (fun _ _ => rfl) l s,
    foldl_keeps State.dram (fun s e => startFill s e r) (fun _ _ => rfl) l s,
      foldl_keeps State.sched (fun s e => startFill s e r) (fun _ _ => rfl) l s⟩

/-! ### The end of a zero fill (R51 to R53) -/

/-- The byte outside a zeroed range is as before. -/
theorem memByte_memZero_out (m : Tab Byte) (a n : Nat) {x : Nat} (h : x < a ∨ a + n ≤ x) :
    memByte (memZero m a n) x = memByte m x := by
  have hget : tget (memZero m a n) x = tget m x := by
    unfold memZero
    induction m with
    | nil => rfl
    | cons e t ih =>
      obtain ⟨k, v⟩ := e
      rw [List.filter_cons]
      split
      · simp only [tget, ih]
      · next hk =>
        have hne : x ≠ k := by
          rintro rfl
          simp at hk
          omega
        rw [ih, tget, if_neg hne]
  unfold memByte tgetD
  rw [hget]

/-- A zeroed extent reads as zeros, and every other as before. -/
theorem memByte_zeroExtent (s : State) (e x : Nat) :
    memByte (zeroExtent s e).mem x = if extOf x = e then 0#8 else memByte s.mem x := by
  unfold extOf
  split
  next h => exact memByte_memZero _ _ _ _ (by omega)
  next h => exact memByte_memZero_out _ _ _ (by omega)

/-- An extent whose fill is at the head of its die's queue, as the end of the fill leaves it. -/
theorem execZeroFillDone_head {s : State} {e : Nat} {rest : List Nat} (hs : inSafe s = false)
    (hf : tgetD s.xlt.filling (e / 480) [] = e :: rest) :
    ∃ mem tw, (∀ x, reservedExt (extOf x) = false → memByte mem x = memByte (zeroExtent s e).mem x)
      ∧ exec (.zeroFillDone e) s = .next (finishAllocs (setExt
          { s with xlt := { s.xlt with filling := tset s.xlt.filling (e / 480) rest }, mem := mem, twin := tw
                   dram := (zeroExtent s e).dram } e { extRec s e with st := exREADY })) := by
  obtain ⟨mem, tw, hd, hmem⟩ := noteDirty_spec
    (zeroExtent { s with xlt := { s.xlt with filling := tset s.xlt.filling (e / 480) rest } } e) (ppaOf e 0) (2 ^ 30)
  refine ⟨mem, tw, hmem, ?_⟩
  simp only [exec, execZeroFillDone, hf, ne_eq, not_true_eq_false, hs, Bool.false_eq_true, or_self, if_false, hd]
  rfl

/-- Settles O22: the effect of EXTENT_ALLOC is decided by the floor once nothing else bars it; the end of a fill writes
outside its extent in the reserved extents only. -/
theorem extentsAreAllocatedAndZeroed : Obligations.ExtentsAreAllocatedAndZeroed := by
  unfold Obligations.ExtentsAreAllocatedAndZeroed
  refine ⟨fun s slot tag h a n d l hrun ha hroom hbad ht hp hiso hfree => ?_, fun s e rest hres hs hf => ?_⟩
  · have hnil : l.map (·.toNat) = [] ↔ l = [] := List.map_eq_nil_iff
    simp only [ne_eq, ← hnil] at hiso hfree ⊢
    refine ⟨fun hroomy => ?_, fun hshort => ?_⟩
    · refine completes_defer rfl hbad hrun ha hroom fun m _ => ⟨_, _, _,
      doAlloc_takes (s := { s with mbx := m }) ht hp hiso hfree hroomy, fun m' _ => ?_⟩
      obtain ⟨hregs, hmem⟩ := foldl_startFill_frame { s with mbx := m } (allocPick s a.toNat n.toNat d.toNat (l.map (·.toNat)))
        (allocRec h.toNat a.toNat)
      have hstep := fun s e => extRec_startFill s e (allocRec h.toNat a.toNat)
      refine ⟨fun e he => (extRec_reply ..).trans
          (foldl_read_of_idem (g := fun _ _ => allocRec h.toNat a.toNat) hstep (fun _ _ => rfl) { s with mbx := m } he),
        SameExts.reply fun _ he => foldl_read_of_not_mem (g := fun _ _ => allocRec h.toNat a.toNat) hstep { s with mbx := m } he, ⟨_, rfl⟩, ?_⟩
      rw [reply_mem, reply_dram, reply_sched]
      exact ⟨SameRegs.reply (SameRegs.of_regs hregs []), hmem⟩
    · refine completes_done rfl hbad hrun ha fun m => ⟨_, _, _, doAlloc_refuses (s := { s with mbx := m }) ht hp hiso hfree hshort,
      ⟨_, rfl⟩, ?_, ?_, ?_⟩
      · exact (rg_reply_answered _).trans (rg_bump_self _ _ _)
      · exact SameRegs.reply ((sameRegs_mbx s m _).trans (sameRegs_bump _ _ (List.mem_singleton_self _)))
      · exact SamePool.reply ((samePool_mbx s m).trans (samePool_rput _ _ _))
  · obtain ⟨mem, tw, hmem, hexec⟩ := execZeroFillDone_head hs hf
    generalize hu : setExt _ _ _ = u at hexec
    have hxlt : (finishAllocs u).xlt = u.xlt := finishAll_xlt u _ _ _
    have hrec : ∀ x, extRec (finishAllocs u) x = if x = e then { extRec s e with st := exREADY } else extRec s x := fun x => by
      rw [extRec_congr (congrArg Xlt.ext hxlt), ← hu, extRec_setExt]
      rfl
    have hbyte : ∀ x, reservedExt (extOf x) = false →
        memByte (finishAllocs u).mem x = if extOf x = e then 0#8 else memByte s.mem x := fun x hx => by
      rw [finishAllocs, memByte_finishAll _ _ _ _ hx, ← hu, ← memByte_zeroExtent, ← hmem x hx]
      rfl
    refine ⟨_, hexec, ?_, ?_, fun x hx => ?_, ?_, fun x hx => ?_, fun x hx hr => ?_⟩
    · rw [hrec, if_pos rfl]
    · rw [hrec, if_pos rfl]
    · rw [hrec, if_neg (fun h => hx (List.mem_singleton.2 h))]
    · rw [hxlt, ← hu]
      exact tgetD_tset_self _ _ _ _
    · rw [hbyte x (hx ▸ hres), if_pos hx]
    · rw [hbyte x hr, if_neg hx]

end Sys2Proof.Machine
end

section
/-! PROOFS. Release, attributes and query of extents (O23). -/

namespace Sys2Proof.Machine
open Sys2Proof

theorem all_atMost_of_lt {l : List Word64} {n : Nat} (h : ∀ w, w ∈ l → w.toNat < n + 1) : (!l.all fun w => atMost w n) = false := by
  simpa [atMost] using fun w hw => Nat.le_of_lt_succ (h w hw)

/-! ### Release (R53, R446) -/

/-- A release makes the extent FREE at once, or finds that it already did. -/
def Releasable (s : State) (e : Nat) : Prop :=
  (extRec s e).st = exREADY ∧ fenced s e = false ∨ extRec s e = ExtRec.init e

theorem init_not_busy (e : Nat) : (ExtRec.init e).st ≠ exREADY ∧ (ExtRec.init e).st ≠ exZEROING ∧ (ExtRec.init e).st ≠ exDRAINING := by
  have h := init_st_le_one e
  unfold exREADY exZEROING exDRAINING
  omega

section
variable {s : State}

theorem releaseOne_of_releasable {e : Nat} (h : Releasable s e) :
    releaseOne s e = if (extRec s e).st = exREADY then freeExtent s e else s := by
  rcases h with ⟨hst, hf⟩ | hinit
  · have hz : exREADY ≠ exZEROING := by decide
    simp [releaseOne, hst, hf, hz]
  · obtain ⟨hr, hz, -⟩ := init_not_busy e
    simp [releaseOne, hinit, hr, hz]

theorem extRec_releaseOne {e : Nat} (h : Releasable s e) (x : Nat) :
    extRec (releaseOne s e) x = if x = e then ExtRec.init e else extRec s x := by
  rw [releaseOne_of_releasable h]
  split
  · exact extRec_setExt s e _ x
  next hst =>
    obtain hinit : extRec s e = ExtRec.init e := h.resolve_left fun h => hst h.1
    split
    next hx => rw [hx, hinit]
    next => rfl

/-- A release of one extent leaves fences, registers and memory alone, and another extent releasable. -/
theorem releaseOne_frame {e : Nat} (h : Releasable s e) :
    (releaseOne s e).xlt.fences = s.xlt.fences ∧ (releaseOne s e).regs = s.regs ∧ (releaseOne s e).mem = s.mem := by
  rw [releaseOne_of_releasable h]
  split <;> exact ⟨rfl, rfl, rfl⟩

theorem Releasable.releaseOne {e x : Nat} (he : Releasable s e) (hx : Releasable s x) : Releasable (releaseOne s e) x := by
  have hf : fenced (Machine.releaseOne s e) x = fenced s x := by
    unfold fenced
    rw [(releaseOne_frame he).1]
  unfold Releasable
  rw [extRec_releaseOne he, hf]
  split
  next h => exact .inr (h ▸ rfl)
  next => exact hx

theorem foldl_releaseOne_spec {l : List Nat} (h : ∀ e, e ∈ l → Releasable s e) :
    (∀ x, extRec (l.foldl releaseOne s) x = if x ∈ l then ExtRec.init x else extRec s x)
      ∧ (l.foldl releaseOne s).regs = s.regs ∧ (l.foldl releaseOne s).mem = s.mem := by
  induction l generalizing s with
  | nil => exact ⟨fun x => (if_neg List.not_mem_nil).symm, rfl, rfl⟩
  | cons e l ih =>
    have he := h e List.mem_cons_self
    obtain ⟨hrec, hregs, hmem⟩ := ih fun x hx => he.releaseOne (h x (List.mem_cons_of_mem e hx))
    obtain ⟨-, hregs', hmem'⟩ := releaseOne_frame he
    refine ⟨fun x => ?_, hregs.trans hregs', hmem.trans hmem'⟩
    rw [List.foldl_cons, hrec, extRec_releaseOne he]
    by_cases hx : x = e
    · simp [hx]
    · simp [hx]

theorem releaseBars_none {e : Nat} (hst : (extRec s e).st = exREADY) (hmap : (extRec s e).mapcount = 0) : releaseBars s e = none := by
  simp [releaseBars, hst, hmap, exREADY]

/-- Extents that nothing bars are released at once (R53). -/
theorem doRelease_frees {l : List Nat} (h : ∀ e, e ∈ l → (extRec s e).st = exREADY ∧ (extRec s e).mapcount = 0
      ∧ migrating s e = false ∧ fenced s e = false) :
    doRelease l s = (l.foldl releaseOne s, Rep.ok) := by
  have hbars : l.find? (fun e => (releaseBars s e).isSome) = none := by
    refine List.find?_eq_none.2 fun e he => ?_
    obtain ⟨hst, hmap, -⟩ := h e he
    simp [releaseBars_none hst hmap]
  have hmig : l.any (migrating s) = false := by simpa using fun e he => (h e he).2.2.1
  have hrel : ∀ e, e ∈ l → Releasable s e := fun e he => .inl ⟨(h e he).1, (h e he).2.2.2⟩
  have hleft : l.filter (fun e => (extRec (l.foldl releaseOne s) e).st == exDRAINING) = [] := by
    refine List.filter_eq_nil_iff.2 fun e he => ?_
    rw [(foldl_releaseOne_spec hrel).1, if_pos he, beq_iff_eq]
    exact (init_not_busy e).2.2
  simp only [doRelease, hbars, hmig, hleft, Bool.false_eq_true, if_false, List.isEmpty_nil, if_true]

/-- An extent that a fence covers drains first (R53). -/
theorem doRelease_drains {e : Nat} (hst : (extRec s e).st = exREADY) (hmap : (extRec s e).mapcount = 0) (hmig : migrating s e = false)
    (hf : fenced s e = true) :
    doRelease [e] s = (setExt s e { extRec s e with st := exDRAINING }, .defer [] (.release [e])) := by
  have hz : exREADY ≠ exZEROING := by decide
  have hone : releaseOne s e = setExt s e { extRec s e with st := exDRAINING } := by simp [releaseOne, hst, hf, hz]
  simp [doRelease, releaseBars_none hst hmap, hmig, hone, extRec_setExt]

/-- A barred extent bars the whole command, with INVALID or CONFLICT (R446). -/
theorem doRelease_barred {l : List Nat} {e : Nat} (h : l.find? (fun e => (releaseBars s e).isSome) = some e) :
    doRelease l s = (s, .done ((releaseBars s e).getD stINVALID) (leBytes 8 e)) := by
  simp [doRelease, h]

theorem releaseBars_status (s : State) (e : Nat) :
    (releaseBars s e).getD stINVALID = stINVALID ∨ (releaseBars s e).getD stINVALID = stCONFLICT := by
  unfold releaseBars
  dsimp only
  split
  · exact .inl rfl
  · split
    · exact .inr rfl
    · exact .inl rfl

/-! ### Attributes (R54, R445) -/

/-- What a mask selects twice comes from the new word both times. -/
theorem withAttr_idem (r : ExtRec) (a m : Nat) : withAttr (withAttr r a m) a m = withAttr r a m := by
  have hm : bits m 10 8 < 8 := Nat.mod_lt _ (by decide)
  have hdis : bits m 10 8 &&& (7 - bits m 10 8) = 0 := by
    generalize bits m 10 8 = k at hm
    revert k
    decide
  unfold withAttr
  congr 1
  · rw [Nat.and_or_distrib_right, Nat.and_assoc, Nat.and_assoc, hdis, Nat.and_self, Nat.and_zero, Nat.zero_or]
  · split <;> rfl
  · split <;> rfl

theorem doSetAttr_sets {l : List Nat} {a m : Nat} (h : ∀ e, e ∈ l → migrating s e = false ∧ attrBars s a m e = none) :
    doSetAttr l a m s = (l.foldl (fun s e => setExt s e (withAttr (extRec s e) a m)) s, Rep.ok) := by
  have hmig : l.any (migrating s) = false := by simpa using fun e he => (h e he).1
  have hbars : l.find? (fun e => (attrBars s a m e).isSome) = none :=
    List.find?_eq_none.2 fun e he => by simp [(h e he).2]
  simp only [doSetAttr, hmig, hbars, Bool.false_eq_true, if_false]

theorem foldl_setAttr_frame (s : State) (l : List Nat) (a m : Nat) :
    (l.foldl (fun s e => setExt s e (withAttr (extRec s e) a m)) s).regs = s.regs
      ∧ (l.foldl (fun s e => setExt s e (withAttr (extRec s e) a m)) s).mem = s.mem :=
  ⟨foldl_keeps State.regs (fun s e => setExt s e (withAttr (extRec s e) a m)) (fun _ _ => rfl) l s,
    foldl_keeps State.mem (fun s e => setExt s e (withAttr (extRec s e) a m)) (fun _ _ => rfl) l s⟩

end

/-- Settles O23: a release frees an extent, or finds it freed; a mask that selects twice selects the same. -/
theorem extentsAreReleasedAndSet : Obligations.ExtentsAreReleasedAndSet := by
  unfold Obligations.ExtentsAreReleasedAndSet
  refine ⟨fun s slot tag l hrun ha hroom hlt => ⟨fun h => ?_, fun w hl hst hmap hmig hf => ?_, fun e hfind => ?_⟩,
    fun s slot tag l a m hrun ha hlt hattr hmask h => ?_, fun s slot tag l hrun hlen hlt => ?_⟩
  · have hes : ∀ e, e ∈ l.map (·.toNat) → (extRec s e).st = exREADY ∧ (extRec s e).mapcount = 0 ∧ migrating s e = false
        ∧ fenced s e = false := List.forall_mem_map.2 h
    refine completes_done rfl (all_atMost_of_lt hlt) hrun ha fun m => ⟨_, _, _, doRelease_frees (s := { s with mbx := m }) hes, ?_⟩
    obtain ⟨hrec, hregs, hmem⟩ := foldl_releaseOne_spec (s := { s with mbx := m }) (l := l.map (·.toNat))
      fun e he => .inl ⟨(hes e he).1, (hes e he).2.2.2⟩
    refine ⟨fun w hw => ?_, SameExts.reply fun e he => (hrec e).trans (if_neg he), ⟨_, rfl⟩, SameRegs.reply (SameRegs.of_regs hregs []),
      (reply_mem ..).trans hmem⟩
    rw [extRec_reply, hrec, if_pos (List.mem_map_of_mem hw)]
  · subst hl
    refine completes_defer rfl (all_atMost_of_lt hlt) hrun ha hroom fun m _ =>
      ⟨_, _, _, doRelease_drains (s := { s with mbx := m }) hst hmap hmig hf, fun m' _ => ?_⟩
    refine ⟨?_, SameExts.reply fun e he => ?_, ⟨_, rfl⟩, SameRegs.reply (SameRegs.of_regs rfl []), reply_mem ..⟩
    · rw [extRec_reply]
      exact (extRec_setExt _ _ _ _).trans (if_pos rfl)
    · exact (extRec_setExt _ _ _ _).trans (if_neg fun h => he (List.mem_singleton.2 h))
  · refine completes_done rfl (all_atMost_of_lt hlt) hrun ha fun m => ⟨_, _, _, doRelease_barred (s := { s with mbx := m }) hfind,
      ⟨_, rfl⟩, ?_, SamePool.reply (samePool_mbx s m)⟩
    have hne : (releaseBars s e).getD stINVALID ≠ stBUSY ∧ (releaseBars s e).getD stINVALID ≠ stNOT_OWNER := by
      rcases releaseBars_status s e with h | h <;> rw [h] <;> decide
    exact SameRegs.reply (sameRegs_mbx s m []) hne.1 hne.2
  · have hes : ∀ e, e ∈ l.map (·.toNat) → migrating s e = false ∧ attrBars s a.toNat m.toNat e = none := List.forall_mem_map.2 h
    have hstep : ∀ (s : State) (e x : Nat), extRec (setExt s e (withAttr (extRec s e) a.toNat m.toNat)) x
        = if x = e then withAttr (extRec s e) a.toNat m.toNat else extRec s x := fun s e x => extRec_setExt s e _ x
    refine completes_done rfl ?_ hrun ha fun mb => ⟨_, _, _, doSetAttr_sets (s := { s with mbx := mb }) hes, fun w hw => ?_, ?_,
      ⟨_, rfl⟩, ?_, ?_⟩
    · rw [all_atMost_of_lt hlt, hattr, hmask]
      rfl
    · rw [extRec_reply]
      exact foldl_read_of_idem (g := fun _ r => withAttr r a.toNat m.toNat) hstep (fun _ r => withAttr_idem r _ _) _
        (List.mem_map_of_mem hw)
    · exact SameExts.reply fun _ he => foldl_read_of_not_mem (g := fun _ r => withAttr r a.toNat m.toNat) hstep { s with mbx := mb } he
    · exact SameRegs.reply (SameRegs.of_regs (foldl_setAttr_frame { s with mbx := mb } _ _ _).1 [])
    · exact (reply_mem ..).trans (foldl_setAttr_frame _ _ _ _).2
  · refine completes_query rfl ?_ hrun fun m => ⟨_, _, _, rfl, ⟨_, rfl⟩, SameRegs.reply (sameRegs_mbx s m []),
      SamePool.reply (samePool_mbx s m), SameRest.reply (sameRest_mbx s m)⟩
    rw [all_atMost_of_lt hlt, Bool.or_false]
    simpa using hlen

end Sys2Proof.Machine
end

section
/-! PROOFS. Fences, and the counting of maps (R53, R91, R96). -/

namespace Sys2Proof.Machine
open Sys2Proof

/-! ### Tables -/

theorem mem_of_tget {α : Type} {t : Tab α} {k : Nat} {v : α} (h : tget t k = some v) : (k, v) ∈ t := by
  induction t with
  | nil => exact absurd h (by simp)
  | cons e t ih =>
    obtain ⟨k', v'⟩ := e
    rw [tget] at h
    split at h
    next hk =>
      obtain rfl := Option.some.inj h
      rw [hk]
      exact List.mem_cons_self
    next => exact List.mem_cons_of_mem _ (ih h)

theorem ne_of_mem_tdel {α : Type} {t : Tab α} {k : Nat} {e : Nat × α} (h : e ∈ tdel t k) : e.1 ≠ k := by
  induction t with
  | nil => exact absurd h List.not_mem_nil
  | cons d t ih =>
    obtain ⟨k', v'⟩ := d
    rw [tdel] at h
    split at h
    next => exact ih h
    next hk =>
      rcases List.mem_cons.1 h with rfl | h
      · exact Ne.symm hk
      · exact ih h

/-! ### MAPCOUNT -/

/-- A record with its count one higher, or one lower. -/
def countMap (up : Bool) (r : ExtRec) : ExtRec := { r with mapcount := if up then r.mapcount + 1 else r.mapcount - 1 }

theorem extRec_addMap (up : Bool) (s : State) (e x : Nat) :
    extRec (addMap s e up) x = if x = e then countMap up (extRec s e) else extRec s x :=
  extRec_setExt s e _ x

/-- Counting changes the records of extents only. -/
theorem foldl_addMap_eq (up : Bool) (l : List Nat) (s : State) :
    ∃ x, l.foldl (fun s e => addMap s e up) s = { s with xlt := { s.xlt with ext := x } } :=
  List.foldlRecOn (motive := fun t : State => ∃ x, t = { s with xlt := { s.xlt with ext := x } }) _ _ ⟨_, rfl⟩ (by
    rintro _ ⟨x, rfl⟩ e -
    exact ⟨_, rfl⟩)

/-- Counting over extents that are all different counts each once. -/
theorem extRec_foldl_addMap (up : Bool) {l : List Nat} (hl : l.Nodup) (s : State) (x : Nat) :
    extRec (l.foldl (fun s e => addMap s e up) s) x = if x ∈ l then countMap up (extRec s x) else extRec s x := by
  split
  next hx => exact foldl_read_of_nodup (g := fun _ => countMap up) (extRec_addMap up) hl s hx
  next hx => exact foldl_read_of_not_mem (g := fun _ => countMap up) (extRec_addMap up) s hx

/-! ### The opening of a fence (R96) -/

theorem epochOf_advanceEpoch (s : State) (e x : Nat) :
    epochOf (advanceEpoch s e) x = if x = e then (epochOf s e + 1) % 2 ^ 22 else epochOf s x := by
  have h : (advanceEpoch s e).xlt.epochs = tset s.xlt.epochs e ((epochOf s e + 1) % 2 ^ 22) := by
    unfold advanceEpoch
    dsimp only
    split <;> rfl
  unfold epochOf at *
  rw [h, tgetD_tset]

/-- Advancing epochs changes epochs and the era only. -/
theorem foldl_advanceEpoch_eq (l : List Nat) (s : State) :
    ∃ x y, l.foldl advanceEpoch s = { s with xlt := { s.xlt with epochs := x, era := y } } :=
  List.foldlRecOn (motive := fun t : State => ∃ x y, t = { s with xlt := { s.xlt with epochs := x, era := y } }) _ _ ⟨_, _, rfl⟩ (by
    rintro _ ⟨x, y, rfl⟩ e -
    unfold advanceEpoch
    dsimp only
    split <;> exact ⟨_, _, rfl⟩)

/-- The lowest free fence opens over extents that are all different, and nothing else changes. -/
theorem openFence_eq {s : State} {f : Nat} (h : FreeFence s f) {es : List Nat} (hn : es.Nodup) (cause : Nat) :
    ∃ x y, openFence s es cause
        = { s with xlt := { s.xlt with
              epochs := x, era := y, fences := tset s.xlt.fences f { extents := es, cause := cause, opened := now s } } }
      ∧ ∀ e, tgetD x e 0 = if e ∈ es then (epochOf s e + 1) % 2 ^ 22 else epochOf s e := by
  obtain ⟨-, hsmall, hfree, hlowest⟩ := h
  have hfind : (List.range 64).find? (fun f => (tget s.xlt.fences f).isNone) = some f := by
    refine List.find?_range_eq_some.2 ⟨by simp [hfree], List.mem_range.2 hsmall, fun g hg => ?_⟩
    simpa [← Option.ne_none_iff_isSome] using hlowest g hg
  have hepoch : ∀ e, epochOf (es.foldl advanceEpoch s) e = if e ∈ es then (epochOf s e + 1) % 2 ^ 22 else epochOf s e := by
    intro e
    split
    next he => exact foldl_read_of_nodup (g := fun _ n => (n + 1) % 2 ^ 22) epochOf_advanceEpoch hn s he
    next he => exact foldl_read_of_not_mem (g := fun _ n => (n + 1) % 2 ^ 22) epochOf_advanceEpoch s he
  obtain ⟨x, y, hxy⟩ := foldl_advanceEpoch_eq es s
  rw [hxy] at hepoch
  refine ⟨x, y, ?_, hepoch⟩
  simp only [openFence, hfind, hxy]
  rfl

theorem fenceOpened_of_tset {s t : State} {f cause : Nat} {es : List Nat}
    (hf : t.xlt.fences = tset s.xlt.fences f { extents := es, cause := cause, opened := now s })
    (he : ∀ e, tgetD t.xlt.epochs e 0 = if e ∈ es then (epochOf s e + 1) % 2 ^ 22 else epochOf s e) : FenceOpened s t f es cause :=
  ⟨by rw [hf, tget_tset_self], fun g hg => by rw [hf, tget_tset_ne _ _ hg], he⟩

theorem FenceOpened.of_mbx {s t : State} {m : Mailbox} {f cause : Nat} {es : List Nat}
    (h : FenceOpened { s with mbx := m } t f es cause) : FenceOpened s t f es cause := by
  obtain ⟨hfence, hothers, hepochs⟩ := h
  exact ⟨hfence, hothers, hepochs⟩

theorem FenceOpened.reply {s t : State} {f cause : Nat} {es : List Nat} {slot op : Nat} {tag : Word32} {st : Nat} {b : List Byte}
    (h : FenceOpened s t f es cause) : FenceOpened s (reply t slot op tag st b) f es cause := by
  obtain ⟨hfence, hothers, hepochs⟩ := h
  unfold epochOf at hepochs
  constructor
  · rw [reply_xlt, hfence]
  · rw [reply_xlt]
    exact hothers
  · unfold epochOf
    rw [reply_xlt]
    exact hepochs

end Sys2Proof.Machine
end

section
/-! PROOFS. Views: mapping, unmapping, queries, and the end of a fence (O24). -/

namespace Sys2Proof.Machine
open Sys2Proof

/-! ### View entries -/

theorem viewEnt_congr {s t : State} (h : t.xlt.views = s.xlt.views) (u v : Nat) : viewEnt t u v = viewEnt s u v := by
  unfold viewEnt
  rw [h]

@[simp] theorem viewEnt_reply (s : State) (slot op : Nat) (tag : Word32) (st : Nat) (b : List Byte) (u v : Nat) :
    viewEnt (reply s slot op tag st b) u v = viewEnt s u v :=
  viewEnt_congr (congrArg Xlt.views (reply_xlt s slot op tag st b)) u v

theorem SameViews.reply {s t : State} {u : Nat} {l : List Nat} {slot op : Nat} {tag : Word32} {st : Nat} {b : List Byte}
    (h : SameViews s t u l) : SameViews s (reply t slot op tag st b) u l :=
  fun x y hy hout => (viewEnt_reply t slot op tag st b x y).trans (h x y hy hout)

/-- The keys of different entries differ. -/
theorem viewKey_inj {u v t x : Nat} (hv : v < 2 ^ 18) (hx : x < 2 ^ 18) (h : u * 2 ^ 18 + v = t * 2 ^ 18 + x) : u = t ∧ v = x := by
  omega

theorem viewEnt_setView_key (s : State) {t x w : Nat} (hw : w < 2 ^ 64) (u v : Nat) :
    viewEnt (setView s t x w) u v = if u * 2 ^ 18 + v = t * 2 ^ 18 + x then w else viewEnt s u v := by
  have hviews : (setView s t x w).xlt.views
      = if w = 0 then tdel s.xlt.views (t * 2 ^ 18 + x) else tset s.xlt.views (t * 2 ^ 18 + x) (BitVec.ofNat 64 w) := rfl
  unfold viewEnt
  rw [hviews]
  by_cases h0 : w = 0
  · rw [if_pos h0, tgetD, tget_tdel, h0]
    split <;> rfl
  · rw [if_neg h0, tgetD_tset]
    split
    · rw [BitVec.toNat_ofNat, Nat.mod_eq_of_lt hw]
    · rfl

/-- The slots of one tenant that are written. -/
theorem viewEnt_foldl_setView {l : List Nat} {w : Nat} (hw : w < 2 ^ 64) (s : State) (t : Nat) {v : Nat} (hv : v ∈ l) :
    viewEnt (l.foldl (fun s x => setView s t x w) s) t v = w := by
  refine foldl_read_of_idem (read := fun s => viewEnt s t) (g := fun _ _ => w) (fun s x v => ?_) (fun _ _ => rfl) s hv
  rw [viewEnt_setView_key s hw]
  simp only [Nat.add_left_cancel_iff]

theorem sameViews_foldl_setView {l : List Nat} {w : Nat} (hw : w < 2 ^ 64) (hl : ∀ x, x ∈ l → x < 2 ^ 18) (s : State) (t : Nat) :
    SameViews s (l.foldl (fun s x => setView s t x w) s) t l := by
  intro u v hv hout
  refine List.foldlRecOn (motive := fun r : State => viewEnt r u v = viewEnt s u v) l _ rfl fun r hr x hx => ?_
  rw [viewEnt_setView_key r hw, if_neg, hr]
  intro hkey
  obtain ⟨hu, rfl⟩ := viewKey_inj hv (hl x hx) hkey
  exact hout.elim (· hu) (· hx)

/-- Writing entries changes the views, the view cache and memory only. -/
theorem foldl_setView_eq (t w : Nat) (l : List Nat) (s : State) :
    ∃ x y m, l.foldl (fun s x => setView s t x w) s = { s with xlt := { s.xlt with views := x, vcache := y }, mem := m } :=
  List.foldlRecOn (motive := fun r : State => ∃ x y m, r = { s with xlt := { s.xlt with views := x, vcache := y }, mem := m }) _ _
    ⟨_, _, _, rfl⟩ (by
      rintro _ ⟨x, y, m, rfl⟩ v -
      exact ⟨_, _, _, rfl⟩)

theorem viewWord_lt {e : Nat} (he : e < 2880) (p : Nat) : viewWord e p < 2 ^ 64 := by
  have h4 : bits p 4 4 < 2 := Nat.mod_lt _ (by decide)
  have h3 : bits p 3 0 < 16 := Nat.mod_lt _ (by decide)
  unfold viewWord
  omega

/-- A word below 32 has only its low five bits. -/
theorem onlyBits_of_lt_32 {w : Word64} (h : w.toNat < 32) : onlyBits w 0x1F = true := by
  have hall : ∀ n, n < 32 → onlyBits (BitVec.ofNat 64 n) 0x1F = true := by decide
  simpa using hall w.toNat h

/-! ### VIEW_MAP (R53, R57, R58) -/

section
variable {s : State} {u v e p n : Nat}

theorem doViewMap_maps (hn : n = if bit p 4 then 16 else 1) (ht : tenantExists s u = true)
    (halign : bit p 4 = true → v % 16 = 0 ∧ alignedGroup e = true) (hperm : bit p 2 = true → bit p 1 = true)
    (hes : ∀ x, x ∈ List.range' e n → (extRec s x).st = exREADY ∧ migrating s x = false ∧ (∀ w, w ∈ mappers s x → w.1 ≠ u)
      ∧ (extRec s x).coherent = (extRec s e).coherent ∧ (extRec s x).mirrored = (extRec s e).mirrored
      ∧ (isolated s u = true → offGates s x = false ∧ (extRec s x).coherent = false))
    (hslots : ∀ x, x ∈ List.range' v n → veValid (viewEnt s u x) = false) :
    doViewMap u v e p s = ((List.range' e n).foldl (fun s e => addMap s e true)
      ((List.range' v n).foldl (fun s x => setView s u x (viewWord e p)) s), Rep.ok) := by
  have hst : ∀ k, k ≠ exREADY → ((List.range' e n).map (extRec s)).any (fun r => r.st == k) = false := fun k hk => by
    simp only [List.any_map, List.any_eq_false, Function.comp_apply, beq_iff_eq]
    exact fun x hx h => hk (h ▸ (hes x hx).1)
  have hready : ((List.range' e n).map (extRec s)).any (fun r => r.st != exREADY) = false := by
    simp only [List.any_map, List.any_eq_false, Function.comp_apply, bne_iff_ne, not_not]
    exact fun x hx => (hes x hx).1
  have hpage : (bit p 4 && (v % 16 != 0 || !alignedGroup e)) = false := by
    cases hb : bit p 4 with
    | false => rfl
    | true => simp [(halign hb).1, (halign hb).2]
  have hattr : (bit p 4 && !((List.range' e n).map (extRec s)).all (fun r => r.coherent == (extRec s e).coherent
      && r.mirrored == (extRec s e).mirrored)) = false := by
    have hall : ((List.range' e n).map (extRec s)).all (fun r => r.coherent == (extRec s e).coherent
        && r.mirrored == (extRec s e).mirrored) = true := by
      simp only [List.all_map, List.all_eq_true, Function.comp_apply, Bool.and_eq_true, beq_iff_eq]
      exact fun x hx => ⟨(hes x hx).2.2.2.1, (hes x hx).2.2.2.2.1⟩
    rw [hall, Bool.not_true, Bool.and_false]
  have hbits : (bit p 2 && !bit p 1) = false := by
    cases hb : bit p 2 with
    | false => rfl
    | true => rw [hperm hb]; rfl
  have hiso : (isolated s u && ((List.range' e n).any (offGates s) || ((List.range' e n).map (extRec s)).any (fun r => r.coherent)))
      = false := by
    cases hi : isolated s u with
    | false => rfl
    | true =>
      simp only [Bool.true_and, Bool.or_eq_false_iff, List.any_map, List.any_eq_false, Function.comp_apply, Bool.not_eq_true]
      exact ⟨fun x hx => ((hes x hx).2.2.2.2.2 hi).1, fun x hx => ((hes x hx).2.2.2.2.2 hi).2⟩
  have hmig : (List.range' e n).any (migrating s) = false := by
    simp only [List.any_eq_false, Bool.not_eq_true]
    exact fun x hx => (hes x hx).2.1
  have hempty : (List.range' v n).any (fun x => veValid (viewEnt s u x)) = false := by
    simp only [List.any_eq_false, Bool.not_eq_true]
    exact hslots
  have hmapped : (List.range' e n).any (fun e => (mappers s e).any (fun v => v.1 == u)) = false := by
    simp only [List.any_eq_false, Bool.not_eq_true, beq_eq_false_iff_ne]
    exact fun x hx => (hes x hx).2.2.1
  subst hn
  simp only [doViewMap, ht, hpage, hst 0 (by decide), hst exZEROING (by decide), hready, hattr, hbits, hiso, hmig, hempty, hmapped,
    Bool.not_true, Bool.or_false, Bool.false_eq_true, if_false]

end

/-- What a map leaves: the entries of its slots, and the counts of its extents. -/
theorem viewMapped_spec (s : State) {u v e p n : Nat} (hv : v + n ≤ 2 ^ 18) (he : e < 2880) {t : State}
    (ht : t = (List.range' e n).foldl (fun s e => addMap s e true)
      ((List.range' v n).foldl (fun s x => setView s u x (viewWord e p)) s)) :
    (∀ x, x ∈ List.range' v n → viewEnt t u x = viewWord e p) ∧ SameViews s t u (List.range' v n)
      ∧ (∀ x, x ∈ List.range' e n → extRec t x = { extRec s x with mapcount := (extRec s x).mapcount + 1 })
      ∧ SameExts s t (List.range' e n) ∧ t.regs = s.regs := by
  have hw := viewWord_lt he p
  have hslots : ∀ x, x ∈ List.range' v n → x < 2 ^ 18 := fun x hx => by
    rw [List.mem_range'_1] at hx
    omega
  have hset := fun x => viewEnt_foldl_setView (l := List.range' v n) hw s u (v := x)
  have hsame := sameViews_foldl_setView hw hslots s u
  obtain ⟨vs, vc, m, hviews⟩ := foldl_setView_eq u (viewWord e p) (List.range' v n) s
  rw [hviews] at hset hsame ht
  have hrec := extRec_foldl_addMap true (List.nodup_range' (s := e) (n := n) 1)
    { s with xlt := { s.xlt with views := vs, vcache := vc }, mem := m }
  obtain ⟨ext, hadd⟩ := foldl_addMap_eq true (List.range' e n) { s with xlt := { s.xlt with views := vs, vcache := vc }, mem := m }
  rw [hadd] at hrec ht
  subst ht
  exact ⟨hset, hsame, fun x hx => (hrec x).trans (if_pos hx), fun x hx => (hrec x).trans (if_neg hx), rfl⟩

/-! ### VIEW_UNMAP (R57, R60, R96, R99) -/

theorem pageExtents_nodup (w : Nat) : (pageExtents w).Nodup := by
  unfold pageExtents
  split
  · exact List.nodup_range' 1
  · exact List.nodup_singleton _

theorem lt_of_mem_pageSlots {w v x : Nat} (hv : v < 2 ^ 18) (hx : x ∈ pageSlots w v) : x < 2 ^ 18 := by
  unfold pageSlots at hx
  split at hx
  · rw [List.mem_range'_1] at hx
    omega
  · rw [List.mem_singleton] at hx
    omega

theorem FreeFence.of_fences {s t : State} {f : Nat} (h : FreeFence s f) (hf : t.xlt.fences = s.xlt.fences) : FreeFence t f := by
  obtain ⟨hroom, hsmall, hfree, hlowest⟩ := h
  refine ⟨?_, hsmall, by rw [hf, hfree], fun g hg => by rw [hf]; exact hlowest g hg⟩
  unfold fenceRoom at *
  rw [hf, hroom]

/-- An unmap that a fence can open for: the slots of the page, the counts of its extents, and the fence. -/
theorem unmapNow_spec {s : State} {f t v : Nat} (hf : FreeFence s f) (hv : v < 2 ^ 18) :
    (∀ x, x ∈ pageSlots (viewEnt s t v) v → viewEnt (unmapNow t v s) t x = 0)
      ∧ SameViews s (unmapNow t v s) t (pageSlots (viewEnt s t v) v)
      ∧ (∀ x, x ∈ pageExtents (viewEnt s t v) → extRec (unmapNow t v s) x = { extRec s x with mapcount := (extRec s x).mapcount - 1 })
      ∧ FenceOpened s (unmapNow t v s) f (pageExtents (viewEnt s t v)) 0 ∧ (unmapNow t v s).regs = s.regs := by
  unfold unmapNow
  generalize viewEnt s t v = w
  have hslots := fun x (hx : x ∈ pageSlots w v) => lt_of_mem_pageSlots hv hx
  obtain ⟨vs, vc, m, hset⟩ := foldl_setView_eq t 0 (pageSlots w v) s
  have hzero := fun x => viewEnt_foldl_setView (l := pageSlots w v) (w := 0) (by decide) s t (v := x)
  have hsame := sameViews_foldl_setView (w := 0) (by decide) hslots s t
  dsimp only
  rw [hset] at hzero hsame ⊢
  have hrec := extRec_foldl_addMap false (pageExtents_nodup w)
    { s with xlt := { s.xlt with views := vs, vcache := vc }, mem := m }
  obtain ⟨ext, hadd⟩ := foldl_addMap_eq false (pageExtents w)
    { s with xlt := { s.xlt with views := vs, vcache := vc }, mem := m }
  rw [hadd] at hrec ⊢
  have hfree : FreeFence { s with xlt := { s.xlt with views := vs, vcache := vc, ext := ext }, mem := m } f := hf.of_fences rfl
  obtain ⟨ep, era, hopen, hepoch⟩ := openFence_eq hfree (pageExtents_nodup w) 0
  rw [hopen]
  exact ⟨hzero, hsame, fun x hx => (hrec x).trans (if_pos hx), fenceOpened_of_tset rfl hepoch, rfl⟩

theorem doViewUnmap_of_valid {s : State} {t v : Nat} (slot : Nat) (tag : Word32) (ht : tenantExists s t = true)
    (hv : veValid (viewEnt s t v) = true) (hmig : ∀ x, x ∈ pageExtents (viewEnt s t v) → migrating s x = false) :
    doViewUnmap slot tag t v s
      = if fenceRoom s then (unmapNow t v s, Rep.ok) else waitFence s (.viewUnmap slot tag t v) := by
  have hany : (pageExtents (viewEnt s t v)).any (migrating s) = false := by
    simp only [List.any_eq_false, Bool.not_eq_true]
    exact hmig
  simp only [doViewUnmap, ht, hv, hany, Bool.not_true, Bool.or_self, Bool.false_eq_true, if_false]
  cases fenceRoom s <;> rfl

/-! ### The end of a fence (R53, R97) -/

section
variable (s : State)

theorem eventCopy_qps (d : Nat → List Byte) (slot net : Nat) (as : List AssocRec) :
    (eventCopy d s slot net as).eth.qps = s.eth.qps := by
  unfold eventCopy
  split <;> rfl

theorem event_qps (code sev : Nat) (body : List Byte) : (event s code sev body).eth.qps = s.eth.qps := by
  unfold event eventTo
  refine (foldl_keeps (fun t : State => t.eth.qps) _ (fun t e => ?_) _ _).trans rfl
  dsimp only
  split
  · rfl
  · rw [eventCopy_qps, eventCopy_qps]

theorem sendFrame_qps (slot : Nat) (f : List Byte) : (sendFrame s slot f).eth.qps = s.eth.qps := by
  unfold sendFrame
  split
  · rfl
  · split
    · rfl
    next se _ =>
      exact foldl_keeps (fun t : State => t.eth.qps) (fun s a => ethQueue s a.port 2 (.reply slot f) (f.length + dtlsOverhead))
        (fun _ _ => rfl) se.assocs s

theorem reply_qps (slot op : Nat) (tag : Word32) (st : Nat) (b : List Byte) : (reply s slot op tag st b).eth.qps = s.eth.qps := by
  unfold reply
  dsimp only
  repeat' split
  all_goals exact sendFrame_qps _ _ _

/-- A final reply leaves queue pairs, signals and translation alone. -/
theorem finalReply_frame (d : Deferred) (st : Nat) (b : List Byte) :
    (finalReply s d st b).eth.qps = s.eth.qps ∧ (finalReply s d st b).sig = s.sig := by
  unfold finalReply
  dsimp only
  repeat' split
  · exact ⟨rfl, rfl⟩
  · exact ⟨reply_qps _ _ _ _ _ _, reply_sig _ _ _ _ _ _⟩
  · exact ⟨event_qps _ _ _ _, event_sig _ _ _ _⟩

theorem finishAll_frame (p : Wait → Bool) (st : Nat) (b : List Byte) :
    (finishAll s p st b).eth.qps = s.eth.qps ∧ (finishAll s p st b).sig = s.sig :=
  ⟨foldl_keeps (fun t : State => t.eth.qps) _ (fun t d => (finalReply_frame t d st b).1) _ _,
    foldl_keeps State.sig _ (fun t d => (finalReply_frame t d st b).2) _ _⟩

end

theorem rocePump_zero (s : State) (q : Nat) : rocePump 0 s q = s := rfl

theorem roceRun_of_none_waiting {s : State} (h : ∀ q, q ∈ s.eth.qps → q.2.waiting = []) (q : Nat) : roceRun s q = s := by
  unfold roceRun
  cases hq : tget s.eth.qps q with
  | none => rfl
  | some p =>
    have hp : p.waiting = [] := h (q, p) (mem_of_tget hq)
    change rocePump p.waiting.length s q = s
    rw [hp]
    exact rocePump_zero s q

/-- The state in which fence f is no longer open, and nothing else has changed. -/
def closeFence (s : State) (f : Nat) : State := { s with xlt := { s.xlt with fences := tdel s.xlt.fences f } }

/-- The DRAINING ones among some extents that no open fence covers. -/
def drained (s : State) (es : List Nat) : List Nat :=
  (es.filter (fun e => !fenced s e)).filter (fun e => (extRec s e).st == exDRAINING)

theorem mem_drained {s : State} {es : List Nat} {e : Nat} :
    e ∈ drained s es ↔ e ∈ es ∧ fenced s e = false ∧ (extRec s e).st = exDRAINING := by
  simp [drained]
  tauto

theorem extRec_foldl_freeExtent (s : State) (l : List Nat) (x : Nat) :
    extRec (l.foldl freeExtent s) x = if x ∈ l then ExtRec.init x else extRec s x := by
  have hstep : ∀ s e x, extRec (freeExtent s e) x = if x = e then ExtRec.init e else extRec s x := fun s e x =>
    extRec_setExt s e _ x
  split
  next hx => exact foldl_read_of_idem (g := fun e _ => ExtRec.init e) hstep (fun _ _ => rfl) s hx
  next hx => exact foldl_read_of_not_mem (g := fun e _ => ExtRec.init e) hstep s hx

/-- With no watch, packet or change that waits, the rest of the end of a fence does nothing. -/
theorem wake_of_none {u : State} {done : List Nat} (hwatches : ∀ w, w ∈ u.sig.watches → w.2.time = true ∨ w.2.extent ∉ done)
    (hpackets : ∀ q, q ∈ u.eth.qps → q.2.waiting = []) (hchanges : u.xlt.fenceWait = []) :
    (let v := (u.sig.watches.filter (fun e => !e.2.time && done.contains e.2.extent)).foldl (fun s e => revalWatch s e.1 e.2) u
     let w := v.eth.qps.foldl (fun s q => roceRun s q.1) v
     resumeChanges w.xlt.fenceWait.length w) = u := by
  have hnone : u.sig.watches.filter (fun e => !e.2.time && done.contains e.2.extent) = [] := by
    refine List.filter_eq_nil_iff.2 fun w hw => ?_
    rcases hwatches w hw with h | h <;> simp [h]
  have hstill : u.eth.qps.foldl (fun s q => roceRun s q.1) u = u := List.foldl_fixed' (fun q => roceRun_of_none_waiting hpackets q.1) _
  dsimp only
  rw [hnone, List.foldl_nil, hstill, hchanges]
  rfl

/-- Where nothing waits for the fence, its end frees the drained extents and does no more to the translation unit. -/
theorem completeFence_xlt {s : State} {f : Nat} {r : Fence} (hf : tget s.xlt.fences f = some r) (hw : NoneWait s r.extents) :
    (completeFence s f).xlt = ((drained (closeFence s f) r.extents).foldl freeExtent (closeFence s f)).xlt := by
  obtain ⟨hchanges, -, hpackets, hwatches⟩ := hw
  generalize hl : drained (closeFence s f) r.extents = l
  have hsig : (l.foldl freeExtent (closeFence s f)).sig = s.sig := foldl_keeps State.sig freeExtent (fun _ _ => rfl) l _
  have heth : (l.foldl freeExtent (closeFence s f)).eth = s.eth := foldl_keeps State.eth freeExtent (fun _ _ => rfl) l _
  have hwait : (l.foldl freeExtent (closeFence s f)).xlt.fenceWait = s.xlt.fenceWait :=
    foldl_keeps (fun t : State => t.xlt.fenceWait) freeExtent (fun _ _ => rfl) l _
  have hxlt : (finishReleases (l.foldl freeExtent (closeFence s f))).xlt = (l.foldl freeExtent (closeFence s f)).xlt :=
    finishAll_xlt _ _ _ _
  obtain ⟨hqps', hsig'⟩ : (finishReleases (l.foldl freeExtent (closeFence s f))).eth.qps = _ ∧ _ := finishAll_frame _ _ _ _
  subst hl
  unfold completeFence
  rw [hf]
  refine (congrArg State.xlt (wake_of_none (fun w hw => ?_) (fun q hq => hpackets q ?_) ?_)).trans hxlt
  · refine (hwatches w ?_).imp_right fun h hmem => h (List.mem_filter.1 hmem).1
    rw [← hsig, ← hsig']
    exact hw
  · rw [← heth, ← hqps']
    exact hq
  · exact (congrArg Xlt.fenceWait hxlt).trans (hwait.trans hchanges)

theorem execFenceComplete_ends {s : State} {f : Nat} {r : Fence} (hf : tget s.xlt.fences f = some r) (hc : r.cause ≠ 2)
    (hs : inSafe s = false) (ht : tileUses s r.extents = false) :
    exec (.fenceComplete f) s = .next (completeFence s f) := by
  simp [exec, execFenceComplete, hf, hc, hs, ht]

/-- An extent that no other fence covers is covered by none once this one is closed. -/
theorem fenced_closeFence {s : State} {f e : Nat} (h : ∀ g q, g ≠ f → (g, q) ∈ s.xlt.fences → e ∉ q.extents) :
    fenced (closeFence s f) e = false := by
  refine List.any_eq_false.2 fun x hx => ?_
  simpa using h x.1 x.2 (ne_of_mem_tdel hx) (mem_tdel hx)

/-- Settles O24: the folds over the slots and the extents of a page; where nothing waits, the end of a fence frees what drained. -/
theorem viewsMapAndUnmap : Obligations.ViewsMapAndUnmap := by
  unfold Obligations.ViewsMapAndUnmap
  have hbad : ∀ u v : Word64, u.toNat < 256 → v.toNat < 2 ^ 18 → (!atMost u 255 || !atMost v 262143) = false := by
    intro u v hu hv
    simp [atMost]
    omega
  refine ⟨fun s slot tag u v e p n hrun ha hv he hp hn ht halign hperm hes hslots => ?_,
    fun s slot tag u v hrun ha hu hv ht hvalid hmig => ⟨fun f hfree => ?_, fun hfull => ?_⟩,
    fun s slot tag u f n hrun ht hu hn hfn => ?_, fun s f r hf hc hsafe htile hw => ?_⟩
  · have hu : u.toNat < 256 := of_decide_eq_true (Bool.and_eq_true_iff.1 ht).1
    have hbad : (!atMost u 255 || !atMost v 262143 || !atMost e 2879 || !onlyBits p 0x1F) = false := by
      have hp' := onlyBits_of_lt_32 hp
      simp [atMost, hp']
      omega
    have hlast : v.toNat + n ≤ 2 ^ 18 := by
      cases hb : bit p.toNat 4 with
      | false => simp only [hn, hb, Bool.false_eq_true, if_false]; omega
      | true =>
        have halign16 := (halign hb).1
        simp only [hn, hb, if_true]
        omega
    refine completes_done rfl hbad hrun ha fun m => ⟨_, _, _, doViewMap_maps (s := { s with mbx := m }) hn ht halign hperm hes hslots, ?_⟩
    obtain ⟨hset, hsame, hrec, hexts, hregs⟩ := viewMapped_spec { s with mbx := m } (u := u.toNat) (p := p.toNat) hlast he rfl
    exact ⟨fun x hx => (viewEnt_reply ..).trans (hset x hx), SameViews.reply hsame, fun x hx => (extRec_reply ..).trans (hrec x hx),
      SameExts.reply hexts, ⟨_, rfl⟩, SameRegs.reply (SameRegs.of_regs hregs [])⟩
  · refine completes_done rfl (hbad u v hu hv) hrun ha fun m => ⟨_, _, _,
      (doViewUnmap_of_valid (s := { s with mbx := m }) slot tag ht hvalid hmig).trans (if_pos hfree.room), ?_⟩
    obtain ⟨hzero, hsame, hrec, hfence, hregs⟩ := unmapNow_spec (s := { s with mbx := m }) (t := u.toNat) (hfree.of_fences rfl) hv
    exact ⟨fun x hx => (viewEnt_reply ..).trans (hzero x hx), SameViews.reply hsame, fun x hx => (extRec_reply ..).trans (hrec x hx),
      hfence.of_mbx.reply, ⟨_, rfl⟩, SameRegs.reply (SameRegs.of_regs hregs [])⟩
  · have hroom : ¬ fenceRoom s = true := Bool.not_eq_true _ ▸ hfull
    exact completes_wait rfl (hbad u v hu hv) hrun ha fun m => ⟨_,
      (doViewUnmap_of_valid (s := { s with mbx := m }) slot tag ht hvalid hmig).trans (if_neg hroom), rfl, rfl,
      SameRegs.of_regs rfl [], rfl, rfl⟩
  · refine completes_query rfl ?_ hrun fun m => ⟨_, _, _, if_neg (Bool.eq_false_iff.1 (congrArg not ht)), ⟨_, rfl⟩,
    SameRegs.reply (sameRegs_mbx s m []),
      SamePool.reply (samePool_mbx s m), SameRest.reply (sameRest_mbx s m)⟩
    simp [atMost]
    omega
  · have hxlt := completeFence_xlt hf hw
    have hrec : ∀ x, extRec (completeFence s f) x = if x ∈ drained (closeFence s f) r.extents then ExtRec.init x else extRec s x :=
      fun x => (extRec_congr (congrArg Xlt.ext hxlt) x).trans (extRec_foldl_freeExtent _ _ x)
    have hfences : (completeFence s f).xlt.fences = tdel s.xlt.fences f :=
      (congrArg Xlt.fences hxlt).trans (foldl_keeps (fun t : State => t.xlt.fences) freeExtent (fun _ _ => rfl) _ _)
    refine ⟨_, execFenceComplete_ends hf hc hsafe htile, ?_, fun g hg => ?_, fun e he hothers hst => ?_, fun e he => ?_⟩
    · rw [hfences, tget_tdel_self]
    · rw [hfences, tget_tdel, if_neg hg]
    · rw [hrec, if_pos (mem_drained.2 ⟨he, fenced_closeFence hothers, hst⟩)]
    · rw [hrec, if_neg]
      intro hmem
      obtain ⟨hin, -, hst⟩ := mem_drained.1 hmem
      exact he.elim (· hin) (· hst)

end Sys2Proof.Machine
end

section
/-! PROOFS. Windows (O25). -/

namespace Sys2Proof.Machine
open Sys2Proof

theorem toNat_le_of_onlyBits {w : Word64} {m : Nat} (h : onlyBits w m = true) : w.toNat ≤ m := by
  have hand : w &&& ~~~(BitVec.ofNat 64 m) = 0#64 := by simpa [onlyBits] using h
  have hself : w = w &&& BitVec.ofNat 64 m := by
    have hsplit : w = (w &&& BitVec.ofNat 64 m) ||| (w &&& ~~~(BitVec.ofNat 64 m)) := by
      ext i
      simp only [BitVec.getElem_or, BitVec.getElem_and, BitVec.getElem_not]
      cases w[i] <;> cases (BitVec.ofNat 64 m)[i] <;> rfl
    rw [hand] at hsplit
    simpa using hsplit
  rw [hself, BitVec.toNat_and]
  exact Nat.and_le_right.trans (BitVec.toNat_ofNat m 64 ▸ Nat.mod_le _ _)

/-! ### The parameters -/

/-- The ranges of a window's parameters (R64, R66). -/
structure WindowOk (w c b x : Nat) : Prop where
  window : w < 4096
  ctl : c < 2 ^ 27
  base : b < 2 ^ 18
  src : x < 2 ^ 14
  valid : bit c 0 = true
  cover : bit c 1 = false → b + bits c 26 16 ≤ 2880
  some : 0 < bits c 26 16

theorem windowOk_of_not_bad {w c b x : Word64} (h : windowBad w c b x = false) : WindowOk w.toNat c.toNat b.toNat x.toNat := by
  simp only [windowBad, Bool.or_eq_false_iff, Bool.not_eq_false', atMost, decide_eq_true_eq, beq_eq_false_iff_ne] at h
  obtain ⟨⟨⟨⟨⟨⟨⟨hw, hc⟩, hb⟩, hx⟩, hvalid⟩, hsome⟩, -⟩, hcover⟩ := h
  have hc' := toNat_le_of_onlyBits hc
  have hb' := toNat_le_of_onlyBits hb
  have hx' := toNat_le_of_onlyBits hx
  refine ⟨by omega, by omega, by omega, by omega, hvalid, fun hkind => ?_, Nat.pos_of_ne_zero hsome⟩
  simpa [hkind] using hcover

/-! ### The old entry (R66, R96) -/

theorem winExtents_of_invalid {s : State} {w : Nat} (h : bit (winCtl s w) 0 = false) : winExtents s w = [] := by
  simp [winExtents, h]

theorem winCounted_of_invalid {s : State} {w : Nat} (h : bit (winCtl s w) 0 = false) : winCounted s w = [] := by
  unfold winCounted
  rw [winExtents_of_invalid h, ite_self]

theorem winDrop_of_invalid {s : State} {w : Nat} (h : bit (winCtl s w) 0 = false) : winDrop s w = s := by
  simp [winDrop, winExtents_of_invalid h, winCounted_of_invalid h]

/-- A valid entry goes with a fence over what it resolved to. -/
theorem winDrop_spec {s : State} {w f : Nat} (hf : FreeFence s f) (hne : winExtents s w ≠ []) (hnd : (winExtents s w).Nodup) :
    FenceOpened s (winDrop s w) f (winExtents s w) 1 ∧ (winDrop s w).regs = s.regs ∧ (winDrop s w).mem = s.mem := by
  have hdrop : winDrop s w = openFence ((winCounted s w).foldl (fun s e => addMap s e false) s) (winExtents s w) 1 := by
    simp [winDrop, hne]
  obtain ⟨ext, hadd⟩ := foldl_addMap_eq false (winCounted s w) s
  have hf' : FreeFence { s with xlt := { s.xlt with ext := ext } } f := hf.of_fences rfl
  obtain ⟨ep, era, hopen, hepoch⟩ := openFence_eq hf' hnd 1
  rw [hdrop, hadd, hopen]
  exact ⟨fenceOpened_of_tset rfl hepoch, rfl, rfl⟩

/-! ### The new entry (R64, R65) -/

/-- The registers of an entry are written, VALID last. -/
def putWindow (s : State) (w c b x : Nat) : State :=
  rput (rput (rputF (rputF (rputF s (Reg.XLT_WIN_CTL w) 0 0 0) (Reg.XLT_WIN_BASE_LO w) 31 30 (b % 4)) (Reg.XLT_WIN_BASE_HI w) 15 0 (b / 4))
    (Reg.XLT_WIN_SRC w) x) (Reg.XLT_WIN_CTL w) c

theorem windowNow_eq (w c b x : Nat) (s : State) : windowNow w c b x s
    = (winCounted (putWindow (winDrop s w) w c b x) w).foldl (fun s e => addMap s e true) (putWindow (winDrop s w) w c b x) := rfl

/-- The registers of a window's entry. -/
def winRegs (w : Nat) : List Nat := [Reg.XLT_WIN_CTL w, Reg.XLT_WIN_BASE_LO w, Reg.XLT_WIN_BASE_HI w, Reg.XLT_WIN_SRC w]

theorem winRegs_ne (w : Nat) :
    Reg.XLT_WIN_BASE_LO w ≠ Reg.XLT_WIN_CTL w ∧ Reg.XLT_WIN_BASE_HI w ≠ Reg.XLT_WIN_CTL w ∧ Reg.XLT_WIN_SRC w ≠ Reg.XLT_WIN_CTL w
      ∧ Reg.XLT_WIN_BASE_LO w ≠ Reg.XLT_WIN_SRC w ∧ Reg.XLT_WIN_BASE_HI w ≠ Reg.XLT_WIN_SRC w
      ∧ Reg.XLT_WIN_BASE_LO w ≠ Reg.XLT_WIN_BASE_HI w := by
  unfold Reg.XLT_WIN_CTL Reg.XLT_WIN_BASE_LO Reg.XLT_WIN_BASE_HI Reg.XLT_WIN_SRC
  omega

theorem rf_rput_ne (s : State) (v : Nat) {a b : Nat} (h : b ≠ a) (hi lo : Nat) : rf (rput s a v) b hi lo = rf s b hi lo := by
  unfold rf
  rw [rg_rput_ne s v h]

theorem newCover_nodup (c b : Nat) : (newCover c b).Nodup := by
  unfold newCover
  split
  · exact List.nodup_nil
  · exact List.nodup_range' 1

@[simp] theorem putWindow_xlt (s : State) (w c b x : Nat) : (putWindow s w c b x).xlt = s.xlt := by simp [putWindow]

@[simp] theorem putWindow_mem (s : State) (w c b x : Nat) : (putWindow s w c b x).mem = s.mem := by simp [putWindow]

section
variable {w c b x : Nat} (h : WindowOk w c b x) (s : State)
include h

theorem putWindow_spec :
    winCtl (putWindow s w c b x) w = c ∧ winBase (putWindow s w c b x) w = b ∧ rg (putWindow s w c b x) (Reg.XLT_WIN_SRC w) = x
      ∧ SameRegs s (putWindow s w c b x) (winRegs w) := by
  obtain ⟨-, hc, hb, hx, -, -, -⟩ := h
  obtain ⟨hloctl, hhictl, hsrcctl, hlosrc, hhisrc, hlohi⟩ := winRegs_ne w
  refine ⟨?_, ?_, ?_, ?_⟩
  · unfold putWindow winCtl
    rw [rg_rput_self]
    omega
  · unfold putWindow winBase
    rw [rf_rput_ne _ _ hloctl, rf_rput_ne _ _ hlosrc, rf_rputF_ne _ _ _ _ _ _ hlohi, rf_rputF_self _ _ (by decide),
      rf_rput_ne _ _ hhictl, rf_rput_ne _ _ hhisrc, rf_rputF_self _ _ (by decide)]
    omega
  · unfold putWindow
    rw [rg_rput_ne _ _ hsrcctl, rg_rput_self]
    omega
  · exact ((((sameRegs_rput _ _ (by simp [winRegs])).trans (sameRegs_rput _ _ (by simp [winRegs]))).trans
      (sameRegs_rput _ _ (by simp [winRegs]))).trans (sameRegs_rput _ _ (by simp [winRegs]))).trans (sameRegs_rput _ _ (by simp [winRegs]))

/-- The extents that the new entry counts for, each once. -/
theorem winCounted_putWindow : winCounted (putWindow s w c b x) w = newCover c b := by
  obtain ⟨hctl, hbase, -, -⟩ := putWindow_spec h s
  unfold winCounted newCover
  rw [hctl]
  split
  · rfl
  next hk =>
    have hkind : bit c 1 = false := by simpa using hk
    have hcover := h.cover hkind
    have hmap : (List.range (bits c 26 16)).map (fun u => (b + u) % 4096) = List.range' (b % 4096) (bits c 26 16) := by
      rw [List.range'_eq_map_range]
      refine List.map_congr_left fun u hu => ?_
      rw [List.mem_range] at hu
      omega
    simpa [winExtents, hctl, hbase, h.valid, hkind] using hmap

/-- What WINDOW_SET leaves, whatever went with the old entry. -/
theorem windowNow_spec :
    winCtl (windowNow w c b x s) w = c ∧ winBase (windowNow w c b x s) w = b ∧ rg (windowNow w c b x s) (Reg.XLT_WIN_SRC w) = x
      ∧ SameRegs (winDrop s w) (windowNow w c b x s) (winRegs w)
      ∧ ∀ e, extRec (windowNow w c b x s) e = if e ∈ newCover c b then countMap true (extRec (winDrop s w) e) else extRec (winDrop s w) e := by
  obtain ⟨hctl, hbase, hsrc, hsame⟩ := putWindow_spec h (winDrop s w)
  have hrec := extRec_foldl_addMap true (newCover_nodup c b) (putWindow (winDrop s w) w c b x)
  have hold := extRec_congr (congrArg Xlt.ext (putWindow_xlt (winDrop s w) w c b x))
  rw [windowNow_eq, winCounted_putWindow h]
  generalize putWindow (winDrop s w) w c b x = u at *
  have hregs : ((newCover c b).foldl (fun s e => addMap s e true) u).regs = u.regs :=
    foldl_keeps State.regs (fun s e => addMap s e true) (fun _ _ => rfl) _ _
  refine ⟨(rg_congr hregs _).trans hctl, ?_, (rg_congr hregs _).trans hsrc, hsame.trans (SameRegs.of_regs hregs _), fun e => ?_⟩
  · unfold winBase at hbase ⊢
    rw [rf_congr hregs, rf_congr hregs, hbase]
  · rw [hrec, hold]

theorem windowNow_frame : (windowNow w c b x s).mem = (winDrop s w).mem ∧ (windowNow w c b x s).xlt.fences = (winDrop s w).xlt.fences
    ∧ (windowNow w c b x s).xlt.epochs = (winDrop s w).xlt.epochs := by
  have hxlt := putWindow_xlt (winDrop s w) w c b x
  have hmem := putWindow_mem (winDrop s w) w c b x
  rw [windowNow_eq, winCounted_putWindow h]
  generalize putWindow (winDrop s w) w c b x = u at *
  obtain ⟨ext, hadd⟩ := foldl_addMap_eq true (newCover c b) u
  rw [hadd, ← hxlt, ← hmem]
  exact ⟨rfl, rfl, rfl⟩

end

/-! ### The commands -/

section
variable {s : State} {w : Nat} (hmig : ∀ e, e ∈ winCounted s w → migrating s e = false) (hfence : needsFence s w = false)
include hmig hfence

theorem doWindowSet_sets {c b x : Nat} (slot : Nat) (tag : Word32) (ht : tenantExists s (bits c 15 8) = true)
    (hcover : ∀ e, e ∈ newCover c b → e < 2880 ∧ reservedExt e = false ∧ (extRec s e).st = exREADY ∧ migrating s e = false)
    (hiso : isolated s (bits c 15 8) = false) :
    doWindowSet slot tag w c b x s = (windowNow w c b x s, Rep.ok) := by
  have hrange : (newCover c b).all (fun e => decide (e < 2880) && !reservedExt e) = true := by
    simpa using fun e he => ⟨(hcover e he).1, (hcover e he).2.1⟩
  have hready : (newCover c b).any (fun e => (extRec s e).st != exREADY && !migrating s e) = false := by
    simpa using fun e he hst => absurd (hcover e he).2.2.1 hst
  have hmoving : (newCover c b).any (migrating s) = false := by simpa using fun e he => (hcover e he).2.2.2
  have hold : (winCounted s w).any (migrating s) = false := by simpa using hmig
  simp only [doWindowSet, ht, hrange, hready, hmoving, hold, hiso, hfence, Bool.not_true, Bool.false_and, Bool.or_false,
    Bool.false_eq_true, if_false]

theorem doWindowClear_clears (slot : Nat) (tag : Word32) (hv : bit (winCtl s w) 0 = true) :
    doWindowClear slot tag w s = (windowClearNow w s, Rep.ok) := by
  have hold : (winCounted s w).any (migrating s) = false := by simpa using hmig
  simp only [doWindowClear, hv, hold, hfence, Bool.not_true, Bool.false_eq_true, if_false]

end

theorem needsFence_of_invalid {s : State} {w : Nat} (h : bit (winCtl s w) 0 = false) : needsFence s w = false := by
  rw [needsFence, winExtents_of_invalid h]
  rfl

theorem needsFence_of_room {s : State} {w : Nat} (h : fenceRoom s = true) : needsFence s w = false := by
  rw [needsFence, h, Bool.not_true, Bool.and_false]

theorem winBase_reply_ok (t : State) (slot op : Nat) (tag : Word32) (b : List Byte) (w : Nat) :
    winBase (reply t slot op tag stOK b) w = winBase t w := by
  unfold winBase
  rw [rf_reply_ok, rf_reply_ok]

/-- A clear makes the entry invalid, and writes no other register than its first. -/
theorem windowClearNow_spec (s : State) (w : Nat) :
    bit (winCtl (windowClearNow w s) w) 0 = false ∧ SameRegs (winDrop s w) (windowClearNow w s) [Reg.XLT_WIN_CTL w] := by
  refine ⟨?_, sameRegs_rput _ _ (List.mem_singleton_self _)⟩
  unfold bit winCtl windowClearNow
  rw [testBit_rg_rputF]
  simp

/-- The opening of a fence is about fences and epochs only. -/
theorem FenceOpened.congr {s t u : State} {f cause : Nat} {es : List Nat} (h : FenceOpened s t f es cause)
    (hf : u.xlt.fences = t.xlt.fences) (he : u.xlt.epochs = t.xlt.epochs) : FenceOpened s u f es cause := by
  obtain ⟨hfence, hothers, hepochs⟩ := h
  unfold epochOf at hepochs
  constructor
  · rw [hf, hfence]
  · rw [hf]
    exact hothers
  · unfold epochOf
    rw [he]
    exact hepochs

/-- Settles O25: an entry's registers, its counts, and the fence over what the old entry resolved to. -/
theorem windowsAreSetAndCleared : Obligations.WindowsAreSetAndCleared := by
  unfold Obligations.WindowsAreSetAndCleared
  refine ⟨fun s slot tag w c b x hrun ha hbad ht hcover hmig hiso => ⟨fun hinv => ?_, fun f hfree hne hnd => ?_⟩,
    fun s slot tag w hrun ha hw => ⟨fun hinv => ?_, fun f hfree hv hne hnd hmig => ?_⟩⟩
  · refine completes_done rfl hbad hrun ha fun m => ⟨_, _, _,
      doWindowSet_sets (s := { s with mbx := m }) hmig (needsFence_of_invalid hinv) slot tag ht hcover hiso, ?_⟩
    obtain ⟨hctl, hbase, hsrc, hregs, hrec⟩ := windowNow_spec (windowOk_of_not_bad hbad) { s with mbx := m }
    obtain ⟨hmem, hfences, -⟩ := windowNow_frame (windowOk_of_not_bad hbad) { s with mbx := m }
    rw [winDrop_of_invalid (s := { s with mbx := m }) hinv] at hregs hrec hmem hfences
    refine ⟨(rg_reply_answered _).trans hctl, (winBase_reply_ok ..).trans hbase, (rg_reply_answered _).trans hsrc,
      fun e he => (extRec_reply ..).trans ((hrec e).trans (if_pos he)), SameExts.reply fun e he => (hrec e).trans (if_neg he), ?_,
      SameRegs.reply hregs, ⟨_, rfl⟩, (reply_mem ..).trans hmem⟩
    rw [reply_xlt, hfences]
  · refine completes_done rfl hbad hrun ha fun m => ⟨_, _, _,
      doWindowSet_sets (s := { s with mbx := m }) hmig (needsFence_of_room hfree.room) slot tag ht hcover hiso, ?_⟩
    obtain ⟨hctl, hbase, hsrc, -, -⟩ := windowNow_spec (windowOk_of_not_bad hbad) { s with mbx := m }
    obtain ⟨hmem, hfences, hepochs⟩ := windowNow_frame (windowOk_of_not_bad hbad) { s with mbx := m }
    obtain ⟨hfence, -, hkept⟩ := winDrop_spec (s := { s with mbx := m }) (hfree.of_fences rfl) hne hnd
    exact ⟨(rg_reply_answered _).trans hctl, (winBase_reply_ok ..).trans hbase, (rg_reply_answered _).trans hsrc,
      (hfence.of_mbx.congr hfences hepochs).reply, ⟨_, rfl⟩, (reply_mem ..).trans (hmem.trans hkept)⟩
  · have hleft : (!bit (winCtl s w.toNat) 0) = true := by rw [hinv]; rfl
    exact completes_done rfl (by simp [atMost]; omega) hrun ha fun m => ⟨_, _, _, if_pos hleft, ⟨_, rfl⟩, SameRegs.reply (sameRegs_mbx s m []),
      SamePool.reply (samePool_mbx s m)⟩
  · refine completes_done rfl (by simp [atMost]; omega) hrun ha fun m => ⟨_, _, _,
      doWindowClear_clears (s := { s with mbx := m }) hmig (needsFence_of_room hfree.room) slot tag hv, ?_⟩
    obtain ⟨hclear, hregs⟩ := windowClearNow_spec { s with mbx := m } w.toNat
    obtain ⟨hfence, hregs0, hkept⟩ := winDrop_spec (s := { s with mbx := m }) (hfree.of_fences rfl) hne hnd
    have hsame : SameRegs s (winDrop { s with mbx := m } w.toNat) [Reg.XLT_WIN_CTL w.toNat] := SameRegs.of_regs hregs0 _
    refine ⟨?_, (hfence.of_mbx.congr (u := windowClearNow w.toNat { s with mbx := m }) rfl rfl).reply,
      SameRegs.reply (hsame.trans hregs), ⟨_, rfl⟩, (reply_mem ..).trans hkept⟩
    unfold winCtl at hclear ⊢
    rw [rg_reply_ok, hclear]

end Sys2Proof.Machine
end

section
/-! PROOFS. Registers written one after the other, and the ports under a request (O47). -/

namespace Sys2Proof.Machine
open Sys2Proof

/-! ### Registers written one after the other -/

/-- Each register of a list takes its word. -/
def putRegs (s : State) (l : List (Nat × Nat)) : State := l.foldl (fun s e => rput s e.1 e.2) s

theorem putRegs_cons (s : State) (e : Nat × Nat) (l : List (Nat × Nat)) : putRegs s (e :: l) = putRegs (rput s e.1 e.2) l := rfl

theorem putRegs_append (s : State) (l l' : List (Nat × Nat)) : putRegs s (l ++ l') = putRegs (putRegs s l) l' := List.foldl_append

theorem rg_putRegs_of_not_mem {l : List (Nat × Nat)} (s : State) {a : Nat} (h : ∀ e, e ∈ l → e.1 ≠ a) : rg (putRegs s l) a = rg s a := by
  induction l generalizing s with
  | nil => rfl
  | cons e l ih =>
    rw [putRegs_cons, ih _ fun x hx => h x (List.mem_cons_of_mem e hx), rg_rput_ne _ _ (h e List.mem_cons_self).symm]

/-- A register that is written with one word only reads as that word. -/
theorem rg_putRegs_of_mem {l : List (Nat × Nat)} (s : State) {a v : Nat} (hmem : (a, v) ∈ l) (h : ∀ e, e ∈ l → e.1 = a → e.2 = v) :
    rg (putRegs s l) a = v % 2 ^ 32 := by
  induction l generalizing s with
  | nil => exact absurd hmem List.not_mem_nil
  | cons e l ih =>
    rw [putRegs_cons]
    by_cases hlater : (a, v) ∈ l
    · exact ih _ hlater fun x hx => h x (List.mem_cons_of_mem e hx)
    · obtain rfl : (a, v) = e := (List.mem_cons.1 hmem).resolve_right hlater
      rw [rg_putRegs_of_not_mem, rg_rput_self]
      rintro ⟨b, w⟩ hx rfl
      obtain rfl : w = v := h _ (List.mem_cons_of_mem _ hx) rfl
      exact hlater hx

theorem sameRegs_putRegs (s : State) (l : List (Nat × Nat)) : SameRegs s (putRegs s l) (l.map Prod.fst) :=
  fun _ ha => rg_putRegs_of_not_mem s fun _ he h => ha (h ▸ List.mem_map_of_mem he)

theorem samePool_putRegs (s : State) (l : List (Nat × Nat)) : SamePool s (putRegs s l) :=
  List.foldlRecOn (motive := SamePool s) _ _ (samePool_refl s) fun t h _ _ => h.trans (samePool_rput t _ _)

@[simp] theorem putRegs_fab (s : State) (l : List (Nat × Nat)) : (putRegs s l).fab = s.fab :=
  foldl_keeps State.fab (fun (s : State) (e : Nat × Nat) => rput s e.1 e.2) (fun _ _ => rfl) l s

/-! ### Ports -/

theorem port_congr {s t : State} (h : t.fab = s.fab) (k : Nat) : port t k = port s k := by
  unfold port
  rw [h]

@[simp] theorem port_reply (s : State) (slot op : Nat) (tag : Word32) (st : Nat) (b : List Byte) (k : Nat) :
    port (reply s slot op tag st b) k = port s k :=
  port_congr (reply_fab s slot op tag st b) k

/-- A CTRL flit takes the next turn of the credits, and changes nothing else of the ports. -/
theorem port_emitCtrl (s : State) (k sub : Nat) (rest : List Byte) (j : Nat) :
    port (emitCtrl s k sub rest) j = if j = k then { port s k with crTurn := ((port s k).crTurn + 1) % 9 } else port s j :=
  port_setPort s k { port s k with crTurn := ((port s k).crTurn + 1) % 9 } j

/-- The register that counts the operations of a kind. -/
def opCounter (k : Nat) (op : LinkOp) : Nat := if op.retrain then Reg.FPT_RETRAINS k else Reg.FPT_WIDTHCHG k

/-- The port of an operation that this end starts. -/
def askedPort (s : State) (k : Nat) (op : LinkOp) (reason : Nat) : Port :=
  { port s k with
    st := if op.retrain then .retrain else .width
    ask := some (op, reason)
    oper := some op
    operDue := now s + rf s (Reg.FPT_TIMERS k) 25 18 * 1000 }

theorem startOp_eq {s : State} {k : Nat} (h : (port s k).st = .up) (op : LinkOp) (reason : Nat) :
    ∃ sub rest, startOp s k op reason = emitCtrl (bump (setPort s k (askedPort s k op reason)) (opCounter k op) 1) k sub rest := by
  unfold startOp askedPort opCounter
  simp only [h, if_true]
  split
  · exact ⟨_, _, rfl⟩
  · exact ⟨_, _, rfl⟩

/-- An operation of a port that is UP (R330, R334, R335). -/
theorem startOp_up {s : State} {k : Nat} (h : (port s k).st = .up) (op : LinkOp) (reason : Nat) :
    (port (startOp s k op reason) k).st = (if op.retrain then .retrain else .width) ∧ (port (startOp s k op reason) k).oper = some op
      ∧ (port (startOp s k op reason) k).operDue = now s + rf s (Reg.FPT_TIMERS k) 25 18 * 1000
      ∧ (∀ j, j ≠ k → port (startOp s k op reason) j = port s j)
      ∧ SameRegs s (startOp s k op reason) [opCounter k op] ∧ SamePool s (startOp s k op reason) := by
  obtain ⟨sub, rest, hstart⟩ := startOp_eq h op reason
  have hport : port (bump (setPort s k (askedPort s k op reason)) (opCounter k op) 1) k = askedPort s k op reason :=
    (port_setPort s k _ k).trans (if_pos rfl)
  have hother : ∀ j, j ≠ k → port (bump (setPort s k (askedPort s k op reason)) (opCounter k op) 1) j = port s j := fun j hj =>
    (port_setPort s k _ j).trans (if_neg hj)
  have hregs : SameRegs s (bump (setPort s k (askedPort s k op reason)) (opCounter k op) 1) [opCounter k op] :=
    SameRegs.trans (SameRegs.of_regs rfl _) (sameRegs_bump (setPort s k _) 1 (List.mem_singleton_self _))
  have hpool : SamePool s (bump (setPort s k (askedPort s k op reason)) (opCounter k op) 1) :=
    SamePool.trans (t := setPort s k (askedPort s k op reason)) ⟨rfl, rfl, rfl, rfl, rfl, rfl, rfl⟩ (samePool_rput _ _ _)
  rw [hstart]
  generalize bump (setPort s k (askedPort s k op reason)) (opCounter k op) 1 = u at *
  rw [port_emitCtrl, if_pos rfl, hport]
  refine ⟨rfl, rfl, rfl, fun j hj => ?_, hregs.trans (SameRegs.of_regs rfl _), hpool.trans ⟨rfl, rfl, rfl, rfl, rfl, rfl, rfl⟩⟩
  rw [port_emitCtrl, if_neg hj, hother j hj]

end Sys2Proof.Machine
end

section
/-! PROOFS. The fabric commands (O47). -/

namespace Sys2Proof.Machine
open Sys2Proof

/-! ### The drain of a port (R361) -/

/-- The final reply of the one command that is deferred, to a session that is open. -/
theorem finishAll_only {s : State} {d : Deferred} {p : Wait → Bool} (hd : s.mbx.deferred = [d]) (hp : p d.wait = true)
    (hopen : session s d.slot ≠ none) (htwin : s.twin.replies = []) (st : Nat) (b : List Byte) :
    finishAll s p st b = reply { s with mbx := { s.mbx with deferred := [] } } d.slot d.opcode d.tag st b := by
  have hsome : (tget s.mbx.sessions d.slot).isSome = true := Option.isSome_iff_ne_none.2 hopen
  simp [finishAll, hd, hp, finalReply, htwin, hsome]

/-- The port that a drain leaves behind. -/
def drainedPort (p : Port) : Port := { Port.init with st := .disabled, rx := p.rx, txq := p.txq, lock := p.lock, ident := p.ident }

theorem execPortDrainDone_eq {s : State} {k slot : Nat} {tag : Word32} (h : (port s k).draining = true) (hopen : session s slot ≠ none)
    (htwin : s.twin.replies = [])
    (hd : s.mbx.deferred = [{ slot := slot, opcode := 0x0402, tag := tag, wait := .portDisable k }]) :
    exec (.portDrainDone k) s = .next (reply { setPort s k (drainedPort (port s k)) with mbx := { s.mbx with deferred := [] } }
      slot 0x0402 tag stOK []) := by
  have hfin := finishAll_only (s := setPort s k (drainedPort (port s k))) (p := fun w => w == .portDisable k) hd (by simp) hopen htwin stOK []
  unfold drainedPort at hfin ⊢
  simp only [exec, execPortDrainDone, h, if_true]
  rw [hfin]
  simp
  rfl

/-! ### Rank tables (R73, R75, R76) -/

/-- The entries of a segment of rank coordinates, at every port. -/
def rankEntries (bank base : Nat) (l : List Nat) : List (Nat × Nat) :=
  (List.range 32).flatMap fun k => l.zipIdx.map fun e => (Reg.FPT_RANK k bank (base + e.2), e.1 + 2 ^ 31)

/-- The word of a job register that selects a segment. -/
def jobWord (bank base n : Nat) : Nat := base + 2 ^ 12 * n + 2 ^ 24 * bank + 2 ^ 31

/-- The job register of every port. -/
def jobEntries (j w : Nat) : List (Nat × Nat) := (List.range 32).map fun k => (Reg.FPT_RJOB k j, w)

/-- The bank that a job does not select. -/
def otherBank (s : State) (j : Nat) : Nat := 1 - rf s (Reg.FPT_RJOB 0 j) 24 24

/-- Another job's segment in the bank that would be overwritten. -/
def rankClash (s : State) (j base n : Nat) : Bool :=
  (List.range 64).any fun i => i != j && bit (rg s (Reg.FPT_RJOB 0 i)) 31 && bits (rg s (Reg.FPT_RJOB 0 i)) 24 24 == otherBank s j
    && overlaps base n (bits (rg s (Reg.FPT_RJOB 0 i)) 11 0) (bits (rg s (Reg.FPT_RJOB 0 i)) 22 12)

theorem doRankTable_eq (s : State) (j base : Nat) (l : List Nat) :
    doRankTable j base l s = if rankClash s j base l.length then (s, .done stCONFLICT [])
      else (putRegs s (rankEntries (otherBank s j) base l ++ jobEntries j (jobWord (otherBank s j) base l.length)), Rep.ok) := by
  unfold putRegs rankEntries jobEntries
  simp only [List.foldl_append, List.foldl_flatMap, List.foldl_map]
  rfl

theorem doRankTable_writes {s : State} {j base : Nat} {l : List Nat} (h : rankClash s j base l.length = false) :
    doRankTable j base l s
      = (putRegs s (rankEntries (otherBank s j) base l ++ jobEntries j (jobWord (otherBank s j) base l.length)), .done stOK []) := by
  rw [doRankTable_eq, h]
  rfl

theorem doRankTable_conflicts {s : State} {j base : Nat} {l : List Nat} (h : rankClash s j base l.length = true) :
    doRankTable j base l s = (s, .done stCONFLICT []) := by
  rw [doRankTable_eq, h]
  rfl

theorem mem_rankEntries {bank base : Nat} {l : List Nat} {e : Nat × Nat} :
    e ∈ rankEntries bank base l ↔ ∃ k x v, k < 32 ∧ l[x]? = some v ∧ e = (Reg.FPT_RANK k bank (base + x), v + 2 ^ 31) := by
  simp only [rankEntries, List.mem_flatMap, List.mem_range, List.mem_map, Prod.exists, List.mem_zipIdx_iff_getElem?]
  constructor
  · rintro ⟨k, hk, v, x, hx, rfl⟩
    exact ⟨k, x, v, hk, hx, rfl⟩
  · rintro ⟨k, x, v, hk, hx, rfl⟩
    exact ⟨k, hk, v, x, hx, rfl⟩

theorem mem_jobEntries {j w : Nat} {e : Nat × Nat} : e ∈ jobEntries j w ↔ ∃ k, k < 32 ∧ e = (Reg.FPT_RJOB k j, w) := by
  simp [jobEntries, eq_comm]

theorem jobWord_fields {bank base n : Nat} (hbank : bank ≤ 1) (hbase : base < 4096) (hn : n ≤ 1024) :
    jobWord bank base n < 2 ^ 32 ∧ bit (jobWord bank base n) 31 = true ∧ bits (jobWord bank base n) 22 12 = n
      ∧ bits (jobWord bank base n) 24 24 = bank ∧ bits (jobWord bank base n) 11 0 = base := by
  unfold jobWord bit bits
  rw [Nat.testBit_eq_decide_div_mod_eq]
  refine ⟨by omega, by simp; omega, by simp; omega, by simp; omega, by simp; omega⟩

theorem rankWord_fields {v : Nat} (hv : v < 2 ^ 17) :
    v + 2 ^ 31 < 2 ^ 32 ∧ bit (v + 2 ^ 31) 31 = true ∧ bits (v + 2 ^ 31) 16 0 = v := by
  unfold bit bits
  rw [Nat.testBit_eq_decide_div_mod_eq]
  refine ⟨by omega, by simp; omega, by simp; omega⟩

/-- Entries of rank tables lie apart from each other and from the job registers. -/
theorem rank_inj {k k' b x x' : Nat} (hx : x < 4096) (hx' : x' < 4096) (h : Reg.FPT_RANK k b x = Reg.FPT_RANK k' b x') :
    k = k' ∧ x = x' := by
  unfold Reg.FPT_RANK at h
  omega

theorem rjob_inj {k k' j j' : Nat} (hj : j < 64) (hj' : j' < 64) (h : Reg.FPT_RJOB k j = Reg.FPT_RJOB k' j') : k = k' ∧ j = j' := by
  unfold Reg.FPT_RJOB at h
  omega

theorem rank_ne_rjob {k k' b x j : Nat} (hb : b ≤ 1) (hx : x < 4096) (hj : j < 64) : Reg.FPT_RANK k b x ≠ Reg.FPT_RJOB k' j := by
  unfold Reg.FPT_RANK Reg.FPT_RJOB
  omega

section
variable {bank base j : Nat} {l : List Nat} (hbank : bank ≤ 1) (hj : j < 64) (hfit : base + l.length ≤ 4096)
include hbank hj hfit

theorem rg_rjob_putRegs (s : State) {k i w : Nat} (hk : k < 32) (hi : i < 64) :
    rg (putRegs s (rankEntries bank base l ++ jobEntries j w)) (Reg.FPT_RJOB k i)
      = if i = j then w % 2 ^ 32 else rg s (Reg.FPT_RJOB k i) := by
  have hrank : ∀ e, e ∈ rankEntries bank base l → e.1 ≠ Reg.FPT_RJOB k i := fun e he => by
    obtain ⟨k', x, v, -, hx, rfl⟩ := mem_rankEntries.1 he
    obtain ⟨hlt, -⟩ := List.getElem?_eq_some_iff.1 hx
    exact rank_ne_rjob hbank (by omega) hi
  split
  next h =>
    subst h
    refine rg_putRegs_of_mem s (List.mem_append_right _ (mem_jobEntries.2 ⟨k, hk, rfl⟩)) fun e he hea => ?_
    rcases List.mem_append.1 he with he | he
    · exact absurd hea (hrank e he)
    · obtain ⟨k', -, rfl⟩ := mem_jobEntries.1 he
      rfl
  next h =>
    refine rg_putRegs_of_not_mem s fun e he => ?_
    rcases List.mem_append.1 he with he | he
    · exact hrank e he
    · obtain ⟨k', -, rfl⟩ := mem_jobEntries.1 he
      exact fun heq => h (rjob_inj hj hi heq).2.symm

theorem rg_rank_putRegs (s : State) {k x v w : Nat} (hk : k < 32) (hx : l[x]? = some v) :
    rg (putRegs s (rankEntries bank base l ++ jobEntries j w)) (Reg.FPT_RANK k bank (base + x)) = (v + 2 ^ 31) % 2 ^ 32 := by
  obtain ⟨hlt, -⟩ := List.getElem?_eq_some_iff.1 hx
  refine rg_putRegs_of_mem s (List.mem_append_left _ (mem_rankEntries.2 ⟨k, x, v, hk, hx, rfl⟩)) fun e he hea => ?_
  rcases List.mem_append.1 he with he | he
  · obtain ⟨k', x', v', -, hx', rfl⟩ := mem_rankEntries.1 he
    obtain ⟨hlt', -⟩ := List.getElem?_eq_some_iff.1 hx'
    obtain ⟨-, hxx⟩ := rank_inj (by omega) (by omega) hea
    obtain rfl : x' = x := by omega
    obtain rfl : v = v' := Option.some.inj (hx.symm.trans hx')
    rfl
  · obtain ⟨k', -, rfl⟩ := mem_jobEntries.1 he
    exact absurd hea.symm (rank_ne_rjob hbank (by omega) hj)

/-- The rank coordinates of a job whose table has been written. -/
theorem rankCoord_putRegs (hn : l.length ≤ 1024) (hne : l ≠ []) (hv : ∀ v, v ∈ l → v < 2 ^ 17) (s : State) {k : Nat} (hk : k < 32) (x : Nat) :
    rankCoord (putRegs s (rankEntries bank base l ++ jobEntries j (jobWord bank base l.length))) k j x = l[x]? := by
  have hpos := List.length_pos_iff.2 hne
  obtain ⟨hw32, hvalid, hcount, hsel, hstart⟩ := jobWord_fields hbank (base := base) (by omega) hn
  have hjob := rg_rjob_putRegs hbank hj hfit s (w := jobWord bank base l.length) hk hj
  rw [if_pos rfl, Nat.mod_eq_of_lt hw32] at hjob
  unfold rankCoord
  simp only [hjob, hvalid, hcount, hsel, hstart, Bool.true_and, decide_eq_true_eq]
  split
  next hlt =>
    have hx : l[x]? = some l[x] := List.getElem?_eq_getElem hlt
    obtain ⟨hv32, hentry, hcoord⟩ := rankWord_fields (hv _ (List.getElem_mem hlt))
    rw [rg_rank_putRegs hbank hj hfit s hk hx, Nat.mod_eq_of_lt hv32, if_pos hentry, hcoord, hx]
  next hge => exact (List.getElem?_eq_none (by omega)).symm

end

/-! ### Routes, legacy nodes and request settings (R70, R359, R361, R363) -/

/-- The entry of a routing table that a word of ROUTE_SET names, and what it takes. -/
def routeEntry (w : Word64) : Nat × Nat :=
  (if bit w.toNat 0 then Reg.FPT_RTDEV (bits w.toNat 6 1) else Reg.FPT_RTDOM (bits w.toNat 6 1), bits w.toNat 63 32)

/-- The node that a word of LEGACY_SET names, and what it takes. -/
def legacyEntry (w : Word64) : Nat × Nat := (Reg.XLT_LEGNODE (bits w.toNat 9 0), bits w.toNat 26 10 + 2 ^ 31 * bits w.toNat 27 27)

theorem routeEntry_inj {w w' : Word64} (h : (routeEntry w).1 = (routeEntry w').1) : bits w.toNat 6 0 = bits w'.toNat 6 0 := by
  have hparts : ∀ n, bits n 6 0 = 2 * bits n 6 1 + (if bit n 0 then 1 else 0) ∧ bits n 6 1 < 64 := fun n => by
    unfold bits bit
    rw [Nat.testBit_zero]
    refine ⟨?_, Nat.mod_lt _ (by decide)⟩
    rcases Nat.mod_two_eq_zero_or_one n with h | h <;> simp [h] <;> omega
  obtain ⟨hw, hlt⟩ := hparts w.toNat
  obtain ⟨hw', hlt'⟩ := hparts w'.toNat
  unfold routeEntry Reg.FPT_RTDEV Reg.FPT_RTDOM at h
  rw [hw, hw']
  dsimp only at h
  split at h
  next h0 =>
    split at h
    next h1 => rw [if_pos h0, if_pos h1]; omega
    next h1 => omega
  next h0 =>
    split at h
    next h1 => omega
    next h1 => rw [if_neg h0, if_neg h1]; omega

theorem legacyEntry_inj {w w' : Word64} (h : (legacyEntry w).1 = (legacyEntry w').1) : bits w.toNat 9 0 = bits w'.toNat 9 0 := by
  unfold legacyEntry Reg.XLT_LEGNODE at h
  omega

/-- Words that name different entries each reach theirs. -/
theorem rg_putRegs_map {f : Word64 → Nat × Nat} {l : List Word64} (hf : ∀ w w', w ∈ l → w' ∈ l → (f w).1 = (f w').1 → w = w')
    (s : State) {w : Word64} (hw : w ∈ l) : rg (putRegs s (l.map f)) (f w).1 = (f w).2 % 2 ^ 32 := by
  refine rg_putRegs_of_mem s (List.mem_map_of_mem hw) fun e he hea => ?_
  obtain ⟨w', hw', rfl⟩ := List.mem_map.1 he
  rw [hf w' w hw' hw hea]

/-- The request settings. -/
def putFabric (s : State) (h q r w : Nat) : State :=
  rputF (rputF (rputF (rputF s Reg.FPT_GCTL 3 0 h) Reg.FPT_REQ 13 0 q) Reg.FPT_REQ 16 14 r) Reg.FPT_REPLAY 15 0 w

theorem putFabric_spec (s : State) {h q r w : Nat} (hh : h ≤ 15) (hq : q ≤ 10000) (hr : r ≤ 7) (hw : w ≤ 65535) :
    rf (putFabric s h q r w) Reg.FPT_GCTL 3 0 = h ∧ rf (putFabric s h q r w) Reg.FPT_REQ 13 0 = q
      ∧ rf (putFabric s h q r w) Reg.FPT_REQ 16 14 = r ∧ rf (putFabric s h q r w) Reg.FPT_REPLAY 15 0 = w
      ∧ SameRegs s (putFabric s h q r w) [Reg.FPT_GCTL, Reg.FPT_REQ, Reg.FPT_REPLAY] ∧ SamePool s (putFabric s h q r w) := by
  unfold putFabric
  refine ⟨?_, ?_, ?_, ?_, ?_, ?_⟩
  · rw [rf_rputF_ne _ _ _ _ _ _ (by decide), rf_rputF_ne _ _ _ _ _ _ (by decide), rf_rputF_ne _ _ _ _ _ _ (by decide),
      rf_rputF_self _ _ (by decide)]
    omega
  · rw [rf_rputF_ne _ _ _ _ _ _ (by decide), rf_rputF_below _ _ _ (by decide) (by decide), rf_rputF_self _ _ (by decide)]
    omega
  · rw [rf_rputF_ne _ _ _ _ _ _ (by decide), rf_rputF_self _ _ (by decide)]
    omega
  · rw [rf_rputF_self _ _ (by decide)]
    omega
  · exact (((sameRegs_rput _ _ (by simp)).trans (sameRegs_rput _ _ (by simp))).trans (sameRegs_rput _ _ (by simp))).trans
      (sameRegs_rput _ _ (by simp))
  · exact (((samePool_rput _ _ _).trans (samePool_rput _ _ _)).trans (samePool_rput _ _ _)).trans (samePool_rput _ _ _)

theorem rankClash_none {s : State} {j : Nat} (h : ∀ i, i < 64 → i ≠ j → bit (rg s (Reg.FPT_RJOB 0 i)) 31 = false) (base n : Nat) :
    rankClash s j base n = false := by
  unfold rankClash
  simp only [List.any_eq_false, List.mem_range]
  intro i hi
  by_cases hij : i = j
  · simp [hij]
  · simp [h i hi hij]

theorem rankClash_some {s : State} {j base n i : Nat} (hi : i < 64) (hij : i ≠ j) (hvalid : bit (rg s (Reg.FPT_RJOB 0 i)) 31 = true)
    (hbank : rf s (Reg.FPT_RJOB 0 i) 24 24 = otherBank s j) (hn : 0 < n) (hcount : 0 < rf s (Reg.FPT_RJOB 0 i) 22 12)
    (hbase : base = rf s (Reg.FPT_RJOB 0 i) 11 0) : rankClash s j base n = true := by
  unfold rf at hbank hcount hbase
  have hover : overlaps base n (bits (rg s (Reg.FPT_RJOB 0 i)) 11 0) (bits (rg s (Reg.FPT_RJOB 0 i)) 22 12) = true := by
    unfold overlaps
    rw [← hbase]
    simp [hn, hcount]
  exact List.any_eq_true.2 ⟨i, List.mem_range.2 hi, by simp [hij, hvalid, hbank, hover]⟩

/-- The widths that PORT_RETRAIN takes, with the least WIDTH_MIN that allows them (R324, R334). -/
theorem widths_allowed : ∀ p ∈ [(16#64, 0), (16#64, 1), (16#64, 2), (16#64, 3), (12#64, 1), (12#64, 2), (12#64, 3), (8#64, 2),
    (8#64, 3), (4#64, 3)],
    widestCode p.1.toNat ≤ p.2 ∧ widthOf (widestCode p.1.toNat) = p.1.toNat ∧ p.1 ≠ 0#64 ∧ [0, 16, 12, 8, 4].contains p.1.toNat = true := by
  decide

theorem widths_known {w : Word64} (h : w ∈ [0#64, 16#64, 12#64, 8#64, 4#64]) : [0, 16, 12, 8, 4].contains w.toNat = true :=
  List.contains_iff_mem.2 (List.mem_map_of_mem (f := BitVec.toNat) h)

/-- The words of PORT_SET fit their registers. -/
theorem portSetOk_words {p a c m : Word64} (h : portSetOk p a c m = true) : c.toNat < 2 ^ 32 ∧ m.toNat < 2 ^ 32 := by
  simp only [portSetOk, Bool.and_eq_true] at h
  obtain ⟨⟨⟨-, hc⟩, hm⟩, -⟩ := h
  exact ⟨toNat_lt_of_onlyBits (by decide) hc, toNat_lt_of_onlyBits (by decide) hm⟩

theorem all_onlyBits {l : List Word64} {m : Nat} (h : ∀ w, w ∈ l → onlyBits w m = true) : (!l.all fun w => onlyBits w m) = false := by
  rw [List.all_eq_true.2 h]
  rfl

/-- Parameters of RANK_TABLE_SET in range (R75). -/
theorem rankBad_false {j b : Word64} {l : List Word64} (hj : j.toNat ≤ 63) (hne : l ≠ []) (hlen : l.length ≤ 1024)
    (hfit : b.toNat + l.length ≤ 4096) (hl : ∀ w, w ∈ l → onlyBits w 0x1FFFF = true) :
    (!atMost j 63 || !atMost b 4095 || l.isEmpty || decide (1024 < l.length) || decide (4096 < b.toNat + l.length)
      || !l.all (fun w => onlyBits w 0x1FFFF)) = false := by
  have hpos := List.length_pos_iff.2 hne
  rw [all_onlyBits hl]
  simp [atMost, hj, hne]
  omega

theorem rankCoord_reply_ok (t : State) (slot op : Nat) (tag : Word32) (b : List Byte) (k j x : Nat) :
    rankCoord (reply t slot op tag stOK b) k j x = rankCoord t k j x := by
  unfold rankCoord
  simp only [rg_reply_ok]

/-- Settles O47: a port's record, or registers written one after the other. -/
theorem fabricIsSetByCommand : Obligations.FabricIsSetByCommand := by
  unfold Obligations.FabricIsSetByCommand
  refine ⟨fun s slot tag d v hrun ha hd hv => ⟨fun hnone => ?_, fun hsome => ?_⟩,
    fun s slot k tag p a c m hrun ha hroom hok hk => ⟨fun h0 => ?_, fun h1 hdrain hst => ?_, fun h2 hdrain hst => ?_⟩,
    fun s k slot tag hdrain hopen htwin hd => ?_, fun s slot tag p hrun hp => ?_,
    fun s slot tag p w hrun ha hroom hp => ⟨fun h0 hup => ?_, fun hw hup => ?_, fun hw hdown => ?_⟩,
    fun s slot tag l hrun ha hl hone => ?_,
    fun s slot tag h q r w hrun ha hh hq hq' hr hw hw' => ⟨fun hwin => ?_, fun hwin => ?_⟩,
    fun s slot tag j b l hrun ha hj hne hlen hfit hl => ⟨fun hfree => ?_, fun hclash => ?_⟩,
    fun s slot tag c e l hrun ha hc he hl hone => ?_⟩
  case refine_1 =>
    have hbad : (!atMost d 63 || !atMost v 63) = false := by simp [atMost, hd, hv]
    have hopen : ¬ s.fab.coord.isSome = true := by simp [hnone]
    exact completes_done rfl hbad hrun ha fun m => ⟨_, _, _, if_neg hopen, reply_fab .., ⟨_, rfl⟩, SameRegs.reply (SameRegs.of_regs rfl []),
      SamePool.reply ⟨rfl, rfl, rfl, rfl, rfl, rfl, rfl⟩⟩
  case refine_2 =>
    have hbad : (!atMost d 63 || !atMost v 63) = false := by simp [atMost, hd, hv]
    have htaken : s.fab.coord.isSome = true := Option.isSome_iff_ne_none.2 hsome
    exact completes_done rfl hbad hrun ha fun m => ⟨_, _, _, if_pos htaken, reply_fab .., ⟨_, rfl⟩, SameRegs.reply (sameRegs_mbx s m []),
      SamePool.reply (samePool_mbx s m)⟩
  case refine_3 =>
    subst hk
    have hctl : Reg.FPT_CTL p.toNat ≠ Reg.FPT_TIMERS p.toNat := by unfold Reg.FPT_CTL Reg.FPT_TIMERS; omega
    obtain ⟨hc, hm⟩ := portSetOk_words hok
    refine completes_done rfl (by rw [hok]; rfl) hrun ha fun mb => ⟨_, _, _, if_pos h0, ?_, ?_, ?_, reply_fab .., ⟨_, rfl⟩, ?_⟩
    · rw [rg_reply_answered, rg_rput_ne _ _ hctl, rg_rput_self, Nat.mod_eq_of_lt hc]
    · rw [rg_reply_answered, rg_rput_self, Nat.mod_eq_of_lt hm]
    · exact SameRegs.reply ((sameRegs_rput { s with mbx := mb } _ (by simp)).trans (sameRegs_rput _ _ (by simp)))
    · exact SamePool.reply (((samePool_mbx s mb).trans (samePool_rput _ _ _)).trans (samePool_rput _ _ _))
  case refine_4 =>
    subst hk
    refine completes_defer rfl (by rw [hok]; rfl) hrun ha hroom fun mb hmb => ⟨startPortDrain { s with mbx := mb } p.toNat, [],
      .portDisable p.toNat,
      ?_, fun m' hm' => ⟨?_, fun j hj => ?_, ⟨_, rfl⟩, ?_, SameRegs.reply (SameRegs.of_regs rfl []), SamePool.reply ⟨rfl, rfl, rfl,
        rfl, rfl, rfl, rfl⟩⟩⟩
    · have hrunning : ¬ (port { s with mbx := mb } p.toNat).draining = true := by rw [Bool.not_eq_true]; exact hdrain
      exact (if_neg (by rw [h1]; decide)).trans ((if_pos h1).trans ((if_neg hrunning).trans (if_neg hst)))
    · exact (port_reply ..).trans ((port_setPort { s with mbx := m' } _ _ _).trans (if_pos rfl))
    · exact (port_reply ..).trans ((port_setPort { s with mbx := m' } _ _ _).trans (if_neg hj))
    · rw [reply_mbx_deferred, ← hmb]
      exact hm'
  case refine_5 =>
    subst hk
    refine completes_done rfl (by rw [hok]; rfl) hrun ha fun mb =>
      ⟨setPort { s with mbx := mb } p.toNat { port s p.toNat with st := .down }, _, _, ?_, ?_, fun j hj => ?_, ⟨_, rfl⟩,
        SameRegs.reply (SameRegs.of_regs rfl []), SamePool.reply ⟨rfl, rfl, rfl, rfl, rfl, rfl, rfl⟩⟩
    · have hrunning : ¬ (port { s with mbx := mb } p.toNat).draining = true := by rw [Bool.not_eq_true]; exact hdrain
      exact (if_neg (by rw [h2]; decide)).trans ((if_neg (by rw [h2]; decide)).trans ((if_neg hrunning).trans (if_pos hst)))
    · exact (port_reply ..).trans ((port_setPort { s with mbx := mb } _ _ _).trans (if_pos rfl))
    · exact (port_reply ..).trans ((port_setPort { s with mbx := mb } _ _ _).trans (if_neg hj))
  case refine_6 =>
    have hport : ∀ j, port (setPort s k (drainedPort (port s k))) j = if j = k then drainedPort (port s k) else port s j :=
      port_setPort s k _
    refine ⟨_, execPortDrainDone_eq hdrain hopen htwin hd, ?_⟩
    have hself : port (reply { setPort s k (drainedPort (port s k)) with mbx := { s.mbx with deferred := [] } } slot 0x0402 tag stOK []) k
        = drainedPort (port s k) := (port_reply ..).trans ((hport k).trans (if_pos rfl))
    refine ⟨congrArg Port.st hself, congrArg Port.draining hself, congrArg Port.retry hself, (congrArg Port.rx hself).trans rfl,
      fun j hj => (port_reply ..).trans ((hport j).trans (if_neg hj)), reply_mbx_deferred .., ⟨_, rfl⟩,
      SameRegs.reply (SameRegs.of_regs rfl []), SamePool.reply ⟨rfl, rfl, rfl, rfl, rfl, rfl, rfl⟩⟩
  case refine_7 =>
    have hbad : (!atMost p 31) = false := by simpa [atMost] using hp
    exact completes_query rfl hbad hrun fun m => ⟨_, _, _, rfl, ⟨_, rfl⟩, reply_fab .., SameRegs.reply (sameRegs_mbx s m []),
      SamePool.reply (samePool_mbx s m)⟩
  case refine_8 =>
    have hbad : (!atMost p 31 || !([0, 16, 12, 8, 4].contains w.toNat)) = false := by simp [atMost, hp, h0]
    refine completes_defer rfl hbad hrun ha hroom fun mb _ => ⟨_, _, _,
      (if_neg (not_not.2 hup)).trans (if_pos h0), fun m' _ => ?_⟩
    obtain ⟨hst, hoper, hdue, hothers, hregs, hpool⟩ := startOp_up (s := { s with mbx := mb }) hup { retrain := true, width := 4 } 3
    exact ⟨(congrArg Port.st (port_reply ..)).trans hst, (congrArg Port.oper (port_reply ..)).trans hoper,
      (congrArg Port.operDue (port_reply ..)).trans hdue, fun j hj => (port_reply ..).trans (hothers j hj), SameRegs.reply hregs,
      ⟨_, rfl⟩, SamePool.reply (((samePool_mbx s mb).trans hpool).trans (samePool_mbx _ m'))⟩
  case refine_9 =>
    obtain ⟨hle, hwidth, hne, hknown⟩ := widths_allowed _ hw
    dsimp only at hle hwidth hne hknown
    have hbad : (!atMost p 31 || !([0, 16, 12, 8, 4].contains w.toNat)) = false := by simp only [hknown, atMost, hp]; rfl
    refine completes_defer rfl hbad hrun ha hroom fun mb _ => ⟨_, _, _,
      (if_neg (not_not.2 hup)).trans ((if_neg hne).trans (if_neg (Nat.not_lt.2 hle))), fun m' _ => ?_⟩
    obtain ⟨hst, hoper, -, hothers, hregs, hpool⟩ := startOp_up (s := { s with mbx := mb }) hup
      { retrain := false, width := widestCode w.toNat } 2
    exact ⟨(congrArg Port.st (port_reply ..)).trans hst, ⟨_, (congrArg Port.oper (port_reply ..)).trans hoper, rfl, hwidth⟩,
      fun j hj => (port_reply ..).trans (hothers j hj), SameRegs.reply hregs, ⟨_, rfl⟩,
        SamePool.reply (((samePool_mbx s mb).trans hpool).trans (samePool_mbx _ m'))⟩
  case refine_10 =>
    have hbad : (!atMost p 31 || !([0, 16, 12, 8, 4].contains w.toNat)) = false := by simp only [widths_known hw, atMost, hp]; rfl
    exact completes_done rfl hbad hrun ha fun m => ⟨_, _, _, if_pos hdown, reply_fab .., ⟨_, rfl⟩, SameRegs.reply (sameRegs_mbx s m []),
      SamePool.reply (samePool_mbx s m)⟩
  case refine_11 =>
    have hroute : ∀ w w', w ∈ l → w' ∈ l → (routeEntry w).1 = (routeEntry w').1 → w = w' := fun w w' hw hw' h =>
      hone w w' hw hw' (routeEntry_inj h)
    refine completes_done rfl (all_onlyBits hl) hrun ha fun m => ⟨putRegs { s with mbx := m } (l.map routeEntry), _, _, ?_, fun w hw => ?_, ?_,
      ?_, ⟨_, rfl⟩, SamePool.reply ((samePool_mbx s m).trans (samePool_putRegs _ _))⟩
    · unfold putRegs
      rw [List.foldl_map]
      rfl
    · have hlt : (routeEntry w).2 < 2 ^ 32 := Nat.mod_lt _ (by decide)
      exact (rg_reply_answered _).trans ((rg_putRegs_map hroute { s with mbx := m } hw).trans (Nat.mod_eq_of_lt hlt))
    · have hsame := sameRegs_putRegs { s with mbx := m } (l.map routeEntry)
      rw [List.map_map] at hsame
      exact SameRegs.reply hsame
    · rw [reply_fab, putRegs_fab]
  case refine_12 =>
    have hbad : (!atMost h 15 || !within q 10 10000 || !atMost r 7 || !within w 20 65535
        || decide (w.toNat < r.toNat * q.toNat + 50)) = false := by
      simp [atMost, within, hh, hq, hq', hr, hw, hw', hwin]
    refine completes_done rfl hbad hrun ha fun m => ⟨_, _, _, rfl, ?_⟩
    obtain ⟨hhop, hreq, hretry, hrep, hregs, hpool⟩ := putFabric_spec { s with mbx := m } hh hq' hr hw'
    exact ⟨(rf_reply_ok ..).trans hhop, (rf_reply_ok ..).trans hreq, (rf_reply_ok ..).trans hretry, (rf_reply_ok ..).trans hrep,
      SameRegs.reply hregs, ⟨_, rfl⟩, SamePool.reply ((samePool_mbx s m).trans hpool)⟩
  case refine_13 =>
    have hbad : (!atMost h 15 || !within q 10 10000 || !atMost r 7 || !within w 20 65535
        || decide (w.toNat < r.toNat * q.toNat + 50)) = true := by
      rw [decide_eq_true hwin, Bool.or_true]
    exact completes_bad rfl hbad hrun fun m => ⟨⟨_, rfl⟩, SameRegs.reply (sameRegs_mbx s m []), SamePool.reply (samePool_mbx s m)⟩
  case refine_14 =>
    have hbank : ∀ t : State, otherBank t j.toNat ≤ 1 := fun _ => Nat.sub_le _ _
    have hj' : j.toNat < 64 := Nat.lt_succ_of_le hj
    have hfit' : b.toNat + (l.map fun w => w.toNat).length ≤ 4096 := by rwa [List.length_map]
    have hlen' : (l.map fun w => w.toNat).length ≤ 1024 := by rwa [List.length_map]
    have hv : ∀ v, v ∈ l.map (fun w => w.toNat) → v < 2 ^ 17 := List.forall_mem_map.2 fun w hw =>
      Nat.lt_of_le_of_lt (toNat_le_of_onlyBits (hl w hw)) (by decide)
    have hclear : ∀ m, rankClash { s with mbx := m } j.toNat b.toNat (l.map fun w => w.toNat).length = false := fun m =>
      rankClash_none (s := { s with mbx := m }) hfree _ _
    refine completes_done rfl (rankBad_false hj hne hlen hfit hl) hrun ha fun m => ⟨_, _, _,
      doRankTable_writes (hclear m),
      fun k x w hk hx => ?_, fun k x hk hx => ?_, fun k i hk hi hij => ?_, ⟨_, rfl⟩,
      SamePool.reply ((samePool_mbx s m).trans (samePool_putRegs _ _))⟩
    · rw [rankCoord_reply_ok, rankCoord_putRegs (hbank _) hj' hfit' hlen' (by simpa using hne) hv _ hk, List.getElem?_map, hx]
      rfl
    · rw [rankCoord_reply_ok, rankCoord_putRegs (hbank _) hj' hfit' hlen' (by simpa using hne) hv _ hk, List.getElem?_map,
        List.getElem?_eq_none hx]
      rfl
    · rw [rg_reply_ok, rg_rjob_putRegs (hbank _) hj' hfit' _ hk hi, if_neg hij]
      rfl
  case refine_15 =>
    obtain ⟨i, hi, hij, hvalid, hbank, hcount, hbase⟩ := hclash
    have hpos : 0 < (l.map fun w => w.toNat).length := by simpa [List.length_pos_iff] using hne
    exact completes_done rfl (rankBad_false hj hne hlen hfit hl) hrun ha fun m => ⟨_, _, _,
      doRankTable_conflicts (rankClash_some (s := { s with mbx := m }) hi hij hvalid hbank hpos hcount hbase),
      ⟨_, rfl⟩, SameRegs.reply (sameRegs_mbx s m []), SamePool.reply (samePool_mbx s m)⟩
  case refine_16 =>
    have hbad : (!onlyBits c 0x00FF03FF || !onlyBits e 0xFFFFFFFF || !l.all (fun w => onlyBits w 0x0FFFFFFF)) = false := by
      rw [hc, he, all_onlyBits hl]
      rfl
    have hctl : Reg.XLT_LEGACY_CTL ≠ Reg.XLT_LEGACY_PORTS := by decide
    have hc' : c.toNat < 2 ^ 32 := toNat_lt_of_onlyBits (by decide) hc
    have he' : e.toNat < 2 ^ 32 := toNat_lt_of_onlyBits (by decide) he
    have hnode : ∀ w w', w ∈ l → w' ∈ l → (legacyEntry w).1 = (legacyEntry w').1 → w = w' := fun w w' hw hw' h =>
      hone w w' hw hw' (legacyEntry_inj h)
    have hapart : ∀ x, x ∈ l.map legacyEntry → x.1 ≠ Reg.XLT_LEGACY_CTL ∧ x.1 ≠ Reg.XLT_LEGACY_PORTS := List.forall_mem_map.2 fun w _ => by
      unfold legacyEntry Reg.XLT_LEGNODE Reg.XLT_LEGACY_CTL Reg.XLT_LEGACY_PORTS
      omega
    refine completes_done rfl hbad hrun ha fun m => ⟨putRegs { s with mbx := m }
      ([(Reg.XLT_LEGACY_CTL, c.toNat), (Reg.XLT_LEGACY_PORTS, e.toNat)] ++ l.map legacyEntry), _, _, ?_, ?_, ?_, fun w hw => ?_, ?_,
      ⟨_, rfl⟩, SamePool.reply ((samePool_mbx s m).trans (samePool_putRegs _ _))⟩
    · unfold putRegs
      rw [List.foldl_append, List.foldl_map]
      rfl
    · rw [rg_reply_ok, putRegs_append, rg_putRegs_of_not_mem _ fun x hx => (hapart x hx).1]
      exact (rg_rput_ne _ _ hctl).trans ((rg_rput_self _ _ _).trans (Nat.mod_eq_of_lt hc'))
    · rw [rg_reply_ok, putRegs_append, rg_putRegs_of_not_mem _ fun x hx => (hapart x hx).2]
      exact (rg_rput_self _ _ _).trans (Nat.mod_eq_of_lt he')
    · have hlt : (legacyEntry w).2 < 2 ^ 32 := by
        unfold legacyEntry bits
        omega
      rw [rg_reply_ok, putRegs_append]
      exact (rg_putRegs_map hnode _ hw).trans (Nat.mod_eq_of_lt hlt)
    · have hsame := sameRegs_putRegs { s with mbx := m } ([(Reg.XLT_LEGACY_CTL, c.toNat), (Reg.XLT_LEGACY_PORTS, e.toNat)] ++ l.map legacyEntry)
      rw [List.map_append, List.map_map] at hsame
      exact SameRegs.reply hsame

end Sys2Proof.Machine
end

section
/-! PROOFS. Writes of pool memory under a mask, over the lines of one extent. -/

namespace Sys2Proof.Machine
open Sys2Proof

/-! ### Bytes under a mask -/

theorem memWrite_append (m : Tab Byte) (a : Nat) (l l' : List Byte) :
    memWrite m a (l ++ l') = memWrite (memWrite m a l) (a + l.length) l' := by
  induction l generalizing m a with
  | nil => rfl
  | cons b l ih =>
    rw [List.cons_append, memWrite, ih, memWrite, List.length_cons]
    congr 1
    omega

theorem memWriteMasked_unmasked (m : Tab Byte) (a : Nat) (b : List Byte) : memWriteMasked m a (unmasked b) = memWrite m a b := by
  induction b generalizing m a with
  | nil => rfl
  | cons x b ih => exact ih _ _

theorem memByte_memWriteMasked (m : Tab Byte) (a : Nat) (l : List (Bool × Byte)) (x : Nat) :
    memByte (memWriteMasked m a l) x
      = if a ≤ x ∧ x < a + l.length ∧ (l.getD (x - a) (false, 0#8)).1 = true then (l.getD (x - a) (false, 0#8)).2 else memByte m x := by
  induction l generalizing m a with
  | nil =>
    rw [if_neg]
    · rfl
    · simp
  | cons e l ih =>
    obtain ⟨k, b⟩ := e
    rw [memWriteMasked, ih, List.length_cons]
    rcases Nat.lt_trichotomy x a with hx | rfl | hx
    · have hout : ¬ a + 1 ≤ x := by omega
      have hout' : ¬ a ≤ x := by omega
      have hne : x ≠ a := by omega
      simp only [hout, hout', false_and, if_false]
      cases k
      · rfl
      · exact (memByte_memSet _ _ _ _).trans (if_neg hne)
    · have hout : ¬ x + 1 ≤ x := by omega
      have hin : x < x + (l.length + 1) := by omega
      simp only [hout, false_and, if_false, hin, Nat.le_refl, true_and, Nat.sub_self, List.getD_cons_zero]
      cases k
      · rfl
      · exact (memByte_memSet _ _ _ _).trans (if_pos rfl)
    · obtain ⟨i, rfl⟩ := Nat.exists_eq_add_of_lt hx
      have hi : a + i + 1 - (a + 1) = i := by omega
      have hi' : a + i + 1 - a = i + 1 := by omega
      have hlt : a + i + 1 < a + 1 + l.length ↔ a + i + 1 < a + (l.length + 1) := by omega
      have hle : a + 1 ≤ a + i + 1 ∧ a ≤ a + i + 1 ∧ a + i + 1 ≠ a := by omega
      simp only [hi, hi', List.getD_cons_succ, hlt, hle.1, hle.2.1, true_and]
      congr 1
      cases k
      · rfl
      · exact (memByte_memSet _ _ _ _).trans (if_neg hle.2.2)

/-! ### The runs of a masked write -/

/-- Every run of set bytes is written. -/
def writeRuns (m : Tab Byte) (rs : List (Nat × List Byte)) : Tab Byte := rs.foldl (fun m e => memWrite m e.1 e.2) m

theorem writeRuns_maskRuns (m : Tab Byte) (a : Nat) (l : List (Bool × Byte)) : writeRuns m (maskRuns a l) = memWriteMasked m a l := by
  induction l generalizing m a with
  | nil => rfl
  | cons e l ih =>
    obtain ⟨k, b⟩ := e
    cases k with
    | false => exact ih m (a + 1)
    | true =>
      rw [memWriteMasked, if_pos rfl, ← ih, maskRuns, if_pos rfl]
      cases maskRuns (a + 1) l with
      | nil => rfl
      | cons r u =>
        obtain ⟨x, b'⟩ := r
        dsimp only
        split
        next h => rw [h]; rfl
        next => rfl

/-- A run holds bytes, and lies within the range of the write. -/
theorem maskRuns_within {a : Nat} {l : List (Bool × Byte)} {e : Nat × List Byte} (he : e ∈ maskRuns a l) :
    e.2 ≠ [] ∧ a ≤ e.1 ∧ e.1 + e.2.length ≤ a + l.length := by
  induction l generalizing a e with
  | nil => exact absurd he List.not_mem_nil
  | cons x l ih =>
    obtain ⟨k, b⟩ := x
    have hlater : ∀ r, r ∈ maskRuns (a + 1) l → r.2 ≠ [] ∧ a ≤ r.1 ∧ r.1 + r.2.length ≤ a + (l.length + 1) := fun r hr => by
      obtain ⟨hne, hlo, hhi⟩ := ih hr
      exact ⟨hne, by omega, by omega⟩
    rw [maskRuns] at he
    rw [List.length_cons]
    split at he
    · split at he
      next y b' u hr =>
        rw [hr] at hlater
        split at he
        next hy =>
          rcases List.mem_cons.1 he with rfl | he
          · obtain ⟨-, -, hhi⟩ := hlater _ List.mem_cons_self
            dsimp only at hhi ⊢
            refine ⟨List.cons_ne_nil _ _, Nat.le_refl _, ?_⟩
            rw [List.length_cons]
            omega
          · exact hlater _ (List.mem_cons_of_mem _ he)
        next =>
          rcases List.mem_cons.1 he with rfl | he
          · exact ⟨List.cons_ne_nil _ _, Nat.le_refl _, by simp⟩
          · exact hlater _ (by rw [← hr]; exact he)
      next =>
        obtain rfl := List.mem_singleton.1 he
        exact ⟨List.cons_ne_nil _ _, Nat.le_refl _, by simp⟩
    · exact hlater _ he

/-! ### Writes over the lines of a plain extent -/

theorem PlainExtent.of_extOf {s : State} {a b : Nat} (h : PlainExtent s a) (hb : extOf b = extOf a) : PlainExtent s b := by
  obtain ⟨hc, hm, hg⟩ := h
  exact ⟨hb ▸ hc, hb ▸ hm, hb ▸ hg⟩

theorem extOf_within {a b : Nat} (n : Nat) (hlo : a ≤ b) (hhi : b < a + n) (hin : a % 2 ^ 30 + n ≤ 2 ^ 30) : extOf b = extOf a := by
  unfold extOf
  omega

section
variable {s : State}

/-- The pieces of a write within one extent put its bytes. -/
theorem foldl_storePiece_of_clean {n a : Nat} {b : List Byte} (h : Clean s) (hp : PlainExtent s a) (hn : a % 128 + b.length ≤ 128 * n)
    (hin : a % 2 ^ 30 + b.length ≤ 2 ^ 30) :
    (linePieces n a b).foldl (fun (p : Bool × State) e =>
      let (x, s) := storePiece p.2 e.1 e.2
      (p.1 || x, s)) (false, s) = (false, poke s a b) := by
  induction n generalizing s a b with
  | zero =>
    obtain rfl : b = [] := List.length_eq_zero_iff.1 (by omega)
    rfl
  | succ n ih =>
    rw [linePieces]
    by_cases hb : b = []
    · subst hb
      rfl
    · have hfirst : storePiece s a (b.take (128 - a % 128)) = (false, poke s a (b.take (128 - a % 128))) := storePiece_of_clean h hp _
      simp only [List.isEmpty_iff, hb, if_false, List.foldl_cons, hfirst, Bool.or_false]
      by_cases hlast : b.length ≤ 128 - a % 128
      · rw [List.take_of_length_le hlast, List.drop_of_length_le hlast]
        cases n <;> rfl
      · have hnext : PlainExtent (poke s a (b.take (128 - a % 128))) (a + (128 - a % 128)) :=
          PlainExtent.of_xlt (hp.of_extOf (extOf_within b.length (by omega) (by omega) hin)) rfl
        have hleft : (b.drop (128 - a % 128)).length = b.length - (128 - a % 128) := List.length_drop
        have hclean : Clean (poke s a (b.take (128 - a % 128))) := h.of_dram_regs rfl rfl
        rw [ih hclean hnext (by omega) (by omega)]
        have hsplit := memWrite_append s.mem a (b.take (128 - a % 128)) (b.drop (128 - a % 128))
        rw [List.take_append_drop, List.length_take, Nat.min_eq_left (by omega)] at hsplit
        unfold poke
        rw [hsplit]

theorem store_of_plain {a : Nat} {b : List Byte} (h : Clean s) (hp : PlainExtent s a) (hb : b ≠ [])
    (hin : a % 2 ^ 30 + b.length ≤ 2 ^ 30) : store s a b = (false, noteWatch (poke s a b) a b.length none) := by
  have hc : Clean (poke s a b) := h.of_dram_regs rfl rfl
  have hfold : ∀ l : List Nat, l.foldl writeSeal (poke s a b) = poke s a b := List.foldl_fixed' fun p => writeSeal_of_clean hc p
  simp only [store, List.isEmpty_iff, hb, if_false, fetchRange_of_sound h.sound,
    foldl_storePiece_of_clean (n := b.length / 128 + 2) h hp (by omega) hin, hfold]

/-- The runs of a masked write change memory, and what the watch filter has seen. -/
theorem foldl_store_of_plain {a len : Nat} (hin : a % 2 ^ 30 + len ≤ 2 ^ 30) {rs : List (Nat × List Byte)} (h : Clean s) (hp : PlainExtent s a)
    (hrs : ∀ e, e ∈ rs → e.2 ≠ [] ∧ a ≤ e.1 ∧ e.1 + e.2.length ≤ a + len) :
    ∃ sig, rs.foldl (fun (p : Bool × State) e =>
      let (x, s) := store p.2 e.1 e.2
      (p.1 || x, s)) (false, s) = (false, { s with mem := writeRuns s.mem rs, sig := sig }) := by
  induction rs generalizing s with
  | nil => exact ⟨s.sig, rfl⟩
  | cons e rs ih =>
    obtain ⟨hne, hlo, hhi⟩ := hrs e List.mem_cons_self
    have hpos := List.length_pos_iff.2 hne
    have hext : extOf e.1 = extOf a := extOf_within len hlo (by omega) hin
    have hfirst := store_of_plain h (hp.of_extOf hext) hne (by unfold extOf at hext; omega)
    rw [List.foldl_cons]
    simp only [hfirst, Bool.or_false]
    exact ih (s := noteWatch (poke s e.1 e.2) e.1 e.2.length none) (h.of_dram_regs rfl rfl) (hp.of_xlt rfl)
      fun r hr => hrs r (List.mem_cons_of_mem _ hr)

theorem storeMasked_of_plain {a : Nat} {l : List (Bool × Byte)} (h : Clean s) (hp : PlainExtent s a) (hin : a % 2 ^ 30 + l.length ≤ 2 ^ 30) :
    ∃ sig, storeMasked s a l = (false, { s with mem := memWriteMasked s.mem a l, sig := sig }) := by
  obtain ⟨sig, heq⟩ := foldl_store_of_plain hin h hp fun e he => maskRuns_within he
  rw [writeRuns_maskRuns] at heq
  exact ⟨sig, heq⟩

end

end Sys2Proof.Machine
end

section
/-! PROOFS. Single requests by PPA, from their arrival to their answer (O42). -/

namespace Sys2Proof.Machine
open Sys2Proof

/-! ### Arrival and answer (R347, R348, R356, R357) -/

/-- Taking a message out of its pool changes that port only. -/
theorem takeMsg_eq (s : State) (k : Nat) (m : Msg) :
    ∃ f, takeMsg s k m = { s with fab := f } ∧ f.inProgress = s.fab.inProgress := by
  unfold takeMsg
  dsimp only
  split <;> exact ⟨_, rfl, rfl⟩

/-- A message that leaves changes the ports only. -/
theorem sendMsg_eq (s : State) (m : Msg) : ∃ f, sendMsg s m = { s with fab := f } ∧ f.records = s.fab.records := by
  unfold sendMsg
  dsimp only
  split
  · exact ⟨_, rfl, rfl⟩
  · split <;> exact ⟨_, rfl, rfl⟩

/-- A request is answered, and changes no register but the byte counter. -/
structure Served (s t : State) (m : Msg) (r : Resp) : Prop where
  answered : Answered t m r
  regs : SameRegs s t chargeRegs
  xlt : t.xlt = s.xlt
  dirc : t.dirc = s.dirc
  sched : t.sched = s.sched

theorem Served.trans {s u t : State} {m : Msg} {r : Resp} (h : Served u t m r) (hregs : SameRegs s u chargeRegs) (hxlt : u.xlt = s.xlt)
    (hdirc : u.dirc = s.dirc) (hsched : u.sched = s.sched) : Served s t m r :=
  ⟨h.answered, hregs.trans h.regs, h.xlt.trans hxlt, h.dirc.trans hdirc, h.sched.trans hsched⟩

theorem sendMsg_served (s : State) (m : Msg) (r : Resp) : Served s (sendMsg s (respMsg s m r)) m r := by
  obtain ⟨f, hf, -⟩ := sendMsg_eq s (respMsg s m r)
  refine ⟨⟨s, rfl⟩, ?_, ?_, ?_, ?_⟩ <;> rw [hf]
  exact SameRegs.of_regs rfl _

theorem sendMsg_mem (s : State) (m : Msg) : (sendMsg s m).mem = s.mem := by
  obtain ⟨f, hf, -⟩ := sendMsg_eq s m
  rw [hf]

theorem sendMsg_records (s : State) (m : Msg) : (sendMsg s m).fab.records = s.fab.records := by
  obtain ⟨f, hf, hrec⟩ := sendMsg_eq s m
  rw [hf, ← hrec]

/-- The state from which a request's answer is sent. -/
def closeReq (s : State) (m : Msg) (r : Resp) : State :=
  if recordless m.opcode.toNat then { s with fab := { s.fab with inProgress := tdel s.fab.inProgress (reqKey m) } }
  else keepRecord { s with fab := { s.fab with inProgress := tdel s.fab.inProgress (reqKey m) } } m r

section
variable {s : State} {m : Msg} (h : tget s.fab.inProgress (reqKey m) = none) (r : Resp)
include h

/-- A request that no later attempt has joined is answered itself. -/
theorem answer_eq : answer s m r = sendMsg (closeReq s m r) (respMsg (closeReq s m r) m r) := by
  have hlatest : latest s m = m := by
    unfold latest tgetD
    rw [h]
    rfl
  unfold answer closeReq
  rw [hlatest]

theorem answer_served : Served s (answer s m r) m r := by
  rw [answer_eq h]
  have hsame : ∃ f, closeReq s m r = { s with fab := f } := by
    unfold closeReq
    split <;> exact ⟨_, rfl⟩
  obtain ⟨f, hf⟩ := hsame
  refine (sendMsg_served (closeReq s m r) m r).trans ?_ ?_ ?_ ?_ <;> rw [hf]
  exact SameRegs.of_regs rfl _

theorem answer_mem : (answer s m r).mem = s.mem := by
  rw [answer_eq h, sendMsg_mem]
  unfold closeReq
  split <;> rfl

theorem answer_recorded (hop : recordless m.opcode.toNat = false) : Recorded s (answer s m r) m r := by
  unfold Recorded
  rw [answer_eq h, sendMsg_records, closeReq, hop, if_neg (by decide)]
  exact tget_tset_self _ _ _

end

theorem Recorded.of_same {s u t : State} {m : Msg} {r : Resp} (h : Recorded u t m r) (hnow : now u = now s)
    (hwin : replayWin u = replayWin s) : Recorded s t m r := by
  unfold Recorded at *
  rw [h, hnow, hwin]

/-- The message as the module takes it in, under its opcode. -/
def asOp (op : Nat) (m : Msg) : Msg := { m with opcode := BitVec.ofNat 8 op }

/-- The response is that to the message as it came. -/
theorem Served.of_asOp {s t : State} {op : Nat} {m : Msg} {r : Resp} (h : Served s t (asOp op m) r) : Served s t m r := by
  obtain ⟨⟨u, hu⟩, hregs, hxlt, hdirc, hsched⟩ := h
  exact ⟨⟨u, hu⟩, hregs, hxlt, hdirc, hsched⟩

theorem arriveReq_fresh {s : State} {op : Nat} {m : Msg} (h : Fresh s op m) (k : Nat) (f : State → Msg → State) :
    arriveReq s k op m f = f (takeMsg s k m) (asOp op m) := by
  obtain ⟨hcoord, hsafe, hfirst, -, hroom, hform⟩ := h
  have harrive : arrive s { m with opcode := BitVec.ofNat 8 op } = .fresh := by simp [arrive, hfirst]
  simp only [arriveReq, hcoord, hsafe, harrive, hroom, hform, Bool.or_self, Bool.false_and, Bool.false_eq_true, if_false]
  rfl

/-! ### Translation by PPA (R39, R41, R77) -/

section
variable {s : State} {k a len : Nat} {m : Msg}

/-- What a request by PPA needs does not depend on the ports or on the message's opcode. -/
theorem PpaReq.of_fab (h : PpaReq s k m a len) (f : Fabric) (op : Nat) : PpaReq { s with fab := f } k (asOp op m) a len := by
  obtain ⟨hkind, hmode, hok, hinside, hclean, hmir, hstill⟩ := h
  exact ⟨hkind, hmode, hok, hinside, hclean.of_dram_regs rfl rfl, hmir, hstill⟩

theorem extOf_linesOf (hin : a % 2 ^ 30 + len ≤ 2 ^ 30) {l : Nat} (hl : l ∈ linesOf a len) : extOf (l * 128) = extOf a := by
  unfold linesOf at hl
  rw [List.mem_range'_1] at hl
  unfold extOf
  omega

/-- A request to a plain extent is translated, and served at once. -/
theorem translateReq_plain (h : PpaReq s k m a len) (hc : (extRec s (extOf a)).coherent = false) (hspan : reqSpan m = (a, len))
    (hop : m.opcode.toNat ∈ [0x05, 0x06, 0x07, 0x11, 0x12, 0x13]) :
    translateReq s k m = serve s k m [(a, len)] 0 := by
  have hxl : ∀ need, reqXl s k m a len need = (s, .ok [(a, len)] 0) := fun need => by
    simp [reqXl, h.kind, h.mode, h.ok]
  have hgate : ∀ w, mirrorGate s [(a, len)] w = 0 := fun w => by simp [mirrorGate, mirroredAt, h.mirrored]
  have hlines : (([(a, len)] : List (Nat × Nat)).flatMap (fun e => linesOf e.1 e.2)).filter (coherentLine s) = [] := by
    refine List.filter_eq_nil_iff.2 fun l hl => ?_
    rw [List.flatMap_singleton] at hl
    rw [coherentLine, extOf_linesOf h.inside hl, hc]
    decide
  have hne : m.opcode.toNat ≠ 1 ∧ m.opcode.toNat ≠ 2 ∧ m.opcode.toNat ≠ 3 ∧ m.opcode.toNat ≠ 4 ∧ m.opcode.toNat ≠ 8
      ∧ m.opcode.toNat ≠ 9 ∧ m.opcode.toNat ≠ 10 ∧ m.opcode.toNat ≠ 12 := by
    simp only [List.mem_cons, List.not_mem_nil, or_false] at hop
    omega
  obtain ⟨h1, h2, h3, h4, h8, h9, h10, h12⟩ := hne
  simp only [translateReq, hspan, h8, h9, h12, or_self, false_and, and_false, if_false, hxl, List.any_cons, List.any_nil, h.still,
    Bool.or_self, Bool.false_eq_true, runReq, hgate, hlines, List.isEmpty_nil, if_true, h1, h2, h3, h4, h10]

/-! ### The charge (R492) -/

theorem chargeSegs_eq (s : State) (l : List (Nat × Nat)) :
    ∃ regs, chargeSegs s 0 l = { s with regs := regs } ∧ SameRegs s (chargeSegs s 0 l) chargeRegs := by
  unfold chargeSegs
  dsimp only
  split
  · exact ⟨_, rfl, SameRegs.of_regs rfl _⟩
  · exact ⟨_, rfl, (sameRegs_rput s _ (by simp [chargeRegs])).trans (sameRegs_rput _ _ (by simp [chargeRegs]))⟩

/-- The byte counter of a tenant arms no injection. -/
theorem Clean.of_charge {t : State} (h : Clean s) (hd : t.dram = s.dram) (hr : SameRegs s t chargeRegs) : Clean t := by
  obtain ⟨hup, hmarks, hlosses⟩ := h.sound.of_dram hd
  have hstk : ∀ n st, Reg.STK_INJ_CTL n st ∉ chargeRegs := fun n st => by
    simp only [chargeRegs, Reg.STK_INJ_CTL, Reg.XLT_TN_BYTES_LO, List.mem_cons, List.not_mem_nil, or_false]
    omega
  have hsea : ∀ n, Reg.SEA_INJ_CTL n ∉ chargeRegs := fun n => by
    simp only [chargeRegs, Reg.SEA_INJ_CTL, Reg.XLT_TN_BYTES_LO, List.mem_cons, List.not_mem_nil, or_false]
    omega
  refine ⟨hup, hmarks, by rw [hd, h.stale], hlosses, by rw [hd, h.undef], fun n st => ?_, fun n => ?_⟩
  · unfold rf
    rw [hr _ (hstk n st)]
    exact h.injStk n st
  · rw [hr _ (hsea n), h.injSea]

theorem replayWin_of_charge {t : State} (hr : SameRegs s t chargeRegs) : replayWin t = replayWin s := by
  unfold replayWin rf
  rw [hr _ (by decide)]

/-! ### Reads (R198, R348) -/

/-- The response to a read of the bytes b. -/
def readResp (s : State) (m : Msg) (a : Nat) (b : List Byte) : Resp :=
  if m.opcode = 0x05#8 then
    { opcode := 0x43, status := sCOMPLETE, cause := 0, xf := 0, arg := now s, poison := false, line := some a, data := b }
  else { opcode := 0x54, status := sCOMPLETE, cause := 0, xf := 0, arg := 0, poison := false, line := none, data := b }

theorem serveRead_of_clean (h : Clean s) : serveRead s m [(a, len)] = answer s m (readResp s m a (memRead s.mem a len)) := by
  simp only [serveRead, loadSegs, load_of_sound h.sound, stored_of_undef h.undef, List.append_nil, Bool.or_self, Bool.false_eq_true,
    if_false, readResp, List.head?_cons, Option.map_some, Option.getD_some]
  split <;> rfl

/-! ### Writes (R198, R217, R345, R348) -/

/-- The response to a write under a mask. -/
def writeResp (data : List (Bool × Byte)) : Resp := Resp.plain 0x46 sCOMPLETE 0 0 (data.filter (fun e => e.1)).length

/-- A line of an extent that is not coherent has no entry to free. -/
theorem freeLines_of_plain (hc : (extRec s (extOf a)).coherent = false) (hin : a % 2 ^ 30 + len ≤ 2 ^ 30) :
    (linesOf a len).foldl (fun s l => if coherentLine s l then setEnt s l none else s) s = s := by
  refine List.foldlRecOn (motive := fun t : State => t = s) _ _ rfl ?_
  rintro _ rfl l hl
  rw [coherentLine, extOf_linesOf hin hl, hc]
  rfl

/-- A write to an extent that is not mirrored is answered at once. -/
theorem answerWrite_of_plain (hm : (extRec s (extOf a)).mirrored = false) (hin : a % 2 ^ 30 + len ≤ 2 ^ 30) (r : Resp)
    (data : List (Bool × Byte)) : answerWrite s m r [(a, len)] data = answer s m r := by
  have hnone : (lineMasks [(a, len)] data).filter (fun e => e.2 != 0 && mirroredAt s (e.1 * 128)) = [] := by
    refine List.filter_eq_nil_iff.2 fun e he => ?_
    simp only [lineMasks, List.append_nil, List.mem_map] at he
    obtain ⟨l, hl, rfl⟩ := he
    rw [mirroredAt, extOf_linesOf hin hl, hm, Bool.and_false]
    decide
  simp only [answerWrite, hnone, List.isEmpty_nil, or_true, if_true]

theorem serveWrite_plain (h : Clean s) (hp : PlainExtent s a) (hin : a % 2 ^ 30 + len ≤ 2 ^ 30)
    (hop : m.opcode.toNat ∈ [0x06, 0x07, 0x12, 0x13]) (hpoison : m.poison = false)
    (hpush : m.opcode.toNat = 0x06 → bit m.arg.toNat 17 = false) (hlen : (reqData m).length = len) (t : Nat) :
    ∃ u, serveWrite s k m [(a, len)] t = answer u m (writeResp (reqData m)) ∧ u.mem = memWriteMasked s.mem a (reqData m)
      ∧ u.fab = s.fab ∧ u.regs = s.regs ∧ u.tb = s.tb ∧ u.xlt = s.xlt ∧ u.dirc = s.dirc ∧ u.sched = s.sched := by
  have hne : m.opcode.toNat ≠ 8 ∧ m.opcode.toNat ≠ 9 ∧ m.opcode.toNat ≠ 12 := by
    simp only [List.mem_cons, List.not_mem_nil, or_false] at hop
    omega
  obtain ⟨h8, h9, h12⟩ := hne
  obtain ⟨sig, hstore⟩ := storeMasked_of_plain (l := reqData m) h hp (by rw [hlen]; exact hin)
  have hnopush : ¬ (m.opcode.toNat = 0x06 ∧ bit m.arg.toNat 17 = true) := fun ⟨h6, h17⟩ => by
    rw [hpush h6] at h17
    cases h17
  have hfree := freeLines_of_plain (s := { s with mem := memWriteMasked s.mem a (reqData m), sig := sig }) hp.coherent hin
  refine ⟨{ s with mem := memWriteMasked s.mem a (reqData m), sig := sig }, ?_, rfl, rfl, rfl, rfl, rfl, rfl, rfl⟩
  simp only [serveWrite, h8, h9, h12, if_false, storeSegs, List.take_of_length_le (Nat.le_of_eq hlen), hstore, Bool.or_self, hpoison,
    Bool.false_eq_true, List.flatMap_singleton, hfree, hnopush]
  exact answerWrite_of_plain (s := { s with mem := memWriteMasked s.mem a (reqData m), sig := sig }) hp.mirrored hin _ _

end

/-! ### A request from its arrival to its answer -/

/-- The opcodes of writes, among those that memory serves. -/
theorem write_kinds : ∀ op ∈ [0x06, 0x07, 0x12, 0x13],
    op ≠ 0x05 ∧ op ≠ 0x11 ∧ op ∈ [0x05, 0x06, 0x07, 0x11, 0x12, 0x13] ∧ recordless op = false := by
  decide

section
variable {s : State} {k a len op : Nat} {m : Msg} (hreq : PpaReq s k m a len) (hc : (extRec s (extOf a)).coherent = false)
  (hfresh : Fresh s op m) (hspan : reqSpan (asOp op m) = (a, len))
include hreq hc hfresh hspan

/-- A fresh request by PPA is served in a state that differs from the present one in its ports and its byte counter. -/
theorem arriveReq_plain (hop : (asOp op m).opcode.toNat ∈ [0x05, 0x06, 0x07, 0x11, 0x12, 0x13]) :
    ∃ f regs, arriveReq s k op m (fun s m => translateReq s k m) = (
        if (asOp op m).opcode.toNat = 0x05 ∨ (asOp op m).opcode.toNat = 0x11 then
          serveRead { s with fab := f, regs := regs } (asOp op m) [(a, len)]
        else serveWrite { s with fab := f, regs := regs } k (asOp op m) [(a, len)] 0)
      ∧ tget f.inProgress (reqKey (asOp op m)) = none ∧ SameRegs s { s with fab := f, regs := regs } chargeRegs := by
  obtain ⟨f, htake, hprog⟩ := takeMsg_eq s k m
  obtain ⟨regs, hcharge, hregs⟩ := chargeSegs_eq { s with fab := f } [(a, len)]
  rw [hcharge] at hregs
  refine ⟨f, regs, ?_, by rw [hprog]; exact hfresh.alone, hregs⟩
  have hne : (asOp op m).opcode.toNat ≠ 1 ∧ (asOp op m).opcode.toNat ≠ 2 ∧ (asOp op m).opcode.toNat ≠ 3
      ∧ (asOp op m).opcode.toNat ≠ 4 ∧ (asOp op m).opcode.toNat ≠ 10 := by
    simp only [List.mem_cons, List.not_mem_nil, or_false] at hop
    omega
  obtain ⟨h1, h2, h3, h4, h10⟩ := hne
  rw [arriveReq_fresh hfresh, htake, translateReq_plain (hreq.of_fab f op) hc hspan hop]
  simp only [serve, hcharge, h1, h2, h3, h4, h10, or_self, if_false]

/-- READ and RD_ONCE answer what memory holds, and change none of it. -/
theorem read_served (hop : op = 0x05 ∨ op = 0x11) :
    ∃ t, arriveReq s k op m (fun s m => translateReq s k m) = t ∧ t.mem = s.mem
      ∧ Served s t m (readResp s (asOp op m) a (memRead s.mem a len)) := by
  have hread : (asOp op m).opcode.toNat = 0x05 ∨ (asOp op m).opcode.toNat = 0x11 := by
    rcases hop with rfl | rfl
    · exact .inl rfl
    · exact .inr rfl
  obtain ⟨f, regs, heq, halone, hregs⟩ := arriveReq_plain hreq hc hfresh hspan
    (by rcases hread with h | h <;> rw [h] <;> decide)
  have hclean : Clean { s with fab := f, regs := regs } := hreq.clean.of_charge rfl hregs
  rw [if_pos hread, serveRead_of_clean hclean] at heq
  exact ⟨_, heq, answer_mem halone _, ((answer_served halone _).trans hregs rfl rfl rfl).of_asOp⟩

/-- A write puts the bytes that its mask selects, is answered COMPLETE with their number, and leaves a record. -/
theorem write_served (hop : op ∈ [0x06, 0x07, 0x12, 0x13]) (hpoison : m.poison = false) (hpush : op = 0x06 → bit m.arg.toNat 17 = false)
    (hlen : (reqData (asOp op m)).length = len) :
    ∃ t, arriveReq s k op m (fun s m => translateReq s k m) = t ∧ t.mem = memWriteMasked s.mem a (reqData (asOp op m))
      ∧ Served s t m (writeResp (reqData (asOp op m))) ∧ Recorded s t m (writeResp (reqData (asOp op m))) := by
  have hopcode : (asOp op m).opcode.toNat = op := by
    simp only [List.mem_cons, List.not_mem_nil, or_false] at hop
    rcases hop with rfl | rfl | rfl | rfl <;> rfl
  have hkinds : op ≠ 0x05 ∧ op ≠ 0x11 ∧ op ∈ [0x05, 0x06, 0x07, 0x11, 0x12, 0x13] ∧ recordless op = false :=
    write_kinds op hop
  obtain ⟨h5, h11, hin, hkept⟩ := hkinds
  obtain ⟨f, regs, heq, halone, hregs⟩ := arriveReq_plain hreq hc hfresh hspan (by rw [hopcode]; exact hin)
  have hclean : Clean { s with fab := f, regs := regs } := hreq.clean.of_charge rfl hregs
  obtain ⟨u, hserve, hmem, hfab, hregs', htb, hxlt, hdirc, hsched⟩ := serveWrite_plain
    (s := { s with fab := f, regs := regs }) (k := k) (m := asOp op m) hclean
    ⟨hc, hreq.mirrored, hreq.still⟩ hreq.inside (by rw [hopcode]; exact hop) hpoison (by rw [hopcode]; exact hpush) hlen 0
  have hsame : SameRegs s u chargeRegs := hregs.trans (SameRegs.of_regs hregs' _)
  have halone' : tget u.fab.inProgress (reqKey (asOp op m)) = none := by rw [hfab]; exact halone
  rw [hopcode, if_neg (not_or.2 ⟨h5, h11⟩), hserve] at heq
  exact ⟨_, heq, (answer_mem halone' _).trans hmem, ((answer_served halone' _).trans hsame hxlt hdirc hsched).of_asOp,
    (answer_recorded halone' _ (by rw [hopcode]; exact hkept)).of_same (congrArg TimeBase.ns htb) (replayWin_of_charge hsame)⟩

end

end Sys2Proof.Machine
end

section
/-! PROOFS. Reads and writes by PPA: what they answer and what they write (O42). -/

namespace Sys2Proof.Machine
open Sys2Proof

/-! ### Bytes of a message's data -/

theorem length_slice (l : List Byte) (off len : Nat) : (slice l off len).length = len := by
  simp only [slice, List.length_append, List.length_take, List.length_drop, List.length_replicate]
  omega

theorem getElem?_slice (l : List Byte) (off len i : Nat) :
    (slice l off len)[i]? = if i < len then some (l.getD (off + i) 0#8) else none := by
  split
  next hi =>
    simp only [slice, List.getElem?_append, List.length_take, List.length_drop, List.getElem?_take, List.getElem?_drop, List.getElem?_replicate,
      List.getD_eq_getElem?_getD]
    by_cases hin : off + i < l.length
    · have hfirst : i < min len (l.length - off) := by omega
      simp [hfirst, hi, hin]
    · have hlater : ¬ i < min len (l.length - off) := by omega
      have hpad : i - min len (l.length - off) < len - min len (l.length - off) := by omega
      rw [if_neg hlater, if_pos hpad, List.getElem?_eq_none (Nat.not_lt.1 hin)]
      rfl
  next hi => exact List.getElem?_eq_none (by rw [length_slice]; omega)

theorem slice_slice (l : List Byte) {off len j k : Nat} (h : j + k ≤ len) : slice (slice l off len) j k = slice l (off + j) k := by
  refine List.ext_getElem? fun i => ?_
  rw [getElem?_slice, getElem?_slice]
  split
  next hi =>
    have hin : j + i < len := by omega
    rw [List.getD_eq_getElem?_getD, getElem?_slice, if_pos hin, Nat.add_assoc]
    rfl
  next => rfl

/-- A byte of a slice is the byte of the whole. -/
theorem leAt_slice (l : List Byte) {off len j : Nat} (h : j < len) : leAt (slice l off len) j 1 = leAt l (off + j) 1 := by
  unfold leAt
  rw [slice_slice l h]

theorem length_unmasked (b : List Byte) : (unmasked b).length = b.length := List.length_map _

theorem writeResp_unmasked (b : List Byte) : writeResp (unmasked b) = Resp.plain 0x46 sCOMPLETE 0 0 b.length := by
  have hall : (unmasked b).filter (fun e => e.1) = unmasked b := List.filter_eq_self.2 (by simp [unmasked])
  rw [writeResp, hall, length_unmasked]

theorem length_maskedBytes (mask b : List Byte) : (maskedBytes mask b).length = b.length := by simp [maskedBytes]

theorem getD_maskedBytes (mask : List Byte) {b : List Byte} {i : Nat} (h : i < b.length) :
    (maskedBytes mask b).getD i (false, 0#8) = (bit (leAt mask (i / 8) 1) (i % 8), b.getD i 0#8) := by
  simp [maskedBytes, h]

/-- A byte within a write under a mask. -/
theorem memByte_maskedBytes (m : Tab Byte) (a : Nat) (mask : List Byte) {b : List Byte} {i : Nat} (h : i < b.length) :
    memByte (memWriteMasked m a (maskedBytes mask b)) (a + i)
      = if bit (leAt mask (i / 8) 1) (i % 8) then b.getD i 0#8 else memByte m (a + i) := by
  have hlo : a ≤ a + i := Nat.le_add_right a i
  have hhi : a + i < a + (maskedBytes mask b).length := by rw [length_maskedBytes]; omega
  rw [memByte_memWriteMasked, Nat.add_sub_cancel_left, getD_maskedBytes mask h]
  simp only [hlo, hhi, true_and]

/-- A byte outside a write under a mask. -/
theorem memByte_memWriteMasked_out (m : Tab Byte) (a : Nat) (l : List (Bool × Byte)) {x : Nat} (h : x < a ∨ a + l.length ≤ x) :
    memByte (memWriteMasked m a l) x = memByte m x := by
  rw [memByte_memWriteMasked, if_neg]
  rintro ⟨hlo, hhi, -⟩
  omega

/-! ### The six requests -/

section
variable {s : State} {k a : Nat} {m : Msg} (hc : (extRec s (extOf a)).coherent = false) (hpoison : m.poison = false)
include hc hpoison

/-- A write of whole bytes. -/
theorem unmasked_served {op len : Nat} {b : List Byte} (hreq : PpaReq s k m a len) (hfresh : Fresh s op m)
    (hspan : reqSpan (asOp op m) = (a, len)) (hop : op ∈ [0x06, 0x12]) (hpush : op = 0x06 → bit m.arg.toNat 17 = false)
    (hdata : reqData (asOp op m) = unmasked b) (hb : b.length = len) :
    ∃ t, arriveReq s k op m (fun s m => translateReq s k m) = t ∧ t.mem = memWrite s.mem a b
      ∧ (∀ x, x < a ∨ a + len ≤ x → memByte t.mem x = memByte s.mem x)
      ∧ Served s t m (Resp.plain 0x46 sCOMPLETE 0 0 len) ∧ Recorded s t m (Resp.plain 0x46 sCOMPLETE 0 0 len) := by
  have hkind : op ∈ [0x06, 0x07, 0x12, 0x13] := by
    simp only [List.mem_cons, List.not_mem_nil, or_false] at hop ⊢
    omega
  obtain ⟨t, heq, hmem, hserved, hrec⟩ := write_served hreq hc hfresh hspan hkind hpoison hpush (by rw [hdata, length_unmasked, hb])
  rw [hdata, memWriteMasked_unmasked] at hmem
  rw [hdata, writeResp_unmasked, hb] at hserved hrec
  refine ⟨t, heq, hmem, fun x hx => ?_, hserved, hrec⟩
  rw [hmem]
  exact memByte_memWrite_out _ _ _ (by rw [hb]; exact hx)

/-- A write under a mask of one bit for each byte. -/
theorem masked_served {op len off off' n : Nat} (hreq : PpaReq s k m a len) (hfresh : Fresh s op m)
    (hspan : reqSpan (asOp op m) = (a, len)) (hop : op ∈ [0x07, 0x13])
    (hdata : reqData (asOp op m) = maskedBytes (slice m.data off n) (slice m.data off' len)) (hn : len ≤ 8 * n) :
    ∃ t, arriveReq s k op m (fun s m => translateReq s k m) = t
      ∧ (∀ i, i < len → memByte t.mem (a + i)
        = if bit (leAt m.data (off + i / 8) 1) (i % 8) then (slice m.data off' len).getD i 0#8 else memByte s.mem (a + i))
      ∧ (∀ x, x < a ∨ a + len ≤ x → memByte t.mem x = memByte s.mem x)
      ∧ ∃ c, Served s t m (Resp.plain 0x46 sCOMPLETE 0 0 c) := by
  have hkind : op ∈ [0x06, 0x07, 0x12, 0x13] ∧ op ≠ 0x06 := by
    simp only [List.mem_cons, List.not_mem_nil, or_false] at hop ⊢
    omega
  have hlen : (maskedBytes (slice m.data off n) (slice m.data off' len)).length = len := by rw [length_maskedBytes, length_slice]
  obtain ⟨t, heq, hmem, hserved, -⟩ := write_served hreq hc hfresh hspan hkind.1 hpoison (fun h => absurd h hkind.2) (by rw [hdata, hlen])
  rw [hdata] at hmem
  refine ⟨t, heq, fun i hi => ?_, fun x hx => ?_, _, hserved⟩
  · rw [hmem, memByte_maskedBytes _ _ _ (by rw [length_slice]; exact hi), leAt_slice _ (by omega)]
  · rw [hmem]
    exact memByte_memWriteMasked_out _ _ _ (by rw [hlen]; exact hx)

end

/-- Settles O42: a fresh request by PPA to a plain extent is served on arrival; a read of clean memory reads it as it stands, and
a write puts the runs of its mask. -/
theorem readsAndWritesReachThePool : Obligations.ReadsAndWritesReachThePool := by
  unfold Obligations.ReadsAndWritesReachThePool
  refine fun s k m => ⟨fun a len ha hl hreq hc => ⟨fun hf => ?_, fun hf hp => ?_⟩, fun a ha hreq hc hf hp => ?_,
    fun a ha hreq hc => ⟨fun hf => ?_, fun hf hp hpush => ?_, fun hf hp => ?_⟩⟩
  case refine_1 =>
    subst ha hl
    obtain ⟨t, heq, hmem, hans, hregs, hxlt, hdirc, hsched⟩ := read_served hreq hc hf rfl (.inr rfl)
    exact ⟨t, congrArg Host.Outcome.next heq, hans, hregs, hmem, hxlt, hdirc, hsched⟩
  case refine_2 =>
    subst ha hl
    obtain ⟨t, heq, hmem, hout, ⟨hans, hregs, hxlt, hdirc, hsched⟩, hrec⟩ := unmasked_served hc hp hreq hf rfl (by decide)
      (fun h => absurd h (by decide)) rfl (length_slice ..)
    exact ⟨t, congrArg Host.Outcome.next heq, hmem, hout, hans, hrec, hregs, hxlt, hdirc, hsched⟩
  case refine_3 =>
    subst ha
    obtain ⟨t, heq, hin, hout, c, hans, hregs, hxlt, hdirc,
      -⟩ := masked_served (off := 0) (n := 32) hc hp hreq hf rfl (by decide) rfl (by decide)
    simp only [Nat.zero_add] at hin
    exact ⟨t, congrArg Host.Outcome.next heq, hin, hout, ⟨c, hans⟩, hregs, hxlt, hdirc⟩
  case refine_4 =>
    subst ha
    obtain ⟨t, heq, hmem, hans, hregs, hxlt, hdirc, hsched⟩ := read_served hreq hc hf rfl (.inl rfl)
    exact ⟨t, congrArg Host.Outcome.next heq, hans, hregs, hmem, hxlt, hdirc, hsched⟩
  case refine_5 =>
    subst ha
    obtain ⟨t, heq, hmem, hout, ⟨hans, hregs, hxlt, hdirc, hsched⟩, hrec⟩ := unmasked_served hc hp hreq hf rfl (by decide)
      (fun _ => hpush) rfl (length_slice ..)
    exact ⟨t, congrArg Host.Outcome.next heq, hmem, hout, hans, hrec, hregs, hxlt, hdirc, hsched⟩
  case refine_6 =>
    subst ha
    obtain ⟨t, heq, hin, hout, c, hans, hregs, hxlt, hdirc,
      -⟩ := masked_served (off := 128) (n := 16) hc hp hreq hf rfl (by decide) rfl (by decide)
    exact ⟨t, congrArg Host.Outcome.next heq, hin, hout, ⟨c, hans⟩, hregs, hxlt, hdirc⟩

end Sys2Proof.Machine
end

section
/-! PROOFS. Tenants, capacity floors, gates and the depth of a fault queue (O27). -/

namespace Sys2Proof.Machine
open Sys2Proof

/-! ### The settings of a tenant (R487, R510) -/

/-- The registers of a tenant's settings. -/
def tenantRegs (u : Nat) : List Nat := [Reg.XLT_TN_CFG u, Reg.XLT_TN_LIMITS u, Reg.XLT_TN_ADMITLIM u, Reg.ETH_TW u]

theorem tenantRegs_apart {u : Nat} (hu : u < 256) :
    Reg.XLT_TN_CFG u ≠ Reg.XLT_TN_LIMITS u ∧ Reg.XLT_TN_CFG u ≠ Reg.XLT_TN_ADMITLIM u ∧ Reg.XLT_TN_CFG u ≠ Reg.ETH_TW u
      ∧ Reg.XLT_TN_LIMITS u ≠ Reg.XLT_TN_ADMITLIM u ∧ Reg.XLT_TN_LIMITS u ≠ Reg.ETH_TW u ∧ Reg.XLT_TN_ADMITLIM u ≠ Reg.ETH_TW u := by
  unfold Reg.XLT_TN_CFG Reg.XLT_TN_LIMITS Reg.XLT_TN_ADMITLIM Reg.ETH_TW
  omega

/-- The fields of XLT_TNt_CFG. -/
theorem tenantWord_fields {w c m : Nat} (hw : w < 256) (hc : c < 8) (hm : m < 2) (valid : Bool) :
    w + 2 ^ 8 * c + 2 ^ 11 * m + 2 ^ 31 * b2n valid < 2 ^ 32
      ∧ bits (w + 2 ^ 8 * c + 2 ^ 11 * m + 2 ^ 31 * b2n valid) 7 0 = w
      ∧ bits (w + 2 ^ 8 * c + 2 ^ 11 * m + 2 ^ 31 * b2n valid) 10 8 = c
      ∧ bits (w + 2 ^ 8 * c + 2 ^ 11 * m + 2 ^ 31 * b2n valid) 11 11 = m
      ∧ bits (w + 2 ^ 8 * c + 2 ^ 11 * m + 2 ^ 31 * b2n valid) 31 31 = b2n valid := by
  have hv : b2n valid < 2 := by cases valid <;> decide
  unfold bits
  omega

section
variable (s : State) (u w c m mc mw ma : Nat) (valid : Bool)

theorem samePool_putTenant : SamePool s (putTenant s u w c m mc mw ma valid) := ⟨rfl, rfl, rfl, rfl, rfl, rfl, rfl⟩

theorem sameRegs_putTenant : SameRegs s (putTenant s u w c m mc mw ma valid) (tenantRegs u) :=
  (((sameRegs_rput _ _ (by simp [tenantRegs])).trans (sameRegs_rput _ _ (by simp [tenantRegs]))).trans
    (sameRegs_rput _ _ (by simp [tenantRegs]))).trans (sameRegs_rput _ _ (by simp [tenantRegs]))

variable {u} (hu : u < 256)
include hu

theorem rg_putTenant :
    rg (putTenant s u w c m mc mw ma valid) (Reg.XLT_TN_CFG u) = (w + 2 ^ 8 * c + 2 ^ 11 * m + 2 ^ 31 * b2n valid) % 2 ^ 32
      ∧ rg (putTenant s u w c m mc mw ma valid) (Reg.XLT_TN_LIMITS u) = (mc + 2 ^ 15 * mw) % 2 ^ 32
      ∧ rg (putTenant s u w c m mc mw ma valid) (Reg.XLT_TN_ADMITLIM u) = ma % 2 ^ 32 := by
  obtain ⟨hcl, hca, hct, hla, hlt, hat⟩ := tenantRegs_apart hu
  unfold putTenant
  refine ⟨?_, ?_, ?_⟩
  · rw [rg_rput_ne _ _ hct, rg_rput_ne _ _ hca, rg_rput_ne _ _ hcl, rg_rput_self]
  · rw [rg_rput_ne _ _ hlt, rg_rput_ne _ _ hla, rg_rput_self]
  · rw [rg_rput_ne _ _ hat, rg_rput_self]

variable {w c m mc mw ma} (hw : w < 256) (hc : c < 8) (hm : m < 2)
include hw hc hm

theorem putTenant_exists : tenantExists (putTenant s u w c m mc mw ma valid) u = valid := by
  obtain ⟨hcfg, -, -⟩ := rg_putTenant s w c m mc mw ma valid hu
  obtain ⟨hlt, -, -, -, hv⟩ := tenantWord_fields hw hc hm valid
  unfold tenantExists rf
  rw [hcfg, Nat.mod_eq_of_lt hlt, hv, decide_eq_true hu]
  cases valid <;> rfl

theorem putTenant_settings (hmc : mc ≤ 16384) (hmw : mw ≤ 32768) (hma : ma ≤ 8192) :
    tenantClass (putTenant s u w c m mc mw ma valid) u = c ∧ isolated (putTenant s u w c m mc mw ma valid) u = (m == 1)
      ∧ rf (putTenant s u w c m mc mw ma valid) (Reg.XLT_TN_CFG u) 7 0 = w
      ∧ rf (putTenant s u w c m mc mw ma valid) (Reg.XLT_TN_LIMITS u) 14 0 = mc
      ∧ rf (putTenant s u w c m mc mw ma valid) (Reg.XLT_TN_LIMITS u) 30 15 = mw
      ∧ rf (putTenant s u w c m mc mw ma valid) (Reg.XLT_TN_ADMITLIM u) 13 0 = ma := by
  obtain ⟨hcfg, hlim, hadm⟩ := rg_putTenant s w c m mc mw ma valid hu
  obtain ⟨hlt, hweight, hclass, hmode, -⟩ := tenantWord_fields hw hc hm valid
  unfold tenantClass isolated rf
  rw [hcfg, hlim, hadm, Nat.mod_eq_of_lt hlt, hclass, hmode, hweight]
  refine ⟨rfl, rfl, rfl, ?_, ?_, ?_⟩ <;> unfold bits <;> omega

end

/-! ### TENANT_SET and TENANT_CLEAR (R447, R487, R488) -/

section
variable {s : State} {u w c m mc mw ma : Nat}

theorem doTenantSet_sets (h : (tenantExists s u = true → isolated s u = (m == 1))
      ∨ (heldExtents s u = 0 ∧ heldContexts s u = 0 ∧ heldQps s u = 0)) :
    doTenantSet u w c m mc mw ma s = (putTenant s u w c m mc mw ma true, Rep.ok) := by
  refine if_neg fun hconflict => ?_
  simp only [Bool.and_eq_true, bne_iff_ne, decide_eq_true_eq] at hconflict
  obtain ⟨⟨hex, hmode⟩, hheld⟩ := hconflict
  rcases h with hsame | ⟨hext, hctx, hqp⟩
  · exact hmode (hsame hex)
  · omega

theorem doTenantSet_conflicts (hex : tenantExists s u = true) (hmode : isolated s u ≠ (m == 1)) (hheld : 0 < heldExtents s u) :
    doTenantSet u w c m mc mw ma s = (s, .done stCONFLICT []) := by
  refine if_pos ?_
  simp only [hex, Bool.and_eq_true, bne_iff_ne, decide_eq_true_eq]
  exact ⟨⟨trivial, hmode⟩, by omega⟩

theorem doTenantClear_clears (hex : tenantExists s u = true) (hext : heldExtents s u = 0) (hview : heldViews s u = 0)
    (hwin : heldWindows s u = 0) (hctx : heldContexts s u = 0) (hqp : heldQps s u = 0) (hlin : heldLintels s u = 0) :
    doTenantClear u s = (putTenant s u 1 0 0 0 0 0 false, Rep.ok) := by
  unfold doTenantClear
  rw [hex, hext, hview, hwin, hctx, hqp, hlin]
  rfl

end

theorem tenantExists_reply_ok (t : State) (slot op : Nat) (tag : Word32) (b : List Byte) (u : Nat) :
    tenantExists (reply t slot op tag stOK b) u = tenantExists t u := by
  unfold tenantExists
  rw [rf_reply_ok]

/-! ### Floors (R495) -/

/-- The words that CAPACITY_SET writes into the floors of the classes. -/
def floorEntries (floors : List Nat) : List (Nat × Nat) := ((List.range 8).zip floors).map fun e => (Reg.XLT_FLOOR e.1, e.2)

theorem doCapacitySet_eq (floors : List Nat) (retry : Nat) (s : State) :
    doCapacitySet floors retry s = (rput (putRegs s (floorEntries floors)) Reg.XLT_ADMIT_RETRY retry, Rep.ok) := by
  unfold doCapacitySet putRegs floorEntries
  rw [List.foldl_map]

theorem mem_floorEntries {floors : List Nat} {e : Nat × Nat} (h : e ∈ floorEntries floors) :
    ∃ j, j < 8 ∧ floors[j]? = some e.2 ∧ e.1 = Reg.XLT_FLOOR j := by
  obtain ⟨⟨j, v⟩, hjv, rfl⟩ := List.mem_map.1 h
  obtain ⟨i, hi⟩ := List.mem_iff_getElem?.1 hjv
  obtain ⟨hj, hv⟩ := List.getElem?_zip_eq_some.1 hi
  obtain ⟨hlt, hval⟩ := List.getElem?_eq_some_iff.1 hj
  rw [List.length_range] at hlt
  rw [List.getElem_range] at hval
  subst hval
  exact ⟨i, hlt, hv, rfl⟩

theorem rg_floor_putRegs {floors : List Nat} (s : State) {j v : Nat} (hj : j < 8) (hv : floors[j]? = some v) :
    rg (putRegs s (floorEntries floors)) (Reg.XLT_FLOOR j) = v % 2 ^ 32 := by
  refine rg_putRegs_of_mem s (List.mem_map.2 ⟨(j, v), List.mem_iff_getElem?.2 ⟨j, ?_⟩, rfl⟩) fun e he hje => ?_
  · exact List.getElem?_zip_eq_some.2 ⟨by rw [List.getElem?_range hj], hv⟩
  · obtain ⟨i, -, hi, hie⟩ := mem_floorEntries he
    obtain rfl : i = j := by
      rw [hie] at hje
      unfold Reg.XLT_FLOOR at hje
      omega
    exact Option.some_inj.1 (hi.symm.trans hv)

theorem map_fst_floorEntries_subset (floors : List Nat) : (floorEntries floors).map Prod.fst ⊆ (List.range 8).map Reg.XLT_FLOOR := by
  intro a ha
  obtain ⟨e, he, rfl⟩ := List.mem_map.1 ha
  obtain ⟨j, hj, -, hej⟩ := mem_floorEntries he
  exact List.mem_map.2 ⟨j, List.mem_range.2 hj, hej.symm⟩

/-! ### Gates and fault queues (R106, R109, R498, R501) -/

/-- With no isolated tenant GATE_SET has nothing to conflict with. -/
theorem doGateSet_waits {s : State} (h : isolatedTenants s = []) (ctl cycle : Nat) (l : List Nat) :
    doGateSet ctl cycle l s = ({ s with sched := { s.sched with pendingGate := some (ctl, cycle, l) } }, Rep.ok) := by
  unfold doGateSet
  simp [h]

theorem doFaultqSet_sets {s : State} {u d : Nat} (hex : tenantExists s u = true) (hd : (faultsOf s u).length ≤ d) :
    doFaultqSet u d s = (rput s (Reg.XLT_FQ_CFG u) d, Rep.ok) := by
  unfold doFaultqSet
  rw [hex, if_neg (Nat.not_lt.2 hd)]
  rfl

theorem doFaultqSet_conflicts {s : State} {u d : Nat} (hex : tenantExists s u = true) (hd : d < (faultsOf s u).length) :
    doFaultqSet u d s = (s, .done stCONFLICT []) := by
  unfold doFaultqSet
  rw [hex, if_pos hd]
  rfl

/-- Settles O27: settings that fit their fields read back, and what bars a command is read from what the tenant holds. -/
theorem tenantsFloorsAndGates : Obligations.TenantsFloorsAndGates := by
  unfold Obligations.TenantsFloorsAndGates
  refine ⟨fun s slot tag u w c m mc mw ma hrun ha hu hw hw' hc hm hmc hmw hma hma' => ?_,
    fun s slot tag u hrun ha hu hex hext hview hwin hctx hqp hlin => ?_, fun s slot tag u hrun hu hex => ?_,
    fun s slot tag l r hrun ha hlen hfall hmax hr hr' => ?_,
    fun s slot tag u d hrun ha hu hd hd' hex => ⟨fun hroom => ?_, fun hfull => ?_⟩,
    fun s slot tag c y l hrun ha hc hguard hy hy' hlen hl hsum hlong hiso => ?_⟩
  case refine_1 =>
    have hbad : (!atMost u 255 || !within w 1 255 || !atMost c 7 || !atMost m 1 || !atMost mc 16384 || !atMost mw 32768
        || !within ma 1 8192) = false := by
      simp [atMost, within, Nat.le_of_lt_succ hu, hw, Nat.le_of_lt_succ hw', Nat.le_of_lt_succ hc, Nat.le_of_lt_succ hm, hmc, hmw, hma, hma']
    refine ⟨fun hfree => ?_, fun hex hmode hheld => ?_⟩
    · refine completes_done rfl hbad hrun ha fun mb => ⟨_, _, _, doTenantSet_sets (s := { s with mbx := mb }) hfree, ?_⟩
      obtain ⟨hclass, hmode, hweight, hctxs, hwatch, hadmit⟩ :=
        putTenant_settings { s with mbx := mb } true hu hw' hc hm hmc hmw hma'
      refine ⟨(tenantExists_reply_ok ..).trans (putTenant_exists _ true hu hw' hc hm), (rf_reply_ok ..).trans hclass, ?_,
        (rf_reply_ok ..).trans hweight, (rf_reply_ok ..).trans hctxs, (rf_reply_ok ..).trans hwatch, (rf_reply_ok ..).trans hadmit,
        SameRegs.reply ((sameRegs_mbx s mb _).trans (sameRegs_putTenant _ _ _ _ _ _ _ _ _)), ⟨_, rfl⟩,
        SamePool.reply ((samePool_mbx s mb).trans (samePool_putTenant ..))⟩
      rw [← hmode]
      unfold isolated
      rw [rf_reply_ok]
    · exact completes_done rfl hbad hrun ha fun mb => ⟨_, _, _, doTenantSet_conflicts (s := { s with mbx := mb }) hex hmode hheld,
        ⟨_, rfl⟩, SameRegs.reply (sameRegs_mbx s mb []), SamePool.reply (samePool_mbx s mb)⟩
  case refine_2 =>
    have hbad : (!atMost u 255) = false := by simpa [atMost] using Nat.le_of_lt_succ hu
    exact completes_done rfl hbad hrun ha fun mb => ⟨_, _, _,
      doTenantClear_clears (s := { s with mbx := mb }) hex hext hview hwin hctx hqp hlin,
      (tenantExists_reply_ok ..).trans (putTenant_exists _ false hu (by decide) (by decide) (by decide)), ⟨_, rfl⟩,
      SamePool.reply ((samePool_mbx s mb).trans (samePool_putTenant ..)), SameRegs.reply ((sameRegs_mbx s mb _).trans (sameRegs_putTenant _ _ _ _ _ _ _ _ _))⟩
  case refine_3 =>
    have hbad : (!atMost u 255) = false := by simpa [atMost] using Nat.le_of_lt_succ hu
    have hknown : ¬ (!tenantExists s u.toNat) = true := by simp [hex]
    exact completes_query rfl hbad hrun fun mb => ⟨_, _, _, if_neg hknown, ⟨_, rfl⟩, SameRegs.reply (sameRegs_mbx s mb []),
      SamePool.reply (samePool_mbx s mb), SameRest.reply (sameRest_mbx s mb)⟩
  case refine_4 =>
    have hlist : ∀ j, j < 8 → (l.map (·.toNat))[j]? = some (l.getD j 0).toNat := fun j hj => by
      have hjl : j < l.length := by omega
      simp [List.getD_eq_getElem?_getD, hjl]
    have hhead : ¬ 2832 < (l.map (·.toNat)).headD 0 := by
      rcases l with _ | ⟨w, l⟩
      · simp
      · exact Nat.not_lt.2 (hmax w List.mem_cons_self)
    have hbad : (l.length != 8 || !falling (l.map (·.toNat)) || decide (2832 < (l.map (·.toNat)).headD 0) || !within r 1 1000) = false := by
      rw [hlen, hfall, decide_eq_false hhead]
      simp [within, hr, hr']
    have hretry : ∀ j, j < 8 → Reg.XLT_FLOOR j ≠ Reg.XLT_ADMIT_RETRY := by decide
    refine completes_done rfl hbad hrun ha fun mb => ⟨_, _, _, doCapacitySet_eq _ _ { s with mbx := mb }, fun j hj => ?_, ?_, ?_, ⟨_, rfl⟩,
      SamePool.reply (((samePool_mbx s mb).trans (samePool_putRegs _ _)).trans (samePool_rput _ _ _))⟩
    · have hle : (l.getD j 0).toNat ≤ 2832 := by
        have hjl : j < l.length := by omega
        rw [List.getD_eq_getElem _ _ hjl]
        exact hmax _ (List.getElem_mem hjl)
      rw [rg_reply_ok, rg_rput_ne _ _ (hretry j hj), rg_floor_putRegs _ hj (hlist j hj), Nat.mod_eq_of_lt (by omega)]
    · rw [rg_reply_ok, rg_rput_self, Nat.mod_eq_of_lt (by omega)]
    · have hfloors := (sameRegs_putRegs { s with mbx := mb } (floorEntries (l.map (·.toNat)))).mono
        (List.Subset.trans (map_fst_floorEntries_subset _) (List.subset_cons_self Reg.XLT_ADMIT_RETRY _))
      exact SameRegs.reply (SameRegs.trans hfloors (sameRegs_rput _ _ List.mem_cons_self))
  case refine_5 =>
    have hbad : (!atMost u 255 || !within d 16 16384) = false := by simp [atMost, within, Nat.le_of_lt_succ hu, hd, hd']
    refine completes_done rfl hbad hrun ha fun mb => ⟨_, _, _, doFaultqSet_sets (s := { s with mbx := mb }) hex hroom, ?_,
      SameRegs.reply (sameRegs_rput { s with mbx := mb } _ (List.mem_singleton_self _)), ⟨_, rfl⟩,
      SamePool.reply ((samePool_mbx s mb).trans (samePool_rput _ _ _))⟩
    rw [rg_reply_ok, rg_rput_self, Nat.mod_eq_of_lt (by omega)]
  case refine_6 =>
    have hbad : (!atMost u 255 || !within d 16 16384) = false := by simp [atMost, within, Nat.le_of_lt_succ hu, hd, hd']
    exact completes_done rfl hbad hrun ha fun mb => ⟨_, _, _, doFaultqSet_conflicts (s := { s with mbx := mb }) hex hfull, ⟨_, rfl⟩,
      SameRegs.reply (sameRegs_mbx s mb []), SamePool.reply (samePool_mbx s mb)⟩
  case refine_7 =>
    have hlongs : ((l.filter fun w => bit w.toNat 29).map fun w => bits w.toNat 19 0 * 8).any
        (fun d => decide (d < 2000 * bits c.toNat 15 8)) = false := by
      simpa using hlong
    have hbad : (!onlyBits c 0xFF7F || decide (bits c.toNat 15 8 < 4) || !within y 10000 100000000 || decide (64 < l.length)
        || !l.all (fun w => onlyBits w 0x3FFFFFFF)
        || ((l.filter fun w => bit w.toNat 29).map fun w => bits w.toNat 19 0 * 8).foldl (· + ·) 0 != y.toNat
        || ((l.filter fun w => bit w.toNat 29).map fun w => bits w.toNat 19 0 * 8).any
          (fun d => decide (d < 2000 * bits c.toNat 15 8))) = false := by
      rw [hc, all_onlyBits hl, hsum, hlongs]
      simp [within, hguard, hy, hy', hlen]
    refine completes_done rfl hbad hrun ha fun mb => ⟨_, _, _, doGateSet_waits (s := { s with mbx := mb }) hiso _ _ _, reply_sched .., ⟨_, rfl⟩,
      SameRegs.reply (SameRegs.of_regs rfl []), reply_xlt .., reply_mem ..⟩

end Sys2Proof.Machine
end

section
/-! PROOFS. Contexts under updates, what the translation of a descriptor leaves alone, and the state that work gives a context. -/

namespace Sys2Proof.Machine
open Sys2Proof

/-! ### Contexts under updates -/

section
variable {s t u : State} {x : Nat} {c c' : Ctx}

theorem ctxAt_congr (h : t.sched.ctxs = s.sched.ctxs) (y : Nat) : ctxAt t y = ctxAt s y := by
  unfold ctxAt
  rw [h]

theorem Kept.ctxAt (h : Kept s t) (y : Nat) : ctxAt t y = ctxAt s y := ctxAt_congr (congrArg Sched.ctxs h.sched) y

theorem ctxAt_setCtx (s : State) (x : Nat) (c : Ctx) (y : Nat) : ctxAt (setCtx s x c) y = if y = x then some c else ctxAt s y :=
  tget_tset s.sched.ctxs x c y

@[simp] theorem ctxAt_setCtx_self (s : State) (x : Nat) (c : Ctx) : ctxAt (setCtx s x c) x = some c := tget_tset_self _ _ _

theorem setCtx_setCtx (s : State) (x : Nat) (c c' : Ctx) : setCtx (setCtx s x c) x c' = setCtx s x c' := by
  unfold setCtx
  dsimp only
  rw [tset_tset_self]

theorem updCtx_eq (h : ctxAt s x = some c) (f : Ctx → Ctx) : updCtx s x f = setCtx s x (f c) := by
  unfold updCtx
  rw [h]

theorem SameCtxs.of_ctxs (h : t.sched.ctxs = s.sched.ctxs) (l : List Nat) : SameCtxs s t l := fun y _ => ctxAt_congr h y

theorem SameCtxs.trans {l : List Nat} (h : SameCtxs s t l) (h' : SameCtxs t u l) : SameCtxs s u l :=
  fun y hy => (h' y hy).trans (h y hy)

theorem sameCtxs_setCtx (s : State) (x : Nat) (c : Ctx) : SameCtxs s (setCtx s x c) [x] :=
  fun y hy => (ctxAt_setCtx s x c y).trans (if_neg fun h => hy (List.mem_singleton.2 h))

/-- With no header write waiting there is none to make. -/
theorem flushPosts_of_none (h : s.sched.posts = []) (x : Nat) : flushPosts s x = s := by
  have hposts : { s with sched := { s.sched with posts := [] } } = s := by rw [← h]
  unfold flushPosts
  rw [h]
  split
  · exact hposts
  · exact hposts

end

/-! ### Translation of a descriptor (R86) -/

theorem kept_xlUnits (kind tenant need src : Nat) (s : State) (l : List (Nat × Nat)) : Kept s (xlUnits kind tenant need src s l).1 := by
  induction l generalizing s with
  | nil => exact Kept.refl s
  | cons e l ih => exact (kept_unitXl s kind tenant e.1 need src).trans (ih _)

theorem kept_xlDesc (tenant src : Nat) (s : State) (us : List OpUnits) : Kept s (xlDesc tenant src s us).1 := by
  induction us generalizing s with
  | nil => exact Kept.refl s
  | cons v us ih => exact (kept_xlUnits v.kind tenant v.need src s _).trans (ih _)

/-! ### The state of a context (R249) -/

theorem workState_of_run {s : State} {x : Nat} {c : Ctx} {r : Run} (hrun : c.run = some r) : workState s x c ≠ cxIDLE := by
  unfold workState
  simp only [hrun, Option.isSome_some, if_true]
  split
  · decide
  · decide

section
variable {s : State} {x : Nat} {c : Ctx} {r : Run} (hc : ctxAt s x = some c)
include hc

/-- A READY context with work takes the state that its work gives it, and nothing else changes. -/
theorem settle_of_ready (hst : c.st = cxREADY) (hwork : workState s x c ≠ cxIDLE) : settle s x = setCtx s x { c with st := workState s x c } := by
  have hlow : ¬ cxSUSPENDED ≤ c.st := by rw [hst]; decide
  have hawake : ¬ (workState s x c = cxREADY ∧ c.st ≠ cxREADY) := fun h => h.2 hst
  have hbusy : ¬ (workState s x c = cxIDLE ∧ (c.st ≠ cxIDLE ∨ c.pend = true) ∧ paused s c = false) := fun h => hwork h.1
  unfold settle
  simp only [hc, hlow, hbusy, hawake, if_false]
  exact updCtx_eq hc _

/-- A stream, or a descriptor that has failed, is no WAIT to be looked at. -/
theorem startWait_of_no_wait (hrun : c.run = some r) (hr : ((courseOf r.raw).isStream || r.job.fail.isSome) = true) : startWait s x = s := by
  unfold startWait
  simp only [hc, hrun, hr, Bool.true_or, if_true]

/-- A READY context that runs nothing takes a descriptor that is no WAIT. -/
theorem enqueueRun_ready (hst : c.st = cxREADY) (hrun : c.run = none)
    (hr : ((courseOf r.raw).isStream || r.job.fail.isSome) = true) :
    ∃ st, enqueueRun s x r = setCtx s x { c with run := some r, st := st } := by
  have hput : ctxAt (setCtx s x { c with run := some r }) x = some { c with run := some r } := ctxAt_setCtx_self _ _ _
  refine ⟨workState (setCtx s x { c with run := some r }) x { c with run := some r }, ?_⟩
  unfold enqueueRun
  rw [updCtx_eq hc, hrun]
  dsimp only
  rw [startWait_of_no_wait hput rfl hr, settle_of_ready hput hst (workState_of_run rfl), setCtx_setCtx]

end

end Sys2Proof.Machine
end

section
/-! PROOFS. Acceptance of a descriptor of a ring (O31). -/

namespace Sys2Proof.Machine
open Sys2Proof

/-! ### Reading the next slot (R84, R237, R244) -/

section
variable {s u : State} {x : Nat} {c : Ctx} {b : List Byte} {n : Nat}

theorem Acceptable.reach (h : Acceptable s x c) (t0 : Nat) : Acceptable (reach s t0) x c := by
  obtain ⟨hctx, hready, hgoing, hrun, hnext, hpark, hin, hmore, hroom, hposts⟩ := h
  unfold Machine.reach
  split
  · exact ⟨hctx, hready, hgoing, hrun, hnext, hpark, hin, hmore, hroom, hposts⟩
  · exact ⟨hctx, hready, hgoing, hrun, hnext, hpark, hin, hmore, hroom, hposts⟩

/-- A context that runs nothing reads the descriptor at HEAD. -/
theorem nextDesc_of_acceptable (h : Acceptable s x c) : c.nextDesc = some c.head := by
  have hmore : ¬ c.tail ≤ c.head := Nat.not_le.2 h.more
  simp [Ctx.nextDesc, h.run, h.next, h.inRing, hmore]

/-- A slot that can be read is checked and translated, after ADMIT_STATUS is cleared. -/
theorem acceptNext_reads (h : Acceptable s x c) (hread : ringRead s c (slotAddr c c.head) 256 = (u, .ok b n)) {w : State} {c' : Ctx}
    (hclear : clearAdmit u x c = w) (hc' : ctxAt w x = some c') (hst : c'.st ≠ cxSTOPPED) :
    acceptNext s x = admitCourse w x c' c.head b := by
  have hserved : ¬ (c.st < cxREADY ∨ cxPARKED < c.st ∨ paused s c = true) := by
    rw [h.ready, h.going]
    decide
  have hpark : ¬ c.park.isSome = true := by simp [h.park]
  unfold acceptNext
  simp only [flushPosts_of_none h.posts, h.ctx, if_neg hserved, nextDesc_of_acceptable h, if_neg hpark, h.room, hread, hclear, hc', if_neg hst]

theorem clearAdmit_of_clear (hb : c.busyRetry = false) : clearAdmit u x c = u := by
  unfold clearAdmit
  rw [hb]
  rfl

end

/-! ### Checking and translating a course descriptor (R83, R84, R86, R89) -/

section
variable {s : State} {x : Nat} {c : Ctx} {d : Nat} {b : List Byte} (hc : ctxAt s x = some c) (hst : c.st = cxREADY) (hrun : c.run = none)
include hc hst hrun

/-- A descriptor error: the context runs a descriptor that has failed already. -/
theorem admitCourse_error (herr : (courseOf b).error c.gangMax (isolated s c.tenant) = true) :
    ∃ st r, admitCourse s x c d b = setCtx (takeNumber s).1 x { c with run := some r, st := st } ∧ r.raw = b ∧ r.job.desc = d
      ∧ r.job.fail = some (sFAULTED, 0x01) := by
  have hbad : ((courseOf b).error c.gangMax (isolated s c.tenant) || unitsBad (courseOf b).units) = true := by rw [herr, Bool.true_or]
  obtain ⟨st, heq⟩ := enqueueRun_ready (s := (takeNumber s).1) (r := Run.fresh b ((Job.fresh (takeNumber s).2 d).failing sFAULTED 0x01))
    hc hst hrun (Bool.or_true _)
  refine ⟨st, Run.fresh b ((Job.fresh (takeNumber s).2 d).failing sFAULTED 0x01), ?_, rfl, rfl, rfl⟩
  rw [← heq]
  unfold admitCourse
  exact if_pos hbad

/-- A stream that translates: its shadow holds the entries, and the context runs it. -/
theorem admitCourse_accepts {v : State} {e : DescXl} (herr : (courseOf b).error c.gangMax (isolated s c.tenant) = false)
    (hstream : (courseOf b).isStream = true) (hunits : unitsBad (courseOf b).units = false)
    (hxl : xlDesc c.tenant (portCoord s 0) s (courseOf b).units = (v, e)) (hwin : e.window = false) (hfaults : e.faults = [])
    (hover : (courseOf b).overlaps e.entries ((courseOf b).shadowFields (placeFields 0 e.fields)) = false) :
    ∃ st r h, admitCourse s x c d b
        = setCtx (putShadow (takeNumber v).1 v.sched.nextShadow h) x { c with run := some r, st := st }
      ∧ r.raw = b ∧ r.job.shadow = v.sched.nextShadow ∧ r.job.desc = d ∧ r.job.fail = none
      ∧ h.context = x ∧ h.tenant = c.tenant ∧ h.course = true ∧ h.entries = e.entries ∧ h.origin = slotAddr c d := by
  have hkept : Kept s v := by simpa only [hxl] using kept_xlDesc c.tenant (portCoord s 0) s (courseOf b).units
  have hgood : ((courseOf b).error c.gangMax (isolated s c.tenant) || unitsBad (courseOf b).units) = false := by rw [herr, hunits]; rfl
  unfold admitCourse
  simp only [hgood, hxl, hwin, hfaults, hover, List.isEmpty_nil, Bool.not_true, Bool.false_eq_true, if_false]
  obtain ⟨st, heq⟩ := enqueueRun_ready (s := putShadow (takeNumber v).1 (takeNumber v).2
      { context := x, tenant := c.tenant, course := true, entries := e.entries
        sigIdx := (fieldOf (placeFields 0 e.fields) 16).1, held := false, era := v.xlt.era, accepted := now v, origin := slotAddr c d
        operands := (courseOf b).shadowFields (placeFields 0 e.fields) })
    (r := Run.fresh b { Job.fresh (takeNumber v).2 d with nextTile := startTile v false x d, tiles := startTile v false x d })
    ((hkept.ctxAt x).trans hc) hst hrun (Bool.or_eq_true_iff.2 (Or.inl hstream))
  exact ⟨st, _, _, heq, rfl, rfl, rfl, rfl, rfl, rfl, rfl, rfl, rfl⟩

end

/-- Settles O31: the slot is read once nothing bars it, and a READY context runs what its descriptor has become. -/
theorem descriptorsAreAccepted : Obligations.DescriptorsAreAccepted := by
  unfold Obligations.DescriptorsAreAccepted
  refine ⟨fun s u x c b n hacc hretry hbusy hread => ?_, fun s u w x t0 c b n hacc hretry hbusy hread hput herr => ?_⟩
  case refine_1 =>
    have hkept : Kept s u := by simpa only [hread] using kept_ringRead s c (slotAddr c c.head) 256
    have hcu : ctxAt u x = some c := (hkept.ctxAt x).trans hacc.ctx
    have hexec : exec (.descriptorAccept x) s = .next (admitCourse u x c c.head b) := by
      rw [← acceptNext_reads hacc hread (clearAdmit_of_clear hbusy) hcu (by rw [hacc.ready]; decide)]
      show execDescriptorAccept x s = _
      simp only [execDescriptorAccept, hacc.ctx, Option.bind_some, hretry]
    refine ⟨fun herr => ?_, fun v d herr hstream hunits hxl hwin hfaults hover => ?_⟩
    · obtain ⟨st, r, hadmit, hraw, hdesc, hfail⟩ := admitCourse_error (d := c.head) hcu hacc.ready hacc.run herr
      rw [hadmit] at hexec
      exact ⟨_, hexec, ⟨_, r, ctxAt_setCtx_self _ _ _, rfl, hraw, hdesc, hfail, rfl, rfl⟩,
        (SameCtxs.of_ctxs (congrArg Sched.ctxs hkept.sched) _).trans (sameCtxs_setCtx (takeNumber u).1 x _), hkept.shadows⟩
    · have hkept' : Kept u v := by simpa only [hxl] using kept_xlDesc c.tenant (portCoord u 0) u (courseOf b).units
      have hsched : v.sched = s.sched := hkept'.sched.trans hkept.sched
      obtain ⟨st, r, h, hadmit, hraw, hshadow, hdesc, hfail, hx, hten, hcourse, hentries, horigin⟩ :=
        admitCourse_accepts (d := c.head) hcu hacc.ready hacc.run herr hstream hunits hxl hwin hfaults hover
      rw [hadmit] at hexec
      rw [← hsched]
      exact ⟨_, hexec, ⟨h, tget_tset_self _ _ _, hx, hten, hcourse, hentries, horigin⟩,
        ⟨_, r, ctxAt_setCtx_self _ _ _, rfl, hraw, hshadow, hdesc, hfail, rfl⟩, rfl,
        (SameCtxs.of_ctxs (congrArg Sched.ctxs hsched) _).trans (sameCtxs_setCtx (putShadow (takeNumber v).1 _ h) x _)⟩
  case refine_2 =>
    have hkept : Kept (reach s t0) u := by simpa only [hread] using kept_ringRead (reach s t0) c (slotAddr c c.head) 256
    obtain ⟨hctxs, -, -, -, htb, -⟩ := headerPut_ctxs (setCtx u x { c with busyRetry := false, retryAt := none }) x
      { c with busyRetry := false, retryAt := none } 0x08 (leBytes 16 0)
    rw [hput] at hctxs htb
    have hcw : ctxAt w x = some { c with busyRetry := false, retryAt := none } := (ctxAt_congr hctxs x).trans (ctxAt_setCtx_self _ _ _)
    have hclear : clearAdmit u x c = w := by
      simp only [clearAdmit, hbusy, hput]
      rfl
    have hexec : exec (.admitRetryExpire x) s = .next (admitCourse w x { c with busyRetry := false, retryAt := none } c.head b) := by
      rw [← acceptNext_reads (hacc.reach t0) hread hclear hcw (by show c.st ≠ _; rw [hacc.ready]; decide)]
      show execAdmitRetryExpire x s = _
      simp only [execAdmitRetryExpire, hacc.ctx, hretry, hacc.park]
      rfl
    obtain ⟨st, r, hadmit, hraw, -, hfail⟩ := admitCourse_error (d := c.head) hcw hacc.ready hacc.run herr
    rw [hadmit] at hexec
    refine ⟨_, hexec, ?_, ⟨_, r, ctxAt_setCtx_self _ _ _, rfl, rfl, rfl, hraw, hfail, rfl⟩, ?_⟩
    · have htime : w.tb = (reach s t0).tb := htb.trans hkept.tb
      show t0 ≤ w.tb.ns
      rw [htime]
      exact le_now_reach s t0
    · have hreach : SameCtxs s (setCtx u x { c with busyRetry := false, retryAt := none }) [x] :=
        (SameCtxs.of_ctxs (congrArg Sched.ctxs (hkept.sched.trans (reach_sched s t0))) _).trans (sameCtxs_setCtx u x _)
      exact (hreach.trans (SameCtxs.of_ctxs hctxs _)).trans (sameCtxs_setCtx (takeNumber w).1 x _)

end Sys2Proof.Machine
end

section
/-! PROOFS. What the reads and writes of a tile, completion records and signal words leave alone. -/

namespace Sys2Proof.Machine
open Sys2Proof

variable (s : State)

/-! ### Ranges of operands -/

theorem kept_loadSegs (l : List (Nat × Nat)) : Kept s (loadSegs s l).2.2 := by
  induction l generalizing s with
  | nil => exact Kept.refl s
  | cons e l ih => exact (kept_load s e.1 e.2).trans (ih _)

theorem kept_chargeRange (sh tile : Nat) (l : List (Nat × Nat)) : Kept s (chargeRange s sh tile l) := kept_chargeSegs s _ _

theorem kept_fetch (sh : Nat) (o : Opd) (off len : Nat) : Kept s (fetch sh o s off len).2.2 := by
  unfold fetch
  split
  · exact Kept.refl s
  · exact (kept_chargeRange s _ _ _).trans (kept_loadSegs _ _)

theorem kept_fetchAll (sh : Nat) (o : Opd) (l : List (Nat × Nat)) : Kept s (fetchAll sh o s l).2.2 := by
  induction l generalizing s with
  | nil => exact Kept.refl s
  | cons e l ih => exact (kept_fetch s sh o e.1 e.2).trans (ih _)

theorem kept_streamElems (sh : Nat) (c : Course) (h : Shadow) (t j : Nat) : Kept s (streamElems sh c h t j s).2.2 :=
  kept_fetchAll s _ _ _

theorem kept_rowElems (sh : Nat) (o : Opd) (r : OpRec) (l : List Nat) : Kept s (rowElems sh o r s l).2.2 := by
  induction l generalizing s with
  | nil => exact Kept.refl s
  | cons i l ih => exact (kept_fetchAll s sh o (rowRanges r i)).trans (ih _)

/-- A fold of reads keeps what each of them keeps. -/
theorem Kept.fold_reads {α β : Type} {s : State} {f : β × Bool × State → α → β × Bool × State} (h : ∀ p a, Kept p.2.2 (f p a).2.2) (l : List α)
    (p : β × Bool × State) (hp : Kept s p.2.2) : Kept s (l.foldl f p).2.2 := by
  induction l generalizing p with
  | nil => exact hp
  | cons a l ih => exact ih _ (hp.trans (h p a))

/-! ### PLACE (R230, R231) -/

theorem kept_pushLine (line coord : Nat) (who : TxnWho) : Kept s (pushLine s line coord who) := by
  unfold pushLine
  split
  · exact Kept.refl s
  · split
    · exact Kept.refl s
    · exact ((kept_sendMsg s _).trans (kept_fab _ _)).trans (kept_setTxns _ _)

theorem kept_placeSeg (a : Nat) (b : List Byte) (poison : Bool) (push : Option Nat) : Kept s (placeSeg s a b poison push) := by
  unfold placeSeg
  extract_lets coh ls s1 s2
  have h1 : Kept s s1 := Kept.ite (Kept.fold kept_storePoison _ s) (Kept.ite (kept_store s _ _) (kept_storeGathered s _ _ _))
  have h2 : Kept s s2 := h1.trans (Kept.ite (Kept.fold (fun u l => kept_setEnt u l none) _ _) (Kept.refl _))
  split
  · exact h2
  · exact h2.trans (Kept.ite (Kept.fold (fun u l => kept_pushLine u l _ _) _ _) (Kept.refl _))

theorem kept_mirrorTile (bulk : Bool) (x sh desc tile g mask : Nat) (poison : Bool) :
    Kept s (mirrorTile s bulk x sh desc tile g mask poison) := by
  unfold mirrorTile
  refine Kept.trans ?_ (kept_ownRequestVia _ _ _ _)
  exact ⟨rfl, rfl, rfl, rfl, rfl, rfl, rfl, rfl, rfl, rfl, rfl, rfl, rfl, rfl, rfl, rfl, rfl, rfl, rfl, rfl, rfl, rfl, rfl⟩

theorem kept_ensureWrites (sh : Nat) (os : Piece → Opd) (ps : List Piece) : Kept s (ensureWrites sh os s ps).2 := by
  unfold ensureWrites
  refine Kept.fold_snd (fun q p => ?_) ps (true, s)
  dsimp only
  split
  · exact Kept.refl q.2
  · refine Kept.fold_snd (fun r e => ?_) _ q
    exact kept_agentRange r.2 e.1 e.2 true

/-! ### Completion records and signal words (R245, R291) -/

theorem kept_ringClear (c : Ctx) (addr len : Nat) : Kept s (ringClear s c addr len).2 := by
  unfold ringClear
  have h := kept_wordXl s c.tenant addr pWR
  split
  next e => rw [e] at h; exact h
  next e =>
    rw [e] at h
    split
    · exact h
    · exact h.trans (kept_agentRange _ _ _ _)

theorem kept_writeRecord (c : Ctx) (sh d : Nat) (b : List Byte) : Kept s (writeRecord s c sh d b).2 := by
  unfold writeRecord
  have h1 := kept_ringClear s c (slotAddr c d + 0xF0) 16
  rcases hfirst : ringClear s c (slotAddr c d + 0xF0) 16 with ⟨ok1, s1⟩
  rw [hfirst] at h1
  have h2 := h1.trans (kept_ringClear s1 c c.ring 8)
  dsimp only
  rcases hsecond : ringClear s1 c c.ring 8 with ⟨ok2, s2⟩
  rw [hsecond] at h2
  dsimp only
  split
  · exact h2
  · have h3 := h2.trans (kept_ringWrite s2 c (slotAddr c d + 0xF0) b (.commit sh))
    split
    next s3 _ n e =>
      rw [e] at h3
      have h4 := h3.trans (kept_ringWrite s3 c c.ring (leBytes 8 (d + 1)) (.commit sh))
      split
      next e => rw [e] at h4; exact h4
      next e => rw [e] at h4; exact h4
    next e => rw [e] at h3; exact h3

theorem kept_signalXl (c : Ctx) (sh addr : Nat) : Kept s (signalXl s c sh addr).1 := by
  unfold signalXl
  split
  · exact kept_ringXl s _ _ _
  · split
    · exact Kept.refl s
    · split
      · exact Kept.refl s
      · exact kept_wordXl s _ _ _

theorem kept_advance (x : Nat) (c : Ctx) (sh addr amount desc : Nat) (bulk : Bool) :
    Kept s (advance s x c sh addr amount desc bulk).1 := by
  unfold advance
  split
  · exact Kept.refl s
  · have h := kept_signalXl s c sh addr
    split
    next e => rw [e] at h; exact h
    next s1 a e =>
      rw [e] at h
      split
      · exact h
      · have h2 := h.trans (kept_agentLine s1 (a / 128) true)
        split
        next e => rw [e] at h2; exact h2
        next s2 e =>
          rw [e] at h2
          have h3 := (h2.trans (kept_chargeSegs s2 c.tenant [(a, 8)])).trans (kept_signalAdd _ a amount)
          split
          next e => rw [e] at h3; exact h3
          next s3 e =>
            rw [e] at h3
            split
            · refine h3.trans (Kept.trans ?_ (kept_ownRequestVia _ _ _ _))
              exact ⟨rfl, rfl, rfl, rfl, rfl, rfl, rfl, rfl, rfl, rfl, rfl, rfl, rfl, rfl, rfl, rfl, rfl, rfl, rfl, rfl, rfl, rfl, rfl⟩
            · exact h3

end Sys2Proof.Machine
end

section
/-! PROOFS. Jobs under updates: the descriptor of a context, a bulk descriptor that is alone, and what work on a tile leaves of either. -/

namespace Sys2Proof.Machine
open Sys2Proof

/-! ### The job that holds a shadow -/

theorem tget_map {α β : Type} (g : α → β) (t : Tab α) (k : Nat) : tget (t.map fun e => (e.1, g e.2)) k = (tget t k).map g := by
  induction t with
  | nil => rfl
  | cons e t ih =>
    obtain ⟨i, v⟩ := e
    simp only [List.map_cons, tget, ih]
    split <;> rfl

/-- A context as an update of a shadow's job leaves it. -/
def Ctx.onJob (sh : Nat) (f : Job → Job) (c : Ctx) : Ctx :=
  { c with run := c.run.map fun r => if r.job.shadow = sh then { r with job := f r.job } else r }

section
variable {s : State} {x : Nat} {c : Ctx}

theorem ctxAt_updJob (s : State) (sh : Nat) (f : Job → Job) (x : Nat) : ctxAt (updJob s sh f) x = (ctxAt s x).map (Ctx.onJob sh f) :=
  tget_map (Ctx.onJob sh f) s.sched.ctxs x

theorem onJob_of_idle (h : c.run = none) (sh : Nat) (f : Job → Job) : c.onJob sh f = c := by
  unfold Ctx.onJob
  rw [h, Option.map_none, ← h]

/-- The engine's list of bulk descriptors is replaced. -/
def putBulk (s : State) (l : List BulkJob) : State := { s with sched := { s.sched with bulk := l } }

/-- A state in which courses run no descriptor, and one bulk descriptor stands in the engine. -/
structure LoneBulk (s : State) (b : BulkJob) : Prop where
  idle : ∀ e, e ∈ s.sched.ctxs → e.2.run = none
  bulk : s.sched.bulk = [b]

variable {b : BulkJob} (h : LoneBulk s b)
include h

theorem LoneBulk.put (b' : BulkJob) : LoneBulk (putBulk s [b']) b' := ⟨h.idle, rfl⟩

theorem LoneBulk.jobAt : jobAt s b.job.shadow = some b.job := by
  have hnone : s.sched.ctxs.findSome? (fun e => e.2.run.bind fun r => if r.job.shadow = b.job.shadow then some r.job else none) = none :=
    List.findSome?_eq_none_iff.2 fun e he => by rw [h.idle e he]; rfl
  unfold Machine.jobAt
  rw [hnone, h.bulk]
  simp

theorem LoneBulk.updJob (f : Job → Job) : updJob s b.job.shadow f = putBulk s [{ b with job := f b.job }] := by
  have hctxs : s.sched.ctxs.map (fun e => (e.1, e.2.onJob b.job.shadow f)) = s.sched.ctxs :=
    (List.map_congr_left fun e he => by rw [onJob_of_idle (h.idle e he), Prod.mk.eta]).trans (List.map_id'' (fun _ => rfl) _)
  have hbulk : s.sched.bulk.map (fun b' => if b'.job.shadow = b.job.shadow then { b' with job := f b'.job } else b')
      = [{ b with job := f b.job }] := by simp [h.bulk]
  show { s with sched := { s.sched with ctxs := s.sched.ctxs.map _, bulk := s.sched.bulk.map _ } } = _
  rw [hbulk]
  unfold putBulk
  exact congrArg (fun l => { s with sched := { s.sched with ctxs := l, bulk := [{ b with job := f b.job }] } }) hctxs

theorem LoneBulk.bulkTurn (hx : b.context = x) : bulkTurn s x = some b := by
  have hmine : bulkOfCtx s x = [b] := by simp [bulkOfCtx, h.bulk, hx]
  have hidle : (ctxAt s x).bind (fun c => c.run) = none := by
    cases hc : ctxAt s x with
    | none => rfl
    | some c => exact h.idle _ (mem_of_tget hc)
  unfold Machine.bulkTurn
  rw [hmine, hidle]
  rfl

end

section
variable {s : State} {x : Nat} {c : Ctx} {r : Run}

/-- A state in which one context stands alone and runs a descriptor, and the bulk engine is empty. -/
structure LoneRun (s : State) (x : Nat) (c : Ctx) (r : Run) : Prop where
  ctxs : s.sched.ctxs = [(x, c)]
  run : c.run = some r
  bulk : s.sched.bulk = []

variable (h : LoneRun s x c r)
include h

theorem LoneRun.ctxAt : ctxAt s x = some c := by
  unfold Machine.ctxAt
  rw [h.ctxs]
  exact if_pos rfl

theorem LoneRun.jobAt : jobAt s r.job.shadow = some r.job := by
  unfold Machine.jobAt
  simp [h.ctxs, h.run]

theorem LoneRun.updJob (f : Job → Job) : LoneRun (updJob s r.job.shadow f) x { c with run := some { r with job := f r.job } } { r with job := f r.job } := by
  refine ⟨?_, rfl, ?_⟩
  · unfold Machine.updJob
    simp [h.ctxs, h.run]
  · unfold Machine.updJob
    rw [h.bulk]
    rfl

theorem LoneRun.of_sched {t : State} (ht : t.sched = s.sched) : LoneRun t x c r := ⟨by rw [ht, h.ctxs], h.run, by rw [ht, h.bulk]⟩

end

/-! ### Work on tiles leaves the descriptor what it is -/

/-- Two descriptors with the same bytes, courses, next tile and tiles in flight. -/
structure SameRun (r r' : Run) : Prop where
  raw : r'.raw = r.raw
  members : r'.members = r.members
  next : r'.job.nextTile = r.job.nextTile
  flight : r'.job.flight.map Tile.num = r.job.flight.map Tile.num

theorem SameRun.refl (r : Run) : SameRun r r := ⟨rfl, rfl, rfl, rfl⟩

theorem SameRun.trans {r q p : Run} (h : SameRun r q) (h' : SameRun q p) : SameRun r p :=
  ⟨h'.raw.trans h.raw, h'.members.trans h.members, h'.next.trans h.next, h'.flight.trans h.flight⟩

/-- A context runs a descriptor that is the same as r but for what its tiles have done. -/
def RunsAs (x : Nat) (r : Run) (s : State) : Prop := ∃ c q, ctxAt s x = some c ∧ c.run = some q ∧ SameRun r q

/-- An update of a job that leaves its next tile and the numbers of its tiles in flight. -/
def KeepsTiles (f : Job → Job) : Prop := ∀ j, (f j).nextTile = j.nextTile ∧ (f j).flight.map Tile.num = j.flight.map Tile.num

theorem map_num_tile (l : List Tile) (t : Nat) {f : Tile → Tile} (hf : ∀ e, (f e).num = e.num) :
    (l.map fun e => if e.num = t then f e else e).map Tile.num = l.map Tile.num := by
  rw [List.map_map]
  refine List.map_congr_left fun e _ => ?_
  dsimp only [Function.comp]
  split
  · exact hf e
  · rfl

theorem keepsTiles_tile (t : Nat) {f : Tile → Tile} (hf : ∀ e, (f e).num = e.num) : KeepsTiles fun j => j.tile t f :=
  fun j => ⟨rfl, map_num_tile j.flight t hf⟩

section
variable {s t : State} {x : Nat} {r : Run}

theorem RunsAs.of_kept (h : RunsAs x r s) (hk : Kept s t) : RunsAs x r t := by
  obtain ⟨c, q, hc, hq, hsame⟩ := h
  exact ⟨c, q, (hk.ctxAt x).trans hc, hq, hsame⟩

theorem RunsAs.updJob (h : RunsAs x r s) (sh : Nat) {f : Job → Job} (hf : KeepsTiles f) : RunsAs x r (updJob s sh f) := by
  obtain ⟨c, q, hc, hq, hsame⟩ := h
  refine ⟨c.onJob sh f, if q.job.shadow = sh then { q with job := f q.job } else q, ?_, ?_, ?_⟩
  · rw [ctxAt_updJob, hc]
    rfl
  · unfold Ctx.onJob
    rw [hq]
    rfl
  · split
    · exact hsame.trans ⟨rfl, rfl, (hf q.job).1, (hf q.job).2⟩
    · exact hsame

theorem RunsAs.updRun (h : RunsAs x r s) (y : Nat) {f : Run → Run} (hf : ∀ q, SameRun q (f q)) : RunsAs x r (updRun s y f) := by
  obtain ⟨c, q, hc, hq, hsame⟩ := h
  unfold Machine.updRun
  by_cases hy : y = x
  · subst hy
    rw [updCtx_eq hc]
    exact ⟨_, f q, ctxAt_setCtx_self _ _ _, by rw [hq]; rfl, hsame.trans (hf q)⟩
  · refine ⟨c, q, ?_, hq, hsame⟩
    unfold updCtx
    split
    · exact hc
    · rw [ctxAt_setCtx, if_neg (Ne.symm hy), hc]

/-- A fold whose steps leave the descriptor what it is. -/
theorem RunsAs.fold {α : Type} {f : State → α → State} (h : RunsAs x r s) (hf : ∀ u a, RunsAs x r u → RunsAs x r (f u a)) (l : List α) :
    RunsAs x r (l.foldl f s) :=
  List.foldlRecOn (motive := RunsAs x r) l f h fun u hu a _ => hf u a hu

/-- The same where the state is the second part of what is folded. -/
theorem RunsAs.fold_snd {α β : Type} {f : β × State → α → β × State} {p : β × State} (h : RunsAs x r p.2)
    (hf : ∀ q a, RunsAs x r q.2 → RunsAs x r (f q a).2) (l : List α) : RunsAs x r (l.foldl f p).2 :=
  List.foldlRecOn (motive := fun q => RunsAs x r q.2) l f h fun q hq a _ => hf q a hq

theorem RunsAs.ensureRead (h : RunsAs x r s) (sh : Nat) (o : Opd) (off len : Nat) : RunsAs x r (ensureRead sh o s off len).2 := by
  unfold Machine.ensureRead
  split
  · refine RunsAs.fold_snd h (fun p e hp => ?_) _
    dsimp only
    split
    · exact hp
    · split
      · exact hp
      · split
        · exact hp
        · exact (hp.updJob sh (f := fun j => { j with asked := _ :: j.asked }) fun j => ⟨rfl, rfl⟩).of_kept (kept_ownRequest _ _ _)
  · exact RunsAs.fold_snd h (fun p e hp => hp.of_kept (kept_agentRange p.2 e.1 e.2 false)) _

theorem RunsAs.ensureReads (h : RunsAs x r s) (sh : Nat) (l : List (Opd × Nat × Nat)) : RunsAs x r (ensureReads sh s l).2 := by
  induction l generalizing s with
  | nil => exact h
  | cons e l ih => exact ih (h.ensureRead sh e.1 e.2.1 e.2.2)

/-- A fold of reads, whose last part is the state. -/
theorem RunsAs.fold_reads {α β : Type} {f : β × Bool × State → α → β × Bool × State} {p : β × Bool × State} {l : List α} {y : β} {b : Bool}
    (h : RunsAs x r p.2.2) (hl : l.foldl f p = (y, b, t)) (hf : ∀ q a, Kept q.2.2 (f q a).2.2) : RunsAs x r t := by
  have hkept := Kept.fold_reads hf l p (Kept.refl _)
  rw [hl] at hkept
  exact h.of_kept hkept

/-- Reading the sources of a tile. -/
theorem RunsAs.tileSources (h : RunsAs x r s) (sh : Nat) (k : Course) (d : Shadow) (n : Nat) : RunsAs x r (tileSources sh k d n s).2 := by
  unfold Machine.tileSources
  extract_lets first gathers
  have h1 := h.ensureReads sh first
  split
  next ok1 s1 e1 =>
  rw [e1] at h1
  split
  · exact h1
  split
  next idx bad2 s2 e2 =>
  have h2 : RunsAs x r s2 := h1.fold_reads e2 fun q g => kept_fetchAll q.2.2 _ _ _
  extract_lets rows
  have h3 := h2.ensureReads sh rows
  split
  next ok3 s3 e3 =>
  rw [e3] at h3
  split
  · exact h3
  split
  next es4 bad4 s4 e4 =>
  have h4 : RunsAs x r s4 := h3.fold_reads e4 fun q g => kept_rowElems q.2.2 _ _ _ _
  split
  next es5 bad5 s5 e5 =>
  exact h4.fold_reads e5 fun q g => kept_streamElems q.2.2 _ _ _ _ _

theorem RunsAs.computeTile (h : RunsAs x r s) (y : Nat) (q : Run) (e : Tile) : RunsAs x r (computeTile s y q e) := by
  unfold Machine.computeTile
  extract_lets k sh
  have hsrc := h.tileSources sh k (shadowAt s sh) e.num
  split
  next hs => rw [hs] at hsrc; exact hsrc
  next src poison oob s1 hs =>
    rw [hs] at hsrc
    split
    extract_lets ps u
    have hrun : RunsAs x r u := hsrc.updRun y fun p => by
      refine ⟨rfl, rfl, ?_, ?_⟩
      · cases poison <;> rfl
      · cases poison <;> exact map_num_tile _ _ fun _ => rfl
    exact hrun.of_kept ((kept_bump u _ _).trans (kept_bump _ _ _))

theorem RunsAs.placeRemote (h : RunsAs x r s) (o : Opd) (sh n : Nat) (p : Piece) (poison : Bool) : RunsAs x r (placeRemote s o sh n p poison) := by
  unfold Machine.placeRemote
  refine h.fold (fun u c hu => ?_) _
  extract_lets d d' m0 m v
  have hv : RunsAs x r v := hu.updJob sh (keepsTiles_tile n fun _ => rfl)
  exact hv.of_kept (kept_ownRequest _ _ _)

theorem RunsAs.placePiece (h : RunsAs x r s) (bulk : Bool) (y sh desc n : Nat) (o : Opd) (push : Option Nat) (poison : Bool) (p : Piece) :
    RunsAs x r (placePiece bulk y sh desc n o push poison s p) := by
  unfold Machine.placePiece
  split
  · exact h.placeRemote o sh n p poison
  · extract_lets segs s1 cut
    have h1 : RunsAs x r s1 := h.of_kept (kept_chargeRange s _ _ _)
    refine h1.fold (fun u e hu => ?_) _
    extract_lets u1 lo hi
    have hu1 : RunsAs x r u1 := hu.of_kept (kept_placeSeg u _ _ _ _)
    split
    · refine hu1.fold (fun v g hv => ?_) _
      extract_lets w
      have hw : RunsAs x r w := hv.updJob sh (keepsTiles_tile n fun _ => rfl)
      exact hw.of_kept (kept_mirrorTile _ _ _ _ _ _ _ _ _)
    · exact hu1

theorem RunsAs.placeTile (h : RunsAs x r s) (bulk : Bool) (y sh n : Nat) (os : Piece → Opd) (push : Piece → Option Nat) :
    RunsAs x r (placeTile s bulk y sh n os push) := by
  unfold Machine.placeTile
  split
  · exact h
  · split
    · exact h
    · split
      · exact h
      next j _ e _ ps _ =>
        split
        · exact h
        · have hclear := h.of_kept (kept_ensureWrites s sh os ps)
          split
          next hs => rw [hs] at hclear; exact hclear
          next s1 hs =>
            rw [hs] at hclear
            extract_lets u
            have hu : RunsAs x r u := hclear.fold (fun v p hv => hv.placePiece _ _ _ _ _ _ _ _ p) ps
            exact hu.updJob sh (keepsTiles_tile n fun _ => rfl)

theorem RunsAs.workTile (h : RunsAs x r s) (y n : Nat) : RunsAs x r (workTile s y n) := by
  unfold Machine.workTile
  split
  · exact h
  · split
    · exact h
    · refine RunsAs.placeTile ?_ _ _ _ _ _ _
      split
      · exact h.computeTile _ _ _
      · exact h

end

end Sys2Proof.Machine
end

section
/-! PROOFS. The data of a fill: what a gathered write puts into a plain extent (R161, R230). -/

namespace Sys2Proof.Machine
open Sys2Proof

/-! ### Gathered writes -/

section
variable {s : State}

/-- The parity and the marks of a page's seal are no part of what makes the stacks clean. -/
theorem Clean.recomputeSeal (h : Clean s) (page : Nat) : Clean (recomputeSeal s page) := by
  obtain ⟨hup, hmarks, hstale, hlosses, hundef, hstk, hsea⟩ := h
  exact ⟨hup, hmarks, hstale, hlosses, hundef, hstk, hsea⟩

/-- A whole page put into a plain extent. -/
theorem storePage_of_clean {a : Nat} (h : Clean s) (hp : PlainExtent s a) (ha : a % 4096 = 0) (b : List Byte) :
    ∃ sig, storePage s (pageOf a) b = (false, { poke (recomputeSeal s (pageOf a)) a b with sig := sig }) := by
  have hpage : pageOf a * 4096 = a := by unfold pageOf; omega
  have hu := h.recomputeSeal (pageOf a)
  have hc : Clean (poke (recomputeSeal s (pageOf a)) a b) := hu.of_dram_regs rfl rfl
  have hq : PlainExtent (poke (recomputeSeal s (pageOf a)) a b) a := hp.of_xlt rfl
  have hsettle : ∀ l : List Nat, l.foldl (fun s i => settleLine s (a / 128 + i)) s = s :=
    List.foldl_fixed' fun i => settleLine_of_sound h.sound _
  have hmark : ∀ l : List Nat, l.foldl (fun s i => setMark s (a / 8 + i) 0) s = s :=
    List.foldl_fixed' fun i => setMark_zero_of_marks h.marks _
  have hinject : ∀ l : List Nat, l.foldl (fun s q => injectWrite s (pageOf a * 16 + q) (List.range 32)) (poke (recomputeSeal s (pageOf a)) a b)
      = poke (recomputeSeal s (pageOf a)) a b := List.foldl_fixed' fun q => injectWrite_of_clean hc _ _
  refine ⟨(noteWatch (poke (recomputeSeal s (pageOf a)) a b) a 4096 none).sig, ?_⟩
  simp only [storePage, hpage, hsettle, hmark, hu.up, List.filter_false, List.length_nil, b2n, Nat.add_zero, Bool.false_eq_true, if_false,
    show decide (2 ≤ 0) = false from rfl, List.isEmpty_nil, if_true, List.foldl_nil, Bool.not_true, rawStore_of_undef hu.undef,
    noteMigration_of_none hq.still, noteDirty_of_unmirrored hq.mirrored, hinject, writeSeal_of_clean hc]
  rfl

/-- A gathered write within a plain extent puts its bytes. -/
theorem storeGathered_of_plain {n a : Nat} {b : List Byte} (h : Clean s) (hp : PlainExtent s a) (hn : a % 4096 + b.length ≤ 4096 * n)
    (hin : a % 2 ^ 30 + b.length ≤ 2 ^ 30) :
    ∃ dram sig, (storeGathered n s a b).2 = { s with mem := memWrite s.mem a b, dram := dram, sig := sig } := by
  induction n generalizing s a b with
  | zero =>
    obtain rfl : b = [] := List.length_eq_zero_iff.1 (by omega)
    exact ⟨s.dram, s.sig, rfl⟩
  | succ n ih =>
    unfold storeGathered
    by_cases hb : b = []
    · subst hb
      exact ⟨s.dram, s.sig, rfl⟩
    · have hlen := List.length_pos_iff.2 hb
      have htake : (b.take (4096 - a % 4096)).length = min (4096 - a % 4096) b.length := List.length_take
      have hne : b.take (4096 - a % 4096) ≠ [] := List.length_pos_iff.1 (by omega)
      have hfirst : ∃ u dram sig, (if a % 4096 = 0 ∧ 4096 ≤ b.length then storePage s (pageOf a) (b.take 4096)
          else store s a (b.take (4096 - a % 4096))) = (false, u)
          ∧ u = { s with mem := memWrite s.mem a (b.take (4096 - a % 4096)), dram := dram, sig := sig } ∧ Clean u := by
        split
        next hwhole =>
          obtain ⟨sig, hpage⟩ := storePage_of_clean h hp hwhole.1 (b.take 4096)
          refine ⟨_, (recomputeSeal s (pageOf a)).dram, sig, hpage, ?_, (h.recomputeSeal (pageOf a)).of_dram_regs rfl rfl⟩
          rw [hwhole.1]
          rfl
        next =>
          exact ⟨_, s.dram, _, store_of_plain h hp hne (by omega), rfl, h.of_dram_regs rfl rfl⟩
      obtain ⟨u, dram, sig, hstore, hu, hclean⟩ := hfirst
      simp only [List.isEmpty_iff, hb, if_false, hstore]
      by_cases hlast : b.length ≤ 4096 - a % 4096
      · rw [List.take_of_length_le hlast] at hu
        rw [List.drop_of_length_le hlast, hu]
        cases n <;> exact ⟨dram, sig, rfl⟩
      · have hdrop : (b.drop (4096 - a % 4096)).length = b.length - (4096 - a % 4096) := List.length_drop
        have hnext : PlainExtent u (a + (4096 - a % 4096)) :=
          PlainExtent.of_xlt (hp.of_extOf (extOf_within b.length (by omega) (by omega) hin)) (by rw [hu])
        obtain ⟨dram', sig', hrest⟩ := ih (b := b.drop (4096 - a % 4096)) hclean hnext (by omega) (by omega)
        refine ⟨dram', sig', ?_⟩
        have hsplit := memWrite_append s.mem a (b.take (4096 - a % 4096)) (b.drop (4096 - a % 4096))
        rw [List.take_append_drop, htake, Nat.min_eq_left (by omega)] at hsplit
        rw [hrest, hu, hsplit]

theorem placeSeg_of_plain {a : Nat} {b : List Byte} (h : Clean s) (hp : PlainExtent s a) (hin : a % 2 ^ 30 + b.length ≤ 2 ^ 30) :
    (placeSeg s a b false none).mem = memWrite s.mem a b ∧ (placeSeg s a b false none).sched = s.sched
      ∧ (placeSeg s a b false none).twin = s.twin := by
  have hplace : placeSeg s a b false none = (storeGathered (b.length / 4096 + 2) s a b).2 := by
    simp only [placeSeg, hp.coherent, Bool.false_eq_true, if_false]
  obtain ⟨dram, sig, hstore⟩ := storeGathered_of_plain (n := b.length / 4096 + 2) h hp (by omega) hin
  rw [hplace, hstore]
  exact ⟨rfl, rfl, rfl⟩

/-! ### The charge of any tenant (R492) -/

theorem chargeSegs_tenant (h : Clean s) (t : Nat) (l : List (Nat × Nat)) :
    ∃ regs, chargeSegs s t l = { s with regs := regs } ∧ Clean (chargeSegs s t l) := by
  have hstk : ∀ n st, Reg.STK_INJ_CTL n st ≠ Reg.XLT_TN_BYTES_LO t ∧ Reg.STK_INJ_CTL n st ≠ Reg.XLT_TN_BYTES_LO t + 4 := fun n st => by
    unfold Reg.STK_INJ_CTL Reg.XLT_TN_BYTES_LO
    omega
  have hsea : ∀ n, Reg.SEA_INJ_CTL n ≠ Reg.XLT_TN_BYTES_LO t ∧ Reg.SEA_INJ_CTL n ≠ Reg.XLT_TN_BYTES_LO t + 4 := fun n => by
    unfold Reg.SEA_INJ_CTL Reg.XLT_TN_BYTES_LO
    omega
  unfold chargeSegs
  dsimp only
  split
  · exact ⟨_, rfl, h⟩
  · refine ⟨_, rfl, h.up, h.marks, h.stale, h.losses, h.undef, fun n st => ?_, fun n => ?_⟩
    · obtain ⟨hlo, hhi⟩ := hstk n st
      unfold bump64 rput64
      rw [rf_rput_ne _ _ hhi, rf_rput_ne _ _ hlo]
      exact h.injStk n st
    · obtain ⟨hlo, hhi⟩ := hsea n
      unfold bump64 rput64
      rw [rg_rput_ne _ _ hhi, rg_rput_ne _ _ hlo]
      exact h.injSea n

end

end Sys2Proof.Machine
end

section
/-! PROOFS. The addition to a descriptor's signal word in a plain extent (R245, R291), and a context that goes on (R249). -/

namespace Sys2Proof.Machine
open Sys2Proof

/-! ### Signal words -/

theorem loadWord_of_clean {s : State} (h : Clean s) (a : Nat) : loadWord s a = (some (leNat (memRead s.mem a 8)), s) := by
  simp only [loadWord, load_of_sound h.sound, stored_of_undef h.undef, Bool.false_eq_true, if_false]

section
variable {s : State} {a : Nat} (h : Clean s) (hp : PlainExtent s a)
include h hp

theorem storeWord_of_plain (v : Nat) :
    (storeWord s a v).mem = memWrite s.mem a (leBytes 8 v) ∧ (storeWord s a v).sched = s.sched ∧ (storeWord s a v).xlt = s.xlt
      ∧ (storeWord s a v).twin = s.twin := by
  have hc : Clean (poke s a (leBytes 8 v)) := h.of_dram_regs rfl rfl
  have hstore : storeWord s a v = noteWatch (poke s a (leBytes 8 v)) a 8 (some (a, v % 2 ^ 64)) := by
    simp only [storeWord, fetchRange_of_sound h.sound, storePiece_of_clean h hp, writeSeal_of_clean hc]
  rw [hstore]
  exact ⟨rfl, rfl, rfl, rfl⟩

/-- An addition puts the sum, modulo 2^64. -/
theorem signalAdd_of_plain {n : Nat} (hn : n % 2 ^ 64 ≠ 0) :
    ∃ u v, signalAdd s a n = (some v, u) ∧ u.mem = memWrite s.mem a (leBytes 8 ((leNat (memRead s.mem a 8) + n) % 2 ^ 64))
      ∧ u.sched = s.sched ∧ u.xlt = s.xlt ∧ u.twin = s.twin := by
  refine ⟨_, (leNat (memRead s.mem a 8) + n) % 2 ^ 64, ?_, storeWord_of_plain h hp _⟩
  simp only [signalAdd, loadWord_of_clean h, if_neg hn]

end

/-- A current entry of the shadow gives the signal word's place. -/
theorem signalXl_of_current {s : State} {sh : Nat} {h : Shadow} {e : ShEntry} (hsh : tget s.xlt.shadows sh = some h)
    (he : h.entries[h.sigIdx]? = some e) (hepoch : e.epoch = epochOf s e.extent) (hera : h.era = s.xlt.era) (c : Ctx) (addr : Nat) :
    signalXl s c sh addr = (s, some (ppaOf e.extent (addr % 2 ^ 30))) := by
  simp only [signalXl, hsh, he, hepoch, hera, and_self, if_true]

theorem mirroring_of_unpaired {s : State} (h : s.twin.st = 0) : mirroring s = false := by
  unfold mirroring
  rw [h]
  rfl

/-- The advance of a signal word in a plain extent of an unpaired module. -/
theorem advance_of_plain {s : State} {x sh addr n a : Nat} {c : Ctx} (haddr : addr % 8 = 0) (hxl : signalXl s c sh addr = (s, some a))
    (h : Clean s) (hp : PlainExtent s a) (htwin : s.twin.st = 0) (hn : n % 2 ^ 64 ≠ 0) (desc : Nat) (bulk : Bool) :
    ∃ u, advance s x c sh addr n desc bulk = (u, .done) ∧ u.mem = memWrite s.mem a (leBytes 8 ((leNat (memRead s.mem a 8) + n) % 2 ^ 64))
      ∧ u.sched = s.sched ∧ u.xlt = s.xlt ∧ u.twin = s.twin := by
  obtain ⟨regs, hcharge, hclean⟩ := chargeSegs_tenant h c.tenant [(a, 8)]
  rw [hcharge] at hclean
  obtain ⟨u, v, hadd, hmem, hsched, hxlt, htw⟩ := signalAdd_of_plain (s := { s with regs := regs }) hclean (hp.of_xlt rfl) hn
  have hmirror : mirroring u = false := mirroring_of_unpaired (by rw [htw, htwin])
  refine ⟨u, ?_, hmem, hsched, hxlt, htw⟩
  simp only [advance, haddr, ne_eq, not_true_eq_false, if_false, hxl, heldExt_of_plain hp, Bool.false_eq_true, agentLine_of_plain hp, hcharge,
    hadd, hmirror, Bool.false_and]

/-! ### A context that goes on (R249) -/

section
variable {s : State} {x : Nat} {c : Ctx} (hc : ctxAt s x = some c)
include hc

/-- A context that is suspended, stopped or draining stays as it is. -/
theorem settle_of_halted (hst : cxSUSPENDED ≤ c.st) : settle s x = s := by
  simp only [settle, hc, hst, if_true]

/-- A context with work takes the state that its work gives it; of the rest, virtual time alone may change. -/
theorem settle_of_work (hst : c.st < cxSUSPENDED) (hwork : workState s x c ≠ cxIDLE) :
    ∃ vt, settle s x = setCtx { s with sched := { s.sched with vtime := vt } } x { c with st := workState s x c } := by
  have hgoing : ¬ cxSUSPENDED ≤ c.st := Nat.not_le.2 hst
  have hbusy : ¬ (workState s x c = cxIDLE ∧ (c.st ≠ cxIDLE ∨ c.pend = true) ∧ paused s c = false) := fun h => hwork h.1
  have hwake : ∃ vt, wakeTenant s c.tenant = { s with sched := { s.sched with vtime := vt } } := by
    unfold wakeTenant
    dsimp only
    split
    · exact ⟨s.sched.vtime, rfl⟩
    · split
      · exact ⟨s.sched.vtime, rfl⟩
      · exact ⟨_, rfl⟩
  unfold settle
  simp only [hc, hgoing, hbusy, if_false]
  split
  · obtain ⟨vt, hwake⟩ := hwake
    rw [hwake]
    exact ⟨vt, updCtx_eq (show ctxAt { s with sched := { s.sched with vtime := vt } } x = some c from hc) _⟩
  · exact ⟨s.sched.vtime, updCtx_eq hc _⟩

theorem startWait_of_idle (hrun : c.run = none) : startWait s x = s := by
  simp only [startWait, hc, hrun]

end

theorem workState_of_tail {s : State} {x : Nat} {c : Ctx} (h : c.head < c.tail) : workState s x c ≠ cxIDLE := by
  unfold workState
  extract_lets active
  simp only [h, if_true]
  split_ifs
  all_goals decide

theorem workState_of_bulk {s : State} {x : Nat} {c : Ctx} (h : bulkOfCtx s x ≠ []) : workState s x c = cxRUNNING := by
  have hne : (bulkOfCtx s x).isEmpty = false := by simpa using h
  unfold workState
  simp only [hne, Bool.not_false, Bool.or_true, if_true]

end Sys2Proof.Machine
end

section
/-! PROOFS. The completion of descriptors (R245), the ring of a stopped context (R247), and revalidation (R94). -/

namespace Sys2Proof.Machine
open Sys2Proof

/-! ### Bulk descriptors (R245) -/

/-- The one bulk descriptor is its context's, which runs nothing: it may run. -/
theorem bulkTurn_of_single {s : State} {x : Nat} {c : Ctx} {b : BulkJob} (hc : ctxAt s x = some c) (hrun : c.run = none)
    (hbulk : s.sched.bulk = [b]) (hx : b.context = x) : bulkTurn s x = some b := by
  have hmine : bulkOfCtx s x = [b] := by simp [bulkOfCtx, hbulk, hx]
  simp [bulkTurn, hmine, hc, hrun]

/-- A bulk descriptor whose signal word has advanced is gone; its context goes on. -/
theorem completeBulk_ends {s u : State} {x : Nat} {c : Ctx} {b : BulkJob} (hc : ctxAt s x = some c) (hturn : bulkTurn s x = some b)
    (hdone : b.job.finished (bulkOf b.raw).tiles = true) (hgoing : paused s c = false) (hfail : b.job.fail = none)
    (hadv : advance s x c b.job.shadow (bulkOf b.raw).signal (bulkOf b.raw).signalAdd b.job.desc true = (u, .done))
    (hmirror : mirroring u = false) (hst : c.st < cxSUSPENDED) :
    completeBulk s x = settle (startWait (dropBulk u b.job.shadow) x) x := by
  have hstop : ¬ cxSTOPPED ≤ c.st := Nat.not_le.2 (Nat.lt_trans hst (by decide))
  simp only [completeBulk, hc, hturn, hdone, hgoing, hfail, hadv, hmirror, hstop, Bool.not_true, Bool.false_and, Bool.and_false, Bool.or_self,
    Bool.false_eq_true, if_false, reduceCtorEq]

/-- The one bulk descriptor's tiles have ended, and its context has more in its ring (R244, R245). -/
structure BulkEnded (s : State) (x : Nat) (c : Ctx) (b : BulkJob) : Prop where
  ctx : ctxAt s x = some c
  running : inSafe s = false
  posts : s.sched.posts = []
  bulk : s.sched.bulk = [b]
  own : b.context = x
  idle : c.run = none
  awake : c.st < cxSUSPENDED
  more : c.head < c.tail
  going : paused s c = false
  good : b.job.fail = none
  landed : b.job.flight = []
  acked : b.job.acks = 0
  tiles : (bulkOf b.raw).tiles ≤ b.job.nextTile
  alone : s.twin.st = 0

/-- A descriptor's signal word, as a current entry of its shadow gives it (R93, R245). -/
structure SignalAt (s : State) (sh addr a : Nat) (h : Shadow) (e : ShEntry) : Prop where
  aligned : addr % 8 = 0
  shadow : tget s.xlt.shadows sh = some h
  entry : h.entries[h.sigIdx]? = some e
  epoch : e.epoch = epochOf s e.extent
  era : h.era = s.xlt.era
  place : a = ppaOf e.extent (addr % 2 ^ 30)

theorem descriptorComplete_of_bulk {s : State} {x a : Nat} {c : Ctx} {b : BulkJob} {h : Shadow} {e : ShEntry} (hended : BulkEnded s x c b)
    (hsignal : SignalAt s b.job.shadow (bulkOf b.raw).signal a h e) (hclean : Clean s) (hplain : PlainExtent s a)
    (hadd : (bulkOf b.raw).signalAdd % 2 ^ 64 ≠ 0) :
    Completes (.descriptorComplete x true) s (fun t =>
      t.mem = memWrite s.mem a (leBytes 8 ((leNat (memRead s.mem a 8) + (bulkOf b.raw).signalAdd) % 2 ^ 64)) ∧ t.sched.bulk = []
      ∧ tget t.xlt.shadows b.job.shadow = none ∧ (∀ n, n ≠ b.job.shadow → tget t.xlt.shadows n = tget s.xlt.shadows n)
      ∧ (∃ c', ctxAt t x = some c' ∧ c'.head = c.head ∧ c'.tail = c.tail)) := by
  obtain ⟨hc, hsafe, hposts, hbulk, hx, hrun, hst, htail, hgoing, hfail, hflight, hacks, htiles, htwin⟩ := hended
  obtain ⟨hsig, hsh, he, hepoch, hera, ha⟩ := hsignal
  have hdone : b.job.finished (bulkOf b.raw).tiles = true := by simp [Job.finished, hflight, hacks, htiles]
  have hxl := signalXl_of_current hsh he hepoch hera c (bulkOf b.raw).signal
  rw [← ha] at hxl
  obtain ⟨u, hadv, hmem, hsched, hxlt, htw⟩ :=
    advance_of_plain (x := x) (c := c) hsig hxl hclean hplain htwin hadd b.job.desc true
  have hcw : ctxAt (dropBulk u b.job.shadow) x = some c := (ctxAt_congr (congrArg Sched.ctxs hsched) x).trans hc
  obtain ⟨vt, hsettle⟩ := settle_of_work hcw hst (workState_of_tail htail)
  have hends := completeBulk_ends hc (bulkTurn_of_single hc hrun hbulk hx) hdone hgoing hfail hadv
    (mirroring_of_unpaired (by rw [htw, htwin])) hst
  rw [startWait_of_idle hcw hrun, hsettle] at hends
  have hexec : exec (.descriptorComplete x true) s = .next (completeBulk s x) := by
    show execDescriptorComplete x true s = _
    simp only [execDescriptorComplete, hsafe, flushPosts_of_none hposts, Bool.false_eq_true, if_false, if_true]
  refine ⟨_, hexec.trans (congrArg _ hends), hmem, ?_, ?_, fun n hn => ?_, _, ctxAt_setCtx_self _ _ _, rfl, rfl⟩
  · show List.filter _ u.sched.bulk = []
    simp [hsched, hbulk]
  · exact tget_tdel_self _ _
  · refine (tget_tdel _ _ _).trans ((if_neg hn).trans ?_)
    rw [hxlt]

/-! ### Course descriptors (R245) -/

theorem workState_of_ready {s : State} {x : Nat} {c : Ctx} (hbulk : s.sched.bulk = []) (hrun : c.run = none) (hpark : c.park = none)
    (htail : c.head < c.tail) : workState s x c = cxREADY := by
  simp [workState, bulkOfCtx, hbulk, hrun, hpark, htail]

/-- A context with more in its ring, and nothing else to do, becomes READY. -/
theorem settle_to_ready {s : State} {x : Nat} {c : Ctx} (hc : ctxAt s x = some c) (hst : c.st < cxSUSPENDED) (hbulk : s.sched.bulk = [])
    (hrun : c.run = none) (hpark : c.park = none) (htail : c.head < c.tail) :
    ∃ u, settle s x = setCtx u x { c with st := cxREADY } ∧ u.mem = s.mem ∧ u.xlt = s.xlt := by
  obtain ⟨vt, hsettle⟩ := settle_of_work hc hst (workState_of_tail htail)
  rw [workState_of_ready hbulk hrun hpark htail] at hsettle
  exact ⟨_, hsettle, rfl, rfl⟩

/-- A descriptor that has not failed is concluded: its shadow is freed, and its context settles. -/
theorem conclude_settles {v : State} {x : Nat} {c : Ctx} {r : Run} (hc : ctxAt v x = some c) (hst : c.st = cxRUNNING) (hnext : c.next = none)
    (hover : c.overrun = false) (hwait : c.waitWatch = none) (hok : r.outcome.1 < 2) (hstop : r.stop = 0) :
    conclude v x r false
      = settle (setCtx (freeShadow (chargeUse v c) r.job.shadow) x { c with run := none, waitWatch := none, next := none }) x := by
  have hgood : ¬ 2 ≤ r.outcome.1 := Nat.not_le.2 hok
  have hdrain : ¬ c.st = cxDRAINING := by rw [hst]; decide
  have hstopped : ¬ c.st = cxSTOPPED := by rw [hst]; decide
  simp only [conclude, hc, hwait, freeWatchOpt, hdrain, hstopped, hgood, hover, hnext, hstop, setCtx_setCtx, decide_false, Bool.false_eq_true,
    if_false, OfNat.zero_ne_ofNat]
  rw [startWait_of_idle (ctxAt_setCtx_self _ x _) rfl]

/-- A course descriptor's tiles have ended without failing, and its context goes on (R244 to R246). -/
structure CourseEnded (s : State) (x : Nat) (c : Ctx) (r : Run) : Prop where
  ctx : ctxAt s x = some c
  runs : c.run = some r
  next : c.next = none
  park : c.park = none
  bulk : s.sched.bulk = []
  done : r.job.finished (courseOf r.raw).steps = true
  going : paused s c = false
  st : c.st = cxRUNNING
  unwritten : r.job.phase = 0
  good : r.outcome.1 < 2
  stop : r.stop = 0
  inRing : c.overrun = false
  more : c.head + 1 < c.tail
  watch : c.waitWatch = none

/-- The context once its descriptor's record is written, with no write of it to mirror. -/
def Ctx.recorded (c : Ctx) (r : Run) : Ctx :=
  { c with head := c.head + 1, run := some { r with job := { r.job with phase := 1, acks := 0 } } }

/-- The record of a course descriptor is written, with nothing to mirror (R245). -/
def WritesRecord (s : State) (c : Ctx) (r : Run) (u : State) : Prop :=
  writeRecord s c r.job.shadow r.job.desc (recordBytes r.outcome.1 r.outcome.2 r.job.tiles r.flushed r.oob) = (some (some 0), u)

/-- The signal word of a course descriptor is advanced (R245). -/
def Advances (s : State) (x : Nat) (c : Ctx) (r : Run) (v : State) : Prop :=
  advance s x c r.job.shadow (courseOf r.raw).signal (courseOf r.raw).signalAdd r.job.desc false = (v, .done)

section
variable {s u v : State} {x : Nat} {c : Ctx} {r : Run} (h : CourseEnded s x c r) (hrec : WritesRecord s c r u) (hcu : ctxAt u x = some c)
  (hadv : Advances (setCtx u x (c.recorded r)) x (c.recorded r) r v)
include h hrec hcu hadv

/-- A finished descriptor is concluded once its record is written and its signal word has advanced. -/
theorem completeRun_concludes : completeRun s x = conclude v x r false := by
  obtain ⟨hc, hrun, -, -, hbulk, hdone, hgoing, hst, hphase, -, -, -, -, -⟩ := h
  unfold WritesRecord at hrec
  unfold Advances at hadv
  have hnone : bulkOfCtx s x = [] := by simp [bulkOfCtx, hbulk]
  have hawake : (c.st == cxSUSPENDED) = false := by rw [hst]; rfl
  have hupd : updCtx u x (fun c => { c with
      head := c.head + 1, run := c.run.map fun r => { r with job := { r.job with phase := 1, acks := 0 } } }) = setCtx u x (c.recorded r) := by
    rw [updCtx_eq hcu, hrun]
    rfl
  simp only [completeRun, hc, hrun, hnone, hdone, hgoing, hawake, hphase, hrec, hupd, ctxAt_setCtx_self, hadv, List.any_nil, Bool.not_true,
    Bool.false_and, Bool.or_self, Bool.false_eq_true, if_false, if_true, zero_ne_one]
  rfl

theorem descriptorComplete_of_course (hsafe : inSafe s = false) (hposts : s.sched.posts = []) (hcv : ctxAt v x = some (c.recorded r))
    (hvbulk : v.sched.bulk = []) :
    Completes (.descriptorComplete x false) s (fun t =>
      (∃ c', ctxAt t x = some c' ∧ c'.head = c.head + 1 ∧ c'.run = none ∧ c'.st = cxREADY)
      ∧ tget t.xlt.shadows r.job.shadow = none ∧ t.mem = v.mem) := by
  have hexec : exec (.descriptorComplete x false) s = .next (completeRun s x) := by
    show execDescriptorComplete x false s = _
    simp only [execDescriptorComplete, hsafe, flushPosts_of_none hposts, Bool.false_eq_true, if_false]
  have hlow : c.st < cxSUSPENDED := by rw [h.st]; decide
  have hsettles := conclude_settles (r := r) hcv h.st h.next h.inRing h.watch h.good h.stop
  obtain ⟨w, hready, hmem, hxlt⟩ := settle_to_ready
    (ctxAt_setCtx_self (freeShadow (chargeUse v (c.recorded r)) r.job.shadow) x { c.recorded r with run := none, waitWatch := none, next := none })
    hlow hvbulk rfl h.park h.more
  refine ⟨_, hexec.trans (congrArg _ ((completeRun_concludes h hrec hcu hadv).trans (hsettles.trans hready))),
    ⟨_, ctxAt_setCtx_self _ _ _, rfl, rfl, rfl⟩, ?_, hmem⟩
  show tget w.xlt.shadows _ = _
  rw [hxlt]
  exact tget_tdel_self _ _

end

/-! ### The ring of a stopped context (R247) -/

/-- Whether the signal word of a slot can be written now. -/
theorem kept_signalReady (s : State) (tenant addr : Nat) :
    Kept s (match wordXl s tenant addr pWR with
      | (s, none) => (true, s)
      | (s, some a) => if heldExt s (extOf a) true then (false, s) else agentLine s (a / 128) true).2 := by
  have hxl := kept_wordXl s tenant addr pWR
  split
  next e => rw [e] at hxl; exact hxl
  next s1 a e =>
    rw [e] at hxl
    split
    · exact hxl
    · exact hxl.trans (kept_agentLine s1 _ _)

/-- A slot that is done moves HEAD past it, and its context is otherwise what it was. -/
theorem drainSlot_done {s u : State} {x : Nat} {c : Ctx} (hc : ctxAt s x = some c) (h : drainSlot s x c = (true, u)) :
    ctxAt u x = some { c with head := c.head + 1 } := by
  have hpass : ∀ t : State, Kept s t → (true, updCtx t x fun c' => { c' with head := c.head + 1 }) = (true, u) →
      ctxAt u x = some { c with head := c.head + 1 } := fun t ht he => by
    rw [← (Prod.mk.inj he).2, updCtx_eq ((ht.ctxAt x).trans hc), ctxAt_setCtx_self]
  have hread := kept_ringRead s c (slotAddr c c.head) 256
  unfold drainSlot at h
  extract_lets d pass at h
  split at h
  next => cases h
  next s1 b n e =>
    rw [e] at hread
    extract_lets k sig ready at h
    have hready : Kept s ready.2 := hread.trans (kept_signalReady s1 c.tenant k.signal)
    clear_value ready
    rcases ready with ⟨_ | _, s2⟩
    case false => cases h
    case true =>
      dsimp only at h
      have hrec := hready.trans (kept_writeRecord s2 c 0 d (recordBytes sNOT_EXECUTED 0x08 0 0 0))
      split at h
      next => cases h
      next s3 e3 => rw [e3] at hrec; exact hpass _ hrec h
      next n s3 e3 =>
        rw [e3] at hrec
        exact hpass _ (hrec.trans (kept_advance s3 x c s3.sched.nextShadow k.signal k.signalAdd d false)) h
  next s1 r _ _ e => rw [e] at hread; exact hpass _ hread h

theorem stoppedDescriptorDrain_drains {s u : State} {x : Nat} {c : Ctx} (hc : ctxAt s x = some c) (hst : cxSTOPPED ≤ c.st) (hsafe : inSafe s = false)
    (hposts : s.sched.posts = []) (hbulk : s.sched.bulk = []) (hrun : c.run = none) (hmore : c.head < c.drainTo)
    (hdrain : drainSlot s x c = (true, u)) :
    Completes (.stoppedDescriptorDrain x) s (fun t => t = u ∧ ∃ c', ctxAt t x = some c' ∧ c'.head = c.head + 1 ∧ c'.st = c.st) := by
  have hstopped : ¬ c.st < cxSTOPPED := Nat.not_lt.2 hst
  have hnone : bulkTurn s x = none := by simp [bulkTurn, bulkOfCtx, hbulk]
  have hslots : drainSlots 1 s x = (true, u) := by
    simp [drainSlots, hc, hrun, hmore, hdrain]
  refine ⟨u, ?_, rfl, _, drainSlot_done hc hdrain, rfl, rfl⟩
  show execStoppedDescriptorDrain x s = _
  simp only [execStoppedDescriptorDrain, hc, hstopped, hsafe, flushPosts_of_none hposts, hnone, hslots, Option.isSome_none, Bool.false_eq_true,
    or_self, if_false]

/-! ### Revalidation (R94, R95) -/

/-- A fold that carries the state along and appends one element for each of a list. -/
theorem foldl_appends {σ α β : Type} {f : σ × List α × Bool → β → σ × List α × Bool} {g : β → α} {l : List β}
    (hf : ∀ q p, p ∈ l → f q p = (q.1, q.2.1 ++ [g p], q.2.2)) (s : σ) (es : List α) (ok : Bool) :
    l.foldl f (s, es, ok) = (s, es ++ l.map g, ok) := by
  induction l generalizing es with
  | nil => rw [List.map_nil, List.append_nil, List.foldl_nil]
  | cons p l ih =>
    rw [List.foldl_cons, hf _ _ List.mem_cons_self, ih (fun q r hr => hf q r (List.mem_cons_of_mem _ hr)), List.map_cons, List.append_assoc,
      List.singleton_append]

/-- Nothing of the shadow is stale: it keeps its entries, and is no longer HELD. -/
theorem revalidate_of_current {s : State} {sh : Nat} {h : Shadow} {us : List OpUnits} (hsh : tget s.xlt.shadows sh = some h)
    (hera : h.era = s.xlt.era) (hfresh : ∀ e, e ∈ h.entries → staleEntry s e = false) (hlen : h.entries.length = (entryNeeds us).length)
    (src : Nat) : revalidate s sh src us = (putShadow s sh { h with held := false }, .ok) := by
  have hcur : (h.era != s.xlt.era) = false := by simp [hera]
  have hnone : ∀ p, p ∈ h.entries.zip (entryNeeds us) → (false || staleEntry s p.1) = false := fun p hp => hfresh _ (List.of_mem_zip hp).1
  have hany : (h.entries.zip (entryNeeds us)).any (fun p => (false || staleEntry s p.1) && fenced s p.1.extent) = false :=
    List.any_eq_false.2 fun p hp => by simp only [hnone p hp, Bool.false_and, Bool.false_eq_true, not_false_eq_true]
  have hentries : (h.entries.zip (entryNeeds us)).map Prod.fst = h.entries := List.map_fst_zip (le_of_eq hlen)
  unfold revalidate
  simp only [hsh, hcur, hany, Bool.false_eq_true, if_false]
  rw [foldl_appends (g := Prod.fst) (fun q p hp => if_neg (by rw [hnone p hp]; decide)), hentries]
  simp only [List.nil_append, if_true, ← hera]

theorem LoneRun.markHeld {s : State} {x : Nat} {c : Ctx} {r : Run} {h : Shadow} (hlone : LoneRun s x c r)
    (hsh : tget s.xlt.shadows r.job.shadow = some h) (v : Bool) :
    LoneRun (markHeld s r.job.shadow v) x { c with run := some { r with job := { r.job with held := v } } } { r with job := { r.job with held := v } }
      ∧ tget (markHeld s r.job.shadow v).xlt.shadows r.job.shadow = some { h with held := v }
      ∧ (markHeld s r.job.shadow v).regs = s.regs ∧ (markHeld s r.job.shadow v).mem = s.mem := by
  have hget : tget (Machine.updJob s r.job.shadow fun j => { j with held := v }).xlt.shadows r.job.shadow = some h := hsh
  have hjob := hlone.updJob fun j => { j with held := v }
  unfold Machine.markHeld
  simp only [hget]
  exact ⟨hjob.of_sched rfl, tget_tset_self _ _ _, rfl, rfl⟩

/-- A HELD descriptor with current entries is released, in its job and in its shadow. -/
theorem revalJob_of_current {s : State} {x : Nat} {c : Ctx} {r : Run} {h : Shadow} {us : List OpUnits} (hlone : LoneRun s x c r)
    (hsh : tget s.xlt.shadows r.job.shadow = some h) (hera : h.era = s.xlt.era) (hfresh : ∀ e, e ∈ h.entries → staleEntry s e = false)
    (hlen : h.entries.length = (entryNeeds us).length) (src : Nat) :
    ∃ u c' r', revalJob s r.job.shadow src us = (true, u) ∧ LoneRun u x c' r' ∧ r'.job.held = false ∧ r'.raw = r.raw
      ∧ tget u.xlt.shadows r.job.shadow = some { h with held := false } ∧ u.regs = s.regs ∧ u.mem = s.mem := by
  have hput : LoneRun (putShadow s r.job.shadow { h with held := false }) x c r := hlone.of_sched rfl
  obtain ⟨hmark, hget, hregs, hmem⟩ := hput.markHeld (tget_tset_self _ _ _) false
  refine ⟨_, _, _, ?_, hmark.updJob fun j => { j with recheck := false }, rfl, rfl, hget, hregs, hmem⟩
  simp only [revalJob, revalidate_of_current hsh hera hfresh hlen src]

/-- The held entries of the one context's descriptor are current: it may go on. -/
theorem revalidationDone_releases {s : State} {x : Nat} {c : Ctx} {r : Run} {h : Shadow} (hlone : LoneRun s x c r) (hheld : r.job.held = true)
    (hsh : tget s.xlt.shadows r.job.shadow = some h) (hera : h.era = s.xlt.era) (hfresh : ∀ e, e ∈ h.entries → staleEntry s e = false)
    (hlen : h.entries.length = (entryNeeds (courseOf r.raw).units).length) :
    Completes (.revalidationDone x) s (fun t =>
      (∃ c' r', ctxAt t x = some c' ∧ c'.run = some r' ∧ r'.job.held = false ∧ r'.raw = r.raw)
      ∧ tget t.xlt.shadows r.job.shadow = some { h with held := false } ∧ SameRegs s t [] ∧ t.mem = s.mem) := by
  obtain ⟨u, c', r', hreval, hu, hfree, hraw, hshadow, hregs, hmem⟩ := revalJob_of_current hlone hsh hera hfresh hlen (portCoord s 0)
  have hnone : bulkOfCtx u x = [] := by simp [bulkOfCtx, hu.bulk]
  refine ⟨u, ?_, ⟨c', r', hu.ctxAt, hu.run, hfree, hraw⟩, hshadow, SameRegs.of_regs hregs _, hmem⟩
  show execRevalidationDone x s = _
  simp only [execRevalidationDone, hlone.ctxAt, Option.bind_some, hlone.run, hheld, if_true, hreval, hnone, List.foldl_nil]

end Sys2Proof.Machine
end

section
/-! PROOFS. The end of a tile whose writes are acknowledged (R92, R245). -/

namespace Sys2Proof.Machine
open Sys2Proof

/-! ### The count of tiles -/

section
variable {j : Job} {e : Tile} (hflight : j.flight = [e])
include hflight

theorem tileAt_of_single : j.tileAt e.num = some e := by simp [Job.tileAt, hflight]

/-- The next tile in order ends: it is counted, and none is in flight. -/
theorem whole_drop_of_single (htiles : j.tiles = e.num) (habove : j.above = []) :
    ((j.whole e.num).drop e.num).flight = [] ∧ ((j.whole e.num).drop e.num).tiles = e.num + 1 := by
  refine ⟨?_, ?_⟩
  · show List.filter _ j.flight = []
    simp [hflight]
  · simp [Job.drop, Job.whole, htiles, habove]

end

theorem sameRegs_bump64 (s : State) (a n : Nat) : SameRegs s (bump64 s a n) [a, a + 4] :=
  (sameRegs_rput s _ (by simp)).trans (sameRegs_rput _ _ (by simp))

/-! ### A tile that is placed and acknowledged -/

/-- A tile that is placed, with every write acknowledged, and nothing of it mirrored. -/
structure Acknowledged (e : Tile) : Prop where
  out : e.out ≠ none
  placed : e.placed = true
  left : e.left = 0
  got : e.got = e.want
  plain : e.mirrored = false

section
variable {s : State} {x sh : Nat} {j : Job} {e : Tile} (hjob : jobAt s sh = some j) (htile : j.tileAt e.num = some e) (hack : Acknowledged e)
include hjob htile hack

/-- There is nothing left to place. -/
theorem placeTile_of_placed (bulk : Bool) (os : Piece → Opd) (push : Piece → Option Nat) : placeTile s bulk x sh e.num os push = s := by
  obtain ⟨ps, hps⟩ := Option.ne_none_iff_exists'.1 hack.out
  simp only [placeTile, hjob, htile, hps, hack.placed, if_true]

theorem endTile_of_acknowledged (hmirror : mirroring s = false) (bulk mir : Bool) :
    endTile s bulk x sh e.num mir = (true, updJob s sh fun j => (j.whole e.num).drop e.num) := by
  obtain ⟨ps, hps⟩ := Option.ne_none_iff_exists'.1 hack.out
  have hmirror' : mirroring (updJob s sh fun j => (j.whole e.num).drop e.num) = false := hmirror
  simp only [endTile, hjob, htile, hps, hack.placed, hack.left, hack.got, hack.plain, hmirror', Option.isNone_some, Bool.false_and, Bool.not_true,
    bne_self_eq_false, Bool.or_self, Bool.and_false, Bool.false_eq_true, if_false, ne_eq, not_true_eq_false]

end

theorem tileEnd_of_course {s : State} {x : Nat} {c : Ctx} {r : Run} {e : Tile} (hlone : LoneRun s x c r) (hsafe : inSafe s = false)
    (hack : Acknowledged e) (hmirror : mirroring s = false) (hflight : r.job.flight = [e]) (htiles : r.job.tiles = e.num)
    (habove : r.job.above = []) :
    Completes (.tileEnd x false e.num) s (fun t =>
      (∃ c' r', ctxAt t x = some c' ∧ c'.run = some r' ∧ r'.job.flight = [] ∧ r'.job.tiles = e.num + 1 ∧ r'.raw = r.raw)
      ∧ SameRegs s t [Reg.CRS_TILES_LO (r.course e.member / 2) (r.course e.member % 2),
          Reg.CRS_TILES_LO (r.course e.member / 2) (r.course e.member % 2) + 4] ∧ t.mem = s.mem) := by
  have htile := tileAt_of_single hflight
  have hwork : workTile s x e.num = s := by
    obtain ⟨ps, hps⟩ := Option.ne_none_iff_exists'.1 hack.out
    simp only [workTile, hlone.ctxAt, Option.bind_some, hlone.run, htile, hps, Option.isNone_some, Bool.false_eq_true, if_false,
      placeTile_of_placed hlone.jobAt htile hack]
  obtain ⟨hnone, hcount⟩ := whole_drop_of_single hflight htiles habove
  have hended := hlone.updJob fun j => (j.whole e.num).drop e.num
  have hexec : exec (.tileEnd x false e.num) s = .next (bump64 (updJob s r.job.shadow fun j => (j.whole e.num).drop e.num)
      (Reg.CRS_TILES_LO (r.course e.member / 2) (r.course e.member % 2)) 1) := by
    show execTileEnd x false e.num s = _
    simp only [execTileEnd, hsafe, hwork, hlone.ctxAt, Option.bind_some, hlone.run, htile, Option.map_some, Option.getD_some,
      endTile_of_acknowledged hlone.jobAt htile hack hmirror, Bool.false_eq_true, if_false]
  exact ⟨_, hexec, ⟨_, _, hended.ctxAt, rfl, hnone, hcount, rfl⟩, (SameRegs.of_regs rfl _).trans (sameRegs_bump64 _ _ _), rfl⟩

theorem tileEnd_of_bulk {s : State} {x : Nat} {b : BulkJob} {e : Tile} (hlone : LoneBulk s b) (hx : b.context = x) (hsafe : inSafe s = false)
    (hack : Acknowledged e) (hmirror : mirroring s = false) (hflight : b.job.flight = [e]) (htiles : b.job.tiles = e.num)
    (habove : b.job.above = []) :
    Completes (.tileEnd x true e.num) s (fun t =>
      (∃ b', t.sched.bulk = [b'] ∧ b'.job.flight = [] ∧ b'.job.tiles = e.num + 1) ∧ SameRegs s t [] ∧ t.mem = s.mem) := by
  have htile := tileAt_of_single hflight
  have hturn := hlone.bulkTurn hx
  have hwork : workBulk s x e.num = s := by
    obtain ⟨ps, hps⟩ := Option.ne_none_iff_exists'.1 hack.out
    simp only [workBulk, hturn, htile, hps, Option.isNone_some, Bool.false_eq_true, if_false, placeTile_of_placed hlone.jobAt htile hack]
  obtain ⟨hnone, hcount⟩ := whole_drop_of_single hflight htiles habove
  have hend : exec (.tileEnd x true e.num) s = .next (putBulk s [{ b with job := (b.job.whole e.num).drop e.num }]) := by
    show execTileEnd x true e.num s = _
    simp only [execTileEnd, hsafe, hwork, hturn, endTile_of_acknowledged hlone.jobAt htile hack hmirror, hlone.updJob, Bool.false_eq_true,
      if_false, if_true]
  exact ⟨_, hend, ⟨_, rfl, hnone, hcount⟩, SameRegs.of_regs rfl _, rfl⟩

end Sys2Proof.Machine
end

section
/-! PROOFS. The start of a round of tiles of a course descriptor (R228, R257). -/

namespace Sys2Proof.Machine
open Sys2Proof

/-- A tile as it goes into flight. -/
def Tile.fresh (t m : Nat) : Tile :=
  { num := t, member := m, out := none, poison := false, placed := false, mirrored := false, left := 0, want := 0, got := 0 }

/-- A job whose next tiles, each with its member, have gone into flight. -/
def Job.launch (j : Job) (ts : List (Nat × Nat)) : Job :=
  { j with nextTile := j.nextTile + ts.length, flight := j.flight ++ ts.map fun t => Tile.fresh t.1 t.2 }

theorem filterMap_if {α β : Type} (p : α → Prop) [DecidablePred p] (g : α → β) (l : List α) :
    (l.filterMap fun a => if p a then some (g a) else none) = (l.filter fun a => decide (p a)).map g := by
  induction l with
  | nil => rfl
  | cons a l ih =>
    by_cases ha : p a
    · simp [ha, ih]
    · simp [ha, ih]

/-- The tiles of a round: each member takes the next in turn, up to the descriptor's last (R228). -/
def Run.round (r : Run) : List Nat := (List.range r.members.length).filter fun m => decide (r.job.nextTile + m < (courseOf r.raw).tiles)

section
variable {s : State} {x : Nat} {c : Ctx} {r : Run}

/-- Nothing bars a round of tiles (R253, R257, R386, R498, R519). -/
structure RoundOpen (s : State) (c : Ctx) (r : Run) : Prop where
  going : r.stop = 0
  good : r.job.fail = none
  free : r.job.held = false
  power : capOpen s = true
  alone : s.twin.st = 0
  landed : r.job.flight = []
  gates : ∀ n, n ∈ r.members → dieOpen s c.tenant (n / 2) = true
  tiles : r.round ≠ []
  fresh : entriesFresh s r.job.shadow (r.round.flatMap fun m =>
    (courseOf r.raw).tileEntries (shadowAt s r.job.shadow) (r.job.nextTile + m)) = true

theorem startRound_of_open (h : RoundOpen s c r) :
    startRound s x c r = (r.round.map fun m => (r.job.nextTile + m, m)).foldl (fun s t => workTile s x t.1)
      (updJob s r.job.shadow fun j => j.launch (r.round.map fun m => (r.job.nextTile + m, m))) := by
  obtain ⟨hgoing, hgood, hfree, hpower, halone, hlanded, hgates, hsome, hfresh⟩ := h
  have hts : ((List.range r.members.length).filterMap fun m =>
      if r.job.nextTile + m < (courseOf r.raw).tiles then some (r.job.nextTile + m, m) else none)
      = r.round.map fun m => (r.job.nextTile + m, m) := filterMap_if _ _ _
  have hne : (r.round.map fun m => (r.job.nextTile + m, m)).isEmpty = false := by simpa using hsome
  have hshut : (r.members.any fun n => !dieOpen s c.tenant (n / 2)) = false := by simpa using hgates
  have hentries : ((r.round.map fun m => (r.job.nextTile + m, m)).flatMap fun t =>
      (courseOf r.raw).tileEntries (shadowAt s r.job.shadow) t.1)
      = r.round.flatMap fun m => (courseOf r.raw).tileEntries (shadowAt s r.job.shadow) (r.job.nextTile + m) := List.flatMap_map ..
  have hroom : ((List.range r.members.length).all fun _ => true) = true := List.all_eq_true.2 fun _ _ => rfl
  have htwin : (s.twin.st == 2) = false := by rw [halone]; rfl
  unfold startRound
  simp only [hts, hne, hlanded, hpower, hgoing, hgood, htwin, hshut, hfree, hentries, hfresh, hroom, List.filter_nil, List.length_nil,
    Nat.zero_lt_succ, decide_true, Bool.not_true, bne_self_eq_false, Option.isSome_none, Bool.false_and, Bool.or_self, Bool.false_eq_true,
    if_false]
  rfl

theorem runsAs_launch (hc : ctxAt s x = some c) (hrun : c.run = some r) (ts : List (Nat × Nat)) :
    RunsAs x { r with job := r.job.launch ts } (updJob s r.job.shadow fun j => j.launch ts) := by
  refine ⟨c.onJob r.job.shadow fun j => j.launch ts, _, ?_, ?_, SameRun.refl _⟩
  · rw [ctxAt_updJob, hc]
    rfl
  · unfold Ctx.onJob
    rw [hrun]
    exact congrArg some (if_pos rfl)

theorem tileStart_of_course (hc : ctxAt s x = some c) (hsafe : inSafe s = false) (hgoing : paused s c = false) (hrun : c.run = some r)
    (hmem : r.members ≠ []) (h : RoundOpen s c r) :
    Completes (.tileStart x false) s (fun t =>
      ∃ c' r', ctxAt t x = some c' ∧ c'.run = some r' ∧ r'.raw = r.raw ∧ r'.members = r.members
        ∧ r'.job.nextTile = r.job.nextTile + r.round.length
        ∧ r'.job.flight.map (fun e => e.num) = r.round.map (fun m => r.job.nextTile + m)) := by
  have hne : r.members.isEmpty = false := by simpa using hmem
  have hexec : exec (.tileStart x false) s = .next (startRound s x c r) := by
    show execTileStart x false s = _
    simp only [execTileStart, hc, hsafe, hgoing, hrun, hne, Bool.or_self, Bool.false_eq_true, if_false]
  rw [startRound_of_open h] at hexec
  have hlaunch := runsAs_launch hc hrun (r.round.map fun m => (r.job.nextTile + m, m))
  obtain ⟨c', q, hc', hq, hsame⟩ := hlaunch.fold (fun u t hu => hu.workTile x t.1) (r.round.map fun m => (r.job.nextTile + m, m))
  refine ⟨_, hexec, c', q, hc', hq, hsame.raw, hsame.members, hsame.next.trans ?_, hsame.flight.trans ?_⟩
  · simp [Job.launch]
  · simp [Job.launch, h.landed, Tile.fresh]

end

end Sys2Proof.Machine
end

section
/-! PROOFS. A tile of a FILL in a plain extent (R82, R92, R230). -/

namespace Sys2Proof.Machine
open Sys2Proof

/-! ### The place of a piece -/

section
variable {s : State} {a : Nat} (h : Clean s) (hp : PlainExtent s a) {len : Nat} (hin : a % 2 ^ 30 + len ≤ 2 ^ 30)
include hp hin

/-- The module's own agents need not wait for a plain extent. -/
theorem agentRange_of_plain (write : Bool) : agentRange s a len write = (true, s) := by
  unfold agentRange
  split
  · rfl
  · have hlast : extOf (a + len - 1) = extOf a := by unfold extOf; omega
    simp [hlast, hp.coherent]

theorem ensureWrites_of_plain {sh : Nat} {o : Opd} {p : Piece} (hlocal : o.remote = false)
    (hsegs : o.segs (shadowAt s sh) p.off p.data.length = [(a, len)]) : ensureWrites sh (fun _ => o) s [p] = (true, s) := by
  simp [ensureWrites, hlocal, hsegs, agentRange_of_plain hp hin]

include h

/-- A piece with one segment puts its bytes there. -/
theorem placePiece_of_plain {x sh desc t : Nat} {o : Opd} {p : Piece} (hlocal : o.remote = false) (hlen : p.data.length = len)
    (hsegs : o.segs (shadowAt s sh) p.off p.data.length = [(a, len)]) (htwin : s.twin.st = 0) :
    ∃ u, placePiece true x sh desc t o none false s p = u ∧ u.mem = memWrite s.mem a p.data ∧ u.sched = s.sched := by
  obtain ⟨regs, hcharge, hclean⟩ := chargeSegs_tenant h (shadowAt s sh).tenant
    ([(a, len)].filter fun e => homeDie s (shadowAt s sh) sh t != some (extOf e.1 / 480))
  rw [hcharge] at hclean
  obtain ⟨hmem, hsched, htw⟩ := placeSeg_of_plain (s := { s with regs := regs }) (b := p.data) hclean (hp.of_xlt rfl) (by rw [hlen]; exact hin)
  have hmirror : mirroring (placeSeg { s with regs := regs } a p.data false none) = false := mirroring_of_unpaired (by rw [htw, htwin])
  refine ⟨placeSeg { s with regs := regs } a p.data false none, ?_, hmem, hsched⟩
  have hwhole : p.data.take len = p.data := List.take_of_length_le (le_of_eq hlen)
  simp only [placePiece, hlocal, hsegs, chargeRange, hcharge, List.foldl_cons, List.foldl_nil, List.nil_append, hwhole,
    hmirror, Bool.false_and, Bool.false_eq_true, if_false]

end

theorem LoneBulk.of_sched {s t : State} {b : BulkJob} (h : LoneBulk s b) (ht : t.sched = s.sched) : LoneBulk t b :=
  ⟨by rw [ht]; exact h.idle, by rw [ht]; exact h.bulk⟩

/-- The one piece of a tile in flight is placed. -/
theorem placeTile_of_plain {s : State} {a len x : Nat} {b : BulkJob} {e : Tile} {o : Opd} {p : Piece} (hlone : LoneBulk s b) (h : Clean s)
    (hp : PlainExtent s a) (hin : a % 2 ^ 30 + len ≤ 2 ^ 30) (htwin : s.twin.st = 0) (hflight : b.job.flight = [e]) (hout : e.out = some [p])
    (hplaced : e.placed = false) (hpoison : e.poison = false) (hlocal : o.remote = false) (hlen : p.data.length = len)
    (hsegs : o.segs (shadowAt s b.job.shadow) p.off p.data.length = [(a, len)]) :
    ∃ u, placeTile s true x b.job.shadow e.num (fun _ => o) (fun _ => none)
        = putBulk u [{ b with job := b.job.tile e.num fun t => { t with placed := true } }] ∧ u.mem = memWrite s.mem a p.data := by
  obtain ⟨u, hu, hmem, hsched⟩ := placePiece_of_plain (x := x) (desc := b.job.desc) (t := e.num) h hp hin hlocal hlen hsegs htwin
  refine ⟨u, ?_, hmem⟩
  simp only [placeTile, hlone.jobAt, tileAt_of_single hflight, hout, hplaced, hpoison, ensureWrites_of_plain hp hin hlocal hsegs, List.foldl_cons,
    List.foldl_nil, hu, (hlone.of_sched hsched).updJob, Bool.false_eq_true, if_false]

/-! ### The bytes of a FILL -/

/-- The bytes that a FILL puts at a range of its destination. -/
def fillBytes (d : Bulk) (off len : Nat) : List Byte := (List.range len).map fun i => ((leBytes 8 d.pattern)[(off + i) % 8]?).getD 0#8

theorem length_fillBytes (d : Bulk) (off len : Nat) : (fillBytes d off len).length = len := by simp [fillBytes]

theorem getD_fillBytes (d : Bulk) (off : Nat) {len i : Nat} (hi : i < len) :
    (fillBytes d off len).getD i 0#8 = (leBytes 8 d.pattern).getD ((off + i) % 8) 0#8 := by
  simp [fillBytes, hi]

/-- The output of a FILL's tile. -/
def fillPiece (d : Bulk) (off len : Nat) : Piece := { op := 1, off := off, data := fillBytes d off len }

/-- The tile in flight has its output. -/
def BulkJob.made (b : BulkJob) (e : Tile) (p : Piece) : BulkJob :=
  { b with job := { b.job with flight := [{ e with out := some [p], poison := false }] } }

/-- A FILL whose first tile out of flight goes into flight. -/
def BulkJob.launch (b : BulkJob) : BulkJob := { b with job := { b.job with nextTile := b.job.nextTile + 1, flight := [Tile.fresh b.job.nextTile 0] } }

section
variable {s : State} {x off len a : Nat} {b : BulkJob} (hop : (bulkOf b.raw).op = 0x11)
include hop

theorem isMove_of_fill : (bulkOf b.raw).isMove = false := by
  unfold Bulk.isMove
  rw [hop]
  rfl

/-- The data of a FILL's tile is made, not read. -/
theorem computeBulk_of_fill {e : Tile} (hlone : LoneBulk s b) (hflight : b.job.flight = [e]) (hspan : (off, len) = (bulkOf b.raw).span e.num) :
    computeBulk s b e.num = putBulk s [b.made e (fillPiece (bulkOf b.raw) off len)] := by
  simp only [computeBulk, ← hspan, isMove_of_fill hop, Bool.false_eq_true, if_false, hlone.updJob, Job.tile, hflight, List.map_cons, List.map_nil,
    if_true]
  rfl

/-- Nothing bars the next tile of a FILL (R257, R386, R498). -/
structure FillOpen (s : State) (c : Ctx) (b : BulkJob) (off len : Nat) : Prop where
  more : b.job.nextTile < (bulkOf b.raw).tiles
  awake : c.st ≠ cxSUSPENDED
  landed : b.job.flight = []
  good : b.job.fail = none
  free : b.job.held = false
  alone : s.twin.st = 0
  gates : ∀ n, n < 6 → dieOpen s c.tenant n = true
  places : ∀ e, e ∈ (shadowAt s b.job.shadow).entries → e.extent < 2880
  fresh : entriesFresh s b.job.shadow (((bulkOf b.raw).dstOpd (shadowAt s b.job.shadow)).entriesOf off len) = true

theorem startBulk_of_fill {c : Ctx} (hlone : LoneBulk s b) (h : FillOpen s c b off len) (hspan : (off, len) = (bulkOf b.raw).span b.job.nextTile) :
    startBulk s x c b = workBulk (putBulk s [b.launch]) x b.job.nextTile := by
  obtain ⟨hmore, hawake, hlanded, hgood, hfree, halone, hgates, hplaces, hfresh⟩ := h
  have hleft : decide ((bulkOf b.raw).tiles ≤ b.job.nextTile) = false := decide_eq_false (Nat.not_le.2 hmore)
  have hst : (c.st == cxSUSPENDED) = false := beq_eq_false_iff_ne.2 hawake
  have htwin : (s.twin.st == 2) = false := by rw [halone]; rfl
  have hshut : ((((bulkOf b.raw).dstOpd (shadowAt s b.job.shadow)).entriesOf off len).filterMap fun i =>
      ((shadowAt s b.job.shadow).entries[i]?).map fun e => e.extent / 480).any (fun n => !dieOpen s c.tenant n) = false := by
    refine List.any_eq_false.2 fun n hn => ?_
    obtain ⟨i, -, hi⟩ := List.mem_filterMap.1 hn
    obtain ⟨e, he, rfl⟩ := Option.map_eq_some_iff.1 hi
    have hlt := hplaces e (List.mem_of_getElem? he)
    rw [hgates (e.extent / 480) (by omega)]
    decide
  have hlaunch := hlone.updJob fun j => { j with nextTile := b.job.nextTile + 1, flight := [Tile.fresh b.job.nextTile 0] }
  unfold startBulk
  simp only [← hspan, isMove_of_fill hop, hleft, hst, htwin, hshut, hlanded, hgood, hfree, hfresh, List.nil_append, List.isEmpty_nil, Bool.and_false,
    Bool.not_true, Bool.false_and, Option.isSome_none, Bool.or_self, Bool.false_eq_true, if_false]
  exact congrArg (fun u => workBulk u x b.job.nextTile) hlaunch

/-- The tile of a FILL in flight is made and placed. -/
theorem workBulk_of_fill {e : Tile} (hlone : LoneBulk s b) (hx : b.context = x) (hflight : b.job.flight = [e]) (hout : e.out = none)
    (hplaced : e.placed = false) (hspan : (off, len) = (bulkOf b.raw).span e.num) (h : Clean s) (hp : PlainExtent s a)
    (hin : a % 2 ^ 30 + len ≤ 2 ^ 30) (htwin : s.twin.st = 0) (hkind : (bulkOf b.raw).dstKind < 2)
    (hsegs : ((bulkOf b.raw).dstOpd (shadowAt s b.job.shadow)).segs (shadowAt s b.job.shadow) off len = [(a, len)]) :
    ∃ u b', workBulk s x e.num = putBulk u [b'] ∧ u.mem = memWrite s.mem a (fillBytes (bulkOf b.raw) off len)
      ∧ b'.job.nextTile = b.job.nextTile ∧ ∃ e', b'.job.flight = [e'] ∧ e'.num = e.num ∧ e'.placed = true := by
  have hlocal : ((bulkOf b.raw).dstOpd (shadowAt s b.job.shadow)).remote = false := decide_eq_false (Nat.not_le.2 hkind)
  have hcompute := computeBulk_of_fill hop hlone hflight hspan
  have hmade := hlone.put (b.made e (fillPiece (bulkOf b.raw) off len))
  have hlen : (fillPiece (bulkOf b.raw) off len).data.length = len := length_fillBytes _ _ _
  have hwork : workBulk s x e.num = placeTile (putBulk s [b.made e (fillPiece (bulkOf b.raw) off len)]) true x b.job.shadow e.num
      (fun _ => (bulkOf b.raw).dstOpd (shadowAt s b.job.shadow)) (fun _ => none) := by
    simp only [workBulk, hlone.bulkTurn hx, tileAt_of_single hflight, hout, Option.isNone_none, if_true, hcompute]
    rfl
  obtain ⟨u, hplace, hmem⟩ := placeTile_of_plain (x := x) hmade (h.of_dram_regs rfl rfl) (hp.of_xlt rfl) hin htwin rfl rfl hplaced rfl hlocal
    hlen (by rw [hlen]; exact hsegs)
  exact ⟨u, _, hwork.trans hplace, hmem, rfl, _, congrArg (fun t => [t]) (if_pos rfl), rfl, rfl⟩

theorem tileStart_of_fill {c : Ctx} (hc : ctxAt s x = some c) (hsafe : inSafe s = false) (hgoing : paused s c = false) (hlone : LoneBulk s b)
    (hx : b.context = x) (hopen : FillOpen s c b off len) (hspan : (off, len) = (bulkOf b.raw).span b.job.nextTile) (h : Clean s)
    (hp : PlainExtent s a) (hin : a % 2 ^ 30 + len ≤ 2 ^ 30) (hkind : (bulkOf b.raw).dstKind < 2)
    (hsegs : ((bulkOf b.raw).dstOpd (shadowAt s b.job.shadow)).segs (shadowAt s b.job.shadow) off len = [(a, len)]) :
    Completes (.tileStart x true) s (fun t =>
      (∀ i, i < len → memByte t.mem (a + i) = (leBytes 8 (bulkOf b.raw).pattern).getD ((off + i) % 8) 0#8)
      ∧ (∀ y, y < a ∨ a + len ≤ y → memByte t.mem y = memByte s.mem y)
      ∧ (∃ b' e, t.sched.bulk = [b'] ∧ b'.job.nextTile = b.job.nextTile + 1 ∧ b'.job.flight = [e] ∧ e.num = b.job.nextTile
        ∧ e.placed = true)) := by
  obtain ⟨u, b', hwork, hmem, hnext, e, hflight, hnum, hplaced⟩ := workBulk_of_fill (b := b.launch) hop (hlone.put b.launch) hx rfl rfl rfl hspan
    (h.of_dram_regs rfl rfl) (hp.of_xlt rfl) hin hopen.alone hkind hsegs
  have hexec : exec (.tileStart x true) s = .next (putBulk u [b']) := by
    show execTileStart x true s = _
    simp only [execTileStart, hc, hsafe, hgoing, hlone.bulkTurn hx, startBulk_of_fill hop hlone hopen hspan, Bool.or_self, Bool.false_eq_true,
      if_false, if_true]
    exact congrArg _ hwork
  refine ⟨_, hexec, fun i hi => ?_, fun y hy => ?_, b', e, rfl, hnext, hflight, hnum, hplaced⟩
  · show memByte u.mem _ = _
    rw [hmem, memByte_memWrite, length_fillBytes, if_pos (by omega), Nat.add_sub_cancel_left]
    exact getD_fillBytes _ _ hi
  · show memByte u.mem _ = _
    rw [hmem]
    exact memByte_memWrite_out _ _ _ (by rwa [length_fillBytes])

end

end Sys2Proof.Machine
end

section
/-! PROOFS. The arrival of a bulk descriptor (R82 to R85, R345). -/

namespace Sys2Proof.Machine
open Sys2Proof

/-! ### What translation leaves of the fabric and of the twin -/

/-- The fabric and the twin are as before. -/
structure SameLinks (s t : State) : Prop where
  fab : t.fab = s.fab
  twin : t.twin = s.twin

theorem SameLinks.refl (s : State) : SameLinks s s := ⟨rfl, rfl⟩

theorem SameLinks.trans {s t u : State} (h : SameLinks s t) (h' : SameLinks t u) : SameLinks s u :=
  ⟨h'.fab.trans h.fab, h'.twin.trans h.twin⟩

theorem sameLinks_slotXl (s : State) (t v need perm addr src : Nat) (w : Bool) : SameLinks s (slotXl s t v need perm addr src w).1 := by
  have hcache : SameLinks s (viewCache s t v) := by
    unfold viewCache
    extract_lets
    split
    · exact SameLinks.refl s
    · exact ⟨rfl, rfl⟩
  unfold slotXl
  extract_lets
  split
  · exact hcache
  · split
    · exact hcache
    · exact hcache

theorem sameLinks_windowXl (s : State) (addr need src : Nat) : SameLinks s (windowXl s addr need src).1 := by
  unfold windowXl
  extract_lets
  split
  · exact SameLinks.refl s
  · split
    · split
      · exact SameLinks.refl s
      · exact SameLinks.refl s
    · exact sameLinks_slotXl s _ _ _ _ _ _ _

theorem sameLinks_xlUnits (kind tenant need src : Nat) (s : State) (l : List (Nat × Nat)) :
    SameLinks s (xlUnits kind tenant need src s l).1 := by
  induction l generalizing s with
  | nil => exact SameLinks.refl s
  | cons e l ih =>
    have hunit : SameLinks s (unitXl s kind tenant e.1 need src).1 := by
      unfold unitXl
      split
      · exact sameLinks_slotXl s _ _ _ _ _ _ _
      · exact sameLinks_windowXl s _ _ _
    exact hunit.trans (ih _)

theorem sameLinks_xlDesc (tenant src : Nat) (s : State) (us : List OpUnits) : SameLinks s (xlDesc tenant src s us).1 := by
  induction us generalizing s with
  | nil => exact SameLinks.refl s
  | cons v us ih => exact (sameLinks_xlUnits v.kind tenant v.need src s _).trans (ih _)

/-! ### The bulk engine's list -/

/-- A context with a bulk descriptor does not read its TAIL: translation, fabric and the list stay. -/
theorem settle_of_bulk {s : State} {x : Nat} {c : Ctx} (hc : ctxAt s x = some c) (hbulk : bulkOfCtx s x ≠ []) :
    (settle s x).xlt = s.xlt ∧ (settle s x).fab = s.fab ∧ (settle s x).sched.bulk = s.sched.bulk := by
  rcases Nat.lt_or_ge c.st cxSUSPENDED with hst | hst
  · obtain ⟨vt, hsettle⟩ := settle_of_work hc hst (by rw [workState_of_bulk hbulk]; decide)
    rw [hsettle]
    exact ⟨rfl, rfl, rfl⟩
  · rw [settle_of_halted hc hst]
    exact ⟨rfl, rfl, rfl⟩

/-- A bulk descriptor as it enters the engine. -/
def BulkJob.fresh (x src desc : Nat) (raw : List Byte) (n : Nat) : BulkJob :=
  { context := x, src := src, raw := raw, job := { Job.fresh n desc with fail := none } }

theorem enqueueBulk_appends {s : State} {x : Nat} {c : Ctx} (hc : ctxAt s x = some c) (src desc : Nat) (raw : List Byte) (n : Nat) :
    (enqueueBulk s x src desc raw n none).xlt = s.xlt ∧ (enqueueBulk s x src desc raw n none).fab = s.fab
      ∧ (enqueueBulk s x src desc raw n none).sched.bulk = s.sched.bulk ++ [BulkJob.fresh x src desc raw n] := by
  have hmine : bulkOfCtx (putBulk s (s.sched.bulk ++ [BulkJob.fresh x src desc raw n])) x ≠ [] := by
    simp [bulkOfCtx, putBulk, BulkJob.fresh]
  exact settle_of_bulk (s := putBulk s (s.sched.bulk ++ [BulkJob.fresh x src desc raw n])) hc hmine

/-- The shadow of a bulk descriptor that translates (R89). -/
def bulkShadow (s : State) (x tenant : Nat) (d : DescXl) (m : Msg) : Shadow :=
  { context := x, tenant := tenant, course := false, entries := d.entries, sigIdx := (fieldOf (placeFields 0 d.fields) 16).1
    held := false, era := s.xlt.era, accepted := now s, origin := m.reqid.toNat, operands := bulkFields (placeFields 0 d.fields) }

/-- A bulk descriptor that translates: its shadow holds the entries, and the engine holds the descriptor. -/
theorem admitBulk_accepts {s u : State} {x : Nat} {c c' : Ctx} {m : Msg} {d : DescXl} (hc : ctxAt s x = some c')
    (herr : (bulkOf (slice m.data 0 64)).error = false) (hunits : unitsBad (bulkOf (slice m.data 0 64)).units = false)
    (hxl : xlDesc c.tenant m.src.toNat s (bulkOf (slice m.data 0 64)).units = (u, d)) (hwin : d.window = false) (hfaults : d.faults = [])
    (hformed : s.twin.formed = false) :
    ∃ v, admitBulk s x c m = (v, .accepted) ∧ v.fab = s.fab
      ∧ v.sched.bulk = s.sched.bulk ++ [BulkJob.fresh x m.src.toNat 0 (slice m.data 0 64) s.sched.nextShadow]
      ∧ tget v.xlt.shadows s.sched.nextShadow = some (bulkShadow u x c.tenant d m) := by
  have hkept : Kept s u := by simpa only [hxl] using kept_xlDesc c.tenant m.src.toNat s (bulkOf (slice m.data 0 64)).units
  have hlinks : SameLinks s u := by simpa only [hxl] using sameLinks_xlDesc c.tenant m.src.toNat s (bulkOf (slice m.data 0 64)).units
  have hunformed : (putShadow (takeNumber u).1 (takeNumber u).2 (bulkShadow u x c.tenant d m)).twin.formed = false := by
    show u.twin.formed = false
    rw [hlinks.twin, hformed]
  have hgood : ((bulkOf (slice m.data 0 64)).error || unitsBad (bulkOf (slice m.data 0 64)).units) = false := by rw [herr, hunits]; rfl
  obtain ⟨hxlt, hfab, hbulk⟩ := enqueueBulk_appends (s := putShadow (takeNumber u).1 (takeNumber u).2 (bulkShadow u x c.tenant d m))
    ((hkept.ctxAt x).trans hc) m.src.toNat 0 (slice m.data 0 64) (takeNumber u).2
  rw [← hkept.sched]
  refine ⟨_, ?_, hfab.trans hlinks.fab, hbulk, ?_⟩
  · unfold admitBulk
    simp only [hgood, hxl, hwin, hfaults, List.isEmpty_nil, Bool.not_true, Bool.false_eq_true, if_false]
    exact if_neg fun hmirrors => Bool.false_ne_true (hunformed.symm.trans (Bool.and_elim_left hmirrors))
  · rw [hxlt]
    exact tget_tset_self _ _ _

/-! ### BULK_DESC -/

section
variable {s : State} {x : Nat} {m : Msg} {c : Ctx} (hx : x = (bulkOf (slice m.data 0 64)).context) (hc : ctxAt s x = some c)
  (hst : c.st < cxSTOPPED) (htwin : s.twin.st = 0) (hpark : c.park = none) (hrefused : c.refused = [])
include hx hc hst htwin hpark hrefused

/-- With no shadow free for its tenant, the descriptor is refused and kept in mind (R85). -/
theorem bulkArrive_of_bar {w : Nat} (hbar : admitBar s c.tenant = some w) :
    bulkArrive s m = answer (setCtx (bump s (Reg.XLT_TN_ADMIT c.tenant) 1) x { c with refused := [slice m.data 0 64] }) m
      (Resp.plain 0x55 sBUSY_RETRY 0 0
        (retryAfter (setCtx (bump s (Reg.XLT_TN_ADMIT c.tenant) 1) x { c with refused := [slice m.data 0 64] }))) := by
  have hdrain : ¬ c.st = cxDRAINING := fun h => absurd hst (by rw [h]; decide)
  have hstop : ¬ c.st = cxSTOPPED := Nat.ne_of_lt hst
  have hcb : ctxAt (bump s (Reg.XLT_TN_ADMIT c.tenant) 1) x = some c := hc
  have hupd : updCtx (bump s (Reg.XLT_TN_ADMIT c.tenant) 1) x (fun c => { c with
      refused := if c.refused.contains (slice m.data 0 64) then c.refused else c.refused ++ [slice m.data 0 64] })
      = setCtx (bump s (Reg.XLT_TN_ADMIT c.tenant) 1) x { c with refused := [slice m.data 0 64] } := by
    rw [updCtx_eq hcb, hrefused]
    rfl
  unfold bulkArrive
  simp only [← hx, hc, hdrain, hstop, htwin, hpark, hbar, hupd, hrefused, List.isEmpty_nil, Option.isSome_none, Option.isSome_some, if_false,
    if_true, false_and, OfNat.zero_ne_ofNat, Bool.false_or, Bool.true_or, Bool.not_true, Bool.false_eq_true]

/-- Nothing bars the descriptor: it is answered once it has been accepted. -/
theorem bulkArrive_of_accepted {v : State} (hbar : admitBar s c.tenant = none)
    (hadmit : admitBulk (setCtx s x { c with refused := [] }) x c m = (v, .accepted)) :
    bulkArrive s m = answer v m (Resp.plain 0x55 sCOMPLETE 0 0 0) := by
  have hdrain : ¬ c.st = cxDRAINING := fun h => absurd hst (by rw [h]; decide)
  have hstop : ¬ c.st = cxSTOPPED := Nat.ne_of_lt hst
  have hunparked : c.park.isSome = false := by rw [hpark]; rfl
  have hempty : c.refused.isEmpty = true := by rw [hrefused]; rfl
  have hdrop : c.refused.drop 1 = [] := by rw [hrefused]; rfl
  unfold bulkArrive
  simp only [← hx, hc, hdrain, hstop, htwin, hunparked, hempty, hdrop, hbar, hadmit, Option.isSome_none, if_false, false_and,
    OfNat.zero_ne_ofNat, Bool.false_or, Bool.true_or, Bool.not_true, Bool.false_eq_true]

end

/-- The retry time does not depend on the counter of refusals. -/
theorem retryAfter_bump_admit (s : State) (t n x : Nat) (c : Ctx) : retryAfter (setCtx (bump s (Reg.XLT_TN_ADMIT t) n) x c) = retryAfter s := by
  have hne : Reg.XLT_ADMIT_RETRY ≠ Reg.XLT_TN_ADMIT t := by
    unfold Reg.XLT_ADMIT_RETRY Reg.XLT_TN_ADMIT
    omega
  exact congrArg (fun r => now s + r * 1000) (rf_rput_ne s _ hne 15 0)

/-- A fresh BULK_DESC meets the checks of R84 once it has left its pool. -/
theorem exec_bulkDesc {s : State} {k : Nat} {m : Msg} {f : Fabric} (h : Fresh s 0x0B m) (htake : takeMsg s k m = { s with fab := f }) :
    exec (.bulkDesc k m) s = .next (bulkArrive { s with fab := f } (asOp 0x0B m)) := by
  rw [← htake, ← arriveReq_fresh h k bulkArrive]
  rfl

section
variable {s : State} {k x : Nat} {m : Msg} {c : Ctx} (hfresh : Fresh s 0x0B m) (hx : x = (bulkOf (slice m.data 0 64)).context)
  (hc : ctxAt s x = some c) (hst : c.st < cxSTOPPED) (htwin : s.twin.st = 0) (hpark : c.park = none) (hrefused : c.refused = [])
include hfresh hx hc hst htwin hpark hrefused

theorem bulkDesc_refused {w : Nat} (hbar : admitBar s c.tenant = some w) : Completes (.bulkDesc k m) s (fun t =>
    Answered t m (Resp.plain 0x55 sBUSY_RETRY 0 0 (retryAfter s)) ∧ ctxAt t x = some { c with refused := [slice m.data 0 64] }
    ∧ t.sched.bulk = s.sched.bulk ∧ t.mem = s.mem) := by
  obtain ⟨f, htake, hprog⟩ := takeMsg_eq s k m
  have harrive := bulkArrive_of_bar (s := { s with fab := f }) (m := asOp 0x0B m) hx hc hst htwin hpark hrefused hbar
  rw [retryAfter_bump_admit] at harrive
  have hexec := (exec_bulkDesc hfresh htake).trans (congrArg Host.Outcome.next harrive)
  have halone : tget f.inProgress (reqKey (asOp 0x0B m)) = none := by rw [hprog]; exact hfresh.alone
  have hserved := answer_served (s := setCtx (bump { s with fab := f } (Reg.XLT_TN_ADMIT c.tenant) 1) x
    { c with refused := [slice m.data 0 64] }) halone (Resp.plain 0x55 sBUSY_RETRY 0 0 (retryAfter s))
  have hbulk := congrArg Sched.bulk hserved.sched
  refine ⟨_, hexec, hserved.of_asOp.answered, ?_, hbulk, answer_mem halone _⟩
  exact (ctxAt_congr (congrArg Sched.ctxs hserved.sched) x).trans (ctxAt_setCtx_self _ _ _)

theorem bulkDesc_accepted {u : State} {d : DescXl} (hbar : admitBar s c.tenant = none) (herr : (bulkOf (slice m.data 0 64)).error = false)
    (hunits : unitsBad (bulkOf (slice m.data 0 64)).units = false)
    (hxl : xlDesc c.tenant m.src.toNat (setCtx (takeMsg s k m) x { c with refused := [] }) (bulkOf (slice m.data 0 64)).units = (u, d))
    (hwin : d.window = false) (hfaults : d.faults = []) (hformed : s.twin.formed = false) : Completes (.bulkDesc k m) s (fun t =>
    Answered t m (Resp.plain 0x55 sCOMPLETE 0 0 0)
    ∧ (∃ b, t.sched.bulk = s.sched.bulk ++ [b] ∧ b.context = x ∧ b.raw = slice m.data 0 64 ∧ b.job.shadow = s.sched.nextShadow
      ∧ b.job.fail = none)
    ∧ (∃ h, tget t.xlt.shadows s.sched.nextShadow = some h ∧ h.context = x ∧ h.entries = d.entries ∧ h.course = false)) := by
  obtain ⟨f, htake, hprog⟩ := takeMsg_eq s k m
  rw [htake] at hxl
  obtain ⟨v, hadmit, hfab, hbulk, hshadow⟩ := admitBulk_accepts (m := asOp 0x0B m) (ctxAt_setCtx_self { s with fab := f } x _) herr hunits hxl
    hwin hfaults hformed
  have harrive := bulkArrive_of_accepted (s := { s with fab := f }) (m := asOp 0x0B m) hx hc hst htwin hpark hrefused hbar hadmit
  have hexec := (exec_bulkDesc hfresh htake).trans (congrArg Host.Outcome.next harrive)
  have halone : tget v.fab.inProgress (reqKey (asOp 0x0B m)) = none := by
    rw [hfab]
    exact (congrArg (fun p => tget p (reqKey m)) hprog).trans hfresh.alone
  have hserved := answer_served (s := v) halone (Resp.plain 0x55 sCOMPLETE 0 0 0)
  refine ⟨_, hexec, hserved.of_asOp.answered, ⟨_, (congrArg Sched.bulk hserved.sched).trans hbulk, rfl, rfl, rfl, rfl⟩,
    bulkShadow u x c.tenant d (asOp 0x0B m), ?_, rfl, rfl, rfl⟩
  rw [hserved.xlt]
  exact hshadow

end

end Sys2Proof.Machine
end

section
/-! PROOFS. Descriptors run and end (O33). -/

namespace Sys2Proof.Machine
open Sys2Proof

/-- Settles O33: each clause is one of the steps above, at a state that its hypotheses describe. -/
theorem descriptorsRunAndEnd : Obligations.DescriptorsRunAndEnd := by
  unfold Obligations.DescriptorsRunAndEnd
  refine ⟨fun s x c hc hsafe hgoing => ⟨?round, ?fill⟩, fun s x c e hctxs hsafe hout hplaced hleft hgot hplain hmirror => ⟨?endCourse, ?endBulk⟩,
    ?bulkDone, ?courseDone, ?drain, fun s k x m c hfresh hx hc hst htwin hpark hrefused => ⟨?refused, ?accepted⟩, ?revalidate⟩
  case round =>
    intro r ts hrun hmem hstop hfail hheld hcap htwin hflight hgates hts hne hentries
    subst hts
    exact tileStart_of_course hc hsafe hgoing hrun hmem ⟨hstop, hfail, hheld, hcap, htwin, hflight, hgates, hne, hentries⟩
  case fill =>
    intro b d h off len a _ hawake hbulk hx hd hop hh hspan hmore hflight hfail hheld htwin hsegs hkind _ hgates hentries hplaces hidle hclean
      hplain hin
    subst hd hh
    exact tileStart_of_fill hop hc hsafe hgoing ⟨hidle, hbulk⟩ hx ⟨hmore, hawake, hflight, hfail, hheld, htwin, hgates, hplaces, hentries⟩ hspan
      hclean hplain hin hkind hsegs
  case endCourse =>
    intro r hbulk hrun hflight htiles habove
    exact tileEnd_of_course ⟨hctxs, hrun, hbulk⟩ hsafe ⟨hout, hplaced, hleft, hgot, hplain⟩ hmirror hflight htiles habove
  case endBulk =>
    intro b hrun hbulk hx hflight htiles habove
    have hidle : ∀ p, p ∈ s.sched.ctxs → p.2.run = none := fun p hp => by
      rw [hctxs, List.mem_singleton] at hp
      rw [hp, hrun]
    exact tileEnd_of_bulk ⟨hidle, hbulk⟩ hx hsafe ⟨hout, hplaced, hleft, hgot, hplain⟩ hmirror hflight htiles habove
  case bulkDone =>
    intro s x a v c b h e hc hsafe hposts hbulk hx hrun hst htail hgoing hfail hflight hacks htiles htwin hsig hsh he hepoch hera ha hclean hplain hv
      hadd hlt
    subst hv
    exact descriptorComplete_of_bulk ⟨hc, hsafe, hposts, hbulk, hx, hrun, hst, htail, hgoing, hfail, hflight, hacks, htiles, htwin⟩
      ⟨hsig, hsh, he, hepoch, hera, ha⟩ hclean hplain (by rwa [Nat.mod_eq_of_lt hlt])
  case courseDone =>
    intro s u v x c c1 r hc hsafe hposts hrun hnext hpark hbulk hdone hgoing hst hphase hok hstop hover htail hwait hrec hc1 hadv hcu hcv hvbulk
    subst hc1
    exact descriptorComplete_of_course ⟨hc, hrun, hnext, hpark, hbulk, hdone, hgoing, hst, hphase, hok, hstop, hover, htail, hwait⟩ hrec hcu hadv hsafe
      hposts hcv hvbulk
  case drain =>
    intro s u x c hc hst hsafe hposts hbulk hrun hmore hdrain
    exact stoppedDescriptorDrain_drains hc hst hsafe hposts hbulk hrun hmore hdrain
  case refused =>
    intro w hbar
    exact bulkDesc_refused hfresh hx hc hst htwin hpark hrefused hbar
  case accepted =>
    intro u d hbar herr hunits hxl hwin hfaults hformed
    exact bulkDesc_accepted hfresh hx hc hst htwin hpark hrefused hbar herr hunits hxl hwin hfaults hformed
  case revalidate =>
    intro s x c r h hctxs hbulk hrun hheld hsh hera hfresh hlen
    exact revalidationDone_releases ⟨hctxs, hrun, hbulk⟩ hheld hsh hera hfresh hlen

end Sys2Proof.Machine
end

section
/-! PROOFS. Reads and writes of pool memory in clean stacks (O36). -/

namespace Sys2Proof.Machine
open Sys2Proof

/-- In clean stacks a read returns what memory holds. -/
theorem load_of_clean {s : State} (h : Clean s) (a n : Nat) : load s a n = (memRead s.mem a n, false, s) := by
  rw [load_of_sound h.sound, stored_of_undef h.undef]

/-- Settles O36: a read finds sound memory; a write within one extent puts its bytes, and the watch filter sees it. -/
theorem cleanStacksLoadAndStore : Obligations.CleanStacksLoadAndStore := by
  unfold Obligations.CleanStacksLoadAndStore
  refine fun s a h => ⟨fun n _ => load_of_clean h a n, fun b hp hin => ?_⟩
  have hout : ∀ x, x < a ∨ a + b.length ≤ x → memByte (memWrite s.mem a b) x = memByte s.mem x := fun x hx => memByte_memWrite_out _ _ _ hx
  by_cases hb : b = []
  · subst hb
    exact ⟨rfl, rfl, rfl, rfl, rfl, fun _ _ => rfl⟩
  · rw [store_of_plain h hp hb hin]
    exact ⟨rfl, rfl, rfl, rfl, rfl, hout⟩

end Sys2Proof.Machine
end

section
/-! PROOFS. Channels and their banks under updates, and the entry of accesses into a channel (R121 to R124, R128). -/

namespace Sys2Proof.Machine
open Sys2Proof

/-! ### Channels under updates -/

section
variable {s t : State}

theorem chan_congr (h : t.dram = s.dram) (n c : Nat) : chan t n c = chan s n c := by unfold chan; rw [h]

theorem chan_setChan_ne (s : State) (n : Nat) {c d : Nat} (k : Chan) (h : d ≠ c) : chan (setChan s n c k) n d = chan s n d := by
  rw [chan_setChan, if_neg (by omega)]

theorem setChan_setChan (s : State) (n c : Nat) (k k' : Chan) : setChan (setChan s n c k) n c k' = setChan s n c k' := by
  unfold setChan
  simp only [tset_tset_self]

theorem Clean.serves (h : Clean s) (n c : Nat) : ¬ ((chan s n c).st = 3 ∨ (chan s n c).st = 5) := by
  simpa [chanDown] using h.up n c

theorem Sound.setChan (h : Sound s) {n c : Nat} {k : Chan} (hst : k.st = (chan s n c).st)
    (hre : ∀ a, a ∈ k.rebuild → a ∈ (chan s n c).rebuild) : Sound (setChan s n c k) :=
  h.answersKeep (answersKeep_setChan s hst hre)

/-! ### Banks -/

/-- The banks of a channel after one of them was replaced. -/
theorem bankOf_putBank {n c : Nat} {k : Chan} (hk : k.banks = (chan s n c).banks) (b : Nat) (x : Bank) (b' : Nat) :
    bankOf (setChan s n c (putBank k b x)) n c b' = if b' = b then x else bankOf s n c b' := by
  have hset := tgetD_tset (chan s n c).banks b x (Bank.init s n (c / 32)) b'
  rw [← hk] at hset
  rw [bankOf, bankOf, chan_setChan_self, ← hk]
  exact hset

theorem bankOf_putBank_self {n c : Nat} {k : Chan} (hk : k.banks = (chan s n c).banks) (b : Nat) (x : Bank) :
    bankOf (setChan s n c (putBank k b x)) n c b = x := by
  rw [bankOf_putBank hk, if_pos rfl]

theorem bankOf_putBank_ne {n c : Nat} {k : Chan} (hk : k.banks = (chan s n c).banks) {b b' : Nat} (x : Bank) (h : b' ≠ b) :
    bankOf (setChan s n c (putBank k b x)) n c b' = bankOf s n c b' := by
  rw [bankOf_putBank hk, if_neg h]

/-- The banks of a channel whose other fields were replaced. -/
theorem bankOf_setChan {n c : Nat} {k : Chan} (hk : k.banks = (chan s n c).banks) (b : Nat) :
    bankOf (setChan s n c k) n c b = bankOf s n c b := by
  rw [bankOf, bankOf, chan_setChan_self, hk]
  rfl

/-! ### Entry (R121 to R124) -/

/-- An access that finds room, and that nothing holds at the crossing, enters. -/
theorem enterChan_of_room {n c : Nat} {a : Acc} (hroom : queueRoom (if a.write then (chan s n c).wq else (chan s n c).rq) a.input = true)
    (hcap : capOpen s = true) (hguard : guardShut s n a.input = false) (hheld : (chan s n c).held = []) :
    enterChan s n c a = if a.write then enterWrite s n c a else enterRead s n c a := by
  simp only [enterChan, hroom, hcap, hguard, hheld, Bool.true_or, Bool.and_true, Bool.not_false, List.any_nil, if_true]

/-- No queued write meets a granule that none of them is in. -/
theorem lastWrite_of_none {k : Chan} {g : Nat} (h : ∀ w, w ∈ k.wq → w.granule ≠ g) : lastWrite k g = none := by
  have hfilter : k.wq.filter (fun a => a.granule == g) = [] := List.filter_eq_nil_iff.2 fun w hw => by simpa using h w hw
  rw [lastWrite, hfilter]
  rfl

/-- A write of clean memory is applied, and queued as the last. -/
theorem enterWrite_of_clean {n c : Nat} {a : Acc} (h : Clean s) (hp : PlainExtent s a.ppa) (hb : a.data ≠ [])
    (hin : a.ppa % 2 ^ 30 + a.data.length ≤ 2 ^ 30) (hw : ∀ w, w ∈ (chan s n c).wq → w.granule ≠ a.granule) :
    ∃ sig drain, enterWrite s n c a = setChan { s with mem := memWrite s.mem a.ppa a.data, sig := sig } n c
      { chan s n c with cycle := max ((chan s n c).cycle + 1) (now s), drain := drain
                        wq := (chan s n c).wq ++ [{ a with entered := max ((chan s n c).cycle + 1) (now s) }] } := by
  have hserves := h.serves n c
  have hstore := store_of_plain h hp hb hin
  have hchan : chan (noteWatch (poke s a.ppa a.data) a.ppa a.data.length none) n c = chan s n c := chan_congr rfl n c
  have hlast : ∀ x d, lastWrite { chan s n c with cycle := x } (Acc.granule { a with entered := d }) = none :=
    fun _ _ => lastWrite_of_none hw
  simp only [enterWrite, hstore, hchan, hserves, if_false, hlast]
  exact ⟨_, _, rfl⟩

/-- A read of clean memory is queued as the last, with what memory holds. -/
theorem enterRead_of_clean {n c : Nat} {a : Acc} (h : Clean s) (hw : ∀ w, w ∈ (chan s n c).wq → w.granule ≠ a.granule) :
    ∃ bad, enterRead s n c a = setChan s n c { chan s n c with
      cycle := max ((chan s n c).cycle + 1) (now s)
      rq := (chan s n c).rq ++ [{ a with entered := max ((chan s n c).cycle + 1) (now s), data := memRead s.mem a.ppa a.len, bad := bad
                                         poison := false }] } := by
  have hserves := h.serves n c
  have hpoison : (linesOf a.ppa a.len).any (linePoisoned s) = false := List.any_eq_false.2 fun l _ => by
    rw [linePoisoned_of_sound h.sound]; exact Bool.false_ne_true
  have hlast : ∀ x, lastWrite { chan s n c with cycle := x } a.granule = none := fun _ => lastWrite_of_none hw
  simp only [enterRead, settleLine_of_sound h.sound, hserves, if_false, stored_of_undef h.undef, hpoison, hlast]
  exact ⟨_, rfl⟩

/-! ### The commands of entry -/

section
variable {n c i a : Nat} (hruns : chanRuns s n c = true) (hclean : Clean s) (hcap : capOpen s = true) (hguard : guardShut s n i = false)
  (hheld : (chan s n c).held = []) (hnew : ∀ w, w ∈ (chan s n c).wq → w.granule ≠ a / 256)
include hruns hclean hcap hguard hheld hnew

theorem channelWriteEntry_of_clean {b : List Byte} (hfits : accFits n c i a b.length = true) (hplain : PlainExtent s a)
    (hroom : queueRoom (chan s n c).wq i = true) :
    Completes (.channelWriteEntry n c i a b) s (fun t =>
      t.mem = memWrite s.mem a b ∧ (∀ x, x < a ∨ a + b.length ≤ x → memByte t.mem x = memByte s.mem x)
      ∧ (∃ w, (chan t n c).wq = (chan s n c).wq ++ [w] ∧ w.ppa = a ∧ w.data = b ∧ w.input = i
          ∧ w.entered = max ((chan s n c).cycle + 1) (now s))
      ∧ (chan t n c).rq = (chan s n c).rq ∧ SameRegs s t [] ∧ t.xlt = s.xlt) := by
  have hlen : 1 ≤ b.length ∧ a % 256 + b.length ≤ 256 := by
    simp only [accFits, Bool.and_eq_true, decide_eq_true_eq] at hfits
    obtain ⟨⟨⟨⟨⟨hpos, hgran⟩, _⟩, _⟩, _⟩, _⟩ := hfits
    exact ⟨hpos, hgran⟩
  have henter := enterChan_of_room (a := newAcc true i a b b.length) hroom hcap hguard hheld
  obtain ⟨sig, drain, hwrite⟩ := enterWrite_of_clean (n := n) (c := c) (a := newAcc true i a b b.length) hclean hplain
    (List.length_pos_iff.1 hlen.1) (show a % 2 ^ 30 + b.length ≤ 2 ^ 30 by omega) hnew
  have hexec : exec (.channelWriteEntry n c i a b) s = .next (enterWrite s n c (newAcc true i a b b.length)) := by
    simp only [exec, execChannelWriteEntry, hruns, hfits, Bool.and_self, if_true, henter]
    rfl
  rw [hwrite] at hexec
  refine ⟨_, hexec, rfl, fun x hx => memByte_memWrite_out _ _ _ hx, ?_⟩
  rw [chan_setChan_self]
  exact ⟨⟨_, rfl, rfl, rfl, rfl, rfl⟩, rfl, SameRegs.of_regs rfl _, rfl⟩

theorem channelReadEntry_of_clean {len : Nat} (hfits : accFits n c i a len = true) (hroom : queueRoom (chan s n c).rq i = true) :
    Completes (.channelReadEntry n c i a len) s (fun t =>
      (∃ r, (chan t n c).rq = (chan s n c).rq ++ [r] ∧ r.ppa = a ∧ r.data = memRead s.mem a len ∧ r.poison = false ∧ r.input = i)
      ∧ (chan t n c).wq = (chan s n c).wq ∧ SameRegs s t [] ∧ t.mem = s.mem) := by
  have henter := enterChan_of_room (a := newAcc false i a [] len) hroom hcap hguard hheld
  obtain ⟨bad, hread⟩ := enterRead_of_clean (a := newAcc false i a [] len) hclean hnew
  have hexec : exec (.channelReadEntry n c i a len) s = .next (enterRead s n c (newAcc false i a [] len)) := by
    simp only [exec, execChannelReadEntry, hruns, hfits, Bool.and_self, if_true, henter]
    rfl
  rw [hread] at hexec
  refine ⟨_, hexec, ?_⟩
  beta_reduce
  rw [chan_setChan_self]
  exact ⟨⟨_, rfl, rfl, rfl, rfl, rfl⟩, rfl, SameRegs.of_regs rfl _, rfl⟩

end

end

end Sys2Proof.Machine
end

section
/-! PROOFS. The scheduling of a channel, the answers to reads, and the timers of banks and of the queue (O37). -/

namespace Sys2Proof.Machine
open Sys2Proof

section
variable {s : State}

/-! ### One cycle of a channel (R126, R127, R129) -/

/-- A channel at the start of its cycle t. -/
def turnChan (s : State) (n c t : Nat) : Chan :=
  let k := refillBkg { chan s n c with cycle := t } t (stackHot s n (c / 32))
  { k with drain := drainMode s n (c / 32) t k }

/-- The start of a cycle sets the clock, the bucket of input BKG, and the mode. -/
theorem turnChan_eq (s : State) (n c t : Nat) :
    ∃ left at_ drain, turnChan s n c t = { chan s n c with cycle := t, bkgLeft := left, bkgAt := at_, drain := drain } := by
  unfold turnChan refillBkg
  dsimp only
  split <;> exact ⟨_, _, _, rfl⟩

theorem drainHigh_pos (s : State) (n st : Nat) : 0 < drainHigh s n st := by
  unfold drainHigh
  dsimp only
  split <;> omega

/-- Without writes the queue is in read mode. -/
theorem drainMode_of_no_writes {k : Chan} (h : k.wq = []) (n st t : Nat) : drainMode s n st t k = false := by
  have hpos := drainHigh_pos s n st
  simp only [drainMode, h, List.isEmpty_nil, Bool.true_or, Bool.not_true, Bool.and_false, Bool.false_and, Bool.or_false, List.length_nil]
  split
  · rfl
  · exact decide_eq_false (by omega)

theorem turnChan_drain {n c : Nat} (h : (chan s n c).wq = []) (t : Nat) : (turnChan s n c t).drain = false := by
  refine drainMode_of_no_writes ?_ n (c / 32) t
  unfold refillBkg
  split <;> exact h

/-- In TRACKING a cycle sends nothing (R141). -/
theorem execChannelSchedule_tracking {n c t : Nat} {k : Chan} (hruns : chanRuns s n c = true)
    (ht : t = max ((chan s n c).cycle + 1) (now s)) (hk : k = turnChan s n c t) (hst : k.st = 2) :
    exec (.channelSchedule n c) s = .next (setChan s n c k) := by
  subst ht
  have hoff : k.st ≠ 1 ∧ k.st ≠ 4 := by omega
  have hexec : exec (.channelSchedule n c) s = execChannelSchedule n c s := rfl
  rw [hexec, execChannelSchedule, hruns, if_neg (by decide)]
  extract_lets k0 t0 k1 k2 s1
  have hk2 : k2 = k := hk.symm
  have hs1 : s1 = setChan s n c k := hk ▸ rfl
  rw [hk2, if_pos hoff, hs1]

/-- The first command that the timing allows is sent, and then held accesses enter. -/
theorem execChannelSchedule_sends {n c t : Nat} {k : Chan} {q : DramCmd} {a : Option Acc} {rest : List (DramCmd × Option Acc)}
    (hruns : chanRuns s n c = true) (ht : t = max ((chan s n c).cycle + 1) (now s)) (hk : k = turnChan s n c t) (hst : k.st = 1)
    (hagain : k.again = none) (hfirst : candidates (setChan s n c k) n c t = (q, a) :: rest) (hok : timingOk k q = true) :
    exec (.channelSchedule n c) s = .next (releaseChan (sendCmd (setChan s n c k) n c q a) n c) := by
  subst ht
  have hon : ¬ (k.st ≠ 1 ∧ k.st ≠ 4) := fun h => h.1 hst
  have hfind : (candidates (setChan s n c k) n c (max ((chan s n c).cycle + 1) (now s))).find? (fun e => timingOk k e.1) = some (q, a) := by
    rw [hfirst]
    exact List.find?_cons_of_pos hok
  have hexec : exec (.channelSchedule n c) s = execChannelSchedule n c s := rfl
  rw [hexec, execChannelSchedule, hruns, if_neg (by decide)]
  extract_lets k0 t0 k1 k2 s1
  have hk2 : k2 = k := hk.symm
  have hs1 : s1 = setChan s n c k := hk ▸ rfl
  have ht0 : t0 = max ((chan s n c).cycle + 1) (now s) := rfl
  clear_value s1 k2 t0
  subst hk2 hs1 ht0
  rw [if_neg hon, hagain]
  simp only [hfind]

/-- Where nothing is held, the release leaves the channel as it is. -/
theorem releaseChan_setChan_of_none {n c : Nat} {k : Chan} (h : k.held = []) : releaseChan (setChan s n c k) n c = setChan s n c k := by
  simp only [releaseChan, chan_setChan_self, h, List.foldl_nil, setChan_setChan]
  rw [← h]

/-! ### A queue of one read -/

/-- A command that nothing came before keeps every gap. -/
theorem timingOk_of_no_cmds {k : Chan} (h : k.cmds = []) (q : DramCmd) : timingOk k q = true := by
  simp [timingOk, h]

/-- Nothing is served from an empty queue. -/
theorem eligible_of_empty {k : Chan} (hrq : k.rq = []) (hwq : k.wq = []) (n : Nat) : eligible s n k = [] := by
  simp [eligible, hrq, hwq]

theorem eligible_of_lone_read {k : Chan} {a : Acc} (hrq : k.rq = [a]) (hwq : k.wq = []) (hdrain : k.drain = false)
    (hcopy : k.copying = none) (hinput : a.input ≠ 7) (n : Nat) : eligible s n k = [a] := by
  simp [eligible, hrq, hwq, hdrain, hcopy, bkgAllowed, hinput]

theorem urgency_le_two (s : State) (n st t : Nat) (a : Acc) : urgency s n st t a ≤ 2 := by
  unfold urgency
  dsimp only
  split
  · omega
  · split <;> omega

/-- Where no refresh is forced, the one access that may be served comes first, whatever its urgency. -/
theorem candidates_of_lone {n c : Nat} {a : Acc} (t : Nat) (hel : eligible s n (chan s n c) = [a])
    (hdue : ∀ b, (bankOf s n c b).due < 8) : ∃ rest, candidates s n c t = (cmdFor s n c t a, some a) :: rest := by
  have hforced : (List.range 64).filter (fun b => decide (8 ≤ (bankOf s n c b).due)) = [] :=
    List.filter_eq_nil_iff.2 fun b _ => by simpa using hdue b
  have hurg : urgency s n (c / 32) t a = 0 ∨ urgency s n (c / 32) t a = 1 ∨ urgency s n (c / 32) t a = 2 := by
    have := urgency_le_two s n (c / 32) t a
    omega
  unfold candidates
  simp only [hforced, hel, List.map_nil, List.nil_append]
  rcases hurg with hu | hu | hu
  · cases hhit : rowHit s n c a <;> simp [hu, hhit]
  · cases hhit : rowHit s n c a <;> simp [hu, hhit]
  · simp [hu]

/-- A bank after training owes no refresh. -/
theorem bankInit_due_lt (s : State) (n st : Nat) : (Bank.init s n st).due < 8 := show (0 : Int) < 8 by decide

/-- In a cycle of a channel whose queue holds one read, and that owes no forced refresh, the read's command is sent. -/
theorem execChannelSchedule_of_lone_read {n c : Nat} {a : Acc} (hruns : chanRuns s n c = true) (hrq : (chan s n c).rq = [a])
    (hwq : (chan s n c).wq = []) (hcmds : (chan s n c).cmds = []) (hagain : (chan s n c).again = none) (hcopy : (chan s n c).copying = none)
    (hinput : a.input ≠ 7) (hst : (chan s n c).st = 1) (hdue : ∀ b, (bankOf s n c b).due < 8) :
    ∃ t left at_ drain k, k = { chan s n c with cycle := t, bkgLeft := left, bkgAt := at_, drain := drain }
      ∧ exec (.channelSchedule n c) s
        = .next (releaseChan (sendCmd (setChan s n c k) n c (cmdFor (setChan s n c k) n c t a) (some a)) n c) := by
  generalize ht : max ((chan s n c).cycle + 1) (now s) = t
  have hdrain := turnChan_drain hwq t
  obtain ⟨left, at_, drain, hturn⟩ := turnChan_eq s n c t
  refine ⟨t, left, at_, drain, turnChan s n c t, hturn, ?_⟩
  generalize hk : turnChan s n c t = k at hturn hdrain ⊢
  have hel : eligible (setChan s n c k) n (chan (setChan s n c k) n c) = [a] := by
    rw [chan_setChan_self]
    exact eligible_of_lone_read (by rw [hturn]; exact hrq) (by rw [hturn]; exact hwq) hdrain (by rw [hturn]; exact hcopy) hinput n
  have hdue' : ∀ b, (bankOf (setChan s n c k) n c b).due < 8 := fun b => by
    rw [bankOf_setChan (by rw [hturn])]
    exact hdue b
  obtain ⟨rest, hfirst⟩ := candidates_of_lone t hel hdue'
  exact execChannelSchedule_sends hruns ht.symm hk.symm (by rw [hturn]; exact hst) (by rw [hturn]; exact hagain) hfirst
    (timingOk_of_no_cmds (by rw [hturn]; exact hcmds) _)

/-! ### What the two commands of a read do -/

theorem cmdFor_of_closed {n c : Nat} {a : Acc} (h : (bankOf s n c (accBank a)).row = none) (t : Nat) :
    (cmdFor s n c t a).kind = 0 ∧ (cmdFor s n c t a).bank = accBank a := by
  simp [cmdFor, h]

theorem cmdFor_of_hit {n c : Nat} {a : Acc} (h : (bankOf s n c (accBank a)).row = some (accRow (chan s n c) a)) (hread : a.write = false)
    (t : Nat) : (cmdFor s n c t a).kind = 2 := by
  simp [cmdFor, rowHit, h, hread]

/-- An activate opens the row of its access. -/
theorem sendCmd_activate {n c : Nat} {q : DramCmd} (hq : q.kind = 0) (a : Acc) :
    ∃ x : Bank, x.row = some (accRow (chan s n c) a)
      ∧ sendCmd s n c q (some a) = setChan s n c (putBank (pushCmd (chan s n c) q) q.bank x) := by
  unfold sendCmd
  rw [hq]
  exact ⟨_, rfl, rfl⟩

/-- A read command takes its access from the queue and puts it in flight. -/
theorem sendCmd_read {n c : Nat} {q : DramCmd} (hq : q.kind = 2) (a : Acc) :
    ∃ k, sendCmd s n c q (some a) = setChan s n c k ∧ k.rq = (chan s n c).rq.erase a
      ∧ k.flight = (chan s n c).flight ++ [{ a with issued := q.cycle }] ∧ k.held = (chan s n c).held := by
  unfold sendCmd
  rw [hq]
  exact ⟨_, rfl, rfl, rfl, rfl⟩

section
variable {n c : Nat} {a : Acc} (hruns : chanRuns s n c = true) (hrq : (chan s n c).rq = [a]) (hwq : (chan s n c).wq = [])
  (hheld : (chan s n c).held = []) (hcmds : (chan s n c).cmds = []) (hagain : (chan s n c).again = none)
  (hcopy : (chan s n c).copying = none) (hinput : a.input ≠ 7) (hst : (chan s n c).st = 1)
include hruns hrq hwq hheld hcmds hagain hcopy hinput hst

theorem channelSchedule_activates (hbanks : (chan s n c).banks = []) :
    Completes (.channelSchedule n c) s (fun t =>
      (bankOf t n c (accBank a)).row = some (accRow (chan s n c) a) ∧ (chan t n c).rq = [a] ∧ (chan t n c).flight = (chan s n c).flight
      ∧ SameRegs s t [] ∧ t.mem = s.mem) := by
  have hinit : ∀ b, bankOf s n c b = Bank.init s n (c / 32) := fun b => by rw [bankOf, hbanks]; rfl
  obtain ⟨t, left, at_, drain, k, hk, hexec⟩ := execChannelSchedule_of_lone_read hruns hrq hwq hcmds hagain hcopy hinput hst
    fun b => by rw [hinit]; exact bankInit_due_lt s n _
  have hclosed : (bankOf (setChan s n c k) n c (accBank a)).row = none := by rw [bankOf_setChan (by rw [hk]), hinit]; rfl
  obtain ⟨hkind, hbank⟩ := cmdFor_of_closed hclosed t
  generalize cmdFor (setChan s n c k) n c t a = q at hexec hkind hbank
  obtain ⟨x, hrow, hsend⟩ := sendCmd_activate (s := setChan s n c k) (n := n) (c := c) hkind a
  rw [chan_setChan_self] at hrow hsend
  rw [hsend, setChan_setChan, releaseChan_setChan_of_none (by rw [hk]; exact hheld), hbank] at hexec
  refine ⟨_, hexec, ?_⟩
  beta_reduce
  rw [bankOf_putBank_self (by rw [hk]; rfl), chan_setChan_self, hrow, hk]
  exact ⟨rfl, hrq, rfl, SameRegs.of_regs rfl _, rfl⟩

theorem channelSchedule_reads {b : Bank} (hbanks : (chan s n c).banks = [(accBank a, b)]) (hopen : b.row = some (accRow (chan s n c) a))
    (hdue : b.due < 8) (hread : a.write = false) :
    Completes (.channelSchedule n c) s (fun t =>
      (chan t n c).rq = [] ∧ (∃ a', (chan t n c).flight = (chan s n c).flight ++ [a'] ∧ a'.ppa = a.ppa ∧ a'.data = a.data)
      ∧ SameRegs s t [] ∧ t.mem = s.mem) := by
  have hbank : ∀ x, bankOf s n c x = if x = accBank a then b else Bank.init s n (c / 32) := fun x => by
    rw [bankOf, hbanks, tgetD, tget]
    split <;> rfl
  obtain ⟨t, left, at_, drain, k, hk, hexec⟩ := execChannelSchedule_of_lone_read hruns hrq hwq hcmds hagain hcopy hinput hst fun x => by
    rw [hbank]
    split
    · exact hdue
    · exact bankInit_due_lt s n _
  have hhit : (bankOf (setChan s n c k) n c (accBank a)).row = some (accRow (chan (setChan s n c k) n c) a) := by
    rw [bankOf_setChan (by rw [hk]), hbank, if_pos rfl, hopen, chan_setChan_self, hk]
    rfl
  obtain ⟨k', hsend, hrq', hflight, hheld'⟩ := sendCmd_read (s := setChan s n c k) (n := n) (c := c) (cmdFor_of_hit hhit hread t) a
  rw [chan_setChan_self, hk] at hrq' hflight hheld'
  rw [hsend, setChan_setChan, releaseChan_setChan_of_none (hheld'.trans hheld)] at hexec
  refine ⟨_, hexec, ?_⟩
  beta_reduce
  rw [chan_setChan_self, hrq', hflight]
  exact ⟨by rw [hrq, List.erase_cons_head], ⟨_, rfl, rfl, rfl⟩, SameRegs.of_regs rfl _, rfl⟩

end

/-! ### READ_DECODE (R129, R130, R153) -/

/-- A read that still stands in sound memory needs no rebuild. -/
theorem needsRebuild_of_unchanged {a : Acc} (h : Sound s) (hu : unchanged s a = true) : needsRebuild a = false := by
  simp only [unchanged, Bool.and_eq_true, beq_iff_eq] at hu
  obtain ⟨_, hbad⟩ := hu
  rw [needsRebuild, ← hbad]
  refine List.any_eq_false.2 fun m hm => ?_
  obtain ⟨w, _, rfl⟩ := List.mem_map.1 hm
  simp [markOf, h.marks, tgetD]

/-- A read that still stands in clean memory is answered with what memory holds. -/
theorem decodeRead_of_unchanged {a : Acc} (h : Sound s) (hundef : s.dram.undef = []) (hu : unchanged s a = true) (n c : Nat) :
    decodeRead s n c a = (s, { a with data := memRead s.mem a.ppa a.len, poison := false }) := by
  rw [decodeRead, if_pos hu, load_of_sound h, stored_of_undef hundef]

theorem countLate_frame (s : State) (n c t : Nat) (a : Acc) :
    (countLate s n c t a).1.dram = s.dram ∧ (countLate s n c t a).1.mem = s.mem
      ∧ SameRegs s (countLate s n c t a).1 [Reg.STK_LATECNT n (c / 32) a.input] := by
  unfold countLate
  dsimp only
  split
  · exact ⟨rfl, rfl, sameRegs_bump s 1 (List.mem_singleton_self _)⟩
  · exact ⟨rfl, rfl, SameRegs.of_regs rfl _⟩

theorem readDecode_of_clean {n c : Nat} {a : Acc} {rest : List Acc} (hruns : chanRuns s n c = true) (hflight : (chan s n c).flight = a :: rest)
    (h : Clean s) (hu : unchanged s a = true) (hinj : bit (rg s (Reg.STK_INJ_CTL n (c / 32))) 15 = false) :
    Completes (.readDecode n c) s (fun t =>
      (chan t n c).flight = rest
      ∧ (∃ a', (chan t n c).done = a' :: (chan s n c).done ∧ a'.ppa = a.ppa ∧ a'.data = memRead s.mem a.ppa a.len ∧ a'.poison = false)
      ∧ SameRegs s t [Reg.STK_LATECNT n (c / 32) a.input] ∧ t.mem = s.mem) := by
  generalize ht : max (chan s n c).cycle (a.issued + 18 + a.bursts) = t
  generalize hu1 : setChan s n c { chan s n c with flight := rest, cycle := t } = u
  have hsound : Sound u := hu1 ▸ h.sound.setChan rfl fun _ => id
  have hundef : u.dram.undef = [] := hu1 ▸ h.undef
  have hchan : chan u n c = { chan s n c with flight := rest, cycle := t } := by rw [← hu1, chan_setChan_self]
  have hstill : unchanged u a = true := hu1 ▸ hu
  have hmem : u.mem = s.mem := hu1 ▸ rfl
  have hregs : u.regs = s.regs := hu1 ▸ rfl
  have hinj' : bit (rg u (Reg.STK_INJ_CTL n (c / 32))) 15 = false := by rw [rg_congr hregs]; exact hinj
  have hdecode := decodeRead_of_unchanged hsound hundef hstill n c
  obtain ⟨hdram, hmem', hcount⟩ := countLate_frame u n c t { a with data := memRead u.mem a.ppa a.len, poison := false }
  have hexec : ∃ late, exec (.readDecode n c) s
      = .next (setChan (countLate u n c t { a with data := memRead u.mem a.ppa a.len, poison := false }).1 n c
          { chan u n c with done := { a with data := memRead u.mem a.ppa a.len, poison := false, late := late } :: (chan u n c).done }) := by
    simp only [exec, execReadDecode, hruns, hflight, ht, hu1, hinj', needsRebuild_of_unchanged hsound hstill, hdecode, Bool.not_true,
      Bool.false_and, Bool.false_eq_true, if_false, chan_congr hdram]
    exact ⟨_, rfl⟩
  obtain ⟨late, hexec⟩ := hexec
  refine ⟨_, hexec, ?_⟩
  beta_reduce
  rw [chan_setChan_self, hchan]
  exact ⟨rfl, ⟨_, rfl, rfl, by rw [hmem], rfl⟩, fun x hx => (hcount x hx).trans (rg_congr hregs x), hmem'.trans hmem⟩

/-! ### The timers of the banks (R128, R131, R133) -/

/-- A precharge by the idle timer closes the row, and notes which and when. -/
theorem sendCmd_idle {n c b r t : Nat} (hrow : (bankOf s n c b).row = some r) (hdue : (bankOf s n c b).due < 8) :
    sendCmd s n c (bankCmd 1 b t) none
      = setChan s n c (putBank (pushCmd (chan s n c) (bankCmd 1 b t)) b { bankOf s n c b with row := none, closed := some (r, t) }) := by
  have hfew : ¬ 8 ≤ (bankOf s n c b).due := by omega
  simp only [sendCmd, bankCmd, hfew, if_false, hrow, Option.map_some]

section
variable {n c b : Nat} (hruns : chanRuns s n c = true) (hb : b < 64)
include hruns hb

theorem refreshDue_counts :
    Completes (.refreshDue n c b) s (fun t =>
      bankOf t n c b = { bankOf s n c b with due := (bankOf s n c b).due + 1 } ∧ (∀ b', b' ≠ b → bankOf t n c b' = bankOf s n c b')
      ∧ SameRegs s t [] ∧ t.mem = s.mem) := by
  have hexec : exec (.refreshDue n c b) s
      = .next (setChan s n c (putBank (chan s n c) b { bankOf s n c b with due := (bankOf s n c b).due + 1 })) := by
    simp only [exec, execRefreshDue, hruns, hb, decide_true, Bool.and_self, if_true]
  exact ⟨_, hexec, bankOf_putBank_self rfl _ _, fun b' h => bankOf_putBank_ne rfl _ h, SameRegs.of_regs rfl _, rfl⟩

theorem rfmThreshold_asks (hon : bit (rg s (Reg.STK_CTL n (c / 32))) 1 = true)
    (hacts : rf s (Reg.STK_CTL n (c / 32)) 9 2 ≤ (bankOf s n c b).acts) :
    Completes (.rfmThreshold n c b) s (fun t =>
      bankOf t n c b = { bankOf s n c b with rfm := true, acts := (bankOf s n c b).acts - rf s (Reg.STK_CTL n (c / 32)) 9 2 }
      ∧ (∀ b', b' ≠ b → bankOf t n c b' = bankOf s n c b') ∧ SameRegs s t [] ∧ t.mem = s.mem) := by
  have hexec : exec (.rfmThreshold n c b) s = .next (setChan s n c (putBank (chan s n c) b
      { bankOf s n c b with rfm := true, acts := (bankOf s n c b).acts - rf s (Reg.STK_CTL n (c / 32)) 9 2 })) := by
    unfold rf at hacts ⊢
    simp only [exec, execRfmThreshold, hruns, hb, hon, hacts, decide_true, Bool.and_self, if_true]
  exact ⟨_, hexec, bankOf_putBank_self rfl _ _, fun b' h => bankOf_putBank_ne rfl _ h, SameRegs.of_regs rfl _, rfl⟩

theorem bankIdleExpire_closes {r : Nat} (hrow : (bankOf s n c b).row = some r) (hdue : (bankOf s n c b).due < 8) (hrq : (chan s n c).rq = [])
    (hwq : (chan s n c).wq = []) (hcmds : (chan s n c).cmds = []) :
    Completes (.bankIdleExpire n c b) s (fun t =>
      (bankOf t n c b).row = none ∧ (∃ y, (bankOf t n c b).closed = some (r, y) ∧ (bankOf s n c b).last + (bankOf s n c b).idle ≤ y)
      ∧ (∀ b', b' ≠ b → bankOf t n c b' = bankOf s n c b') ∧ SameRegs s t [] ∧ t.mem = s.mem) := by
  generalize ht : max (chan s n c).cycle ((bankOf s n c b).last + (bankOf s n c b).idle) = t
  generalize hk : { chan s n c with cycle := t } = k
  have hbank : ∀ x, bankOf (setChan s n c k) n c x = bankOf s n c x := bankOf_setChan (by rw [← hk])
  have hel : eligible s n k = [] := eligible_of_empty (by rw [← hk]; exact hrq) (by rw [← hk]; exact hwq) n
  have htime : timingOk k (bankCmd 1 b t) = true := timingOk_of_no_cmds (by rw [← hk]; exact hcmds) _
  have hexec : exec (.bankIdleExpire n c b) s = .next (sendCmd (setChan s n c k) n c (bankCmd 1 b t) none) := by
    simp only [exec, execBankIdleExpire, ht, hk, hruns, hb, hrow, hel, htime, List.any_nil, decide_true, Option.isSome_some, Bool.not_false,
      Bool.and_self, if_true]
  rw [sendCmd_idle (s := setChan s n c k) (by rw [hbank]; exact hrow) (by rw [hbank]; exact hdue), chan_setChan_self, setChan_setChan,
    hbank] at hexec
  have hbanks : (pushCmd k (bankCmd 1 b t)).banks = (chan s n c).banks := by rw [← hk]; rfl
  refine ⟨_, hexec, ?_⟩
  beta_reduce
  rw [bankOf_putBank_self hbanks]
  exact ⟨rfl, ⟨t, rfl, by omega⟩, fun b' h => bankOf_putBank_ne hbanks _ h, SameRegs.of_regs rfl _, rfl⟩

end

/-! ### URGENCY_RISE (R127, R129) -/

/-- The next moment at which the urgency of the queue's one read rises: half of its target, then its target. -/
theorem execUrgencyRise_of_lone {n c g t : Nat} {a : Acc} (hruns : chanRuns s n c = true) (hrq : (chan s n c).rq = [a])
    (hwq : (chan s n c).wq = []) (hg : g = latTarget s n (c / 32) a.input) (hearly : (chan s n c).cycle < a.entered + g)
    (ht : t = if (chan s n c).cycle < a.entered + (g + 1) / 2 then a.entered + (g + 1) / 2 else a.entered + g) :
    ∃ drain, exec (.urgencyRise n c) s
      = .next (setChan s n c { chan s n c with cycle := t, rq := [{ a with urg := urgency s n (c / 32) t a }], wq := [], drain := drain }) := by
  subst hg
  by_cases hhalf : (chan s n c).cycle < a.entered + (latTarget s n (c / 32) a.input + 1) / 2
  · have hmin : min (a.entered + (latTarget s n (c / 32) a.input + 1) / 2) (a.entered + latTarget s n (c / 32) a.input) = t := by
      rw [ht, if_pos hhalf]
      omega
    simp only [exec, execUrgencyRise, hrq, hwq, List.append_nil, List.flatMap_cons, List.flatMap_nil, List.filter_cons, List.filter_nil, hhalf,
      hearly, decide_true, if_true, List.foldl_cons, List.foldl_nil, hmin, hruns, Bool.not_true, Bool.false_eq_true, if_false, List.map_cons,
      List.map_nil]
    exact ⟨_, rfl⟩
  · rw [if_neg hhalf] at ht
    rw [← ht] at hearly
    simp only [exec, execUrgencyRise, hrq, hwq, List.append_nil, List.flatMap_cons, List.flatMap_nil, List.filter_cons, List.filter_nil, hhalf,
      hearly, decide_true, decide_false, if_true, List.foldl_cons, List.foldl_nil, ← ht, hruns, Bool.not_true, Bool.false_eq_true, if_false,
      List.map_cons, List.map_nil]
    exact ⟨_, rfl⟩

/-- Half of the target passes between the two. -/
theorem urgency_at_half {n st t g : Nat} {a : Acc} (hg : g = latTarget s n st a.input) (hg2 : 2 ≤ g) (ht : t = a.entered + (g + 1) / 2) :
    urgency s n st t a = 1 := by
  rw [urgency, ← hg]
  rw [if_neg (by omega), if_pos (by omega)]

theorem urgency_at_target {n st t g : Nat} {a : Acc} (hg : g = latTarget s n st a.input) (hg2 : 2 ≤ g) (ht : t = a.entered + g) :
    urgency s n st t a = 2 := by
  rw [urgency, ← hg]
  rw [if_neg (by omega), if_neg (by omega)]

section
variable {n c g : Nat} {a : Acc} (hruns : chanRuns s n c = true) (hrq : (chan s n c).rq = [a]) (hwq : (chan s n c).wq = [])
  (hg : g = latTarget s n (c / 32) a.input) (hg2 : 2 ≤ g)
include hruns hrq hwq hg hg2

theorem urgencyRise_to_one (hbefore : (chan s n c).cycle < a.entered + (g + 1) / 2) :
    Completes (.urgencyRise n c) s (fun t =>
      (chan t n c).cycle = a.entered + (g + 1) / 2 ∧ (chan t n c).rq = [{ a with urg := 1 }] ∧ SameRegs s t [] ∧ t.mem = s.mem) := by
  obtain ⟨drain, hexec⟩ := execUrgencyRise_of_lone hruns hrq hwq hg (by omega) (if_pos hbefore).symm
  rw [urgency_at_half hg hg2 rfl] at hexec
  refine ⟨_, hexec, ?_⟩
  beta_reduce
  rw [chan_setChan_self]
  exact ⟨rfl, rfl, SameRegs.of_regs rfl _, rfl⟩

theorem urgencyRise_to_two (hhalf : a.entered + (g + 1) / 2 ≤ (chan s n c).cycle) (hbefore : (chan s n c).cycle < a.entered + g) :
    Completes (.urgencyRise n c) s (fun t =>
      (chan t n c).cycle = a.entered + g ∧ (chan t n c).rq = [{ a with urg := 2 }] ∧ SameRegs s t [] ∧ t.mem = s.mem) := by
  obtain ⟨drain, hexec⟩ := execUrgencyRise_of_lone hruns hrq hwq hg hbefore (if_neg (Nat.not_lt.2 hhalf)).symm
  rw [urgency_at_target hg hg2 rfl] at hexec
  refine ⟨_, hexec, ?_⟩
  beta_reduce
  rw [chan_setChan_self]
  exact ⟨rfl, rfl, SameRegs.of_regs rfl _, rfl⟩

end

/-! ### Cycles in TRACKING, and refused commands (R116, R141) -/

theorem channelSchedule_tracking {n c : Nat} (hruns : chanRuns s n c = true) (hst : (chan s n c).st = 2) :
    Completes (.channelSchedule n c) s (fun t =>
      (chan t n c).cmds = (chan s n c).cmds ∧ (chan t n c).rq = (chan s n c).rq ∧ (chan t n c).wq = (chan s n c).wq
      ∧ SameRegs s t [] ∧ t.mem = s.mem) := by
  obtain ⟨left, at_, drain, hturn⟩ := turnChan_eq s n c (max ((chan s n c).cycle + 1) (now s))
  refine ⟨_, execChannelSchedule_tracking hruns rfl rfl (by rw [hturn]; exact hst), ?_⟩
  beta_reduce
  rw [chan_setChan_self, hturn]
  exact ⟨rfl, rfl, rfl, SameRegs.of_regs rfl _, rfl⟩

theorem parityError_repeats {n c : Nat} (hruns : chanRuns s n c = true) :
    Completes (.commandAddressParityError n c) s (fun t =>
      chan t n c = { chan s n c with again := (chan s n c).cmds.head? } ∧ (∀ d, d ≠ c → chan t n d = chan s n d)
      ∧ SameRegs s t [] ∧ t.mem = s.mem) := by
  have hexec : exec (.commandAddressParityError n c) s
      = .next (setChan s n c { chan s n c with again := (chan s n c).cmds.head? }) := by
    simp only [exec, execCommandAddressParityError, hruns, if_true]
  exact ⟨_, hexec, chan_setChan_self _ _ _ _, fun d h => chan_setChan_ne _ _ _ h, SameRegs.of_regs rfl _, rfl⟩

end

/-- Settles O37: each clause is one of the steps above, at a state that its hypotheses describe. -/
theorem channelsQueueAndServe : Obligations.ChannelsQueueAndServe := by
  unfold Obligations.ChannelsQueueAndServe
  intro s n c st k hruns hk hst
  subst hk hst
  refine ⟨?write, ?read, ?schedule, channelSchedule_tracking hruns, ?decode, ?timers, ?urgency, parityError_repeats hruns⟩
  case write =>
    intro i a b hfits hclean hplain hroom hcap hguard hheld hnew
    exact channelWriteEntry_of_clean hruns hclean hcap hguard hheld hnew hfits hplain hroom
  case read =>
    intro i a len hfits hclean hroom hcap hguard hheld hnew
    exact channelReadEntry_of_clean hruns hclean hcap hguard hheld hnew hfits hroom
  case schedule =>
    intro a hrq hwq hheld hcmds hagain hcopy hinput hread hserves
    exact ⟨channelSchedule_activates hruns hrq hwq hheld hcmds hagain hcopy hinput hserves, fun b hbanks hopen hdue =>
      channelSchedule_reads hruns hrq hwq hheld hcmds hagain hcopy hinput hserves hbanks hopen hdue hread⟩
  case decode =>
    intro a rest hflight hclean hstill hinj _
    exact readDecode_of_clean hruns hflight hclean hstill hinj
  case timers =>
    intro b hb
    exact ⟨refreshDue_counts hruns hb, rfmThreshold_asks hruns hb, fun r hrow hdue hrq hwq hcmds =>
      bankIdleExpire_closes hruns hb hrow hdue hrq hwq hcmds⟩
  case urgency =>
    intro a g hrq hwq hg hg2
    exact ⟨urgencyRise_to_one hruns hrq hwq hg hg2, urgencyRise_to_two hruns hrq hwq hg hg2⟩

end Sys2Proof.Machine
end

section
/-! PROOFS. Temperature, tracking, training and sparing of channels, and the end of self-refresh (O38). -/

namespace Sys2Proof.Machine
open Sys2Proof

section
variable {s t : State}

/-! ### The temperature of a stack (R132, R147) -/

/-- A field reads as it did before a write of one that lies below. -/
theorem rf_rputF_above (s : State) (a v : Nat) {hi lo hi' lo' : Nat} (h : hi < lo') (h32 : hi' < 32) :
    rf (rputF s a hi lo v) a hi' lo' = rf s a hi' lo' := by
  refine Nat.eq_of_testBit_eq fun i => ?_
  rw [rf, rf, testBit_bits, testBit_bits, testBit_rg_rputF]
  by_cases hin : i < hi' + 1 - lo'
  · have hout : ¬ i + lo' ≤ hi := by omega
    have hw : i + lo' < 32 := by omega
    simp [hin, hout, hw]
  · simp [hin]

theorem stkCtl_ne_stkTemp (n st : Nat) : Reg.STK_CTL n st ≠ Reg.STK_TEMP n st := by
  unfold Reg.STK_CTL Reg.STK_TEMP
  omega

/-- The state after a reading, before it is compared. -/
def noteTemp (s : State) (x v : Nat) : State :=
  let u := rputF s (Reg.STK_TEMP (x / 4) (x % 4)) 7 0 (min v 255)
  { u with pwr := { s.pwr with stackTemp := tset s.pwr.stackTemp x v } }

theorem samePool_noteTemp (s : State) (x v : Nat) : SamePool s (noteTemp s x v) := ⟨rfl, rfl, rfl, rfl, rfl, rfl, rfl⟩

theorem sameRegs_rputF (s : State) (hi lo v : Nat) {a : Nat} {l : List Nat} (ha : a ∈ l) : SameRegs s (rputF s a hi lo v) l :=
  sameRegs_rput s _ ha

theorem sameRegs_noteTemp (s : State) (x v : Nat) :
    SameRegs s (noteTemp s x v) [Reg.STK_TEMP (x / 4) (x % 4), Reg.STK_CTL (x / 4) (x % 4)] :=
  sameRegs_rputF s 7 0 (min v 255) List.mem_cons_self

theorem rf_noteTemp (s : State) (x v : Nat) : rf (noteTemp s x v) (Reg.STK_TEMP (x / 4) (x % 4)) 7 0 = min v 255 :=
  (rf_rputF_self s _ (by decide) _).trans (Nat.mod_eq_of_lt (by omega))

theorem rf_noteTemp_limits (s : State) (x v : Nat) :
    rf (noteTemp s x v) (Reg.STK_TEMP (x / 4) (x % 4)) 15 8 = rf s (Reg.STK_TEMP (x / 4) (x % 4)) 15 8
      ∧ rf (noteTemp s x v) (Reg.STK_TEMP (x / 4) (x % 4)) 23 16 = rf s (Reg.STK_TEMP (x / 4) (x % 4)) 23 16 :=
  ⟨rf_rputF_above s _ _ (by decide) (by decide), rf_rputF_above s _ _ (by decide) (by decide)⟩

/-- Hot mode is entered at the upper threshold, and left at the lower one. -/
theorem execStackTempRead_eq {x v : Nat} (hx : x < 24) :
    exec (.stackTempRead x v) s = .next (
      if rf s (Reg.STK_TEMP (x / 4) (x % 4)) 15 8 ≤ v then rputF (noteTemp s x v) (Reg.STK_CTL (x / 4) (x % 4)) 0 0 1
      else if v ≤ rf s (Reg.STK_TEMP (x / 4) (x % 4)) 23 16 then rputF (noteTemp s x v) (Reg.STK_CTL (x / 4) (x % 4)) 0 0 0
      else noteTemp s x v) := by
  obtain ⟨hhigh, hlow⟩ := rf_noteTemp_limits s x v
  have hin : ¬ 24 ≤ x := Nat.not_le.2 hx
  have hexec : exec (.stackTempRead x v) s = execStackTempRead x v s := rfl
  rw [hexec, execStackTempRead, if_neg hin]
  extract_lets n st s1 p s2
  have hs2 : s2 = noteTemp s x v := rfl
  simp only [hs2, hhigh, hlow, n, st]
  split
  · rfl
  · split <;> rfl

/-- The reading stands whether or not the mode follows it. -/
theorem rf_temp_setHot (s : State) (x v w : Nat) :
    rf (rputF (noteTemp s x v) (Reg.STK_CTL (x / 4) (x % 4)) 0 0 w) (Reg.STK_TEMP (x / 4) (x % 4)) 7 0 = min v 255 := by
  rw [rf_rputF_ne _ _ _ _ _ _ (stkCtl_ne_stkTemp _ _).symm, rf_noteTemp]

theorem stackTempRead_follows (s : State) {x v : Nat} (hx : x < 24) :
    Completes (.stackTempRead x v) s (fun t =>
      rf t (Reg.STK_TEMP (x / 4) (x % 4)) 7 0 = min v 255
      ∧ (rf s (Reg.STK_TEMP (x / 4) (x % 4)) 15 8 ≤ v → rf t (Reg.STK_CTL (x / 4) (x % 4)) 0 0 = 1)
      ∧ (v < rf s (Reg.STK_TEMP (x / 4) (x % 4)) 15 8 → v ≤ rf s (Reg.STK_TEMP (x / 4) (x % 4)) 23 16 →
          rf t (Reg.STK_CTL (x / 4) (x % 4)) 0 0 = 0)
      ∧ (v < rf s (Reg.STK_TEMP (x / 4) (x % 4)) 15 8 → rf s (Reg.STK_TEMP (x / 4) (x % 4)) 23 16 < v →
          rg t (Reg.STK_CTL (x / 4) (x % 4)) = rg s (Reg.STK_CTL (x / 4) (x % 4)))
      ∧ SameRegs s t [Reg.STK_TEMP (x / 4) (x % 4), Reg.STK_CTL (x / 4) (x % 4)] ∧ SamePool s t) := by
  have hhot : ∀ w, w < 2 → rf (rputF (noteTemp s x v) (Reg.STK_CTL (x / 4) (x % 4)) 0 0 w) (Reg.STK_CTL (x / 4) (x % 4)) 0 0 = w :=
    fun w hw => (rf_rputF_self _ _ (by decide) _).trans (Nat.mod_eq_of_lt hw)
  have hregs : ∀ w, SameRegs s (rputF (noteTemp s x v) (Reg.STK_CTL (x / 4) (x % 4)) 0 0 w)
      [Reg.STK_TEMP (x / 4) (x % 4), Reg.STK_CTL (x / 4) (x % 4)] := fun w =>
    (sameRegs_noteTemp s x v).trans (sameRegs_rputF _ _ _ _ (by simp))
  have hpool : ∀ w, SamePool s (rputF (noteTemp s x v) (Reg.STK_CTL (x / 4) (x % 4)) 0 0 w) := fun w =>
    (samePool_noteTemp s x v).trans (samePool_rput _ _ _)
  refine ⟨_, execStackTempRead_eq hx, ?_⟩
  beta_reduce
  by_cases hhigh : rf s (Reg.STK_TEMP (x / 4) (x % 4)) 15 8 ≤ v
  · rw [if_pos hhigh]
    exact ⟨rf_temp_setHot s x v 1, fun _ => hhot 1 (by decide), fun h => by omega, fun h => by omega, hregs 1, hpool 1⟩
  · rw [if_neg hhigh]
    by_cases hlow : v ≤ rf s (Reg.STK_TEMP (x / 4) (x % 4)) 23 16
    · rw [if_pos hlow]
      exact ⟨rf_temp_setHot s x v 0, fun h => absurd h hhigh, fun _ _ => hhot 0 (by decide), fun _ h => by omega, hregs 0, hpool 0⟩
    · rw [if_neg hlow]
      exact ⟨rf_noteTemp s x v, fun h => absurd h hhigh, fun _ h => absurd h hlow, fun _ _ => rg_rput_ne _ _ (stkCtl_ne_stkTemp _ _),
        sameRegs_noteTemp s x v, samePool_noteTemp s x v⟩

/-! ### Tracking (R140, R141) -/

/-- Whether a stack tracks another channel depends on the states of the others alone. -/
theorem stackTracks_congr {n c : Nat} (h : ∀ d, d ≠ c → (chan t n d).st = (chan s n d).st) : stackTracks t n c = stackTracks s n c := by
  unfold stackTracks
  refine congrArg _ (funext fun d => ?_)
  by_cases hd : d = c
  · simp [hd]
  · rw [h d hd]

/-- A channel in service whose stack tracks no other enters TRACKING. -/
theorem startTracking_of_free {n c : Nat} (hst : (chan s n c).st = 1) (hfree : stackTracks s n c = false) :
    startTracking s n c = setChan s n c { chan s n c with st := 2, fails := 0 } := if_pos ⟨hst, hfree⟩

/-- What a trigger does before the channel's state is looked at: the clock runs to the moment, or the count of correctable words
starts again. -/
theorem execTrackingTrigger_eq {n c : Nat} (hruns : chanRuns s n c = true) :
    ∃ u, exec (.trackingTrigger n c) s
        = .next (if (chan s n c).st = 4 then setChan u n c { chan u n c with trackHeld := true } else startTracking u n c)
      ∧ (chan u n c).st = (chan s n c).st ∧ (∀ d, d ≠ c → chan u n d = chan s n d) ∧ u.xlt = s.xlt := by
  have hexec : exec (.trackingTrigger n c) s = execTrackingTrigger n c s := rfl
  rw [hexec, execTrackingTrigger, hruns, if_neg (by decide)]
  extract_lets k st cfg ce temp drift u
  refine ⟨u, ?_, ?_⟩
  · split <;> rfl
  · unfold u
    split
    · exact ⟨by rw [chan_setChan_self], fun d h => chan_setChan_ne _ _ _ h, rfl⟩
    · split
      · exact ⟨rfl, fun _ _ => rfl, rfl⟩
      · have hchan := fun d => chan_congr (reach_dram s (k.trackedAt + bits cfg 7 0 * 1000000)) n d
        exact ⟨by rw [hchan], fun d _ => hchan d, reach_xlt _ _⟩

section
variable {n c : Nat} (hruns : chanRuns s n c = true)
include hruns

theorem trackingTrigger_starts (hst : (chan s n c).st = 1) (hfree : stackTracks s n c = false) :
    Completes (.trackingTrigger n c) s (fun t =>
      (chan t n c).st = 2 ∧ (chan t n c).fails = 0 ∧ (∀ d, d ≠ c → chan t n d = chan s n d) ∧ t.xlt = s.xlt) := by
  obtain ⟨u, hexec, hst', hothers, hxlt⟩ := execTrackingTrigger_eq hruns
  have hfree' : stackTracks u n c = false := (stackTracks_congr fun d h => by rw [hothers d h]).trans hfree
  rw [if_neg (by omega), startTracking_of_free (hst'.trans hst) hfree'] at hexec
  refine ⟨_, hexec, ?_⟩
  beta_reduce
  rw [chan_setChan_self]
  exact ⟨rfl, rfl, fun d h => (chan_setChan_ne _ _ _ h).trans (hothers d h), hxlt⟩

theorem trackingTrigger_waits (hst : (chan s n c).st = 4) :
    Completes (.trackingTrigger n c) s (fun t =>
      (chan t n c).st = 4 ∧ (chan t n c).trackHeld = true ∧ (∀ d, d ≠ c → chan t n d = chan s n d) ∧ t.xlt = s.xlt) := by
  obtain ⟨u, hexec, hst', hothers, hxlt⟩ := execTrackingTrigger_eq hruns
  rw [if_pos hst] at hexec
  refine ⟨_, hexec, ?_⟩
  beta_reduce
  rw [chan_setChan_self]
  exact ⟨hst'.trans hst, rfl, fun d h => (chan_setChan_ne _ _ _ h).trans (hothers d h), hxlt⟩

end

/-! ### The loss of a channel (R141, R142) -/

/-- What a lost channel leaves as it was: registers, memory and translation, and whether the stacks are trained. -/
structure LossKeeps (s t : State) : Prop where
  regs : t.regs = s.regs
  mem : t.mem = s.mem
  xlt : t.xlt = s.xlt
  trained : t.dram.trained = s.dram.trained

theorem askHold_keeps (s : State) (n page who : Nat) :
    LossKeeps s (askHold s n page who) ∧ ∀ m d, chan (askHold s n page who) m d = chan s m d := by
  unfold askHold
  dsimp only
  split <;> exact ⟨⟨rfl, rfl, rfl, rfl⟩, fun _ _ => rfl⟩

theorem foldl_askHold_keeps (n : Nat) (l : List Acc) (s : State) :
    LossKeeps s (l.foldl (fun s a => askHold s n (pageOf a.ppa) 0) s)
      ∧ ∀ m d, chan (l.foldl (fun s a => askHold s n (pageOf a.ppa) 0) s) m d = chan s m d := by
  induction l generalizing s with
  | nil => exact ⟨⟨rfl, rfl, rfl, rfl⟩, fun _ _ => rfl⟩
  | cons a l ih =>
    obtain ⟨⟨hr, hm, hx, ht⟩, hc⟩ := askHold_keeps s n (pageOf a.ppa) 0
    obtain ⟨⟨hr', hm', hx', ht'⟩, hc'⟩ := ih (askHold s n (pageOf a.ppa) 0)
    exact ⟨⟨hr'.trans hr, hm'.trans hm, hx'.trans hx, ht'.trans ht⟩, fun m d => (hc' m d).trans (hc m d)⟩

/-- A lost channel has empty queues, and its reads wait for a rebuild. -/
theorem loseChannel_spec (s : State) (n c st : Nat) :
    LossKeeps s (loseChannel s n c st) ∧ (chan (loseChannel s n c st) n c).st = st ∧ (chan (loseChannel s n c st) n c).rq = []
      ∧ (chan (loseChannel s n c st) n c).wq = []
      ∧ (chan (loseChannel s n c st) n c).rebuild = (chan s n c).rebuild ++ ((chan s n c).rq ++ (chan s n c).flight) := by
  unfold loseChannel
  extract_lets k reads s1 d s2
  obtain ⟨⟨hr, hm, hx, ht⟩, hc⟩ := foldl_askHold_keeps n reads s2
  have hchan : chan s2 n c = chan s1 n c := rfl
  rw [hc, hchan, chan_setChan_self]
  exact ⟨⟨hr, hm, hx, ht⟩, rfl, rfl, rfl, rfl⟩

/-- A failed channel is reported, in the records of the Buttress alone. -/
theorem failChannel_spec (s : State) (n c : Nat) :
    (chan (failChannel s n c) n c).st = 5 ∧ (failChannel s n c).xlt = s.xlt ∧ (failChannel s n c).dram.trained = s.dram.trained := by
  obtain ⟨hkeeps, hst, _, _, _⟩ := loseChannel_spec s n c 5
  obtain ⟨hdram, hxlt, _⟩ := recordKept_report (loseChannel s n c 5) 0x0A 0x10 (4 * n + c / 32) (chanLocation n c) 0 none none
  exact ⟨by rw [failChannel, chan_congr hdram, hst], hxlt.trans hkeeps.xlt, by rw [failChannel, hdram, hkeeps.trained]⟩

/-! ### The ends of tracking, training and rebuild (R139 to R143) -/

section
variable {n c : Nat} (hruns : chanRuns s n c = true)
include hruns

theorem trackingDone_passes (hst : (chan s n c).st = 2) :
    Completes (.trackingDone n c true) s (fun t =>
      (chan t n c).st = 1 ∧ (chan t n c).tracks = min ((chan s n c).tracks + 1) 65535 ∧ (chan t n c).trackedAt = now s
      ∧ (∀ d, d ≠ c → chan t n d = chan s n d) ∧ SameRegs s t [] ∧ t.mem = s.mem) := by
  have hexec : ∃ temp, exec (.trackingDone n c true) s = .next (setChan s n c
      { chan s n c with st := 1, tracks := min ((chan s n c).tracks + 1) 65535, fails := 0, trackedAt := now s, trackedTemp := temp }) := by
    simp only [exec, execTrackingDone, hruns, hst, bne_self_eq_false, Bool.not_true, Bool.or_self, Bool.false_eq_true, if_false, if_true]
    exact ⟨_, rfl⟩
  obtain ⟨temp, hexec⟩ := hexec
  refine ⟨_, hexec, ?_⟩
  beta_reduce
  rw [chan_setChan_self]
  exact ⟨rfl, rfl, rfl, fun d h => chan_setChan_ne _ _ _ h, SameRegs.of_regs rfl _, rfl⟩

theorem trackingDone_fails (hst : (chan s n c).st = 2) (hfew : (chan s n c).fails < 2) :
    Completes (.trackingDone n c false) s (fun t =>
      chan t n c = { chan s n c with fails := (chan s n c).fails + 1 } ∧ SameRegs s t [] ∧ t.mem = s.mem) := by
  have hmore : (chan s n c).fails + 1 < 3 := by omega
  have hexec : exec (.trackingDone n c false) s = .next (setChan s n c { chan s n c with fails := (chan s n c).fails + 1 }) := by
    simp only [exec, execTrackingDone, hruns, hst, hmore, bne_self_eq_false, Bool.not_true, Bool.or_self, Bool.false_eq_true, if_false, if_true]
  exact ⟨_, hexec, chan_setChan_self _ _ _ _, SameRegs.of_regs rfl _, rfl⟩

/-- The third failure loses the channel (R141). -/
theorem trackingDone_loses (hst : (chan s n c).st = 2) (hfails : (chan s n c).fails = 2) :
    Completes (.trackingDone n c false) s (fun t =>
      (chan t n c).st = 3 ∧ (chan t n c).rq = [] ∧ (chan t n c).wq = []
      ∧ (chan t n c).rebuild = (chan s n c).rebuild ++ ((chan s n c).rq ++ (chan s n c).flight) ∧ SameRegs s t [] ∧ t.mem = s.mem) := by
  have hlast : ¬ (chan s n c).fails + 1 < 3 := by omega
  have hexec : exec (.trackingDone n c false) s = .next (loseChannel (setChan s n c { chan s n c with fails := 0 }) n c 3) := by
    simp only [exec, execTrackingDone, hruns, hst, hlast, bne_self_eq_false, Bool.not_true, Bool.or_self, Bool.false_eq_true, if_false]
  obtain ⟨hkeeps, hst', hrq, hwq, hrebuild⟩ := loseChannel_spec (setChan s n c { chan s n c with fails := 0 }) n c 3
  rw [chan_setChan_self] at hrebuild
  exact ⟨_, hexec, hst', hrq, hwq, hrebuild, SameRegs.of_regs hkeeps.regs _, hkeeps.mem⟩

theorem fullTrainingDone_passes (hst : (chan s n c).st = 3) :
    Completes (.fullTrainingDone n c true) s (fun t => (chan t n c).st = 4 ∧ SameRegs s t [] ∧ t.mem = s.mem) := by
  have hexec : ∃ losses, exec (.fullTrainingDone n c true) s = .next
      { setChan s n c { chan s n c with st := 4, banks := [] } with
        dram := { (setChan s n c { chan s n c with st := 4, banks := [] }).dram with losses := losses } } := by
    simp only [exec, execFullTrainingDone, hruns, hst, bne_self_eq_false, Bool.not_true, Bool.or_self, Bool.false_eq_true, if_false, if_true]
    exact ⟨_, rfl⟩
  obtain ⟨losses, hexec⟩ := hexec
  have hchan := congrArg Chan.st (chan_setChan_self s n c { chan s n c with st := 4, banks := [] })
  exact ⟨_, hexec, hchan, SameRegs.of_regs rfl _, rfl⟩

theorem fullTrainingDone_fails (hst : (chan s n c).st = 3) :
    Completes (.fullTrainingDone n c false) s (fun t => (chan t n c).st = 5 ∧ t.xlt = s.xlt) := by
  have hexec : exec (.fullTrainingDone n c false) s = .next (failChannel s n c) := by
    simp only [exec, execFullTrainingDone, hruns, hst, bne_self_eq_false, Bool.not_true, Bool.or_self, Bool.false_eq_true, if_false]
  obtain ⟨hfailed, hxlt, _⟩ := failChannel_spec s n c
  exact ⟨_, hexec, hfailed, hxlt⟩

/-- Where no seal disagrees with its page, a rebuild clears marks, and the channel serves again. -/
theorem execRebuildDone_eq (hst : (chan s n c).st = 4) (hseal : s.dram.sealErr = []) :
    ∃ u, u.regs = s.regs ∧ u.mem = s.mem ∧ (∀ d, chan u n d = chan s n d)
      ∧ exec (.rebuildDone n c) s = .next (if (chan s n c).trackHeld
          then startTracking (setChan u n c { chan s n c with st := 1, trackHeld := false }) n c
          else setChan u n c { chan s n c with st := 1, trackHeld := false }) := by
  have hexec : exec (.rebuildDone n c) s = execRebuildDone n c s := rfl
  have hgo : (!chanRuns s n c || (chan s n c).st != 4) = false := by rw [hruns, hst]; rfl
  rw [hexec, execRebuildDone, hgo, if_neg (by decide)]
  extract_lets mine skewed s1 kept own whole d0 d s2 k s3
  have hs1 : s1 = s := by
    unfold s1 skewed
    rw [hseal]
    rfl
  have hchan : ∀ x, chan s2 n x = chan s n x := fun x => by rw [← hs1]; rfl
  have hk : k = chan s n c := hchan c
  have hs3 : s3 = setChan s2 n c { chan s n c with st := 1, trackHeld := false } := by unfold s3; rw [hk]
  refine ⟨s2, by rw [← hs1], by rw [← hs1], hchan, ?_⟩
  rw [hs3, hk]
  split <;> rfl

theorem rebuildDone_serves (hst : (chan s n c).st = 4) (hseal : s.dram.sealErr = []) (hheld : (chan s n c).trackHeld = false) :
    Completes (.rebuildDone n c) s (fun t =>
      (chan t n c).st = 1 ∧ (chan t n c).trackHeld = false ∧ SameRegs s t [] ∧ t.mem = s.mem) := by
  obtain ⟨u, hregs, hmem, _, hexec⟩ := execRebuildDone_eq hruns hst hseal
  rw [hheld, if_neg (by decide)] at hexec
  refine ⟨_, hexec, ?_⟩
  beta_reduce
  rw [chan_setChan_self]
  exact ⟨rfl, rfl, SameRegs.of_regs hregs _, hmem⟩

/-- Tracking that waited for the rebuild starts at its end (R141). -/
theorem rebuildDone_tracks (hst : (chan s n c).st = 4) (hseal : s.dram.sealErr = []) (hheld : (chan s n c).trackHeld = true)
    (hfree : stackTracks s n c = false) :
    Completes (.rebuildDone n c) s (fun t =>
      (chan t n c).st = 2 ∧ (chan t n c).trackHeld = false ∧ SameRegs s t [] ∧ t.mem = s.mem) := by
  obtain ⟨u, hregs, hmem, hchan, hexec⟩ := execRebuildDone_eq hruns hst hseal
  generalize hk : ({ chan s n c with st := 1, trackHeld := false } : Chan) = k at hexec
  have hserves : (chan (setChan u n c k) n c).st = 1 := by rw [chan_setChan_self, ← hk]
  have hfree' : stackTracks (setChan u n c k) n c = false :=
    (stackTracks_congr fun d h => by rw [chan_setChan_ne _ _ _ h, hchan]).trans hfree
  rw [if_pos hheld, startTracking_of_free hserves hfree', chan_setChan_self] at hexec
  refine ⟨_, hexec, ?_⟩
  beta_reduce
  rw [chan_setChan_self, ← hk]
  exact ⟨rfl, rfl, SameRegs.of_regs hregs _, hmem⟩

/-! ### Row sparing (R145) -/

section
variable {b r : Nat} (hb : b < 64) (hr : r < 32640)
include hb hr

theorem rowSpare_copies (hleft : (bankOf s n c b).spares < 128) :
    Completes (.rowSpare n c b r) s (fun t => chan t n c = { chan s n c with copying := some (b, r) } ∧ SameRegs s t [] ∧ t.mem = s.mem) := by
  have hnot : ¬ 128 ≤ (bankOf s n c b).spares := Nat.not_le.2 hleft
  have hexec : exec (.rowSpare n c b r) s = .next (setChan s n c { chan s n c with copying := some (b, r) }) := by
    simp only [exec, execRowSpare, hruns, hb, hr, hnot, decide_true, Bool.and_self, if_true, if_false]
  exact ⟨_, hexec, chan_setChan_self _ _ _ _, SameRegs.of_regs rfl _, rfl⟩

theorem rowSpare_reports (hnone : 128 ≤ (bankOf s n c b).spares) :
    Completes (.rowSpare n c b r) s (fun t => chan t n c = chan s n c ∧ t.xlt = s.xlt) := by
  have hexec : exec (.rowSpare n c b r) s = .next (report s 0x09 0x10 (4 * n + c / 32) (chanLocation n c) 0 none none) := by
    simp only [exec, execRowSpare, hruns, hb, hr, hnone, decide_true, Bool.and_self, if_true]
  obtain ⟨hdram, hxlt, _⟩ := recordKept_report s 0x09 0x10 (4 * n + c / 32) (chanLocation n c) 0 none none
  exact ⟨_, hexec, chan_congr hdram n c, hxlt⟩

end

/-- In clean stacks no granule of the row needs a rebuild, and the copy is complete. -/
theorem rowCopyDone_remaps {b r : Nat} (hcopy : (chan s n c).copying = some (b, r)) (h : Clean s) :
    Completes (.rowCopyDone n c b r) s (fun t =>
      (chan t n c).copying = none ∧ tget (chan t n c).remap (b * 32768 + r) = some (32640 + (bankOf s n c b).spares)
      ∧ (bankOf t n c b).spares = (bankOf s n c b).spares + 1 ∧ t.xlt = s.xlt) := by
  have hfold : ∀ l : List Nat, l.foldl (fun s sl =>
      if granuleDirty s (slotPpa n c sl / 256) then fetchGranule s (slotPpa n c sl / 256) (List.range 32) else s) s = s :=
    List.foldl_fixed' fun sl => by rw [granuleDirty_of_sound h.sound]; rfl
  generalize hk : ({ putBank (chan s n c) b { bankOf s n c b with spares := (bankOf s n c b).spares + 1 } with
    copying := none, remap := tset (chan s n c).remap (b * 32768 + r) (32640 + (bankOf s n c b).spares) } : Chan) = k
  have hexec : exec (.rowCopyDone n c b r) s
      = .next (report (setChan s n c k) 0x08 0x10 (4 * n + c / 32) (chanLocation n c) 0 none none) := by
    rw [← hk]
    simp only [exec, execRowCopyDone, hruns, hcopy, beq_self_eq_true, Bool.and_self, if_true, hfold]
    rfl
  obtain ⟨hdram, hxlt, _⟩ := recordKept_report (setChan s n c k) 0x08 0x10 (4 * n + c / 32) (chanLocation n c) 0 none none
  have hchan := (chan_congr hdram n c).trans (chan_setChan_self s n c k)
  generalize report (setChan s n c k) 0x08 0x10 (4 * n + c / 32) (chanLocation n c) 0 none none = t at hexec hxlt hchan
  have hbank : bankOf t n c b = { bankOf s n c b with spares := (bankOf s n c b).spares + 1 } := by
    unfold bankOf at hk ⊢
    rw [hchan, ← hk]
    exact tgetD_tset_self _ _ _ _
  refine ⟨t, hexec, ?_⟩
  beta_reduce
  rw [hbank, hchan, ← hk]
  exact ⟨rfl, tget_tset_self _ _ _, rfl, hxlt⟩

end

/-! ### Start-up training (R138, R139) -/

/-- The stacks once start-up training has ended. -/
def trainStacks (s : State) : State := { s with dram := { s.dram with trained := true } }

theorem execStackTrainingDone_eq (ht : s.dram.trained = false) (hboot : rf s Reg.PLN_BOOT 3 0 = 1) (failed : List Nat) :
    exec (.stackTrainingDone failed) s
      = .next ((failed.filter (fun x => decide (x < 768))).foldl (fun s x => failChannel s (x / 128) (x % 128)) (trainStacks s)) := by
  have hgo : ¬ (s.dram.trained = true ∨ rf s Reg.PLN_BOOT 3 0 ≠ 1) := by simp [ht, hboot]
  exact if_neg hgo

theorem stackTrainingDone_fails_one (ht : s.dram.trained = false) (hboot : rf s Reg.PLN_BOOT 3 0 = 1) {x : Nat} (hx : x < 768) :
    Completes (.stackTrainingDone [x]) s (fun t =>
      t.dram.trained = true ∧ (chan t (x / 128) (x % 128)).st = 5 ∧ t.xlt = s.xlt) := by
  have hexec := execStackTrainingDone_eq ht hboot [x]
  have hone : [x].filter (fun x => decide (x < 768)) = [x] := List.filter_cons_of_pos (decide_eq_true hx)
  obtain ⟨hfailed, hxlt, htrained⟩ := failChannel_spec (trainStacks s) (x / 128) (x % 128)
  rw [hone, List.foldl_cons, List.foldl_nil] at hexec
  exact ⟨_, hexec, htrained, hfailed, hxlt⟩

/-! ### The end of self-refresh (R136, R146) -/

/-- What the tracking pass of the channels leaves as it was. -/
structure PassKeeps (s t : State) : Prop where
  regs : t.regs = s.regs
  mem : t.mem = s.mem
  dies : t.dram.dies = s.dram.dies
  undef : t.dram.undef = s.dram.undef

/-- The tracking pass of one channel as its stack leaves self-refresh. -/
def passChan (n : Nat) (s : State) (c : Nat) : State :=
  let k := chan s n c
  if k.st = 1 then setChan s n c { k with tracks := min (k.tracks + 1) 65535, trackedAt := now s } else s

theorem passChan_keeps (n : Nat) (s : State) (c : Nat) : PassKeeps s (passChan n s c) := by
  unfold passChan
  dsimp only
  split <;> exact ⟨rfl, rfl, rfl, rfl⟩

theorem foldl_passChan_keeps (n : Nat) (l : List Nat) (s : State) : PassKeeps s (l.foldl (passChan n) s) :=
  ⟨foldl_keeps State.regs _ (fun u c => (passChan_keeps n u c).regs) l s, foldl_keeps State.mem _ (fun u c => (passChan_keeps n u c).mem) l s,
    foldl_keeps (fun u => u.dram.dies) _ (fun u c => (passChan_keeps n u c).dies) l s,
    foldl_keeps (fun u => u.dram.undef) _ (fun u c => (passChan_keeps n u c).undef) l s⟩

/-- The die as it is in service again, with what the mask left out undefined. -/
theorem exitSelfRefresh_eq (s : State) (n : Nat) :
    ∃ u, exitSelfRefresh s n = (List.range 128).foldl (passChan n) u ∧ u.regs = s.regs ∧ u.mem = s.mem
      ∧ (∀ j, sealDie u j = if j = n then { sealDie s n with selfRefresh := false, unmasked := [] } else sealDie s j)
      ∧ ∀ e, e ∈ (sealDie s n).unmasked → e ∈ u.dram.undef := by
  unfold exitSelfRefresh
  extract_lets d es s1 keep draws old d0 s2
  exact ⟨s2, rfl, rfl, rfl, sealDie_setSealDie s n { sealDie s n with selfRefresh := false, unmasked := [] },
    fun e he => List.mem_append_right old he⟩

theorem selfRefreshExitDone_serves {n : Nat} (hn : n < 6) (hself : (sealDie s n).selfRefresh = true)
    (hresume : s.mbx.deferred.any (fun d => d.wait == .poolResume) = true) :
    Completes (.selfRefreshExitDone n) s (fun t =>
      (sealDie t n).selfRefresh = false ∧ (∀ e, e ∈ (sealDie s n).unmasked → e ∈ t.dram.undef)
      ∧ (∀ j, j ≠ n → sealDie t j = sealDie s j) ∧ SameRegs s t [] ∧ t.mem = s.mem) := by
  have hexec : exec (.selfRefreshExitDone n) s = .next (exitSelfRefresh s n) := by
    simp only [exec, execSelfRefreshExitDone, hn, hself, hresume, and_self, if_true]
  obtain ⟨u, hexit, hregs, hmem, hdie, hundef⟩ := exitSelfRefresh_eq s n
  obtain ⟨hregs', hmem', hdies, hundef'⟩ := foldl_passChan_keeps n (List.range 128) u
  rw [← hexit] at hregs' hmem' hdies hundef'
  generalize exitSelfRefresh s n = t at hexec hregs' hmem' hdies hundef'
  have hsame : ∀ j, sealDie t j = sealDie u j := fun j => by unfold sealDie; rw [hdies]
  refine ⟨t, hexec, ?_, fun e he => ?_, fun j hj => ?_, SameRegs.of_regs (hregs'.trans hregs) _, hmem'.trans hmem⟩
  · rw [hsame, hdie, if_pos rfl]
  · rw [hundef']
    exact hundef e he
  · rw [hsame, hdie, if_neg hj]

end

/-- Settles O38: each clause is one of the steps above, at a state that its hypotheses describe. -/
theorem channelsTrainTrackAndSpare : Obligations.ChannelsTrainTrackAndSpare := by
  unfold Obligations.ChannelsTrainTrackAndSpare
  refine ⟨fun s x v hx => stackTempRead_follows s hx, ?channels, fun s ht hboot => ⟨?trained, fun x hx => stackTrainingDone_fails_one ht hboot hx⟩,
    fun s n hn hself hresume => selfRefreshExitDone_serves hn hself hresume⟩
  case channels =>
    intro s n c k hruns hk
    subst hk
    refine ⟨trackingTrigger_starts hruns, trackingTrigger_waits hruns, fun hst => ⟨trackingDone_passes hruns hst, trackingDone_fails hruns hst,
      trackingDone_loses hruns hst⟩, fun hst => ⟨fullTrainingDone_passes hruns hst, fullTrainingDone_fails hruns hst⟩, fun hst hseal =>
      ⟨rebuildDone_serves hruns hst hseal, rebuildDone_tracks hruns hst hseal⟩, fun b r hb hr => ⟨rowSpare_copies hruns hb hr,
      rowSpare_reports hruns hb hr, rowCopyDone_remaps hruns⟩⟩
  case trained => exact ⟨_, execStackTrainingDone_eq ht hboot [], rfl, SameRegs.of_regs rfl _, rfl⟩

end Sys2Proof.Machine
end

section
/-! PROOFS. The registers of armed injection, their writes and INJECT (O40). -/

namespace Sys2Proof.Machine
open Sys2Proof

/-! ### Fields of the words that are written -/

theorem testBit_setBit (w n : Nat) (b : Bool) (i : Nat) : (setBit w n b).testBit i = if i = n then b else w.testBit i := by
  rw [setBit, testBit_setBits]
  by_cases h : i = n
  · subst h
    rw [if_pos ⟨Nat.le_refl i, Nat.le_refl i⟩, if_pos rfl, Nat.sub_self]
    exact testBit_zero_b2n b
  · have hout : ¬ (n ≤ i ∧ i ≤ n) := by omega
    rw [if_neg hout, if_neg h]

/-- A field depends on its own bits alone. -/
theorem bits_congr {v w hi lo : Nat} (h : ∀ i, lo ≤ i → i ≤ hi → v.testBit i = w.testBit i) : bits v hi lo = bits w hi lo := by
  refine Nat.eq_of_testBit_eq fun i => ?_
  rw [testBit_bits, testBit_bits]
  by_cases hi' : i < hi + 1 - lo
  · rw [h (i + lo) (by omega) (by omega)]
  · simp [hi']

/-- MODE is a field of two bits, so it is 0 or 3 where it is neither 1 nor 2. -/
theorem mode_idle (v : Nat) : (bits v 14 13 == 0 || bits v 14 13 == 3) = !(bits v 14 13 == 1 || bits v 14 13 == 2) := by
  have hlt : bits v 14 13 < 4 := Nat.mod_lt _ (by decide)
  generalize bits v 14 13 = m at hlt
  revert m
  decide

/-- The mask of a write has weight 1 or 2 (R179). -/
def InjMask (v : Nat) : Prop := popcount 8 (bits v 7 0) = 1 ∨ popcount 8 (bits v 7 0) = 2

/-- Setting PAR leaves the mask as it was. -/
theorem InjMask.setPar {v : Nat} (h : InjMask v) : InjMask (setBit v 15 true) := by
  have hmask : bits (setBit v 15 true) 7 0 = bits v 7 0 := bits_congr fun i _ hi => by
    rw [testBit_setBit, if_neg (by omega)]
  unfold InjMask
  rwa [hmask]

/-! ### STK_INJ_CTL (R179, R182) -/

/-- The fields that a write of STK_INJ_CTL sets over those that the register held, DONE aside. -/
def injFields (old v : Nat) : Nat := setBit (bits v 29 0) 15 (bit v 15 || bit old 15)

/-- DONE stays unless MODE becomes 1 or 2. -/
def keepsDone (old v : Nat) : Bool := bit old 31 && !(bits v 14 13 == 1 || bits v 14 13 == 2)

theorem testBit_injFields (old v i : Nat) :
    (injFields old v).testBit i = if i = 15 then bit v 15 || bit old 15 else decide (i < 30) && v.testBit i := by
  rw [injFields, testBit_setBit, testBit_bits]
  rfl

theorem injFields_lt (old v : Nat) : injFields old v < 2 ^ 30 :=
  Nat.lt_pow_two_of_testBit _ fun i hi => by
    rw [testBit_injFields, if_neg (by omega), decide_eq_false (by omega), Bool.false_and]

theorem testBit_add_done {w : Nat} (hw : w < 2 ^ 30) (d : Bool) (i : Nat) :
    (w + b2n d * 2 ^ 31).testBit i = if i < 31 then w.testBit i else (b2n d).testBit (i - 31) := by
  rw [Nat.add_comm, Nat.mul_comm, Nat.testBit_two_pow_mul_add _ (by omega)]

section
variable {n st v : Nat} (s : State)

theorem writeInjCtl_of_mask (hn : n < 6) (hst : st < 4) (hmask : InjMask v) :
    writeInjCtl s n st v = rput s (Reg.STK_INJ_CTL n st) (injFields (rg s (Reg.STK_INJ_CTL n st)) v
      + b2n (keepsDone (rg s (Reg.STK_INJ_CTL n st)) v) * 2 ^ 31) := by
  have hok : ¬ (6 ≤ n ∨ 4 ≤ st ∨ popcount 8 (bits v 7 0) ≠ 1 ∧ popcount 8 (bits v 7 0) ≠ 2) := by
    unfold InjMask at hmask
    omega
  unfold writeInjCtl injFields keepsDone
  simp only [hok, if_false, mode_idle]

theorem writeInjCtl_of_bad_mask (h1 : popcount 8 (bits v 7 0) ≠ 1) (h2 : popcount 8 (bits v 7 0) ≠ 2) : writeInjCtl s n st v = s :=
  if_pos (Or.inr (Or.inr ⟨h1, h2⟩))

/-- What a write of STK_INJ_CTL sets when its mask is accepted, and what it leaves. -/
structure InjCtlSet (s t : State) (a v : Nat) : Prop where
  fields : ∀ i, i < 30 → i ≠ 15 → (rg t a).testBit i = v.testBit i
  par : bit (rg t a) 15 = (bit v 15 || bit (rg s a) 15)
  done : bit (rg t a) 31 = (bit (rg s a) 31 && !(bits v 14 13 == 1 || bits v 14 13 == 2))
  regs : SameRegs s t [a]
  pool : SamePool s t
  rest : SameRest s t

theorem writeInjCtl_sets (hn : n < 6) (hst : st < 4) (hmask : InjMask v) :
    InjCtlSet s (writeInjCtl s n st v) (Reg.STK_INJ_CTL n st) v := by
  rw [writeInjCtl_of_mask s hn hst hmask]
  generalize Reg.STK_INJ_CTL n st = a
  have hread : ∀ i, i < 32 → (rg (rput s a (injFields (rg s a) v + b2n (keepsDone (rg s a) v) * 2 ^ 31)) a).testBit i
      = if i < 31 then (injFields (rg s a) v).testBit i else (b2n (keepsDone (rg s a) v)).testBit (i - 31) := fun i hi => by
    rw [rg_rput_self, Nat.testBit_mod_two_pow, testBit_add_done (injFields_lt _ _), decide_eq_true hi, Bool.true_and]
  refine ⟨fun i hi hne => ?fields, ?par, ?done, sameRegs_rput s _ (List.mem_singleton_self a), samePool_rput s _ _, sameRest_rput s _ _⟩
  case fields => rw [hread i (by omega), if_pos (by omega), testBit_injFields, if_neg hne, decide_eq_true hi, Bool.true_and]
  case par => exact (hread 15 (by decide)).trans (testBit_injFields _ _ 15)
  case done => exact (hread 31 (by decide)).trans (testBit_zero_b2n _)

end

/-! ### SEA_INJ_CTL (R180, R183) -/

section
variable {n : Nat} (s : State) (v : Nat)

theorem writeSeaInj_of_die (hn : n < 6) :
    writeSeaInj s n v = rput s (Reg.SEA_INJ_CTL n) (setBit (bits v 14 0) 15 (bit v 15 || bit (rg s (Reg.SEA_INJ_CTL n)) 15)) :=
  if_neg (by omega)

/-- A write of SEA_INJ_CTL sets the fields below ARM, and a 1 sets ARM. -/
theorem writeSeaInj_sets (hn : n < 6) :
    bit (rg (writeSeaInj s n v) (Reg.SEA_INJ_CTL n)) 15 = (bit v 15 || bit (rg s (Reg.SEA_INJ_CTL n)) 15)
      ∧ rf (writeSeaInj s n v) (Reg.SEA_INJ_CTL n) 14 0 = bits v 14 0
      ∧ SameRegs s (writeSeaInj s n v) [Reg.SEA_INJ_CTL n] ∧ SamePool s (writeSeaInj s n v) ∧ SameRest s (writeSeaInj s n v) := by
  rw [writeSeaInj_of_die s v hn]
  refine ⟨?arm, ?fields, sameRegs_rput s _ (List.mem_singleton_self _), samePool_rput s _ _, sameRest_rput s _ _⟩
  case arm =>
    unfold bit
    rw [rg_rput_self, Nat.testBit_mod_two_pow, testBit_setBit, if_pos rfl, decide_eq_true (by decide), Bool.true_and]
  case fields =>
    refine bits_congr fun i _ hi => ?_
    have hlow : i < 14 + 1 - 0 := by omega
    rw [rg_rput_self, Nat.testBit_mod_two_pow, testBit_setBit, if_neg (by omega), testBit_bits, decide_eq_true hlow,
      decide_eq_true (by omega), Bool.true_and, Bool.true_and]
    rfl

end

/-! ### INJECT (R455) -/

theorem stkInjSlot_ne_stkInjCtl (n st : Nat) : Reg.STK_INJ_SLOT n st ≠ Reg.STK_INJ_CTL n st := by
  unfold Reg.STK_INJ_SLOT Reg.STK_INJ_CTL
  omega

theorem seaInjPage_ne_seaInjCtl (n : Nat) : Reg.SEA_INJ_PAGE n ≠ Reg.SEA_INJ_CTL n := by
  unfold Reg.SEA_INJ_PAGE Reg.SEA_INJ_CTL
  omega

section
variable {s : State} {slot : Nat} {tag : Word32} {n st w0 w1 : Word64} (hrun : MayRun s slot 0x0802 tag) (hn : n.toNat < 6)
include hrun hn

theorem inject_stack (hst : st.toNat < 4) (h0 : onlyBits w0 0xBFFFFFFF = true) (h1 : onlyBits w1 0xFFFFFF = true)
    (hmask : InjMask w0.toNat) :
    Completes (.inject slot tag n st w0 w1) s (fun t =>
      (∀ i, i < 30 → i ≠ 15 → (rg t (Reg.STK_INJ_CTL n.toNat st.toNat)).testBit i = w0.toNat.testBit i)
      ∧ rg t (Reg.STK_INJ_SLOT n.toNat st.toNat) = w1.toNat ∧ Replied t slot 0x0802 tag stOK []
      ∧ SameRegs s t [Reg.STK_INJ_CTL n.toNat st.toNat, Reg.STK_INJ_SLOT n.toNat st.toNat] ∧ SamePool s t) := by
  have hne : st ≠ 4#64 := fun h => absurd hst (by rw [h]; decide)
  have hbad : (!atMost n 5 || !atMost st 4 || !(if st = 4#64 then onlyBits w0 0xFFFF && onlyBits w1 0x7FFFFFF
      else onlyBits w0 0xBFFFFFFF && onlyBits w1 0xFFFFFF)) = false := by
    simp [atMost, Nat.le_of_lt_succ hn, Nat.le_of_lt hst, hne, h0, h1]
  refine completes_query rfl hbad hrun fun m => ⟨_, _, _, if_neg hne, ?_⟩
  have hset := writeInjCtl_sets (rput { s with mbx := m } (Reg.STK_INJ_SLOT n.toNat st.toNat) w1.toNat) hn hst hmask
  refine ⟨fun i hi hi15 => by rw [rg_reply_ok]; exact hset.fields i hi hi15, ?slot, ⟨_, rfl⟩, SameRegs.reply ?regs,
    SamePool.reply ((samePool_mbx s m).trans ((samePool_rput _ _ _).trans hset.pool))⟩
  case slot =>
    rw [rg_reply_ok, hset.regs _ (by simpa using stkInjSlot_ne_stkInjCtl _ _), rg_rput_self,
      Nat.mod_eq_of_lt (toNat_lt_of_onlyBits (by decide) h1)]
  case regs => exact SameRegs.trans (sameRegs_rput { s with mbx := m } _ (by simp)) (hset.regs.mono (by simp))

theorem inject_seal (hst : st.toNat = 4) (h0 : onlyBits w0 0xFFFF = true) (h1 : onlyBits w1 0x7FFFFFF = true) :
    Completes (.inject slot tag n st w0 w1) s (fun t =>
      rf t (Reg.SEA_INJ_CTL n.toNat) 14 0 = bits w0.toNat 14 0 ∧ rg t (Reg.SEA_INJ_PAGE n.toNat) = w1.toNat
      ∧ Replied t slot 0x0802 tag stOK [] ∧ SameRegs s t [Reg.SEA_INJ_CTL n.toNat, Reg.SEA_INJ_PAGE n.toNat] ∧ SamePool s t) := by
  obtain rfl : st = 4#64 := BitVec.eq_of_toNat_eq hst
  have hbad : (!atMost n 5 || !atMost 4#64 4 || !(if 4#64 = 4#64 then onlyBits w0 0xFFFF && onlyBits w1 0x7FFFFFF
      else onlyBits w0 0xBFFFFFFF && onlyBits w1 0xFFFFFF)) = false := by
    simp [atMost, Nat.le_of_lt_succ hn, h0, h1]
  refine completes_query rfl hbad hrun fun m => ⟨_, _, _, if_pos rfl, ?_⟩
  obtain ⟨-, hfields, hregs, hpool, -⟩ :=
    writeSeaInj_sets (rput { s with mbx := m } (Reg.SEA_INJ_PAGE n.toNat) w1.toNat) w0.toNat hn
  refine ⟨(rf_reply_ok ..).trans hfields, ?page, ⟨_, rfl⟩, SameRegs.reply ?regs,
    SamePool.reply ((samePool_mbx s m).trans ((samePool_rput _ _ _).trans hpool))⟩
  case page =>
    rw [rg_reply_ok, hregs _ (by simpa using seaInjPage_ne_seaInjCtl _), rg_rput_self,
      Nat.mod_eq_of_lt (toNat_lt_of_onlyBits (by decide) h1)]
  case regs => exact SameRegs.trans (sameRegs_rput { s with mbx := m } _ (by simp)) (hregs.mono (by simp))

end

/-- Settles O40: every command that arms an injection is one write of the register that it names. -/
theorem injectionIsArmedByWrites : Obligations.InjectionIsArmedByWrites := by
  unfold Obligations.InjectionIsArmedByWrites
  refine ⟨fun s n st v hn hst => ⟨fun hmask => ⟨?ctl, ?par⟩, fun h1 h2 => ?refused⟩, fun s n v hn => ?arm,
    fun s slot tag n st w0 w1 hrun hn => ⟨fun hst h0 h1 hmask => inject_stack hrun hn hst h0 h1 (Or.inl hmask),
      fun hst h0 h1 => inject_seal hrun hn hst h0 h1⟩⟩
  case ctl =>
    obtain ⟨hfields, hpar, hdone, hregs, hpool, hrest⟩ := writeInjCtl_sets s hn hst hmask
    exact ⟨_, rfl, hfields, hpar, hdone, hregs, hpool, hrest⟩
  case par =>
    obtain ⟨hfields, hpar, -, hregs, hpool, hrest⟩ := writeInjCtl_sets s hn hst (InjMask.setPar hmask)
    refine ⟨_, rfl, hpar.trans ?_, fun i hi hne => (hfields i hi hne).trans ?_, hregs, hpool, hrest⟩
    · unfold bit
      rw [testBit_setBit, if_pos rfl, Bool.true_or]
    · rw [testBit_setBit, if_neg hne]
  case refused => exact ⟨_, rfl, writeInjCtl_of_bad_mask s h1 h2⟩
  case arm =>
    obtain ⟨harm, hfields, hframe⟩ := writeSeaInj_sets s (setBit v.toNat 15 true) hn
    refine ⟨_, rfl, harm.trans ?_, hfields.trans (bits_congr fun i _ hi => ?_), hframe⟩
    · unfold bit
      rw [testBit_setBit, if_pos rfl, Bool.true_or]
    · rw [testBit_setBit, if_neg (by omega)]

end Sys2Proof.Machine
end

section
/-! PROOFS. Diagnostics on the pool: POISON_WRITE, MEMTEST and RECOVERY_READ (O41). -/

namespace Sys2Proof.Machine
open Sys2Proof

/-! ### A word repeated -/

/-- A 64-bit word written n times over; what it holds is said by `getD_wordFill`. -/
@[irreducible] def wordFill (n w : Nat) : List Byte := (List.range n).flatMap fun _ => leBytes 8 w

theorem wordFill_eq (n w : Nat) : wordFill n w = (List.range n).flatMap fun _ => leBytes 8 w := by
  unfold wordFill
  rfl

theorem wordFill_succ (n w : Nat) : wordFill (n + 1) w = wordFill n w ++ leBytes 8 w := by
  simp [wordFill_eq, List.range_succ]

theorem length_wordFill (n w : Nat) : (wordFill n w).length = 8 * n := by
  induction n with
  | zero => rw [wordFill_eq]; rfl
  | succ n ih => rw [wordFill_succ, List.length_append, ih, length_leBytes, Nat.mul_succ]

theorem getD_wordFill {n i : Nat} (w : Nat) (hi : i < 8 * n) : (wordFill n w).getD i 0#8 = BitVec.ofNat 8 (w / 256 ^ (i % 8)) := by
  induction n with
  | zero => omega
  | succ n ih =>
    rw [wordFill_succ]
    by_cases hin : i < 8 * n
    · rw [List.getD_append _ _ _ _ (by rwa [length_wordFill]), ih hin]
    · rw [List.getD_append_right _ _ _ _ (by rw [length_wordFill]; omega), length_wordFill, getD_leBytes (by omega)]
      have hidx : i - 8 * n = i % 8 := by omega
      rw [hidx]

theorem leNat_leBytes (n v : Nat) : leNat (leBytes n v) = v % 256 ^ n := by
  induction n generalizing v with
  | zero => simp [leBytes, leNat, Nat.mod_one]
  | succ n ih =>
    have hpow : 256 ^ (n + 1) = 256 * 256 ^ n := Nat.pow_succ'
    have hbyte : (BitVec.ofNat 8 v).toNat = v % 256 := BitVec.toNat_ofNat v 8
    rw [leBytes, leNat, ih, hbyte, hpow, Nat.mod_mul]

/-- Any word of the fill reads as the word. -/
theorem memRead_wordFill (m : Tab Byte) (w : Nat) {a k n : Nat} (hk : k < n) :
    memRead (memWrite m a (wordFill n w)) (a + 8 * k) 8 = leBytes 8 w := by
  refine List.ext_getElem (by simp [memRead, length_leBytes]) fun i hi _ => ?_
  have hi8 : i < 8 := by simpa [memRead] using hi
  have hin : a ≤ a + 8 * k + i ∧ a + 8 * k + i < a + (wordFill n w).length := by rw [length_wordFill]; omega
  have hidx : a + 8 * k + i - a = 8 * k + i := by omega
  have hmod : (8 * k + i) % 8 = i := by omega
  simp only [memRead, List.getElem_map, List.getElem_range]
  rw [memByte_memWrite, if_pos hin, hidx, getD_wordFill w (by omega), hmod, ← getD_leBytes hi8, List.getD_eq_getElem]

/-! ### Marks and poisoned lines (R168, R169) -/

section
variable {s : State}

theorem markOf_setMark (s : State) (k m x : Nat) : markOf (setMark s k m) x = if x = k then m else markOf s x := by
  unfold markOf setMark tgetD
  by_cases hm : m = 0
  · subst hm
    simp only [if_true, tget_tdel]
    split <;> rfl
  · simp only [hm, if_false, tget_tset]
    split <;> rfl

/-- The words of a line, each marked with 0xFF. -/
def markLine (s : State) (line : Nat) : State := (List.range 16).foldl (fun s i => setMark s (line * 16 + i) 0xFF) s

theorem markLine_marks (s : State) (line : Nat) : ∃ ms, markLine s line = { s with dram := { s.dram with marks := ms } } := by
  refine List.foldlRecOn (motive := fun t : State => ∃ ms, t = { s with dram := { s.dram with marks := ms } }) _ _ ⟨_, rfl⟩ ?_
  rintro _ ⟨ms, rfl⟩ i -
  exact ⟨_, rfl⟩

theorem markOf_markLine (s : State) (line x : Nat) : markOf (markLine s line) x = if x / 16 = line then 0xFF else markOf s x := by
  have hmap : markLine s line = ((List.range 16).map (line * 16 + ·)).foldl (fun s k => setMark s k 0xFF) s := by
    rw [List.foldl_map, markLine]
  have hmem : x ∈ (List.range 16).map (line * 16 + ·) ↔ x / 16 = line := by
    simp only [List.mem_map, List.mem_range]
    exact ⟨fun ⟨i, hi, hx⟩ => by omega, fun hx => ⟨x % 16, by omega, by omega⟩⟩
  rw [hmap]
  split
  next hx =>
    exact foldl_read_of_idem (read := markOf) (g := fun _ _ => 0xFF) (fun s k x => markOf_setMark s k 0xFF x) (fun _ _ => rfl) s
      (hmem.2 hx)
  next hx =>
    exact foldl_read_of_not_mem (read := markOf) (g := fun _ _ => 0xFF) (fun s k x => markOf_setMark s k 0xFF x) s
      fun h => hx (hmem.1 h)

/-- The poison marker stands in this line and in no other: its data, and the marks of its words (R168). -/
structure MarkerAt (t : State) (line : Nat) : Prop where
  marks : ∀ k, markOf t k = if k / 16 = line then 0xFF else 0
  undef : t.dram.undef = []
  data : ∀ k, k < 16 → memRead t.mem (line * 128 + 8 * k) 8 = leBytes 8 poisonWord

theorem decodeWord_marker : decodeWord 0xFF poisonWord = .poison := by decide +kernel

/-- Exactly the words of the marker's line decode as poison (R153). -/
theorem MarkerAt.wordIs {t : State} {line : Nat} (h : MarkerAt t line) (k : Nat) :
    wordIs t k = if k / 16 = line then .poison else .clean := by
  unfold Machine.wordIs
  rw [h.marks]
  split
  next hk =>
    have hword : storedWord t k = poisonWord := by
      have haddr : 8 * k = line * 128 + 8 * (k % 16) := by omega
      rw [storedWord, stored_of_undef h.undef, haddr, h.data _ (Nat.mod_lt _ (by decide)), leNat_leBytes]
      decide
    rw [hword]
    exact decodeWord_marker
  next => rfl

theorem MarkerAt.linePoisoned {t : State} {line : Nat} (h : MarkerAt t line) (l : Nat) : linePoisoned t l = true ↔ l = line := by
  have hdiv : ∀ i, i < 16 → (l * 16 + i) / 16 = l := fun i hi => by omega
  unfold Machine.linePoisoned
  rw [List.any_eq_true]
  refine ⟨fun ⟨i, hi, hword⟩ => ?_, fun hl => ⟨0, by decide, ?_⟩⟩
  · rw [h.wordIs, hdiv i (List.mem_range.1 hi)] at hword
    by_contra hne
    rw [if_neg hne] at hword
    exact absurd hword (by decide)
  · rw [h.wordIs, hdiv 0 (by decide), if_pos hl]
    rfl

/-- A seal is written as it stands where no injection is armed and no page is SEAL_STALE. -/
theorem writeSeal_of_disarmed (hinj : ∀ n, bit (rg s (Reg.SEA_INJ_CTL n)) 15 = false) (hstale : s.dram.stale = []) (page : Nat) :
    writeSeal s page = s := by
  simp only [writeSeal, hinj, Bool.false_and, Bool.false_eq_true, if_false, hstale, List.filter_nil]
  rw [← hstale]

/-- The marker over a line changes that line and the marks of its words. -/
theorem poisonLine_of_undef (h : s.dram.undef = []) (line : Nat) :
    ∃ ms, poisonLine s line = { s with mem := memWrite s.mem (line * 128) (wordFill 16 poisonWord), dram := { s.dram with marks := ms } }
      ∧ ∀ k, tgetD ms k 0 = if k / 16 = line then 0xFF else markOf s k := by
  have hline : poisonLine s line = markLine (poke s (line * 128) (wordFill 16 poisonWord)) line := by
    rw [poisonLine, ← wordFill_eq, rawStore_of_undef h]
    rfl
  obtain ⟨ms, hms⟩ := markLine_marks (poke s (line * 128) (wordFill 16 poisonWord)) line
  have hmark := markOf_markLine (poke s (line * 128) (wordFill 16 poisonWord)) line
  rw [hline]
  rw [hms] at hmark ⊢
  exact ⟨ms, rfl, hmark⟩

/-- The marker over a line of a plain extent is written as it stands, and the watch filter sees it (R168, R171). -/
theorem storePoison_of_plain {line : Nat} (h : Clean s) (hp : PlainExtent s (line * 128)) :
    ∃ ms sig, storePoison s line
        = { s with mem := memWrite s.mem (line * 128) (wordFill 16 poisonWord), dram := { s.dram with marks := ms }, sig := sig }
      ∧ ∀ k, tgetD ms k 0 = if k / 16 = line then 0xFF else 0 := by
  obtain ⟨ms, hline, hmarks⟩ := poisonLine_of_undef h.undef line
  have hclean : ∀ k, markOf s k = 0 := fun k => by rw [markOf, h.marks]; rfl
  generalize hu : poisonLine s line = u at hline
  have hplain : PlainExtent u (line * 128) := hp.of_xlt (by rw [hline])
  have hinj : ∀ n, bit (rg u (Reg.SEA_INJ_CTL n)) 15 = false := fun n => by
    rw [rg_congr (s := s) (by rw [hline]), h.injSea]
  have hstale : u.dram.stale = [] := by rw [hline]; exact h.stale
  have hstore : storePoison s line = noteWatch u (line * 128) 128 none := by
    simp only [storePoison, settleLine_of_sound h.sound, hu, noteMigration_of_none hplain.still, noteDirty_of_unmirrored hplain.mirrored,
      writeSeal_of_disarmed hinj hstale]
  exact ⟨ms, (noteWatch u (line * 128) 128 none).sig, by rw [hstore, hline]; rfl, fun k => by rw [hmarks, hclean]⟩

/-- What holds the marker's bytes over a line and its marks, and no other mark, holds the marker there. -/
theorem markerAt_of_marks {t : State} {m : Tab Byte} {ms : Tab Nat} {line : Nat} (hmem : t.mem = memWrite m (line * 128) (wordFill 16 poisonWord))
    (hms : t.dram.marks = ms) (hundef : t.dram.undef = []) (hmarks : ∀ k, tgetD ms k 0 = if k / 16 = line then 0xFF else 0) :
    MarkerAt t line :=
  ⟨fun k => by rw [markOf, hms, hmarks], hundef, fun _ hk => by rw [hmem, memRead_wordFill m poisonWord hk]⟩

end

/-! ### POISON_WRITE (R455) -/

section
variable {s : State} {slot : Nat} {tag : Word32} {a : Word64} (hrun : MayRun s slot 0x0803 tag)
include hrun

theorem poisonWrite_marks (hclean : Clean s) (hplain : PlainExtent s a.toNat) (hext : extOf a.toNat < 2880)
    (hres : reservedExt (extOf a.toNat) = false) (hready : (extRec s (extOf a.toNat)).st = exREADY) :
    Completes (.poisonWrite slot tag a) s (fun t =>
      (∀ l, linePoisoned t l = true ↔ l = a.toNat / 128)
      ∧ memRead t.mem (a.toNat / 128 * 128) 128 = (List.range 16).flatMap (fun _ => leBytes 8 poisonWord)
      ∧ (∀ x, x / 128 ≠ a.toNat / 128 → memByte t.mem x = memByte s.mem x)
      ∧ Replied t slot 0x0803 tag stOK [] ∧ SameRegs s t [] ∧ t.xlt = s.xlt ∧ t.sched = s.sched) := by
  refine completes_query rfl rfl hrun fun m => ?_
  have hok : ¬ (2880 ≤ extOf a.toNat ∨ reservedExt (extOf a.toNat) = true
      ∨ (extRec { s with mbx := m } (extOf a.toNat)).st ≠ exREADY) := by
    rw [hres, extRec_congr (t := { s with mbx := m }) (s := s) rfl, hready]
    simpa using hext
  have hagent : agentLine { s with mbx := m } (a.toNat / 128) true = (true, { s with mbx := m }) :=
    agentLine_of_plain (s := { s with mbx := m }) (hplain.of_xlt rfl) true
  obtain ⟨ms, sig, hstore, hmarks⟩ := storePoison_of_plain (s := { s with mbx := m }) (line := a.toNat / 128)
    (hclean.of_dram_regs rfl rfl) ((hplain.of_extOf (extOf_line _)).of_xlt rfl)
  refine ⟨storePoison { s with mbx := m } (a.toNat / 128), stOK, [], ?effect, ?_⟩
  case effect => simp only [hok, if_false, hagent, if_true, Rep.ok]
  rw [hstore]
  have hmem := memRead_memWrite s.mem (a.toNat / 128 * 128) (wordFill 16 poisonWord)
  have hout : ∀ x, x / 128 ≠ a.toNat / 128 →
      memByte (memWrite s.mem (a.toNat / 128 * 128) (wordFill 16 poisonWord)) x = memByte s.mem x := fun x hx =>
    memByte_memWrite_out _ _ _ (by rw [length_wordFill]; omega)
  refine ⟨(markerAt_of_marks (m := s.mem) (ms := ms) ?_ ?_ ?_ hmarks).linePoisoned, ?_, fun x hx => ?_, ⟨_, rfl⟩,
    SameRegs.reply (SameRegs.of_regs rfl []), reply_xlt .., reply_sched ..⟩
  · rw [reply_mem]
  · rw [reply_dram]
  · rw [reply_dram]
    exact hclean.undef
  · rw [reply_mem, ← wordFill_eq]
    rwa [length_wordFill] at hmem
  · rw [reply_mem]
    exact hout x hx

theorem poisonWrite_refuses (hready : (extRec s (extOf a.toNat)).st ≠ exREADY) :
    Completes (.poisonWrite slot tag a) s (fun t => Replied t slot 0x0803 tag stINVALID [] ∧ SameRegs s t [] ∧ SamePool s t) :=
  completes_query rfl rfl hrun fun m => ⟨{ s with mbx := m }, stINVALID, [], if_pos (Or.inr (Or.inr hready)), ⟨_, rfl⟩,
    SameRegs.reply (sameRegs_mbx s m []), SamePool.reply (samePool_mbx s m)⟩

end

/-! ### MEMTEST (R455) -/

/-- A command that concerns this module alone, and whose effect is deferred (R436). -/
theorem completes_query_defer {c : Instr} {s : State} {slot op : Nat} {tag : Word32} {bad : Bool} {k : State → State × Rep}
    {P : State → Prop} (hc : exec c s = .next (runCmd slot op tag bad s k)) (hbad : bad = false) (h : MayRun s slot op tag)
    (hr : DeferRoom s) (hk : ∀ m, m.deferred = s.mbx.deferred → ∃ u b w, k { s with mbx := m } = (u, .defer b w)
      ∧ ∀ m', m'.deferred = u.mbx.deferred ++ [{ slot := slot, opcode := op, tag := tag, wait := w }] →
        P (reply { u with mbx := m' } slot op tag stDEFERRED b)) : Completes c s P := by
  obtain ⟨m, hm, hd⟩ := dequeue_eq_mbx s slot tag
  obtain ⟨u, b, w, hu, hP⟩ := hk m hd
  refine ⟨_, ?_, hP { u.mbx with deferred := u.mbx.deferred ++ [{ slot := slot, opcode := op, tag := tag, wait := w }] } rfl⟩
  rw [hc, hbad, runCmd_eq h, hm, hu]
  exact congrArg _ (if_neg (Nat.not_le.2 hr))

theorem memtest_defers {s : State} {slot : Nat} {tag : Word32} {n c0 c1 p : Word64} (hrun : MayRun s slot 0x0801 tag)
    (hroom : DeferRoom s) (hn : n.toNat < 6) :
    Completes (.memtest slot tag n c0 c1 p) s (fun t =>
      t.mbx.deferred = s.mbx.deferred
        ++ [{ slot := slot, opcode := 0x0801, tag := tag, wait := .memtest n.toNat (c0.toNat + 2 ^ 64 * c1.toNat) p.toNat }]
      ∧ Replied t slot 0x0801 tag stDEFERRED [] ∧ SameRegs s t [] ∧ SamePool s t) := by
  have hbad : (!atMost n 5) = false := by simp [atMost, Nat.le_of_lt_succ hn]
  refine completes_query_defer rfl hbad hrun hroom fun m hm => ⟨_, _, _, rfl, fun m' hm' => ?_⟩
  refine ⟨?_, ⟨_, rfl⟩, SameRegs.reply (sameRegs_mbx s m' []), SamePool.reply (samePool_mbx s m')⟩
  rw [reply_mbx_deferred, ← hm]
  exact hm'

/-- The byte of a 64-bit pattern that lies at an address. -/
def patternByte (p x : Nat) : Byte := BitVec.ofNat 8 (p / 256 ^ (x % 8))

theorem memByte_patternGranule (m : Tab Byte) (p : Nat) {a : Nat} (ha : a % 8 = 0) (x : Nat) :
    memByte (memWrite m a (wordFill 32 p)) x = if a ≤ x ∧ x < a + 256 then patternByte p x else memByte m x := by
  rw [memByte_memWrite, length_wordFill]
  split
  next hx =>
    have hmod : (x - a) % 8 = x % 8 := by omega
    rw [getD_wordFill p (by omega), hmod, patternByte]
  next => rfl

/-- A granule lies on one channel (R43). -/
theorem chanOf_granule {a x : Nat} (ha : a % 256 = 0) (hlo : a ≤ x) (hhi : x < a + 256) : chanOf x = chanOf a := by
  have hgranule : x / 256 = a / 256 := by omega
  have hpage : x / 4096 = a / 4096 := by omega
  unfold chanOf pageOf
  rw [hgranule, hpage]

/-- The pattern over one granule, where its channel is selected. -/
theorem patternGranule_spec (chans p : Nat) {a : Nat} (ha : a % 256 = 0) {s : State} (hclean : Clean s) (hplain : PlainExtent s a) :
    ∃ mem sig, (if bit chans (chanOf a) then (store s a ((List.range 32).flatMap fun _ => leBytes 8 p)).2 else s)
        = { s with mem := mem, sig := sig }
      ∧ ∀ x, memByte mem x
        = if a ≤ x ∧ x < a + 256 ∧ bit chans (chanOf x) = true then patternByte p x else memByte s.mem x := by
  have hchan : ∀ x, a ≤ x → x < a + 256 → chanOf x = chanOf a := fun x hlo hhi => chanOf_granule ha hlo hhi
  split
  next hsel =>
    rw [← wordFill_eq, store_of_plain hclean hplain (List.length_pos_iff.1 (by rw [length_wordFill]; decide)) (by rw [length_wordFill]; omega)]
    refine ⟨memWrite s.mem a (wordFill 32 p), _, rfl, fun x => ?_⟩
    rw [memByte_patternGranule s.mem p (by omega)]
    exact if_congr ⟨fun ⟨hlo, hhi⟩ => ⟨hlo, hhi, by rw [hchan x hlo hhi, hsel]⟩, fun ⟨hlo, hhi, _⟩ => ⟨hlo, hhi⟩⟩ rfl rfl
  next hsel =>
    refine ⟨s.mem, s.sig, rfl, fun x => (if_neg fun ⟨hlo, hhi, hx⟩ => hsel ?_).symm⟩
    rwa [hchan x hlo hhi] at hx

/-- The first k granules of an extent are filled where their channels are selected; nothing else of the pool changes. -/
theorem patternFill_spec {base : Nat} (chans p : Nat) (hbase : base % 2 ^ 30 = 0) {k : Nat} (hk : k ≤ 4194304) {s : State}
    (hclean : Clean s) (hplain : PlainExtent s base) :
    ∃ mem sig, patternFill base chans p k s = { s with mem := mem, sig := sig }
      ∧ ∀ x, memByte mem x
        = if base ≤ x ∧ x < base + k * 256 ∧ bit chans (chanOf x) = true then patternByte p x else memByte s.mem x := by
  induction k generalizing s with
  | zero =>
    refine ⟨s.mem, s.sig, rfl, fun x => ?_⟩
    rw [if_neg (by omega)]
  | succ k ih =>
    have hext : extOf (base + k * 256) = extOf base := by unfold extOf; omega
    obtain ⟨mem, sig, htop, hmem⟩ := patternGranule_spec chans p (a := base + k * 256) (by omega) hclean (hplain.of_extOf hext)
    obtain ⟨mem', sig', hrest, hmem'⟩ := ih (Nat.le_of_succ_le hk) (s := { s with mem := mem, sig := sig }) (hclean.of_dram_regs rfl rfl)
      (hplain.of_xlt rfl)
    rw [patternFill, htop]
    refine ⟨mem', sig', hrest, fun x => ?_⟩
    rw [hmem' x, hmem x, ← ite_or]
    exact if_congr (by grind) rfl rfl

/-- The final reply of the one command that is deferred, to a session that is open. -/
theorem finalReply_only {s : State} {d : Deferred} (hd : s.mbx.deferred = [d]) (hopen : session s d.slot ≠ none)
    (htwin : s.twin.replies = []) (st : Nat) (b : List Byte) :
    finalReply s d st b = reply { s with mbx := { s.mbx with deferred := [] } } d.slot d.opcode d.tag st b := by
  have hall := finishAll_only (p := fun _ => true) hd rfl hopen htwin st b
  simpa [finishAll, hd] using hall

theorem memtestDone_fills {s : State} {slot : Nat} {tag : Word32} {n chans p : Nat} (mis : List Word64)
    (hd : s.mbx.deferred = [{ slot := slot, opcode := 0x0801, tag := tag, wait := .memtest n chans p }])
    (htwin : s.twin.replies = []) (hopen : session s slot ≠ none) (hclean : Clean s) (hplain : PlainExtent s (resPpa n 7 0)) :
    Completes (.memtestDone mis) s (fun t =>
      (∀ x, extOf x = 480 * n + 7 → bit chans (chanOf x) = true → memByte t.mem x = BitVec.ofNat 8 (p / 256 ^ (x % 8)))
      ∧ (∀ x, extOf x ≠ 480 * n + 7 ∨ bit chans (chanOf x) = false → memByte t.mem x = memByte s.mem x)
      ∧ Replied t slot 0x0801 tag stOK (leBytes 8 mis.length ++ wordsBytes mis) ∧ SameRegs s t [] ∧ t.mbx.deferred = []
      ∧ t.xlt = s.xlt ∧ t.sched = s.sched) := by
  have hbase : resPpa n 7 0 = (480 * n + 7) * 2 ^ 30 := Nat.add_zero _
  obtain ⟨mem, sig, hfill, hmem⟩ := patternFill_spec chans p (by rw [hbase]; exact Nat.mul_mod_left _ _) (Nat.le_refl 4194304) hclean hplain
  have hexec : exec (.memtestDone mis) s = .next (finalReply (patternFill (resPpa n 7 0) chans p 4194304 s)
      { slot := slot, opcode := 0x0801, tag := tag, wait := .memtest n chans p } stOK (leBytes 8 mis.length ++ wordsBytes mis)) := by
    simp only [exec, execMemtestDone, hd]
    rfl
  rw [hfill, finalReply_only (by exact hd) (by exact hopen) (by exact htwin)] at hexec
  have hext : ∀ x, (resPpa n 7 0 ≤ x ∧ x < resPpa n 7 0 + 4194304 * 256) ↔ extOf x = 480 * n + 7 := fun x => by
    rw [hbase]
    unfold extOf
    omega
  refine ⟨_, hexec, fun x hx hsel => ?_, fun x hx => ?_, ⟨_, rfl⟩, SameRegs.reply (SameRegs.of_regs rfl []), ?_, ?_, ?_⟩
  · obtain ⟨hlo, hhi⟩ := (hext x).2 hx
    rw [reply_mem]
    exact (hmem x).trans (if_pos ⟨hlo, hhi, hsel⟩)
  · rw [reply_mem]
    refine (hmem x).trans (if_neg fun ⟨hlo, hhi, hsel⟩ => ?_)
    rcases hx with hx | hx
    · exact hx ((hext x).1 ⟨hlo, hhi⟩)
    · exact Bool.false_ne_true (hx.symm.trans hsel)
  · rw [reply_mbx_deferred]
  · rw [reply_xlt]
  · rw [reply_sched]

/-! ### RECOVERY_READ (R481) -/

theorem lineMask_of_none {q : Nat → Bool} (h : ∀ l, q l = false) (a n : Nat) : lineMask a n q = 0 :=
  List.foldl_fixed' (fun i => by rw [h]; rfl) _

/-- What the exit of a die from self-refresh leaves as it was: the die serves, no error appears, and the rest of the module stays. -/
structure ExitKeeps (s t : State) : Prop where
  sound : Sound t
  regs : t.regs = s.regs
  mem : t.mem = s.mem
  xlt : t.xlt = s.xlt
  sched : t.sched = s.sched
  stale : t.dram.stale = s.dram.stale

theorem ExitKeeps.passChan {s t : State} (h : ExitKeeps s t) (n c : Nat) : ExitKeeps s (passChan n t c) := by
  obtain ⟨hsound, hregs, hmem, hxlt, hsched, hstale⟩ := h
  unfold Machine.passChan
  dsimp only
  split
  · exact ⟨hsound.answersKeep (answersKeep_setChan t rfl fun _ => id), hregs, hmem, hxlt, hsched, hstale⟩
  · exact ⟨hsound, hregs, hmem, hxlt, hsched, hstale⟩

theorem exitSelfRefresh_keeps {s : State} (h : Sound s) (n : Nat) : ExitKeeps s (exitSelfRefresh s n) := by
  unfold exitSelfRefresh
  extract_lets d es s1 keep draws old d0 s2
  have hstart : ExitKeeps s s2 := ⟨⟨h.up, h.marks, h.losses⟩, rfl, rfl, rfl, rfl, rfl⟩
  exact List.foldlRecOn (motive := ExitKeeps s) _ _ hstart fun t ht c _ => ht.passChan n c

theorem exitSelfRefresh_serves (s : State) (n : Nat) : (sealDie (exitSelfRefresh s n) n).selfRefresh = false := by
  obtain ⟨u, hexit, -, -, hdie, -⟩ := exitSelfRefresh_eq s n
  have hdies := (foldl_passChan_keeps n (List.range 128) u).dies
  rw [← hexit] at hdies
  have hsame : sealDie (exitSelfRefresh s n) n = sealDie u n := by unfold sealDie; rw [hdies]
  rw [hsame, hdie, if_pos rfl]

section
variable {s : State} {slot : Nat} {tag : Word32} {a n : Word64}

/-- A range of whole lines of one extent, neither free nor being zeroed, on a die that is still linked (R481). -/
structure Recoverable (s : State) (a n : Word64) : Prop where
  safe : inSafe s = true
  least : 128 ≤ n.toNat
  most : n.toNat ≤ 3968
  lines : n.toNat % 128 = 0
  aligned : a.toNat % 128 = 0
  pool : extOf a.toNat < 2880
  inside : extOf (a.toNat + n.toNat - 1) = extOf a.toNat
  held : (extRec s (extOf a.toNat)).st ≠ exFREE
  filled : (extRec s (extOf a.toNat)).st ≠ exZEROING
  linked : (sealDie s (dieOf a.toNat)).linkLost = false

/-- The state from which RECOVERY_READ reads: the first read takes the die out of self-refresh (R136). -/
def recoverySource (s : State) (n : Nat) : State := if (sealDie s n).selfRefresh then exitSelfRefresh s n else s

/-- The lines that RECOVERY_READ answers, after the masks of those that are poisoned and of those whose page is SEAL_STALE. -/
def recoveryAnswer (s : State) (a n : Nat) : State × Rep :=
  let (b, _, s) := load s a n
  (s, .done stOK (leBytes 8 (lineMask a (n / 128) (linePoisoned s)) ++ leBytes 8 (lineMask a (n / 128) fun l => s.dram.stale.contains (l / 32))
    ++ b))

theorem recoveryAnswer_of_sound {s : State} (h : Sound s) (hstale : s.dram.stale = []) (a n : Nat) :
    recoveryAnswer s a n = (s, .done stOK (leBytes 8 0 ++ leBytes 8 0 ++ stored s a n)) := by
  have hplain : lineMask a (n / 128) (fun l => s.dram.stale.contains (l / 32)) = 0 := lineMask_of_none (fun l => by rw [hstale]; rfl) _ _
  simp only [recoveryAnswer, load_of_sound h, lineMask_of_none (linePoisoned_of_sound h), hplain]

/-- RECOVERY_READ of such a range answers what stands in its source, where that is sound. -/
theorem recoveryRead_reads {P : State → Prop} (hrun : MayRun s slot 0x0805 tag) (h : Recoverable s a n)
    (hk : ∀ m u, u = recoverySource { s with mbx := m } (dieOf a.toNat) → Sound u ∧ u.dram.stale = []
      ∧ P (reply u slot 0x0805 tag stOK (leBytes 8 0 ++ leBytes 8 0 ++ stored u a.toNat n.toNat))) :
    Completes (.recoveryRead slot tag a n) s P := by
  obtain ⟨hsafe, hleast, hmost, hlines, haligned, hpool, hinside, hheld, hfilled, hlinked⟩ := h
  have hbad : (!within n 128 3968 || n.toNat % 128 != 0 || a.toNat % 128 != 0 || decide (2880 ≤ extOf a.toNat)
      || extOf a.toNat != extOf (a.toNat + n.toNat - 1)) = false := by
    simp [within, hleast, hmost, hlines, haligned, hpool, hinside]
  have hsafe' : ¬ inSafe s = false := by rw [hsafe]; decide
  have hserved : ¬ ((extRec s (extOf a.toNat)).st = exFREE ∨ (extRec s (extOf a.toNat)).st = exZEROING
      ∨ (sealDie s (dieOf a.toNat)).linkLost = true) := by
    simp [hheld, hfilled, hlinked]
  refine completes_query rfl hbad hrun fun m => ?_
  obtain ⟨hsound, hstale, hP⟩ := hk m _ rfl
  exact ⟨_, _, _, (if_neg hsafe').trans ((if_neg hserved).trans (recoveryAnswer_of_sound hsound hstale _ _)), hP⟩

theorem recoveryRead_serves (hrun : MayRun s slot 0x0805 tag) (h : Recoverable s a n) (hclean : Clean s)
    (hawake : (sealDie s (dieOf a.toNat)).selfRefresh = false) :
    Completes (.recoveryRead slot tag a n) s (fun t =>
      Replied t slot 0x0805 tag stOK (leBytes 8 0 ++ leBytes 8 0 ++ memRead s.mem a.toNat n.toNat) ∧ SameRegs s t [] ∧ SamePool s t) := by
  refine recoveryRead_reads hrun h fun m u hu => ?_
  have hsource : u = { s with mbx := m } := hu.trans (if_neg (Bool.eq_false_iff.1 hawake))
  have hstored : stored u a.toNat n.toNat = memRead s.mem a.toNat n.toNat := by
    rw [hsource]
    exact stored_of_undef (s := { s with mbx := m }) hclean.undef _ _
  rw [hstored, hsource]
  exact ⟨hclean.sound.of_dram rfl, hclean.stale, ⟨_, rfl⟩, SameRegs.reply (sameRegs_mbx s m []), SamePool.reply (samePool_mbx s m)⟩

theorem recoveryRead_wakes (hrun : MayRun s slot 0x0805 tag) (h : Recoverable s a n) (hclean : Clean s)
    (hasleep : (sealDie s (dieOf a.toNat)).selfRefresh = true) :
    Completes (.recoveryRead slot tag a n) s (fun t =>
      (sealDie t (dieOf a.toNat)).selfRefresh = false ∧ (∃ b, b.length = 16 + n.toNat ∧ Replied t slot 0x0805 tag stOK b)
      ∧ SameRegs s t [] ∧ t.mem = s.mem ∧ t.xlt = s.xlt ∧ t.sched = s.sched) := by
  refine recoveryRead_reads hrun h fun m u hu => ?_
  have hsource : u = exitSelfRefresh { s with mbx := m } (dieOf a.toNat) := hu.trans (if_pos hasleep)
  have hserves := exitSelfRefresh_serves { s with mbx := m } (dieOf a.toNat)
  obtain ⟨hsound, hregs, hmem, hxlt, hsched, hstale⟩ :=
    exitSelfRefresh_keeps (s := { s with mbx := m }) (hclean.sound.of_dram rfl) (dieOf a.toNat)
  rw [← hsource] at hserves hsound hregs hmem hxlt hsched hstale
  have hlen : (leBytes 8 0 ++ leBytes 8 0 ++ stored u a.toNat n.toNat).length = 16 + n.toNat := by
    simp only [List.length_append, length_leBytes, stored, List.length_map, List.length_range]
  exact ⟨hsound, hstale.trans hclean.stale, (congrArg SealDie.selfRefresh (sealDie_congr (reply_dram ..) _)).trans hserves,
    ⟨_, hlen, ⟨_, rfl⟩⟩, SameRegs.reply (SameRegs.of_regs hregs []), (reply_mem ..).trans hmem, (reply_xlt ..).trans hxlt,
    (reply_sched ..).trans hsched⟩

end

/-- Settles O41: each clause is one of the commands above, at a state that its hypotheses describe. -/
theorem diagnosticsTouchWhatTheyName : Obligations.DiagnosticsTouchWhatTheyName := by
  unfold Obligations.DiagnosticsTouchWhatTheyName
  refine ⟨fun s slot tag a hrun hclean hplain hext hres => ⟨fun hready => poisonWrite_marks hrun hclean hplain hext hres hready,
      fun hready => poisonWrite_refuses hrun hready⟩,
    fun s slot tag n c0 c1 p hrun hroom hn => memtest_defers hrun hroom hn,
    fun s slot tag n chans p mis hd htwin hopen _ hclean hplain => memtestDone_fills mis hd htwin hopen hclean hplain,
    fun s slot tag a n hrun hsafe hclean hleast hmost hlines haligned hpool hinside hheld hfilled hlinked => ?recovery⟩
  case recovery =>
    have h : Recoverable s a n := ⟨hsafe, hleast, hmost, hlines, haligned, hpool, hinside, hheld, hfilled, hlinked⟩
    exact ⟨recoveryRead_serves hrun h hclean, recoveryRead_wakes hrun h hclean⟩

end Sys2Proof.Machine
end

section
/-! PROOFS. Requests by PPA up to their run, and atomic operations at the home (O43). -/

namespace Sys2Proof.Machine
open Sys2Proof

/-! ### A request by PPA up to its run (R41, R72, R77, R294) -/

/-- An answer changes the fabric's own state only. -/
theorem answer_fab (s : State) (m : Msg) (r : Resp) : ∃ f, answer s m r = { s with fab := f } := by
  unfold answer keepRecord
  dsimp only
  split
  all_goals
    obtain ⟨f, hf, -⟩ := sendMsg_eq _ _
    exact ⟨f, hf⟩

theorem Answered.of_asOp {t : State} {op : Nat} {m : Msg} {r : Resp} (h : Answered t (asOp op m) r) : Answered t m r := by
  obtain ⟨u, hu⟩ := h
  exact ⟨u, hu⟩

/-- A request that no later attempt has joined is the one that is answered. -/
theorem answered_asOp {s : State} {op : Nat} {m : Msg} (h : tget s.fab.inProgress (reqKey m) = none) (r : Resp) :
    Answered (answer s (asOp op m) r) m r :=
  (answer_served (m := asOp op m) h r).answered.of_asOp

/-- A request has been taken out of its pool, and perhaps charged: only the fabric and the byte counter have changed. -/
structure TakenIn (s u : State) (m : Msg) : Prop where
  alone : tget u.fab.inProgress (reqKey m) = none
  regs : SameRegs s u chargeRegs
  tb : u.tb = s.tb
  mem : u.mem = s.mem
  xlt : u.xlt = s.xlt
  dram : u.dram = s.dram
  dirc : u.dirc = s.dirc
  sched : u.sched = s.sched

theorem TakenIn.clean {s u : State} {m : Msg} (h : TakenIn s u m) (hs : Clean s) : Clean u :=
  hs.of_charge h.dram h.regs

theorem TakenIn.charge {s u : State} {m : Msg} (h : TakenIn s u m) (l : List (Nat × Nat)) : TakenIn s (chargeSegs u 0 l) m := by
  obtain ⟨halone, hregs, htb, hmem, hxlt, hdram, hdirc, hsched⟩ := h
  obtain ⟨regs, hcharge, hsame⟩ := chargeSegs_eq u l
  rw [hcharge] at hsame ⊢
  exact ⟨halone, hregs.trans hsame, htb, hmem, hxlt, hdram, hdirc, hsched⟩

section
variable {s : State} {k a len op : Nat} {m : Msg}

/-- A request by PPA to an aligned range of one extent needs no table to be translated. -/
theorem translateReq_ppa (h : PpaReq s k m a len) (hspan : reqSpan m = (a, len)) (hal : a % 8 = 0) :
    translateReq s k m = runReq false s k m [(a, len)] 0 := by
  have hxl : ∀ need, reqXl s k m a len need = (s, .ok [(a, len)] 0) := fun need => by
    simp [reqXl, h.kind, h.mode, h.ok]
  have hkind : ¬ (m.akind = 3 ∧ m.opcode.toNat = 0x0C) := fun hk => absurd (h.kind.symm.trans hk.1) (by decide)
  simp only [translateReq, hspan, hal, ne_eq, not_true_eq_false, and_false, if_false, hkind, hxl, List.any_cons, List.any_nil, h.still,
    Bool.or_self, Bool.false_eq_true]

/-- A fresh request by PPA is taken in, and runs. -/
theorem arriveReq_ppa (h : PpaReq s k m a len) (hfresh : Fresh s op m) (hspan : reqSpan (asOp op m) = (a, len)) (hal : a % 8 = 0) :
    ∃ u, arriveReq s k op m (fun s m => translateReq s k m) = runReq false u k (asOp op m) [(a, len)] 0 ∧ TakenIn s u m := by
  obtain ⟨f, htake, hprog⟩ := takeMsg_eq s k m
  refine ⟨{ s with fab := f }, ?_, by rw [hprog]; exact hfresh.alone, SameRegs.of_regs rfl _, rfl, rfl, rfl, rfl, rfl, rfl⟩
  rw [arriveReq_fresh hfresh, htake, translateReq_ppa (h.of_fab f op) hspan hal]

/-- An extent that is not mirrored holds up no request (R386). -/
theorem mirrorGate_of_unmirrored (hm : (extRec s (extOf a)).mirrored = false) (w : Bool) : mirrorGate s [(a, len)] w = 0 := by
  simp [mirrorGate, mirroredAt, hm]

/-- A request to an extent that is not coherent meets no directory (R33, R198). -/
theorem runReq_of_plain (hc : (extRec s (extOf a)).coherent = false) (hm : (extRec s (extOf a)).mirrored = false)
    (hin : a % 2 ^ 30 + len ≤ 2 ^ 30) (entered : Bool) (t : Nat) :
    runReq entered s k m [(a, len)] t
      = if m.opcode.toNat = 0x01 ∨ m.opcode.toNat = 0x02 ∨ m.opcode.toNat = 0x03 ∨ m.opcode.toNat = 0x04 then
          answer s m (Resp.faulted (ackOpcode m.opcode.toNat) cNOT_COHERENT)
        else if m.opcode.toNat = 0x0A then answer s m (Resp.plain 0x49 sCOMPLETE 0 0 0)
        else serve s k m [(a, len)] t := by
  have hlines : (([(a, len)] : List (Nat × Nat)).flatMap (fun e => linesOf e.1 e.2)).filter (coherentLine s) = [] := by
    refine List.filter_eq_nil_iff.2 fun l hl => ?_
    rw [List.flatMap_singleton] at hl
    rw [coherentLine, extOf_linesOf hin hl, hc]
    decide
  simp only [runReq, mirrorGate_of_unmirrored hm, hlines, List.isEmpty_nil, if_true]

end

/-! ### The three operations on a word (R217, R218, R291, R346) -/

section
variable {s : State} {k a : Nat} {m : Msg} (h : Clean s) (hp : PlainExtent s a)
include h hp

theorem storeWord_eq_of_plain (v : Nat) : ∃ sig, storeWord s a v = { s with mem := memWrite s.mem a (leBytes 8 v), sig := sig } := by
  have hc : Clean (poke s a (leBytes 8 v)) := h.of_dram_regs rfl rfl
  have hstore : storeWord s a v = noteWatch (poke s a (leBytes 8 v)) a 8 (some (a, v % 2 ^ 64)) := by
    simp only [storeWord, fetchRange_of_sound h.sound, storePiece_of_clean h hp, writeSeal_of_clean hc]
  exact ⟨_, hstore⟩

variable (hin : a % 2 ^ 30 + 8 ≤ 2 ^ 30)
include hin

theorem serveWrite_atomic {r v : Nat} (hop : m.opcode.toNat = 0x08) (hv : leNat (memRead s.mem a 8) = v)
    (hr : atomicResult m.xf.toNat v (leAt m.data 0 8) (leAt m.data 8 8) = some r) (t : Nat) :
    ∃ sig, serveWrite s k m [(a, 8)] t
      = answer { s with mem := memWrite s.mem a (leBytes 8 r), sig := sig } m (Resp.plain 0x47 sCOMPLETE 0 0 v) := by
  obtain ⟨sig, hstore⟩ := storeWord_eq_of_plain h hp r
  have hfree := freeLines_of_plain (s := { s with mem := memWrite s.mem a (leBytes 8 r), sig := sig }) hp.coherent hin
  refine ⟨sig, ?_⟩
  simp only [serveWrite, hop, if_true, List.head?_cons, Option.map_some, Option.getD_some, loadWord_of_clean h, hv, hr, hstore,
    List.flatMap_singleton, hfree]
  exact answerWrite_of_plain (s := { s with mem := memWrite s.mem a (leBytes 8 r), sig := sig }) hp.mirrored hin _ _

theorem serveWrite_publish (hop : m.opcode.toNat = 0x09) (hv : leNat (memRead s.mem a 8) = m.arg.toNat) (t : Nat) :
    ∃ sig, serveWrite s k m [(a, 8)] t = answer { s with mem := memWrite s.mem a (leBytes 8 (leAt m.data 0 8)), sig := sig } m
      (Resp.plain 0x48 sCOMPLETE 0 0 (leAt m.data 0 8)) := by
  obtain ⟨sig, hstore⟩ := storeWord_eq_of_plain h hp (leAt m.data 0 8)
  have hfree := freeLines_of_plain (s := { s with mem := memWrite s.mem a (leBytes 8 (leAt m.data 0 8)), sig := sig }) hp.coherent hin
  have h8 : ¬ (9 : Nat) = 8 := by decide
  refine ⟨sig, ?_⟩
  simp only [serveWrite, hop, h8, if_false, if_true, List.head?_cons, Option.map_some, Option.getD_some, loadWord_of_clean h, hv, hstore,
    List.flatMap_singleton, hfree]
  exact answerWrite_of_plain (s := { s with mem := memWrite s.mem a (leBytes 8 (leAt m.data 0 8)), sig := sig }) hp.mirrored hin _ _

/-- A PUBLISH whose word is not the expected one is counted, and writes nothing (R217). -/
theorem serveWrite_publish_conflict {v : Nat} (hop : m.opcode.toNat = 0x09) (hv : leNat (memRead s.mem a 8) = v)
    (hne : v ≠ m.arg.toNat) (t : Nat) :
    serveWrite s k m [(a, 8)] t = answer (bump s Reg.DIR_PUBCONF 1) m (Resp.plain 0x48 sCOMPLETE 0 1 v) := by
  have hfree := freeLines_of_plain (s := bump s Reg.DIR_PUBCONF 1) hp.coherent hin
  have h8 : ¬ (9 : Nat) = 8 := by decide
  simp only [serveWrite, hop, h8, if_false, if_true, List.head?_cons, Option.map_some, Option.getD_some, loadWord_of_clean h, hv, hne,
    List.flatMap_singleton, hfree]

theorem serveWrite_signal {v : Nat} (hop : m.opcode.toNat = 0x0C) (harg : m.arg ≠ 0#64)
    (hv : (leNat (memRead s.mem a 8) + m.arg.toNat) % 2 ^ 64 = v) (t : Nat) :
    ∃ sig, serveWrite s k m [(a, 8)] t
      = answer { s with mem := memWrite s.mem a (leBytes 8 v), sig := sig } m (Resp.plain 0x4B sCOMPLETE 0 0 v) := by
  have hne : ¬ m.arg.toNat % 2 ^ 64 = 0 := by
    rw [Nat.mod_eq_of_lt m.arg.isLt]
    exact fun h0 => harg (BitVec.eq_of_toNat_eq h0)
  obtain ⟨sig, hstore⟩ := storeWord_eq_of_plain h hp v
  have hfree := freeLines_of_plain (s := { s with mem := memWrite s.mem a (leBytes 8 v), sig := sig }) hp.coherent hin
  have h8 : ¬ (12 : Nat) = 8 ∧ ¬ (12 : Nat) = 9 := by decide
  refine ⟨sig, ?_⟩
  simp only [serveWrite, hop, h8, if_false, if_true, List.head?_cons, Option.map_some, Option.getD_some, signalAdd, loadWord_of_clean h, hne,
    hv, hstore, harg, List.flatMap_singleton, hfree]

end

/-! ### A word operation from its arrival to its answer -/

section
variable {s : State} {k a op : Nat} {m : Msg} (hreq : PpaReq s k m a 8) (hc : (extRec s (extOf a)).coherent = false)
  (hfresh : Fresh s op m) (hop : op ∈ [0x08, 0x09, 0x0C]) (hspan : reqSpan (asOp op m) = (a, 8)) (hal : a % 8 = 0)
include hreq hc hfresh hop hspan hal

/-- A fresh word operation is taken in and served. -/
theorem arriveReq_word :
    ∃ u, arriveReq s k op m (fun s m => translateReq s k m) = serveWrite u k (asOp op m) [(a, 8)] 0 ∧ TakenIn s u m ∧ Clean u
      ∧ PlainExtent u a := by
  obtain ⟨u, harrive, htaken⟩ := arriveReq_ppa hreq hfresh hspan hal
  have hplain : PlainExtent u a := PlainExtent.of_xlt ⟨hc, hreq.mirrored, hreq.still⟩ htaken.xlt
  refine ⟨chargeSegs u 0 [(a, 8)], ?_, htaken.charge _, (htaken.charge _).clean hreq.clean,
    PlainExtent.of_xlt ⟨hc, hreq.mirrored, hreq.still⟩ (htaken.charge _).xlt⟩
  have hne : (asOp op m).opcode.toNat ∉ [0x01, 0x02, 0x03, 0x04, 0x05, 0x0A, 0x11] := by
    simp only [List.mem_cons, List.not_mem_nil, or_false] at hop
    rcases hop with rfl | rfl | rfl <;> exact of_decide_eq_true rfl
  simp only [List.mem_cons, List.not_mem_nil, or_false, not_or] at hne
  obtain ⟨h1, h2, h3, h4, h5, h10, h17⟩ := hne
  rw [harrive, runReq_of_plain hplain.coherent hplain.mirrored hreq.inside]
  simp only [serve, h1, h2, h3, h4, h5, h10, h17, or_self, if_false]

/-- A word operation that writes puts its eight bytes and no other, is answered, and leaves a record. -/
theorem word_written {v : Nat} {r : Resp} (hserve : ∀ u : State, Clean u → PlainExtent u a → u.mem = s.mem →
      ∃ sig, serveWrite u k (asOp op m) [(a, 8)] 0 = answer { u with mem := memWrite u.mem a (leBytes 8 v), sig := sig } (asOp op m) r) :
    ∃ t, arriveReq s k op m (fun s m => translateReq s k m) = t ∧ t.mem = memWrite s.mem a (leBytes 8 v)
      ∧ (∀ x, x < a ∨ a + 8 ≤ x → memByte t.mem x = memByte s.mem x) ∧ Served s t m r ∧ Recorded s t m r := by
  obtain ⟨u, heq, ⟨halone, hregs, htb, hmem, hxlt, -, hdirc, hsched⟩, hclean, hplain⟩ := arriveReq_word hreq hc hfresh hop hspan hal
  obtain ⟨sig, hwrite⟩ := hserve u hclean hplain hmem
  have hkept : recordless (asOp op m).opcode.toNat = false := by
    simp only [List.mem_cons, List.not_mem_nil, or_false] at hop
    rcases hop with rfl | rfl | rfl <;> rfl
  rw [hwrite, hmem] at heq
  have hput : (answer { u with mem := memWrite s.mem a (leBytes 8 v), sig := sig } (asOp op m) r).mem = memWrite s.mem a (leBytes 8 v) :=
    answer_mem (s := { u with mem := memWrite s.mem a (leBytes 8 v), sig := sig }) (m := asOp op m) halone r
  have hserved := answer_served (s := { u with mem := memWrite s.mem a (leBytes 8 v), sig := sig }) (m := asOp op m) halone r
  have hrec := answer_recorded (s := { u with mem := memWrite s.mem a (leBytes 8 v), sig := sig }) (m := asOp op m) halone r hkept
  refine ⟨_, heq, hput, fun x hx => ?_, (hserved.trans hregs hxlt hdirc hsched).of_asOp,
    hrec.of_same (congrArg TimeBase.ns htb) (replayWin_of_charge hregs)⟩
  rw [hput]
  exact memByte_memWrite_out _ _ _ (by rw [length_leBytes]; exact hx)

end

/-- A PUBLISH that conflicts is answered with the word found, and counts. -/
theorem publish_conflicts {s : State} {k a v : Nat} {m : Msg} (hreq : PpaReq s k m a 8) (hc : (extRec s (extOf a)).coherent = false)
    (hfresh : Fresh s 0x09 m) (hspan : reqSpan (asOp 0x09 m) = (a, 8)) (hal : a % 8 = 0) (hv : leNat (memRead s.mem a 8) = v)
    (hne : v ≠ m.arg.toNat) :
    Completes (.publish k m) s (fun t =>
      t.mem = s.mem ∧ Answered t m (Resp.plain 0x48 sCOMPLETE 0 1 v)
      ∧ rg t Reg.DIR_PUBCONF = min (rg s Reg.DIR_PUBCONF + 1) 0xFFFFFFFF ∧ SameRegs s t (Reg.DIR_PUBCONF :: chargeRegs)
      ∧ t.xlt = s.xlt ∧ t.dirc = s.dirc) := by
  obtain ⟨u, heq, ⟨halone, hregs, -, hmem, hxlt, -, hdirc, -⟩, hclean, hplain⟩ := arriveReq_word hreq hc hfresh (by decide) hspan hal
  rw [serveWrite_publish_conflict (m := asOp 0x09 m) hclean hplain hreq.inside rfl (by rw [hmem, hv]) hne] at heq
  have hans := answered_asOp (s := bump u Reg.DIR_PUBCONF 1) (op := 0x09) halone (Resp.plain 0x48 sCOMPLETE 0 1 v)
  obtain ⟨f, hfab⟩ := answer_fab (bump u Reg.DIR_PUBCONF 1) (asOp 0x09 m) (Resp.plain 0x48 sCOMPLETE 0 1 v)
  have hcount := rg_bump_self u Reg.DIR_PUBCONF 1
  rw [hregs _ (by decide)] at hcount
  have hsame : SameRegs s (bump u Reg.DIR_PUBCONF 1) (Reg.DIR_PUBCONF :: chargeRegs) :=
    (hregs.mono (List.subset_cons_self _ _)).trans (sameRegs_bump _ _ List.mem_cons_self)
  rw [hfab] at heq hans
  exact ⟨_, congrArg Host.Outcome.next heq, hmem, hans, hcount, hsame, hxlt, hdirc⟩

/-- An atomic operation off a multiple of 8 is turned away (R294, R346). -/
theorem word_misaligned {s : State} {op : Nat} {m : Msg} (hfresh : Fresh s op m) (k : Nat) (hop : op ∈ [0x08, 0x0C])
    (hal : m.addr.toNat % 8 ≠ 0) :
    ∃ t, arriveReq s k op m (fun s m => translateReq s k m) = t ∧ Answered t m (Resp.faulted (ackOpcode op) cALIGNMENT)
      ∧ SameRegs s t [] ∧ SamePool s t := by
  obtain ⟨f, htake, hprog⟩ := takeMsg_eq s k m
  have halone : tget f.inProgress (reqKey m) = none := by rw [hprog]; exact hfresh.alone
  have hopcode : (asOp op m).opcode.toNat = op := by
    simp only [List.mem_cons, List.not_mem_nil, or_false] at hop
    rcases hop with rfl | rfl <;> rfl
  have hspan : reqSpan (asOp op m) = (m.addr.toNat, 8) := by
    simp only [List.mem_cons, List.not_mem_nil, or_false] at hop
    rcases hop with rfl | rfl <;> rfl
  have hword : op = 0x08 ∨ op = 0x09 ∨ op = 0x0C := by
    simp only [List.mem_cons, List.not_mem_nil, or_false] at hop
    omega
  have hfault : translateReq { s with fab := f } k (asOp op m)
      = answer { s with fab := f } (asOp op m) (Resp.faulted (ackOpcode op) cALIGNMENT) := by
    simp only [translateReq, hspan, hopcode, hword, hal, ne_eq, not_false_eq_true, and_self, if_true]
  have hans := answered_asOp (s := { s with fab := f }) (op := op) halone (Resp.faulted (ackOpcode op) cALIGNMENT)
  obtain ⟨f', hfab⟩ := answer_fab { s with fab := f } (asOp op m) (Resp.faulted (ackOpcode op) cALIGNMENT)
  rw [hfab] at hfault hans
  exact ⟨_, (arriveReq_fresh hfresh k _).trans (by rw [htake, hfault]), hans, SameRegs.of_regs rfl _, ⟨rfl, rfl, rfl, rfl, rfl, rfl, rfl⟩⟩

/-- Settles O43: a fresh word operation by PPA is served on arrival, and clean memory gives and takes its eight bytes. -/
theorem atomicsActAtTheHome : Obligations.AtomicsActAtTheHome := by
  unfold Obligations.AtomicsActAtTheHome
  refine fun s k m a v ha => ⟨fun hreq hc hal hv => ?_, fun hal => ⟨fun hf => ?_, fun hf => ?_⟩⟩
  case refine_1 =>
    subst ha
    refine ⟨fun r hr hf => ?_, fun hf harg => ?_, fun hf hne => publish_conflicts hreq hc hf rfl hal hv.symm hne, fun hf harg => ?_⟩
    case refine_1 =>
      obtain ⟨t, heq, hmem, hout, ⟨hans, hregs, hxlt, hdirc, -⟩, hrec⟩ := word_written hreq hc hf (by decide) rfl hal
        fun u hu hp hm => serveWrite_atomic (m := asOp 0x08 m) hu hp hreq.inside rfl (by rw [hm, hv]) hr 0
      exact ⟨t, congrArg Host.Outcome.next heq, hmem, hout, hans, hrec, hregs, hxlt, hdirc⟩
    case refine_2 =>
      obtain ⟨t, heq, hmem, hout, ⟨hans, hregs, hxlt, hdirc, -⟩, -⟩ := word_written hreq hc hf (by decide) rfl hal
        fun u hu hp hm => serveWrite_publish (m := asOp 0x09 m) hu hp hreq.inside rfl (by rw [hm, ← hv, harg]; rfl) 0
      exact ⟨t, congrArg Host.Outcome.next heq, hmem, hans, hout, hregs, hxlt, hdirc⟩
    case refine_3 =>
      obtain ⟨t, heq, hmem, hout, ⟨hans, hregs, hxlt, hdirc, -⟩, -⟩ := word_written hreq hc hf (by decide) rfl hal
        fun u hu hp hm => serveWrite_signal (m := asOp 0x0C m) hu hp hreq.inside rfl harg (by rw [hm, ← hv]) 0
      exact ⟨t, congrArg Host.Outcome.next heq, hmem, hans, hout, hregs, hxlt, hdirc⟩
  case refine_2 =>
    subst ha
    obtain ⟨t, heq, hans, hregs, hpool⟩ := word_misaligned hf k (by decide) hal
    exact ⟨t, congrArg Host.Outcome.next heq, hans, hregs, hpool⟩
  case refine_3 =>
    subst ha
    obtain ⟨t, heq, hans, hregs, hpool⟩ := word_misaligned hf k (by decide) hal
    exact ⟨t, congrArg Host.Outcome.next heq, hans, hregs, hpool⟩

end Sys2Proof.Machine
end

section
/-! PROOFS. The directory's entries and transactions under updates, and coherent requests by PPA (O44). -/

namespace Sys2Proof.Machine
open Sys2Proof

/-! ### Entries of the directory (R186) -/

section
variable {s t : State} {line : Nat}

theorem dirEnt_of_tset {e : DirEntry} (h : t.dirc.entries = tset s.dirc.entries line e) :
    dirEnt t line = some e ∧ ∀ l, l ≠ line → dirEnt t l = dirEnt s l := by
  unfold dirEnt
  rw [h]
  exact ⟨tget_tset_self _ _ _, fun _ hl => tget_tset_ne _ _ hl⟩

theorem dirEnt_of_tdel (h : t.dirc.entries = tdel s.dirc.entries line) :
    dirEnt t line = none ∧ ∀ l, l ≠ line → dirEnt t l = dirEnt s l := by
  unfold dirEnt
  rw [h]
  exact ⟨tget_tdel_self _ _, fun _ hl => (tget_tdel _ _ _).trans (if_neg hl)⟩

theorem setEnt_held (s : State) (line : Nat) {e : DirEntry} (h : e.ptrs ≠ []) :
    setEnt s line (some e) = { s with dirc := { s.dirc with entries := tset s.dirc.entries line e } } := by
  simp only [setEnt, h, and_false, if_false]

/-- An entry that names no holder is freed. -/
theorem setEnt_unheld (s : State) (line : Nat) {e : DirEntry} (hst : e.st ≠ 2) (h : e.ptrs = []) :
    setEnt s line (some e) = setEnt s line none := by
  simp only [setEnt, hst, h, ne_eq, not_false_eq_true, and_self, if_true]

/-- No holder of a line is a FAILED endpoint. -/
def HoldersLive (s : State) (line : Nat) : Prop := ∀ e, dirEnt s line = some e → ∀ x, x ∈ e.ptrs → epState s x = 1

theorem purge_of_live (h : HoldersLive s line) : purge s line = s := by
  unfold purge
  cases he : dirEnt s line with
  | none => rfl
  | some e =>
    have hlive : ∀ x ∈ e.ptrs, ¬ (epState s x == 2) = true := fun x hx => by rw [h e he x hx]; decide
    have hfind : e.ptrs.find? (fun x => epState s x == 2) = none := List.find?_eq_none.2 hlive
    have hfilter : e.ptrs.filter (fun x => epState s x == 2) = [] := List.filter_eq_nil_iff.2 hlive
    simp only [hfind, hfilter, List.foldl_nil, ite_self]

/-! ### Transactions (R189, R195, R196) -/

/-- A line that has a way for one request has a way for every other. -/
theorem wantsWay_of_shared (h : wantsWay s line 1 = false) (want : Nat) : wantsWay s line want = false := by
  simp only [wantsWay, Nat.reduceBEq, Bool.true_or, Bool.true_and] at h
  unfold wantsWay
  rw [Bool.and_assoc, h, Bool.and_false]

theorem lineBusy_of_idle (h : s.dirc.txns = []) (line : Nat) (who : TxnWho) : lineBusy s line who = false := by
  simp [lineBusy, h]

theorem sendRecall_fab (s : State) (line ep belief : Nat) (share : Bool) : ∃ f, sendRecall s line ep belief share = { s with fab := f } := by
  obtain ⟨f, hf, -⟩ := sendMsg_eq { s with fab := { s.fab with nextReqid := s.fab.nextReqid + 1 } } _
  exact ⟨f, hf⟩

/-- A transaction whose line needs no victim recalls the holders of the line. -/
theorem openTxn_of_way {who : TxnWho} (h : wantsWay s line who.want = false) :
    openTxn s line who = ((sendRecalls s line (who.want == 1 || who.want == 3) (whoHolders s line who)).1,
      some { Txn.fresh line who true with
        recalls := (sendRecalls s line (who.want == 1 || who.want == 3) (whoHolders s line who)).2 }) := by
  simp only [openTxn, h, Bool.false_eq_true, if_false]

/-- The recall of one holder. -/
def Recall.fresh (s : State) (line ep belief id : Nat) : Recall :=
  { ep := ep, line := line, belief := belief, sent := now s, data := false, id := id }

/-- A transaction for a line with one holder to recall, in a directory that rests. -/
theorem beginTxn_of_one {who : TxnWho} {x b : Nat} (hidle : DirIdle s) (hway : wantsWay s line who.want = false)
    (hone : whoHolders s line who = [(x, b)]) :
    ∃ f id, beginTxn s line who = { s with
      fab := f, dirc := { s.dirc with txns := [{ Txn.fresh line who true with recalls := [Recall.fresh s line x b id] }] } } := by
  obtain ⟨htxns, hheld⟩ := hidle
  have hroom : ¬ 512 ≤ sliceTxns s line := by simp [sliceTxns, htxns]
  obtain ⟨f, hsend⟩ := sendRecall_fab s line x b (who.want == 1 || who.want == 3)
  refine ⟨f, s.fab.nextReqid % 2 ^ 24, ?_⟩
  simp only [beginTxn, htxns, hheld, List.any_nil, Bool.false_eq_true, if_false, hroom, decide_false, Bool.or_self, openTxn_of_way hway, hone,
    sendRecalls, hsend, setTxns, List.nil_append]
  rfl

end

/-! ### A coherent request up to its run (R193, R195 to R198) -/

/-- The line is coherent and has a way, the directory rests, and the sender of the message is an ACTIVE endpoint. -/
structure HomeReady (s : State) (line ep : Nat) (m : Msg) : Prop where
  coherent : (extRec s (extOf (line * 128))).coherent = true
  idle : DirIdle s
  index : epOf s m.src.toNat = some ep
  active : epState s ep = 1
  way : wantsWay s line 1 = false

theorem HomeReady.of_taken {s u : State} {line ep : Nat} {m : Msg} (h : HomeReady s line ep m) (ht : TakenIn s u m) :
    HomeReady u line ep m := by
  obtain ⟨hc, ⟨htxns, hheld⟩, hindex, hactive, hway⟩ := h
  have hd := ht.dirc
  refine ⟨?_, ⟨by rw [hd]; exact htxns, by rw [hd]; exact hheld⟩, ?_, ?_, ?_⟩
  · unfold extRec at *; rw [ht.xlt]; exact hc
  · unfold epOf at *; rw [hd]; exact hindex
  · unfold epState at *; rw [hd]; exact hactive
  · unfold wantsWay dirEnt at *; rw [hd]; exact hway

theorem HoldersLive.of_dirc {s u : State} {line : Nat} (h : HoldersLive s line) (hd : u.dirc = s.dirc) : HoldersLive u line := by
  unfold HoldersLive dirEnt epState at *
  rw [hd]
  exact h

theorem holdersFor_of_dirc {s u : State} (hd : u.dirc = s.dirc) (line want : Nat) (ep : Option Nat) :
    holdersFor u line want ep = holdersFor s line want ep := by
  unfold holdersFor dirEnt coarseEps epState
  rw [hd]

theorem linesOf_line (line : Nat) : linesOf (line * 128) 128 = [line] := by
  have hfirst : line * 128 / 128 = line := by omega
  have hcount : (line * 128 + 128 - 1) / 128 + 1 - line = 1 := by omega
  unfold linesOf
  rw [hfirst, hcount]
  rfl

/-- The request stays in progress behind its transaction. -/
def parkReq (s : State) (m : Msg) : State :=
  { s with fab := { s.fab with inProgress := tset s.fab.inProgress (reqKey m) (latest s m) } }

section
variable {s : State} {k line ep : Nat} {m : Msg} (h : HomeReady s line ep m) (hm : (extRec s (extOf (line * 128))).mirrored = false)
  (hlive : HoldersLive s line)
include h hm hlive

/-- A request for one coherent line is served where nobody needs to be recalled, and else begins a transaction. -/
theorem runReq_line (t : Nat) :
    runReq false s k m [(line * 128, 128)] t
      = if lineClear s line (opWant m.opcode.toNat) (some ep) then serve s k m [(line * 128, 128)] t
        else parkReq (beginTxn s line (.req k m [(line * 128, 128)] t)) m := by
  obtain ⟨hc, ⟨htxns, hheld⟩, hindex, hactive, hway⟩ := h
  have hlines : (([(line * 128, 128)] : List (Nat × Nat)).flatMap (fun e => linesOf e.1 e.2)).filter (coherentLine s) = [line] := by
    rw [List.flatMap_singleton, linesOf_line, List.filter_singleton, coherentLine, hc]
    rfl
  have hgate : ∀ w, mirrorGate s [(line * 128, 128)] w = 0 := mirrorGate_of_unmirrored hm
  have htake : ∀ who, takeWay false s line who = s := fun who => by
    simp only [takeWay, wantsWay_of_shared hway, Bool.not_false, Bool.true_or, if_true]
  simp only [runReq, hgate, hlines, List.isEmpty_cons, Bool.false_eq_true, if_false, hindex, hactive, Nat.reduceBEq, List.foldl_cons,
    List.foldl_nil, purge_of_live hlive, htake, lineBusy_of_idle htxns, wantsWay_of_shared hway, hheld, List.any_nil, Bool.and_false,
    Bool.or_false, List.filter_singleton]
  cases lineClear s line (opWant m.opcode.toNat) (some ep) <;> rfl

end

/-- The opcodes of requests for a grant, and of EVICT_CLEAN. -/
def dirOps : List Nat := [0x01, 0x02, 0x03, 0x04, 0x0A]

section
variable {s : State} {k line ep op : Nat} {m : Msg} (hreq : PpaReq s k m (line * 128) 128) (hfresh : Fresh s op m)
  (hspan : reqSpan (asOp op m) = (line * 128, 128)) (h : HomeReady s line ep m) (hlive : HoldersLive s line)
include hreq hfresh hspan h hlive

/-- What a fresh request for one coherent line meets. -/
theorem arriveReq_line :
    ∃ u, arriveReq s k op m (fun s m => translateReq s k m)
        = (if lineClear s line (opWant (asOp op m).opcode.toNat) (some ep) then serve u k (asOp op m) [(line * 128, 128)] 0
          else parkReq (beginTxn u line (.req k (asOp op m) [(line * 128, 128)] 0)) (asOp op m))
      ∧ TakenIn s u m := by
  obtain ⟨u, harrive, htaken⟩ := arriveReq_ppa hreq hfresh hspan (by omega)
  have hclear : ∀ want, lineClear u line want (some ep) = lineClear s line want (some ep) := fun want => by
    unfold lineClear
    rw [holdersFor_of_dirc htaken.dirc]
  have hmir : (extRec u (extOf (line * 128))).mirrored = false := by
    unfold extRec
    rw [htaken.xlt]
    exact hreq.mirrored
  have hready : HomeReady u line ep (asOp op m) := by
    obtain ⟨hc, hidle, hindex, hactive, hway⟩ := h.of_taken htaken
    exact ⟨hc, hidle, hindex, hactive, hway⟩
  refine ⟨u, ?_, htaken⟩
  rw [harrive, runReq_line hready hmir (hlive.of_dirc htaken.dirc), hclear]

/-- A request that has nobody to recall is charged and served. -/
theorem arriveReq_clear (hop : op ∈ dirOps) (hclear : lineClear s line (opWant op) (some ep) = true) :
    ∃ u, arriveReq s k op m (fun s m => translateReq s k m)
        = (if op = 0x0A then serveEvict u (asOp op m) line else serveGrant u (asOp op m) line)
      ∧ TakenIn s u m ∧ Clean u := by
  obtain ⟨u, harrive, htaken⟩ := arriveReq_line hreq hfresh hspan h hlive
  have hopcode : (asOp op m).opcode.toNat = op := by
    simp only [dirOps, List.mem_cons, List.not_mem_nil, or_false] at hop
    rcases hop with rfl | rfl | rfl | rfl | rfl <;> rfl
  have hdiv : line * 128 / 128 = line := by omega
  rw [hopcode, hclear, if_pos rfl] at harrive
  refine ⟨chargeSegs u 0 [(line * 128, 128)], ?_, htaken.charge _, (htaken.charge _).clean hreq.clean⟩
  rw [harrive]
  simp only [serve, hopcode, List.head?_cons, Option.map_some, Option.getD_some, hdiv]
  simp only [dirOps, List.mem_cons, List.not_mem_nil, or_false] at hop
  rcases hop with rfl | rfl | rfl | rfl | rfl <;> rfl

end

/-! ### Grants (R193, R198, R213, R214) -/

/-- The response that grants a line, with its data or without. -/
def grantResp (s : State) (op line : Nat) (withLine : Bool) : Resp :=
  { opcode := op, status := sCOMPLETE, cause := 0, xf := 0, arg := now s, poison := false, line := some (line * 128)
    data := if withLine then memRead s.mem (line * 128) 128 else [] }

section
variable {s : State} {line ep : Nat} {m : Msg}

theorem grant_of_clean (h : Clean s) (op line : Nat) (withLine : Bool) : grant s op line withLine = (grantResp s op line withLine, s) := by
  cases withLine
  · rfl
  · simp only [grant, load_of_sound h.sound, stored_of_undef h.undef, if_true, Bool.false_eq_true, if_false, grantResp]

theorem takeEp_of_index {coord : Nat} (h : epOf s coord = some ep) : takeEp s coord = (s, some ep) := by
  simp only [takeEp, h]

theorem serveGrant_shared (h : Clean s) (hep : epOf s m.src.toNat = some ep) (hop : m.opcode.toNat = 0x01) {excl : Bool}
    (hexcl : (dirEnt s line = none ∧ excl = (rf s Reg.DIR_CTL 8 8 == 1)) ∨ (∃ e, dirEnt s line = some e ∧ e.st = 1 ∧ excl = false)) :
    serveGrant s m line = answer (addHolder s line ep excl) m (grantResp s (if excl then 0x42 else 0x41) line true) := by
  simp only [serveGrant, takeEp_of_index hep, fetchRange_of_sound h.sound, linePoisoned_of_sound h.sound, Bool.false_and, Bool.false_eq_true,
    if_false, hop, if_true, grant_of_clean h]
  rcases hexcl with ⟨hnone, rfl⟩ | ⟨e, hsome, hst, rfl⟩
  · simp only [hnone]
  · simp only [hsome, hst, Nat.reduceBEq, Bool.false_and, Bool.false_eq_true, if_false]

/-- RD_OWN, OWN_FULL, and the UPGRADE of a sharer make the sender the owner; RD_OWN alone carries the line. -/
theorem serveGrant_exclusive {op : Nat} (h : Clean s) (hep : epOf s m.src.toNat = some ep) (hop : m.opcode.toNat = op)
    (hkind : op = 0x02 ∨ op = 0x04 ∨ (op = 0x03 ∧ ∃ e, dirEnt s line = some e ∧ e.st ≠ 2 ∧ ep ∈ e.ptrs)) :
    serveGrant s m line = answer (addHolder s line ep true) m (grantResp s (ackOpcode op) line (op == 0x02)) := by
  simp only [serveGrant, takeEp_of_index hep, fetchRange_of_sound h.sound, linePoisoned_of_sound h.sound, Bool.false_and, Bool.false_eq_true,
    if_false, hop, grant_of_clean h]
  rcases hkind with rfl | rfl | ⟨rfl, e, hsome, hst, hmem⟩
  · rfl
  · rfl
  · have hst2 : (e.st != 2) = true := by simpa using hst
    have hsharer : e.ptrs.contains ep = true := by simpa using hmem
    simp only [hsome, hst2, hsharer]
    rfl

/-- The first holder of a line. -/
theorem addHolder_first (h : dirEnt s line = none) (ep : Nat) (excl : Bool) :
    addHolder s line ep excl = { s with dirc := { s.dirc with
      allocs := s.dirc.allocs + 1
      entries := tset s.dirc.entries line { st := if excl then 3 else 1, ptrs := [ep], coarse := 0, alloc := s.dirc.allocs } } } := by
  cases excl
  all_goals
    simp only [addHolder, h, Bool.false_eq_true, if_false, if_true]
    rw [setEnt_held _ _ (List.cons_ne_nil _ _)]

theorem addHolder_owner {e : DirEntry} (h : dirEnt s line = some e) (ep : Nat) :
    addHolder s line ep true
      = { s with dirc := { s.dirc with entries := tset s.dirc.entries line { e with st := 3, ptrs := [ep], coarse := 0 } } } := by
  simp only [addHolder, h, if_true]
  rw [setEnt_held _ _ (List.cons_ne_nil _ _)]

/-- A further sharer, up to four (R198). -/
theorem addHolder_sharer {e : DirEntry} (h : dirEnt s line = some e) (hst : e.st = 1) (hnew : ep ∉ e.ptrs) (hroom : e.ptrs.length < 4) :
    addHolder s line ep false
      = { s with dirc := { s.dirc with entries := tset s.dirc.entries line { e with ptrs := e.ptrs ++ [ep] } } } := by
  have hnew' : e.ptrs.contains ep = false := by simpa using hnew
  have hst2 : ¬ e.st = 2 := by omega
  obtain ⟨st, ptrs, coarse, alloc⟩ := e
  obtain rfl : st = 1 := hst
  simp only [addHolder, h, Bool.false_eq_true, if_false, hst2, hnew', hroom, if_true]
  rw [setEnt_held _ _ (by simp)]

/-- A request that has been taken in and answered leaves the directory it has made. -/
theorem answer_taken {s u : State} {op : Nat} (ht : TakenIn s u m) (d : Dir) (r : Resp) :
    ∃ t, answer { u with dirc := d } (asOp op m) r = t ∧ Answered t m r ∧ t.dirc = d ∧ t.mem = s.mem ∧ SameRegs s t chargeRegs := by
  have hans := answered_asOp (s := { u with dirc := d }) (op := op) ht.alone r
  obtain ⟨f, hfab⟩ := answer_fab { u with dirc := d } (asOp op m) r
  rw [hfab] at hans ⊢
  exact ⟨_, rfl, hans, rfl, ht.mem, ht.regs⟩

end

/-- The entry of one line has become e; pool memory, every other entry and every register but the byte counter stay. -/
structure Granted (s t : State) (line : Nat) (e : DirEntry) : Prop where
  entry : dirEnt t line = some e
  others : ∀ l, l ≠ line → dirEnt t l = dirEnt s l
  mem : t.mem = s.mem
  regs : SameRegs s t chargeRegs

theorem granted_of_answer {s u : State} {op line : Nat} {m : Msg} {e : DirEntry} (ht : TakenIn s u m) {d : Dir}
    (hd : d.entries = tset s.dirc.entries line e) (r : Resp) :
    ∃ t, answer { u with dirc := d } (asOp op m) r = t ∧ Granted s t line e ∧ Answered t m r := by
  obtain ⟨t, heq, hans, hdirc, hmem, hregs⟩ := answer_taken (op := op) ht d r
  obtain ⟨hentry, hothers⟩ := dirEnt_of_tset (s := s) (t := t) (by rw [hdirc]; exact hd)
  exact ⟨t, heq, ⟨hentry, hothers, hmem, hregs⟩, hans⟩

theorem TakenIn.grantResp {s u : State} {m : Msg} (h : TakenIn s u m) (op line : Nat) (withLine : Bool) :
    grantResp u op line withLine = grantResp s op line withLine := by
  unfold Machine.grantResp now
  rw [h.tb, h.mem]

theorem TakenIn.dirEnt {s u : State} {m : Msg} (h : TakenIn s u m) (l : Nat) : dirEnt u l = dirEnt s l := by
  unfold Machine.dirEnt
  rw [h.dirc]

theorem HoldersLive.of_none {s : State} {line : Nat} (h : dirEnt s line = none) : HoldersLive s line := fun e he =>
  absurd (h.symm.trans he) (by simp)

theorem HoldersLive.of_some {s : State} {line : Nat} {e : DirEntry} (h : dirEnt s line = some e) (hlive : ∀ x, x ∈ e.ptrs → epState s x = 1) :
    HoldersLive s line := fun _ he => Option.some.inj (h.symm.trans he) ▸ hlive

/-- A line that only the sender holds. -/
theorem HomeReady.live {s : State} {line ep : Nat} {m : Msg} {e : DirEntry} (h : HomeReady s line ep m) (hsome : dirEnt s line = some e)
    (honly : e.ptrs = [ep]) : HoldersLive s line :=
  .of_some hsome fun x hx => by
    rw [honly] at hx
    exact List.mem_singleton.1 hx ▸ h.active

theorem lineClear_of_none {s : State} {line : Nat} (h : dirEnt s line = none) (want : Nat) (ep : Option Nat) :
    lineClear s line want ep = true := by
  simp only [lineClear, holdersFor, h, List.isEmpty_nil]

section
variable {s : State} {k line ep : Nat} {m : Msg} (hline : line = m.addr.toNat / 128) (hreq : PpaReq s k m (line * 128) 128)
  (h : HomeReady s line ep m)
include hline hreq h

/-- The first reader of a line shares it, or owns it where DIR_CTL says so (R198). -/
theorem rdShared_first (hfresh : Fresh s 0x01 m) (hnone : dirEnt s line = none) :
    ∃ t, exec (.rdShared k m) s = .next t
      ∧ Granted s t line { st := if rf s Reg.DIR_CTL 8 8 = 1 then 3 else 1, ptrs := [ep], coarse := 0, alloc := s.dirc.allocs }
      ∧ Answered t m (grantResp s (if rf s Reg.DIR_CTL 8 8 = 1 then 0x42 else 0x41) line true) := by
  obtain ⟨u, heq, htaken, hclean⟩ := arriveReq_clear hreq hfresh (by rw [hline]; rfl) h (.of_none hnone) (by decide)
    (lineClear_of_none hnone _ _)
  have hnone' : dirEnt u line = none := (htaken.dirEnt line).trans hnone
  have hctl : rf u Reg.DIR_CTL 8 8 = rf s Reg.DIR_CTL 8 8 := congrArg (bits · 8 8) (htaken.regs _ (by decide))
  rw [if_neg (by decide), serveGrant_shared (m := asOp 0x01 m) hclean (h.of_taken htaken).index rfl (.inl ⟨hnone', rfl⟩),
    addHolder_first hnone', hctl, htaken.grantResp, htaken.dirc] at heq
  obtain ⟨t, ht, hgranted, hans⟩ := granted_of_answer (op := 0x01) htaken (d := { s.dirc with
    allocs := s.dirc.allocs + 1
    entries := tset s.dirc.entries line { st := if rf s Reg.DIR_CTL 8 8 = 1 then 3 else 1, ptrs := [ep], coarse := 0, alloc := s.dirc.allocs } })
    rfl (grantResp s (if rf s Reg.DIR_CTL 8 8 = 1 then 0x42 else 0x41) line true)
  simp only [beq_iff_eq] at heq
  exact ⟨t, congrArg Host.Outcome.next (heq.trans ht), hgranted, hans⟩

/-- RD_OWN and OWN_FULL make the sender the owner of a line without holder. -/
theorem owner_first {op : Nat} (hop : op = 0x02 ∨ op = 0x04) (hfresh : Fresh s op m) (hnone : dirEnt s line = none) :
    ∃ t, arriveReq s k op m (fun s m => translateReq s k m) = t
      ∧ Granted s t line { st := 3, ptrs := [ep], coarse := 0, alloc := s.dirc.allocs }
      ∧ Answered t m (grantResp s (ackOpcode op) line (op == 0x02)) := by
  have hkind : op ∈ dirOps ∧ op ≠ 0x0A ∧ (asOp op m).opcode.toNat = op ∧ reqSpan (asOp op m) = (line * 128, 128) := by
    rcases hop with rfl | rfl <;> exact ⟨by decide, by decide, rfl, by rw [hline]; rfl⟩
  obtain ⟨hmem, hne, hopcode, hspan⟩ := hkind
  obtain ⟨u, heq, htaken, hclean⟩ := arriveReq_clear hreq hfresh hspan h (.of_none hnone) hmem (lineClear_of_none hnone _ _)
  have hnone' : dirEnt u line = none := (htaken.dirEnt line).trans hnone
  rw [if_neg hne, serveGrant_exclusive (m := asOp op m) hclean (h.of_taken htaken).index hopcode (hop.imp_right .inl), addHolder_first hnone', htaken.grantResp,
    htaken.dirc] at heq
  obtain ⟨t, ht, hgranted, hans⟩ := granted_of_answer (op := op) htaken (d := { s.dirc with
    allocs := s.dirc.allocs + 1
    entries := tset s.dirc.entries line { st := 3, ptrs := [ep], coarse := 0, alloc := s.dirc.allocs } })
    rfl (grantResp s (ackOpcode op) line (op == 0x02))
  exact ⟨t, heq.trans ht, hgranted, hans⟩

/-- A further sharer is added (R198). -/
theorem rdShared_joins {e : DirEntry} (hfresh : Fresh s 0x01 m) (hsome : dirEnt s line = some e) (hst : e.st = 1) (hnew : ep ∉ e.ptrs)
    (hroom : e.ptrs.length < 4) (hlive : ∀ x, x ∈ e.ptrs → epState s x = 1) :
    ∃ t, exec (.rdShared k m) s = .next t ∧ Granted s t line { e with ptrs := e.ptrs ++ [ep] }
      ∧ Answered t m (grantResp s 0x41 line true) := by
  have hclear : lineClear s line (opWant 0x01) (some ep) = true := by
    simp [lineClear, holdersFor, hsome, hst, opWant]
  obtain ⟨u, heq, htaken, hclean⟩ := arriveReq_clear hreq hfresh (by rw [hline]; rfl) h (.of_some hsome hlive) (by decide) hclear
  have hsome' : dirEnt u line = some e := (htaken.dirEnt line).trans hsome
  rw [if_neg (by decide), serveGrant_shared (m := asOp 0x01 m) hclean (h.of_taken htaken).index rfl (.inr ⟨e, hsome', hst, rfl⟩),
    addHolder_sharer hsome' hst hnew hroom, htaken.grantResp, htaken.dirc] at heq
  obtain ⟨t, ht, hgranted, hans⟩ := granted_of_answer (op := 0x01) htaken (d := { s.dirc with
    entries := tset s.dirc.entries line { e with ptrs := e.ptrs ++ [ep] } }) rfl (grantResp s 0x41 line true)
  exact ⟨t, congrArg Host.Outcome.next (heq.trans ht), hgranted, hans⟩

section
variable {e : DirEntry} (hsome : dirEnt s line = some e) (hst : e.st = 1) (honly : e.ptrs = [ep])
include hsome hst honly

/-- The only sharer of a line becomes its owner (R198). -/
theorem upgrade_owns (hfresh : Fresh s 0x03 m) :
    ∃ t, exec (.upgrade k m) s = .next t ∧ Granted s t line { e with st := 3, coarse := 0 } ∧ Answered t m (grantResp s 0x44 line false) := by
  have hclear : lineClear s line (opWant 0x03) (some ep) = true := by
    simp [lineClear, holdersFor, hsome, hst, honly, opWant, h.active]
  obtain ⟨u, heq, htaken, hclean⟩ := arriveReq_clear hreq hfresh (by rw [hline]; rfl) h (h.live hsome honly) (by decide) hclear
  have hsome' : dirEnt u line = some e := (htaken.dirEnt line).trans hsome
  have hsharer : e.st ≠ 2 ∧ ep ∈ e.ptrs := ⟨by omega, by rw [honly]; exact List.mem_singleton_self _⟩
  rw [if_neg (by decide), serveGrant_exclusive (m := asOp 0x03 m) hclean (h.of_taken htaken).index rfl (.inr (.inr ⟨rfl, e, hsome', hsharer⟩)),
    addHolder_owner hsome', htaken.grantResp, htaken.dirc, ← honly] at heq
  obtain ⟨t, ht, hgranted, hans⟩ := granted_of_answer (op := 0x03) htaken (d := { s.dirc with
    entries := tset s.dirc.entries line { e with st := 3, coarse := 0 } }) rfl (grantResp s 0x44 line false)
  exact ⟨t, congrArg Host.Outcome.next (heq.trans ht), hgranted, hans⟩

/-- The only sharer of a line gives it up (R198). -/
theorem evictClean_leaves (hfresh : Fresh s 0x0A m) :
    Completes (.evictClean k m) s (fun t =>
      dirEnt t line = none ∧ (∀ l, l ≠ line → dirEnt t l = dirEnt s l) ∧ Answered t m (Resp.plain 0x49 sCOMPLETE 0 0 0) ∧ t.mem = s.mem) := by
  have hclear : lineClear s line (opWant 0x0A) (some ep) = true := by
    simp [lineClear, holdersFor, hsome, opWant]
  obtain ⟨u, heq, htaken, -⟩ := arriveReq_clear hreq hfresh (by rw [hline]; rfl) h (h.live hsome honly) (by decide) hclear
  have hsome' : dirEnt u line = some e := (htaken.dirEnt line).trans hsome
  have hindex : epOf u (asOp 0x0A m).src.toNat = some ep := (h.of_taken htaken).index
  have hst2 : ¬ e.st = 2 := by omega
  have hleft : e.ptrs.filter (fun x => x != ep) = [] := by simp [honly]
  have hevict : serveEvict u (asOp 0x0A m) line = answer { u with dirc := { s.dirc with entries := tdel s.dirc.entries line } } (asOp 0x0A m)
      (Resp.plain 0x49 sCOMPLETE 0 0 0) := by
    simp only [serveEvict, hsome', hindex, hst2, if_false]
    rw [setEnt_unheld (e := { e with ptrs := e.ptrs.filter (fun x => x != ep) }) _ _ hst2 hleft, setEnt, htaken.dirc]
  obtain ⟨t, ht, hans, hdirc, hmem, -⟩ := answer_taken (op := 0x0A) htaken { s.dirc with entries := tdel s.dirc.entries line }
    (Resp.plain 0x49 sCOMPLETE 0 0 0)
  obtain ⟨hentry, hothers⟩ := dirEnt_of_tdel (s := s) (t := t) (line := line) (by rw [hdirc])
  rw [if_pos rfl, hevict, ht] at heq
  exact ⟨t, congrArg Host.Outcome.next heq, hentry, hothers, hans, hmem⟩

end

/-- A line that another endpoint owns is recalled, and the request waits (R193, R195). -/
theorem rdOwn_recalls {e : DirEntry} {y : Nat} (hfresh : Fresh s 0x02 m) (hsome : dirEnt s line = some e) (hst : e.st = 3)
    (howner : e.ptrs = [y]) (hother : y ≠ ep) (hlive : epState s y = 1) :
    Completes (.rdOwn k m) s (fun t =>
      (∃ u r, t.dirc.txns = [u] ∧ u.active = true ∧ u.line = line ∧ u.recalls = [r] ∧ r.ep = y ∧ r.belief = 1)
      ∧ dirEnt t line = some e ∧ tget t.fab.inProgress (reqKey m) ≠ none ∧ t.mem = s.mem) := by
  have hholders : holdersFor s line 2 (some ep) = [(y, 1)] := by
    simp [holdersFor, hsome, hst, howner, hlive, hother]
  have hbusy : lineClear s line 2 (some ep) = false := by rw [lineClear, hholders]; rfl
  obtain ⟨u, heq, htaken⟩ := arriveReq_line hreq hfresh (by rw [hline]; rfl) h
    (.of_some hsome fun x hx => by rw [howner] at hx; exact List.mem_singleton.1 hx ▸ hlive)
  have hready := h.of_taken htaken
  have hwho : whoHolders u line (.req k (asOp 0x02 m) [(line * 128, 128)] 0) = [(y, 1)] := by
    have hindex : epOf u (asOp 0x02 m).src.toNat = some ep := hready.index
    have hsame : holdersFor u line 2 (some ep) = [(y, 1)] := (holdersFor_of_dirc htaken.dirc line 2 (some ep)).trans hholders
    rw [← hsame, ← hindex]
    rfl
  obtain ⟨f, id, hbegin⟩ := beginTxn_of_one hready.idle (wantsWay_of_shared hready.way _) hwho
  have hwant : opWant (asOp 0x02 m).opcode.toNat = 2 := rfl
  rw [hwant, hbusy, if_neg (by decide), hbegin] at heq
  refine ⟨_, congrArg Host.Outcome.next heq, ⟨_, _, rfl, rfl, rfl, rfl, rfl, rfl⟩, (htaken.dirEnt line).trans hsome, ?_, htaken.mem⟩
  have hparked := fun v : Msg => tget_tset_self f.inProgress (reqKey m) v
  exact fun hnone => Option.some_ne_none _ ((hparked _).symm.trans hnone)

end

/-- A request for a grant of a line that is not coherent is turned away (R33). -/
theorem rdShared_not_coherent {s : State} {k line : Nat} {m : Msg} (hline : line = m.addr.toNat / 128) (hreq : PpaReq s k m (line * 128) 128)
    (hc : (extRec s (extOf (line * 128))).coherent = false) (hfresh : Fresh s 0x01 m) :
    Completes (.rdShared k m) s (fun t => Answered t m (Resp.faulted 0x41 cNOT_COHERENT) ∧ SameRegs s t [] ∧ SamePool s t) := by
  obtain ⟨f, htake, hprog⟩ := takeMsg_eq s k m
  have halone : tget f.inProgress (reqKey m) = none := by rw [hprog]; exact hfresh.alone
  have hspan : reqSpan (asOp 0x01 m) = (line * 128, 128) := by rw [hline]; rfl
  have hfault : translateReq { s with fab := f } k (asOp 0x01 m)
      = answer { s with fab := f } (asOp 0x01 m) (Resp.faulted 0x41 cNOT_COHERENT) := by
    rw [translateReq_ppa (hreq.of_fab f 0x01) hspan (by omega), runReq_of_plain (s := { s with fab := f }) hc hreq.mirrored hreq.inside]
    rfl
  have hans := answered_asOp (s := { s with fab := f }) (op := 0x01) halone (Resp.faulted 0x41 cNOT_COHERENT)
  obtain ⟨f', hfab⟩ := answer_fab { s with fab := f } (asOp 0x01 m) (Resp.faulted 0x41 cNOT_COHERENT)
  rw [hfab] at hfault hans
  exact ⟨_, congrArg Host.Outcome.next ((arriveReq_fresh hfresh k _).trans (by rw [htake, hfault])), hans, SameRegs.of_regs rfl _,
    ⟨rfl, rfl, rfl, rfl, rfl, rfl, rfl⟩⟩

/-- Settles O44: what a fresh request for one coherent line meets is decided by the line's entry. -/
theorem coherentRequestsGrantOrRecall : Obligations.CoherentRequestsGrantOrRecall := by
  unfold Obligations.CoherentRequestsGrantOrRecall
  refine fun s k line ep m hline hreq => ⟨fun hc hidle hindex hactive hway => ?_, fun hc hf => rdShared_not_coherent hline hreq hc hf⟩
  have h : HomeReady s line ep m := ⟨hc, hidle, hindex, hactive, hway⟩
  refine ⟨fun hnone => ⟨fun hf => ?_, fun hf => ?_, fun hf => ?_⟩, fun e hsome hst => ⟨fun hf hnew hroom hlive => ?_, fun hf honly => ?_,
    fun hf honly => evictClean_leaves hline hreq h hsome hst honly hf⟩,
    fun e y hsome hst howner hother hlive hf => rdOwn_recalls hline hreq h hf hsome hst howner hother hlive⟩
  case refine_1 =>
    obtain ⟨t, heq, ⟨hentry, hothers, hmem, hregs⟩, hans⟩ := rdShared_first hline hreq h hf hnone
    exact ⟨t, heq, ⟨_, hentry, rfl, rfl⟩, hothers, hmem, hregs, _, hans, rfl, rfl, rfl⟩
  case refine_2 =>
    obtain ⟨t, heq, ⟨hentry, hothers, hmem, hregs⟩, hans⟩ := owner_first hline hreq h (.inl rfl) hf hnone
    exact ⟨t, congrArg Host.Outcome.next heq, ⟨_, hentry, rfl, rfl⟩, hothers, hmem, hregs, _, hans, rfl, rfl, rfl⟩
  case refine_3 =>
    obtain ⟨t, heq, ⟨hentry, hothers, hmem, hregs⟩, hans⟩ := owner_first hline hreq h (.inr rfl) hf hnone
    exact ⟨t, congrArg Host.Outcome.next heq, ⟨_, hentry, rfl, rfl⟩, hothers, hmem, hregs, _, hans, rfl, rfl⟩
  case refine_4 =>
    obtain ⟨t, heq, ⟨hentry, hothers, hmem, -⟩, hans⟩ := rdShared_joins hline hreq h hf hsome hst hnew hroom hlive
    exact ⟨t, heq, hentry, hothers, ⟨_, hans, rfl, rfl⟩, hmem⟩
  case refine_5 =>
    obtain ⟨t, heq, ⟨hentry, hothers, hmem, -⟩, hans⟩ := upgrade_owns hline hreq h hsome hst honly hf
    exact ⟨t, heq, hentry, hothers, ⟨_, hans, rfl, rfl⟩, hmem⟩

end Sys2Proof.Machine
end

section
/-! PROOFS. The end of transactions, and the answers of hosts to recalls (O45). -/

namespace Sys2Proof.Machine
open Sys2Proof

/-! ### The end of a transaction (R195, R205, R206) -/

section
variable {s : State} {t : Txn} {r : Recall} {e : DirEntry}

/-- An ACTIVE transaction of an agent of the module, which waits for these recalls. -/
structure AgentWaits (s : State) (t : Txn) (l : List Recall) : Prop where
  only : s.dirc.txns = [t]
  active : t.active = true
  agent : ∃ w, t.who = .agent w
  unserved : t.served = false
  unvictim : t.victim = none
  recalls : t.recalls = l

/-- Replacing the only transaction. -/
theorem swapTxn_only (h : s.dirc.txns = [t]) (u : Txn) : swapTxn s t u = setTxns s [u] := by
  simp only [swapTxn, h, List.map_cons, List.map_nil, if_true]

/-- An agent whose recalls are all answered leaves, and what it was served stays to the agent. -/
theorem completeTxn_of_agent (h : AgentWaits s t []) (hfree : dirEnt s t.line = none) : completeTxn s t = setTxns s [] := by
  obtain ⟨honly, hactive, ⟨w, hwho⟩, hserved, hvictim, hrecalls⟩ := h
  have hsettle : settleCoarse s t = s := by
    simp only [settleCoarse, hvictim, hfree, ite_self]
  have hready : t.ready = true := by rw [Txn.ready, hrecalls]; rfl
  simp only [completeTxn, hactive, hready, honly, hserved, hsettle, hrecalls, hwho, Bool.not_true, Bool.or_self, List.contains_cons,
    BEq.rfl, Bool.true_or, Bool.false_eq_true, if_false, List.isEmpty_nil, if_true, List.erase_cons_head]

/-- A line that agents want is kept for no requester. -/
theorem grants_of_agent (h : ∃ w, t.who = .agent w) (line : Nat) : t.grants line = false := by
  obtain ⟨w, hw⟩ := h
  simp only [Txn.grants, hw, Bool.and_false]

/-- The only recall of a transaction is taken out of it. -/
theorem dropRecall_only (h : t.recalls = [r]) : dropRecall t r.line r.ep = { t with recalls := [] } := by
  simp [dropRecall, h]

/-- The only holder of a line, not a coarse one, has given it up. -/
theorem recallAnswered_only (he : dirEnt s r.line = some e) (hptrs : e.ptrs = [r.ep]) (hst : e.st ≠ 2) :
    recallAnswered s r false false = setEnt s r.line none := by
  have hleft : e.ptrs.filter (fun x => x != r.ep) = [] := by simp [hptrs]
  simp only [recallAnswered, he, hst, if_false, Bool.false_eq_true, Bool.false_and]
  exact setEnt_unheld (e := { e with ptrs := e.ptrs.filter (fun x => x != r.ep) }) s r.line hst hleft

/-- The last answer to an agent's recall frees the line and ends the transaction. -/
theorem recallDone_of_agent (h : AgentWaits s t [r]) (hline : r.line = t.line) (he : dirEnt s t.line = some e) (hptrs : e.ptrs = [r.ep])
    (hst : e.st ≠ 2) :
    recallDone s t r false = { s with dirc := { s.dirc with txns := [], entries := tdel s.dirc.entries t.line } } := by
  obtain ⟨honly, hactive, hwho, hserved, hvictim, hrecalls⟩ := h
  have hleft := recallAnswered_only (s := setTxns s [{ t with recalls := [] }]) (r := r) (hline ▸ he) hptrs hst
  have hends := completeTxn_of_agent (s := setEnt (setTxns s [{ t with recalls := [] }]) t.line none) (t := { t with recalls := [] })
    ⟨rfl, hactive, hwho, hserved, hvictim, rfl⟩ (tget_tdel_self _ _)
  rw [recallDone, dropRecall_only hrecalls, swapTxn_only honly, grants_of_agent hwho, hleft, hline]
  exact hends

theorem findRecall_of_only {m : Msg} (honly : s.dirc.txns = [t]) (hactive : t.active = true) (hrecalls : t.recalls = [r])
    (hid : r.id = m.reqid.toNat) (hfrom : epCoord s r.ep = m.src.toNat) : findRecall s m = some (t, r) := by
  simp [findRecall, honly, hactive, hrecalls, hid, hfrom]

end

/-! ### A host's message (R72, R200, R210) -/

/-- A host's message is taken out of its pool, and takes effect. -/
theorem arriveRsp_runs {s : State} (hcoord : s.fab.coord.isNone = false) (hsafe : inSafe s = false) (k : Nat) (m : Msg) :
    ∃ f, (∀ g, arriveRsp s k m g = g { s with fab := f }) ∧ f.inProgress = s.fab.inProgress := by
  obtain ⟨f, htake, hprog⟩ := takeMsg_eq s k m
  have hsame : (takeMsg s k m).fab.coord = s.fab.coord := by
    unfold takeMsg
    dsimp only
    split <;> rfl
  rw [htake] at hsame
  have hgoes : (f.coord.isNone || inSafe { s with fab := f }) = false := by
    rw [hsame, hcoord]
    exact hsafe
  refine ⟨f, fun g => ?_, hprog⟩
  simp only [arriveRsp, htake, hgoes, Bool.false_eq_true, if_false]

theorem fromFailed_of_active {s : State} {m : Msg} {x : Nat} (hx : epOf s m.src.toNat = some x) (hactive : epState s x = 1) :
    fromFailed s m = false := by
  simp [fromFailed, hx, hactive]

/-! ### The data of a host (R200) -/

section
variable {s : State} {line : Nat}

/-- A write within one line of an extent that is neither mirrored nor copied puts its bytes. -/
theorem storePiece_of_still {a : Nat} (h : Clean s) (hm : (extRec s (extOf a)).mirrored = false)
    (hg : tget s.xlt.migrations (extOf a) = none) (b : List Byte) : storePiece s a b = (false, poke s a b) := by
  have hc : Clean (poke s a b) := h.of_dram_regs rfl rfl
  have hfold : ∀ l : List Nat, l.foldl (fun s w => setMark s (a / 256 * 32 + w) 0) (poke s a b) = poke s a b :=
    List.foldl_fixed' fun w => setMark_zero_of_marks hc.marks _
  simp only [storePiece, settleLine_of_sound h.sound, h.up, linePoisoned_of_sound h.sound, Bool.false_and,
    Bool.false_eq_true, if_false, rawStore_of_undef h.undef, hfold, injectWrite_of_clean hc,
    noteMigration_of_none (s := poke s a b) hg, noteDirty_of_unmirrored (s := poke s a b) hm]

/-- The data of a host is written to its line, and the watch filter sees it. -/
theorem writeBack_of_still {m : Msg} (h : Clean s) (hm : (extRec s (extOf (line * 128))).mirrored = false)
    (hg : tget s.xlt.migrations (extOf (line * 128)) = none) (hpoison : m.poison = false) :
    ∃ sig, writeBack s line m = { s with mem := memWrite s.mem (line * 128) (slice m.data 0 128), sig := sig } := by
  have hlen : (slice m.data 0 128).length = 128 := length_slice _ _ _
  have hne : slice m.data 0 128 ≠ [] := fun h0 => by rw [h0] at hlen; exact absurd hlen (by decide)
  have hwithin : line * 128 % 128 + (slice m.data 0 128).length ≤ 128 := by omega
  have hc : Clean (poke s (line * 128) (slice m.data 0 128)) := h.of_dram_regs rfl rfl
  have hseals : ∀ l : List Nat, l.foldl writeSeal (poke s (line * 128) (slice m.data 0 128)) = poke s (line * 128) (slice m.data 0 128) :=
    List.foldl_fixed' fun p => writeSeal_of_clean hc p
  have hstore : store s (line * 128) (slice m.data 0 128)
      = (false, noteWatch (poke s (line * 128) (slice m.data 0 128)) (line * 128) 128 none) := by
    simp only [store, List.isEmpty_iff, hne, if_false, fetchRange_of_sound h.sound, linePieces_one hne hwithin, List.foldl_cons,
      List.foldl_nil, storePiece_of_still h hm hg, hseals, Bool.or_false, hlen]
  refine ⟨(noteWatch (poke s (line * 128) (slice m.data 0 128)) (line * 128) 128 none).sig, ?_⟩
  simp only [writeBack, hpoison, Bool.false_eq_true, if_false, hstore]
  rfl

theorem memByte_memWrite_other_line (m : Tab Byte) {b : List Byte} (hb : b.length = 128) {y : Nat} (hy : y / 128 ≠ line) :
    memByte (memWrite m (line * 128) b) y = memByte m y :=
  memByte_memWrite_out _ _ _ (by omega)

end

/-! ### The answers to a recall (R192, R200, R205) -/

/-- One agent of the module waits for this host alone to give up a line that the host holds (R193, R207): the message is the
host's, and echoes the recall's REQID. -/
structure RecalledFrom (s : State) (m : Msg) (t : Txn) (r : Recall) (e : DirEntry) : Prop where
  coord : s.fab.coord.isNone = false
  running : inSafe s = false
  waits : AgentWaits s t [r]
  writes : t.who = .agent true
  line : r.line = t.line
  id : r.id = m.reqid.toNat
  host : epCoord s r.ep = m.src.toNat
  index : epOf s m.src.toNat = some r.ep
  live : epState s r.ep = 1
  entry : dirEnt s t.line = some e
  holder : e.ptrs = [r.ep]
  fine : e.st ≠ 2

section
variable {s : State} {m : Msg} {t0 : Txn} {r : Recall} {e : DirEntry} (h : RecalledFrom s m t0 r e)
include h

theorem rclAck_ends (k : Nat) (hxf : m.xf.toNat = 0) :
    Completes (.rclAck k m) s (fun t =>
      t.dirc.txns = [] ∧ dirEnt t t0.line = none ∧ (∀ l, l ≠ t0.line → dirEnt t l = dirEnt s l) ∧ t.mem = s.mem ∧ SameRegs s t []) := by
  obtain ⟨f, hrun, -⟩ := arriveRsp_runs h.coord h.running k m
  have hfind : findRecall { s with fab := f } m = some (t0, r) :=
    findRecall_of_only h.waits.only h.waits.active h.waits.recalls h.id h.host
  have hwaits : AgentWaits { s with fab := f } t0 [r] := by
    obtain ⟨honly, hactive, hagent, hserved, hvictim, hrecalls⟩ := h.waits
    exact ⟨honly, hactive, hagent, hserved, hvictim, hrecalls⟩
  have hdone := recallDone_of_agent (s := { s with fab := f }) hwaits h.line h.entry h.holder h.fine
  have hexec : exec (.rclAck k m) s = .next (recallDone { s with fab := f } t0 r false) := by
    simp [exec, execRclAck, hrun, hfind, hxf]
  rw [hdone] at hexec
  obtain ⟨hnone, hothers⟩ := dirEnt_of_tdel (s := s) (t := { s with
    fab := f, dirc := { s.dirc with txns := [], entries := tdel s.dirc.entries t0.line } }) rfl
  exact ⟨_, hexec, rfl, hnone, hothers, rfl, SameRegs.of_regs rfl _⟩

theorem rclData_ends (k : Nat) (hpoison : m.poison = false) (hclean : Clean s) (hm : (extRec s (extOf (t0.line * 128))).mirrored = false)
    (hg : tget s.xlt.migrations (extOf (t0.line * 128)) = none) :
    Completes (.rclData k m) s (fun t =>
      t.dirc.txns = [] ∧ dirEnt t t0.line = none ∧ t.mem = memWrite s.mem (t0.line * 128) (slice m.data 0 128)
      ∧ (∀ y, y / 128 ≠ t0.line → memByte t.mem y = memByte s.mem y) ∧ SameRegs s t []) := by
  obtain ⟨f, hrun, -⟩ := arriveRsp_runs h.coord h.running k m
  obtain ⟨sig, hwrite⟩ := writeBack_of_still (s := { s with fab := f }) (line := t0.line) (hclean.of_dram_regs rfl rfl) hm hg hpoison
  have hfind : findRecall { s with fab := f } m = some (t0, r) :=
    findRecall_of_only h.waits.only h.waits.active h.waits.recalls h.id h.host
  have hlive : fromFailed { s with fab := f } m = false := fromFailed_of_active (s := { s with fab := f }) h.index h.live
  have hwaits : AgentWaits { s with fab := f, mem := memWrite s.mem (t0.line * 128) (slice m.data 0 128), sig := sig } t0 [r] := by
    obtain ⟨honly, hactive, hagent, hserved, hvictim, hrecalls⟩ := h.waits
    exact ⟨honly, hactive, hagent, hserved, hvictim, hrecalls⟩
  have hdone := recallDone_of_agent hwaits h.line h.entry h.holder h.fine
  have hwant : sharedRecall t0 r = false := by
    simp only [sharedRecall, h.writes, TxnWho.want]
    simp
  have hexec : exec (.rclData k m) s
      = .next (recallDone { s with fab := f, mem := memWrite s.mem (t0.line * 128) (slice m.data 0 128), sig := sig } t0 r false) := by
    simp only [exec, execRclData, hrun, hlive, Bool.false_eq_true, if_false, hfind, h.line, hwrite, hwant]
  rw [hdone] at hexec
  refine ⟨_, hexec, rfl, tget_tdel_self _ _, rfl, fun y hy => ?_, SameRegs.of_regs rfl _⟩
  exact memByte_memWrite_other_line s.mem (length_slice _ _ _) hy

end

/-! ### Write-backs (R198 to R200, R565) -/

section
variable {s : State} {k line x : Nat} {m : Msg} (hcoord : s.fab.coord.isNone = false) (hsafe : inSafe s = false)
  (hline : line = m.addr.toNat / 128) (hreq : PpaReq s k m (line * 128) 128) (hx : epOf s m.src.toNat = some x) (hlive : epState s x = 1)
  (halone : tget s.fab.inProgress (reqKey m) = none)
include hline hreq

/-- A write-back by PPA names its line. -/
theorem wbackLine_ppa (f : Fabric) : wbackLine { s with fab := f } (asOp 0x52 m) = some line := by
  have hkind : (asOp 0x52 m).akind = 2 := hreq.kind
  have hok : ppaOk ((asOp 0x52 m).addr.toNat / 128 * 128) 128 = true := hline ▸ hreq.ok
  simp only [wbackLine, hkind, if_true, hok]
  rw [hline]
  rfl

include hcoord hsafe hx hlive halone

theorem wback_writes {e : DirEntry} (hc : (extRec s (extOf (line * 128))).coherent = true) (he : dirEnt s line = some e) (hst : e.st = 3)
    (howner : e.ptrs = [x]) (hidle : DirIdle s) (hpoison : m.poison = false) :
    Completes (.wback k m) s (fun t =>
      dirEnt t line = none ∧ t.mem = memWrite s.mem (line * 128) (slice m.data 0 128)
      ∧ (∀ y, y / 128 ≠ line → memByte t.mem y = memByte s.mem y) ∧ Answered t m (Resp.plain 0x4A sCOMPLETE 0 0 0) ∧ SameRegs s t []) := by
  obtain ⟨f, hrun, hprog⟩ := arriveRsp_runs hcoord hsafe k m
  have hfrom : fromFailed { s with fab := f } (asOp 0x52 m) = false := fromFailed_of_active (s := { s with fab := f }) (m := asOp 0x52 m) hx hlive
  have hcoh : coherentLine { s with fab := f } line = true := hc
  have hent : dirEnt { s with fab := f } line = some e := he
  have hidx : epOf { s with fab := f } m.src.toNat = some x := hx
  obtain ⟨sig, hwrite⟩ := writeBack_of_still (s := { s with fab := f }) (m := asOp 0x52 m) (line := line) (hreq.clean.of_dram_regs rfl rfl)
    hreq.mirrored hreq.still hpoison
  generalize hu : setEnt { s with fab := f, mem := memWrite s.mem (line * 128) (slice m.data 0 128), sig := sig } line none = u
  have hmir : (extRec u (extOf (line * 128))).mirrored = false := by rw [← hu]; exact hreq.mirrored
  have hnone : recallTxn (answer u (asOp 0x52 m) (Resp.plain 0x4A sCOMPLETE 0 0 0)) line x = none := by
    obtain ⟨f', hfab⟩ := answer_fab u (asOp 0x52 m) (Resp.plain 0x4A sCOMPLETE 0 0 0)
    rw [hfab, ← hu]
    simp [recallTxn, setEnt, hidle.1]
  have hexec : exec (.wback k m) s = .next (answer u (asOp 0x52 m) (Resp.plain 0x4A sCOMPLETE 0 0 0)) := by
    have hack : ackWback u line (asOp 0x52 m) = answer u (asOp 0x52 m) (Resp.plain 0x4A sCOMPLETE 0 0 0) :=
      answerWrite_of_plain hmir hreq.inside _ _
    have hdata : slice (asOp 0x52 m).data 0 128 = slice m.data 0 128 := rfl
    rw [hdata] at hwrite
    have hmsg : { m with opcode := 0x52#8 } = asOp 0x52 m := rfl
    simp only [exec, execWback, hmsg, hrun, hfrom, Bool.false_eq_true, if_false, wbackLine_ppa hline hreq f, hcoh, Bool.not_true, hent, hidx, hst,
      howner, BEq.rfl, Bool.and_self, Option.getD_some, hwrite, hu, hack, hnone]
  have hans := answered_asOp (s := u) (op := 0x52) (m := m) (by rw [← hu]; exact hprog ▸ halone) (Resp.plain 0x4A sCOMPLETE 0 0 0)
  obtain ⟨f', hfab⟩ := answer_fab u (asOp 0x52 m) (Resp.plain 0x4A sCOMPLETE 0 0 0)
  rw [hfab] at hexec hans
  subst hu
  refine ⟨_, hexec, tget_tdel_self _ _, rfl, fun y hy => ?_, hans, SameRegs.of_regs rfl _⟩
  exact memByte_memWrite_other_line s.mem (length_slice _ _ _) hy

/-- A write-back of a line that is not coherent is turned away and counted (R565). -/
theorem wback_refused (hc : (extRec s (extOf (line * 128))).coherent = false) :
    Completes (.wback k m) s (fun t =>
      Answered t m (Resp.faulted 0x4A cNOT_COHERENT)
      ∧ rg t Reg.DIR_LATE_DISCARD = min (rg s Reg.DIR_LATE_DISCARD + 1) 0xFFFFFFFF ∧ SameRegs s t [Reg.DIR_LATE_DISCARD]
      ∧ SamePool s t) := by
  obtain ⟨f, hrun, hprog⟩ := arriveRsp_runs hcoord hsafe k m
  have hfrom : fromFailed { s with fab := f } (asOp 0x52 m) = false := fromFailed_of_active (s := { s with fab := f }) (m := asOp 0x52 m) hx hlive
  have hcoh : coherentLine { s with fab := f } line = false := hc
  have hmsg : { m with opcode := 0x52#8 } = asOp 0x52 m := rfl
  have hexec : exec (.wback k m) s = .next (answer (bump { s with fab := f } Reg.DIR_LATE_DISCARD 1) (asOp 0x52 m)
      (Resp.faulted 0x4A cNOT_COHERENT)) := by
    simp only [exec, execWback, hmsg, hrun, hfrom, Bool.false_eq_true, if_false, wbackLine_ppa hline hreq f, hcoh, Bool.not_false, if_true,
      refuseWback]
  have hans := answered_asOp (s := bump { s with fab := f } Reg.DIR_LATE_DISCARD 1) (op := 0x52) (m := m)
    (by rw [bump_fab, hprog]; exact halone) (Resp.faulted 0x4A cNOT_COHERENT)
  obtain ⟨f', hfab⟩ := answer_fab (bump { s with fab := f } Reg.DIR_LATE_DISCARD 1) (asOp 0x52 m) (Resp.faulted 0x4A cNOT_COHERENT)
  rw [hfab] at hexec hans
  exact ⟨_, hexec, hans, rg_bump_self { s with fab := f } Reg.DIR_LATE_DISCARD 1,
    sameRegs_bump { s with fab := f } 1 (List.mem_singleton_self _), ⟨rfl, rfl, rfl, rfl, rfl, rfl, rfl⟩⟩

end

/-! ### Pushes (R208) -/

section
variable {s : State} {x : Nat} {m : Msg} {t0 : Txn} (honly : s.dirc.txns = [t0]) (hpush : t0.push = some x) (hid : t0.pushId = m.reqid.toNat)
include honly hpush hid

theorem pushAck_ends (k : Nat) (hcoord : s.fab.coord.isNone = false) (hsafe : inSafe s = false) (hfrom : epCoord s x = m.src.toNat)
    (hlive : epState s x = 1) (hnone : dirEnt s t0.line = none) (hway : wantsWay s t0.line 1 = false) :
    Completes (.pushAck k m) s (fun t =>
      t.dirc.txns = [] ∧ (bit m.xf.toNat 0 = true → ∃ e, dirEnt t t0.line = some e ∧ e.st = 1 ∧ e.ptrs = [x])
      ∧ (bit m.xf.toNat 0 = false → dirEnt t t0.line = none) ∧ (∀ l, l ≠ t0.line → dirEnt t l = dirEnt s l)
      ∧ t.mem = s.mem ∧ SameRegs s t []) := by
  obtain ⟨f, hrun, -⟩ := arriveRsp_runs hcoord hsafe k m
  have hfrom' : epCoord { s with fab := f } x = m.src.toNat := hfrom
  have hlive' : epState { s with fab := f } x = 1 := hlive
  have hexec : exec (.pushAck k m) s
      = .next (if bit m.xf.toNat 0 then acceptPush { s with fab := f } t0 x else setTxns { s with fab := f } []) := by
    simp [exec, execPushAck, hrun, honly, hpush, hid, hfrom', hlive']
  cases hbit : bit m.xf.toNat 0 with
  | false =>
    rw [hbit, if_neg (by decide)] at hexec
    exact ⟨_, hexec, rfl, fun h => absurd h (by decide), fun _ => hnone, fun _ _ => rfl, rfl, SameRegs.of_regs rfl _⟩
  | true =>
    have hway' : wantsWay { s with fab := f } t0.line 1 = false := hway
    have haccept : acceptPush { s with fab := f } t0 x = addHolder (setTxns { s with fab := f } []) t0.line x false := by
      simp only [acceptPush, hway', Bool.not_false, if_true, honly, List.erase_cons_head]
    rw [hbit, if_pos rfl, haccept, addHolder_first (s := setTxns { s with fab := f } []) hnone] at hexec
    refine ⟨_, hexec, rfl, fun _ => ⟨_, tget_tset_self _ _ _, rfl, rfl⟩, fun h => absurd h (by decide), fun l hl => tget_tset_ne _ _ hl, rfl,
      SameRegs.of_regs rfl _⟩

/-- A push that is not answered in time leaves the line uncached. -/
theorem pushAckTimeout_ends :
    Completes (.pushAckTimeout t0.line) s (fun t =>
      t.dirc.txns = [] ∧ t0.pushAt + recallTo s ≤ now t ∧ t.dirc.entries = s.dirc.entries ∧ t.mem = s.mem ∧ SameRegs s t []) := by
  have hunmarked : (t0.pushId != 2 ^ 24) = true := by
    have hlt := m.reqid.isLt
    rw [hid, bne_iff_ne]
    omega
  have hexec : exec (.pushAckTimeout t0.line) s = .next (setTxns (reach s (t0.pushAt + recallTo s)) []) := by
    simp only [exec, execPushAckTimeout, honly, List.find?_cons, BEq.rfl, hpush, Option.isSome_some, hunmarked, Bool.and_self, List.erase_cons_head]
  have hentries := congrArg Dir.entries (reach_dirc s (t0.pushAt + recallTo s))
  exact ⟨_, hexec, rfl, le_now_reach _ _, hentries, reach_mem _ _, SameRegs.of_regs (reach_regs _ _) _⟩

end

/-! ### What waits in a slice (R195, R197) -/

/-- An agent that has waited for its line finds it free, and goes on. -/
theorem transactionActivate_of_agent {s : State} {t0 : Txn} {w : Bool} (honly : s.dirc.txns = [t0]) (hwaits : t0.active = false)
    (hagent : t0.who = .agent w) (hnone : dirEnt s t0.line = none) :
    exec (.transactionActivate t0.line) s = .next (setTxns s []) := by
  have hway : wantsWay s t0.line (TxnWho.agent w).want = false := by cases w <;> rfl
  have hholders : whoHolders s t0.line (.agent w) = [] := by
    simp only [whoHolders, holdersFor, hnone]
  have hopen : openTxn (purge s t0.line) t0.line t0.who = (s, some (Txn.fresh t0.line (.agent w) true)) := by
    rw [purge_of_live (.of_none hnone), hagent, openTxn_of_way hway, hholders]
    rfl
  have hends := completeTxn_of_agent (s := setTxns s [Txn.fresh t0.line (.agent w) true]) (t := Txn.fresh t0.line (.agent w) true)
    ⟨rfl, rfl, ⟨w, rfl⟩, rfl, rfl, rfl⟩ hnone
  simp only [exec, execTransactionActivate, activateNext, honly, List.any_cons, List.any_nil, hwaits, Bool.false_and, Bool.or_self,
    Bool.false_eq_true, if_false, List.find?_cons, Bool.not_false, BEq.rfl, Bool.and_self, hopen, List.erase_cons_head, hends]
  rfl

/-- An agent that a held REQ input has kept out puts its own request again: what is left is the count of the hold (R221). -/
theorem reqInputResume_of_agent {s : State} {line t0 : Nat} {w : Bool} (htxns : s.dirc.txns = [])
    (hheld : s.dirc.heldReq = [(t0, .agent w, line)]) :
    exec (.reqInputResume (dirSlice line)) s = .next { bump s Reg.DIR_REQHOLD ((now s - t0) * 8 / 5) with
      dirc := { s.dirc with heldReq := [] } } := by
  simp [exec, execReqInputResume, htxns, hheld, resumeHeld]

/-- Settles O45: an answer that ends the only recall of an agent's transaction frees the line, a write-back of the owner reaches its line,
and what no one waits for any more leaves the directory. -/
theorem hostsAnswerRecalls : Obligations.HostsAnswerRecalls := by
  unfold Obligations.HostsAnswerRecalls
  refine ⟨fun s k x m t0 r e hcoord hsafe honly hactive hwho hserved hvictim hrecalls hrl hrx hid hfrom hidx hlive he hptrs hst => ?_,
    fun s k line x m hcoord hsafe hline hreq hx hlive halone => ⟨fun e hc he hst howner hidle hp => ?_, fun hc => ?_⟩,
    fun s k x m t0 hcoord hsafe honly hpush hid hfrom hlive hnone hway => ?_, fun s t0 honly hwaits hagent hnone => ?_,
    fun s line t0 w htxns hheld => ?_⟩
  case refine_1 =>
    subst hrx
    have h : RecalledFrom s m t0 r e :=
      ⟨hcoord, hsafe, ⟨honly, hactive, ⟨true, hwho⟩, hserved, hvictim, hrecalls⟩, hwho, hrl, hid, hfrom, hidx, hlive, he, hptrs, hst⟩
    exact ⟨rclAck_ends h k, fun hp hclean hm hg => rclData_ends h k hp hclean hm hg⟩
  case refine_2 => exact wback_writes hcoord hsafe hline hreq hx hlive halone hc he hst howner hidle hp
  case refine_3 => exact wback_refused hcoord hsafe hline hreq hx hlive halone hc
  case refine_4 => exact ⟨pushAck_ends honly hpush hid k hcoord hsafe hfrom hlive hnone hway, pushAckTimeout_ends honly hpush hid⟩
  case refine_5 =>
    exact ⟨_, transactionActivate_of_agent honly hwaits hagent hnone, rfl, rfl, rfl, SameRegs.of_regs rfl _⟩
  case refine_6 =>
    exact ⟨_, reqInputResume_of_agent htxns hheld, rfl, rfl, rg_bump_self s Reg.DIR_REQHOLD _, sameRegs_bump s _ (List.mem_singleton_self _), rfl⟩

end Sys2Proof.Machine
end

section
/-! PROOFS. Endpoints that fail, are readmitted, and are retired (O46). -/

namespace Sys2Proof.Machine
open Sys2Proof

/-! ### Commands and final replies -/

/-- A word below 2^n has no bit from n up. -/
theorem onlyBits_of_lt {w : Word64} {n : Nat} (h : w.toNat < 2 ^ n) : onlyBits w (2 ^ n - 1) = true := by
  rw [onlyBits, beq_iff_eq]
  refine BitVec.eq_of_getLsbD_eq fun i hi => ?_
  rw [BitVec.getLsbD_and, BitVec.getLsbD_not, BitVec.getLsbD_ofNat, Nat.testBit_two_pow_sub_one, BitVec.getLsbD_zero]
  by_cases hn : i < n
  · simp [hi, hn]
  · have hbit : w.getLsbD i = false :=
      Nat.testBit_lt_two_pow (Nat.lt_of_lt_of_le h (Nat.pow_le_pow_right (by decide) (Nat.not_lt.1 hn)))
    rw [hbit, Bool.false_and]

/-- The coordinate of an endpoint is in range of the commands that name it. -/
theorem coord_in_range {c : Word64} (h : c.toNat < 2 ^ 17) : (!onlyBits c 0x1FFFF) = false :=
  congrArg (! ·) (onlyBits_of_lt h)

/-- Where no deferred command waits for this, no reply is sent. -/
theorem finishAll_of_none {s : State} {p : Wait → Bool} (h : ∀ d, d ∈ s.mbx.deferred → p d.wait = false) (st : Nat) (b : List Byte) :
    finishAll s p st b = s := by
  have hnone : s.mbx.deferred.filter (fun d => p d.wait) = [] := List.filter_eq_nil_iff.2 fun d hd => by rw [h d hd]; decide
  rw [finishAll, hnone, List.foldl_nil]

/-- A BUSY reply is counted (R433). -/
theorem sameRegs_reply_busy (s : State) (slot op : Nat) (tag : Word32) (b : List Byte) :
    SameRegs s (reply s slot op tag stBUSY b) [Reg.MBX_BUSY] := by
  have hne : ¬ stBUSY = stNOT_OWNER := by decide
  have hregs := reply_regs_eq s slot op tag stBUSY b
  rw [if_neg hne, if_pos rfl] at hregs
  exact (sameRegs_bump s 1 (List.mem_singleton_self _)).trans (SameRegs.of_regs hregs _)

/-! ### Endpoints (R188, R210) -/

section
variable {s t : State} {x : Nat}

theorem epState_congr (h : t.dirc.eps = s.dirc.eps) (y : Nat) : epState t y = epState s y := by
  unfold epState
  rw [h]

/-- One endpoint has another state. -/
theorem epState_of_tset {c st : Nat} (h : t.dirc.eps = tset s.dirc.eps x (c, st)) :
    epState t x = st ∧ ∀ y, y ≠ x → epState t y = epState s y := by
  unfold epState
  rw [h]
  refine ⟨?_, fun y hy => ?_⟩
  · rw [tgetD_tset, if_pos rfl]
  · rw [tgetD_tset, if_neg hy]

theorem epNamed_of_index {coord : Word64} {st : Nat} (h : epOf s coord.toNat = some x) (hst : epState s x = st) :
    epNamed s coord st = some x := by
  simp only [epNamed, h, hst, if_true]

/-- An endpoint that has just failed, and whose sweep begins (R210). -/
def markFailed (s : State) (x cause : Nat) : State :=
  { s with dirc := { s.dirc with eps := tset s.dirc.eps x (epCoord s x, 2), sweep := some (x, cause, 0, 0), sweepAt := now s } }

/-- The failure of an endpoint to which no recall is outstanding. -/
theorem failEndpoint_of_idle (hlive : epState s x = 1) (hsweep : s.dirc.sweep = none) (htxns : s.dirc.txns = []) (cause : Nat) :
    failEndpoint s x cause = markFailed s x cause := by
  simp [failEndpoint, hlive, setEp, hsweep, htxns, markFailed, now]

/-- The failure of an endpoint to which one recall is outstanding. -/
theorem failEndpoint_of_only {u : Txn} {r : Recall} (hlive : epState s x = 1) (hsweep : s.dirc.sweep = none) (honly : s.dirc.txns = [u])
    (hactive : u.active = true) (hrecalls : u.recalls = [r]) (hx : r.ep = x) (cause : Nat) :
    failEndpoint s x cause = recallTimedOut (markFailed s x cause) u r := by
  simp [failEndpoint, hlive, setEp, hsweep, honly, hactive, hrecalls, hx, markFailed, now]

/-- An endpoint's retirement, if one runs, has ended. -/
def dropRetiring (s : State) (x : Nat) : State :=
  { s with dirc := { s.dirc with retiring := s.dirc.retiring.filter (fun y => y != x) } }

/-- An endpoint whose retirement no command waits for fails, and the transactions that waited for it go on. -/
theorem failAndGoOn_of_none {cause : Nat} (hnone : ∀ d, d ∈ (failEndpoint s x cause).mbx.deferred → d.wait ≠ .endpointRetire x) :
    failAndGoOn s x cause = completeAll (dropRetiring (failEndpoint s x cause) x) := by
  have hsilent : ∀ d, d ∈ (dropRetiring (failEndpoint s x cause) x).mbx.deferred → (d.wait == .endpointRetire x) = false :=
    fun d hd => beq_eq_false_iff_ne.2 (hnone d hd)
  exact congrArg completeAll (finishAll_of_none (p := fun w => w == .endpointRetire x) hsilent stCONFLICT [])

theorem completeAll_of_idle (h : s.dirc.txns = []) : completeAll s = s := by
  rw [completeAll, h, List.foldl_nil]

theorem completeAll_of_agent {u : Txn} (h : AgentWaits s u []) (hfree : dirEnt s u.line = none) : completeAll s = setTxns s [] := by
  rw [completeAll, h.only, List.foldl_cons, List.foldl_nil, completeTxn_of_agent h hfree]

end

/-! ### A line that a failed endpoint owned (R209, R211) -/

/-- A counter of the directory arms no injection. -/
theorem Clean.of_bump_dir {s t : State} {a : Nat} (h : Clean s) (ha : a < 0x20000000) (hd : t.dram = s.dram) (hr : SameRegs s t [a]) :
    Clean t := by
  obtain ⟨hup, hmarks, hlosses⟩ := h.sound.of_dram hd
  have hstk : ∀ n st, Reg.STK_INJ_CTL n st ∉ [a] := fun n st => by
    rw [List.mem_singleton, Reg.STK_INJ_CTL]
    omega
  have hsea : ∀ n, Reg.SEA_INJ_CTL n ∉ [a] := fun n => by
    rw [List.mem_singleton, Reg.SEA_INJ_CTL]
    omega
  refine ⟨hup, hmarks, by rw [hd, h.stale], hlosses, by rw [hd, h.undef], fun n st => ?_, fun n => ?_⟩
  · unfold rf
    rw [hr _ (hstk n st)]
    exact h.injStk n st
  · rw [hr _ (hsea n), h.injSea]

section
variable {s : State} {line : Nat} (h : Clean s) (hm : (extRec s (extOf (line * 128))).mirrored = false)
  (hg : tget s.xlt.migrations (extOf (line * 128)) = none)
include h hm hg

/-- The marker over a line of an extent that is neither mirrored nor copied changes that line and the marks of its words. -/
theorem storePoison_of_still :
    ∃ ms sig, storePoison s line
        = { s with mem := memWrite s.mem (line * 128) (wordFill 16 poisonWord), dram := { s.dram with marks := ms }, sig := sig }
      ∧ ∀ k, tgetD ms k 0 = if k / 16 = line then 0xFF else 0 := by
  obtain ⟨ms, hline, hmarks⟩ := poisonLine_of_undef h.undef line
  have hclean : ∀ k, markOf s k = 0 := fun k => by rw [markOf, h.marks]; rfl
  generalize hu : poisonLine s line = u at hline
  have hmig : tget u.xlt.migrations (extOf (line * 128)) = none := by rw [hline]; exact hg
  have hmir : (extRec u (extOf (line * 128))).mirrored = false := by rw [hline]; exact hm
  have hseal : writeSeal u (pageOf (line * 128)) = u :=
    writeSeal_of_disarmed (fun n => by rw [rg_congr (s := s) (by rw [hline]), h.injSea]) (by rw [hline]; exact h.stale) _
  have hstore : storePoison s line = noteWatch u (line * 128) 128 none := by
    simp only [storePoison, settleLine_of_sound h.sound, hu, noteMigration_of_none hmig, noteDirty_of_unmirrored hmir, hseal]
  exact ⟨ms, (noteWatch u (line * 128) 128 none).sig, by rw [hstore, hline]; rfl, fun k => by rw [hmarks, hclean]⟩

/-- A line that is poisoned for its holder loses its entry, and is counted. -/
theorem poisonHeld_of_still :
    ∃ ms sig, poisonHeld s line = bump { s with
        dirc := { s.dirc with entries := tdel s.dirc.entries line }
        mem := memWrite s.mem (line * 128) (wordFill 16 poisonWord)
        dram := { s.dram with marks := ms }
        sig := sig } Reg.DIR_POISONED 1
      ∧ ∀ k, tgetD ms k 0 = if k / 16 = line then 0xFF else 0 := by
  obtain ⟨ms, sig, hstore, hmarks⟩ := storePoison_of_still (s := setEnt s line none) (h.of_dram_regs rfl rfl) hm hg
  exact ⟨ms, sig, congrArg (bump · Reg.DIR_POISONED 1) hstore, hmarks⟩

end

/-- A recall of a line held in X whose data has not come times out: the line is poisoned, and the transaction goes on without it. -/
theorem recallTimedOut_owned {s : State} {t0 : Txn} {r : Recall} (honly : s.dirc.txns = [t0]) (hrecalls : t0.recalls = [r])
    (hline : r.line = t0.line) (hbelief : r.belief = 1) (hdata : r.data = false) :
    recallTimedOut s t0 r
      = sweepCount (poisonHeld (bump (setTxns s [{ t0 with recalls := [], poisoned := true }]) Reg.DIR_RCLTO 1) t0.line) r.ep 1 0 := by
  have hdrop : dropRecall t0 t0.line r.ep = { t0 with recalls := [] } := hline ▸ dropRecall_only hrecalls
  simp only [recallTimedOut, hbelief, hdata, Bool.not_false, and_self, if_true, hline, hdrop, swapTxn_only honly]

/-- The line of an owner that has failed is poisoned and free, the sweep counts it, and the agent that waited for it goes on. -/
theorem poisoned_goes_on {s : State} {x c l p : Nat} {t0 : Txn} (hwaits : AgentWaits s t0 []) (hclean : Clean s)
    (hm : (extRec s (extOf (t0.line * 128))).mirrored = false) (hg : tget s.xlt.migrations (extOf (t0.line * 128)) = none)
    (hsweep : s.dirc.sweep = some (x, c, l, p)) :
    ∃ t, completeAll (dropRetiring (sweepCount (poisonHeld s t0.line) x 1 0) x) = t ∧ t.tb = s.tb ∧ t.dirc.eps = s.dirc.eps
      ∧ dirEnt t t0.line = none ∧ linePoisoned t t0.line = true ∧ t.dirc.txns = [] ∧ t.dirc.sweep = some (x, c, l + 1, p)
      ∧ SameRegs s t [Reg.DIR_POISONED] ∧ (∀ y, y / 128 ≠ t0.line → memByte t.mem y = memByte s.mem y) := by
  obtain ⟨ms, sig, hpoison, hmarks⟩ := poisonHeld_of_still hclean hm hg
  obtain ⟨honly, hactive, hagent, hserved, hvictim, hrecalls⟩ := hwaits
  have hfree : dirEnt (dropRetiring (sweepCount (poisonHeld s t0.line) x 1 0) x) t0.line = none := by
    rw [hpoison]
    exact tget_tdel_self _ _
  have hends : completeAll (dropRetiring (sweepCount (poisonHeld s t0.line) x 1 0) x)
      = setTxns (dropRetiring (sweepCount (poisonHeld s t0.line) x 1 0) x) [] :=
    completeAll_of_agent ⟨by rw [hpoison]; exact honly, hactive, hagent, hserved, hvictim, hrecalls⟩ hfree
  rw [hpoison] at hends hfree
  rw [hpoison]
  refine ⟨_, hends, rfl, rfl, hfree, ?_, rfl, ?_, sameRegs_bump s 1 (List.mem_singleton_self _), fun y hy => ?_⟩
  · refine (MarkerAt.linePoisoned ?_ _).2 rfl
    exact markerAt_of_marks (m := s.mem) rfl rfl hclean.undef hmarks
  · simp [setTxns, dropRetiring, sweepCount, bump, hsweep]
  · exact memByte_memWrite_other_line s.mem (length_wordFill 16 poisonWord) hy

/-! ### RECALL_TIMEOUT (R209, R210) -/

section
variable {s : State} {x : Nat} {t0 : Txn} {r : Recall}

/-- The owner of a line does not answer the recall that an agent of the module waits for. -/
structure OwnerSilent (s : State) (x : Nat) (t0 : Txn) (r : Recall) : Prop where
  waits : AgentWaits s t0 [r]
  line : r.line = t0.line
  ep : r.ep = x
  belief : r.belief = 1
  data : r.data = false
  index : epOf s (epCoord s x) = some x
  live : epState s x = 1
  quiet : s.dirc.sweep = none
  unretired : ∀ d, d ∈ s.mbx.deferred → d.wait ≠ .endpointRetire x
  clean : Clean s
  still : tget s.xlt.migrations (extOf (t0.line * 128)) = none
  unmirrored : (extRec s (extOf (t0.line * 128))).mirrored = false

theorem execRecallTimeout_eq (h : OwnerSilent s x t0 r) :
    exec (.recallTimeout t0.line (epCoord s x)) s = .next (failAndGoOn (reach s (r.sent + recallTo s)) x 0) := by
  obtain ⟨honly, hactive, -, -, -, hrecalls⟩ := h.waits
  have hfind : recallTxn s t0.line x = some t0 := by
    simp [recallTxn, honly, hactive, hrecalls, h.line, h.ep]
  simp [exec, execRecallTimeout, h.index, hfind, hrecalls, h.line, h.ep]

/-- The owner fails, its line is poisoned and free, its sweep begins, and the agent goes on. -/
theorem recallTimeout_poisons (h : OwnerSilent s x t0 r) :
    Completes (.recallTimeout t0.line (epCoord s x)) s (fun t =>
      r.sent + recallTo s ≤ now t ∧ epState t x = 2 ∧ dirEnt t t0.line = none ∧ linePoisoned t t0.line = true ∧ t.dirc.txns = []
      ∧ (∃ c l p, t.dirc.sweep = some (x, c, l, p))
      ∧ rg t Reg.DIR_RCLTO = min (rg s Reg.DIR_RCLTO + 1) 0xFFFFFFFF
      ∧ (∀ y, y / 128 ≠ t0.line → memByte t.mem y = memByte s.mem y)) := by
  obtain ⟨honly, hactive, hagent, hserved, hvictim, hrecalls⟩ := h.waits
  have hdue := le_now_reach s (r.sent + recallTo s)
  have hexec := execRecallTimeout_eq h
  generalize hv : reach s (r.sent + recallTo s) = v at hdue hexec
  have hdirc : v.dirc = s.dirc := by rw [← hv, reach_dirc]
  have hregs : v.regs = s.regs := by rw [← hv, reach_regs]
  have hfail : failEndpoint v x 0 = recallTimedOut (markFailed v x 0) t0 r :=
    failEndpoint_of_only ((epState_congr (congrArg Dir.eps hdirc) x).trans h.live) (by rw [hdirc, h.quiet]) (by rw [hdirc, honly]) hactive
      hrecalls h.ep 0
  have htxns : (markFailed v x 0).dirc.txns = [t0] := (congrArg Dir.txns hdirc).trans honly
  rw [recallTimedOut_owned htxns hrecalls h.line h.belief h.data, h.ep] at hfail
  generalize hu : bump (setTxns (markFailed v x 0) [{ t0 with recalls := [], poisoned := true }]) Reg.DIR_RCLTO 1 = u at hfail
  have hcount : SameRegs v u [Reg.DIR_RCLTO] := by
    rw [← hu]
    exact sameRegs_bump (setTxns (markFailed v x 0) _) 1 (List.mem_singleton_self _)
  have hclean : Clean u := by
    refine (h.clean.of_dram_regs (t := v) (by rw [← hv, reach_dram]) hregs).of_bump_dir (a := Reg.DIR_RCLTO) (by decide) ?_ hcount
    rw [← hu]
    rfl
  have hxlt : u.xlt = s.xlt := by
    rw [← hu]
    exact (congrArg State.xlt hv).symm.trans (reach_xlt _ _)
  have hmbx : (failEndpoint v x 0).mbx = s.mbx := by
    rw [hfail, (kept_sweepCount _ _ _ _).mbx, (kept_poisonHeld _ _).mbx, ← hu]
    exact (congrArg State.mbx hv).symm.trans (reach_mbx _ _)
  have hgo : failAndGoOn v x 0 = completeAll (dropRetiring (failEndpoint v x 0) x) :=
    failAndGoOn_of_none (by rw [hmbx]; exact h.unretired)
  obtain ⟨t, hend, htb, heps, hfree, hmarked, hnone, hsweep, hrest, hbytes⟩ := poisoned_goes_on (s := u) (x := x) (c := 0) (l := 0) (p := 0)
    (t0 := { t0 with recalls := [], poisoned := true }) (by rw [← hu]; exact ⟨rfl, hactive, hagent, hserved, hvictim, rfl⟩) hclean
    (by unfold extRec; rw [hxlt]; exact h.unmirrored) (by rw [hxlt]; exact h.still) (by rw [← hu]; rfl)
  rw [hgo, hfail, hend] at hexec
  refine ⟨t, hexec, ?_, ?_, hfree, hmarked, hnone, ⟨_, _, _, hsweep⟩, ?_, fun y hy => (hbytes y hy).trans ?_⟩
  · unfold now
    rw [htb, ← hu]
    exact hdue
  · exact (epState_of_tset (heps.trans (by rw [← hu]; rfl))).1
  · rw [hrest _ (by decide), ← hu, rg_bump_self, ← rg_congr hregs]
    rfl
  · rw [← hu]
    exact congrArg (memByte · y) ((congrArg State.mem hv).symm.trans (reach_mem _ _))

end

/-! ### ENDPOINT_SWEEP_END (R210 to R212) -/

/-- The sweep of an empty directory ends with the counts that it has, and the next sweep begins. -/
theorem endpointSweepEnd_replies {s : State} {x c l p slot : Nat} {tag : Word32} (hsweep : s.dirc.sweep = some (x, c, l, p))
    (hempty : s.dirc.entries = []) (hd : s.mbx.deferred = [{ slot := slot, opcode := 0x0430, tag := tag, wait := .endpointFail x }])
    (hopen : session s slot ≠ none) (htwin : s.twin.replies = []) :
    Completes (.endpointSweepEnd x) s (fun t =>
      t.dirc.sweep = s.dirc.sweepNext.head? ∧ s.dirc.sweepAt + 163840 ≤ now t
      ∧ Replied t slot 0x0430 tag stOK (leBytes 8 l ++ leBytes 8 p)
      ∧ t.mbx.deferred = [] ∧ t.dirc.eps = s.dirc.eps ∧ t.xlt = s.xlt) := by
  have hdue := le_now_reach s (s.dirc.sweepAt + 163840)
  obtain ⟨v, hv⟩ : ∃ v, reach s (s.dirc.sweepAt + 163840) = v := ⟨_, rfl⟩
  rw [hv] at hdue
  have hdirc : v.dirc = s.dirc := by rw [← hv, reach_dirc]
  have hxlt : v.xlt = s.xlt := by rw [← hv, reach_xlt]
  have hmbx : v.mbx = s.mbx := by rw [← hv, reach_mbx]
  have htwin' : v.twin = s.twin := by rw [← hv, reach_twin]
  generalize hw : ({ v with dirc := { s.dirc with
    sweep := s.dirc.sweepNext.head?, sweepNext := s.dirc.sweepNext.drop 1, sweepAt := now v } } : State) = w
  have hexec : execEndpointSweepEnd x s
      = .next (finishAll (eventW w 0x0011 1 [epCoord w x, c, l, p]) (fun w => w == .endpointFail x) stOK (leBytes 8 l ++ leBytes 8 p)) := by
    unfold execEndpointSweepEnd
    rw [hv]
    simp only [hsweep, ne_eq, not_true_eq_false, if_false, hdirc, hempty, List.map_nil, List.foldl_nil, ← hw]
  have hemb : (eventW w 0x0011 1 [epCoord w x, c, l, p]).mbx = s.mbx :=
    (eventW_mbx _ _ _ _).trans (by rw [← hw]; exact hmbx)
  have hetw : (eventW w 0x0011 1 [epCoord w x, c, l, p]).twin = s.twin :=
    (eventW_twin _ _ _ _).trans (by rw [← hw]; exact htwin')
  have hfin := finishAll_only (s := eventW w 0x0011 1 [epCoord w x, c, l, p]) (p := fun w => w == .endpointFail x) (by rw [hemb, hd])
    (by simp) (by unfold session; rw [hemb]; exact hopen) (by rw [hetw, htwin]) stOK (leBytes 8 l ++ leBytes 8 p)
  rw [hfin] at hexec
  refine ⟨_, hexec, ?_, ?_, ⟨_, rfl⟩, ?_, ?_, ?_⟩
  · rw [reply_dirc, eventW_dirc, ← hw]
  · unfold now
    rw [reply_tb, eventW_tb, ← hw]
    exact hdue
  · rw [reply_mbx_deferred]
  · rw [reply_dirc, eventW_dirc, ← hw]
  · rw [reply_xlt, eventW_xlt, ← hw]
    exact hxlt

/-! ### The endpoint commands (R210, R215, R220) -/

/-- The endpoints that retire, with one more. -/
def alsoRetiring (s : State) (x : Nat) : List Nat := if s.dirc.retiring.contains x then s.dirc.retiring else s.dirc.retiring ++ [x]

theorem mem_alsoRetiring (s : State) (x : Nat) : x ∈ alsoRetiring s x := by
  unfold alsoRetiring
  split
  next h => simpa using h
  next => simp

section
variable {s : State} {slot x : Nat} {tag : Word32} {c : Word64} (hc : c.toNat < 2 ^ 17) (hidx : epOf s c.toNat = some x)
include hc hidx

theorem endpointFail_defers (hlive : epState s x = 1) (hrun : MayRun s slot 0x0430 tag) (ha : Alone s) (hroom : DeferRoom s)
    (hidle : DirIdle s) (hsweep : s.dirc.sweep = none) (hnone : ∀ d, d ∈ s.mbx.deferred → d.wait ≠ .endpointRetire x) :
    Completes (.endpointFail slot tag c) s (fun t =>
      epState t x = 2 ∧ (∀ y, y ≠ x → epState t y = epState s y) ∧ t.dirc.sweep = some (x, 1, 0, 0)
      ∧ Replied t slot 0x0430 tag stDEFERRED [] ∧ SameRegs s t [] ∧ t.mem = s.mem) := by
  refine completes_defer rfl (coord_in_range hc) hrun ha hroom fun m hm => ?_
  have hnamed : epNamed { s with mbx := m } c 1 = some x := epNamed_of_index (s := { s with mbx := m }) hidx hlive
  have hfail : failEndpoint { s with mbx := m } x 1 = markFailed { s with mbx := m } x 1 :=
    failEndpoint_of_idle (s := { s with mbx := m }) hlive hsweep hidle.1 1
  have hgo : failAndGoOn { s with mbx := m } x 1 = dropRetiring (markFailed { s with mbx := m } x 1) x := by
    rw [failAndGoOn_of_none (by rw [hfail]; exact fun d hd => hnone d (hm ▸ hd)), hfail]
    exact completeAll_of_idle hidle.1
  refine ⟨dropRetiring (markFailed { s with mbx := m } x 1) x, [], .endpointFail x, by simp only [hnamed, hgo], fun m' _ => ?_⟩
  generalize hu : ({ dropRetiring (markFailed { s with mbx := m } x 1) x with mbx := m' } : State) = u
  have heps : (reply u slot 0x0430 tag stDEFERRED []).dirc.eps = tset s.dirc.eps x (epCoord s x, 2) := by
    rw [reply_dirc, ← hu]
    rfl
  obtain ⟨hself, hothers⟩ := epState_of_tset heps
  refine ⟨hself, hothers, ?_, ⟨_, rfl⟩, SameRegs.reply (SameRegs.of_regs (by rw [← hu]; rfl) _), ?_⟩
  · rw [reply_dirc, ← hu]
    rfl
  · rw [reply_mem, ← hu]
    rfl

section
variable (hfailed : epState s x = 2) (hrun : MayRun s slot 0x0431 tag) (ha : Alone s)
include hfailed hrun ha

theorem endpointReadmit_admits (hnext : s.dirc.sweepNext = []) (hsweep : s.dirc.sweep = none) :
    Completes (.endpointReadmit slot tag c) s (fun t =>
      epState t x = 1 ∧ (∀ y, y ≠ x → epState t y = epState s y) ∧ Replied t slot 0x0431 tag stOK [] ∧ SameRegs s t [] ∧ t.mem = s.mem) := by
  refine completes_done rfl (coord_in_range hc) hrun ha fun m => ?_
  have hnamed : epNamed { s with mbx := m } c 2 = some x := epNamed_of_index (s := { s with mbx := m }) hidx hfailed
  refine ⟨setEp { s with mbx := m } x c.toNat 1, stOK, [], by simp [hnamed, hsweep, hnext, Rep.ok], ?_⟩
  have heps : (reply (setEp { s with mbx := m } x c.toNat 1) slot 0x0431 tag stOK []).dirc.eps = tset s.dirc.eps x (c.toNat, 1) := by
    rw [reply_dirc]
    rfl
  obtain ⟨hself, hothers⟩ := epState_of_tset heps
  exact ⟨hself, hothers, ⟨_, rfl⟩, SameRegs.reply (SameRegs.of_regs rfl _), reply_mem _ _ _ _ _ _⟩

/-- An endpoint whose sweep runs is not readmitted. -/
theorem endpointReadmit_busy {w : Nat × Nat × Nat} (hsweep : s.dirc.sweep = some (x, w)) :
    Completes (.endpointReadmit slot tag c) s (fun t =>
      Replied t slot 0x0431 tag stBUSY [] ∧ t.dirc = s.dirc ∧ t.mem = s.mem ∧ SameRegs s t [Reg.MBX_BUSY]) := by
  refine completes_done rfl (coord_in_range hc) hrun ha fun m => ?_
  have hnamed : epNamed { s with mbx := m } c 2 = some x := epNamed_of_index (s := { s with mbx := m }) hidx hfailed
  refine ⟨{ s with mbx := m }, stBUSY, [], by simp [hnamed, hsweep], ⟨_, rfl⟩, reply_dirc _ _ _ _ _ _, reply_mem _ _ _ _ _ _, ?_⟩
  exact (sameRegs_mbx s m _).trans (sameRegs_reply_busy _ _ _ _ _)

end

section
variable (hlive : epState s x = 1) (hrun : MayRun s slot 0x0432 tag) (ha : Alone s) (hroom : DeferRoom s) (hidle : DirIdle s)
include hlive hrun ha hroom hidle

theorem endpointRetire_defers (hheld : heldBy s x = []) :
    Completes (.endpointRetire slot tag c) s (fun t =>
      x ∈ t.dirc.retiring ∧ t.dirc.txns = [] ∧ Replied t slot 0x0432 tag stDEFERRED [] ∧ t.dirc.entries = s.dirc.entries
      ∧ SameRegs s t [] ∧ t.mem = s.mem) := by
  refine completes_defer rfl (coord_in_range hc) hrun ha hroom fun m hm => ?_
  have hnamed : epNamed { s with mbx := m } c 1 = some x := epNamed_of_index (s := { s with mbx := m }) hidx hlive
  have hheld' : heldBy { s with mbx := m } x = [] := hheld
  refine ⟨{ s with mbx := m, dirc := { s.dirc with retiring := alsoRetiring s x } }, [], .endpointRetire x, by simp only [hnamed, hheld', List.foldl_nil]; rfl,
    fun m' _ => ⟨?_, ?_, ⟨_, rfl⟩, ?_, SameRegs.reply (SameRegs.of_regs rfl _), reply_mem _ _ _ _ _ _⟩⟩
  · rw [reply_dirc]
    exact mem_alsoRetiring s x
  · rw [reply_dirc]
    exact hidle.1
  · rw [reply_dirc]

theorem endpointRetire_recalls {l : Nat} {e : DirEntry} (hheld : heldBy s x = [l]) (he : dirEnt s l = some e) (hptrs : e.ptrs = [x])
    (hst : e.st ≠ 2) :
    Completes (.endpointRetire slot tag c) s (fun t =>
      x ∈ t.dirc.retiring ∧ (∃ u r, t.dirc.txns = [u] ∧ u.line = l ∧ u.who = .retire x ∧ u.recalls = [r] ∧ r.ep = x)
      ∧ Replied t slot 0x0432 tag stDEFERRED [] ∧ t.mem = s.mem) := by
  refine completes_defer rfl (coord_in_range hc) hrun ha hroom fun m hm => ?_
  have hnamed : epNamed { s with mbx := m } c 1 = some x := epNamed_of_index (s := { s with mbx := m }) hidx hlive
  have hheld' : heldBy { s with mbx := m } x = [l] := hheld
  have he' : dirEnt { s with mbx := m } l = some e := he
  have hlive' : epState { s with mbx := m } x = 1 := hlive
  have hwho : whoHolders { s with mbx := m } l (.retire x) = [(x, if e.st = 3 then 1 else 0)] := by
    simp [whoHolders, holdersFor, he', hst, hptrs, hlive']
  obtain ⟨f, id, hbegin⟩ := beginTxn_of_one (s := { s with mbx := m }) hidle rfl hwho
  refine ⟨{ s with mbx := m, fab := f, dirc := { s.dirc with
      txns := [{ Txn.fresh l (.retire x) true with recalls := [Recall.fresh s l x (if e.st = 3 then 1 else 0) id] }]
      retiring := alsoRetiring s x } }, [], .endpointRetire x,
    by simp only [hnamed, hheld', List.foldl_cons, List.foldl_nil, hbegin]; rfl, fun m' _ => ⟨?_, ?_, ⟨_, rfl⟩, reply_mem _ _ _ _ _ _⟩⟩
  · rw [reply_dirc]
    exact mem_alsoRetiring s x
  · rw [reply_dirc]
    exact ⟨_, _, rfl, rfl, rfl, rfl, rfl⟩

end

end

/-- A retiring endpoint that holds no line gives up its index (R220). -/
theorem endpointRetireDone_frees {s : State} {x slot : Nat} {tag : Word32} (hret : s.dirc.retiring.contains x = true) (hheld : heldBy s x = [])
    (hopen : session s slot ≠ none) (htwin : s.twin.replies = [])
    (hd : s.mbx.deferred = [{ slot := slot, opcode := 0x0432, tag := tag, wait := .endpointRetire x }]) :
    Completes (.endpointRetireDone x) s (fun t =>
      tget t.dirc.eps x = none ∧ (∀ y, y ≠ x → tget t.dirc.eps y = tget s.dirc.eps y) ∧ x ∉ t.dirc.retiring
      ∧ Replied t slot 0x0432 tag stOK [] ∧ t.mbx.deferred = [] ∧ t.mem = s.mem ∧ SameRegs s t []) := by
  generalize hu : ({ s with dirc := { s.dirc with
    retiring := s.dirc.retiring.filter (fun y => y != x), eps := tdel s.dirc.eps x } } : State) = u
  have hfin := finishAll_only (s := u) (p := fun w => w == .endpointRetire x) (by rw [← hu]; exact hd) (by simp)
    (by rw [← hu]; exact hopen) (by rw [← hu]; exact htwin) stOK []
  have hexec : exec (.endpointRetireDone x) s = .next (finishAll u (fun w => w == .endpointRetire x) stOK []) := by
    simp only [exec, execEndpointRetireDone, hret, hheld, Bool.not_true, Bool.false_eq_true, if_false, List.isEmpty_nil, if_true, setEp, ← hu]
  rw [hfin] at hexec
  subst hu
  refine ⟨_, hexec, ?_, fun y hy => ?_, ?_, ⟨_, rfl⟩, ?_, reply_mem _ _ _ _ _ _, SameRegs.reply (SameRegs.of_regs rfl _)⟩
  · rw [reply_dirc]
    exact tget_tdel_self _ _
  · rw [reply_dirc]
    exact (tget_tdel _ _ _).trans (if_neg hy)
  · rw [reply_dirc]
    simp
  · rw [reply_mbx_deferred]

/-- Settles O46: what an endpoint's failure and its retirement do is decided by the recalls that are outstanding and the lines that it holds. -/
theorem endpointsFailAndRetire : Obligations.EndpointsFailAndRetire := by
  unfold Obligations.EndpointsFailAndRetire
  refine ⟨fun s x t0 r e honly hactive hwho hserved hvictim hrecalls hline hx hbelief hdata hidx hlive he hptrs hst hsweep hnone hclean hg hm =>
      recallTimeout_poisons ⟨⟨honly, hactive, ⟨true, hwho⟩, hserved, hvictim, hrecalls⟩, hline, hx, hbelief, hdata, hidx, hlive, hsweep, hnone,
        hclean, hg, hm⟩,
    fun s x c l p slot tag hsweep hempty hd hopen htwin => endpointSweepEnd_replies hsweep hempty hd hopen htwin,
    fun s slot x tag c hc hidx => ⟨fun hlive hrun ha hroom hidle hsweep hnone => ?_, fun hfailed hrun ha hnext => ⟨fun hsweep => ?_,
      fun w hsweep => ?_⟩, fun hlive hrun ha hroom hidle => ⟨fun hheld => ?_, fun l e hheld he hptrs hst => ?_⟩⟩,
    fun s x slot tag hret hheld hopen htwin hd => endpointRetireDone_frees hret hheld hopen htwin hd⟩
  case refine_1 => exact endpointFail_defers hc hidx hlive hrun ha hroom hidle hsweep hnone
  case refine_2 => exact endpointReadmit_admits hc hidx hfailed hrun ha hnext hsweep
  case refine_3 => exact endpointReadmit_busy hc hidx hfailed hrun ha hsweep
  case refine_4 => exact endpointRetire_defers hc hidx hlive hrun ha hroom hidle hheld
  case refine_5 => exact endpointRetire_recalls hc hidx hlive hrun ha hroom hidle hheld he hptrs hst

end Sys2Proof.Machine
end

section
/-! PROOFS. What a stop, a read of TAIL and a change of state leave of a context, and what final replies leave alone. -/

namespace Sys2Proof.Machine
open Sys2Proof

/-! ### One context moves (R234, R246, R249) -/

/-- A context as a read of TAIL, a stop or a change of state leaves it: its settings, its ring and HEAD stay, nothing is begun, accepted or
parked, and it is not suspended by any of them. -/
structure Ctx.Stays (c c' : Ctx) : Prop where
  tenant : c'.tenant = c.tenant
  prio : c'.prio = c.prio
  gangMax : c'.gangMax = c.gangMax
  diemask : c'.diemask = c.diemask
  ringLog : c'.ringLog = c.ringLog
  ring : c'.ring = c.ring
  head : c'.head = c.head
  limit : c'.limit = c.limit
  run : c.run = none → c'.run = none
  next : c.next = none → c'.next = none
  park : c.park = none → c'.park = none
  awake : c.st ≠ cxSUSPENDED → c'.st ≠ cxSUSPENDED

theorem Ctx.Stays.refl (c : Ctx) : c.Stays c := ⟨rfl, rfl, rfl, rfl, rfl, rfl, rfl, rfl, id, id, id, id⟩

theorem Ctx.Stays.trans {a b c : Ctx} (h : a.Stays b) (h' : b.Stays c) : a.Stays c :=
  ⟨h'.tenant.trans h.tenant, h'.prio.trans h.prio, h'.gangMax.trans h.gangMax, h'.diemask.trans h.diemask, h'.ringLog.trans h.ringLog,
    h'.ring.trans h.ring, h'.head.trans h.head, h'.limit.trans h.limit, h'.run ∘ h.run, h'.next ∘ h.next, h'.park ∘ h.park, h'.awake ∘ h.awake⟩

/-- From s to t no context but x changes, and x stays what it is. -/
structure Stirs (x : Nat) (s t : State) : Prop where
  others : SameCtxs s t [x]
  own : ∀ c, ctxAt s x = some c → ∃ c', ctxAt t x = some c' ∧ c.Stays c'

section
variable {s t u : State} {x : Nat} {c c' : Ctx}

theorem Stirs.trans (h : Stirs x s t) (h' : Stirs x t u) : Stirs x s u := by
  refine ⟨h.others.trans h'.others, fun c hc => ?_⟩
  obtain ⟨c1, hc1, hs1⟩ := h.own c hc
  obtain ⟨c2, hc2, hs2⟩ := h'.own c1 hc1
  exact ⟨c2, hc2, hs1.trans hs2⟩

theorem Stirs.of_ctxs (h : t.sched.ctxs = s.sched.ctxs) (x : Nat) : Stirs x s t :=
  ⟨SameCtxs.of_ctxs h _, fun c hc => ⟨c, (ctxAt_congr h x).trans hc, Ctx.Stays.refl c⟩⟩

theorem Stirs.refl (x : Nat) (s : State) : Stirs x s s := Stirs.of_ctxs rfl x

theorem Stirs.of_kept (h : Kept s t) (x : Nat) : Stirs x s t := Stirs.of_ctxs (congrArg Sched.ctxs h.sched) x

theorem stirs_setCtx (hc : ctxAt s x = some c) (h : c.Stays c') : Stirs x s (setCtx s x c') := by
  refine ⟨sameCtxs_setCtx s x c', fun d hd => ⟨c', ctxAt_setCtx_self _ _ _, ?_⟩⟩
  rw [← Option.some.inj (hc.symm.trans hd)]
  exact h

theorem stirs_updCtx {f : Ctx → Ctx} (h : ∀ c : Ctx, c.Stays (f c)) : Stirs x s (updCtx s x f) := by
  cases hc : ctxAt s x with
  | none =>
    unfold updCtx
    rw [hc]
    exact Stirs.refl x s
  | some c =>
    rw [updCtx_eq hc]
    exact stirs_setCtx hc (h c)

end

/-! ### What a stop drops (R105, R246, R247) -/

section
variable {s : State} {x : Nat} {c : Ctx}

theorem leaveRecord_sched (s : State) (r : Nat × Nat) : (leaveRecord s r).sched = s.sched := by
  unfold leaveRecord
  split
  · rfl
  · rfl

theorem freeRun_sched (s : State) (r : Option Run) : (freeRun s r).sched = s.sched := by
  cases r <;> rfl

theorem freeWatchOpt_sched (s : State) (w : Option Nat) : (freeWatchOpt s w).sched = s.sched := by
  unfold freeWatchOpt
  split
  · rfl
  · unfold freeWatch
    split
    · rfl
    · rfl

theorem installWatch_sched (s : State) (e : WatchEnt) : (installWatch s e).1.sched = s.sched := by
  unfold installWatch
  split
  · rfl
  · rfl

/-- The rewriting of a context, in a state whose contexts are those of another. -/
theorem updCtx_of_ctxs {t : State} (h : t.sched.ctxs = s.sched.ctxs) (hc : ctxAt s x = some c) (f : Ctx → Ctx) :
    ctxAt (updCtx t x f) x = some (f c) ∧ SameCtxs s (updCtx t x f) [x] := by
  rw [updCtx_eq ((ctxAt_congr h x).trans hc)]
  exact ⟨ctxAt_setCtx_self _ _ _, (SameCtxs.of_ctxs h _).trans (sameCtxs_setCtx t x _)⟩

/-- Dropping what is parked changes one context, and of it the parked descriptor. -/
theorem dropPark_drops (hc : ctxAt s x = some c) :
    ctxAt (dropPark s x) x = some { c with park := none } ∧ SameCtxs s (dropPark s x) [x] := by
  unfold dropPark
  rw [hc, Option.bind_some]
  cases hp : c.park with
  | none =>
    have hsame : { c with park := none } = c := by rw [← hp]
    rw [hsame]
    exact ⟨hc, SameCtxs.of_ctxs rfl _⟩
  | some p =>
    have hsched : (p.records.foldl leaveRecord s).sched = s.sched := foldl_keeps State.sched _ leaveRecord_sched _ _
    dsimp only
    refine updCtx_of_ctxs ?_ hc _
    exact congrArg Sched.ctxs hsched

theorem dropNext_drops (hc : ctxAt s x = some c) :
    ctxAt (dropNext s x) x = some { c with next := none } ∧ SameCtxs s (dropNext s x) [x] := by
  unfold dropNext
  rw [hc]
  exact ⟨ctxAt_setCtx_self _ _ _, (SameCtxs.of_ctxs (congrArg Sched.ctxs (freeRun_sched s c.next)) _).trans (sameCtxs_setCtx _ x _)⟩

/-- A context that stops or drains has nothing parked and nothing accepted behind what it runs, which is what it has begun or nothing. -/
theorem dropWork_drops (hc : ctxAt s x = some c) :
    ∃ r, ctxAt (dropWork s x) x = some { c with park := none, next := none, run := r } ∧ (c.run = none → r = none)
      ∧ SameCtxs s (dropWork s x) [x] := by
  obtain ⟨hpark, hothers⟩ := dropPark_drops hc
  obtain ⟨hnext, hothers'⟩ := dropNext_drops hpark
  have hctx : ctxAt (stopBulk (dropNext (dropPark s x) x) x) x = some { c with park := none, next := none } := hnext
  have hsame : SameCtxs s (stopBulk (dropNext (dropPark s x) x) x) [x] := hothers.trans hothers'
  unfold dropWork
  simp only [hctx]
  split
  next hrun => exact ⟨c.run, hctx, id, hsame⟩
  next r hrun =>
    split
    · exact ⟨c.run, hctx, id, hsame⟩
    · exact ⟨none, ctxAt_setCtx_self _ _ _, fun _ => rfl, hsame.trans (sameCtxs_setCtx (freeShadow _ _) x _)⟩

end

/-! ### Stops, TAIL and the state that work gives -/

section
variable (s : State) (x : Nat)

theorem stirs_dropPark : Stirs x s (dropPark s x) := by
  cases hc : ctxAt s x with
  | none =>
    unfold dropPark
    rw [hc]
    exact Stirs.refl x s
  | some c =>
    obtain ⟨hctx, hothers⟩ := dropPark_drops hc
    refine ⟨hothers, fun d hd => ⟨_, hctx, ?_⟩⟩
    rw [← Option.some.inj (hc.symm.trans hd)]
    exact ⟨rfl, rfl, rfl, rfl, rfl, rfl, rfl, rfl, id, id, fun _ => rfl, id⟩

theorem stirs_dropNext : Stirs x s (dropNext s x) := by
  cases hc : ctxAt s x with
  | none =>
    unfold dropNext
    rw [hc]
    exact Stirs.refl x s
  | some c =>
    obtain ⟨hctx, hothers⟩ := dropNext_drops hc
    refine ⟨hothers, fun d hd => ⟨_, hctx, ?_⟩⟩
    rw [← Option.some.inj (hc.symm.trans hd)]
    exact ⟨rfl, rfl, rfl, rfl, rfl, rfl, rfl, rfl, id, fun _ => rfl, id, id⟩

theorem stirs_headerPut (c : Ctx) (off : Nat) (b : List Byte) : Stirs x s (headerPut s x c off b).1 :=
  Stirs.of_ctxs (headerPut_ctxs s x c off b).1 x

variable {s x} {c : Ctx} (hc : ctxAt s x = some c)
include hc

theorem stirs_enterStopped (cause : Nat) : Stirs x s (enterStopped s x cause) := by
  obtain ⟨r, hctx, hidle, hothers⟩ := dropWork_drops hc
  have hstopped : cxSTOPPED ≠ cxSUSPENDED := by decide
  unfold enterStopped
  simp only [hctx]
  refine Stirs.trans ⟨?_, fun d hd => ⟨_, ctxAt_setCtx_self _ _ _, ?_⟩⟩ (stirs_headerPut _ x _ _ _)
  · exact (hothers.trans (SameCtxs.of_ctxs (congrArg Sched.ctxs (freeWatchOpt_sched _ _)) _)).trans (sameCtxs_setCtx _ x _)
  · rw [← Option.some.inj (hc.symm.trans hd)]
    exact ⟨rfl, rfl, rfl, rfl, rfl, rfl, rfl, rfl, hidle, fun _ => rfl, fun _ => rfl, fun _ => hstopped⟩

theorem stirs_stopCtx (cause : Nat) : Stirs x s (stopCtx s x cause) := by
  unfold stopCtx
  simp only [hc]
  split
  · exact Stirs.refl x s
  split
  next r hrun =>
    split
    · have hwatch : Stirs x s (freeWatchOpt s c.waitWatch) := Stirs.of_ctxs (congrArg Sched.ctxs (freeWatchOpt_sched _ _)) x
      have hcw : ctxAt (freeWatchOpt s c.waitWatch) x = some c := (ctxAt_congr (congrArg Sched.ctxs (freeWatchOpt_sched _ _)) x).trans hc
      refine ((hwatch.trans (stirs_setCtx hcw ?_)).trans (stirs_dropPark _ x)).trans (stirs_dropNext _ x)
      exact ⟨rfl, rfl, rfl, rfl, rfl, rfl, rfl, rfl, fun h => absurd (hrun.symm.trans h) (by simp), id, id, id⟩
    · exact stirs_enterStopped hc cause
  next => exact stirs_enterStopped hc cause

theorem stirs_takeTail (v : Nat) (counted : Bool) : Stirs x s (takeTail s x v counted) := by
  have htail : c.Stays { c with tail := v } := ⟨rfl, rfl, rfl, rfl, rfl, rfl, rfl, rfl, id, id, id, id⟩
  have hover : c.Stays { c with overrun := true } := ⟨rfl, rfl, rfl, rfl, rfl, rfl, rfl, rfl, id, id, id, id⟩
  unfold takeTail
  simp only [hc]
  split
  · exact Stirs.refl x s
  split
  · split
    · exact Stirs.of_kept (kept_bump s _ 1) x
    · exact Stirs.refl x s
  split
  · exact stirs_setCtx hc htail
  have hkept := kept_report s 0x14 0x04 0 (Reg.XLT_CTX_STAT x) 0 (some c.tenant) none
  have hcr := (hkept.ctxAt x).trans hc
  refine (Stirs.of_kept hkept x).trans ?_
  split
  · exact Stirs.refl x _
  split
  · split
    · exact (stirs_setCtx hcr hover).trans (stirs_dropNext _ x)
    · exact stirs_enterStopped hcr _
  · exact stirs_enterStopped hcr _

theorem stirs_readTail (counted : Bool) : Stirs x s (readTail s x counted) := by
  have hkept := kept_ringRead s c (c.ring + 0x80) 8
  unfold readTail
  simp only [hc]
  rcases hr : ringRead s c (c.ring + 0x80) 8 with ⟨u, r⟩
  rw [hr] at hkept
  have hread : Stirs x s u := Stirs.of_kept hkept x
  have hcr : ctxAt u x = some c := (hkept.ctxAt x).trans hc
  cases r with
  | ok b n => exact hread.trans (stirs_takeTail hcr _ _)
  | poisoned => exact hread.trans (stirs_stopCtx hcr _)
  | fault => exact hread.trans (stirs_stopCtx hcr _)
  | blocked => exact hread.trans (stirs_updCtx fun c => ⟨rfl, rfl, rfl, rfl, rfl, rfl, rfl, rfl, id, id, id, id⟩)

omit hc in
theorem wakeTenant_ctxs (s : State) (t : Nat) : (wakeTenant s t).sched.ctxs = s.sched.ctxs := by
  unfold wakeTenant
  dsimp only
  split
  · rfl
  · split
    · rfl
    · rfl

omit hc in
/-- Work suspends no context. -/
theorem workState_lt (s : State) (x : Nat) (c : Ctx) : workState s x c < cxSUSPENDED := by
  unfold workState
  extract_lets active
  split_ifs
  all_goals decide

theorem stirs_settle : Stirs x s (settle s x) := by
  unfold settle
  extract_lets place
  have hplace : ∀ u, Stirs x u (place u) := fun u => by
    dsimp only [place]
    split
    · exact Stirs.refl x u
    next d hd =>
      split
      · exact Stirs.refl x u
      · refine Stirs.trans (t := if workState u x d = cxREADY ∧ d.st ≠ cxREADY then wakeTenant u d.tenant else u) ?_
          (stirs_updCtx fun c => ⟨rfl, rfl, rfl, rfl, rfl, rfl, rfl, rfl, id, id, id, fun _ => Nat.ne_of_lt (workState_lt u x d)⟩)
        split
        · exact Stirs.of_ctxs (wakeTenant_ctxs u d.tenant) x
        · exact Stirs.refl x u
  simp only [hc]
  split
  · exact Stirs.refl x s
  split
  · have hset : Stirs x s (setCtx s x { c with pend := false }) :=
      stirs_setCtx hc ⟨rfl, rfl, rfl, rfl, rfl, rfl, rfl, rfl, id, id, id, id⟩
    exact (hset.trans (stirs_readTail (ctxAt_setCtx_self _ _ _) false)).trans (hplace _)
  · exact hplace s

theorem stirs_armTail : Stirs x s (armTail s x) := by
  have hkept := kept_wordXl s c.tenant (c.ring + 0x80) pRD
  unfold armTail
  simp only [hc]
  split
  · exact Stirs.refl x s
  rcases hp : wordXl s c.tenant (c.ring + 0x80) pRD with ⟨u, p⟩
  rw [hp] at hkept
  have hcu : ctxAt u x = some c := (hkept.ctxAt x).trans hc
  cases p with
  | none => exact Stirs.of_kept hkept x
  | some p =>
    have hinst := congrArg Sched.ctxs (installWatch_sched u (schedEntry u true c.tenant x (c.ring + 0x80) 0 p))
    refine ((Stirs.of_kept hkept x).trans (Stirs.of_ctxs hinst x)).trans (stirs_setCtx ((ctxAt_congr hinst x).trans hcu) ?_)
    exact ⟨rfl, rfl, rfl, rfl, rfl, rfl, rfl, rfl, id, id, id, id⟩

end

/-! ### Final replies (R436, R440) -/

section
variable (s : State)

theorem finalReply_sched (d : Deferred) (st : Nat) (b : List Byte) : (finalReply s d st b).sched = s.sched := by
  unfold finalReply
  dsimp only
  repeat' split
  · rfl
  · exact reply_sched ..
  · exact event_sched ..

theorem finalReply_dram (d : Deferred) (st : Nat) (b : List Byte) : (finalReply s d st b).dram = s.dram := by
  unfold finalReply
  dsimp only
  repeat' split
  · rfl
  · exact reply_dram ..
  · exact event_dram ..

/-- A deferred command that has its final reply is deferred no longer. -/
theorem finalReply_deferred (d : Deferred) (st : Nat) (b : List Byte) :
    (finalReply s d st b).mbx.deferred = s.mbx.deferred.filter (fun x => x != d) := by
  unfold finalReply
  dsimp only
  repeat' split
  · rfl
  · exact reply_mbx_deferred ..
  · exact congrArg Mailbox.deferred (event_mbx ..)

theorem finishAll_sched (p : Wait → Bool) (st : Nat) (b : List Byte) : (finishAll s p st b).sched = s.sched :=
  foldl_keeps State.sched _ (fun t d => finalReply_sched t d st b) _ _

theorem finishAll_dram (p : Wait → Bool) (st : Nat) (b : List Byte) : (finishAll s p st b).dram = s.dram :=
  foldl_keeps State.dram _ (fun t d => finalReply_dram t d st b) _ _

theorem mem_deferred_foldl_finalReply (l : List Deferred) (st : Nat) (b : List Byte) (d : Deferred) :
    d ∈ (l.foldl (fun t e => finalReply t e st b) s).mbx.deferred ↔ d ∈ s.mbx.deferred ∧ d ∉ l := by
  induction l generalizing s with
  | nil => simp
  | cons e l ih => simp [ih, finalReply_deferred, and_assoc]

/-- After the final replies those commands are deferred whose wait does not meet the test. -/
theorem mem_deferred_finishAll (p : Wait → Bool) (st : Nat) (b : List Byte) (d : Deferred) :
    d ∈ (finishAll s p st b).mbx.deferred ↔ d ∈ s.mbx.deferred ∧ p d.wait = false := by
  unfold finishAll
  rw [mem_deferred_foldl_finalReply, List.mem_filter]
  refine and_congr_right fun hd => ?_
  rw [not_and, Bool.not_eq_true]
  exact ⟨fun h => h hd, fun h _ => h⟩

/-- Suspensions that end leave the scheduler alone. -/
theorem finishSuspend_sched (x : Nat) : (finishSuspend s x).sched = s.sched := by
  unfold finishSuspend
  split
  · exact finishAll_sched ..
  · split
    · exact finishAll_sched ..
    · split
      · exact finishAll_sched ..
      · rfl

/-- The final reply of the command that was deferred last, to a session that is open: no other command waits for the same. -/
theorem finishAll_last {s : State} {l : List Deferred} {d : Deferred} {p : Wait → Bool} (hd : s.mbx.deferred = l ++ [d])
    (hl : ∀ e, e ∈ l → p e.wait = false) (hp : p d.wait = true) (hopen : session s d.slot ≠ none) (htwin : s.twin.replies = []) (st : Nat)
    (b : List Byte) : finishAll s p st b = reply { s with mbx := { s.mbx with deferred := l } } d.slot d.opcode d.tag st b := by
  have hsome : (tget s.mbx.sessions d.slot).isSome = true := Option.isSome_iff_ne_none.2 hopen
  have hnone : l.filter (fun e => p e.wait) = [] := List.filter_eq_nil_iff.2 fun e he => by rw [hl e he]; decide
  have hrest : l.filter (fun e => e != d) = l := List.filter_eq_self.2 fun e he => by
    rw [bne_iff_ne]
    rintro rfl
    exact absurd hp (by rw [hl e he]; decide)
  simp [finishAll, hd, hnone, hp, finalReply, hrest, htwin, hsome]

theorem reply_sessions (s : State) (slot op : Nat) (tag : Word32) (st : Nat) (b : List Byte) :
    (reply s slot op tag st b).mbx.sessions = s.mbx.sessions ∨ ∃ se, (reply s slot op tag st b).mbx.sessions = tset s.mbx.sessions slot se := by
  have hsend : ∀ (u : State) (f : List Byte), (sendFrame u slot f).mbx.sessions = u.mbx.sessions := fun u f => by
    rw [sendFrame_mbx]
    split <;> rfl
  unfold reply
  dsimp only
  split
  · exact Or.inl (by rw [hsend]; split <;> rfl)
  · split
    · exact Or.inl (by rw [hsend]; split <;> rfl)
    · refine Or.inr ⟨_, congrArg (fun l => tset l slot _) ?_⟩
      rw [hsend]
      split <;> rfl

/-- A reply closes no session. -/
theorem session_reply_ne_none {s : State} {k : Nat} (h : session s k ≠ none) (slot op : Nat) (tag : Word32) (st : Nat) (b : List Byte) :
    session (reply s slot op tag st b) k ≠ none := by
  unfold session at h ⊢
  rcases reply_sessions s slot op tag st b with hsame | ⟨se, hset⟩
  · rwa [hsame]
  · rw [hset, tget_tset]
    split
    · exact Option.some_ne_none se
    · exact h

end

end Sys2Proof.Machine
end

section
/-! PROOFS. Contexts come and go (O29). -/

namespace Sys2Proof.Machine
open Sys2Proof

/-! ### The running of a command whose effect reads pool memory -/

section
variable {c : Instr} {s : State} {slot op : Nat} {tag : Word32} {ws : List Word64} {bad : Bool} {k : State → State × Rep}

/-- A command of the twins' groups whose effect answers, seen from the state that the effect sees. -/
theorem runTwin_answers (h : MayRun s slot op tag) (ha : Alone s) {u : State} {st : Nat} {b : List Byte}
    (hk : k (dequeue s slot tag) = (u, .done st b)) : runTwin slot op tag ws false s k = reply u slot op tag st b := by
  rw [runTwin_eq h ha, runCmd_eq h, hk]

/-- A command of the twins' groups whose effect is deferred, seen from the state that the effect sees. -/
theorem runTwin_defers (h : MayRun s slot op tag) (ha : Alone s) (hr : DeferRoom s) {u : State} {b : List Byte} {w : Wait}
    (hk : k (dequeue s slot tag) = (u, .defer b w)) : runTwin slot op tag ws false s k
      = reply { u with mbx := { u.mbx with deferred := u.mbx.deferred ++ [{ slot := slot, opcode := op, tag := tag, wait := w }] } }
          slot op tag stDEFERRED b := by
  rw [runTwin_eq h ha, runCmd_eq h, hk]
  exact if_neg (Nat.not_le.2 hr)

theorem ctxAt_reply (s : State) (slot op : Nat) (tag : Word32) (st : Nat) (b : List Byte) (x : Nat) :
    ctxAt (reply s slot op tag st b) x = ctxAt s x := ctxAt_congr (congrArg Sched.ctxs (reply_sched ..)) x

theorem SameCtxs.reply {u : State} {l : List Nat} (h : SameCtxs s u l) {st : Nat} {b : List Byte} : SameCtxs s (reply u slot op tag st b) l :=
  fun y hy => (ctxAt_reply ..).trans (h y hy)

theorem ctxAt_dequeue (s : State) (slot : Nat) (tag : Word32) (x : Nat) : ctxAt (dequeue s slot tag) x = ctxAt s x :=
  ctxAt_congr (congrArg Sched.ctxs (dequeue_sched s slot tag)) x

theorem sameCtxs_dequeue (s : State) (slot : Nat) (tag : Word32) (l : List Nat) : SameCtxs s (dequeue s slot tag) l :=
  fun y _ => ctxAt_dequeue s slot tag y

end

theorem atMost_context {x : Word64} (h : x.toNat < 16384) : (!atMost x 16383) = false := by simp [atMost, Nat.le_of_lt_succ h]

/-! ### CONTEXT_CREATE (R236, R250) -/

theorem createParams_inRange {x u r g : Word64} (hx : x.toNat < 16384) (hu : u.toNat < 256) (hr : onlyBits r 0xFFFFFFFFF000 = true)
    (hg : onlyBits g 0x0F3F071F = true) (hlo : 4 ≤ bits g.toNat 4 0) (hhi : bits g.toNat 4 0 ≤ 16) :
    (!atMost x 16383 || !atMost u 255 || !onlyBits r 0xFFFFFFFFF000 || !onlyBits g 0x0F3F071F || decide (bits g.toNat 4 0 < 4)
      || decide (16 < bits g.toNat 4 0)) = false := by
  simp [atMost, Nat.le_of_lt_succ hx, Nat.le_of_lt_succ hu, hr, hg, hlo, hhi]

/-- A context as CONTEXT_CREATE makes it (R250). -/
def Ctx.created (t ring ccfg : Nat) : Ctx :=
  { tenant := t, prio := bits ccfg 10 8, gangMax := bits ccfg 27 24, diemask := bits ccfg 21 16, ringLog := bits ccfg 4 0
    ring := ring, st := cxIDLE, cause := 0, head := 0, tail := 0, pend := true, run := none, next := none, park := none
    busyRetry := false, retryAt := none, reserved := [], gangAt := 0, stealAt := none, stealDone := false, tailWatch := none
    waitWatch := none, refused := [], limit := none, served := 0, overrun := false }

section
variable {s : State} {x t ring ccfg : Nat}

/-- A new context stands as it was made but for what its first read of TAIL gives it. -/
theorem createNow_creates (s : State) (x t ring ccfg : Nat) :
    SameCtxs s (createNow s x t ring ccfg) [x] ∧ ∃ c, ctxAt (createNow s x t ring ccfg) x = some c ∧ (Ctx.created t ring ccfg).Stays c := by
  have hset : ctxAt (setCtx s x (Ctx.created t ring ccfg)) x = some (Ctx.created t ring ccfg) := ctxAt_setCtx_self _ _ _
  have harm := stirs_armTail hset
  obtain ⟨c1, hc1, -⟩ := harm.own _ hset
  have hall := harm.trans (stirs_settle hc1)
  exact ⟨(sameCtxs_setCtx s x _).trans hall.others, hall.own _ hset⟩

theorem tget_none_of_mem {α : Type} {t : Tab α} {k : Nat} (h : tget t k = none) {e : Nat × α} (he : e ∈ t) : e.1 ≠ k := by
  induction t with
  | nil => exact absurd he (by simp)
  | cons d t ih =>
    obtain ⟨k', v⟩ := d
    rw [tget] at h
    split at h
    next => cases h
    next hk =>
      rcases List.mem_cons.1 he with rfl | he
      · exact Ne.symm hk
      · exact ih h he

/-- With a context that is free, the other contexts of a tenant are all that it holds. -/
theorem otherContexts_of_free (h : ctxAt s x = none) (t : Nat) :
    (s.sched.ctxs.filter (fun c => c.2.tenant == t && c.1 != x)).length = heldContexts s t := by
  have hne : ∀ e, e ∈ s.sched.ctxs → (e.2.tenant == t && e.1 != x) = (e.2.tenant == t) := fun e he => by
    have hx : (e.1 != x) = true := bne_iff_ne.2 (tget_none_of_mem h he)
    rw [hx, Bool.and_true]
  rw [heldContexts, List.filter_congr hne]

variable (hten : tenantExists s t = true) (hring : ringPageOk s t ring (bits ccfg 4 0) = true)
  (hdies : diesBad s t (bits ccfg 21 16) = false) (hfree : ctxAt s x = none)
include hten hring hdies hfree

theorem doCtxCreate_creates (hroom : heldContexts s t < rf s (Reg.XLT_TN_LIMITS t) 14 0) (hwatch : freeWatchNo s ≠ none) :
    doCtxCreate x t ring ccfg s = (createNow s x t ring ccfg, Rep.ok) := by
  have hlimit : ¬ rf s (Reg.XLT_TN_LIMITS t) 14 0 ≤ heldContexts s t := Nat.not_le.2 hroom
  have hsome : (freeWatchNo s).isNone = false := Option.isNone_eq_false_iff.2 (Option.isSome_iff_ne_none.2 hwatch)
  simp only [doCtxCreate, hten, hring, hdies, hfree, otherContexts_of_free hfree, hlimit, hsome, Bool.not_true, Bool.or_self, decide_false,
    Bool.false_eq_true, if_false]

theorem doCtxCreate_refuses (hfull : rf s (Reg.XLT_TN_LIMITS t) 14 0 ≤ heldContexts s t) :
    doCtxCreate x t ring ccfg s = (bump s (Reg.XLT_TN_REFCAP t) 1, .done stREFUSED []) := by
  simp only [doCtxCreate, hten, hring, hdies, hfree, otherContexts_of_free hfree, hfull, Bool.not_true, Bool.or_self, decide_true,
    Bool.true_or, Bool.false_eq_true, if_false, if_true]

end

/-! ### CONTEXT_DESTROY and the end of its drain (R249, R250, R458) -/

/-- A context drains: nothing of it is parked or accepted any more, and its watches are free. -/
theorem destroyNow_drains {s : State} {x : Nat} {c : Ctx} (hc : ctxAt s x = some c) :
    (∃ c', ctxAt (destroyNow s x) x = some c' ∧ c'.st = cxDRAINING ∧ c'.next = none ∧ c'.park = none ∧ c'.tailWatch = none)
      ∧ SameCtxs s (destroyNow s x) [x] := by
  obtain ⟨r, hctx, -, hothers⟩ := dropWork_drops hc
  unfold destroyNow
  simp only [hctx]
  have hsched : ∀ u : State, ctxAt (finishSuspend u x) = ctxAt u := fun u => funext fun y =>
    ctxAt_congr (congrArg Sched.ctxs (finishSuspend_sched u x)) y
  constructor
  · rw [hsched, ctxAt_setCtx_self]
    exact ⟨_, rfl, rfl, rfl, rfl, rfl⟩
  · intro y hy
    rw [hsched, sameCtxs_setCtx _ x _ y hy, ← hothers y hy]
    exact ctxAt_congr (congrArg Sched.ctxs ((freeWatchOpt_sched _ _).trans (freeWatchOpt_sched _ _))) y

theorem doCtxDestroy_defers {s : State} {x : Nat} {c : Ctx} (hc : ctxAt s x = some c) (hst : c.st ≠ cxDRAINING)
    (hread : (ringRead s c (c.ring + 0x80) 8).2 ≠ .blocked) :
    ∃ u, doCtxDestroy x s = (u, .defer [] (.contextDestroy x)) ∧ SameCtxs s u [x]
      ∧ ∃ c', ctxAt u x = some c' ∧ c'.st = cxDRAINING ∧ c'.next = none ∧ c'.park = none ∧ c'.tailWatch = none := by
  have hkept := kept_ringRead s c (c.ring + 0x80) 8
  unfold doCtxDestroy
  simp only [hc, if_neg hst]
  rcases hr : ringRead s c (c.ring + 0x80) 8 with ⟨u, r⟩
  rw [hr] at hread hkept
  have hcu : ctxAt u x = some c := (hkept.ctxAt x).trans hc
  have hsu : SameCtxs s u [x] := (Stirs.of_kept hkept x).others
  obtain ⟨hdrained, hothers⟩ := destroyNow_drains hcu
  cases r with
  | ok b n =>
    have htail := stirs_takeTail hcu (leNat b) false
    obtain ⟨c1, hc1, -⟩ := htail.own c hcu
    obtain ⟨hdrained, hothers⟩ := destroyNow_drains hc1
    exact ⟨_, rfl, hsu.trans (htail.others.trans hothers), hdrained⟩
  | poisoned => exact ⟨_, rfl, hsu.trans hothers, hdrained⟩
  | fault => exact ⟨_, rfl, hsu.trans hothers, hdrained⟩
  | blocked => exact absurd rfl hread

/-- A context whose drain has ended, with no create that waits for it. -/
theorem contextDrainDone_frees {s : State} {x : Nat} {c : Ctx} (hc : ctxAt s x = some c) (hst : c.st = cxDRAINING) (hrun : c.run = none)
    (hbulk : bulkOfCtx s x = []) (hdone : c.drainTo ≤ c.head) (hnone : ∀ d, d ∈ s.mbx.deferred → isCreate x d.wait = false) :
    Completes (.contextDrainDone x) s (fun t =>
      ctxAt t x = none ∧ SameCtxs s t [x] ∧ (∀ d, d ∈ t.mbx.deferred → d.wait ≠ .contextDestroy x) ∧ t.xlt = s.xlt ∧ t.dram = s.dram) := by
  obtain ⟨u, hu⟩ : ∃ u : State, u = { s with sched := { s.sched with
      ctxs := tdel s.sched.ctxs x, posts := s.sched.posts.filter (fun p => p.1 != x) } } := ⟨_, rfl⟩
  have hctx : ∀ y, ctxAt u y = if y = x then none else ctxAt s y := fun y => by rw [hu]; exact tget_tdel _ _ _
  have hfin : ∀ y, ctxAt (finishAll u (fun w => w == .contextDestroy x) stOK []) y = ctxAt u y :=
    fun y => ctxAt_congr (congrArg Sched.ctxs (finishAll_sched ..)) y
  have hwaits : (finishAll u (fun w => w == .contextDestroy x) stOK []).mbx.deferred.filter (fun d => isCreate x d.wait) = [] := by
    refine List.filter_eq_nil_iff.2 fun d hd => ?_
    rw [mem_deferred_finishAll, hu] at hd
    rw [hnone d hd.1]
    decide
  refine ⟨finishAll u (fun w => w == .contextDestroy x) stOK [], ?_, ?_, fun y hy => ?_, fun d hd => ?_, ?_, ?_⟩
  · have hends : ¬ (c.st ≠ cxDRAINING ∨ c.run.isSome = true ∨ (bulkOfCtx s x).isEmpty = false ∨ c.head < c.drainTo) := by
      simp [hst, hrun, hbulk, hdone]
    simp only [exec, execContextDrainDone, hc, if_neg hends, ← hu, hwaits, List.getLast?_nil]
  · rw [hfin, hctx, if_pos rfl]
  · rw [hfin, hctx, if_neg fun h => hy (List.mem_singleton.2 h)]
  · have hp := ((mem_deferred_finishAll ..).1 hd).2
    simpa using hp
  · rw [finishAll_xlt, hu]
  · rw [finishAll_dram, hu]

/-! ### CONTEXT_RESTART (R250) -/

/-- TAIL as it stood leaves the context as it is. -/
theorem takeTail_of_le {s : State} {x v : Nat} {c : Ctx} (hc : ctxAt s x = some c) (hv : v ≤ c.tail) : takeTail s x v false = s := by
  simp only [takeTail, hc, hv, if_true, Bool.false_eq_true, if_false, ite_self]

/-- A context that restarts, its ring drained up to TAIL. -/
def Ctx.restarted (c : Ctx) : Ctx :=
  { c with st := cxIDLE, limit := none, pend := decide (c.cause ≠ stRING_OVERRUN), overrun := false }

/-- The state once a drained context is IDLE again: the cause of its stop is cleared in its ring, and its TAIL is read. -/
def restartedAt (w : State) (x : Nat) (c : Ctx) : State :=
  settle (armTail (setCtx (headerPut (setCtx w x { c with limit := some c.tail }) x { c with limit := some c.tail } 0x18 (leBytes 8 0)).1 x
    c.restarted) x) x

theorem restartedAt_stays (w : State) (x : Nat) (c : Ctx) :
    SameCtxs w (restartedAt w x c) [x] ∧ ∃ c', ctxAt (restartedAt w x c) x = some c' ∧ c.restarted.Stays c' := by
  have hput := headerPut_ctxs (setCtx w x { c with limit := some c.tail }) x { c with limit := some c.tail } 0x18 (leBytes 8 0)
  unfold restartedAt
  generalize (headerPut (setCtx w x { c with limit := some c.tail }) x { c with limit := some c.tail } 0x18 (leBytes 8 0)).1 = u at hput ⊢
  have hset : ctxAt (setCtx u x c.restarted) x = some c.restarted := ctxAt_setCtx_self _ _ _
  have harm := stirs_armTail hset
  obtain ⟨c1, hc1, -⟩ := harm.own _ hset
  have hall := harm.trans (stirs_settle hc1)
  have hothers : SameCtxs w (setCtx u x c.restarted) [x] :=
    ((sameCtxs_setCtx w x _).trans (SameCtxs.of_ctxs hput.1 _)).trans (sameCtxs_setCtx u x _)
  exact ⟨hothers.trans hall.others, hall.own _ hset⟩

/-- A stopped context has nothing left to drain, whether its TAIL is read or the previous one stands. -/
theorem doCtxRestart_eq {s u : State} {x : Nat} {c : Ctx} {b : List Byte} {n : Nat} (hc : ctxAt s x = some c) (hst : c.st = cxSTOPPED)
    (hrun : c.run = none) (hlimit : c.limit = none) (hdrained : c.head = c.tail) (hbulk : bulkOfCtx s x = [])
    (hread : ringRead s c (c.ring + 0x80) 8 = (u, .ok b n)) (htail : leNat b ≤ c.tail) :
    ∃ w, Kept s w ∧ doCtxRestart x s = (restartedAt w x c, Rep.words [c.head]) := by
  have hgoing : ¬ c.st = cxDRAINING := by rw [hst]; decide
  have hstopped : ¬ c.st ≠ cxSTOPPED := not_not.2 hst
  have hkept : Kept s u := by simpa only [hread] using kept_ringRead s c (c.ring + 0x80) 8
  have hdrain : ∀ w, Kept s w → updCtx w x (fun c => { c with limit := some c.drainTo }) = setCtx w x { c with limit := some c.tail } := fun w hw => by
    rw [updCtx_eq ((hw.ctxAt x).trans hc), Ctx.drainTo, hlimit]
    rfl
  have hnone : ∀ w, Kept s w → bulkOfCtx (setCtx w x { c with limit := some c.tail }) x = [] := fun w hw => by
    rw [← hbulk]
    exact congrArg (fun l : List BulkJob => l.filter (fun b => b.context == x)) (congrArg Sched.bulk hw.sched)
  have hslots : ∀ w, drainSlots (2 ^ c.ringLog + 1) (setCtx w x { c with limit := some c.tail }) x
      = (true, setCtx w x { c with limit := some c.tail }) := fun w => by
    simp [drainSlots, hrun, Ctx.drainTo, hdrained]
  by_cases hcause : c.cause = stRING_OVERRUN
  · refine ⟨s, Kept.refl s, ?_⟩
    have hstands : c.limit.isSome = true ∨ c.cause = stRING_OVERRUN := Or.inr hcause
    simp only [doCtxRestart, hc, if_neg hgoing, if_neg hstopped, if_pos hstands, hdrain s (Kept.refl s), hnone s (Kept.refl s), hslots,
      List.foldl_nil, List.isEmpty_nil, Bool.not_true, Bool.false_eq_true, if_false, ctxAt_setCtx_self]
    rfl
  · refine ⟨u, hkept, ?_⟩
    have hreads : ¬ (c.limit.isSome = true ∨ c.cause = stRING_OVERRUN) := by simp [hlimit, hcause]
    simp only [doCtxRestart, hc, if_neg hgoing, if_neg hstopped, if_neg hreads, hread, takeTail_of_le ((hkept.ctxAt x).trans hc) htail,
      hdrain u hkept, hnone u hkept, hslots, List.foldl_nil, List.isEmpty_nil, Bool.not_true, Bool.false_eq_true, if_false, ctxAt_setCtx_self]
    rfl

/-- Settles O29: a new context and one that restarts stand as they are made but for what their first read of TAIL gives them. -/
theorem contextsComeAndGo : Obligations.ContextsComeAndGo := by
  unfold Obligations.ContextsComeAndGo
  refine ⟨fun s slot tag x u r g hrun ha hx hu hr hg hlo hhi hten hring hdies hfree => ⟨fun hroom hwatch _ => ?_, fun hfull => ?_⟩,
    fun s slot tag x c hrun ha hroom hx hc hst hread => ?_,
    fun s x c hc hst hidle hbulk hdone hnone => contextDrainDone_frees hc hst hidle hbulk hdone hnone,
    fun s u slot tag x c b n hrun ha hx hc hst hidle hlimit hdrained hbulk hread htail => ?_⟩
  case refine_1 =>
    have hbad := createParams_inRange hx hu hr hg hlo hhi
    refine completes_done rfl hbad hrun ha fun m => ?_
    obtain ⟨hothers, c, hc, hstays⟩ := createNow_creates { s with mbx := m } x.toNat u.toNat r.toNat g.toNat
    refine ⟨_, _, _, doCtxCreate_creates (s := { s with mbx := m }) hten hring hdies hfree hroom hwatch, ⟨c, (ctxAt_reply ..).trans hc,
      hstays.tenant, hstays.ring, hstays.ringLog, hstays.prio, hstays.gangMax, hstays.diemask, hstays.head, hstays.run rfl⟩, ?_, ⟨_, rfl⟩⟩
    exact SameCtxs.reply (s := s) hothers
  case refine_2 =>
    have hbad := createParams_inRange hx hu hr hg hlo hhi
    refine completes_done rfl hbad hrun ha fun m => ⟨_, _, _, doCtxCreate_refuses (s := { s with mbx := m }) hten hring hdies hfree hfull,
      ⟨_, rfl⟩, ?_, SameRegs.reply (sameRegs_bump { s with mbx := m } 1 (List.mem_singleton_self _)),
      SamePool.reply ((samePool_mbx s m).trans (samePool_rput _ _ _))⟩
    rw [rg_reply_answered]
    exact rg_bump_self _ _ _
  case refine_3 =>
    have hbad := atMost_context hx
    have hfree : ctxAt (dequeue s slot tag) x.toNat = some c := (ctxAt_dequeue ..).trans hc
    obtain ⟨v, hv, hothers, c', hc', hst', hnext, hpark, hwatch⟩ := doCtxDestroy_defers hfree hst hread
    have hexec : exec (.contextDestroy slot tag x) s = .next (runTwin slot 0x0321 tag [x] (!atMost x 16383) s (doCtxDestroy x.toNat)) := rfl
    rw [hbad, runTwin_defers hrun ha hroom hv] at hexec
    refine ⟨_, hexec, ⟨c', (ctxAt_reply ..).trans hc', hst', hnext, hpark, hwatch⟩, ⟨{ slot := slot, opcode := 0x0321, tag := tag, wait := .contextDestroy x.toNat }, ?_, rfl, rfl, rfl⟩, ?_, ⟨_, rfl⟩⟩
    · rw [reply_mbx_deferred]
      exact List.mem_append_right _ (List.mem_singleton_self _)
    · refine SameCtxs.reply ?_
      exact (sameCtxs_dequeue s slot tag _).trans hothers
  case refine_4 =>
    have hbad := atMost_context hx
    have hcd : ctxAt (dequeue s slot tag) x.toNat = some c := (ctxAt_dequeue ..).trans hc
    have hbulkd : bulkOfCtx (dequeue s slot tag) x.toNat = [] := by
      rw [← hbulk]
      exact congrArg (fun l : List BulkJob => l.filter (fun b => b.context == x.toNat)) (congrArg Sched.bulk (dequeue_sched ..))
    obtain ⟨w, hw, hv⟩ := doCtxRestart_eq hcd hst hidle hlimit hdrained hbulkd hread htail
    obtain ⟨hothers, c', hc', hstays⟩ := restartedAt_stays w x.toNat c
    have hexec : exec (.contextRestart slot tag x) s = .next (runTwin slot 0x0323 tag [x] (!atMost x 16383) s (doCtxRestart x.toNat)) := rfl
    rw [hbad, runTwin_answers hrun ha hv] at hexec
    refine ⟨_, hexec, ⟨c', (ctxAt_reply ..).trans hc', hstays.head, hstays.limit, hstays.run hidle, hstays.ring⟩,
      SameCtxs.reply (((sameCtxs_dequeue s slot tag _).trans (Stirs.of_kept hw x.toNat).others).trans hothers), ⟨_, rfl⟩⟩

end Sys2Proof.Machine
end

section
/-! PROOFS. Contexts and courses under command (O30). -/

namespace Sys2Proof.Machine
open Sys2Proof

/-! ### CONTEXT_SUSPEND and CONTEXT_RESUME (R249, R253) -/

/-- A context without the courses that it had reserved or waited for. -/
def Ctx.unreserved (c : Ctx) : Ctx := { c with reserved := [], stealAt := none, stealDone := false }

section
variable {s : State} {x : Nat} {c : Ctx} (hc : ctxAt s x = some c)
include hc

theorem doCtxSuspend_of_idle (hst : c.st < cxSUSPENDED) (hrun : c.run = none) :
    doCtxSuspend x s = (setCtx s x { c.unreserved with st := cxSUSPENDED }, .defer [] (.contextSuspend x)) := by
  have hgoing : ¬ c.st = cxDRAINING := by intro h; rw [h] at hst; exact absurd hst (by decide)
  simp only [doCtxSuspend, hc, hgoing, Nat.not_le.2 hst, hrun, Ctx.unreserved, Bool.false_eq_true, if_false]

theorem doCtxSuspend_of_running {r : Run} (hst : c.st < cxSUSPENDED) (hrun : c.run = some r) (hmembers : r.members ≠ []) (hstop : r.stop = 0) :
    doCtxSuspend x s = (setCtx s x { c.unreserved with run := some { r with stop := 2 } }, .defer [] (.contextSuspend x)) := by
  have hgoing : ¬ c.st = cxDRAINING := by intro h; rw [h] at hst; exact absurd hst (by decide)
  have hon : (!r.members.isEmpty || r.job.phase == 1) = true := by simp [hmembers]
  simp only [doCtxSuspend, hc, hgoing, Nat.not_le.2 hst, hrun, hon, hstop, Option.map_some, true_or, Ctx.unreserved, if_false, if_true]

/-- A resumption lets the context settle; with nothing parked there is nothing to translate again. -/
theorem doCtxResume_settles (hst : c.st = cxSUSPENDED) (hpark : c.park = none) :
    ∃ u, doCtxResume x s = (u, Rep.ok) ∧ SameCtxs s u [x]
      ∧ ∃ c', ctxAt u x = some c' ∧ c'.st ≠ cxSUSPENDED ∧ c'.head = c.head ∧ c'.ring = c.ring := by
  have hgoing : ¬ c.st = cxDRAINING := by rw [hst]; decide
  have hidle : cxIDLE ≠ cxSUSPENDED := by decide
  have hset : ctxAt (setCtx s x { c with st := cxIDLE, pend := true }) x = some { c with st := cxIDLE, pend := true } := ctxAt_setCtx_self _ _ _
  have hsettle := stirs_settle hset
  obtain ⟨c', hc', hstays⟩ := hsettle.own _ hset
  refine ⟨settle (setCtx s x { c with st := cxIDLE, pend := true }) x, ?_, (sameCtxs_setCtx s x _).trans hsettle.others, c', hc',
    hstays.awake hidle, hstays.head, hstays.ring⟩
  simp only [doCtxResume, hc, if_neg hgoing, if_neg (not_not.2 hst), retryPark, hc', hstays.park hpark]

end

/-- A suspension that has taken effect at once has its final reply, and no other command has one. -/
theorem finishSuspend_replies {s : State} {x : Nat} {c : Ctx} {l : List Deferred} {d : Deferred} (hc : ctxAt s x = some c)
    (hst : c.st = cxSUSPENDED) (hd : s.mbx.deferred = l ++ [d]) (hl : ∀ e, e ∈ l → e.wait ≠ .contextSuspend x)
    (hwait : d.wait = .contextSuspend x) (hopen : session s d.slot ≠ none) (htwin : s.twin.replies = []) :
    finishSuspend s x = reply { s with mbx := { s.mbx with deferred := l } } d.slot d.opcode d.tag stOK [] := by
  unfold finishSuspend
  simp only [hc, hst, if_true]
  refine finishAll_last hd (fun e he => ?_) ?_ hopen htwin _ _
  · simpa using hl e he
  · simp [hwait]

theorem finishSuspend_of_awake {s : State} {x : Nat} {c : Ctx} (hc : ctxAt s x = some c) (hst : c.st < cxSUSPENDED) : finishSuspend s x = s := by
  have hstopped : ¬ cxSTOPPED ≤ c.st := Nat.not_le.2 (Nat.lt_trans hst (by decide))
  simp only [finishSuspend, hc, Nat.ne_of_lt hst, hstopped, if_false]

theorem session_dequeue_ne_none {s : State} {k : Nat} (h : session s k ≠ none) (slot : Nat) (tag : Word32) :
    session (dequeue s slot tag) k ≠ none := fun hnone => by
  have hident := session_dequeue_identity s slot tag k
  rw [hnone, Option.map_none, eq_comm, Option.map_eq_none_iff] at hident
  exact h hident

section
variable {s : State} {slot : Nat} {tag : Word32} {x : Word64} {c : Ctx} (hrun : MayRun s slot 0x0324 tag) (ha : Alone s) (hroom : DeferRoom s)
  (hx : x.toNat < 16384) (hc : ctxAt s x.toNat = some c) (hst : c.st < cxSUSPENDED)
include hrun ha hroom hx hc hst

theorem contextSuspend_of_idle (hnone : ∀ d, d ∈ s.mbx.deferred → d.wait ≠ .contextSuspend x.toNat) (hidle : c.run = none)
    (hopen : session s slot ≠ none) (htwin : s.twin.replies = []) :
    Completes (.contextSuspend slot tag x) s (fun t =>
      (∃ c', ctxAt t x.toNat = some c' ∧ c'.st = cxSUSPENDED ∧ c'.head = c.head ∧ c'.tail = c.tail ∧ c'.run = none)
      ∧ SameCtxs s t [x.toNat] ∧ Replied t slot 0x0324 tag stOK [] ∧ t.mbx.deferred = s.mbx.deferred
      ∧ SameRegs s t [] ∧ t.mem = s.mem ∧ t.xlt = s.xlt) := by
  have hcd : ctxAt (dequeue s slot tag) x.toNat = some c := (ctxAt_dequeue ..).trans hc
  have hexec : exec (.contextSuspend slot tag x) s
    = .next (finishSuspend (runTwin slot 0x0324 tag [x] (!atMost x 16383) s (doCtxSuspend x.toNat)) x.toNat) := rfl
  rw [atMost_context hx, runTwin_defers hrun ha hroom (doCtxSuspend_of_idle hcd hst hidle)] at hexec
  rw [finishSuspend_replies (l := s.mbx.deferred) (d := { slot := slot, opcode := 0x0324, tag := tag, wait := .contextSuspend x.toNat })
    (c := { c.unreserved with st := cxSUSPENDED }) ?ctx rfl ?deferred hnone rfl ?opened ?twin] at hexec
  case ctx => rw [ctxAt_reply]; exact ctxAt_setCtx_self (dequeue s slot tag) _ _
  case deferred =>
    rw [reply_mbx_deferred]
    exact congrArg (· ++ _) (dequeue_mbx_deferred s slot tag)
  case opened =>
    refine session_reply_ne_none ?_ _ _ _ _ _
    exact session_dequeue_ne_none hopen slot tag
  case twin =>
    rw [reply_twin]
    exact (congrArg Twin.replies (dequeue_twin s slot tag)).trans htwin
  refine ⟨_, hexec, ⟨{ c.unreserved with st := cxSUSPENDED }, ?_, rfl, rfl, rfl, hidle⟩, ?_, ⟨_, rfl⟩, reply_mbx_deferred .., ?_, ?_, ?_⟩
  · rw [ctxAt_reply]
    exact (ctxAt_reply ..).trans (ctxAt_setCtx_self (dequeue s slot tag) _ _)
  · intro y hy
    rw [ctxAt_reply, ← ctxAt_dequeue s slot tag y, ← sameCtxs_setCtx (dequeue s slot tag) x.toNat _ y hy]
    exact ctxAt_reply ..
  · exact SameRegs.reply ((SameRegs.of_regs (dequeue_regs s slot tag) []).trans (SameRegs.reply (SameRegs.of_regs rfl [])))
  · rw [reply_mem]
    exact (reply_mem ..).trans (dequeue_mem ..)
  · rw [reply_xlt]
    exact (reply_xlt ..).trans (dequeue_xlt ..)

theorem contextSuspend_of_running {r : Run} (hr : c.run = some r) (hmembers : r.members ≠ []) (hstop : r.stop = 0) :
    Completes (.contextSuspend slot tag x) s (fun t =>
      ctxAt t x.toNat = some { c with reserved := [], stealAt := none, stealDone := false, run := some { r with stop := 2 } }
      ∧ SameCtxs s t [x.toNat] ∧ Replied t slot 0x0324 tag stDEFERRED [] ∧ SameRegs s t [] ∧ t.mem = s.mem ∧ t.xlt = s.xlt) := by
  have hcd : ctxAt (dequeue s slot tag) x.toNat = some c := (ctxAt_dequeue ..).trans hc
  have hexec : exec (.contextSuspend slot tag x) s
    = .next (finishSuspend (runTwin slot 0x0324 tag [x] (!atMost x 16383) s (doCtxSuspend x.toNat)) x.toNat) := rfl
  rw [atMost_context hx, runTwin_defers hrun ha hroom (doCtxSuspend_of_running hcd hst hr hmembers hstop)] at hexec
  rw [finishSuspend_of_awake (c := { c.unreserved with run := some { r with stop := 2 } }) ?ctx hst] at hexec
  case ctx => rw [ctxAt_reply]; exact ctxAt_setCtx_self (dequeue s slot tag) _ _
  refine ⟨_, hexec, (ctxAt_reply ..).trans (ctxAt_setCtx_self (dequeue s slot tag) _ _), fun y hy => ?_, ⟨_, rfl⟩, ?_,
    (reply_mem ..).trans (dequeue_mem ..), (reply_xlt ..).trans (dequeue_xlt ..)⟩
  · rw [ctxAt_reply, ← ctxAt_dequeue s slot tag y]
    exact sameCtxs_setCtx (dequeue s slot tag) x.toNat _ y hy
  · exact SameRegs.reply (SameRegs.of_regs (dequeue_regs s slot tag) [])

end

/-! ### CONTEXT_SET (R250, R499) -/

/-- A field whose bits are all selected takes the new ones. -/
theorem pick_all (v hi lo old : Nat) :
    (bits v hi lo &&& (2 ^ (hi + 1 - lo) - 1)) ||| (old &&& (2 ^ (hi + 1 - lo) - 1 - (2 ^ (hi + 1 - lo) - 1))) = bits v hi lo := by
  rw [Nat.sub_self, Nat.and_zero, Nat.or_zero, Nat.and_two_pow_sub_one_eq_mod, bits, Nat.mod_mod]

/-- A field none of whose bits is selected keeps its own. -/
theorem pick_none (v : Nat) {n old : Nat} (hold : old < 2 ^ n) : (v &&& 0) ||| (old &&& (2 ^ n - 1 - 0)) = old := by
  rw [Nat.and_zero, Nat.zero_or, Nat.sub_zero, Nat.and_two_pow_sub_one_eq_mod, Nat.mod_eq_of_lt hold]

theorem diesBad_of_shared {s : State} {t : Nat} (h : isolated s t = false) (mask : Nat) : diesBad s t mask = false := by
  rw [diesBad, h, Bool.false_and]

section
variable {s : State} {x : Nat} {c : Ctx} (hc : ctxAt s x = some c) (hshared : isolated s c.tenant = false)
include hc hshared

theorem doCtxSet_all (g : Nat) : doCtxSet x g 0x0F3F0700 s
    = (setCtx s x { c with prio := bits g 10 8, diemask := bits g 21 16, gangMax := bits g 27 24 }, Rep.ok) := by
  have h1 := pick_all g 10 8 c.prio
  have h2 := pick_all g 21 16 c.diemask
  have h3 := pick_all g 27 24 c.gangMax
  have e1 : bits 0x0F3F0700 10 8 = 2 ^ (10 + 1 - 8) - 1 := by decide
  have e2 : bits 0x0F3F0700 21 16 = 2 ^ (21 + 1 - 16) - 1 := by decide
  have e3 : bits 0x0F3F0700 27 24 = 2 ^ (27 + 1 - 24) - 1 := by decide
  simp only [doCtxSet, hc, diesBad_of_shared hshared, e1, e2, e3, h1, h2, h3, Bool.false_eq_true, if_false]

theorem doCtxSet_prio (g : Nat) (hdies : c.diemask < 64) (hgang : c.gangMax < 16) :
    doCtxSet x g 0x0700 s = (setCtx s x { c with prio := bits g 10 8 }, Rep.ok) := by
  have h1 := pick_all g 10 8 c.prio
  have h2 := pick_none (bits g 21 16) (n := 21 + 1 - 16) hdies
  have h3 := pick_none (bits g 27 24) (n := 27 + 1 - 24) hgang
  have e1 : bits 0x0700 10 8 = 2 ^ (10 + 1 - 8) - 1 := by decide
  have e2 : bits 0x0700 21 16 = 0 := by decide
  have e3 : bits 0x0700 27 24 = 0 := by decide
  simp only [doCtxSet, hc, diesBad_of_shared hshared, e1, e2, e3, h1, h2, h3, Bool.false_eq_true, if_false]

end

/-! ### COURSE_SET (R250, R253, R458) -/

/-- A command of the twins' groups whose effect answers at once, and sees the deferred commands as they were. -/
theorem completes_answer {c : Instr} {s : State} {slot op : Nat} {tag : Word32} {ws : List Word64} {bad : Bool} {k : State → State × Rep}
    {P : State → Prop} (hc : exec c s = .next (runTwin slot op tag ws bad s k)) (hbad : bad = false) (h : MayRun s slot op tag) (ha : Alone s)
    (hk : ∀ m, m.deferred = s.mbx.deferred → ∃ u st b, k { s with mbx := m } = (u, .done st b) ∧ P (reply u slot op tag st b)) :
    Completes c s P := by
  obtain ⟨m, hm, hd⟩ := dequeue_eq_mbx s slot tag
  obtain ⟨u, st, b, hu, hP⟩ := hk m hd
  refine ⟨_, ?_, hP⟩
  rw [hc, hbad, runTwin_answers h ha (by rw [hm, hu])]

theorem courseParams_inRange {m e : Word64} {k : Nat} (hk : k < 12) (hm : m.toNat = 2 ^ k) (he : onlyBits e 0xFFF = true) :
    (!onlyBits m 0xFFF || !onlyBits e 0xFFF) = false := by
  have hlt : m.toNat < 2 ^ 12 := hm ▸ Nat.pow_lt_pow_right (by decide) hk
  have hmask : onlyBits m 0xFFF = true := onlyBits_of_lt hlt
  rw [hmask, he]
  rfl

theorem maskList_two_pow {k : Nat} (hk : k < 12) : maskList 12 (2 ^ k) = [k] := by
  have hall : ∀ k, k < 12 → maskList 12 (2 ^ k) = [k] := by decide
  exact hall k hk

/-- No COURSE_SET waits for a drain. -/
def NoCourseSet (s : State) : Prop := ∀ d, d ∈ s.mbx.deferred → ∀ a b c, d.wait ≠ .courseSet a b c

theorem finishCourses_of_none {s : State} (h : NoCourseSet s) : finishCourses s = s := by
  unfold finishCourses
  extract_lets ended starts send ds
  have hnone : ds = [] := List.filter_eq_nil_iff.2 fun d hd => by
    dsimp only [ended]
    split
    next off on can hw => exact absurd hw (h d hd off on can)
    next => decide
  rw [hnone]
  rfl

/-- A context that loses a course: what it had reserved of it, and the descriptor that runs on it at its next tile boundary. -/
def Ctx.loses (k : Nat) (c : Ctx) : Ctx :=
  { c with reserved := c.reserved.filter (fun n => n != k)
           run := c.run.map (fun r => if r.members.contains k ∧ r.stop = 0 then { r with stop := 1 } else r) }

/-- Every context loses a course. -/
def loseCourse (s : State) (k : Nat) : State := { s with sched := { s.sched with ctxs := s.sched.ctxs.map (fun e => (e.1, e.2.loses k)) } }

theorem ctxAt_loseCourse (s : State) (k x : Nat) : ctxAt (loseCourse s k) x = (ctxAt s x).map (Ctx.loses k) :=
  tget_map (Ctx.loses k) s.sched.ctxs x

section
variable {s : State} {k e : Nat} (hk : k < 12) (hdrain : s.sched.draining = 0) (hnone : NoCourseSet s)
include hk hdrain hnone

theorem doCourseSet_enables (he : bit e k = true) : doCourseSet (2 ^ k) e s = (putCourse s k 1, Rep.ok) := by
  have hidle : bit 0 k = false := Nat.zero_testBit k
  simp [doCourseSet, maskList_two_pow hk, he, hdrain, hidle, finishCourses_of_none hnone]

theorem doCourseSet_disables (he : bit e k = false) (hruns : courseRuns s k = false) :
    doCourseSet (2 ^ k) e s = (putCourse (loseCourse s k) k 0, Rep.ok) := by
  have hidle : bit 0 k = false := Nat.zero_testBit k
  simp [doCourseSet, maskList_two_pow hk, he, hdrain, hidle, finishCourses_of_none hnone, disableCourse, hruns, loseCourse, Ctx.loses, putCourse]

theorem doCourseSet_drains (he : bit e k = false) (hruns : courseRuns s k = true) :
    doCourseSet (2 ^ k) e s
      = ({ loseCourse s k with sched := { (loseCourse s k).sched with draining := 2 ^ k } }, .defer [] (.courseSet (2 ^ k) 0 0)) := by
  have hidle : bit 0 k = false := Nat.zero_testBit k
  have hbit : bit (2 ^ k) k = true := Nat.testBit_two_pow_self
  simp [doCourseSet, maskList_two_pow hk, he, hdrain, hidle, hbit, finishCourses_of_none hnone, disableCourse, hruns, loseCourse, Ctx.loses]

end

theorem rf_putCourse (s : State) (k v : Nat) : rf (putCourse s k v) (Reg.CRS_CTL (k / 2) (k % 2)) 0 0 = v % 2 :=
  rf_rputF_self s _ (by decide) v

/-- EN of a course alone changes. -/
theorem sameRegs_putCourse (s : State) (k v : Nat) : SameRegs s (putCourse s k v) [Reg.CRS_CTL (k / 2) (k % 2)] :=
  sameRegs_rputF s 0 0 v (List.mem_singleton_self _)

/-- A course whose drain has ended is disabled. -/
def drainEnded (s : State) (k : Nat) : State := putCourse { s with sched := { s.sched with draining := 0 } } k 0

theorem finishCourses_drainEnded {s : State} {k : Nat} {d : Deferred} (hd : s.mbx.deferred = [d]) (hwait : d.wait = .courseSet (2 ^ k) 0 0) :
    finishCourses (drainEnded s k) = finalReply (drainEnded s k) d stOK [] := by
  have hdeferred : (drainEnded s k).mbx.deferred = [d] := hd
  have hdraining : (drainEnded s k).sched.draining = 0 := rfl
  simp [finishCourses, hdeferred, hdraining, hwait]

/-- The drain of the one course that drains ends, and with it the one command that is deferred. -/
theorem courseDrainDone_disables {s : State} {k : Nat} {d : Deferred} (hruns : courseRuns s k = false) (hdrain : s.sched.draining = 2 ^ k)
    (hd : s.mbx.deferred = [d]) (hwait : d.wait = .courseSet (2 ^ k) 0 0) (hopen : session s d.slot ≠ none) (htwin : s.twin.replies = []) :
    exec (.courseDrainDone k) s
      = .next (reply { drainEnded s k with mbx := { s.mbx with deferred := [] } } d.slot d.opcode d.tag stOK []) := by
  have hbit : bit (2 ^ k) k = true := Nat.testBit_two_pow_self
  have hidle : bit 0 k = false := Nat.zero_testBit k
  have hends : ¬ (!bit s.sched.draining k || courseRuns s k) = true := by simp [hdrain, hbit, hruns]
  change execCourseDrainDone k s = _
  unfold execCourseDrainDone
  rw [if_neg hends]
  extract_lets sched t again
  have ht : t = drainEnded s k := by
    dsimp only [t]
    rw [hdrain, Nat.sub_self]
    rfl
  have hdeferred : t.mbx.deferred = [d] := by rw [ht]; exact hd
  have hagain : again = false := by simp [again, hdeferred, hwait, hidle]
  rw [hagain, if_neg Bool.false_ne_true, ht, finishCourses_drainEnded hd hwait, finalReply_only (s := drainEnded s k) hd hopen htwin]
  rfl

/-- Settles O30: what a context or a course is set to is read from the one context or register that the command writes. -/
theorem contextsAndCoursesAreSet : Obligations.ContextsAndCoursesAreSet := by
  unfold Obligations.ContextsAndCoursesAreSet
  refine ⟨fun s slot tag x c hrun ha hroom hx hc hst hnone =>
      ⟨fun hidle hopen htwin => contextSuspend_of_idle hrun ha hroom hx hc hst hnone hidle hopen htwin,
        fun r hr hmembers hstop => contextSuspend_of_running hrun ha hroom hx hc hst hr hmembers hstop⟩,
    fun s slot tag x c hrun ha hx hc hst hpark => ?_,
    fun s slot tag x g m c hrun ha hx hc hg hshared hprio hdies hgang => ⟨fun hm => ?_, fun hm => ?_⟩,
    fun s slot tag x c hrun hx hc => ?_, fun s slot tag hrun => ?_,
    fun s slot tag m e k hrun ha hroom hk hm he hdrain hnone => ⟨fun hcase => ?_, fun hoff hruns => ?_⟩,
    fun s k slot tag hruns hdrain hopen htwin hd => ?_⟩
  case refine_1 =>
    have hbad := atMost_context hx
    refine completes_done rfl hbad hrun ha fun m => ?_
    obtain ⟨u, hu, hothers, c', hc', hawake, hhead, hring⟩ := doCtxResume_settles (s := { s with mbx := m }) hc hst hpark
    exact ⟨u, stOK, [], hu, ⟨c', (ctxAt_reply ..).trans hc', hawake, hhead, hring⟩, fun y hy => (ctxAt_reply ..).trans (hothers y hy), ⟨_, rfl⟩⟩
  case refine_2 =>
    obtain rfl : m = 0x0F3F0700#64 := BitVec.eq_of_toNat_eq hm
    have hbad : (!atMost x 16383 || !onlyBits g 0x0F3F071F || !onlyBits 0x0F3F0700#64 0x0F3F0700) = false := by
      rw [atMost_context hx, hg]
      decide
    refine completes_done rfl hbad hrun ha fun m => ⟨_, _, _, doCtxSet_all (s := { s with mbx := m }) hc hshared g.toNat,
      (ctxAt_reply ..).trans (ctxAt_setCtx_self _ _ _), fun y hy => (ctxAt_reply ..).trans (sameCtxs_setCtx { s with mbx := m } _ _ y hy),
      ⟨_, rfl⟩, SameRegs.reply (SameRegs.of_regs rfl []), reply_mem .., reply_xlt ..⟩
  case refine_3 =>
    obtain rfl : m = 0x0700#64 := BitVec.eq_of_toNat_eq hm
    have hbad : (!atMost x 16383 || !onlyBits g 0x0F3F071F || !onlyBits 0x0700#64 0x0F3F0700) = false := by
      rw [atMost_context hx, hg]
      decide
    refine completes_done rfl hbad hrun ha fun m => ⟨_, _, _, doCtxSet_prio (s := { s with mbx := m }) hc hshared g.toNat hdies hgang,
      (ctxAt_reply ..).trans (ctxAt_setCtx_self _ _ _), fun y hy => (ctxAt_reply ..).trans (sameCtxs_setCtx { s with mbx := m } _ _ y hy), ⟨_, rfl⟩⟩
  case refine_4 =>
    have hbad := atMost_context hx
    refine completes_query rfl hbad hrun fun m => ⟨{ s with mbx := m }, stOK,
      [ctxCfgWord s x.toNat, ctxStatWord s x.toNat, c.head, c.tail].flatMap (leBytes 8), ?_, ⟨_, rfl⟩,
      SameRegs.reply (sameRegs_mbx s m []), SamePool.reply (samePool_mbx s m), SameRest.reply (sameRest_mbx s m)⟩
    have hcm : ctxAt { s with mbx := m } x.toNat = some c := hc
    simp only [hcm]
    rfl
  case refine_5 =>
    exact completes_query rfl rfl hrun fun m => ⟨{ s with mbx := m }, stOK, capWords.flatMap (leBytes 4), rfl, ⟨_, rfl⟩,
      SameRegs.reply (sameRegs_mbx s m []), SamePool.reply (samePool_mbx s m), SameRest.reply (sameRest_mbx s m)⟩
  case refine_6 =>
    have hbad := courseParams_inRange hk hm he
    refine completes_answer rfl hbad hrun ha fun mb hmb => ?_
    have hnone' : NoCourseSet { s with mbx := mb } := by rwa [NoCourseSet, hmb]
    rw [hm]
    cases hen : bit e.toNat k with
    | true =>
      exact ⟨_, _, _, doCourseSet_enables (s := { s with mbx := mb }) hk hdrain hnone' hen, (rf_reply_ok ..).trans (rf_putCourse ..),
        SameRegs.reply (sameRegs_putCourse { s with mbx := mb } k 1), congrArg Sched.draining (reply_sched ..) |>.trans hdrain, ⟨_, rfl⟩,
        reply_mem .., reply_xlt ..⟩
    | false =>
      have hruns : courseRuns s k = false := hcase.resolve_left (by rw [hen]; decide)
      exact ⟨_, _, _, doCourseSet_disables (s := { s with mbx := mb }) hk hdrain hnone' hen hruns, (rf_reply_ok ..).trans (rf_putCourse ..),
        SameRegs.reply ((SameRegs.of_regs rfl _).trans (sameRegs_putCourse (loseCourse { s with mbx := mb } k) k 0)),
        congrArg Sched.draining (reply_sched ..) |>.trans hdrain, ⟨_, rfl⟩, reply_mem .., reply_xlt ..⟩
  case refine_7 =>
    have hbad := courseParams_inRange hk hm he
    refine completes_defer rfl hbad hrun ha hroom fun mb hmb => ?_
    have hnone' : NoCourseSet { s with mbx := mb } := by rwa [NoCourseSet, hmb]
    rw [hm]
    refine ⟨_, _, _, doCourseSet_drains (s := { s with mbx := mb }) hk hdrain hnone' hoff hruns, fun m' _ =>
      ⟨congrArg Sched.draining (reply_sched ..), fun x c r hc hr hmember hstop => ⟨c.loses k, ?_, ?_⟩, ⟨_, rfl⟩, SameRegs.reply (SameRegs.of_regs rfl _),
        reply_mem .., reply_xlt ..⟩⟩
    · rw [ctxAt_reply]
      exact (ctxAt_loseCourse s k x).trans (by rw [hc]; rfl)
    · simp [Ctx.loses, hr, hmember, hstop]
  case refine_8 =>
    refine ⟨_, courseDrainDone_disables hruns hdrain hd rfl hopen htwin, (rf_reply_ok ..).trans (rf_putCourse ..), ?_, ?_, ?_, ⟨_, rfl⟩, reply_mem ..,
      reply_xlt ..⟩
    · refine SameRegs.reply ((SameRegs.of_regs rfl _).trans (sameRegs_putCourse { s with sched := { s.sched with draining := 0 } } k 0))
    · rw [reply_sched]
      rfl
    · rw [reply_sched]
      rfl

end Sys2Proof.Machine
end

section
/-! PROOFS. Dispatch and preemption (O32). -/

namespace Sys2Proof.Machine
open Sys2Proof

/-! ### Loading a descriptor (R225, R256) -/

/-- A descriptor on its way to its courses: registers, pool memory and time base are as before, and its context as it was but for what has
been loaded of the descriptor. -/
structure Loaded (s t : State) (x : Nat) (c : Ctx) (r : Run) : Prop where
  ctx : ∃ q, ctxAt t x = some { c with run := some q } ∧ SameRun r q
  regs : t.regs = s.regs
  mem : t.mem = s.mem
  tb : t.tb = s.tb

section
variable {s t : State} {x : Nat} {c : Ctx} {r : Run} (h : Loaded s t x c r)
include h

theorem Loaded.updJob (sh : Nat) {f : Job → Job} (hf : KeepsTiles f) : Loaded s (updJob t sh f) x c r := by
  obtain ⟨⟨q, hq, hsame⟩, hregs, hmem, htb⟩ := h
  refine ⟨⟨if q.job.shadow = sh then { q with job := f q.job } else q, ?_, ?_⟩, hregs, hmem, htb⟩
  · rw [ctxAt_updJob, hq]
    rfl
  · split
    · exact hsame.trans ⟨rfl, rfl, (hf q.job).1, (hf q.job).2⟩
    · exact hsame

theorem Loaded.updRun {f : Run → Run} (hf : ∀ q, SameRun q (f q)) : Loaded s (updRun t x f) x c r := by
  obtain ⟨⟨q, hq, hsame⟩, hregs, hmem, htb⟩ := h
  unfold Machine.updRun
  rw [updCtx_eq hq]
  exact ⟨⟨f q, ctxAt_setCtx_self _ _ _, hsame.trans (hf q)⟩, hregs, hmem, htb⟩

theorem Loaded.markHeld (sh : Nat) (v : Bool) : Loaded s (markHeld t sh v) x c r := by
  have hjob := h.updJob sh (f := fun j => { j with held := v }) fun j => ⟨rfl, rfl⟩
  unfold Machine.markHeld
  dsimp only
  split
  · exact hjob
  · exact ⟨hjob.ctx, hjob.regs, hjob.mem, hjob.tb⟩

/-- With no program to read the descriptor goes on. -/
theorem Loaded.program (q : Run) (hnone : (courseOf q.raw).progLen = 0) :
    ∃ u, loadProgram t x q = (true, u) ∧ Loaded s u x c r := by
  unfold loadProgram
  simp only [hnone, if_true]
  split
  · exact ⟨t, rfl, h⟩
  · exact ⟨_, rfl, Loaded.updRun h fun q => ⟨rfl, rfl, rfl, rfl⟩⟩

/-- With no BROADCAST operand to read the descriptor goes on. -/
theorem Loaded.broadcast (q : Run) (hnone : (courseOf q.raw).bcasts = []) :
    ∃ u, loadBroadcast t x q = (true, u) ∧ Loaded s u x c r := by
  unfold loadBroadcast
  simp only [hnone, List.map_nil, ensureReads, List.foldl_nil, Bool.false_eq_true, if_false]
  refine ⟨_, rfl, Loaded.updRun (Loaded.updJob h _ ?_) ?_⟩
  · exact fun j => ⟨rfl, rfl⟩
  · exact fun q => ⟨rfl, rfl, rfl, rfl⟩

end

/-! ### Dispatch (R251, R252, R254, R258) -/

/-- A context with a descriptor on courses is RUNNING. -/
theorem workState_of_members {s : State} {x : Nat} {c : Ctx} {r : Run} (hrun : c.run = some r) (hmembers : r.members ≠ []) :
    workState s x c = cxRUNNING := by
  simp [workState, hrun, hmembers]

section
variable {s u : State} {x : Nat} {c : Ctx} {r : Run}

theorem Startable.loaded (h : Startable s x c r) : Loaded s s x c r := by
  refine ⟨⟨r, ?_, SameRun.refl r⟩, rfl, rfl, rfl⟩
  rw [h.ctx, ← h.run]

/-- A descriptor with nothing to translate or to load is on its courses at once. -/
theorem startOn_starts (h : Startable s x c r) (hst : c.st = cxREADY) {cs : List Nat} (hcs : cs ≠ []) :
    OnCourses s (startOn s x cs) x r cs ∧ (startOn s x cs).regs = s.regs ∧ (startOn s x cs).mem = s.mem
      ∧ (startOn s x cs).tb = s.tb := by
  obtain ⟨s1, hprog, h1⟩ := h.loaded.program r h.program
  obtain ⟨s2, hbcast, h2⟩ := h1.broadcast r h.broadcast
  have h3 : Loaded s { s2 with sched := { s2.sched with turn := s2.sched.turn + 1 } } x c r := ⟨h2.ctx, h2.regs, h2.mem, h2.tb⟩
  have h4 := h3.markHeld r.job.shadow false
  obtain ⟨⟨q, hq, hsame⟩, hregs, hmem, htb⟩ := h4
  unfold startOn
  simp only [h.ctx, Option.bind_some, h.run, h.fresh, if_true, hprog, hbcast]
  rw [updCtx_eq hq]
  generalize markHeld { s2 with sched := { s2.sched with turn := s2.sched.turn + 1 } } r.job.shadow false = v at hq hregs hmem htb ⊢
  have hput := ctxAt_setCtx_self v x { c with
    run := some { q with members := cs, dispatched := now v, job := { q.job with recheck := false } }
    reserved := [], stealAt := none, stealDone := false, served := s2.sched.turn + 1 }
  have hwork := workState_of_members (s := setCtx v x { c with
    run := some { q with members := cs, dispatched := now v, job := { q.job with recheck := false } }
    reserved := [], stealAt := none, stealDone := false, served := s2.sched.turn + 1 }) (x := x) (c := { c with
    run := some { q with members := cs, dispatched := now v, job := { q.job with recheck := false } }
    reserved := [], stealAt := none, stealDone := false, served := s2.sched.turn + 1 }) rfl hcs
  have hsettle := settle_of_ready hput hst (by rw [hwork]; decide)
  rw [hwork] at hsettle
  rw [Option.map_some, hsettle]
  refine ⟨⟨_, _, ctxAt_setCtx_self _ _ _, rfl, rfl, rfl, hsame.raw, rfl, congrArg TimeBase.ns htb, hsame.next⟩, hregs, hmem, htb⟩

theorem ready_of_startable (h : startable s x c r = true) : c.st = cxREADY := by
  simp only [startable, Bool.and_eq_true, beq_iff_eq] at h
  tauto

/-- A dispatch takes one course, or as many as the gang has. -/
theorem pickCourses_ne_nil {cs : List Nat} (h : pickCourses s x c r = some cs) : cs ≠ [] := by
  rintro rfl
  unfold pickCourses at h
  dsimp only at h
  split at h
  · split at h
    · simp at h
    · split at h
      · simp at h
      · cases h
  next hgang =>
    split at h
    next hlen =>
      rw [Option.some.inj h] at hlen
      exact hgang (by rw [← hlen]; decide)
    next => cases h

variable (hu : u = settle (startWait (flushPosts s x) x) x) (h : Startable u x c r) (hready : startable u x c r = true)
  (hsafe : inSafe u = false)
include hu h hready hsafe

theorem courseDispatch_takes {cs : List Nat} (hpick : pickCourses u x c r = some cs) (hchoice : isChoice u x c = true) :
    Completes (.courseDispatch x) s (fun t => OnCourses u t x r cs ∧ cs ≠ [] ∧ SameRegs u t [] ∧ t.mem = u.mem) := by
  have hcs := pickCourses_ne_nil hpick
  obtain ⟨hon, hregs, hmem, -⟩ := startOn_starts h (ready_of_startable hready) hcs
  refine ⟨startOn u x cs, ?_, hon, hcs, SameRegs.of_regs hregs [], hmem⟩
  simp only [exec, execCourseDispatch, ← hu, h.ctx, h.run, hready, hsafe, hpick, hchoice, Bool.not_true, Bool.or_self, Bool.false_eq_true,
    if_false, if_true]

theorem courseDispatch_leaves {cs : List Nat} (hpick : pickCourses u x c r = some cs) (hchoice : isChoice u x c = false) :
    Completes (.courseDispatch x) s (fun t => t = u) := by
  refine ⟨u, ?_, rfl⟩
  simp only [exec, execCourseDispatch, ← hu, h.ctx, h.run, hready, hsafe, hpick, hchoice, Bool.not_true, Bool.or_self, Bool.false_eq_true,
    if_false]

/-- A descriptor whose local courses are busy begins to wait for them (R252). -/
theorem courseDispatch_waits (hpick : pickCourses u x c r = none) (hreserve : newReserve u x c r = []) (hgang : (courseOf r.raw).gang ≤ 1)
    (hsteal : c.stealAt = none) :
    Completes (.courseDispatch x) s (fun t =>
      ctxAt t x = some { c with stealAt := some (now u) } ∧ SameCtxs u t [x] ∧ SameRegs u t [] ∧ t.mem = u.mem) := by
  refine ⟨setCtx u x { c with stealAt := some (now u) }, ?_, ctxAt_setCtx_self _ _ _, sameCtxs_setCtx _ _ _, SameRegs.of_regs rfl [], rfl⟩
  simp only [exec, execCourseDispatch, ← hu, h.ctx, h.run, hready, hsafe, hpick, hreserve, hgang, hsteal, List.isEmpty_nil, Option.isNone_none,
    and_self, Bool.not_true, Bool.or_self, Bool.false_eq_true, if_false, if_true]

end

/-- STEAL_WAIT is over: the context is dispatched with any free course open to it (R252). -/
theorem stealWaitExpire_takes {s u : State} {x t0 : Nat} {c0 c : Ctx} {r : Run} {cs : List Nat} (hc : ctxAt s x = some c0)
    (hsteal : c0.stealAt = some t0)
    (hu : u = settle (startWait (flushPosts (setCtx (reach s (t0 + rf s Reg.XLT_SCHED_CTL 27 20 * 1000)) x { c0 with stealDone := true }) x) x) x)
    (h : Startable u x c r) (hready : startable u x c r = true) (hsafe : inSafe u = false) (hpick : pickCourses u x c r = some cs)
    (hchoice : isChoice u x c = true) :
    Completes (.stealWaitExpire x) s (fun t => OnCourses u t x r cs ∧ SameRegs u t [] ∧ t.mem = u.mem) := by
  obtain ⟨t, hexec, hon, -, hregs, hmem⟩ := courseDispatch_takes hu h hready hsafe hpick hchoice
  refine ⟨t, ?_, hon, hregs, hmem⟩
  rw [← hexec]
  simp only [exec, execStealWaitExpire, hc, hsteal]

theorem Startable.reach {s : State} {x : Nat} {c : Ctx} {r : Run} (h : Startable s x c r) (t0 : Nat) : Startable (reach s t0) x c r := by
  obtain ⟨hctx, hrun, hfresh, hprog, hbcast⟩ := h
  unfold Machine.reach
  split
  · exact ⟨hctx, hrun, hfresh, hprog, hbcast⟩
  · exact ⟨hctx, hrun, hfresh, hprog, hbcast⟩

theorem ctxAt_reach (s : State) (t0 x : Nat) : ctxAt (reach s t0) x = ctxAt s x := ctxAt_congr (congrArg Sched.ctxs (reach_sched s t0)) x

/-- The gang starts with the courses that it holds when GANG_WAIT is over (R258). -/
theorem gangWaitExpire_starts {s : State} {x : Nat} {c : Ctx} {r : Run} (h : Startable s x c r) (hheld : c.reserved ≠ []) (hst : c.st = cxREADY) :
    Completes (.gangWaitExpire x) s (fun t =>
      c.gangAt + rf s Reg.XLT_SCHED_CTL 19 12 * 1000 ≤ now t
      ∧ OnCourses (reach s (c.gangAt + rf s Reg.XLT_SCHED_CTL 19 12 * 1000)) t x r c.reserved ∧ SameRegs s t [] ∧ t.mem = s.mem) := by
  have hheld' : c.reserved.isEmpty = false := by simpa using hheld
  have htime := le_now_reach s (c.gangAt + rf s Reg.XLT_SCHED_CTL 19 12 * 1000)
  obtain ⟨hon, hregs, hmem, htb⟩ := startOn_starts (h.reach (c.gangAt + rf s Reg.XLT_SCHED_CTL 19 12 * 1000)) hst hheld
  refine ⟨startOn (reach s (c.gangAt + rf s Reg.XLT_SCHED_CTL 19 12 * 1000)) x c.reserved, ?_, ?_, hon,
    SameRegs.of_regs (hregs.trans (reach_regs ..)) [], hmem.trans (reach_mem ..)⟩
  · simp only [exec, execGangWaitExpire, h.ctx, hheld', Bool.false_eq_true, if_false]
  · rwa [now, htb]

/-! ### Timers and preemption (R238, R253 to R255) -/

theorem mem_poke (s : State) (a : Nat) (l : List Byte) : (poke s a l).mem = memWrite s.mem a l := rfl

theorem dropNext_frame (s : State) (x : Nat) : (dropNext s x).regs = s.regs ∧ (dropNext s x).mem = s.mem := by
  unfold dropNext
  split
  · exact ⟨rfl, rfl⟩
  next c _ =>
    cases c.next with
    | none => exact ⟨rfl, rfl⟩
    | some r => exact ⟨rfl, rfl⟩

/-- A context that runs a descriptor keeps it when it settles; nothing else changes but its state and virtual time. -/
theorem settle_keeps_run {s : State} {x : Nat} {c : Ctx} {r : Run} (hc : ctxAt s x = some c) (hrun : c.run = some r) :
    (∃ st, ctxAt (settle s x) x = some { c with st := st }) ∧ SameCtxs s (settle s x) [x] ∧ (settle s x).regs = s.regs
      ∧ (settle s x).mem = s.mem ∧ (settle s x).tb = s.tb := by
  rcases Nat.lt_or_ge c.st cxSUSPENDED with hst | hst
  · obtain ⟨vt, hsettle⟩ := settle_of_work hc hst (workState_of_run hrun)
    rw [hsettle]
    exact ⟨⟨_, ctxAt_setCtx_self _ _ _⟩, sameCtxs_setCtx { s with sched := { s.sched with vtime := vt } } x _, rfl, rfl, rfl⟩
  · rw [settle_of_halted hc hst]
    exact ⟨⟨c.st, hc⟩, SameCtxs.of_ctxs rfl _, rfl, rfl, rfl⟩

section
variable {s : State} {x : Nat} {c : Ctx} {r : Run} (hc : ctxAt s x = some c) (hrun : c.run = some r)
include hc hrun

theorem notBeforeReached_settles (hstream : (courseOf r.raw).isStream = true) (hfirst : r.job.nextTile = 0) :
    Completes (.notBeforeReached x) s (fun t =>
      (courseOf r.raw).notBefore ≤ now t ∧ (∃ c', ctxAt t x = some c' ∧ c'.run = some r) ∧ SameCtxs s t [x] ∧ SameRegs s t []
      ∧ t.mem = s.mem) := by
  obtain ⟨⟨st, hctx⟩, hothers, hregs, hmem, htb⟩ := settle_keeps_run ((ctxAt_reach s (courseOf r.raw).notBefore x).trans hc) hrun
  refine ⟨settle (reach s (courseOf r.raw).notBefore) x, ?_, ?_, ⟨_, hctx, hrun⟩, fun y hy => (hothers y hy).trans (ctxAt_reach ..),
    SameRegs.of_regs (hregs.trans (reach_regs ..)) [], hmem.trans (reach_mem ..)⟩
  · simp only [exec, execNotBeforeReached, hc, Option.bind_some, hrun, hstream, hfirst, and_self, if_true]
  · rw [now, htb]
    exact le_now_reach s _

theorem quantumExpire_preempts (hmembers : r.members ≠ []) (hstop : r.stop = 0) :
    Completes (.quantumExpire x) s (fun t =>
      r.dispatched + rf s Reg.XLT_SCHED_CTL 11 0 * 1000 ≤ now t
      ∧ ctxAt t x = some { c with run := some { r with
          stop := if rival (reach s (r.dispatched + rf s Reg.XLT_SCHED_CTL 11 0 * 1000)) x c r then 1 else 0 } }
      ∧ SameCtxs s t [x] ∧ SameRegs s t [] ∧ t.mem = s.mem) := by
  have hheld : r.members.isEmpty = false := by simpa using hmembers
  have htime := le_now_reach s (r.dispatched + rf s Reg.XLT_SCHED_CTL 11 0 * 1000)
  have hregs := reach_regs s (r.dispatched + rf s Reg.XLT_SCHED_CTL 11 0 * 1000)
  have hmem := reach_mem s (r.dispatched + rf s Reg.XLT_SCHED_CTL 11 0 * 1000)
  have hctx := ctxAt_reach s (r.dispatched + rf s Reg.XLT_SCHED_CTL 11 0 * 1000)
  have hexec : exec (.quantumExpire x) s = .next (if rival (reach s (r.dispatched + rf s Reg.XLT_SCHED_CTL 11 0 * 1000)) x c r then
      updRun (reach s (r.dispatched + rf s Reg.XLT_SCHED_CTL 11 0 * 1000)) x (fun r => { r with stop := 1 })
      else reach s (r.dispatched + rf s Reg.XLT_SCHED_CTL 11 0 * 1000)) := by
    simp only [exec, execQuantumExpire, hc, hrun, hheld, hstop, true_and, Bool.false_eq_true, if_false]
    split <;> rfl
  generalize reach s (r.dispatched + rf s Reg.XLT_SCHED_CTL 11 0 * 1000) = u at *
  refine ⟨_, hexec, ?_⟩
  split
  · rw [updRun, updCtx_eq ((hctx x).trans hc), hrun]
    exact ⟨htime, ctxAt_setCtx_self _ _ _, fun y hy => (sameCtxs_setCtx u x _ y hy).trans (hctx y), SameRegs.of_regs hregs [], hmem⟩
  · refine ⟨htime, ?_, fun y _ => hctx y, SameRegs.of_regs hregs [], hmem⟩
    rw [hctx, hc, ← hstop, ← hrun]

/-- A descriptor that is off its courses, to be revalidated before it goes on (R254). -/
def Run.preempted (r : Run) : Run := { r with members := [], stop := 0, bcast := none, job := { r.job with recheck := true } }

/-- A context whose descriptor is taken off its courses: what was accepted behind it is dropped, and the preemption is counted. -/
def takeOff (s : State) (x : Nat) (c : Ctx) : State :=
  updCtx (bump64 (dropNext (chargeUse s c) x) Reg.XLT_PREEMPT_LO 1) x (fun c => { c with run := c.run.map Run.preempted })

theorem takeOff_frees : ctxAt (takeOff s x c) x = some { c with next := none, run := some r.preempted } ∧ SameCtxs s (takeOff s x c) [x]
    ∧ SameRegs s (takeOff s x c) [Reg.XLT_PREEMPT_LO, Reg.XLT_PREEMPT_LO + 4] ∧ (takeOff s x c).mem = s.mem := by
  have hcharged : ctxAt (chargeUse s c) x = some c := hc
  obtain ⟨hnext, hothers⟩ := dropNext_drops hcharged
  obtain ⟨hregs, hmem⟩ := dropNext_frame (chargeUse s c) x
  have hbump := sameRegs_bump64 (dropNext (chargeUse s c) x) Reg.XLT_PREEMPT_LO 1
  have hcu : ctxAt (bump64 (dropNext (chargeUse s c) x) Reg.XLT_PREEMPT_LO 1) x = some { c with next := none } := hnext
  have hothers' : SameCtxs s (bump64 (dropNext (chargeUse s c) x) Reg.XLT_PREEMPT_LO 1) [x] := hothers
  have hregs' : SameRegs s (bump64 (dropNext (chargeUse s c) x) Reg.XLT_PREEMPT_LO 1) _ := (SameRegs.of_regs hregs _).trans hbump
  have hmem' : (bump64 (dropNext (chargeUse s c) x) Reg.XLT_PREEMPT_LO 1).mem = s.mem := hmem
  unfold takeOff
  generalize bump64 (dropNext (chargeUse s c) x) Reg.XLT_PREEMPT_LO 1 = u at *
  rw [updCtx_eq hcu, hrun]
  exact ⟨ctxAt_setCtx_self _ _ _, hothers'.trans (sameCtxs_setCtx u x _), hregs', hmem'⟩

/-- A preempted descriptor is saved, and its courses are free (R254, R255). -/
theorem preemptSaveDone_saves (hstop : r.stop = 1) (hflight : r.job.flight = []) (hfail : r.job.fail = none) (hmembers : r.members ≠ [])
    (hmore : r.job.nextTile < (courseOf r.raw).tiles) (hsafe : inSafe s = false) :
    Completes (.preemptSaveDone x) s (fun t =>
      (∃ c' r', ctxAt t x = some c' ∧ c'.next = none ∧ c'.run = some r' ∧ r'.members = [] ∧ r'.stop = 0 ∧ r'.raw = r.raw
        ∧ r'.job.nextTile = r.job.nextTile ∧ r'.job.recheck = true)
      ∧ t.mem = memWrite s.mem (resPpa (x % 6) 0 (x / 6 * 262144)) (saveBytes s x c r)
      ∧ SameCtxs s t [x] ∧ SameRegs s t [Reg.XLT_PREEMPT_LO, Reg.XLT_PREEMPT_LO + 4]) := by
  have hheld : r.members.isEmpty = false := by simpa using hmembers
  have hnot : ¬ ((r.stop ≠ 1 ∧ r.stop ≠ 2) ∨ r.job.flight ≠ [] ∨ r.job.fail.isSome = true ∨ r.members.isEmpty = true
      ∨ (courseOf r.raw).tiles ≤ r.job.nextTile ∨ inSafe s = true) := by
    simp [hstop, hflight, hfail, hheld, hmore, hsafe]
  have hgoes : ¬ r.stop = 2 := by rw [hstop]; decide
  have hexec : exec (.preemptSaveDone x) s
      = .next (settle (takeOff (poke s (resPpa (x % 6) 0 (x / 6 * 262144)) (saveBytes s x c r)) x c) x) := by
    simp only [exec, execPreemptSaveDone, hc, hrun, if_neg hnot, if_neg hgoes]
    rfl
  have hpoke : (poke s (resPpa (x % 6) 0 (x / 6 * 262144)) (saveBytes s x c r)).mem
      = memWrite s.mem (resPpa (x % 6) 0 (x / 6 * 262144)) (saveBytes s x c r) := mem_poke _ _ _
  have hsched := poke_sched s (resPpa (x % 6) 0 (x / 6 * 262144)) (saveBytes s x c r)
  have hregs0 := poke_regs s (resPpa (x % 6) 0 (x / 6 * 262144)) (saveBytes s x c r)
  generalize poke s (resPpa (x % 6) 0 (x / 6 * 262144)) (saveBytes s x c r) = u at hexec hpoke hsched hregs0
  have hctxs := congrArg Sched.ctxs hsched
  obtain ⟨hoff, hothers, hregs, hmem⟩ := takeOff_frees ((ctxAt_congr hctxs x).trans hc) hrun
  obtain ⟨⟨st, hst⟩, hothers', hregs', hmem', -⟩ := settle_keeps_run hoff rfl
  exact ⟨_, hexec, ⟨_, r.preempted, hst, rfl, rfl, rfl, rfl, rfl, rfl, rfl⟩, (hmem'.trans hmem).trans hpoke,
    ((SameCtxs.of_ctxs hctxs _).trans hothers).trans hothers',
    ((SameRegs.of_regs hregs0 _).trans hregs).trans (SameRegs.of_regs hregs' _)⟩

end

/-- Settles O32: what is dispatched or preempted is one context's descriptor, and time only is reached before it. -/
theorem theSchedulerDispatchesAndPreempts : Obligations.TheSchedulerDispatchesAndPreempts := by
  unfold Obligations.TheSchedulerDispatchesAndPreempts
  exact ⟨fun s u x c r hu h hready hsafe => ⟨fun cs hpick hchoice => courseDispatch_takes hu h hready hsafe hpick hchoice,
      fun cs hpick hchoice => courseDispatch_leaves hu h hready hsafe hpick hchoice,
      fun hpick hreserve hgang hsteal => courseDispatch_waits hu h hready hsafe hpick hreserve hgang hsteal⟩,
    fun s u x t0 c0 c r cs hc hsteal hu h hready hsafe hpick hchoice => stealWaitExpire_takes hc hsteal hu h hready hsafe hpick hchoice,
    fun s x c r h hheld hst => gangWaitExpire_starts h hheld hst,
    fun s x c r hc hrun hstream hfirst => notBeforeReached_settles hc hrun hstream hfirst,
    fun s x c r hc hrun hmembers hstop => quantumExpire_preempts hc hrun hmembers hstop,
    fun s x c r hc hrun hstop hflight hfail hmembers hmore hsafe _ _ =>
      preemptSaveDone_saves hc hrun hstop hflight hfail hmembers hmore hsafe⟩

end Sys2Proof.Machine
end
